-- ==== Sys2Proof/Word.lean ====
section
/-! DEFINITION. The byte and the byte string, the only machine words this block moves as raw bits:
frames, blocks of objects, containers. Quantities are exact rationals, counts are natural numbers. -/

namespace Sys2Proof

/-- One byte of a frame, a block or a stored object. -/
abbrev Byte := BitVec 8

/-- A byte string, first byte first (every multi-byte field of this part is little-endian, R86, R391). -/
abbrev Bytes := List Byte

end Sys2Proof
end

