-- ==== Sys2Proof/Config.lean ====
section
/-! DEFINITION. What the spec leaves open (free values, constants without a body, so that no proof can use what
they are) and the family parameters of the K16 (Table 0.1, R3). Log entry 2 names every free value. -/

namespace Sys2Proof.Config

/-- A value the spec does not state, one for each reading of the counter `freeCount` of State. -/
opaque freeRat : Nat → Rat

/-- A natural number the spec does not state, one for each reading of the counter. -/
opaque freeNat : Nat → Nat

/-- Whether an SLH-DSA signature verifies (FIPS 205): public key, context string, message, signature. -/
opaque slhVerify : List (BitVec 8) → List (BitVec 8) → List (BitVec 8) → List (BitVec 8) → Bool

/-- The SLH-DSA-SHA2-128f signature the module's identity key makes (R522, R524): context string, message. -/
opaque slhSign : List (BitVec 8) → List (BitVec 8) → List (BitVec 8)

/-- What a forecaster model computes: its container and the four input channels of Table 7.3 as BFP8 (exponent,
mantissas) give its 200 outputs as BFP16 and whether a stage sets a saturation flag. The program is the container's; how
the channels reach its stages is not stated (R211, R212). -/
opaque modelOutput : List (BitVec 8) → List (Int × List Int) → (Int × List Int) × Bool

/-- SHA-256 of the boot ROM (Table 20.3). -/
opaque romMeasurement : List (BitVec 8)

/-- The user-layout id of a manifest layout, entries (id, instance); the spec does not say how it is formed (R472). -/
opaque layoutId : List (Nat × Nat) → Nat

/-- The layout a user-layout id stands for: how the partner learns it is not stated (R472). -/
opaque layoutOf : Nat → List (Nat × Nat)

/-- What the header of firmware slot n holds: object [6100+n] subindex 06, 07 or 0B; the shipped containers are not in
the spec. -/
opaque fwHeader : Nat → Nat → Nat

/-- Bytes the capture ring's write path takes in a microsecond (R382). -/
opaque capPace : Nat

/-- Number of trays of the K16 (Table 0.1). -/
def trays : Nat := 16

/-- Phases of a full tray (Table 0.1). -/
def phases : Nat := 8

/-- Cells of a full tray (Table 0.1). -/
def cells : Nat := 192

/-- Cell monitors of a full tray (Table 0.1). -/
def monitors : Nat := 16

/-- Accelerators governed (Table 0.1). -/
def chips : Nat := 4096

/-- Grid cores (Table 0.1). -/
def cores : Nat := 64

/-- Rectifier modules (Table 0.2). -/
def rectifiers : Nat := 48

/-- Partitions (chapter 08). -/
def partitions : Nat := 64

/-- Trasia sessions (Table 14.3). -/
def sessions : Nat := 32

/-- Program slots (R345). -/
def slots : Nat := 64

/-- Calibration entries (R502). -/
def calEntries : Nat := 1088

end Sys2Proof.Config
end

