-- ==== Sys2Proof/Syntax.lean ====
section
/-! DEFINITION. The commands of the block: one constructor per row of spec/opcode_table.json, in the table's order.
The operands are what the row's rule names: a tray `t`, a phase `p`, the session `ses` that wrote a command,
the bytes of a frame as they arrive, a measured value, the instant's own argument. Log entry 8 says how
they were chosen. -/

namespace Sys2Proof

/-- Who sends a gate operation (Table 11.3): a keeper core of the lock-keeper (64 to 67), the governor's own
program on a grid core, a grid core for a program slot, the basin drain, or a Trasia session ([6800.05]). -/
inductive Party where
  | keeper (core : Nat)
  | governor (core : Nat)
  | grid (core : Nat) (slot : Nat)
  | drain
  | session (s : Nat)
deriving DecidableEq, Repr

/-- The clock islands of Table 13.1, in its order. -/
inductive Island where
  | edge | grid | keeper | net | mem | tow | aon
deriving DecidableEq, Repr

/-- The PTP messages the port sends at its own intervals (Table 14.2). -/
inductive PtpMessage where
  | sync | announce | delayReq
deriving DecidableEq, Repr

/-- What a slave port's exchange measured besides its offset (R390): whether its Sync and Delay_Resp carry hardware
timestamps, its domain, and the mean path delay in ns. -/
structure PtpExchange where
  stamped : Bool
  domain : Nat
  pathDelay : Nat
deriving DecidableEq, Repr

/-- What the boot ROM senses: the pin that holds the network loader (R519), and PAIR_SLOT high or open (R544). -/
structure BootPins where
  breakHeld : Bool
  slotHigh : Bool
deriving DecidableEq, Repr

/-- The commands. -/
inductive Instr where
  /-- R17: On each whole microsecond of shelf time the module runs one control period from the bus-voltage sample to the edge commands at the tray stages. -/
  | controlPeriod
  /-- R24: A tray reading that differs from V_bus beyond the threshold for 16 counted periods is excluded and warning 0103h raised. -/
  | trayReadingExcluded (t : Nat)
  /-- R24: An excluded reading within the threshold for 1,000 counted periods is readmitted and its bit cleared. -/
  | trayReadingReadmitted (t : Nat)
  /-- R25: Five periods in HOLD without a valid reading raise critical fault 0104h and put the loop in TRIPPED. -/
  | loopHoldTimeout
  /-- R44: The clamp active for more than 100 consecutive periods raises notice 0105h. -/
  | clampPersistent
  /-- R44: In RUN, V_bus outside the window half-width for longer than the window time raises warning 0101h. -/
  | windowTimeout
  /-- R44: In RUN, V_bus outside the far-window half-width for longer than the far-window time raises fault 0102h. -/
  | farWindowTimeout
  /-- R32: When V_ref reaches V_set in SOFT the loop enters RUN and window supervision begins. -/
  | softStartComplete
  /-- R29: When the stop ramp brings I_st to zero the loop enters OFF. -/
  | stoppingComplete
  /-- R34: Command 1 of [2000.02] takes the loop from OFF to CHARGE or SOFT according to V_bus and trays carrying current. -/
  | loopStart (ses : Nat)
  /-- R35: Command 2 of [2000.02] starts the loop from storage through the black-start tray, or as command 1 when the pound is charged. -/
  | loopBlackStart (ses : Nat)
  /-- R33: Command 3 of [2000.02] puts the loop in STOPPING and zeroes the rectifier command at the next refresh. -/
  | loopStop (ses : Nat)
  /-- R29: Command 4 of [2000.02] takes the loop from TRIPPED to OFF. -/
  | loopReset (ses : Nat)
  /-- R54: At each half-period instant the phase law updates the tray integrator, balance trims, detectors and phase state decisions. -/
  | halfPeriodUpdate (t : Nat) (p : Nat)
  /-- R63: A phase whose reference stays below the DE entry level for 2 consecutive half periods enters diode emulation. -/
  | deEntry (t : Nat) (p : Nat)
  /-- R55: A balance trim held at its limit for more than 1 ms raises warning 0202h. -/
  | balanceTrimAtLimit (t : Nat) (p : Nat)
  /-- R76: Eight consecutive evaluations of a non-conducting driven phase declare it open, start HANDOFF and raise 0203h. -/
  | phaseOpenDetected (t : Nat) (p : Nat)
  /-- R77: Eight consecutive observer disagreements declare the phase sense-failed, start HANDOFF and raise 0204h. -/
  | phaseSenseFailed (t : Nat) (p : Nat)
  /-- R78: A tray-sum disagreement with the DC-link sensor for 4 periods starts sensor identification with one phase less capacity. -/
  | traySumMismatch (t : Nat)
  /-- R78: After every phase has been tested, identification ends, raising 0205h and suspending the test when no phase was found and none passed over. -/
  | identificationComplete (t : Nat)
  /-- R79: When a handoff weight ramp reaches zero the phase ends in FAULT, or in OFF when commanded out of service. -/
  | phaseHandoffComplete (t : Nat) (p : Nat)
  /-- R80: Command 0 of [2100+t.11+8p] passes the phase through HANDOFF on its measured current to OFF without a fault. -/
  | phaseOutOfService (ses : Nat) (t : Nat) (p : Nat)
  /-- R82: Command 1 of [2100+t.11+8p] requests the pre-start check of the phase. -/
  | phaseIntoService (ses : Nat) (t : Nat) (p : Nat)
  /-- R72: When the shed conditions have held for the dwell, the tray draws its next phase into DRAWING. -/
  | phaseDrawStart (t : Nat)
  /-- R73: After the 4-period drawing ramp the phase enters DE with weight zero. -/
  | phaseDrawingComplete (t : Nat) (p : Nat)
  /-- R74: After the 4-period restoring ramp the phase is in RUN with weight 1. -/
  | phaseRestoreComplete (t : Nat) (p : Nat)
  /-- R75: The 10 ms drawing lockout expires and drawing may resume. -/
  | drawingLockoutExpiry
  /-- R67: An EVENT frame reporting a phase overcurrent puts the phase in FAULT, raises trip 020Ah and snubs the tray on a second trip within 1 ms. -/
  | phaseOvercurrent (t : Nat) (frame : Bytes)
  /-- R45: An EVENT frame reporting bus overvoltage snubs all 128 phases and takes the loop to TRIPPED with trip 0107h. -/
  | busOvervoltage (t : Nat) (frame : Bytes)
  /-- R88: An upstream SAMPLE frame delivers phase currents, switch-node voltages and I_dc, or marks readings invalid when discarded. -/
  | sampleFrame (t : Nat) (frame : Bytes)
  /-- R88: An upstream STATUS frame delivers link and bus voltages, fallback state, probe sample, temperatures and echo turnaround. -/
  | statusFrame (t : Nat) (frame : Bytes)
  /-- R51: A CONFIG_REPLY frame reports whether a stage configuration register was accepted. -/
  | stageConfigReply (t : Nat) (frame : Bytes)
  /-- R87: Every 1 µs the module sends each tray stage a TIME frame with shelf time and the measured one-way delay. -/
  | timeFrameSend (t : Nat)
  /-- R87: At link-up and every 1 ms the module measures each link's one-way delay from a TIME echo. -/
  | linkDelayMeasure (t : Nat) (roundTrip : Nat)
  /-- R88: A link that loses one lane runs on the other, raises 0208h and asserts event source 161 + 2t. -/
  | linkLaneLost (t : Nat)
  /-- R89: Four consecutive missing SAMPLE frames declare the link lost, put the tray's phases in LINKLOST and raise 0209h. -/
  | paddleLinkLost (t : Nat)
  /-- R89: After 5 ms of a lost link the held current falls linearly to zero over 2 ms. -/
  | heldCurrentExpiry (t : Nat)
  /-- R91: A returning link in fallback has its phase integrators preset and SYNC commands sent, returning the phases to RUN. -/
  | paddleLinkRestored (t : Nat) (fallback : Bool)
  /-- R18: A period-n command reaching the edge engine after the period n + 1 command is discarded and counted. -/
  | lateCommandDiscard (t : Nat) (p : Nat) (period : Nat)
  /-- R19: Edge commands leaving later than 900 ns after t0 raise notice 020Bh, and warning 020Ch after more than 10 in 1 s. -/
  | latePeriod (delay : Nat)
  /-- R82: A request of the tray manager or a phase command starts the pre-start check, or defers it with notice 020Dh. -/
  | prestartCheckStart (t : Nat)
  /-- R83: Every 10 µs the next phase is read with gates off and, unless failed at once, sent a PROBE command. -/
  | prestartPhaseProbe (t : Nat)
  /-- R83: An inconclusive probe is retried 100 µs later and fails the phase at the third inconclusive result. -/
  | probeRetry (t : Nat)
  /-- R98: Command 1 of [3000+t.02] in IDLE starts the tray's pre-start check on the way to precharge. -/
  | trayInsert (ses : Nat) (t : Nat)
  /-- R111: Command 2 of [3000+t.02] drains or opens the tray and opens a tray-drain transaction. -/
  | trayDrain (ses : Nat) (t : Nat)
  /-- R114: Command 3 of [3000+t.02] begins slack water on a named ONLINE tray under the admission conditions. -/
  | traySlackBegin (ses : Nat) (t : Nat)
  /-- R116: Command 4 of [3000+t.02] ends slack water urgently with the short return ramp and notice 0307h. -/
  | traySlackEnd (ses : Nat) (t : Nat)
  /-- R97: Command 5 of [3000+t.02] returns a FAULT tray to IDLE when its cause no longer holds. -/
  | trayReset (ses : Nat) (t : Nat)
  /-- R96: A tray whose link is up and early-break pin made for 100 ms leaves ABSENT for IDLE and starts its weir tests. -/
  | traySeated (t : Nat)
  /-- R101: Each 1 ms the link voltage is checked against the expected precharge curve, failing tracking with 0301h. -/
  | prechargeTrackCheck (t : Nat)
  /-- R102: When the closure criterion has held for 1 ms the module drives K_P closed and the tray enters CLOSING. -/
  | prechargeClosure (t : Nat)
  /-- R103: After the contactor close or open time the module runs the 1 ms contactor test on phase 0. -/
  | contactorTestStart (t : Nat)
  /-- R103: At the end of the 1 ms test the contactor is judged confirmed or not, K_PRE opened and the tray admitted, or 0302h raised. -/
  | containedTestPass (t : Nat)
  /-- R105: When the admission factor reaches 1 the tray enters ONLINE. -/
  | trayAdmitComplete (t : Nat)
  /-- R111: When a drain's ramped limits reach zero the tray leaves the allocation set. -/
  | drainLimitsZero (t : Nat)
  /-- R112: A drained tray whose current has not reached 2.0 A in 100 ms has its contactors opened and fault 0303h raised. -/
  | drainOpenTimeout (t : Nat)
  /-- R567: A tray in OPENING without a test enters FAULT when the contactor open time has elapsed. -/
  | openingTimeout (t : Nat)
  /-- R114: With slack water enabled and its conditions met, the tray manager begins slack water on the candidate tray. -/
  | slackAutoBegin
  /-- R116: After the slack duration at zero limits the tray returns through ADMIT over the admission time. -/
  | slackRestEnd
  /-- R116: Demand above 90% of the limit without the resting tray for 1 ms ends slack water urgently. -/
  | slackUrgentDemand
  /-- R117: An early-break pin breaking with any drive high snubs the tray, removes it from the set, puts it in PULLED and raises 0305h. -/
  | earlyBreakBroken (t : Nat)
  /-- R120: A pin made again keeps the tray's state and after 100 ms re-enables an IDLE tray. -/
  | earlyBreakMade (t : Nat)
  /-- R121: A seated tray whose link stays lost for 1 s has its contactors opened, enters FAULT and raises 030Ah. -/
  | seatedLinkLossTimeout (t : Nat)
  /-- R134: On each whole millisecond every ring sends its SWEEP to start the ring cycle. -/
  | towpathCycle (southMissed : Nat)
  /-- R131: A SWEEP, PLAUS or DATA reply frame from a monitor delivers its values, or counts as missing on a CRC failure. -/
  | towpathReply (t : Nat) (frame : Bytes)
  /-- R134: At t0 + 450 µs the main values are published and PLAUS leaves the ring. -/
  | towpathPlausSend (t : Nat)
  /-- R146: After the plausibility replies each cell and each monitor total is compared with the main path. -/
  | plausComparison (t : Nat)
  /-- R134: The command window sends queued BALANCE, OPEN_TEST, CONFIG, ENUM and WEIR_TEST commands that fit inside it. -/
  | commandWindow (t : Nat)
  /-- R136: Replies stopping after a hop lead, 40 µs after the expected end, to a SWEEP from the south port. -/
  | southRecoverySweep (t : Nat)
  /-- R137: After the south sweep the break is located or the unreached monitors are marked unreachable. -/
  | breakClassify (t : Nat)
  /-- R139: Three consecutive successful probes declare the ring whole, raising 040Ah. -/
  | ringWhole (t : Nat)
  /-- R148: A cell or monitor disagreeing in 5 consecutive cycles becomes suspect and an open-wire test is queued first. -/
  | senseSuspicion (t : Nat) (m : Nat)
  /-- R149: Every 10 s in the tray's cycle the module issues OPEN_TEST to every monitor of the tray. -/
  | openWireScheduled (t : Nat)
  /-- R151: The sweep of cycle N + 2 is compared with cycle N to find open lines. -/
  | openWireEvaluate (t : Nat)
  /-- R155: A cell without a valid main reading for 10 cycles becomes unreadable, raising 0403h and draining a tray in the set. -/
  | cellUnreadable (t : Nat) (c : Nat)
  /-- R143: A weir line asserted for longer than 100 ns raises trip 0401h, snubs the tray and opens or blocks its contactors. -/
  | weirAsserted (t : Nat)
  /-- R149: Command 1 of [3100+t.23] queues an open-wire test now. -/
  | openWireTestNow (ses : Nat) (t : Nat)
  /-- R128: Command 2 of [3100+t.23] sends ENUM in place of the next cycle's SWEEP and PLAUS. -/
  | towReenumerate (ses : Nat) (t : Nat)
  /-- R156: Command 3 of [3100+t.23] clears the stored cell marks of a tray in IDLE, FAULT or ABSENT. -/
  | clearMarks (ses : Nat) (t : Nat)
  /-- R145: Command 4 of [3100+t.23], or entry to IDLE from ABSENT, sends WEIR_TEST to each monitor in turn. -/
  | weirTestCmd (ses : Nat) (t : Nat)
  /-- R145: A weir line not asserting within 30 µs of a test raises 040Dh and blocks insertion. -/
  | weirTestTimeout (t : Nat)
  /-- R158: Every 500 ms the module resends BALANCE to each bleeding monitor, or a zero mask when bleeding ends. -/
  | balanceResend (t : Nat)
  /-- R165: At 1 kHz or 20 Hz the estimator updates counting and voltage estimates, resets, limits and cycle counts of a tray. -/
  | estimatorUpdate (t : Nat)
  /-- R176: A tray in the set without a rest point for 6 h raises notice 0501h once. -/
  | noRestNotice (t : Nat)
  /-- R185: A load step that meets its before and after bands qualifies for an impedance fit. -/
  | stepQualified (t : Nat) (ta : Nat) (tb : Nat)
  /-- R186: The fit of a qualified step completes and per-cell measurements are merged into the impedance table or rejected. -/
  | impedanceFit (t : Nat)
  /-- R189: Every 1 h the impedance table is saved to flash, raising 0506h on failure. -/
  | impedanceTableSave (ok : Bool)
  /-- R189: Every 60 s each tray's estimator state is saved to flash. -/
  | estimatorStateSave (ok : Bool)
  /-- R189: Command 1 of [3200+t.28] saves the tray's estimator state now. -/
  | stateSaveNow (ses : Nat) (t : Nat) (ok : Bool)
  /-- R192: Command 1 of [3300+t.0B] resets the tray's impedance entries to the seeds. -/
  | impedanceResetSeeds (ses : Nat) (t : Nat)
  /-- R189: Command 2 of [3300+t.0B] saves the impedance table now. -/
  | impedanceSaveNow (ses : Nat) (t : Nat) (ok : Bool)
  /-- R190: A write of [3300+t.04] replaces impedance entries whole under an impedance-write transaction. -/
  | impedanceBlockWrite (ses : Nat) (seq : Nat) (t : Nat) (offset : Nat) (data : Bytes)
  /-- R198: Every 10 µs the forecaster evaluates its model and publishes the slope horizon. -/
  | forecastEvaluation (stages shadow time : Nat)
  /-- R214: An evaluation late or saturated is discarded and a carried slope delivered, entering FAULT after 100 in a row. -/
  | evaluationDeadlineMiss (complete : Bool)
  /-- R215: Every 1 ms the error ratio and gate are recomputed, raising 0603h when the gate closes. -/
  | gateUpdate
  /-- R204: A SCHEDULE frame's entries are checked, converted, merged, cancelled or rejected. -/
  | schedule (frame : Bytes)
  /-- R217: When a group's window closes it is classified met, early or missed and the source bias updated. -/
  | groupWindowClose (g : Nat)
  /-- R219: At the end of the suspension time the source's history starts empty and it is accepted again. -/
  | sourceSuspensionEnd (src : Nat)
  /-- R210: Holdover beyond the hint limit rejects session entries and raises notice 0607h. -/
  | hintHoldoverLimit
  /-- R220: Command 1 of [4000.02] with an active model takes the forecaster to WARMING. -/
  | forecasterStart (ses : Nat)
  /-- R220: Command 2 of [4000.02] takes the forecaster to OFF. -/
  | forecasterStop (ses : Nat)
  /-- R222: Command 3 of [4000.02] swaps active and staged models at the first cut with no window open. -/
  | modelSwitch (ses : Nat)
  /-- R222: A window still open 100 ms after command 3 forces the switch at the next cut. -/
  | modelSwitchForced
  /-- R225: Command 4 of [4000.02] clears the forecaster counters. -/
  | forecasterClearCounters (ses : Nat)
  /-- R220: With 20 ms of input and a gate window of predictions gathered the forecaster enters RUN. -/
  | warmingComplete
  /-- R212: A write of [4000.04] binds a model slot only when its tide descriptor passes, otherwise raising 0606h. -/
  | stagedSlotWrite (ses : Nat) (slot : Nat)
  /-- R226: At each 1 ms cut the governor computes the rack cap, budget, points, shifting and caps and issues the grants. -/
  | epochCut
  /-- R231: An accepted REPORT is copied into the chip's slot and, for a flight, counted at the flight gate by the drain. -/
  | report (frame : Bytes)
  /-- R237: A chip without an accepted report for the silence limit enters SILENT and raises 0706h. -/
  | chipSilent (chip : Nat)
  /-- R252: A flight closing at its target updates averaged slack and the gate is re-armed for flight n + 2. -/
  | flightClose (k : Nat)
  /-- R252: A flight not closed within the flight timeout of its first arrival closes by time with notice 0704h. -/
  | flightTimeout (k : Nat)
  /-- R234: A write of [5800.04] writes operating-point entries and validates complete chip tables at close. -/
  | opTableWrite (ses : Nat) (seq : Nat) (offset : Nat) (data : Bytes)
  /-- R260: Command 1 of [5000.02] starts the governor. -/
  | governorStart (ses : Nat)
  /-- R260: Command 2 of [5000.02] stops the governor and puts every chip on floor grants. -/
  | governorStop (ses : Nat)
  /-- R248: Command 3 of [5000.02] applies pending partition values at the next cut, or is refused on overlap. -/
  | commitBorders (ses : Nat)
  /-- R260: Command 4 of [5000.02] clears the governor counters. -/
  | governorClearCounters (ses : Nat)
  /-- R250: A write of [5100+k.17] makes the governor route the partition's flight gates to the named sources. -/
  | flightSourcesWrite (ses : Nat) (k : Nat) (v : Nat)
  /-- R265: On each whole millisecond the feed interface forms P_ref and sends the rectifier COMMAND frames. -/
  | feedRefresh
  /-- R272: An ALERT frame updates a rectifier's input state and may move its group to DIP or RETURNING. -/
  | rectAlert (port : Nat) (node : Nat) (data : Bytes)
  /-- R264: A rectifier STATUS frame updates its readings and, when first, starts the mode-register read. -/
  | rectStatus (port : Nat) (node : Nat) (data : Bytes)
  /-- R264: A CONFIG_REPLY of register 0001h enables a rectifier or refuses it with 0806h. -/
  | rectConfigReply (port : Nat) (node : Nat) (data : Bytes)
  /-- R264: A rectifier without STATUS for 12 ms leaves capacity and raises 0805h. -/
  | rectSilent (r : Nat)
  /-- R272: A group still in DIP at the end of the dip hold enters ABSENT with 0802h. -/
  | dipHoldExpiry (g : Nat)
  /-- R274: Input back for the return delay takes an ABSENT group to RETURNING with a rising ceiling. -/
  | returnDelayExpiry (g : Nat)
  /-- R273: When the ceiling reaches available power the group is PRESENT with notice 0804h. -/
  | returnComplete (g : Nat)
  /-- R275: A CAN port going bus-off or error-passive raises 080Bh and removes its group from capacity. -/
  | canPortError (port : Nat)
  /-- R280: Command 1 of [3400.01] clears the feed counters. -/
  | feedClearCounters (ses : Nat)
  /-- R264: Command 2 of [3400.01] rereads every rectifier's mode register. -/
  | rereadRectModes (ses : Nat)
  /-- R276: Every 1 ms each auxiliary feed is measured, raising 0809h after 10 ms outside 40–60 V. -/
  | auxFeedMeasure (a : Nat) (b : Nat)
  /-- R284: Endpoint 64 sends TICK barges to root stages on their declared period boundaries. -/
  | periodTick
  /-- R297: A stage whose inputs for period p are all present and whose core is free fires that period. -/
  | stageFire (slot : Nat) (stage : Nat)
  /-- R286: A DATA or RAW barge is CRC-checked, acknowledged or NAKed, and delivered in sequence order. -/
  | bargeData (barge : Bytes)
  /-- R303: A VOID barge voids the receiving stage's period, which passes the void on. -/
  | bargeVoid (barge : Bytes)
  /-- R287: An ACK frees the acknowledged barge from the send buffer. -/
  | bargeAck (barge : Bytes)
  /-- R287: A NAK makes the source resend the barge with the same sequence. -/
  | bargeNak (barge : Bytes)
  /-- R285: A MEM_READ barge to a memory endpoint is answered in RAW barges. -/
  | memRead (barge : Bytes)
  /-- R285: A MEM_WRITE barge writes bytes at a memory endpoint. -/
  | memWrite (barge : Bytes)
  /-- R287: No ACK 256 cycles after a send resends the barge, raising 0904h after 8 sends. -/
  | bargeAckTimeout (src : Nat) (dst : Nat) (seq : Nat)
  /-- R308: A RAW barge from endpoint 65 to a call channel is answered and the named gate signalled. -/
  | keeperCall (slot : Nat) (channel : Nat) (gate : Nat) (payload : Bytes)
  /-- R304: An uncorrectable SRAM word voids the period, reloads the slot or restarts it according to its region. -/
  | sramUncorrectable (core : Nat) (addr : Nat)
  /-- R304: Each core scrubs every SRAM word at least once in each 100 ms. -/
  | sramScrub (core : Nat) (corrected : Nat)
  /-- R305: An uncorrectable LPDDR4X read voids the reading period, raises 0903h and has the block rewritten from its source. -/
  | memUncorrectable (channel : Nat) (addr : Nat) (slot : Nat) (stage : Nat)
  /-- R305: The patrol scrubber visits every LPDDR4X block once in each hour. -/
  | memPatrolScrub (channel : Nat) (corrected : Nat)
  /-- R306: A restarted firmware slot resumes with the state of Table 10.8 and raises 0906h. -/
  | slotRestartComplete (slot : Nat)
  /-- R307: A stage exceeding twice its cycles or a failed self-test marks the core failed with 0907h and voids its slots. -/
  | coreFailed (core : Nat)
  /-- R312: Command 1 of [6000.14] clears the grid counters. -/
  | gridClearCounters (ses : Nat)
  /-- R312: Command 2 of [6000.14] self-tests the idle cores of the user region. -/
  | gridSelfTest (ses : Nat) (failed : Nat)
  /-- R318: SIGNAL advances a gate according to its mode and releases waiters whose condition holds. -/
  | gateSignal (who : Party) (g : Nat) (n : Nat)
  /-- R321: WAIT occupies a wait register and is released at once or when the gate's condition holds. -/
  | gateWait (who : Party) (g : Nat) (v : Nat) (slot : Nat) (channel : Nat) (tag : Nat)
  /-- R317: ARM sets count and target, increments the generation and arms a barrier. -/
  | gateArm (who : Party) (g : Nat) (target : Nat)
  /-- R320: ADJUST changes the target and releases an armed barrier that it brings to or below the count. -/
  | gateAdjust (who : Party) (g : Nat) (delta : Int)
  /-- R318: CLEAR resets the gate's count, and a barrier's state to IDLE. -/
  | gateClear (who : Party) (g : Nat)
  /-- R316: CANCEL cancels the sender's waits on the gate. -/
  | gateCancel (who : Party) (g : Nat)
  /-- R330: ROUTE binds the gate to an event source, refused when another gate already drives it. -/
  | gateRoute (who : Party) (g : Nat) (src : Nat)
  /-- R328: A write of [6800.06] allocates a gate block to the session, or fails with 0A03h. -/
  | gateAllocate (ses : Nat) (v : Nat)
  /-- R329: A write of [6800.08] frees the owner's block, releasing waiters and clearing routes. -/
  | gateFree (ses : Nat) (base : Nat)
  /-- R342: An uncorrectable gate SRAM word frees the gate and raises 0A04h, or 0A06h for a firmware gate. -/
  | gateStateUncorrectable (g : Nat)
  /-- R344: Command 1 of [6800.0F] clears the gate counters. -/
  | gatesClearCounters (ses : Nat)
  /-- R333: A sensed change at an event source is stamped and delivered, coalesced or discarded. -/
  | sourceChange (src : Nat)
  /-- R336: Reading TAKE moves the lowest pending normal source to in service and returns it. -/
  | eventTake (core : Nat)
  /-- R333: Writing ACK ends a source's service and redelivers a level source still active. -/
  | eventAck (core : Nat) (src : Nat)
  /-- R340: MASK_SET masks a source, admitting at most one delivery within the 24 ns window. -/
  | maskSet (core : Nat) (src : Nat)
  /-- R334: MASK_CLEAR unmasks a source and delivers an active level source at once. -/
  | maskClear (core : Nat) (src : Nat)
  /-- R337: POP removes the fast queue head, ending its service and admitting a held delivery. -/
  | fastPop (core : Nat)
  /-- R332: A write of [6900.03] sets source configuration words, ignoring firmware-owned bits. -/
  | sourceConfigWrite (ses : Nat) (offset : Nat) (data : Bytes)
  /-- R344: Command 1 of [6900.0B] clears the event controller counters. -/
  | eventsClearCounters (ses : Nat)
  /-- R352: A write of [6100+n.05] stores a container block, unbinding a bound slot and opening a program-load transaction. -/
  | slotBlockWrite (ses : Nat) (seq : Nat) (n : Nat) (offset : Nat) (data : Bytes)
  /-- R351: Command 1 of [6100+n.02] checks the container, refusing it with 0909h. -/
  | slotCheck (ses : Nat) (n : Nat)
  /-- R353: Command 2 of [6100+n.02] places the slot, allocates its gates and binds its channels, or refuses with 090Bh. -/
  | slotBind (ses : Nat) (n : Nat)
  /-- R346: Command 3 of [6100+n.02] unbinds the slot to LOADED. -/
  | slotUnbind (ses : Nat) (n : Nat)
  /-- R357: Command 4 of [6100+n.02] restarts a faulted slot at its initial state on its cores. -/
  | slotRestart (ses : Nat) (n : Nat)
  /-- R346: Command 5 of [6100+n.02] clears the slot to EMPTY. -/
  | slotClear (ses : Nat) (n : Nat)
  /-- R357: A free slot voiding 16 consecutive periods enters FAULT with 090Ah. -/
  | slotFault (n : Nat)
  /-- R358: Command 1 of [6A00.02] places a copy, loads a checkpoint and begins replay, or is refused with 0F03h. -/
  | drydockStart (ses : Nat)
  /-- R359: Each replayed period's digests are compared, stopping at the first divergence or completing at the end. -/
  | drydockReplayPeriod
  /-- R362: Command 2 of [6A00.02] stops dry dock. -/
  | drydockStop (ses : Nat)
  /-- R362: Command 3 of [6A00.02] clears dry-dock results. -/
  | drydockClear (ses : Nat)
  /-- R367: An accepted offset measurement drives the shelf-time servo and its state transitions. -/
  | ptpOffsetAccepted (theta : Int) (exchange : PtpExchange)
  /-- R390: A measurement failing its conditions is discarded, raising 1107h after 8 path-delay discards. -/
  | ptpMeasurementDiscard (exchange : PtpExchange)
  /-- R366: No offset measurement for the holdover entry time enters HOLDOVER with 1102h. -/
  | holdoverEntry
  /-- R369: At a whole millisecond when permitted, shelf time is stepped and bound slots restart. -/
  | shelfTimeStep
  /-- R372: A pair-link TIME frame steers the standby's shelf time to the active module's. -/
  | pairTimeFrame (frame : Bytes)
  /-- R376: Each 1 s AON compares the crystals, raising 1104h after 3 seconds beyond 200 ppm. -/
  | crystalCheck (deviation : Rat)
  /-- R377: A PLL losing lock raises 1105h, or for EDGE or GRID trip 1106h with links stopped and fault-out asserted. -/
  | pllUnlock (island : Island)
  /-- R380: After the post-trigger time capture stops writing, enters FROZEN and writes a freeze marker. -/
  | capturePostExpiry
  /-- R385: Command 1 of [2300.02] starts capture. -/
  | captureStart (ses : Nat)
  /-- R380: Command 2 of [2300.02], or a qualifying fault, puts capture in POST. -/
  | captureFreeze (ses : Nat)
  /-- R380: Command 3 of [2300.02] releases the ring and resumes capture. -/
  | captureRelease (ses : Nat)
  /-- R385: Command 4 of [2300.02] stops capture. -/
  | captureStop (ses : Nat)
  /-- R387: A received frame is parsed and accepted into the basin or dropped and counted. -/
  | ethernetFrame (frame : Bytes)
  /-- R393: A READ returns up to 64 object values, judged word by word. -/
  | read (frame : Bytes)
  /-- R393: A WRITE applies up to 64 object values in order. -/
  | write (frame : Bytes)
  /-- R394: A READ_BLOCK returns a consistent snapshot of bytes of an object. -/
  | readBlock (frame : Bytes)
  /-- R418: A WRITE_BLOCK writes bytes of a block object, ignored whole when it runs past the end. -/
  | writeBlock (frame : Bytes)
  /-- R400: A SUBSCRIBE sets up, replaces or cancels a stream of the session. -/
  | subscribe (frame : Bytes)
  /-- R401: A SIGNED_WRITE part is added to the session's transfer, replying with the part count when complete. -/
  | signedWrite (frame : Bytes)
  /-- R524: A QUOTE request is queued for signing or dropped when four wait. -/
  | quote (frame : Bytes)
  /-- R400: At each stream instant a snapshot is taken and sent in frames. -/
  | streamInstance (ses : Nat) (stream : Nat)
  /-- R401: A transfer not complete within 1 s of its first part is discarded as a violation. -/
  | signedTransferTimeout (ses : Nat)
  /-- R526: A complete transfer is verified in order and its inner request applied or refused with 0E02h. -/
  | signedWriteVerify (ses : Nat)
  /-- R524: A quote is signed and sent as parts. -/
  | quoteSigned
  /-- R404: Every 20 µs above the low watermark the pause frame is repeated. -/
  | pfcPauseRepeat
  /-- R404: Occupancy at or below the low watermark sends a zero-quanta PFC frame. -/
  | pfcPauseRelease
  /-- R404: A report pause lasting more than 1 ms raises warning 1203h. -/
  | pfcPauseLong
  /-- R407: A received PFC frame pauses the named priorities of the module's transmission. -/
  | pfcReceived (frame : Bytes)
  /-- R407: The grant priority paused for more than 100 µs raises warning 1206h. -/
  | grantPauseLong
  /-- R386: The port link going down or up changes link state, raising 1201h or 1202h. -/
  | ethernetLinkChange (up : Bool) (lanes : Nat)
  /-- R388: An ARP or Neighbour Discovery frame for the module or shelf address is answered. -/
  | arpNdRequest (frame : Bytes)
  /-- R386: Command 1 of [1000.03] retrains the link, applying the selected mode. -/
  | portRetrain (ses : Nat)
  /-- R411: Command 2 of [1000.03] clears the port counters. -/
  | portClearCounters (ses : Nat)
  /-- R395: Command 1 of [1100+s.07] resets the session's sequence, streams and violation counters. -/
  | sessionReset (ses : Nat) (target : Nat)
  /-- R411: Command 1 of [1300.0C] clears the flow-control counters. -/
  | flowClearCounters (ses : Nat)
  /-- R414: A write of an object without a row of its own is checked for access, range and idle condition and applied or stored. -/
  | objectWrite (ses : Nat) (index : Nat) (sub : Nat) (value : Nat)
  /-- R416: A write of 0 to a highest-value object clears it and any other value is ignored without a violation. -/
  | highestValueClear (ses : Nat) (index : Nat) (sub : Nat) (value : Nat)
  /-- R423: A stored value reaches flash within 500 ms of its last change. -/
  | storeToFlash (key : Nat) (ok : Bool)
  /-- R423: A failed store is retried every 10 s with warning 0001h. -/
  | storeRetry (key : Nat) (ok : Bool)
  /-- R438: Command 1 of [0001.02] stores pending values now. -/
  | storePendingNow (ses : Nat)
  /-- R424: Command 2 of [0001.02] marks every stored value for restore at the next start. -/
  | markRestore (ses : Nat)
  /-- R424: Command 3 of [0001.02] withdraws the restore mark. -/
  | withdrawRestore (ses : Nat)
  /-- R438: Command 4 of [0001.02] resets the module when the loop is OFF or in standby. -/
  | moduleReset (ses : Nat)
  /-- R423: After boot the module loads stored values and starts its subsystems, closing open transactions with 0004h. -/
  | moduleStart (lost : List Nat)
  /-- R434: Every 1 s an open transaction record is copied to flash. -/
  | transactionCopy
  /-- R444: A raise reaches the fault manager and is run, pre-empting, queued, coalesced or discarded. -/
  | faultRaise (code : Nat) (inst : Nat)
  /-- R446: When a handler ends the higher of stack top and queue head runs next. -/
  | handlerEnd
  /-- R451: A handler exceeding 200 µs of processing raises warning 0007h. -/
  | handlerOverrun
  /-- R456: An owner reporting the condition gone removes a warning or marks a fault entry gone. -/
  | faultConditionGone (code : Nat) (inst : Nat)
  /-- R457: A write of [7000.0F] acknowledges the named entry or all entries. -/
  | faultAcknowledge (ses : Nat) (v : Nat)
  /-- R462: Command 1 of [7000.12] clears the fault-manager counters. -/
  | faultsClearCounters (ses : Nat)
  /-- R455: A keeper core not writing its watchdog for 50 ms makes AON assert FAULT_OUT and reset the module. -/
  | watchdogExpiry (core : Nat)
  /-- R467: With no pair link after 200 ms and PAIR_ROLE_IN low the module becomes ACTIVE. -/
  | pairDecideTimeout
  /-- R467: A HELLO frame records the partner and decides roles by position while deciding. -/
  | pairHello (frame : Bytes)
  /-- R471: Every 100 µs the active module snapshots and sends the manifest in 8 parts. -/
  | manifestSend
  /-- R471: A MANIFEST_PART is collected and the manifest committed and acknowledged when whole, or refused on layout mismatch. -/
  | manifestPart (frame : Bytes)
  /-- R471: An ACK frame records the partner's commit of a manifest. -/
  | pairAck (frame : Bytes)
  /-- R470: A STORE frame stores a configuration value on the standby as its own. -/
  | pairStore (frame : Bytes)
  /-- R481: A HANDOVER frame from the active starts a commanded takeover on the standby. -/
  | pairHandover (frame : Bytes)
  /-- R475: A manifest not committed by 50 µs after its boundary counts, and the third in a row triggers takeover or 0B05h. -/
  | manifestMissed
  /-- R475: PAIR_FAULT_IN asserted for 10 µs triggers takeover, or 0B09h when UNSYNCED. -/
  | pairFaultInTrigger
  /-- R475: PAIR_ROLE_IN falling low after three missed manifests triggers takeover. -/
  | pairRoleInFall
  /-- R483: The pair link going down raises warning 0B02h. -/
  | pairLinkLost
  /-- R476: Command 1 of [8000.02] in STANDBY starts takeover. -/
  | takeOverNow (ses : Nat)
  /-- R476: In TAKING the module drives outputs, loads the manifest, starts the loop in SOFT and sends EDGE and COMMAND frames. -/
  | takeover
  /-- R466: The first EDGE sent on every linked tray makes the module ACTIVE. -/
  | takeoverComplete
  /-- R481: Command 2 of [8000.02] in ACTIVE waits for the drill conditions. -/
  | handoverDrill (ses : Nat)
  /-- R481: With the drill conditions met the active module sends HANDOVER, goes silent and becomes STANDBY. -/
  | drillHandoverStart
  /-- R481: A partner not active within 3 ms makes the former active resume with 0B07h. -/
  | drillFailed
  /-- R481: A drill not started within 10 s is abandoned. -/
  | drillAbandon
  /-- R484: Command 3 of [8000.02] clears the pair counters. -/
  | pairClearCounters (ses : Nat)
  /-- R480: Every self-test interval the standby self-tests its grid cores, raising 0B08h on failure. -/
  | standbySelfTest (failed : Nat)
  /-- R474: Command 1 of [8100.04] accepts a manifest layout with a transaction, or refuses it with 0B06h. -/
  | layoutCommit (ses : Nat) (seq : Nat)
  /-- R484: Command 2 of [8100.04] discards the pending layout. -/
  | layoutDiscard (ses : Nat)
  /-- R487: A staged record reaches flash, reclaiming a segment when none is erased. -/
  | recordFlashWrite (ok : Bool)
  /-- R499: A failed flash write is retried every 10 ms with warning 0C02h. -/
  | recordFlashRetry (ok : Bool)
  /-- R491: A closing rate window with suppressed runs writes a summary record. -/
  | rateWindowClose (code : Nat) (inst : Nat)
  /-- R494: A read of [7200.06] returns held records and advances the session's read sequence. -/
  | recordBlockRead (ses : Nat) (offset : Nat) (length : Nat)
  /-- R496: A signed write of [7200.0F] clears records up to v and writes notice 0C01h. -/
  | recorderClear (ses : Nat) (v : Nat) (key : Bytes)
  /-- R501: Command 1 of [7200.10] clears the suppressed and lost counters. -/
  | recorderClearCounters (ses : Nat)
  /-- R508: A write of [9000.0A] writes calibration entries under a calibration-write transaction. -/
  | calBlockWrite (ses : Nat) (seq : Nat) (offset : Nat) (data : Bytes)
  /-- R508: A write of a scalar entry of [9100+t] behaves as a one-entry block write without a transaction. -/
  | calEntryWrite (ses : Nat) (t : Nat) (sub : Nat) (value : Nat)
  /-- R510: A write of [9000.03] enables live routines and resets the anchors of set bits. -/
  | liveRoutinesWrite (ses : Nat) (v : Nat)
  /-- R509: After 1,024 window samples a phase offset measurement is applied or rejected at its band. -/
  | phaseOffsetMeasure (t : Nat) (p : Nat)
  /-- R509: After 1,024 window samples of a tray at rest the DC-link offset measurement is applied or rejected. -/
  | dcLinkOffsetMeasure (t : Nat)
  /-- R509: Every 1 s in RUN the bus-voltage gains are equalised among non-excluded trays. -/
  | busVoltageEqualise
  /-- R506: Live changes are stored at each whole hour and when the bus loop enters OFF. -/
  | calLiveStore
  /-- R506: Command 1 of [9000.02] stores live values now. -/
  | calStoreNow (ses : Nat)
  /-- R511: Command 2 of [9000.02] locks every entry. -/
  | calLockAll (ses : Nat)
  /-- R511: Command 3 of [9000.02] unlocks every entry. -/
  | calUnlockAll (ses : Nat)
  /-- R516: Command 4 of [9000.02] clears the calibration counters. -/
  | calClearCounters (ses : Nat)
  /-- R519: After a reset the boot ROM measures and verifies the image and runs it or the network loader. -/
  | boot (pins : BootPins)
  /-- R520: The loader serves session 0 on link-local and writes a valid staged image, then resets. -/
  | networkLoader
  /-- R529: A write of [A000.10] assembles the staged image and checks it on the last byte. -/
  | imageBlockWrite (ses : Nat) (data : Bytes)
  /-- R530: Command 1 of [A000.02] marks a verified staged image for installation. -/
  | markInstall (ses : Nat)
  /-- R533: Command 2 of [A000.02] discards the staged image. -/
  | discardStagedImage (ses : Nat)
  /-- R533: Command 3 of [A000.02] clears the security counters. -/
  | securityClearCounters (ses : Nat)
  /-- R530: At the first STANDBY or idle OFF instant the marked image is written to flash and the module resets. -/
  | firmwareInstall
  /-- R527: A plain write of [A000.0A] while zero sets the owner root key with info 0E06h. -/
  | rootKeySet (ses : Nat) (data : Bytes)
  /-- R528: A signed write of [A000.13] irreversibly raises the minimum security version. -/
  | raiseMinVersion (ses : Nat) (v : Nat)
  /-- R528: A signed write of [A000.14] irreversibly revokes a firmware key slot. -/
  | revokeKeySlot (ses : Nat) (slot : Nat)
  /-- R549: Both auxiliary feeds below 40 V twice start the power-fail sequence with 000Bh. -/
  | powerFailStart
  /-- R550: One feed at or above 42 V for 100 ms after a power fail starts the module as at power-up. -/
  | powerRestore
  /-- R551: Every 10 ms the die and inlet temperatures are checked against their thresholds. -/
  | thermalCheck (junction : Rat) (inlet : Rat)
  /-- R552: A junction above 115 °C makes AON run the power-fail sequence and hold the module off. -/
  | thermalShutdown
  /-- R552: A junction below 85 °C for 60 s restarts the module as at power-up. -/
  | thermalRestart
  /-- R555: J2_MATE high for 1 µs releases every output, silences transmitters and raises 000Ch. -/
  | j2Withdrawn
  /-- R143: The weir line deasserts, lowering event source 128 + t, clearing [3100+t.1E] and lifting the ban on driving the tray's contactors high. -/
  | weirLineCleared (t : Nat)
  /-- R93: A paddle link running on one lane regains its second lane, deasserting event source 161 + 2t and clearing its one-lane bit in [2200.13]. -/
  | paddleLaneRestored (t : Nat)
  /-- R470: The pair link comes up, raising 0B01h and event source 320, and the active module sends its whole stored set to the partner. -/
  | pairLinkUp
  /-- R483: The pair link loses one lane, runs on the other and raises warning 0B04h. -/
  | pairLinkLaneLost
  /-- R366: The best master clock algorithm changes the port's PTP state, so the port becomes or stops being a slave and HOLDOVER goes to LOCAL. -/
  | ptpPortStateChange (slave : Nat) (master : Nat)
  /-- R389: At its configured intervals the port sends Sync, Announce or Delay_Req messages for its PTP role. -/
  | ptpMessageSend (kind : PtpMessage)
deriving DecidableEq, Repr

end Sys2Proof
end

