-- ==== Sys2Proof/Decode.lean ====
section
/-! DEFINITION. The decoder of table words. The table of this block gives no row any bits: its rows are commands
that arrive as events, register writes and frames, and a frame is an operand that its own meaning parses.
So no word spells a command. -/

namespace Sys2Proof

/-- The command a word of the opcode table spells: none, since no row of the table gives bits. -/
def decodeTableWord (_nbits _w : Nat) : Option Instr := none

end Sys2Proof
end

