-- ==== Sys2Proof/Machine/FaultCodes.lean ====
section
/-! DEFINITION. The fault codes and their fixed severities (R439, R441), from the fault table of each
   chapter. -/

namespace Sys2Proof.Machine

/-- Codes 00xxh. -/
def sevTable00 : List (Nat × Nat) :=
  [(0x0001, 2), (0x0002, 2), (0x0003, 3), (0x0004, 1), (0x0005, 4), (0x0006, 4), (0x0007, 2),
   (0x0008, 2), (0x0009, 2), (0x000A, 4), (0x000B, 4), (0x000C, 4)]

/-- Codes 01xxh. -/
def sevTable01 : List (Nat × Nat) :=
  [(0x0101, 2), (0x0102, 3), (0x0103, 2), (0x0104, 4), (0x0105, 1), (0x0106, 3), (0x0107, 5), (0x0108, 2)]

/-- Codes 02xxh. -/
def sevTable02 : List (Nat × Nat) :=
  [(0x0201, 1), (0x0202, 2), (0x0203, 3), (0x0204, 3), (0x0205, 2), (0x0206, 4), (0x0207, 2),
   (0x0208, 2), (0x0209, 4), (0x020A, 5), (0x020B, 1), (0x020C, 2), (0x020D, 1), (0x020E, 2)]

/-- Codes 03xxh. -/
def sevTable03 : List (Nat × Nat) :=
  [(0x0301, 3), (0x0302, 3), (0x0303, 3), (0x0304, 4), (0x0305, 4), (0x0306, 4), (0x0307, 1),
   (0x0308, 1), (0x0309, 0), (0x030A, 2)]

/-- Codes 04xxh. -/
def sevTable04 : List (Nat × Nat) :=
  [(0x0401, 5), (0x0402, 2), (0x0403, 4), (0x0404, 3), (0x0405, 3), (0x0406, 3), (0x0407, 2),
   (0x0408, 2), (0x0409, 4), (0x040A, 1), (0x040B, 3), (0x040C, 4), (0x040D, 3)]

/-- Codes 05xxh. -/
def sevTable05 : List (Nat × Nat) :=
  [(0x0501, 1), (0x0502, 2), (0x0503, 0), (0x0504, 2), (0x0505, 2), (0x0506, 2), (0x0507, 1)]

/-- Codes 06xxh. -/
def sevTable06 : List (Nat × Nat) :=
  [(0x0601, 1), (0x0602, 2), (0x0603, 1), (0x0604, 2), (0x0605, 2), (0x0606, 2), (0x0607, 1),
   (0x0608, 1), (0x0609, 3)]

/-- Codes 07xxh. -/
def sevTable07 : List (Nat × Nat) :=
  [(0x0701, 1), (0x0702, 2), (0x0703, 4), (0x0704, 1), (0x0705, 2), (0x0706, 2), (0x0707, 2),
   (0x0708, 2), (0x0709, 1), (0x070A, 0), (0x070B, 2)]

/-- Codes 08xxh. -/
def sevTable08 : List (Nat × Nat) :=
  [(0x0801, 1), (0x0802, 2), (0x0803, 3), (0x0804, 1), (0x0805, 2), (0x0806, 3), (0x0807, 2),
   (0x0808, 1), (0x0809, 2), (0x080B, 2)]

/-- Codes 09xxh. -/
def sevTable09 : List (Nat × Nat) :=
  [(0x0901, 2), (0x0902, 3), (0x0903, 3), (0x0904, 4), (0x0905, 3), (0x0906, 1), (0x0907, 4),
   (0x0908, 2), (0x0909, 2), (0x090A, 3), (0x090B, 2)]

/-- Codes 0Axxh. -/
def sevTable0A : List (Nat × Nat) :=
  [(0x0A01, 2), (0x0A02, 2), (0x0A03, 2), (0x0A04, 3), (0x0A05, 2), (0x0A06, 4)]

/-- Codes 0Bxxh. -/
def sevTable0B : List (Nat × Nat) :=
  [(0x0B01, 1), (0x0B02, 2), (0x0B03, 4), (0x0B04, 2), (0x0B05, 4), (0x0B06, 2), (0x0B07, 3),
   (0x0B08, 2), (0x0B09, 4), (0x0B0A, 4), (0x0B0B, 2)]

/-- Codes 0Cxxh. -/
def sevTable0C : List (Nat × Nat) :=
  [(0x0C01, 1), (0x0C02, 2), (0x0C03, 2), (0x0C04, 2), (0x0C05, 2)]

/-- Codes 0Dxxh. -/
def sevTable0D : List (Nat × Nat) :=
  [(0x0D01, 0), (0x0D02, 2), (0x0D03, 3), (0x0D04, 1)]

/-- Codes 0Exxh. -/
def sevTable0E : List (Nat × Nat) :=
  [(0x0E01, 4), (0x0E02, 2), (0x0E03, 1), (0x0E04, 2), (0x0E05, 1), (0x0E06, 0), (0x0E07, 1)]

/-- Codes 0Fxxh. -/
def sevTable0F : List (Nat × Nat) :=
  [(0x0F01, 2), (0x0F02, 1), (0x0F03, 1)]

/-- Codes 10xxh. -/
def sevTable10 : List (Nat × Nat) :=
  [(0x1001, 1), (0x1002, 2)]

/-- Codes 11xxh. -/
def sevTable11 : List (Nat × Nat) :=
  [(0x1101, 1), (0x1102, 2), (0x1103, 2), (0x1104, 3), (0x1105, 4), (0x1106, 5), (0x1107, 2)]

/-- Codes 12xxh. -/
def sevTable12 : List (Nat × Nat) :=
  [(0x1201, 3), (0x1202, 1), (0x1203, 2), (0x1204, 2), (0x1205, 2), (0x1206, 2), (0x1207, 1)]

/-- Every code of the manual with its severity. -/
def sevTable : List (Nat × Nat) :=
  sevTable00 ++ sevTable01 ++ sevTable02 ++ sevTable03 ++ sevTable04 ++ sevTable05 ++ sevTable06 ++ sevTable07 ++ sevTable08 ++ sevTable09 ++ sevTable0A ++ sevTable0B ++ sevTable0C ++ sevTable0D ++ sevTable0E ++ sevTable0F ++ sevTable10 ++ sevTable11 ++ sevTable12

/-- The severity of a code (R439). -/
def severity (code : Nat) : Nat :=
  match sevTable.find? (fun e => e.1 == code) with
  | some e => e.2
  | none => 0

end Sys2Proof.Machine
end

