-- ==== Sys2Proof/Machine/Numeric.lean ====
section
/-! DEFINITION. Byte order, bit fields, number formats, CRC-32C and SHA-256: what every frame, block and object
value is read and written with. Little-endian throughout (R86, R391), big-endian for the Ethernet and IP headers. -/

namespace Sys2Proof.Machine

/-- The n low bytes of v, little-endian. -/
def le : Nat → Nat → Bytes
  | 0, _ => []
  | n + 1, v => BitVec.ofNat 8 v :: le n (v / 256)

/-- The value of a little-endian byte string. -/
def ofLe : Bytes → Nat
  | [] => 0
  | b :: bs => b.toNat + 256 * ofLe bs

/-- The n low bytes of v, big-endian (Ethernet, IP and PTP headers). -/
def be (n v : Nat) : Bytes := (le n v).reverse

/-- The value of a big-endian byte string. -/
def ofBe (bs : Bytes) : Nat := ofLe bs.reverse

/-- The bytes [off, off + len) of a string; what lies past its end is absent. -/
def slice (bs : Bytes) (off len : Nat) : Bytes := (bs.drop off).take len

/-- The byte at an offset, as a number; 0 past the end. -/
def u8At (bs : Bytes) (off : Nat) : Nat := ofLe (slice bs off 1)

/-- The little-endian U16 at an offset. -/
def u16At (bs : Bytes) (off : Nat) : Nat := ofLe (slice bs off 2)

/-- The little-endian U32 at an offset. -/
def u32At (bs : Bytes) (off : Nat) : Nat := ofLe (slice bs off 4)

/-- The little-endian U64 at an offset. -/
def u64At (bs : Bytes) (off : Nat) : Nat := ofLe (slice bs off 8)

/-- Two's complement reading of the n low bits of v. -/
def signed (n v : Nat) : Int :=
  let m := v % 2 ^ n
  if 2 * m < 2 ^ n then (m : Int) else (m : Int) - (2 ^ n : Nat)

/-- Two's complement writing of v in n bits. -/
def unsigned (n : Nat) (v : Int) : Nat := (v % ((2 ^ n : Nat) : Int)).toNat

/-- The little-endian I16 at an offset. -/
def i16At (bs : Bytes) (off : Nat) : Int := signed 16 (u16At bs off)

/-- The little-endian I32 at an offset. -/
def i32At (bs : Bytes) (off : Nat) : Int := signed 32 (u32At bs off)

/-- The little-endian I64 at an offset. -/
def i64At (bs : Bytes) (off : Nat) : Int := signed 64 (u64At bs off)

/-- The bit field [hi:lo] of v. -/
def bitField (v hi lo : Nat) : Nat := v / 2 ^ lo % 2 ^ (hi + 1 - lo)

/-- Bit i of v. -/
def bit (v i : Nat) : Bool := v.testBit i

/-- v with bit i set to b. -/
def setBit (v i : Nat) (b : Bool) : Nat :=
  if v.testBit i = b then v else if b then v + 2 ^ i else v - 2 ^ i

/-- 1 for true. -/
def b2n (b : Bool) : Nat := if b then 1 else 0

/-- A byte string of exactly n bytes: cut, or padded with 00h. -/
def padTo (n : Nat) (bs : Bytes) : Bytes := bs.take n ++ List.replicate (n - bs.length) 0

/-- bs with the bytes from off replaced by d; bytes of d past the end of bs are dropped. -/
def patch (bs : Bytes) (off : Nat) (d : Bytes) : Bytes :=
  (bs.take off ++ d ++ bs.drop (off + d.length)).take bs.length

/-- A count that stays at its highest value FFFFFFFFh once it reaches it. -/
def sat32 (n : Nat) : Nat := min n 0xFFFFFFFF

/-- A count that stays at FFFFh once it reaches it. -/
def sat16 (n : Nat) : Nat := min n 0xFFFF

/-- Two to an integer power. -/
def pow2 (e : Int) : Rat := if 0 ≤ e then ((2 ^ e.toNat : Nat) : Rat) else 1 / ((2 ^ (-e).toNat : Nat) : Rat)

/-- Nearest integer, ties to even. -/
def roundEven (x : Rat) : Int :=
  let f := x.floor
  let d := x - (f : Rat)
  if d < 1 / 2 then f else if 1 / 2 < d then f + 1 else if f % 2 = 0 then f else f + 1

/-- Nearest integer, ties away from zero. -/
def roundAway (x : Rat) : Int := if 0 ≤ x then (x + 1 / 2).floor else -((-x + 1 / 2).floor)

/-- x held within [lo, hi]. -/
def clampQ (lo hi x : Rat) : Rat := max lo (min hi x)

/-- n held within [lo, hi]. -/
def clampI (lo hi n : Int) : Int := max lo (min hi n)

/-- Absolute value. -/
def absQ (x : Rat) : Rat := if 0 ≤ x then x else -x

/-- The exponent e with 2^e ≤ a < 2^(e+1), for positive a. -/
def expo (a : Rat) : Int :=
  let e : Int := (a.num.toNat.log2 : Int) - (a.den.log2 : Int)
  if a < pow2 e then e - 1 else if pow2 (e + 1) ≤ a then e + 1 else e

/-- Newton's iteration towards the root of n from above, for at most `fuel` turns. -/
def isqrtFrom (n : Nat) : Nat → Nat → Nat
  | 0, r => r
  | fuel + 1, r => let q := (r + n / r) / 2; if q < r then isqrtFrom n fuel q else r

/-- The whole part of the square root of n. -/
def isqrt (n : Nat) : Nat := if n = 0 then 0 else isqrtFrom n (n.log2 + 2) (2 ^ (n.log2 / 2 + 1))

/-- The square root of x, cut to a multiple of 2^−64; 0 of a negative number (log entry 2). -/
def sqrtQ (x : Rat) : Rat := (isqrt (x * pow2 128).floor.toNat : Rat) * pow2 (-64)

/-- x cut to a multiple of 2^−96. -/
def cut96 (x : Rat) : Rat := ((x * pow2 96).floor : Rat) * pow2 (-96)

/-- e^−x for x within [0, 1] by its series from term k on, n terms (log entry 2). -/
def expSeries (x : Rat) : Nat → Nat → Rat
  | 0, _ => 1
  | n + 1, k => 1 - cut96 (x / (k : Rat) * expSeries x n (k + 1))

/-- b to a power below 2^n, each product cut. -/
def powCut : Nat → Rat → Nat → Rat
  | 0, _, _ => 1
  | n + 1, b, k => let r := powCut n (cut96 (b * b)) (k / 2); if k % 2 = 1 then cut96 (b * r) else r

/-- e to the power minus x, for x ≥ 0, within 2^−80 (log entry 2); 0 past 64. -/
def expNeg (x : Rat) : Rat :=
  if 64 < x then 0 else
    let n := x.floor.toNat
    cut96 (expSeries (cut96 (x - (n : Rat))) 30 1 * powCut 7 (expSeries 1 30 1) n)

/-- The finite binary32 value of a bit pattern (Table 15.1); the exponent field of 255 stands for no number. -/
def f32Val (w : Nat) : Rat :=
  let e := bitField w 30 23
  let m := bitField w 22 0
  let a : Rat := if e = 0 then (m : Rat) * pow2 (-149) else ((m + 8388608 : Nat) : Rat) * pow2 ((e : Int) - 150)
  if bit w 31 then -a else a

/-- Whether a pattern is a finite binary32 number: NaN and the infinities are out of range (Table 15.1). -/
def f32Finite (w : Nat) : Bool := bitField w 30 23 != 255

/-- The binary32 pattern nearest to x, ties to even, held at the largest finite magnitude. -/
def f32Bits (x : Rat) : Nat :=
  if x = 0 then 0 else
    let a := absQ x
    let e := max (expo a) (-126)
    let m := (roundEven (a / pow2 (e - 23))).toNat
    let bits := min ((e + 126).toNat * 8388608 + m) 0x7F7FFFFF
    if x < 0 then bits + 2147483648 else bits

/-- x rounded to binary32. -/
def toF32 (x : Rat) : Rat := f32Val (f32Bits x)

/-- x as a 24-bit mantissa on the shared exponent e: nearest, ties to even, held within the mantissa's range, which
leaves out the most negative code (R290, R292, R293). -/
def bfp24 (e : Int) (x : Rat) : Rat :=
  (clampI (-8388607) 8388607 (roundEven (x / pow2 (e - 23))) : Rat) * pow2 (e - 23)

/-- Whether x saturates a 24-bit mantissa on the exponent e (R293). -/
def bfp24Sat (e : Int) (x : Rat) : Bool :=
  let m := roundEven (x / pow2 (e - 23))
  decide (m < -8388607) || decide (8388607 < m)

/-- The exponent of a normalised 24-bit block of one entry: the smallest at which the rounded entry fits, within −128 to
127 (R292, R293). -/
def bfp24Exp (x : Rat) : Int :=
  let e := expo (absQ x) + 1
  clampI (-128) 127 (if bfp24Sat e x then e + 1 else e)

/-- x as a normalised 24-bit block of one entry (R47, R295: coefficients). -/
def bfp24Norm (x : Rat) : Rat := if x = 0 then 0 else bfp24 (bfp24Exp x) x

/-! ### CRC-32C (Table 0.6): polynomial 1EDC6F41h, reflected, initial value and final XOR FFFFFFFFh -/

/-- One bit of the reflected CRC. -/
def crcBit (c : Nat) : Nat := if c % 2 = 1 then (c / 2) ^^^ 0x82F63B78 else c / 2

/-- n bits. -/
def crcBits : Nat → Nat → Nat
  | 0, c => c
  | n + 1, c => crcBits n (crcBit c)

/-- CRC-32C of a byte string. -/
def crc32c (bs : Bytes) : Nat := (bs.foldl (fun c b => crcBits 8 (c ^^^ b.toNat)) 0xFFFFFFFF) ^^^ 0xFFFFFFFF

/-! ### SHA-256 (FIPS 180-4, Table 0.6) -/

/-- A 32-bit word of the hash. -/
abbrev ShaWord := BitVec 32

/-- The 32-bit words of a number, the most significant first. -/
def shaCut (n v : Nat) : List ShaWord := (List.range n).map fun i => BitVec.ofNat 32 (v / 2 ^ (32 * (n - 1 - i)))

/-- The 64 round constants: the first 32 bits of the fractional parts of the cube roots of the first 64 primes, 16 to a
number. -/
def shaRounds : List ShaWord :=
  shaCut 16 0x428A2F9871374491B5C0FBCFE9B5DBA53956C25B59F111F1923F82A4AB1C5ED5D807AA9812835B01243185BE550C7DC372BE5D7480DEB1FE9BDC06A7C19BF174 ++
  shaCut 16 0xE49B69C1EFBE47860FC19DC6240CA1CC2DE92C6F4A7484AA5CB0A9DC76F988DA983E5152A831C66DB00327C8BF597FC7C6E00BF3D5A7914706CA635114292967 ++
  shaCut 16 0x27B70A852E1B21384D2C6DFC53380D13650A7354766A0ABB81C2C92E92722C85A2BFE8A1A81A664BC24B8B70C76C51A3D192E819D6990624F40E3585106AA070 ++
  shaCut 16 0x19A4C1161E376C082748774C34B0BCB5391C0CB34ED8AA4A5B9CCA4F682E6FF3748F82EE78A5636F84C878148CC7020890BEFFFAA4506CEBBEF9A3F7C67178F2

/-- The initial hash value: the same of the square roots of the first 8 primes. -/
def shaStart : List ShaWord := shaCut 8 0x6A09E667BB67AE853C6EF372A54FF53A510E527F9B05688C1F83D9AB5BE0CD19

/-- Three rotations of a word, the third a shift where `s` says so, added bit by bit. -/
def shaMix (a b c : Nat) (s : Bool) (x : ShaWord) : ShaWord :=
  x.rotateRight a ^^^ x.rotateRight b ^^^ (if s then x >>> c else x.rotateRight c)

/-- The message schedule: n more words on the words so far, newest first. -/
def shaSchedule (n : Nat) (w : List ShaWord) : List ShaWord :=
  n.rec w fun _ w => (shaMix 17 19 10 true (w.getD 1 0) + w.getD 6 0 + shaMix 7 18 3 true (w.getD 14 0) + w.getD 15 0) :: w

/-- One round on the working variables a to h, with its constant and its word. -/
def shaStep (v : List ShaWord) (k w : ShaWord) : List ShaWord :=
  match v with
  | [a, b, c, d, e, f, g, h] =>
    let x := h + shaMix 6 11 25 false e + (g ^^^ (e &&& (f ^^^ g))) + k + w
    let y := shaMix 2 13 22 false a + ((a &&& b) ||| (c &&& (a ||| b)))
    [x + y, a, b, c, d + x, e, f, g]
  | _ => v

/-- One block of the message, 64 bytes read as a big-endian number, into the hash value. -/
def shaFold (h : List ShaWord) (block : Bytes) : List ShaWord :=
  let words := (shaSchedule 48 (shaCut 16 (ofBe block)).reverse).reverse
  let v := (shaRounds.zip words).foldl (fun v e => shaStep v e.1 e.2) h
  h.zipWith (· + ·) v

/-- The message padded to whole blocks. -/
def shaPad (bs : Bytes) : Bytes :=
  bs ++ [(0x80 : Byte)] ++ List.replicate ((119 - bs.length % 64) % 64) 0 ++ be 8 (8 * bs.length)

/-- SHA-256 of a byte string, 32 bytes. -/
def sha256 (bs : Bytes) : Bytes :=
  let p := shaPad bs
  let h := (List.range (p.length / 64)).foldl (fun h i => shaFold h (slice p (64 * i) 64)) shaStart
  h.flatMap fun w => be 4 w.toNat

/-! ### Lists of instances and sparse stores -/

/-- Instance i of an array held as a list; `d` where there is none. -/
def get {α : Type} (d : α) (l : List α) (i : Nat) : α := l.getD i d

/-- The array with instance i replaced by f of it; unchanged where there is none. -/
def upd {α : Type} (l : List α) (i : Nat) (f : α → α) : List α := l.modify i f

/-- A sparse store: the value at a key, the default where the key is not listed. -/
def Store.get {α : Type} (d : α) : List (Nat × α) → Nat → α
  | [], _ => d
  | (k, v) :: rest, key => if k = key then v else Store.get d rest key

/-- The store without a key. -/
def Store.del {α : Type} (l : List (Nat × α)) (key : Nat) : List (Nat × α) := l.filter fun e => e.1 != key

/-- Insert a key into a store that does not hold it, keys rising. -/
def Store.ins {α : Type} (key : Nat) (v : α) : List (Nat × α) → List (Nat × α)
  | [] => [(key, v)]
  | (k, w) :: rest => if key < k then (key, v) :: (k, w) :: rest else (k, w) :: Store.ins key v rest

/-- Write a key: the value an unlisted key reads as is not listed, so equal stores are equal lists. -/
def Store.set {α : Type} [DecidableEq α] (d : α) (l : List (Nat × α)) (key : Nat) (v : α) : List (Nat × α) :=
  if v = d then Store.del l key else Store.ins key v (Store.del l key)

/-- The canonical form of a store: keys strictly rising, no entry equal to the default. -/
def Store.wf {α : Type} [DecidableEq α] (d : α) : List (Nat × α) → Bool
  | [] => true
  | [(_, v)] => decide (v ≠ d)
  | (k, v) :: (k', v') :: rest => decide (v ≠ d) && decide (k < k') && Store.wf d ((k', v') :: rest)

end Sys2Proof.Machine
end

