-- ==== Sys2Proof/Machine/Objects.lean ====
section
/-! DEFINITION. The object tables of every chapter (Tables 2.6 to 20.9), row by row: subindex, type, access, default
and the numeric range of the Meaning column. A default or a bound of an F32 object is the binary32 value nearest to
the decimal the table prints (log entry 9). Ranges that name another object are in `rangeExtra` (Operands.lean). -/

namespace Sys2Proof.Machine

/-- Types (Table 15.1). -/
inductive OType where
  | u8 | u16 | u32 | u64 | i8 | i16 | i32 | i64 | f32 | time | str | blob
deriving DecidableEq, Repr

/-- Access kinds (Table 15.2). -/
inductive Access where
  | ro | rw | wo | rws | rwl | sec
deriving DecidableEq, Repr

/-- One row of an object table. A row written 'SS + 8p' stands for `reps` subindices at `stride`. -/
structure ObjRow where
  sub : Nat
  stride : Nat
  reps : Nat
  typ : OType
  acc : Access
  /-- Size in bytes of a BLOB or STR object (its stated maximum); of a scalar, the size of its type. -/
  len : Nat
  /-- Raw value at first start and after a restore (R422); 0 where the table gives none (log entry 4). -/
  dflt : Nat
  rng : Option (Rat × Rat)
deriving DecidableEq, Repr

/-- The object table of one range of indices. -/
structure ObjGroup where
  first : Nat
  count : Nat
  rows : List ObjRow
deriving DecidableEq, Repr

/-- Table 2.6 Bus loop [2000]. -/
def objsBusLoop : ObjGroup :=
  { first := 0x2000, count := 1, rows :=
    [⟨0x00, 1, 1, .u8, .ro, 1, 43, none⟩,
     ⟨0x01, 1, 1, .u8, .ro, 1, 0, none⟩,
     ⟨0x02, 1, 1, .u8, .wo, 1, 0, some (1, 4)⟩,
     ⟨0x03, 1, 1, .f32, .rws, 4, 1145569280, some (700, 880)⟩,
     ⟨0x04, 1, 1, .f32, .rws, 4, 1092616192, some (1, 200)⟩,
     ⟨0x05, 1, 1, .f32, .rws, 4, 1101004800, some (1, 200)⟩,
     ⟨0x06, 1, 1, .f32, .ro, 4, 0, none⟩,
     ⟨0x07, 1, 1, .f32, .ro, 4, 0, none⟩,
     ⟨0x08, 1, 1, .f32, .ro, 4, 0, none⟩,
     ⟨0x09, 1, 1, .f32, .ro, 4, 0, none⟩,
     ⟨0x0A, 1, 1, .f32, .ro, 4, 0, none⟩,
     ⟨0x0B, 1, 1, .f32, .ro, 4, 0, none⟩,
     ⟨0x0C, 1, 1, .f32, .ro, 4, 0, none⟩,
     ⟨0x0D, 1, 1, .f32, .ro, 4, 0, none⟩,
     ⟨0x0E, 1, 1, .i8, .ro, 1, 0, none⟩,
     ⟨0x0F, 1, 1, .f32, .rws, 4, 1092616192, some (1, 100)⟩] ++
    [⟨0x10, 1, 1, .f32, .rwl, 4, 1055840535, none⟩,
     ⟨0x11, 1, 1, .f32, .rwl, 4, 0, none⟩,
     ⟨0x12, 1, 1, .f32, .rwl, 4, 3205010293, none⟩,
     ⟨0x13, 1, 1, .f32, .rwl, 4, 1065353216, none⟩,
     ⟨0x14, 1, 1, .f32, .rwl, 4, 0, none⟩,
     ⟨0x15, 1, 1, .f32, .rwl, 4, 0, none⟩,
     ⟨0x16, 1, 1, .f32, .rwl, 4, 0, none⟩,
     ⟨0x17, 1, 1, .f32, .rwl, 4, 0, none⟩,
     ⟨0x18, 1, 1, .f32, .rwl, 4, 1127684506, none⟩,
     ⟨0x19, 1, 1, .f32, .rwl, 4, 1069027426, none⟩,
     ⟨0x1A, 1, 1, .f32, .rwl, 4, 981467136, some (0, 1 / 16)⟩,
     ⟨0x1B, 1, 1, .u8, .rw, 1, 1, some (0, 1)⟩,
     ⟨0x1C, 1, 1, .f32, .rws, 4, 1109393408, none⟩,
     ⟨0x1D, 1, 1, .u32, .rws, 4, 200, none⟩,
     ⟨0x1E, 1, 1, .f32, .rws, 4, 1117782016, none⟩,
     ⟨0x1F, 1, 1, .u32, .rws, 4, 1000, none⟩] ++
    [⟨0x20, 1, 1, .f32, .rws, 4, 1090519040, some (2, 40)⟩,
     ⟨0x21, 1, 1, .f32, .rws, 4, 1147207680, some (860, 950)⟩,
     ⟨0x22, 1, 1, .u8, .ro, 1, 0, none⟩,
     ⟨0x23, 1, 1, .u16, .ro, 2, 0, none⟩,
     ⟨0x24, 1, 1, .u32, .ro, 4, 0, none⟩,
     ⟨0x25, 1, 1, .u32, .ro, 4, 0, none⟩,
     ⟨0x26, 1, 1, .u32, .ro, 4, 0, none⟩,
     ⟨0x27, 1, 1, .u32, .rw, 4, 0, none⟩,
     ⟨0x28, 1, 1, .u8, .ro, 1, 0, none⟩,
     ⟨0x29, 1, 1, .u8, .rws, 1, 255, none⟩,
     ⟨0x2A, 1, 1, .f32, .rws, 4, 1109393408, some (5, 200)⟩,
     ⟨0x2B, 1, 1, .f32, .rws, 4, 1143930880, some (650, 760)⟩] }

/-- Table 3.12 Phases of tray t [2100+t]. -/
def objsPhases : ObjGroup :=
  { first := 0x2100, count := 16, rows :=
    [⟨0x00, 1, 1, .u8, .ro, 1, 79, none⟩,
     ⟨0x01, 1, 1, .u8, .ro, 1, 0, none⟩,
     ⟨0x02, 1, 1, .u8, .ro, 1, 0, none⟩,
     ⟨0x03, 1, 1, .u8, .rws, 1, 2, some (2, 8)⟩,
     ⟨0x04, 1, 1, .u8, .rw, 1, 1, some (0, 1)⟩,
     ⟨0x05, 1, 1, .f32, .rws, 4, 1053609165, some (13421773 / 134217728, 5033165 / 8388608)⟩,
     ⟨0x06, 1, 1, .f32, .rws, 4, 1060320051, some (13421773 / 134217728, 15938355 / 16777216)⟩,
     ⟨0x07, 1, 1, .u32, .rws, 4, 20, some (1, 1000)⟩,
     ⟨0x08, 1, 1, .f32, .rws, 4, 1110284698, some (1, 100)⟩,
     ⟨0x09, 1, 1, .f32, .rwl, 4, 1109393408, none⟩,
     ⟨0x0A, 1, 1, .f32, .rwl, 4, 1073741824, none⟩,
     ⟨0x0B, 1, 1, .f32, .rwl, 4, 1056964608, none⟩,
     ⟨0x0C, 1, 1, .f32, .rwl, 4, 1098907648, some (0, 40)⟩,
     ⟨0x0D, 1, 1, .f32, .rws, 4, 1114636288, some (10, 120)⟩,
     ⟨0x0E, 1, 1, .f32, .ro, 4, 0, none⟩,
     ⟨0x0F, 1, 1, .u16, .ro, 2, 0, none⟩] ++
    [⟨0x10, 8, 8, .u8, .ro, 1, 0, none⟩,
     ⟨0x11, 8, 8, .u8, .wo, 1, 0, some (0, 1)⟩,
     ⟨0x12, 8, 8, .f32, .ro, 4, 0, none⟩,
     ⟨0x13, 8, 8, .f32, .ro, 4, 0, none⟩,
     ⟨0x14, 8, 8, .f32, .ro, 4, 0, none⟩,
     ⟨0x15, 8, 8, .f32, .ro, 4, 0, none⟩,
     ⟨0x16, 8, 8, .u16, .ro, 2, 0, none⟩,
     ⟨0x17, 8, 8, .f32, .rwl, 4, 1117782016, some (20, 400)⟩] }

/-- Table 3.13 Edge engine [2200]. -/
def objsEdge : ObjGroup :=
  { first := 0x2200, count := 1, rows :=
    [⟨0x00, 1, 1, .u8, .ro, 1, 23, none⟩,
     ⟨0x01, 1, 1, .u16, .rwl, 2, 3125, some (2000, 5000)⟩,
     ⟨0x02, 1, 1, .f32, .ro, 4, 1126170624, none⟩,
     ⟨0x03, 1, 1, .u16, .rwl, 2, 50, some (20, 200)⟩,
     ⟨0x04, 1, 1, .u16, .rwl, 2, 100, some (50, 500)⟩,
     ⟨0x05, 1, 1, .u32, .ro, 4, 0, none⟩,
     ⟨0x06, 1, 1, .u32, .ro, 4, 0, none⟩,
     ⟨0x07, 1, 1, .u8, .rw, 1, 1, some (0, 1)⟩,
     ⟨0x08, 1, 1, .f32, .rws, 4, 1056964608, some (13421773 / 67108864, 1)⟩,
     ⟨0x09, 1, 1, .f32, .rws, 4, 1022739087, some (5368709 / 536870912, 13421773 / 268435456)⟩,
     ⟨0x0A, 1, 1, .f32, .rws, 4, 1027101164, some (0, 13421773 / 134217728)⟩,
     ⟨0x0B, 1, 1, .u32, .ro, 4, 0, none⟩,
     ⟨0x0C, 1, 1, .f32, .rws, 4, 1128792064, some (50, 1000)⟩,
     ⟨0x0D, 1, 1, .u32, .ro, 4, 2000, none⟩,
     ⟨0x0E, 1, 1, .u32, .ro, 4, 200, none⟩,
     ⟨0x0F, 1, 1, .u32, .ro, 4, 10, none⟩] ++
    [⟨0x10, 1, 1, .u16, .rwl, 2, 200, some (100, 400)⟩,
     ⟨0x11, 1, 1, .f32, .rwl, 4, 1036831949, some (5368709 / 536870912, 1)⟩,
     ⟨0x12, 1, 1, .f32, .rwl, 4, 1056964608, some (0, 7549747 / 8388608)⟩,
     ⟨0x13, 1, 1, .u32, .ro, 4, 0, none⟩,
     ⟨0x14, 1, 1, .u32, .ro, 4, 0, none⟩,
     ⟨0x15, 1, 1, .blob, .ro, 16, 0, none⟩,
     ⟨0x16, 1, 1, .u16, .ro, 2, 5, none⟩,
     ⟨0x17, 1, 1, .u16, .ro, 2, 2, none⟩] }

/-- Table 4.8 Tray t [3000+t]. -/
def objsTray : ObjGroup :=
  { first := 0x3000, count := 16, rows :=
    [⟨0x00, 1, 1, .u8, .ro, 1, 31, none⟩,
     ⟨0x01, 1, 1, .u8, .ro, 1, 0, none⟩,
     ⟨0x02, 1, 1, .u8, .wo, 1, 0, some (1, 5)⟩,
     ⟨0x03, 1, 1, .u8, .rws, 1, 0, some (0, 1)⟩,
     ⟨0x04, 1, 1, .u8, .ro, 1, 0, none⟩,
     ⟨0x05, 1, 1, .u8, .ro, 1, 0, none⟩,
     ⟨0x06, 1, 1, .f32, .ro, 4, 0, none⟩,
     ⟨0x07, 1, 1, .f32, .ro, 4, 0, none⟩,
     ⟨0x08, 1, 1, .f32, .ro, 4, 0, none⟩,
     ⟨0x09, 1, 1, .f32, .ro, 4, 0, none⟩,
     ⟨0x0A, 1, 1, .f32, .rws, 4, 1120403456, some (10, 100)⟩,
     ⟨0x0B, 1, 1, .f32, .ro, 4, 0, none⟩,
     ⟨0x0C, 1, 1, .f32, .ro, 4, 1065353216, none⟩,
     ⟨0x0D, 1, 1, .f32, .ro, 4, 0, none⟩,
     ⟨0x0E, 1, 1, .f32, .ro, 4, 0, none⟩,
     ⟨0x0F, 1, 1, .u8, .rws, 1, 0, some (0, 1)⟩] ++
    [⟨0x10, 1, 1, .f32, .rws, 4, 1073741824, some (1 / 2, 10)⟩,
     ⟨0x11, 1, 1, .f32, .rws, 4, 1000593162, some (8589935 / 8589934592, 5368709 / 268435456)⟩,
     ⟨0x12, 1, 1, .f32, .rws, 4, 1112014848, some (5, 500)⟩,
     ⟨0x13, 1, 1, .f32, .rws, 4, 1133903872, some (10, 5000)⟩,
     ⟨0x14, 1, 1, .f32, .rws, 4, 1028443341, some (5368709 / 536870912, 13421773 / 67108864)⟩,
     ⟨0x15, 1, 1, .u16, .rws, 2, 30, some (5, 100)⟩,
     ⟨0x16, 1, 1, .u16, .rws, 2, 2500, some (500, 2500)⟩,
     ⟨0x17, 1, 1, .f32, .rws, 4, 1065353216, some (1 / 2, 5)⟩,
     ⟨0x18, 1, 1, .f32, .rws, 4, 1069547520, some (1 / 2, 10)⟩,
     ⟨0x19, 1, 1, .u16, .rws, 2, 50, some (10, 500)⟩,
     ⟨0x1A, 1, 1, .f32, .rws, 4, 1095237632, some (1, 125)⟩,
     ⟨0x1B, 1, 1, .f32, .ro, 4, 1073741824, none⟩,
     ⟨0x1C, 1, 1, .u32, .ro, 4, 0, none⟩,
     ⟨0x1D, 1, 1, .u8, .ro, 1, 0, none⟩,
     ⟨0x1E, 1, 1, .time, .ro, 8, 0, none⟩,
     ⟨0x1F, 1, 1, .u32, .ro, 4, 0, none⟩] }

/-- Table 4.9 Tray allocation [3010]. -/
def objsAlloc : ObjGroup :=
  { first := 0x3010, count := 1, rows :=
    [⟨0x00, 1, 1, .u8, .ro, 1, 12, none⟩,
     ⟨0x01, 1, 1, .u16, .ro, 2, 0, none⟩,
     ⟨0x02, 1, 1, .f32, .ro, 4, 0, none⟩,
     ⟨0x03, 1, 1, .f32, .ro, 4, 0, none⟩,
     ⟨0x04, 1, 1, .f32, .ro, 4, 0, none⟩,
     ⟨0x05, 1, 1, .f32, .rws, 4, 1073741824, some (0, 8)⟩,
     ⟨0x06, 1, 1, .u8, .rws, 1, 1, some (0, 1)⟩,
     ⟨0x07, 1, 1, .u32, .rws, 4, 60, some (10, 120)⟩,
     ⟨0x08, 1, 1, .u32, .rws, 4, 600, some (60, 86400)⟩,
     ⟨0x09, 1, 1, .f32, .rws, 4, 1067450368, some (4404019 / 4194304, 2)⟩,
     ⟨0x0A, 1, 1, .u16, .rws, 2, 2, some (1, 10)⟩,
     ⟨0x0B, 1, 1, .u8, .ro, 1, 255, none⟩,
     ⟨0x0C, 1, 1, .u32, .ro, 4, 0, none⟩] }

/-- Table 5.11 Towpath of tray t [3100+t]. -/
def objsTowpath : ObjGroup :=
  { first := 0x3100, count := 16, rows :=
    [⟨0x00, 1, 1, .u8, .ro, 1, 35, none⟩,
     ⟨0x01, 1, 1, .u8, .ro, 1, 0, none⟩,
     ⟨0x02, 1, 1, .u8, .rwl, 1, 16, some (1, 16)⟩,
     ⟨0x03, 1, 1, .u8, .ro, 1, 255, none⟩,
     ⟨0x04, 1, 1, .u16, .ro, 2, 0, none⟩,
     ⟨0x05, 1, 1, .blob, .rwl, 16, 20011376718272490338853433276725592320, none⟩,
     ⟨0x06, 1, 1, .blob, .ro, 24, 0, none⟩,
     ⟨0x07, 1, 1, .blob, .ro, 24, 0, none⟩,
     ⟨0x08, 1, 1, .blob, .ro, 384, 0, none⟩,
     ⟨0x09, 1, 1, .blob, .ro, 24, 0, none⟩,
     ⟨0x0A, 1, 1, .blob, .ro, 384, 0, none⟩,
     ⟨0x0B, 1, 1, .blob, .ro, 32, 0, none⟩,
     ⟨0x0C, 1, 1, .blob, .ro, 32, 0, none⟩,
     ⟨0x0D, 1, 1, .blob, .ro, 32, 0, none⟩,
     ⟨0x0E, 1, 1, .time, .ro, 8, 0, none⟩,
     ⟨0x0F, 1, 1, .time, .ro, 8, 0, none⟩] ++
    [⟨0x10, 1, 1, .u8, .rw, 1, 1, some (0, 1)⟩,
     ⟨0x11, 1, 1, .f32, .rws, 4, 1000593162, some (8589935 / 8589934592, 13421773 / 268435456)⟩,
     ⟨0x12, 1, 1, .u16, .rws, 2, 2000, some (500, 10000)⟩,
     ⟨0x13, 1, 1, .blob, .ro, 24, 0, none⟩,
     ⟨0x14, 1, 1, .f32, .rws, 4, 1077306982, some (9646899 / 4194304, 5976883 / 2097152)⟩,
     ⟨0x15, 1, 1, .f32, .rws, 4, 1069547520, some (3 / 2, 2)⟩,
     ⟨0x16, 1, 1, .f32, .ro, 4, 1020054733, none⟩,
     ⟨0x17, 1, 1, .f32, .rws, 4, 1069966950, some (0, 2)⟩,
     ⟨0x18, 1, 1, .f32, .rws, 4, 1077097267, some (9646899 / 4194304, 5976883 / 2097152)⟩,
     ⟨0x19, 1, 1, .f32, .rws, 4, 1025758986, some (9395241 / 268435456, 13421773 / 134217728)⟩,
     ⟨0x1A, 1, 1, .f32, .ro, 4, 1014350479, none⟩,
     ⟨0x1B, 1, 1, .f32, .rws, 4, 1045220557, some (13421773 / 134217728, 1 / 2)⟩,
     ⟨0x1C, 1, 1, .u16, .rws, 2, 100, some (10, 1000)⟩,
     ⟨0x1D, 1, 1, .f32, .rws, 4, 1114636288, some (40, 70)⟩,
     ⟨0x1E, 1, 1, .u8, .ro, 1, 0, none⟩,
     ⟨0x1F, 1, 1, .u16, .ro, 2, 0, none⟩] ++
    [⟨0x20, 1, 1, .u32, .ro, 4, 0, none⟩,
     ⟨0x21, 1, 1, .u32, .ro, 4, 0, none⟩,
     ⟨0x22, 1, 1, .time, .ro, 8, 0, none⟩,
     ⟨0x23, 1, 1, .u8, .wo, 1, 0, some (1, 4)⟩] }

/-- Table 6.5 Estimator of tray t [3200+t]. -/
def objsEst : ObjGroup :=
  { first := 0x3200, count := 16, rows :=
    [⟨0x00, 1, 1, .u8, .ro, 1, 40, none⟩,
     ⟨0x01, 1, 1, .u8, .ro, 1, 1, none⟩,
     ⟨0x02, 1, 1, .f32, .ro, 4, 0, none⟩,
     ⟨0x03, 1, 1, .f32, .ro, 4, 0, none⟩,
     ⟨0x04, 1, 1, .f32, .ro, 4, 0, none⟩,
     ⟨0x05, 1, 1, .f32, .ro, 4, 0, none⟩,
     ⟨0x06, 1, 1, .u8, .ro, 1, 0, none⟩,
     ⟨0x07, 1, 1, .f32, .ro, 4, 0, none⟩,
     ⟨0x08, 1, 1, .f32, .ro, 4, 0, none⟩,
     ⟨0x09, 1, 1, .f32, .ro, 4, 0, none⟩,
     ⟨0x0A, 1, 1, .f32, .ro, 4, 0, none⟩,
     ⟨0x0B, 1, 1, .u32, .ro, 4, 0, none⟩,
     ⟨0x0C, 1, 1, .time, .ro, 8, 0, none⟩,
     ⟨0x0D, 1, 1, .blob, .ro, 384, 0, none⟩,
     ⟨0x0E, 1, 1, .blob, .ro, 384, 0, none⟩,
     ⟨0x0F, 1, 1, .blob, .ro, 384, 0, none⟩] ++
    [⟨0x10, 1, 1, .blob, .ro, 192, 0, none⟩,
     ⟨0x11, 1, 1, .blob, .ro, 384, 0, none⟩,
     ⟨0x12, 1, 1, .f32, .ro, 4, 1065353216, none⟩,
     ⟨0x13, 1, 1, .f32, .ro, 4, 1065353216, none⟩,
     ⟨0x14, 1, 1, .f32, .ro, 4, 0, none⟩,
     ⟨0x15, 1, 1, .u32, .ro, 4, 0, none⟩,
     ⟨0x16, 1, 1, .blob, .rws, 34, 3184328216039181838709556661060292207867498432747741399408359386593671799878469200, none⟩,
     ⟨0x17, 1, 1, .f32, .rws, 4, 1017370378, some (5368709 / 1073741824, 13421773 / 268435456)⟩,
     ⟨0x18, 1, 1, .u16, .rws, 2, 30, some (10, 600)⟩,
     ⟨0x19, 1, 1, .f32, .rws, 4, 1022739087, some (5368709 / 536870912, 13421773 / 134217728)⟩,
     ⟨0x1A, 1, 1, .f32, .rws, 4, 994352038, some (8589935 / 4294967296, 5368709 / 268435456)⟩,
     ⟨0x1B, 1, 1, .f32, .rws, 4, 1028443341, some (0, 2)⟩,
     ⟨0x1C, 1, 1, .f32, .rws, 4, 990057071, some (0, 5368709 / 268435456)⟩,
     ⟨0x1D, 1, 1, .f32, .rws, 4, 981668463, some (0, 5368709 / 536870912)⟩,
     ⟨0x1E, 1, 1, .f32, .rws, 4, 1036831949, some (0, 5033165 / 16777216)⟩,
     ⟨0x1F, 1, 1, .f32, .rws, 4, 1063675494, some (11744051 / 16777216, 1)⟩] ++
    [⟨0x20, 1, 1, .f32, .rws, 4, 1137180672, some (10, 600)⟩,
     ⟨0x21, 1, 1, .f32, .rws, 4, 1070386381, some (0, 2)⟩,
     ⟨0x22, 1, 1, .f32, .rws, 4, 1076887552, some (9646899 / 4194304, 5976883 / 2097152)⟩,
     ⟨0x23, 1, 1, .f32, .rws, 4, 1008981770, some (8589935 / 8589934592, 13421773 / 134217728)⟩,
     ⟨0x24, 1, 1, .f32, .rws, 4, 1036831949, some (0, 1)⟩,
     ⟨0x25, 1, 1, .f32, .rws, 4, 1101004800, some (1, 200)⟩,
     ⟨0x26, 1, 1, .f32, .rws, 4, 1061997773, some (1 / 2, 15938355 / 16777216)⟩,
     ⟨0x27, 1, 1, .u32, .ro, 4, 0, none⟩,
     ⟨0x28, 1, 1, .u8, .wo, 1, 0, some (1, 1)⟩] }

/-- Table 6.6 Shelf estimator [3210]. -/
def objsShelfEst : ObjGroup :=
  { first := 0x3210, count := 1, rows :=
    [⟨0x00, 1, 1, .u8, .ro, 1, 5, none⟩,
     ⟨0x01, 1, 1, .f32, .ro, 4, 0, none⟩,
     ⟨0x02, 1, 1, .f32, .ro, 4, 0, none⟩,
     ⟨0x03, 1, 1, .f32, .ro, 4, 0, none⟩,
     ⟨0x04, 1, 1, .f32, .ro, 4, 0, none⟩,
     ⟨0x05, 1, 1, .u16, .ro, 2, 0, none⟩] }

/-- Table 6.7 Impedance window of tray t [3300+t]. -/
def objsImp : ObjGroup :=
  { first := 0x3300, count := 16, rows :=
    [⟨0x00, 1, 1, .u8, .ro, 1, 17, none⟩,
     ⟨0x01, 1, 1, .u16, .ro, 2, 9216, none⟩,
     ⟨0x02, 1, 1, .u8, .ro, 1, 8, none⟩,
     ⟨0x03, 1, 1, .u32, .rw, 4, 0, none⟩,
     ⟨0x04, 1, 1, .blob, .rw, 8192, 0, none⟩,
     ⟨0x05, 1, 1, .u8, .rw, 1, 1, some (0, 1)⟩,
     ⟨0x06, 1, 1, .f32, .rws, 4, 1101004800, some (5, 200)⟩,
     ⟨0x07, 1, 1, .u32, .ro, 4, 0, none⟩,
     ⟨0x08, 1, 1, .u32, .ro, 4, 0, none⟩,
     ⟨0x09, 1, 1, .time, .ro, 8, 0, none⟩,
     ⟨0x0A, 1, 1, .u32, .ro, 4, 0, none⟩,
     ⟨0x0B, 1, 1, .u8, .wo, 1, 0, some (1, 2)⟩,
     ⟨0x0C, 1, 1, .f32, .rws, 4, 1060320051, some (13421773 / 268435456, 5)⟩,
     ⟨0x0D, 1, 1, .f32, .rws, 4, 1051931443, some (0, 5)⟩,
     ⟨0x0E, 1, 1, .f32, .rws, 4, 1082130432, some (1 / 2, 20)⟩,
     ⟨0x0F, 1, 1, .f32, .ro, 4, 0, none⟩] ++
    [⟨0x10, 1, 1, .f32, .ro, 4, 0, none⟩,
     ⟨0x11, 1, 1, .f32, .ro, 4, 0, none⟩] }

/-- Table 7.10 Forecaster [4000]. -/
def objsFcast : ObjGroup :=
  { first := 0x4000, count := 1, rows :=
    [⟨0x00, 1, 1, .u8, .ro, 1, 31, none⟩,
     ⟨0x01, 1, 1, .u8, .ro, 1, 0, none⟩,
     ⟨0x02, 1, 1, .u8, .wo, 1, 0, some (1, 4)⟩,
     ⟨0x03, 1, 1, .u8, .ro, 1, 255, none⟩,
     ⟨0x04, 1, 1, .u8, .rw, 1, 255, none⟩,
     ⟨0x05, 1, 1, .u8, .rw, 1, 0, some (0, 1)⟩,
     ⟨0x06, 1, 1, .f32, .rws, 4, 1084227584, some (0, 50)⟩,
     ⟨0x07, 1, 1, .f32, .rws, 4, 1112014848, some (1, 200)⟩,
     ⟨0x08, 1, 1, .f32, .rws, 4, 1092616192, some (0, 200)⟩,
     ⟨0x09, 1, 1, .f32, .rws, 4, 1153138688, some (0, 4000)⟩,
     ⟨0x0A, 1, 1, .f32, .rws, 4, 1056964608, some (13421773 / 134217728, 13421773 / 16777216)⟩,
     ⟨0x0B, 1, 1, .f32, .rws, 4, 1063675494, some (5033165 / 33554432, 3 / 2)⟩,
     ⟨0x0C, 1, 1, .u16, .rws, 2, 100, some (20, 1000)⟩,
     ⟨0x0D, 1, 1, .f32, .ro, 4, 0, none⟩,
     ⟨0x0E, 1, 1, .f32, .ro, 4, 0, none⟩,
     ⟨0x0F, 1, 1, .f32, .ro, 4, 0, none⟩] ++
    [⟨0x10, 1, 1, .f32, .rws, 4, 1086324736, some (1 / 2, 50)⟩,
     ⟨0x11, 1, 1, .f32, .ro, 4, 0, none⟩,
     ⟨0x12, 1, 1, .blob, .ro, 400, 0, none⟩,
     ⟨0x13, 1, 1, .blob, .ro, 400, 0, none⟩,
     ⟨0x14, 1, 1, .u64, .ro, 8, 0, none⟩,
     ⟨0x15, 1, 1, .u32, .ro, 4, 0, none⟩,
     ⟨0x16, 1, 1, .u32, .ro, 4, 0, none⟩,
     ⟨0x17, 1, 1, .u32, .ro, 4, 0, none⟩,
     ⟨0x18, 1, 1, .u16, .ro, 2, 0, none⟩,
     ⟨0x19, 1, 1, .u16, .rw, 2, 0, none⟩,
     ⟨0x1A, 1, 1, .u8, .rwl, 1, 8, some (1, 16)⟩,
     ⟨0x1B, 1, 1, .f32, .ro, 4, 0, none⟩,
     ⟨0x1C, 1, 1, .u32, .ro, 4, 0, none⟩,
     ⟨0x1D, 1, 1, .u32, .ro, 4, 0, none⟩,
     ⟨0x1E, 1, 1, .u32, .ro, 4, 0, none⟩,
     ⟨0x1F, 1, 1, .u32, .ro, 4, 0, none⟩] }

/-- Table 7.11 Schedule ingest [4100]. -/
def objsSched : ObjGroup :=
  { first := 0x4100, count := 1, rows :=
    [⟨0x00, 1, 1, .u8, .ro, 1, 15, none⟩,
     ⟨0x01, 1, 1, .u32, .rws, 4, 0, none⟩,
     ⟨0x02, 1, 1, .u32, .rws, 4, 100, some (20, 10000)⟩,
     ⟨0x03, 1, 1, .u32, .rws, 4, 10000, some (100, 60000)⟩,
     ⟨0x04, 1, 1, .u32, .rws, 4, 200, some (20, 2000)⟩,
     ⟨0x05, 1, 1, .u16, .ro, 2, 0, none⟩,
     ⟨0x06, 1, 1, .u32, .ro, 4, 0, none⟩,
     ⟨0x07, 1, 1, .blob, .ro, 132, 0, none⟩,
     ⟨0x08, 1, 1, .f32, .ro, 4, 1031798784, none⟩,
     ⟨0x09, 1, 1, .u32, .ro, 4, 500, none⟩,
     ⟨0x0A, 1, 1, .u32, .ro, 4, 0, none⟩,
     ⟨0x0B, 1, 1, .u8, .rws, 1, 8, some (1, 32)⟩,
     ⟨0x0C, 1, 1, .u32, .ro, 4, 0, none⟩,
     ⟨0x0D, 1, 1, .u16, .rws, 2, 10, some (1, 600)⟩,
     ⟨0x0E, 1, 1, .u16, .rws, 2, 60, some (0, 3600)⟩,
     ⟨0x0F, 1, 1, .f32, .rws, 4, 1159069696, some (10, 4000)⟩] }

/-- Table 8.10 Governor [5000]. -/
def objsGov : ObjGroup :=
  { first := 0x5000, count := 1, rows :=
    [⟨0x00, 1, 1, .u8, .ro, 1, 33, none⟩,
     ⟨0x01, 1, 1, .u8, .ro, 1, 0, none⟩,
     ⟨0x02, 1, 1, .u8, .wo, 1, 0, some (1, 4)⟩,
     ⟨0x03, 1, 1, .u64, .ro, 8, 0, none⟩,
     ⟨0x04, 1, 1, .f32, .ro, 4, 0, none⟩,
     ⟨0x05, 1, 1, .f32, .ro, 4, 0, none⟩,
     ⟨0x06, 1, 1, .f32, .ro, 4, 0, none⟩,
     ⟨0x07, 1, 1, .u8, .rws, 1, 1, some (0, 1)⟩,
     ⟨0x08, 1, 1, .f32, .rws, 4, 1055286886, some (5033165 / 16777216, 11744051 / 16777216)⟩,
     ⟨0x09, 1, 1, .f32, .rws, 4, 1061158912, some (13421773 / 33554432, 15938355 / 16777216)⟩,
     ⟨0x0A, 1, 1, .u16, .rws, 2, 900, some (60, 7200)⟩,
     ⟨0x0B, 1, 1, .f32, .rws, 4, 1036831949, some (0, 5033165 / 16777216)⟩,
     ⟨0x0C, 1, 1, .f32, .ro, 4, 0, none⟩,
     ⟨0x0D, 1, 1, .f32, .rws, 4, 1124945101, some (1, 500)⟩,
     ⟨0x0E, 1, 1, .f32, .rws, 4, 1153957888, some (10, 4000)⟩,
     ⟨0x0F, 1, 1, .f32, .rws, 4, 1159069696, some (10, 4000)⟩] ++
    [⟨0x10, 1, 1, .u16, .rws, 2, 10, some (2, 600)⟩,
     ⟨0x11, 1, 1, .u32, .rws, 4, 131132, none⟩,
     ⟨0x12, 1, 1, .f32, .rws, 4, 1050253722, some (0, 7549747 / 8388608)⟩,
     ⟨0x13, 1, 1, .u16, .rws, 2, 500, some (100, 900)⟩,
     ⟨0x14, 1, 1, .u32, .rws, 4, 0, none⟩,
     ⟨0x15, 1, 1, .u16, .rws, 2, 100, some (5, 10000)⟩,
     ⟨0x16, 1, 1, .u8, .ro, 1, 2, none⟩,
     ⟨0x17, 1, 1, .blob, .ro, 4096, 0, none⟩,
     ⟨0x18, 1, 1, .blob, .ro, 65536, 0, none⟩,
     ⟨0x19, 1, 1, .blob, .ro, 458752, 0, none⟩,
     ⟨0x1A, 1, 1, .u64, .ro, 8, 0, none⟩,
     ⟨0x1B, 1, 1, .u32, .ro, 4, 0, none⟩,
     ⟨0x1C, 1, 1, .u32, .ro, 4, 0, none⟩,
     ⟨0x1D, 1, 1, .u16, .ro, 2, 0, none⟩,
     ⟨0x1E, 1, 1, .f32, .ro, 4, 0, none⟩,
     ⟨0x1F, 1, 1, .f32, .ro, 4, 0, none⟩] ++
    [⟨0x20, 1, 1, .u64, .ro, 8, 0, none⟩,
     ⟨0x21, 1, 1, .blob, .ro, 16384, 0, none⟩] }

/-- Table 8.11 Partition k [5100+k]. -/
def objsPart : ObjGroup :=
  { first := 0x5100, count := 64, rows :=
    [⟨0x00, 1, 1, .u8, .ro, 1, 23, none⟩,
     ⟨0x01, 1, 1, .u16, .rw, 2, 0, some (0, 4095)⟩,
     ⟨0x02, 1, 1, .u16, .rw, 2, 0, some (0, 4095)⟩,
     ⟨0x03, 1, 1, .u8, .rw, 1, 255, none⟩,
     ⟨0x04, 1, 1, .u8, .rw, 1, 31, some (0, 31)⟩,
     ⟨0x05, 1, 1, .u8, .ro, 1, 0, none⟩,
     ⟨0x06, 1, 1, .f32, .ro, 4, 0, none⟩,
     ⟨0x07, 1, 1, .f32, .ro, 4, 0, none⟩,
     ⟨0x08, 1, 1, .f32, .rws, 4, 1153957888, some (1, 4000)⟩,
     ⟨0x09, 1, 1, .u16, .rws, 2, 10, some (1, 30)⟩,
     ⟨0x0A, 1, 1, .f32, .rws, 4, 1159069696, some (1, 4000)⟩,
     ⟨0x0B, 1, 1, .f32, .ro, 4, 1065353216, none⟩,
     ⟨0x0C, 1, 1, .u8, .rw, 1, 1, some (0, 1)⟩,
     ⟨0x0D, 1, 1, .f32, .rws, 4, 1040187392, some (0, 1 / 2)⟩,
     ⟨0x0E, 1, 1, .u16, .rws, 2, 500, some (10, 60000)⟩,
     ⟨0x0F, 1, 1, .u16, .ro, 2, 0, none⟩] ++
    [⟨0x10, 1, 1, .u16, .ro, 2, 0, none⟩,
     ⟨0x11, 1, 1, .u32, .ro, 4, 0, none⟩,
     ⟨0x12, 1, 1, .u32, .ro, 4, 0, none⟩,
     ⟨0x13, 1, 1, .u32, .ro, 4, 0, none⟩,
     ⟨0x14, 1, 1, .u16, .ro, 2, 0, none⟩,
     ⟨0x15, 1, 1, .u16, .ro, 2, 0, none⟩,
     ⟨0x16, 1, 1, .u64, .ro, 8, 0, none⟩,
     ⟨0x17, 1, 1, .u32, .rw, 4, 0, none⟩] }

/-- Table 8.12 Operating-point window [5800]. -/
def objsOpWin : ObjGroup :=
  { first := 0x5800, count := 1, rows :=
    [⟨0x00, 1, 1, .u8, .ro, 1, 6, none⟩,
     ⟨0x01, 1, 1, .u32, .ro, 4, 131072, none⟩,
     ⟨0x02, 1, 1, .u8, .ro, 1, 8, none⟩,
     ⟨0x03, 1, 1, .u32, .rw, 4, 0, none⟩,
     ⟨0x04, 1, 1, .blob, .rw, 8192, 0, none⟩,
     ⟨0x05, 1, 1, .u32, .ro, 4, 0, none⟩,
     ⟨0x06, 1, 1, .u16, .ro, 2, 0, none⟩] }

/-- Table 9.8 Feed interface [3400]. -/
def objsFeed : ObjGroup :=
  { first := 0x3400, count := 1, rows :=
    [⟨0x00, 1, 1, .u8, .ro, 1, 19, none⟩,
     ⟨0x01, 1, 1, .u8, .wo, 1, 0, some (1, 2)⟩,
     ⟨0x02, 1, 1, .u8, .rws, 1, 3, some (0, 3)⟩,
     ⟨0x03, 1, 1, .u8, .ro, 1, 0, none⟩,
     ⟨0x04, 1, 1, .u8, .ro, 1, 0, none⟩,
     ⟨0x05, 1, 1, .u16, .rws, 2, 4, some (1, 120)⟩,
     ⟨0x06, 1, 1, .f32, .rws, 4, 1120403456, some (1, 2000)⟩,
     ⟨0x07, 1, 1, .f32, .rws, 4, 1120403456, some (1, 2000)⟩,
     ⟨0x08, 1, 1, .f32, .rws, 4, 1157234688, some (1, 20000)⟩,
     ⟨0x09, 1, 1, .f32, .rws, 4, 1128792064, some (0, 1000)⟩,
     ⟨0x0A, 1, 1, .u16, .rws, 2, 300, some (10, 5000)⟩,
     ⟨0x0B, 1, 1, .u16, .rws, 2, 10, some (0, 600)⟩,
     ⟨0x0C, 1, 1, .f32, .rws, 4, 1120403456, some (1, 2000)⟩,
     ⟨0x0D, 1, 1, .f32, .ro, 4, 0, none⟩,
     ⟨0x0E, 1, 1, .f32, .ro, 4, 0, none⟩,
     ⟨0x0F, 1, 1, .f32, .ro, 4, 0, none⟩] ++
    [⟨0x10, 1, 1, .f32, .ro, 4, 0, none⟩,
     ⟨0x11, 1, 1, .f32, .ro, 4, 0, none⟩,
     ⟨0x12, 1, 1, .u32, .ro, 4, 0, none⟩,
     ⟨0x13, 1, 1, .u32, .ro, 4, 0, none⟩] }

/-- Table 9.9 Rectifier r [3500+r]. -/
def objsRect : ObjGroup :=
  { first := 0x3500, count := 48, rows :=
    [⟨0x00, 1, 1, .u8, .ro, 1, 7, none⟩,
     ⟨0x01, 1, 1, .u8, .ro, 1, 0, none⟩,
     ⟨0x02, 1, 1, .f32, .ro, 4, 0, none⟩,
     ⟨0x03, 1, 1, .f32, .ro, 4, 0, none⟩,
     ⟨0x04, 1, 1, .f32, .ro, 4, 0, none⟩,
     ⟨0x05, 1, 1, .u8, .ro, 1, 0, none⟩,
     ⟨0x06, 1, 1, .f32, .ro, 4, 0, none⟩,
     ⟨0x07, 1, 1, .time, .ro, 8, 0, none⟩] }

/-- Table 10.12 Grid [6000]. -/
def objsGrid : ObjGroup :=
  { first := 0x6000, count := 1, rows :=
    [⟨0x00, 1, 1, .u8, .ro, 1, 20, none⟩,
     ⟨0x01, 1, 1, .u8, .ro, 1, 64, none⟩,
     ⟨0x02, 1, 1, .u8, .ro, 1, 8, none⟩,
     ⟨0x03, 1, 1, .u8, .ro, 1, 8, none⟩,
     ⟨0x04, 1, 1, .blob, .ro, 64, 0, none⟩,
     ⟨0x05, 1, 1, .u64, .ro, 8, 18374686479671623680, none⟩,
     ⟨0x06, 1, 1, .blob, .ro, 64, 0, none⟩,
     ⟨0x07, 1, 1, .u64, .ro, 8, 0, none⟩,
     ⟨0x08, 1, 1, .u64, .ro, 8, 0, none⟩,
     ⟨0x09, 1, 1, .u8, .ro, 1, 8, none⟩,
     ⟨0x0A, 1, 1, .u16, .ro, 2, 256, none⟩,
     ⟨0x0B, 1, 1, .u64, .ro, 8, 0, none⟩,
     ⟨0x0C, 1, 1, .u8, .ro, 1, 4, none⟩,
     ⟨0x0D, 1, 1, .u32, .ro, 4, 0, none⟩,
     ⟨0x0E, 1, 1, .u32, .ro, 4, 0, none⟩,
     ⟨0x0F, 1, 1, .u64, .ro, 8, 0, none⟩] ++
    [⟨0x10, 1, 1, .u32, .ro, 4, 0, none⟩,
     ⟨0x11, 1, 1, .u64, .ro, 8, 0, none⟩,
     ⟨0x12, 1, 1, .u32, .rws, 4, 1000, some (10, 1000000)⟩,
     ⟨0x13, 1, 1, .u32, .ro, 4, 0, none⟩,
     ⟨0x14, 1, 1, .u8, .wo, 1, 0, some (1, 2)⟩] }

/-- Table 11.12 Gate window [6800]. -/
def objsGate : ObjGroup :=
  { first := 0x6800, count := 1, rows :=
    [⟨0x00, 1, 1, .u8, .ro, 1, 15, none⟩,
     ⟨0x01, 1, 1, .u32, .ro, 4, 65536, none⟩,
     ⟨0x02, 1, 1, .u8, .ro, 1, 16, none⟩,
     ⟨0x03, 1, 1, .u32, .rw, 4, 0, none⟩,
     ⟨0x04, 1, 1, .blob, .ro, 16384, 0, none⟩,
     ⟨0x05, 1, 1, .blob, .wo, 8192, 0, none⟩,
     ⟨0x06, 1, 1, .u32, .wo, 4, 0, none⟩,
     ⟨0x07, 1, 1, .u16, .ro, 2, 0, none⟩,
     ⟨0x08, 1, 1, .u16, .wo, 2, 0, none⟩,
     ⟨0x09, 1, 1, .u32, .ro, 4, 63488, none⟩,
     ⟨0x0A, 1, 1, .u32, .ro, 4, 63488, none⟩,
     ⟨0x0B, 1, 1, .u32, .ro, 4, 0, none⟩,
     ⟨0x0C, 1, 1, .u32, .ro, 4, 0, none⟩,
     ⟨0x0D, 1, 1, .u64, .ro, 8, 0, none⟩,
     ⟨0x0E, 1, 1, .u16, .ro, 2, 0, none⟩,
     ⟨0x0F, 1, 1, .u8, .wo, 1, 0, some (1, 1)⟩] }

/-- Table 11.13 Event controller [6900]. -/
def objsEvent : ObjGroup :=
  { first := 0x6900, count := 1, rows :=
    [⟨0x00, 1, 1, .u8, .ro, 1, 11, none⟩,
     ⟨0x01, 1, 1, .u16, .ro, 2, 1024, none⟩,
     ⟨0x02, 1, 1, .u16, .rw, 2, 0, none⟩,
     ⟨0x03, 1, 1, .blob, .rw, 4096, 0, none⟩,
     ⟨0x04, 1, 1, .blob, .ro, 128, 0, none⟩,
     ⟨0x05, 1, 1, .u64, .ro, 8, 0, none⟩,
     ⟨0x06, 1, 1, .u32, .ro, 4, 0, none⟩,
     ⟨0x07, 1, 1, .u32, .ro, 4, 0, none⟩,
     ⟨0x08, 1, 1, .u32, .ro, 4, 0, none⟩,
     ⟨0x09, 1, 1, .u8, .ro, 1, 8, none⟩,
     ⟨0x0A, 1, 1, .u32, .ro, 4, 0, none⟩,
     ⟨0x0B, 1, 1, .u8, .wo, 1, 0, some (1, 1)⟩] }

/-- Table 12.14 Program slot n [6100+n]. -/
def objsSlot : ObjGroup :=
  { first := 0x6100, count := 64, rows :=
    [⟨0x00, 1, 1, .u8, .ro, 1, 19, none⟩,
     ⟨0x01, 1, 1, .u8, .ro, 1, 0, none⟩,
     ⟨0x02, 1, 1, .u8, .wo, 1, 0, some (1, 5)⟩,
     ⟨0x03, 1, 1, .u8, .ro, 1, 0, none⟩,
     ⟨0x04, 1, 1, .u32, .rw, 4, 0, none⟩,
     ⟨0x05, 1, 1, .blob, .wo, 8192, 0, none⟩,
     ⟨0x06, 1, 1, .u32, .ro, 4, 0, none⟩,
     ⟨0x07, 1, 1, .u32, .ro, 4, 0, none⟩,
     ⟨0x08, 1, 1, .u32, .ro, 4, 0, none⟩,
     ⟨0x09, 1, 1, .u8, .ro, 1, 255, none⟩,
     ⟨0x0A, 1, 1, .u16, .ro, 2, 0, none⟩,
     ⟨0x0B, 1, 1, .u8, .ro, 1, 0, none⟩,
     ⟨0x0C, 1, 1, .blob, .rwl, 512, 0, none⟩,
     ⟨0x0D, 1, 1, .u8, .rw, 1, 0, some (0, 1)⟩,
     ⟨0x0E, 1, 1, .u64, .ro, 8, 0, none⟩,
     ⟨0x0F, 1, 1, .u64, .ro, 8, 0, none⟩] ++
    [⟨0x10, 1, 1, .u64, .ro, 8, 0, none⟩,
     ⟨0x11, 1, 1, .blob, .ro, 0, 0, none⟩,
     ⟨0x12, 1, 1, .blob, .ro, 0, 0, none⟩,
     ⟨0x13, 1, 1, .u8, .ro, 1, 0, none⟩] }

/-- Table 12.15 Dry dock [6A00]. -/
def objsDryDock : ObjGroup :=
  { first := 0x6A00, count := 1, rows :=
    [⟨0x00, 1, 1, .u8, .ro, 1, 17, none⟩,
     ⟨0x01, 1, 1, .u8, .ro, 1, 0, none⟩,
     ⟨0x02, 1, 1, .u8, .wo, 1, 0, some (1, 3)⟩,
     ⟨0x03, 1, 1, .u8, .rw, 1, 0, some (0, 63)⟩,
     ⟨0x04, 1, 1, .u8, .rw, 1, 255, none⟩,
     ⟨0x05, 1, 1, .time, .rw, 8, 0, none⟩,
     ⟨0x06, 1, 1, .time, .rw, 8, 0, none⟩,
     ⟨0x07, 1, 1, .u8, .rw, 1, 0, some (0, 1)⟩,
     ⟨0x08, 1, 1, .u32, .rw, 4, 0, none⟩,
     ⟨0x09, 1, 1, .blob, .wo, 8192, 0, none⟩,
     ⟨0x0A, 1, 1, .u64, .ro, 8, 0, none⟩,
     ⟨0x0B, 1, 1, .u32, .ro, 4, 0, none⟩,
     ⟨0x0C, 1, 1, .u8, .ro, 1, 255, none⟩,
     ⟨0x0D, 1, 1, .u64, .ro, 8, 0, none⟩,
     ⟨0x0E, 1, 1, .u64, .ro, 8, 0, none⟩,
     ⟨0x0F, 1, 1, .u8, .ro, 1, 0, none⟩] ++
    [⟨0x10, 1, 1, .blob, .ro, 0, 0, none⟩,
     ⟨0x11, 1, 1, .u64, .ro, 8, 0, none⟩] }

/-- Table 13.9 Shelf time [0010]. -/
def objsTime : ObjGroup :=
  { first := 0x0010, count := 1, rows :=
    [⟨0x00, 1, 1, .u8, .ro, 1, 16, none⟩,
     ⟨0x01, 1, 1, .u8, .ro, 1, 0, none⟩,
     ⟨0x02, 1, 1, .time, .ro, 8, 0, none⟩,
     ⟨0x03, 1, 1, .i64, .ro, 8, 0, none⟩,
     ⟨0x04, 1, 1, .f32, .ro, 4, 0, none⟩,
     ⟨0x05, 1, 1, .i64, .ro, 8, 0, none⟩,
     ⟨0x06, 1, 1, .u32, .ro, 4, 0, none⟩,
     ⟨0x07, 1, 1, .u32, .ro, 4, 4294967295, none⟩,
     ⟨0x08, 1, 1, .f32, .rws, 4, 1101004800, some (1, 100)⟩,
     ⟨0x09, 1, 1, .u32, .rws, 4, 100, some (20, 10000)⟩,
     ⟨0x0A, 1, 1, .u16, .rws, 2, 3000, some (500, 60000)⟩,
     ⟨0x0B, 1, 1, .u32, .rws, 4, 1000, some (10, 1000000)⟩,
     ⟨0x0C, 1, 1, .f32, .ro, 4, 0, none⟩,
     ⟨0x0D, 1, 1, .u8, .ro, 1, 0, none⟩,
     ⟨0x0E, 1, 1, .u8, .rws, 1, 1, some (0, 1)⟩,
     ⟨0x0F, 1, 1, .u32, .ro, 4, 0, none⟩] ++
    [⟨0x10, 1, 1, .u8, .ro, 1, 0, none⟩] }

/-- Table 13.10 Capture [2300]. -/
def objsCapture : ObjGroup :=
  { first := 0x2300, count := 1, rows :=
    [⟨0x00, 1, 1, .u8, .ro, 1, 18, none⟩,
     ⟨0x01, 1, 1, .u8, .ro, 1, 1, none⟩,
     ⟨0x02, 1, 1, .u8, .wo, 1, 0, some (1, 4)⟩,
     ⟨0x03, 1, 1, .u16, .rwl, 2, 8192, some (1024, 10240)⟩,
     ⟨0x04, 1, 1, .u16, .rwl, 2, 4096, some (256, 4096)⟩,
     ⟨0x05, 1, 1, .u8, .rws, 1, 4, some (0, 6)⟩,
     ⟨0x06, 1, 1, .u16, .rws, 2, 2000, some (0, 7000)⟩,
     ⟨0x07, 1, 1, .time, .ro, 8, 0, none⟩,
     ⟨0x08, 1, 1, .u16, .ro, 2, 0, none⟩,
     ⟨0x09, 1, 1, .u32, .ro, 4, 7895, none⟩,
     ⟨0x0A, 1, 1, .u32, .ro, 4, 0, none⟩,
     ⟨0x0B, 1, 1, .time, .ro, 8, 0, none⟩,
     ⟨0x0C, 1, 1, .time, .rw, 8, 0, none⟩,
     ⟨0x0D, 1, 1, .blob, .ro, 0, 0, none⟩,
     ⟨0x0E, 1, 1, .u64, .rw, 8, 0, none⟩,
     ⟨0x0F, 1, 1, .blob, .ro, 8192, 0, none⟩] ++
    [⟨0x10, 1, 1, .u32, .ro, 4, 0, none⟩,
     ⟨0x11, 1, 1, .f32, .ro, 4, 0, none⟩,
     ⟨0x12, 1, 1, .u32, .ro, 4, 0, none⟩] }

/-- Table 14.8 Port [1000]. -/
def objsPort : ObjGroup :=
  { first := 0x1000, count := 1, rows :=
    [⟨0x00, 1, 1, .u8, .ro, 1, 18, none⟩,
     ⟨0x01, 1, 1, .u8, .rws, 1, 0, some (0, 3)⟩,
     ⟨0x02, 1, 1, .u8, .ro, 1, 0, none⟩,
     ⟨0x03, 1, 1, .u8, .wo, 1, 0, some (1, 2)⟩,
     ⟨0x04, 1, 1, .u64, .ro, 8, 0, none⟩,
     ⟨0x05, 1, 1, .u16, .rws, 2, 4417, some (1024, 65535)⟩,
     ⟨0x06, 1, 1, .u32, .rws, 4, 0, none⟩,
     ⟨0x07, 1, 1, .blob, .rws, 16, 0, none⟩,
     ⟨0x08, 1, 1, .u32, .rws, 4, 0, none⟩,
     ⟨0x09, 1, 1, .blob, .rws, 16, 0, none⟩,
     ⟨0x0A, 1, 1, .u16, .rws, 2, 9000, none⟩,
     ⟨0x0B, 1, 1, .u64, .ro, 8, 0, none⟩,
     ⟨0x0C, 1, 1, .u32, .ro, 4, 0, none⟩,
     ⟨0x0D, 1, 1, .u32, .ro, 4, 0, none⟩,
     ⟨0x0E, 1, 1, .u64, .ro, 8, 0, none⟩,
     ⟨0x0F, 1, 1, .u32, .ro, 4, 0, none⟩] ++
    [⟨0x10, 1, 1, .u32, .rws, 4, 0, none⟩,
     ⟨0x11, 1, 1, .blob, .rws, 16, 0, none⟩,
     ⟨0x12, 1, 1, .u16, .rws, 2, 6168, none⟩] }

/-- Table 14.9 Session s [1100+s]. -/
def objsSession : ObjGroup :=
  { first := 0x1100, count := 32, rows :=
    [⟨0x00, 1, 1, .u8, .ro, 1, 14, none⟩,
     ⟨0x01, 1, 1, .u8, .rws, 1, 0, some (0, 1)⟩,
     ⟨0x02, 1, 1, .blob, .rws, 16, 0, none⟩,
     ⟨0x03, 1, 1, .u16, .rws, 2, 0, none⟩,
     ⟨0x04, 1, 1, .u16, .rws, 2, 0, some (0, 4094)⟩,
     ⟨0x05, 1, 1, .u8, .rws, 1, 0, some (0, 7)⟩,
     ⟨0x06, 1, 1, .u8, .rws, 1, 0, some (0, 15)⟩,
     ⟨0x07, 1, 1, .u8, .wo, 1, 0, some (1, 1)⟩,
     ⟨0x08, 1, 1, .u32, .ro, 4, 0, none⟩,
     ⟨0x09, 1, 1, .u32, .ro, 4, 0, none⟩,
     ⟨0x0A, 1, 1, .u32, .ro, 4, 0, none⟩,
     ⟨0x0B, 1, 1, .u64, .ro, 8, 0, none⟩,
     ⟨0x0C, 1, 1, .u64, .ro, 8, 0, none⟩,
     ⟨0x0D, 1, 1, .u16, .ro, 2, 0, none⟩,
     ⟨0x0E, 1, 1, .u32, .ro, 4, 0, none⟩] }

/-- Table 14.10 PTP [1200]. -/
def objsPtp : ObjGroup :=
  { first := 0x1200, count := 1, rows :=
    [⟨0x00, 1, 1, .u8, .ro, 1, 16, none⟩,
     ⟨0x01, 1, 1, .u8, .rws, 1, 0, some (0, 3)⟩,
     ⟨0x02, 1, 1, .u8, .rws, 1, 0, some (0, 127)⟩,
     ⟨0x03, 1, 1, .u8, .rws, 1, 0, some (0, 2)⟩,
     ⟨0x04, 1, 1, .u8, .rws, 1, 1, some (0, 1)⟩,
     ⟨0x05, 1, 1, .i8, .rws, 1, 253, some ((-7), 0)⟩,
     ⟨0x06, 1, 1, .i8, .rws, 1, 1, some ((-3), 4)⟩,
     ⟨0x07, 1, 1, .i8, .rws, 1, 253, some ((-7), 0)⟩,
     ⟨0x08, 1, 1, .u8, .rws, 1, 128, some (0, 255)⟩,
     ⟨0x09, 1, 1, .u8, .rws, 1, 128, some (0, 255)⟩,
     ⟨0x0A, 1, 1, .u16, .rws, 2, 0, some (0, 4094)⟩,
     ⟨0x0B, 1, 1, .u16, .rws, 2, 0, some (0, 4094)⟩,
     ⟨0x0C, 1, 1, .u32, .rws, 4, 10000, some (100, 1000000)⟩,
     ⟨0x0D, 1, 1, .u8, .ro, 1, 1, none⟩,
     ⟨0x0E, 1, 1, .u8, .ro, 1, 1, none⟩,
     ⟨0x0F, 1, 1, .u32, .ro, 4, 0, none⟩] ++
    [⟨0x10, 1, 1, .u64, .ro, 8, 0, none⟩] }

/-- Table 14.11 Flow control [1300]. -/
def objsFlow : ObjGroup :=
  { first := 0x1300, count := 1, rows :=
    [⟨0x00, 1, 1, .u8, .ro, 1, 12, none⟩,
     ⟨0x01, 1, 1, .u8, .rws, 1, 5, some (0, 6)⟩,
     ⟨0x02, 1, 1, .u8, .rws, 1, 1, some (0, 1)⟩,
     ⟨0x03, 1, 1, .u32, .rws, 4, 6291456, some (1048576, 7340032)⟩,
     ⟨0x04, 1, 1, .u32, .rws, 4, 4194304, some (524288, 6815744)⟩,
     ⟨0x05, 1, 1, .u32, .rws, 4, 1048576, some (262144, 2097152)⟩,
     ⟨0x06, 1, 1, .u32, .ro, 4, 0, none⟩,
     ⟨0x07, 1, 1, .u32, .rw, 4, 0, none⟩,
     ⟨0x08, 1, 1, .u32, .ro, 4, 0, none⟩,
     ⟨0x09, 1, 1, .u64, .ro, 8, 0, none⟩,
     ⟨0x0A, 1, 1, .blob, .ro, 32, 0, none⟩,
     ⟨0x0B, 1, 1, .u32, .ro, 4, 0, none⟩,
     ⟨0x0C, 1, 1, .u8, .wo, 1, 0, some (1, 1)⟩] }

/-- Table 15.4 Capability entry [0100+i]. -/
def objsCap : ObjGroup :=
  { first := 0x0101, count := 36, rows :=
    [⟨0x00, 1, 1, .u8, .ro, 1, 5, none⟩,
     ⟨0x01, 1, 1, .u16, .ro, 2, 0, none⟩,
     ⟨0x02, 1, 1, .u16, .ro, 2, 256, none⟩,
     ⟨0x03, 1, 1, .u16, .ro, 2, 0, none⟩,
     ⟨0x04, 1, 1, .u16, .ro, 2, 0, none⟩,
     ⟨0x05, 1, 1, .u16, .ro, 2, 0, none⟩] }

/-- Table 15.12 Identity [0000]. -/
def objsIdent : ObjGroup :=
  { first := 0x0000, count := 1, rows :=
    [⟨0x00, 1, 1, .u8, .ro, 1, 8, none⟩,
     ⟨0x01, 1, 1, .str, .ro, 16, 0, none⟩,
     ⟨0x02, 1, 1, .u8, .ro, 1, 16, none⟩,
     ⟨0x03, 1, 1, .str, .ro, 16, 0, none⟩,
     ⟨0x04, 1, 1, .u32, .ro, 4, 0, none⟩,
     ⟨0x05, 1, 1, .u16, .ro, 2, 0, none⟩,
     ⟨0x06, 1, 1, .blob, .ro, 32, 0, none⟩,
     ⟨0x07, 1, 1, .u16, .ro, 2, 256, none⟩,
     ⟨0x08, 1, 1, .time, .ro, 8, 0, none⟩] }

/-- Table 15.13 Module state [0001]. -/
def objsModule : ObjGroup :=
  { first := 0x0001, count := 1, rows :=
    [⟨0x00, 1, 1, .u8, .ro, 1, 8, none⟩,
     ⟨0x01, 1, 1, .u8, .ro, 1, 0, none⟩,
     ⟨0x02, 1, 1, .u8, .wo, 1, 0, some (1, 4)⟩,
     ⟨0x03, 1, 1, .u64, .ro, 8, 0, none⟩,
     ⟨0x04, 1, 1, .u32, .ro, 4, 0, none⟩,
     ⟨0x05, 1, 1, .u8, .ro, 1, 0, none⟩,
     ⟨0x06, 1, 1, .u16, .ro, 2, 0, none⟩,
     ⟨0x07, 1, 1, .u32, .ro, 4, 0, none⟩,
     ⟨0x08, 1, 1, .u8, .ro, 1, 0, none⟩] }

/-- Table 15.14 Transactions [7100]. -/
def objsTxn : ObjGroup :=
  { first := 0x7100, count := 1, rows :=
    [⟨0x00, 1, 1, .u8, .ro, 1, 7, none⟩,
     ⟨0x01, 1, 1, .u16, .ro, 2, 0, none⟩,
     ⟨0x02, 1, 1, .u32, .ro, 4, 0, none⟩,
     ⟨0x03, 1, 1, .u32, .rw, 4, 0, none⟩,
     ⟨0x04, 1, 1, .blob, .ro, 64, 0, none⟩,
     ⟨0x05, 1, 1, .blob, .ro, 512, 0, none⟩,
     ⟨0x06, 1, 1, .u8, .ro, 1, 0, none⟩,
     ⟨0x07, 1, 1, .u32, .ro, 4, 0, none⟩] }

/-- Table 16.10 Faults [7000]. -/
def objsFault : ObjGroup :=
  { first := 0x7000, count := 1, rows :=
    [⟨0x00, 1, 1, .u8, .ro, 1, 18, none⟩,
     ⟨0x01, 1, 1, .u16, .ro, 2, 0, none⟩,
     ⟨0x02, 1, 1, .u8, .ro, 1, 0, none⟩,
     ⟨0x03, 1, 1, .u16, .ro, 2, 0, none⟩,
     ⟨0x04, 1, 1, .u8, .ro, 1, 0, none⟩,
     ⟨0x05, 1, 1, .u8, .ro, 1, 0, none⟩,
     ⟨0x06, 1, 1, .blob, .ro, 128, 0, none⟩,
     ⟨0x07, 1, 1, .u32, .ro, 4, 0, none⟩,
     ⟨0x08, 1, 1, .u8, .ro, 1, 0, none⟩,
     ⟨0x09, 1, 1, .blob, .ro, 2048, 0, none⟩,
     ⟨0x0A, 1, 1, .u64, .ro, 8, 0, none⟩,
     ⟨0x0B, 1, 1, .blob, .ro, 24, 0, none⟩,
     ⟨0x0C, 1, 1, .u8, .ro, 1, 0, none⟩,
     ⟨0x0D, 1, 1, .u16, .ro, 2, 0, none⟩,
     ⟨0x0E, 1, 1, .u32, .ro, 4, 0, none⟩,
     ⟨0x0F, 1, 1, .u32, .wo, 4, 0, none⟩] ++
    [⟨0x10, 1, 1, .u32, .ro, 4, 0, none⟩,
     ⟨0x11, 1, 1, .u32, .ro, 4, 0, none⟩,
     ⟨0x12, 1, 1, .u8, .wo, 1, 0, some (1, 1)⟩] }

/-- Table 17.12 Pair [8000]. -/
def objsPair : ObjGroup :=
  { first := 0x8000, count := 1, rows :=
    [⟨0x00, 1, 1, .u8, .ro, 1, 18, none⟩,
     ⟨0x01, 1, 1, .u8, .ro, 1, 0, none⟩,
     ⟨0x02, 1, 1, .u8, .wo, 1, 0, some (1, 3)⟩,
     ⟨0x03, 1, 1, .u8, .ro, 1, 0, none⟩,
     ⟨0x04, 1, 1, .u8, .ro, 1, 0, none⟩,
     ⟨0x05, 1, 1, .u8, .ro, 1, 0, none⟩,
     ⟨0x06, 1, 1, .u32, .ro, 4, 0, none⟩,
     ⟨0x07, 1, 1, .blob, .ro, 32, 0, none⟩,
     ⟨0x08, 1, 1, .u64, .ro, 8, 0, none⟩,
     ⟨0x09, 1, 1, .u64, .ro, 8, 0, none⟩,
     ⟨0x0A, 1, 1, .u32, .ro, 4, 0, none⟩,
     ⟨0x0B, 1, 1, .u32, .ro, 4, 0, none⟩,
     ⟨0x0C, 1, 1, .u32, .ro, 4, 0, none⟩,
     ⟨0x0D, 1, 1, .u32, .ro, 4, 0, none⟩,
     ⟨0x0E, 1, 1, .u8, .ro, 1, 0, none⟩,
     ⟨0x0F, 1, 1, .time, .ro, 8, 0, none⟩] ++
    [⟨0x10, 1, 1, .u32, .ro, 4, 0, none⟩,
     ⟨0x11, 1, 1, .u32, .rws, 4, 600, some (60, 86400)⟩,
     ⟨0x12, 1, 1, .time, .ro, 8, 0, none⟩] }

/-- Table 17.13 Manifest [8100]. -/
def objsManifest : ObjGroup :=
  { first := 0x8100, count := 1, rows :=
    [⟨0x00, 1, 1, .u8, .ro, 1, 7, none⟩,
     ⟨0x01, 1, 1, .u16, .ro, 2, 256, none⟩,
     ⟨0x02, 1, 1, .blob, .rw, 512, 0, none⟩,
     ⟨0x03, 1, 1, .blob, .ro, 512, 0, none⟩,
     ⟨0x04, 1, 1, .u8, .wo, 1, 0, some (1, 2)⟩,
     ⟨0x05, 1, 1, .u16, .ro, 2, 0, none⟩,
     ⟨0x06, 1, 1, .u16, .ro, 2, 26624, none⟩,
     ⟨0x07, 1, 1, .u32, .ro, 4, 0, none⟩] }

/-- Table 18.6 Recorder [7200]. -/
def objsRecorder : ObjGroup :=
  { first := 0x7200, count := 1, rows :=
    [⟨0x00, 1, 1, .u8, .ro, 1, 16, none⟩,
     ⟨0x01, 1, 1, .u32, .ro, 4, 1048576, none⟩,
     ⟨0x02, 1, 1, .u32, .ro, 4, 0, none⟩,
     ⟨0x03, 1, 1, .u32, .ro, 4, 0, none⟩,
     ⟨0x04, 1, 1, .u32, .ro, 4, 0, none⟩,
     ⟨0x05, 1, 1, .u32, .rw, 4, 0, none⟩,
     ⟨0x06, 1, 1, .blob, .ro, 8192, 0, none⟩,
     ⟨0x07, 1, 1, .blob, .ro, 0, 0, none⟩,
     ⟨0x08, 1, 1, .u8, .rws, 1, 8, some (1, 255)⟩,
     ⟨0x09, 1, 1, .u16, .rws, 2, 1000, some (100, 60000)⟩,
     ⟨0x0A, 1, 1, .u32, .ro, 4, 0, none⟩,
     ⟨0x0B, 1, 1, .u32, .ro, 4, 0, none⟩,
     ⟨0x0C, 1, 1, .u32, .ro, 4, 0, none⟩,
     ⟨0x0D, 1, 1, .u32, .ro, 4, 0, none⟩,
     ⟨0x0E, 1, 1, .time, .ro, 8, 0, none⟩,
     ⟨0x0F, 1, 1, .u32, .sec, 4, 0, none⟩] ++
    [⟨0x10, 1, 1, .u8, .wo, 1, 0, some (1, 1)⟩] }

/-- Table 19.6 Calibration [9000]. -/
def objsCal : ObjGroup :=
  { first := 0x9000, count := 1, rows :=
    [⟨0x00, 1, 1, .u8, .ro, 1, 14, none⟩,
     ⟨0x01, 1, 1, .u16, .ro, 2, 1088, none⟩,
     ⟨0x02, 1, 1, .u8, .wo, 1, 0, some (1, 4)⟩,
     ⟨0x03, 1, 1, .u8, .rws, 1, 3, some (0, 15)⟩,
     ⟨0x04, 1, 1, .u16, .ro, 2, 1088, none⟩,
     ⟨0x05, 1, 1, .u16, .ro, 2, 0, none⟩,
     ⟨0x06, 1, 1, .f32, .rws, 4, 1056964608, some (13421773 / 268435456, 2)⟩,
     ⟨0x07, 1, 1, .f32, .rws, 4, 990057071, some (8589935 / 17179869184, 5368709 / 536870912)⟩,
     ⟨0x08, 1, 1, .u32, .ro, 4, 0, none⟩,
     ⟨0x09, 1, 1, .u32, .ro, 4, 0, none⟩,
     ⟨0x0A, 1, 1, .blob, .rw, 0, 0, none⟩,
     ⟨0x0B, 1, 1, .u32, .ro, 4, 0, none⟩,
     ⟨0x0C, 1, 1, .time, .ro, 8, 0, none⟩,
     ⟨0x0D, 1, 1, .time, .ro, 8, 0, none⟩,
     ⟨0x0E, 1, 1, .u32, .ro, 4, 0, none⟩] }

/-- Table 19.7 Calibration of tray t [9100+t]. -/
def objsCalTray : ObjGroup :=
  { first := 0x9100, count := 16, rows :=
    [⟨0x00, 1, 1, .u8, .ro, 1, 10, none⟩,
     ⟨0x01, 1, 1, .blob, .ro, 32, 0, none⟩,
     ⟨0x02, 1, 1, .blob, .ro, 32, 0, none⟩,
     ⟨0x03, 1, 1, .blob, .ro, 68, 0, none⟩,
     ⟨0x04, 1, 1, .f32, .rws, 4, 0, none⟩,
     ⟨0x05, 1, 1, .f32, .rws, 4, 0, none⟩,
     ⟨0x06, 1, 1, .f32, .rws, 4, 0, none⟩,
     ⟨0x07, 1, 1, .f32, .rws, 4, 0, none⟩,
     ⟨0x08, 1, 1, .blob, .ro, 64, 0, none⟩,
     ⟨0x09, 1, 1, .blob, .ro, 64, 0, none⟩,
     ⟨0x0A, 1, 1, .blob, .ro, 64, 0, none⟩] }

/-- Table 20.9 Security [A000]. -/
def objsSec : ObjGroup :=
  { first := 0xA000, count := 1, rows :=
    [⟨0x00, 1, 1, .u8, .ro, 1, 22, none⟩,
     ⟨0x01, 1, 1, .u8, .ro, 1, 0, none⟩,
     ⟨0x02, 1, 1, .u8, .wo, 1, 0, some (1, 3)⟩,
     ⟨0x03, 1, 1, .blob, .ro, 32, 0, none⟩,
     ⟨0x04, 1, 1, .u32, .ro, 4, 0, none⟩,
     ⟨0x05, 1, 1, .u32, .ro, 4, 0, none⟩,
     ⟨0x06, 1, 1, .u8, .ro, 1, 0, none⟩,
     ⟨0x07, 1, 1, .blob, .ro, 12288, 0, none⟩,
     ⟨0x08, 1, 1, .u16, .ro, 2, 0, none⟩,
     ⟨0x09, 1, 1, .blob, .ro, 32, 0, none⟩,
     ⟨0x0A, 1, 1, .blob, .sec, 48, 0, none⟩,
     ⟨0x0B, 1, 1, .u64, .ro, 8, 0, none⟩,
     ⟨0x0C, 1, 1, .u8, .ro, 1, 0, none⟩,
     ⟨0x0D, 1, 1, .u32, .ro, 4, 0, none⟩,
     ⟨0x0E, 1, 1, .u32, .ro, 4, 0, none⟩,
     ⟨0x0F, 1, 1, .u32, .rw, 4, 0, none⟩] ++
    [⟨0x10, 1, 1, .blob, .wo, 8192, 0, none⟩,
     ⟨0x11, 1, 1, .u8, .ro, 1, 0, none⟩,
     ⟨0x12, 1, 1, .u32, .ro, 4, 0, none⟩,
     ⟨0x13, 1, 1, .u32, .sec, 4, 0, none⟩,
     ⟨0x14, 1, 1, .u8, .sec, 1, 0, some (0, 3)⟩,
     ⟨0x15, 1, 1, .u32, .ro, 4, 0, none⟩,
     ⟨0x16, 1, 1, .u32, .ro, 4, 0, none⟩] }

/-- Every object table. The indices of the groups do not overlap. -/
def objGroups : List ObjGroup :=
  [objsBusLoop, objsPhases, objsEdge, objsTray, objsAlloc, objsTowpath,
   objsEst, objsShelfEst, objsImp, objsFcast, objsSched, objsGov,
   objsPart, objsOpWin, objsFeed, objsRect, objsGrid, objsGate,
   objsEvent, objsSlot, objsDryDock, objsTime, objsCapture, objsPort,
   objsSession, objsPtp, objsFlow, objsCap, objsIdent, objsModule,
   objsTxn, objsFault, objsPair, objsManifest, objsRecorder, objsCal,
   objsCalTray, objsSec]

/-- The table row of an object, by index and subindex. -/
def objRow (index sub : Nat) : Option ObjRow :=
  match objGroups.find? (fun g => decide (g.first ≤ index) && decide (index < g.first + g.count)) with
  | none => none
  | some g => g.rows.find? (fun r =>
      decide (r.sub ≤ sub) && decide ((sub - r.sub) % r.stride = 0) && decide ((sub - r.sub) / r.stride < r.reps))

/-- The raw default of an object (R422). The enable and rights of session 0 differ from the other sessions'. -/
def objDefault (index sub : Nat) : Nat :=
  if index = 0x1100 ∧ sub = 0x01 then 1
  else if index = 0x1100 ∧ sub = 0x06 then 0x0F
  else if 0x6100 ≤ index ∧ index ≤ 0x6114 ∧ sub = 0x0D then 1
  else match objRow index sub with
    | some r => r.dflt
    | none => 0

end Sys2Proof.Machine
end

