-- ==== Sys2Proof/Machine/StateCore.lean ====
section
/-! DEFINITION. State of the parts every chapter uses: what the module sends, the object dictionary and its flash
store (chapter 15), the transactions, the fault manager (chapter 16), the event recorder (chapter 18), the module
hardware (chapter 21). -/

namespace Sys2Proof.Machine

/-- The PTP messages that leave J1 (Table 14.2). -/
inductive PtpKind where
  | sync | followUp | delayReq | delayResp | announce
deriving DecidableEq, Repr

/-- A PTP message sent (Table 14.2): its transport [1200.03], VLAN ID, domain, sequence, two-step flag, clockClass and
priorities served, the time it carries, and of a Delay_Resp the port identity of the Delay_Req it answers. -/
structure PtpSend where
  kind : PtpKind
  transport : Nat
  vlan : Nat
  domain : Nat
  seq : Nat
  twoStep : Bool
  cls : Nat
  prio1 : Nat
  prio2 : Nat
  time : Int
  peer : Nat
deriving DecidableEq, Repr

/-- What the module sends on one of its connectors, oldest first in `State.tx`. No rule reads it back. -/
inductive Tx where
  /-- A frame on the paddle link of tray t (Table 3.9). -/
  | paddle (t : Nat) (frame : Bytes)
  /-- A frame from the north or the south port of ring t (Table 5.3). -/
  | towpath (t : Nat) (south : Bool) (frame : Bytes)
  /-- A CAN FD frame: port, identifier, data (chapter 09). -/
  | can (port : Nat) (id : Nat) (data : Bytes)
  /-- A Trasia frame of a session, header and payload, with its priority code point (R391, R398). -/
  | trasia (ses pcp : Nat) (frame : Bytes)
  /-- What a read of a block object gives a session that no frame asked for here (R494). -/
  | blockData (ses index sub : Nat) (data : Bytes)
  /-- A PFC frame that pauses a priority for some quanta (R404). -/
  | pfc (priority quanta : Nat)
  /-- A PTP message, with PCP 7 (Table 14.2). -/
  | ptp (m : PtpSend)
  /-- An ARP or Neighbour Discovery frame that gives the module's MAC address for an address (R388). -/
  | neighbour (v6 announce : Bool) (address : Nat)
  /-- A frame on the pair link (chapter 17). -/
  | pair (frame : Bytes)
  /-- A line on the console (R545). -/
  | console (line : Bytes)
  /-- A barge on the mesh (Table 10.3). -/
  | barge (frame : Bytes)
  /-- The gate interrupt of a keeper core, for a wait released into one of its registers (R323). -/
  | gateInterrupt (core reg : Nat)
  /-- The interrupt of a keeper core for a fast delivery (R338). -/
  | eventInterrupt (core : Nat)
  /-- The value a core reads at TAKE or POP (R336, R337). -/
  | eventWord (core : Nat) (word : Nat)
deriving DecidableEq, Repr

/-- The object dictionary's values and their store (R414, R422 to R424). -/
structure Od where
  /-- Raw values that differ from their default, by index × 256 + subindex. -/
  values : List (Nat × Nat)
  /-- The stored copies in flash, in the same form. -/
  flash : List (Nat × Nat)
  /-- Values not yet in flash and the time of the write that changed each. -/
  stores : List (Nat × Nat)
  /-- Those whose last try failed, and when (R423). -/
  storeFailed : List (Nat × Nat)
  /-- Per-session values of R420, by session × 2^24 + key. -/
  windows : List (Nat × Nat)
  storeFails : Nat
  restoreMark : Bool
  opSeconds : Nat
  powerCycles : Nat
  resetCause : Nat
deriving DecidableEq, Repr

/-- A transaction record (Table 15.6); `done` has bit i set when element i has completed. Ids are issued per module: that of
a record carried from the partner stands above 2^32 here, apart from the module's own (R429, R435). -/
structure Txn where
  id : Nat
  kind : Nat
  st : Nat
  session : Nat
  flags : Nat
  object : Nat
  arg : Nat
  requested : Nat
  done : Nat
  /-- Elements completed of a carried record that does not tell which. -/
  count : Option Nat
  cause : Nat
  cycles : Nat
  opened : Nat
  closed : Nat
  seq : Nat
deriving DecidableEq, Repr

/-- The transactions of [7100] (R429 to R435). -/
structure Txns where
  /-- Oldest first, at most 256. -/
  recs : List Txn
  /-- The copies in flash (R434). -/
  flash : List Txn
  /-- Highest id issued; kept across resets. -/
  highest : Nat
  /-- Last id opened by each session ([7100.02]). -/
  lastBy : List Nat
deriving DecidableEq, Repr

/-- A raise on its way to keeper core 1, or waiting there (R444 to R450). -/
structure Raise where
  code : Nat
  inst : Nat
  /-- Code of the handler running at the raise; 0 none (R450). -/
  ctx : Nat
  /-- When its condition was met. -/
  at_ : Nat
  /-- The record's data field, bytes 32 on (Table 18.2). -/
  data : Bytes
  /-- Occurrences, coalesced raises included (R448). -/
  count : Nat
  /-- Processing of its handler before the last suspension, ns, and whether it has overrun (R451). -/
  used : Nat := 0
  overran : Bool := false
deriving DecidableEq, Repr

/-- An entry of the active list (Table 16.6). -/
structure Active where
  code : Nat
  inst : Nat
  sev : Nat
  gone : Bool
  acked : Bool
  foCause : Bool
  notHandled : Bool
  count : Nat
  first : Nat
deriving DecidableEq, Repr

/-- The fault manager (R444 to R457). -/
structure Fm where
  /-- Raises not yet delivered (Table 16.4). -/
  inFlight : List Raise
  running : Option Raise
  /-- When the running handler started or resumed. -/
  ranFrom : Nat
  /-- Suspended handlers, top first. -/
  stack : List Raise
  /-- By severity, then by raise. -/
  queue : List Raise
  /-- The reserved slot of 0005h with the discarded raise it records (R449). -/
  reserved : Option (Raise × Raise)
  /-- The discarded raise of a 0005h handler already running. -/
  discarded : Option Raise
  active : List Active
  raised : Nat
  bySev : List Nat
  discards : Nat
  coalesced : Nat
  refusals : Nat
  overruns : Nat
  /-- FAULT_OUT asserted (R453). -/
  faultOut : Bool
  faultOutCause : Nat
  /-- The last shelf time each of the four keeper cores wrote its watchdog (R455). -/
  watchdog : List Nat
deriving DecidableEq, Repr

/-- A rate window of the recorder (R490). -/
structure RateWindow where
  code : Nat
  inst : Nat
  opened : Nat
  written : Nat
  suppressed : Nat
  lastCtx : Nat
  lastAt : Nat
deriving DecidableEq, Repr

/-- The event recorder (R485 to R499). Records are held as their 64 bytes. -/
structure Rec where
  /-- The staging buffer, oldest first, at most 64. -/
  staged : List Bytes
  /-- Segments holding records, the one being filled last; each at most 2,048 records, at most 512 segments. -/
  segs : List (List Bytes)
  nextSeq : Nat
  clearMark : Nat
  lastClear : Nat
  suppressed : Nat
  lost : Nat
  /-- A run of losses is on (R487). -/
  losing : Bool
  /-- When the flash write of the oldest staged record failed (R499). -/
  failedAt : Option Nat
  reclaimed : Nat
  windows : List RateWindow
  /-- Sequences whose CRC failure has been reported (R495). -/
  crcWarned : List Nat
  /-- Raises that a code and instance had without a record since its last one (Table 18.1, offset 28). -/
  unrecorded : List (Nat × Nat)
deriving DecidableEq, Repr

/-- What the board is doing (R519, R538, R549, R552). -/
inductive Phase0 where
  | off | rom | loader | starting | firmware
deriving DecidableEq, Repr

/-- The boundary-scan logic (R546): held in reset whatever SCAN_RST_N says and deaf to its pins, or operable. -/
inductive Scan where
  | held | operable
deriving DecidableEq, Repr

/-- The module hardware (chapter 21). -/
structure Hw where
  phase : Phase0
  /-- Every discrete output is released and every transmitter silent (R538, R549, R555). -/
  released : Bool
  /-- When the power-fail sequence started (R549). -/
  powerFail : Option Nat
  /-- Consecutive measurements with both feeds below 40 V. -/
  lowCount : Nat
  /-- Since when each feed reads at or above 42 V (R550). -/
  feedGood : List (Option Nat)
  /-- J2_MATE reads high: J2 is not mated. -/
  withdrawn : Bool
  scan : Scan
  thermalOff : Bool
  junction : Rat
  inlet : Rat
  /-- The warnings of the junction and of the inlet, each with its own hysteresis (R551). -/
  warnJ : Bool
  warnI : Bool
  /-- Since when 000Ah holds (R551). -/
  over110 : Option Nat
  /-- Since when the junction is below 85 °C after a thermal shutdown (R552). -/
  coolSince : Option Nat
  /-- 000Ah is recorded at the next start, with the time its condition was met (R552). -/
  recordThermal : Option Nat
  /-- 0006h is recorded at the next start with this core and its last write (R455). -/
  recordWatchdog : Option (Nat × Nat)
deriving DecidableEq, Repr

/-- Nothing written, nothing pending. -/
def Od.reset : Od :=
  { values := [], flash := [], stores := [], storeFailed := [], windows := [], storeFails := 0, restoreMark := false,
    opSeconds := 0, powerCycles := 0, resetCause := 0 }

/-- No records. -/
def Txns.reset : Txns := { recs := [], flash := [], highest := 0, lastBy := List.replicate 32 0 }

/-- Idle, FAULT_OUT released. -/
def Fm.reset : Fm :=
  { inFlight := [], running := none, ranFrom := 0, stack := [], queue := [], reserved := none, discarded := none, active := [],
    raised := 0, bySev := List.replicate 6 0, discards := 0, coalesced := 0, refusals := 0, overruns := 0,
    faultOut := false, faultOutCause := 0, watchdog := List.replicate 4 0 }

/-- An empty recorder. -/
def Rec.reset : Rec :=
  { staged := [], segs := [], nextSeq := 1, clearMark := 0, lastClear := 0, suppressed := 0, lost := 0,
    losing := false, failedAt := none, reclaimed := 0, windows := [], crcWarned := [], unrecorded := [] }

/-- In the boot ROM with every output released (R538). -/
def Hw.reset : Hw :=
  { phase := .rom, released := true, powerFail := none, lowCount := 0, feedGood := [none, none], withdrawn := false,
    scan := .held,
    thermalOff := false, junction := 0, inlet := 0, warnJ := false, warnI := false, over110 := none,
    coolSince := none, recordThermal := none, recordWatchdog := none }

end Sys2Proof.Machine
end

