-- ==== Sys2Proof/Machine/StateFeed.lean ====
section
/-! DEFINITION. State of the feed interface (chapter 09): powers in kW, currents in A on the bus side, times in ns. -/

namespace Sys2Proof.Machine

/-- Feed group states (Table 9.4). -/
inductive GroupSt where
  | disabled | present | dip | absent | returning
deriving DecidableEq, Repr

/-- One feed group and its CAN port. -/
structure Group where
  st : GroupSt
  since : Nat
  ceiling : Rat
  /-- Since when the input is back, in ABSENT. -/
  back : Option Nat
  /-- The port is bus-off or error-passive; STATUS frames counted since (Table 9.6). -/
  portDown : Bool
  good : Nat
  /-- Sequence of the next COMMAND frame. -/
  seq : Nat
  /-- K_g and the members with their a_r at the last refresh (R266). -/
  lastK : Rat
  members : List (Nat × Rat)
deriving DecidableEq, Repr

/-- One rectifier. -/
structure Rect where
  /-- Register 0001h as read: current-command mode or another; none before a reply (R264). -/
  mode : Option Bool
  seen : Bool
  silent : Bool
  /-- Command c_r in force. -/
  cmd : Rat
  /-- î_r: its value at `baseAt`, A per ns from then until `until_` (R269). -/
  base : Rat
  baseAt : Nat
  slope : Rat
  until_ : Nat
  iOut : Rat
  vOut : Rat
  vIn : Rat
  freq : Rat
  /-- a_r, and the last one reported with input OK. -/
  avail : Rat
  availOk : Rat
  temp : Int
  flags : Nat
  ok : Bool
  applied : Nat
  statusAt : Nat
deriving DecidableEq, Repr

/-- The feed interface (R261 to R278). -/
structure Feed where
  groups : List Group
  rects : List Rect
  pRef : Rat
  pTgt : Rat
  pSoc : Rat
  /-- ΣK as published at the last epoch cut. -/
  pFd : Rat
  iRect : Rat
  /-- ṙ, A per µs. -/
  slope : Rat
  /-- Σ c_r of the last refresh. -/
  sumC : Rat
  refreshAt : Option Nat
  /-- Periods since the last refresh, and those with sat +1 and −1. -/
  periods : Nat
  satPos : Nat
  satNeg : Nat
  override : Bool
  overrides : Nat
  /-- Both groups are reported absent (R273). -/
  both : Bool
  /-- Rack load P_L by 10 µs step, newest first, kept 600 s: end of the step, kW (R196, R239, R265). -/
  load : List (Nat × Rat)
  /-- Auxiliary feeds, 0.01 V, and consecutive measurements outside 40–60 V. -/
  aux : List Nat
  auxRun : List Nat
deriving DecidableEq, Repr

/-- DISABLED at power-up. -/
def Group.reset : Group :=
  { st := .disabled, since := 0, ceiling := 0, back := none, portDown := false, good := 0, seq := 0, lastK := 0,
    members := [] }

/-- Absent, nothing received. -/
def Rect.reset : Rect :=
  { mode := none, seen := false, silent := false, cmd := 0, base := 0, baseAt := 0, slope := 0, until_ := 0, iOut := 0,
    vOut := 0, vIn := 0, freq := 0, avail := 0, availOk := 0, temp := 0, flags := 0, ok := false, applied := 0,
    statusAt := 0 }

/-- Both groups DISABLED, nothing commanded. -/
def Feed.reset : Feed :=
  { groups := List.replicate 2 Group.reset, rects := List.replicate 48 Rect.reset, pRef := 0, pTgt := 0, pSoc := 0,
    pFd := 0, iRect := 0, slope := 0, sumC := 0, refreshAt := none, periods := 0, satPos := 0, satNeg := 0,
    override := false, overrides := 0, both := false, load := [], aux := [0, 0], auxRun := [0, 0] }

end Sys2Proof.Machine
end

