-- ==== Sys2Proof/Machine/StateGates.lean ====
section
/-! DEFINITION. State of the gate array and of the event controller (chapter 11). -/

namespace Sys2Proof.Machine

/-- The state of one gate (Table 11.1); its waits are in `Gates.waits`. -/
structure Gate where
  count : Nat
  target : Nat
  /-- 0 counter, 1 barrier, 2 token, 3 latch. -/
  mode : Nat
  /-- 0 IDLE, 1 ARMED, 2 RELEASED. -/
  barrier : Nat
  sat : Bool
  drain : Bool
  /-- 0 free, 1 firmware, 2 governor, 3 slot, 4 session. -/
  kind : Nat
  owner : Nat
  route : Nat
  gen : Nat
deriving DecidableEq, Repr

/-- A block of gates allocated together (R327); `holes` were freed by an uncorrectable word (Table 11.10). -/
structure GateBlock where
  base : Nat
  n : Nat
  mode : Nat
  kind : Nat
  owner : Nat
  holes : List Nat
deriving DecidableEq, Repr

/-- A wait outstanding (R321, R322): its core's wait register and what its release carries. -/
structure GateWait where
  who : Party
  core : Nat
  reg : Nat
  g : Nat
  v : Nat
  slot : Nat
  channel : Nat
  tag : Nat
deriving DecidableEq, Repr

/-- The gate array (R313 to R329). -/
structure Gates where
  /-- Gates whose state is not that of their allocation, by number, rising. -/
  gates : List (Nat × Gate)
  /-- Blocks of gates 2048 to 65535, bases rising. -/
  blocks : List GateBlock
  /-- In order of arrival at the array. -/
  waits : List GateWait
  /-- The wait registers of the keeper cores, 16 × keeper core + register: v and status (R323). -/
  keeper : List (Nat × Int)
  /-- Last allocation base of each session (R328). -/
  lastBase : List Nat
  refused : Nat
  refTimes : List Nat
  upRef : Bool
  excess : Nat
  drains : Nat
deriving DecidableEq, Repr

/-- A delivery record (R335). -/
structure EvRec where
  src : Nat
  /-- 0 level, 1 rising, 2 falling. -/
  kind : Nat
  seq : Nat
  at_ : Nat
deriving DecidableEq, Repr

/-- The event controller and the register banks of the 68 cores (R330 to R340). Stores are rising in their keys; a
core and source are keyed 1,024 × core + source. -/
structure Events where
  /-- Configuration words that differ from the ones at start. -/
  cfg : List (Nat × Nat)
  /-- Sources whose last sensed level is high, and sequence numbers. -/
  high : List Nat
  seq : List (Nat × Nat)
  /-- Shelf time of each source's last sensed change. -/
  at_ : List (Nat × Nat)
  /-- Normal banks: pending deliveries, sources in service, RECORD of each core (Table 11.7). -/
  pending : List (Nat × EvRec)
  service : List Nat
  taken : List EvRec
  /-- Fast queues, HEAD first, and deliveries the controller holds for a full queue (R337). -/
  fast : List (List EvRec)
  held : List (Nat × EvRec)
  overflow : List Nat
  /-- Mask writes that can still let in a delivery: source, time, core (R340). -/
  masks : List (Nat × Nat)
  delivered : Nat
  coalesced : Nat
  maskWin : Nat
  routesCleared : Nat
  refusals : Nat
  refTimes : List Nat
  upRef : Bool
deriving DecidableEq, Repr

/-- A free gate reads as zeros (R314). -/
def Gate.free : Gate :=
  { count := 0, target := 0, mode := 0, barrier := 0, sat := false, drain := false, kind := 0, owner := 0, route := 0,
    gen := 0 }

/-- Gates 0 to 2047 belong to the firmware, all others are free. -/
def Gates.reset : Gates :=
  { gates := [], blocks := [], waits := [], keeper := List.replicate 64 (0, 0), lastBase := List.replicate 32 0, refused := 0,
    refTimes := [], upRef := false, excess := 0, drains := 0 }

/-- A register that holds no record yet. -/
def EvRec.zero : EvRec := { src := 0, kind := 0, seq := 0, at_ := 0 }

/-- Every source low, nothing pending. -/
def Events.reset : Events :=
  { cfg := [], high := [], seq := [], at_ := [], pending := [], service := [], taken := List.replicate 68 EvRec.zero,
    fast := List.replicate 68 [], held := [], overflow := List.replicate 68 0, masks := [], delivered := 0,
    coalesced := 0, maskWin := 0, routesCleared := 0, refusals := 0, refTimes := [], upRef := false }

end Sys2Proof.Machine
end

