-- ==== Sys2Proof/Machine/StateGov.lean ====
section
/-! DEFINITION. State of the rack governor (chapter 08): powers in kW unless a field says otherwise. -/

namespace Sys2Proof.Machine

/-- Governor states ([5000.01]). -/
inductive GovSt where
  | off | run | ride | blind
deriving DecidableEq, Repr

/-- Chip states (Table 8.6). -/
inductive ChipSt where
  | absent | loading | ready | admitted | silent | refused
deriving DecidableEq, Repr

/-- One accelerator that is or was known; an unlisted chip is `Chip.reset`. -/
structure Chip where
  st : ChipSt
  /-- The report slot (Table 8.3), 112 bytes, or none yet. -/
  slot : Bytes
  lastAt : Nat
  /-- When its last accepted report came (R244). -/
  repAt : Option Nat
  /-- Points written since it left ABSENT. -/
  written : List Nat
  /-- Its table failed the check of R247 in the partition it is in. -/
  outside : Bool
  /-- Averaged slack, ns, and closed flights it has arrived in (R252, R253). -/
  slack : Rat
  flights : Nat
  /-- Energy counter at its last report counted (R256). -/
  energy : Option Nat
  /-- Its point at the last cut. -/
  point : Nat
  /-- It has reported since takeover (R257). -/
  reported : Bool
  /-- It has sent a departing report since (R235). -/
  gone : Bool
  /-- Partition at the last cut; 64 none. -/
  part : Nat
deriving DecidableEq, Repr

/-- A flight gate: the flight it was armed for last, the chips its target counts, chips that join later (R249), the
arrivals (chip, ingress time). -/
structure Flight where
  n : Nat
  members : List Nat
  barred : List Nat
  arrivals : List (Nat × Nat)
  /-- Its gate counts no longer: a restart or a takeover lost it, and it closes by time (Tables 10.8 and 17.8), the
  timeout of R252 running from its first arrival or from `openAt`. -/
  byTime : Bool
  openAt : Option Nat
deriving DecidableEq, Repr

/-- One partition (Table 8.11). -/
structure Partition where
  first : Nat
  last : Nat
  /-- 0 Bounded, 1 Fixed, FFh unused. -/
  cls : Nat
  fixed : Nat
  point : Nat
  fMean : Rat
  budget : Rat
  kappa : Rat
  /-- Current flight n. -/
  flight : Nat
  /-- Gates of even and of odd flights. -/
  gates : List Flight
  spread : Nat
  closed : Nat
  timedOut : Nat
  raised : Nat
  lowered : Nat
  energy : Nat
  /-- Energy by epoch, newest first: time of the cut, mJ over the epoch (R243). -/
  history : List (Nat × Rat)
  epochEnergy : Rat
  /-- 0708h stands for it. -/
  up708 : Bool
deriving DecidableEq, Repr

/-- A grant (Table 8.2): power cap in mW. -/
structure Grant where
  chip : Nat
  epoch : Nat
  cap : Nat
  point : Nat
  part : Nat
  cls : Nat
  flags : Nat
deriving DecidableEq, Repr

/-- The governor (R226 to R257). -/
structure Gov where
  st : GovSt
  /-- Known chips, by number, rising. -/
  chips : List (Nat × Chip)
  /-- Operating-point entries written, by 32 × chip + point: voltage, frequency, power, flags as 8 bytes (Table 8.5). -/
  points : List (Nat × Nat)
  parts : List Partition
  /-- Command 3 waits for its cut: the session that wrote it (R248). -/
  commit : Option Nat
  epoch : Nat
  cutAt : Option Nat
  pCap : Rat
  bGov : Rat
  pUng : Rat
  trim : Rat
  fHi : Rat
  pPk : Rat
  up702 : Bool
  up703 : Bool
  grants : List Grant
  accepted : Nat
  stray : Nat
  dropped : Nat
  energy : Nat
  writeTxn : Nat
  /-- First flight gate (R250); 0 before they are allocated. -/
  gateBase : Nat
  /-- Chips whose next grant asks for their table, an entry of it having been lost in memory (R305). -/
  lostTables : List Nat
deriving DecidableEq, Repr

/-- ABSENT. -/
def Chip.reset : Chip :=
  { st := .absent, slot := [], lastAt := 0, repAt := none, written := [], outside := false, slack := 0, flights := 0, energy := none,
    point := 0, reported := false, gone := false, part := 64 }

/-- A gate not armed. -/
def Flight.reset (n : Nat) : Flight := { n := n, members := [], barred := [], arrivals := [], byTime := false, openAt := none }

/-- Unused. -/
def Partition.reset : Partition :=
  { first := 0, last := 0, cls := 0xFF, fixed := 31, point := 0, fMean := 0, budget := 0, kappa := 1, flight := 0,
    gates := [Flight.reset 0, Flight.reset 1], spread := 0, closed := 0, timedOut := 0, raised := 0, lowered := 0,
    energy := 0, history := [], epochEnergy := 0, up708 := false }

/-- Off, every chip ABSENT. -/
def Gov.reset : Gov :=
  { st := .off, chips := [], points := [], parts := List.replicate 64 Partition.reset, commit := none, epoch := 0,
    cutAt := none, pCap := 0, bGov := 0, pUng := 0, trim := 0, fHi := 0, pPk := 0, up702 := false, up703 := false,
    grants := [], accepted := 0, stray := 0, dropped := 0, energy := 0, writeTxn := 0, gateBase := 0,
    lostTables := [] }

end Sys2Proof.Machine
end

