-- ==== Sys2Proof/Machine/StateGrid.lean ====
section
/-! DEFINITION. State of the control grid (chapter 10), the program slots and dry dock (chapter 12). Tags are shelf
time in µs modulo 2^32, or a stage's own firing count. Memories are sparse stores of (address, byte), addresses
rising, a byte of 0 not listed (log entry 5). -/

namespace Sys2Proof.Machine

/-- A barge waiting for its ACK (R287); `sends` 0 while its source's send buffer is full (R289). -/
structure Unacked where
  src : Nat
  dst : Nat
  seq : Nat
  frame : Bytes
  sends : Nat
  at_ : Nat
deriving DecidableEq, Repr

/-- What is kept for an ordered pair of endpoints: the next sequence sent, the next one expected, barges ahead of it
(R288). -/
structure PairSeq where
  src : Nat
  dst : Nat
  next : Nat
  expect : Nat
  held : List (Nat × Bytes)
deriving DecidableEq, Repr

/-- The grid (R281 to R309). -/
structure Grid where
  unacked : List Unacked
  pairs : List PairSeq
  sent : Nat
  retries : Nat
  retryTimes : List Nat
  up908 : Bool
  voids : Nat
  overruns : Nat
  discarded : Nat
  corrected : Nat
  /-- Corrections of the last hour: time and count. -/
  corrTimes : List (Nat × Nat)
  up901 : Bool
  uncorrected : Nat
  lastBad : Nat
  restarts : Nat
  failed : List Nat
  /-- Firmware slots restarting (R306). -/
  restarting : List Nat
  /-- Those of them that a step of shelf time restarts, without a fault (R369). -/
  quiet : List Nat
  /-- Stages of firmware slots whose present period is void: slot and stage (R303). -/
  fwVoid : List (Nat × Nat)
  /-- Core SRAM, by 2^18 × core + address; LPDDR4X, by 2^32 × channel + address. -/
  sram : List (Nat × Byte)
  ddr : List (Nat × Byte)
  tickAt : Option Nat
deriving DecidableEq, Repr

/-- Slot states (Table 12.2). -/
inductive SlotSt where
  | empty | loading | loaded | bound | fault | refused
deriving DecidableEq, Repr

/-- An input that waits for its period (R297). -/
structure StageIn where
  stage : Nat
  tag : Nat
  channel : Nat
  data : Bytes
deriving DecidableEq, Repr

/-- One stage of a bound slot. -/
structure StageRt where
  /-- Tag of the last period fired or voided; none since binding. -/
  last : Option Nat
  /-- Periods voided ahead of it. -/
  ahead : List Nat
  /-- Consecutive voids (R357). -/
  run : Nat
  sat : Bool
  digest : Nat
  /-- Its last output on each channel, for delayed channels (R349). -/
  fired : Nat
deriving DecidableEq, Repr

/-- A binding entry of a slot (R354): channel, peer kind, peer number, peer channel and the last two bytes. -/
structure Binding where
  chan : Nat
  kind : Nat
  peer : Nat
  peerChan : Nat
  zero : Nat
deriving DecidableEq, Repr

/-- What a program has while it is placed on cores: also dry dock's copy. -/
structure Running where
  width : Nat
  height : Nat
  first : Nat
  /-- First gate of each of its gate blocks, with its size. -/
  gates : List (Nat × Nat)
  stages : List StageRt
  inputs : List StageIn
  /-- Keeper calls being answered: tag and gate (R308). -/
  calls : List (Nat × Nat)
  callN : Nat
  /-- Tag of the first period after binding (R349). -/
  origin : Nat
deriving DecidableEq, Repr

/-- A program slot ([6100+n]). -/
structure Slot where
  st : SlotSt
  blocks : List (Nat × Bytes)
  txn : Nat
  rt : Option Running
  voids : Nat
  firings : Nat
  results : List (Nat × Bytes)
  cause : Nat
  /-- Tag of the period at whose end the next checkpoint is taken (Table 12.9). -/
  checkAt : Nat
  /-- The bindings of the last command 2 (R353, Table 12.12). -/
  binds : List Binding
  /-- Last digests of a firmware slot's stages ([6100+n.11]). -/
  digests : List Nat
deriving DecidableEq, Repr

/-- Dry-dock states ([6A00.01]). -/
inductive DockSt where
  | idle | placing | running | diverged | complete | stopped
deriving DecidableEq, Repr

/-- Dry dock (R358, R359). -/
structure Dock where
  st : DockSt
  slot : Nat
  source : Nat
  image : Bytes
  /-- Position of the checkpoint the run began from. -/
  pos : Nat
  rt : Option Running
  /-- Next period tag to replay, the last one, the step of the tags. -/
  tag : Nat
  end_ : Nat
  step : Nat
  replayed : Nat
  divPeriod : Nat
  divStage : Nat
  expected : Nat
  got : Nat
  kind : Nat
  output : Bytes
  cores : List Nat
  /-- Reference records written to [6A00.09], by record number. -/
  reference : List (Nat × Bytes)
deriving DecidableEq, Repr

/-- Nothing under way. -/
def Grid.reset : Grid :=
  { unacked := [], pairs := [], sent := 0, retries := 0, retryTimes := [], up908 := false, voids := 0, overruns := 0,
    discarded := 0, corrected := 0, corrTimes := [], up901 := false, uncorrected := 0, lastBad := 0, restarts := 0,
    failed := [], restarting := [], quiet := [], fwVoid := [], sram := [], ddr := [], tickAt := none }

/-- EMPTY. -/
def Slot.reset : Slot :=
  { st := .empty, blocks := [], txn := 0, rt := none, voids := 0, firings := 0, results := [], cause := 0,
    checkAt := 0, binds := [], digests := [] }

/-- Idle, no result. -/
def Dock.reset : Dock :=
  { st := .idle, slot := 0, source := 0xFF, image := [], pos := 0, rt := none, tag := 0, end_ := 0, step := 1,
    replayed := 0, divPeriod := 0, divStage := 0xFF, expected := 0, got := 0, kind := 0, output := [], cores := [],
    reference := [] }

end Sys2Proof.Machine
end

