-- ==== Sys2Proof/Machine/StateMod.lean ====
section
/-! DEFINITION. State of the redundant pair (chapter 17), of identity, boot and firmware (chapter 20) and of the
calibration set (chapter 19). -/

namespace Sys2Proof.Machine

/-- Pair roles (Table 17.2). -/
inductive Role where
  | deciding | active | standby | taking | unsynced | failed
deriving DecidableEq, Repr

/-- Level of a discrete output; released is high-impedance (R538). -/
inductive Level where
  | low | high | released
deriving DecidableEq, Repr

/-- The pair (R463 to R481). -/
structure Pair where
  role : Role
  /-- When the role was entered. -/
  since : Nat
  /-- 0 down, 1 training, 2 one lane, 3 up; the link has been up since start. -/
  link : Nat
  everUp : Bool
  /-- Pins: PAIR_SLOT (1 at position B), PAIR_ROLE_IN, PAIR_FAULT_IN and since when it is asserted. -/
  position : Nat
  roleIn : Bool
  faultIn : Bool
  faultInAt : Nat
  /-- The position strap conflict has been raised (R467). -/
  conflict : Bool
  partnerRole : Nat
  partnerVer : Nat
  partnerId : Bytes
  txSeq : Nat
  /-- Number of the last manifest sent, manifests sent, committed, missed (frames with a bad CRC included). -/
  number : Nat
  sent : Nat
  committed : Nat
  missed : Nat
  lastNo : Nat
  lastAt : Nat
  /-- Consecutive manifests missed, and when the last one was. -/
  missRun : Nat
  missAt : Option Nat
  /-- The active's last acknowledged number, and acknowledgements in a row. -/
  acked : Nat
  ackRun : Nat
  /-- The manifest being collected, and the last one committed. -/
  partsOf : Nat
  parts : List (Nat × Bytes)
  manifest : Bytes
  takeovers : Nat
  takeCause : Nat
  takeAt : Nat
  gap : Nat
  /-- In TAKING: R476 has been carried out; trays to which the first EDGE has gone since. -/
  loaded : Bool
  edged : List Nat
  selfTestAt : Nat
  /-- Since when a drill waits; when HANDOVER was sent. -/
  drill : Option Nat
  handover : Option Nat
  /-- The user layout in use (id, instance), one accepted and not yet in effect, its transaction and the number of the
  first manifest that carries it. -/
  layout : List (Nat × Nat)
  next : Option (List (Nat × Nat))
  layoutTxn : Nat
  layoutNo : Nat
  up5 : Bool
deriving DecidableEq, Repr

/-- The image in flash (Table 20.1): what the boot ROM checks of it (R518). -/
structure FwImage where
  magicOk : Bool
  version : Nat
  secVersion : Nat
  members : Nat
  slot : Nat
  layout : Nat
  dict : Nat
  keyHash : Bytes
  sigOk : Bool
  /-- SHA-256 of bytes 0 to 127 + L (R517). -/
  measure : Bytes
deriving DecidableEq, Repr

/-- Identity, boot and firmware (R517 to R530). -/
structure Sec where
  image : FwImage
  /-- The one-time area: SHA-256 of each slot's key, slots programmed and revoked, minimum security version. -/
  keyHashes : List Bytes
  programmed : Nat
  revoked : Nat
  minVer : Nat
  idKey : Bytes
  log : List Bytes
  overflow : Bool
  agg : Bytes
  rootKey : Bytes
  counter : Nat
  lastResult : Nat
  applied : Nat
  refused : Nat
  /-- 0 none, 1 receiving, 2 verified, 3 refused, 4 marked. -/
  stagedSt : Nat
  staged : List (Nat × Bytes)
  stagedVer : Nat
  /-- The image that is being written to flash (R520, R530). -/
  installing : Option FwImage
  /-- The request being signed, then those that wait: session, sequence, nonce, arrival. -/
  quotes : List (Nat × Nat × Bytes × Nat)
  signed : Nat
  quoteDrops : Nat
  /-- Raised at the next start: 0E01h, 0E05h. -/
  loaderRan : Bool
  installed : Bool
deriving DecidableEq, Repr

/-- One calibration entry (Table 19.2). -/
structure CalEntry where
  /-- The value, a binary32 pattern. -/
  bits : Nat
  /-- 0 factory, 1 integrator, 2 live. -/
  src : Nat
  locked : Bool
  unver : Bool
  /-- The anchor of R510, a binary32 pattern. -/
  anchor : Nat
  /-- 0D02h has been raised for it since the anchor was set. -/
  banded : Bool
  /-- The value readings were corrected with at the last change, and the time of that change (R503). -/
  old : Nat
  at_ : Nat
deriving DecidableEq, Repr

/-- The calibration set (chapter 19). -/
structure Cal where
  /-- Entries that are no longer as the factory left them, by number, rising. -/
  entries : List (Nat × CalEntry)
  /-- The stored copy (R506). -/
  flash : List (Nat × CalEntry)
  /-- A live change is not yet stored. -/
  dirty : Bool
  liveWrites : Nat
  rejected : Nat
  lastTxn : Nat
  lastWrite : Nat
  lastStore : Nat
  /-- When the last store was, as the count now has it: a step moves it (R369). -/
  storeFrom : Nat
  /-- Start of the running second of bus-voltage equalisation, sums of (V_t − V_bus) ÷ V_bus by tray over it and their
  counts (Table 19.3). -/
  eqSince : Option Nat
  eqSum : List Rat
  eqN : List Nat
  /-- Trays whose measurement of the running second is discarded (Table 19.4). -/
  eqDrop : List Nat
deriving DecidableEq, Repr

/-- DECIDING at position A, no link, no manifest. -/
def Pair.reset : Pair :=
  { role := .deciding, since := 0, link := 0, everUp := false, position := 0, roleIn := false, faultIn := false,
    faultInAt := 0, conflict := false, partnerRole := 0, partnerVer := 0, partnerId := List.replicate 32 0, txSeq := 0,
    number := 0, sent := 0, committed := 0, missed := 0, lastNo := 0, lastAt := 0, missRun := 0, missAt := none,
    acked := 0, ackRun := 0, partsOf := 0, parts := [], manifest := [], takeovers := 0, takeCause := 0, takeAt := 0,
    gap := 0, loaded := false, edged := [], selfTestAt := 0, drill := none, handover := none, layout := [], next := none,
    layoutTxn := 0, layoutNo := 0, up5 := false }

/-- The image a module is delivered with: valid on every member (log entry 6). -/
def FwImage.factory : FwImage :=
  { magicOk := true, version := 0, secVersion := 0, members := 31, slot := 0, layout := 0x0100, dict := 0x0100,
    keyHash := List.replicate 32 0, sigOk := true, measure := List.replicate 32 0 }

/-- As delivered: no root key, nothing staged (log entry 6). -/
def Sec.reset : Sec :=
  { image := FwImage.factory, keyHashes := List.replicate 4 (List.replicate 32 0), programmed := 15, revoked := 0,
    minVer := 0, idKey := List.replicate 32 0, log := [], overflow := false, agg := List.replicate 32 0,
    rootKey := List.replicate 48 0, counter := 0, lastResult := 0, applied := 0, refused := 0, stagedSt := 0,
    staged := [], stagedVer := 0, installing := none, quotes := [], signed := 0, quoteDrops := 0, loaderRan := false, installed := false }

/-- Every entry as the factory left it. -/
def Cal.reset : Cal :=
  { entries := [], flash := [], dirty := false, liveWrites := 0, rejected := 0, lastTxn := 0, lastWrite := 0,
    lastStore := 0, storeFrom := 0, eqSince := none, eqSum := List.replicate 16 0, eqN := List.replicate 16 0,
    eqDrop := [] }

end Sys2Proof.Machine
end

