-- ==== Sys2Proof/Machine/StateNet.lean ====
section
/-! DEFINITION. State of the network port, its basin and the Trasia sessions (chapter 14). Trasia frames are held as
their header and payload, as the basin stores them. -/

namespace Sys2Proof.Machine

/-- A stream of a session (R400): the range it snapshots, its period and phase in µs. -/
structure Stream where
  i : Nat
  index : Nat
  sub : Nat
  offset : Nat
  length : Nat
  period : Nat
  phase : Nat
  /-- Instant of the last instance sent. -/
  last : Option Nat
deriving DecidableEq, Repr

/-- A SIGNED_WRITE transfer in progress (R401). -/
structure Transfer where
  id : Nat
  parts : Nat
  total : Nat
  since : Nat
  got : List (Nat × Bytes)
deriving DecidableEq, Repr

/-- A PTP message that waits for the end of a pause: one of the port's own, formed when it leaves, or the Delay_Resp to a
Delay_Req of a sequence, received at a time, of a port (Table 14.2). -/
inductive HeldPtp where
  | own (kind : PtpMessage)
  | resp (seq : Nat) (time : Int) (peer : Nat)
deriving DecidableEq, Repr

/-- An ARP or Neighbour Discovery frame that waits for the end of a pause (R388, R407). -/
structure HeldNear where
  v6 : Bool
  announce : Bool
  address : Nat
deriving DecidableEq, Repr

/-- The reply to a request whose transaction is still open (R433): its id, the session, the request's sequence, the reply. -/
structure LateReply where
  id : Nat
  ses : Nat
  seq : Nat
  frame : Bytes
deriving DecidableEq, Repr

/-- One session (R395, R398). -/
structure Session where
  /-- Sequence of the last request accepted; none after enable or reset. -/
  lastSeq : Option Nat
  /-- The reply kept for a duplicate. -/
  kept : Option Bytes
  viol : Nat
  violObj : Nat
  framesIn : Nat
  framesOut : Nat
  stale : Nat
  /-- Sequence of the next stream frame or quote part (R396). -/
  outSeq : Nat
  streams : List Stream
  transfer : Option Transfer
  /-- A complete transfer being verified (R526). -/
  verify : Option Bytes
deriving DecidableEq, Repr

/-- A frame that waits for a pause of its priority to end: session, priority, stream of an instance, frame (R407,
R408). -/
structure HeldFrame where
  ses : Nat
  pcp : Nat
  stream : Option Nat
  frame : Bytes
deriving DecidableEq, Repr

/-- The port and its basin (R386 to R407). -/
structure Port where
  /-- 0 down, 1 training, 2 up; lanes in use. -/
  link : Nat
  lanes : Nat
  /-- The mode of the last training. -/
  mode : Nat
  linkUps : Nat
  framesIn : Nat
  parseDrops : Nat
  crcFails : Nat
  crcTimes : List Nat
  up1205 : Bool
  sent : Nat
  /-- Frames of the two queues, oldest first, with their arrival. -/
  reports : List (Nat × Bytes)
  keeper : List (Nat × Bytes)
  highest : Nat
  keeperDrops : Nat
  dropTimes : List Nat
  up1204 : Bool
  /-- When the last REPORT was dropped (source 260). -/
  reportDropAt : Option Nat
  /-- The drain is held (R403). -/
  drainHeld : Bool
  /-- Since when the report priority is paused, and when the pause frame was last sent (R404). -/
  pauseSince : Option Nat
  pauseAt : Nat
  /-- Since when the running pause counts in [1300.09]. -/
  countFrom : Nat
  up1203 : Bool
  pfcSent : Nat
  paused : Nat
  /-- Received PFC: frames by priority, until when each priority is paused, since when (R407). -/
  pfcGot : List Nat
  pauseUntil : List Nat
  pauseFrom : List (Option Nat)
  up1206 : Bool
  /-- The shelf address is held (R388). -/
  shelf : Bool
  /-- Frames of paused priorities, oldest first. -/
  held : List HeldFrame
  /-- PTP messages waiting for the end of a pause of priority 7, oldest first. -/
  heldPtp : List HeldPtp
  /-- ARP and Neighbour Discovery frames waiting for the end of a pause of their priority, oldest first. -/
  heldNear : List HeldNear
  /-- Replies that wait for their transaction to close, oldest first. -/
  late : List LateReply
  /-- The link-local address is answered on (R563). -/
  linkLocal : Bool
deriving DecidableEq, Repr

/-- Nothing accepted, no stream. -/
def Session.reset : Session :=
  { lastSeq := none, kept := none, viol := 0, violObj := 0, framesIn := 0, framesOut := 0, stale := 0, outSeq := 0,
    streams := [], transfer := none, verify := none }

/-- Link down, both queues empty, the drain held (R403). -/
def Port.reset : Port :=
  { link := 0, lanes := 0, mode := 0, linkUps := 0, framesIn := 0, parseDrops := 0, crcFails := 0, crcTimes := [],
    up1205 := false, sent := 0, reports := [], keeper := [], highest := 0, keeperDrops := 0, dropTimes := [],
    up1204 := false, reportDropAt := none, drainHeld := true, pauseSince := none, pauseAt := 0, countFrom := 0,
    up1203 := false, pfcSent := 0, paused := 0, pfcGot := List.replicate 8 0, pauseUntil := List.replicate 8 0,
    pauseFrom := List.replicate 8 none, up1206 := false, shelf := false, held := [],
    heldPtp := [], heldNear := [], late := [], linkLocal := false }

end Sys2Proof.Machine
end

