-- ==== Sys2Proof/Machine/StatePower.lean ====
section
/-! DEFINITION. State of the power chain: sample ingest and bus loop (chapter 02), phases, edge engine and paddle
links (chapter 03), tray manager and tray allocation (chapter 04). Volts, amperes and duties are exact rationals in
the units of the objects; times are shelf time in ns. -/

namespace Sys2Proof.Machine

/-- Loop states (Table 2.2). -/
inductive LoopSt where
  | off | charge | soft | run | hold | stopping | tripped
deriving DecidableEq, Repr

/-- The converted coefficients of R47, in the order of [2000.10] to [2000.1A]. -/
structure Coef where
  fb0 : Rat
  fb1 : Rat
  fa1 : Rat
  sb0 : Rat
  sb1 : Rat
  sb2 : Rat
  sa1 : Rat
  sa2 : Rat
  kp : Rat
  ki : Rat
  kh : Rat
deriving DecidableEq, Repr

/-- A slope the forecaster delivered, with the start of its 10 µs interval (R38). -/
structure Slope where
  s : Rat
  at_ : Nat
deriving DecidableEq, Repr

/-- Sample ingest (R23, R24) and the bus loop (R26 to R44). -/
structure Loop where
  st : LoopSt
  /-- The state HOLD came from, and its periods without a reading (R25). -/
  holdFrom : LoopSt
  holdCount : Nat
  /-- The loop entered SOFT and its next period sets the values of R31. -/
  entry : Bool
  vRef : Rat
  /-- V_bus last formed, whether the last period formed one, and when one was last formed. -/
  vBus : Rat
  vOk : Bool
  vAt : Option Nat
  nValid : Nat
  /-- Of these, the readings still not excluded after the exclusions of the period (R24). -/
  nLeft : Nat
  /-- The trays with a valid reading in the last period (R24). -/
  readOk : List Bool
  iSt : Rat
  integ : Rat
  ff : Rat
  sat : Int
  slopeUsed : Rat
  /-- Filter memories: S2 x1 y1, S3 x1 x2 y1 y2. -/
  fx1 : Rat
  fy1 : Rat
  sx1 : Rat
  sx2 : Rat
  sy1 : Rat
  sy2 : Rat
  coef : Coef
  /-- Limits of the last period's clamp (R40). -/
  disLim : Rat
  chgLim : Rat
  /-- The two latest slopes delivered, newest first: the interval that runs and its successor (R38). -/
  slopes : List Slope
  /-- Run lengths of Table 2.4 in periods, and what stands raised. -/
  windowRun : Nat
  farRun : Nat
  clampRun : Nat
  up101 : Bool
  up102 : Bool
  up105 : Bool
  up106 : Bool
  up108 : Bool
  stops : Nat
  stale : Nat
  satFlags : Nat
  /-- Stage S7 saturated in the period (R26). -/
  satM : Bool
  /-- Runs of R24 by tray, and the excluded trays [2000.23]. -/
  outRun : List Nat
  inRun : List Nat
  excluded : List Bool
  /-- m_t by tray (R37). -/
  m : List Rat
  /-- I_st of the last 10 periods, newest first (R72). -/
  hist : List Rat
  /-- I_st of the last 10 s with its time, and its negative, the values no later one exceeds, newest first (R114). -/
  disPeaks : List (Nat × Rat)
  chgPeaks : List (Nat × Rat)
  delayLast : Nat
  delayHigh : Nat
deriving DecidableEq, Repr

/-- Phase states (Table 3.1). -/
inductive PhSt where
  | off | check | run | de | snub | drawing | shed | restoring | handoff | fault | linkLost
deriving DecidableEq, Repr

/-- Why a phase is in HANDOFF (R79, R80). -/
inductive HandCause where
  | opened | sense | service
deriving DecidableEq, Repr

/-- How a snub ends: load-step (R70), trip (R68), end of a handoff in FAULT or in OFF (R79, R80). -/
inductive SnubKind where
  | step | trip | toFault | toOff
deriving DecidableEq, Repr

/-- Edge command kinds (Table 3.3). -/
inductive EdgeKind where
  | sync | deDis | deChg | snub | off | probe
deriving DecidableEq, Repr

/-- The fields of an edge command that decide whether a new one is sent (R60, Table 3.2). -/
structure EdgeCmd where
  kind : EdgeKind
  /-- T_a and T_b relative to the slot centre, in edge steps. -/
  ta : Int
  tb : Int
  sync : Nat
  once : Bool
deriving DecidableEq, Repr

/-- One phase (R52 to R84). -/
structure Phase where
  st : PhSt
  /-- Weight w_p, its change in each half period, and where a ramp ends. -/
  w : Rat
  rate : Rat
  /-- In service by command (R80, R82). -/
  svc : Bool
  /-- Its check is asked for: by command 1 (R82), or by the module's start (log entry 15). -/
  want : Bool
  cause : HandCause
  snubKind : SnubKind
  /-- Drawn phase in DE with weight 0 (R73). -/
  drawn : Bool
  /-- Commanded out of service while DRAWING (Table 3.6). -/
  oos : Bool
  /-- Off after a trip snub, until its tray has a share again (R68). -/
  tripped : Bool
  i : Rat
  iOk : Bool
  vSw : Rat
  r : Rat
  d : Rat
  b : Rat
  ei : Rat
  iHat : Rat
  obsOn : Bool
  openCnt : Nat
  senseCnt : Nat
  deCnt : Nat
  trimSince : Option Nat
  up202 : Bool
  flags : Nat
  /-- Accumulator of R65 and whether its regime is on. -/
  acc : Rat
  onceOn : Bool
  /-- State before a check or a link loss. -/
  prev : PhSt
  /-- The reference the stage held when its link returned (R91). -/
  held : Rat
  /-- The command the stage holds; none where it is not known: after a link loss or a takeover. -/
  cmd : Option EdgeCmd
  /-- Period, in µs of shelf time, of that command (R18). -/
  cmdAt : Nat
  /-- Synchronous limit ns and pulse of the DE command of this period. -/
  deOn : Rat
  deSync : Rat
  /-- The clamp acts on the duty the phase applies (R59). -/
  clamped : Bool
  /-- The next duty is m_t: the phase leaves a load-step snub or is restored (R70, R74), or runs a test (R104). -/
  fresh : Bool
  /-- Live offset measurement (R509): samples, sum, sum of squares, and since when its window is open. -/
  calN : Nat
  calSum : Rat
  calSq : Rat
  calSince : Option Nat
deriving DecidableEq, Repr

/-- Identification of a failed sensor (R78): the phase under test, its half-period step, its weight before the test, what
was found. -/
structure Ident where
  p : Nat
  step : Nat
  w0 : Rat
  found : Bool
  passed : Bool
deriving DecidableEq, Repr

/-- One pre-start check (R82 to R84, R99). -/
structure Check where
  /-- Running; false while it waits for its conditions. -/
  started : Bool
  /-- The phases that 020Dh has been raised for, or whose check has begun, since it was asked for. -/
  told : List Nat
  /-- Phases still to be judged, ascending; the first is in progress once its probe is out. -/
  todo : List Nat
  tries : Nat
  /-- When the next phase, or the retry, is due. -/
  due : Nat
  /-- A retry of the phase in progress waits. -/
  retry : Bool
  /-- The probe of the first phase of `todo` is out; shelf time of its T_b, rounded up to ns. -/
  tb : Option Nat
  /-- T_a of that probe, in edge steps of shelf time (R83). -/
  ta : Nat
  anyFailed : Bool
  blackStart : Bool
  /-- Requested by the tray manager; otherwise by a phase command. -/
  manager : Bool
deriving DecidableEq, Repr

/-- What the phase manager keeps for a tray as a whole. -/
structure TrayPh where
  x : Rat
  /-- The tray's reference of the last period, string side. -/
  rTray : Rat
  /-- The tray has had a nonzero share since it entered the set. -/
  share : Bool
  shedSince : Option Nat
  lastShed : Nat
  capacity : Rat
  up207 : Bool
  mismatch : Nat
  ident : Option Ident
  sumOff : Bool
  /-- Overcurrent trips of the last 1 ms: phase and time (R66). -/
  ocs : List (Nat × Nat)
  check : Option Check
  /-- Half periods left of the transition of R91. -/
  blend : Nat
  /-- Reference of the contactor test, while it runs (R104). -/
  testRef : Option Rat
  /-- Phase of the test; none where no phase is in service. -/
  testPhase : Option Nat
  /-- The test is over and its phase has yet to return to SHED (R104). -/
  testEnd : Bool
deriving DecidableEq, Repr

/-- A SAMPLE frame's content after correction (Table 3.9, R503). -/
structure Sample where
  at_ : Nat
  i : List Rat
  vSw : List Rat
  ok : List Bool
deriving DecidableEq, Repr

/-- One paddle link (R86 to R91). -/
structure Link where
  up : Bool
  oneLane : Bool
  everUp : Bool
  missing : Nat
  lostAt : Option Nat
  /-- Bus-side current at the loss, and since when it falls (R89). -/
  held : Rat
  fallAt : Option Nat
  /-- Times of the frame errors of the last second (R88). -/
  errTimes : List Nat
  up20E : Bool
  /-- One-way delay, edge steps (R87). -/
  delay : Nat
  txSeq : Nat
  timeSeq : Nat
  echoTurn : Nat
  echoSeq : Nat
  /-- The latest STATUS. -/
  statusAt : Nat
  vLink : Rat
  vLinkOk : Bool
  vBus : Rat
  vBusOk : Bool
  fallback : Bool
  fbHold : Nat
  probe : Rat
  probeOk : Bool
  temps : List Int
  /-- The latest SAMPLE and the recent ones, newest first. -/
  sampleAt : Nat
  iDc : Rat
  iDcOk : Bool
  samples : List Sample
  /-- Desaturation flags seen since the last probe, by phase. -/
  desat : Nat
  /-- Registers sent and not yet answered; registers refused (R51, Table 3.10). -/
  cfgSent : List (Nat × Nat)
  cfgRefused : List Nat
  /-- Live measurement of the DC-link offset (R509). -/
  calN : Nat
  calSum : Rat
  calSq : Rat
  calSince : Option Nat
deriving DecidableEq, Repr

/-- Edge-engine counters and the drawing lockout (Table 3.13, R75). -/
structure Edge where
  late : Nat
  latePeriods : Nat
  /-- Times of the late periods of the last second (R19). -/
  lateTimes : List Nat
  clamps : Nat
  frameErrors : Nat
  lockUntil : Nat
deriving DecidableEq, Repr

/-- Tray states (Table 4.1). -/
inductive TraySt where
  | absent | idle | check | precharge | closing | admitting | online | slack | drain | opening | fault | pulled
deriving DecidableEq, Repr

/-- Contactor tests (R103). -/
inductive CTest where
  | closing | opening
deriving DecidableEq, Repr

/-- Stages of slack water on the tray that has it (R116). -/
inductive Slack where
  | none_ | rampDown | resting (since : Nat)
deriving DecidableEq, Repr

/-- One tray (chapter 04). -/
structure Tray where
  st : TraySt
  since : Nat
  kN : Bool
  kPre : Bool
  kP : Bool
  trayEn : Bool
  /-- EARLY_BRK made, and since when it is so or broken. -/
  pin : Bool
  pinSince : Nat
  /-- The pin broke with drives low and has not been made for 100 ms again (R120). -/
  pinBlocked : Bool
  vStr : Rat
  a : Rat
  /-- Start and length of the admission ramp in ns; the start is the first period in SOFT or RUN (R105). -/
  rampFrom : Option Nat
  rampLen : Nat
  q : Rat
  qTarget : Rat
  /-- Its move in each period while it differs from the target: 50 ms for the whole way (R154). -/
  qStep : Rat
  weight : Rat
  /-- Bus-side share of the last period, string-side reference, measured bus-side current. -/
  iT : Rat
  ref : Rat
  iBus : Rat
  lD : Rat
  lC : Rat
  /-- Ramped limits of R111, once a drain or a slack ramp-down has fixed them. -/
  ramp : Option (Rat × Rat)
  /-- Precharge: drive time, tracking clock, since when the closure criterion holds, the last 1 ms check. -/
  driveAt : Nat
  clockAt : Option Nat
  critSince : Option Nat
  closeAt : Nat
  test : Option CTest
  testAt : Nat
  testV : Rat
  /-- When a draining tray left the set (R112). -/
  leftAt : Option Nat
  /-- Drives go low once the string current is within 2.0 A (R117, Table 4.6). -/
  openAtZero : Bool
  drainTxn : Nat
  safe : Bool
  /-- Code of the fault that put or will put the tray in FAULT; 0 none. -/
  cause : Nat
  /-- Opening without a test since this instant (R567). -/
  openSince : Option Nat
  slack : Slack
  /-- Interval of R114 counts from here. -/
  slackEnd : Nat
  blackStart : Bool
  /-- The check of the black-start tray has been asked for, and passed (R99). -/
  bsAsked : Bool
  bsPassed : Bool
  /-- Command 1 to follow the weir test on entry from ABSENT (R96, [3000+t.03]). -/
  autoPending : Bool
  /-- The weir line or the monitors' configuration holds the drives of PRECHARGE low (R132, R143). -/
  waitDrive : Bool
  /-- When the link of the seated tray was lost (R121). -/
  seatLostAt : Option Nat
  /-- The link was lost while the tray was in the set (R119). -/
  lostInSet : Bool
  /-- The tray was in the set when its pin broke (R119). -/
  pulledInSet : Bool
  /-- What a FAULT still waits for beside its cause: the weir's clearing conditions (R144), the link (R121). -/
  weirFault : Bool
  linkFault : Bool
deriving DecidableEq, Repr

/-- Tray allocation (R106 to R116). -/
structure Alloc where
  set : List Bool
  disLim : Rat
  chgLim : Rat
  held : Rat
  shortfall : Nat
  /-- The stage saturated in the last period ([6100+1.0E], R293). -/
  sat : Bool
  slackTray : Option Nat
  /-- When the last slack water ended; none since the module's start. -/
  slackEnd : Option Nat
  startAt : Nat
  /-- Since when the demand is above 90% of the limit without the resting tray. -/
  urgentSince : Option Nat
deriving DecidableEq, Repr

/-- All coefficients zero until command 1 or 2 converts them. -/
def Coef.zero : Coef := ⟨0, 0, 0, 0, 0, 0, 0, 0, 0, 0, 0⟩

/-- OFF; every value the spec gives no reset value is zero (log entry 4). -/
def Loop.reset : Loop :=
  { st := .off, holdFrom := .off, holdCount := 0, entry := false, vRef := 0, vBus := 0, vOk := false, vAt := none,
    nValid := 0, nLeft := 0, readOk := List.replicate 16 false, iSt := 0, integ := 0, ff := 0, sat := 0, slopeUsed := 0, fx1 := 0, fy1 := 0, sx1 := 0, sx2 := 0,
    sy1 := 0, sy2 := 0, coef := Coef.zero, disLim := 0, chgLim := 0, slopes := [], windowRun := 0, farRun := 0,
    clampRun := 0, up101 := false, up102 := false, up105 := false, up106 := false, up108 := false, stops := 0,
    stale := 0, satFlags := 0, satM := false, outRun := List.replicate 16 0, inRun := List.replicate 16 0,
    excluded := List.replicate 16 false, m := List.replicate 16 0, hist := [], disPeaks := [], chgPeaks := [], delayLast := 0,
    delayHigh := 0 }

/-- OFF; its first check comes with its tray's (log entry 15). -/
def Phase.reset : Phase :=
  { st := .off, w := 0, rate := 0, svc := true, want := true, cause := .service, snubKind := .trip, drawn := false,
    oos := false, tripped := false, i := 0, iOk := false, vSw := 0, r := 0, d := 0, b := 0, ei := 0, iHat := 0,
    obsOn := false, openCnt := 0, senseCnt := 0, deCnt := 0, trimSince := none, up202 := false, flags := 0,
    acc := 0, onceOn := false, prev := .off, held := 0, cmd := some ⟨.off, 0, 0, 0, false⟩, cmdAt := 0, deOn := 0, deSync := 0,
    clamped := false, fresh := false, calN := 0, calSum := 0, calSq := 0, calSince := none }

/-- No reference, no capacity. -/
def TrayPh.reset : TrayPh :=
  { x := 0, rTray := 0, share := false, shedSince := none, lastShed := 0, capacity := 0, up207 := false,
    mismatch := 0, ident := none, sumOff := false, ocs := [], check := none, blend := 0, testRef := none,
    testPhase := none, testEnd := false }

/-- Down, nothing received. -/
def Link.reset : Link :=
  { up := false, oneLane := false, everUp := false, missing := 0, lostAt := none, held := 0, fallAt := none,
    errTimes := [], up20E := false, delay := 0, txSeq := 0, timeSeq := 0, echoTurn := 0, echoSeq := 0,
    statusAt := 0, vLink := 0, vLinkOk := false, vBus := 0, vBusOk := false, fallback := false, fbHold := 0,
    probe := 0, probeOk := false, temps := List.replicate 8 0, sampleAt := 0, iDc := 0, iDcOk := false,
    samples := [], desat := 0, cfgSent := [], cfgRefused := [], calN := 0, calSum := 0, calSq := 0,
    calSince := none }

/-- Counters at zero. -/
def Edge.reset : Edge := { late := 0, latePeriods := 0, lateTimes := [], clamps := 0, frameErrors := 0, lockUntil := 0 }

/-- ABSENT, every drive low, derate 1. -/
def Tray.reset : Tray :=
  { st := .absent, since := 0, kN := false, kPre := false, kP := false, trayEn := false, pin := false,
    pinSince := 0, pinBlocked := false, vStr := 0, a := 0, rampFrom := none, rampLen := 0, q := 1, qTarget := 1,
    qStep := 0, weight := 0, iT := 0, ref := 0, iBus := 0, lD := 0, lC := 0, ramp := none, driveAt := 0,
    clockAt := none, critSince := none, closeAt := 0, test := none, testAt := 0, testV := 0, leftAt := none,
    openAtZero := false, drainTxn := 0, safe := false, cause := 0, openSince := none, slack := .none_,
    slackEnd := 0, blackStart := false, bsAsked := false, bsPassed := false, autoPending := false,
    waitDrive := false, seatLostAt := none, lostInSet := false, pulledInSet := false, weirFault := false,
    linkFault := false }

/-- Nothing in the set, no slack water. -/
def Alloc.reset : Alloc :=
  { set := List.replicate 16 false, disLim := 0, chgLim := 0, held := 0, shortfall := 0, sat := false, slackTray := none,
    slackEnd := none, startAt := 0, urgentSince := none }

end Sys2Proof.Machine
end

