-- ==== Sys2Proof/Machine/StateTime.lean ====
section
/-! DEFINITION. State of shelf time and capture (chapter 13) and of the tide forecaster and schedule ingest
(chapter 07). -/

namespace Sys2Proof.Machine

/-- Shelf-time states (Table 13.2). -/
inductive ClkSt where
  | local_ | acquiring | locked | holdover | following
deriving DecidableEq, Repr

/-- A master heard on the slave port's VLAN: its port identity, the fields of its latest Announce by which the best master
clock algorithm compares it, in their order, and when that came (R389). -/
structure Foreign where
  port : Nat
  rank : Nat
  at_ : Nat
deriving DecidableEq, Repr

/-- Shelf time (R366 to R377). The count itself is `State.now`. -/
structure Clk where
  st : ClkSt
  /-- Last accepted offset θ, ns. -/
  theta : Int
  /-- Applied correction, ppm. -/
  freq : Rat
  /-- Step offset O, ns. -/
  off : Int
  /-- When HOLDOVER or LOCAL was entered, and the error bound then; none: FFFFFFFFh. -/
  freeAt : Nat
  bound : Option Nat
  ever : Bool
  /-- Consecutive offsets within the lock threshold, and above 1 µs. -/
  good : Nat
  bad : Nat
  lastMeas : Nat
  /-- Offset to be stepped out at the next whole millisecond that permits it (R369). -/
  pendingStep : Option Int
  steps : Nat
  /-- Whole milliseconds whose ticks endpoint 64 withholds: shelf time of a step (R369). -/
  stepAt : Option Nat
  crystalDev : Rat
  crystalRun : Nat
  crystalBad : Bool
  /-- Islands whose PLL is locked, in the order of Table 13.1. -/
  pllLock : Nat
  /-- PTP ports (Table 14.10). -/
  slaveState : Nat
  masterState : Nat
  pathDelay : Nat
  discards : Nat
  up1107 : Bool
  gmIdentity : Nat
  /-- clockClass of the master. -/
  gmClass : Nat
  syncSeq : Nat
  announceSeq : Nat
  delaySeq : Nat
  /-- When the last Sync, Announce and Delay_Req were due (Table 14.2). -/
  syncAt : Option Nat
  announceAt : Option Nat
  delayAt : Option Nat
  foreign : List Foreign
deriving DecidableEq, Repr

/-- Capture states ([2300.01]). -/
inductive CapSt where
  | off | capturing | post | frozen
deriving DecidableEq, Repr

/-- A record of the record region: its position in bytes since capture started, and its bytes (R379). -/
structure CapRecord where
  pos : Nat
  at_ : Nat
  bytes : Bytes
deriving DecidableEq, Repr

/-- The capture ring (R378 to R382). -/
structure Cap where
  st : CapSt
  postUntil : Nat
  trigAt : Nat
  trigCode : Nat
  /-- Waveform frames, newest first, each with its shelf time. -/
  frames : List (Nat × Bytes)
  /-- Records, newest first, and the position after the newest. -/
  records : List CapRecord
  recPos : Nat
  /-- Frames and records dropped; the drops of frames in the last second (R382). -/
  dropped : Nat
  dropTimes : List Nat
  up1002 : Bool
  ignored : Nat
  /-- The microsecond of the last write, and the bytes written in it (R382). -/
  usedAt : Nat
  used : Nat
  /-- The record bytes written at each instant of the last second, newest first (R385). -/
  tally : List (Nat × Nat)
deriving DecidableEq, Repr

/-- Forecaster states (Table 7.6). -/
inductive TideSt where
  | off | warming | run | fault
deriving DecidableEq, Repr

/-- A schedule entry held (R202 to R208): session or 32, converted instant before bias, corrected instant, ns. -/
structure SchedEntry where
  src : Nat
  part : Nat
  delta : Int
  ramp : Nat
  flight : Nat
  kind : Nat
  conf : Nat
  conv : Int
  tc : Rat
deriving DecidableEq, Repr

/-- A term of R215 for the step that ended at a time: error of the active and of the staged model's prediction made
100 µs before, where there is one, and the change of I_L over those 100 µs. -/
structure ErrTerm where
  at_ : Nat
  act : Option Rat
  stg : Option Rat
  chg : Rat
deriving DecidableEq, Repr

/-- The forecaster and schedule ingest (R196 to R223). -/
structure Tide where
  st : TideSt
  active : Nat
  staged : Nat
  gate : Rat
  rho : Rat
  rhoStaged : Rat
  /-- Published slopes s_1 to s_200, 2^−7 A/µs, and the cut they belong to (R201). -/
  horizon : List Int
  cut : Nat
  predicted : List Int
  /-- Start of the first interval at which the integrated horizon passes the load-step threshold (R72). -/
  stepAt : Option Nat
  /-- Sum of the step being formed, its periods, V_bus at its start, the last period's time and V_bus (R196). -/
  sum : Rat
  sumN : Nat
  vStart : Option Rat
  vLast : Option (Nat × Rat)
  /-- Step samples of I_L, newest first, with the time each step ended. -/
  il : List (Nat × Rat)
  /-- Estimates I_L of the 1 µs periods, newest first (R196, R209). -/
  il1 : List (Nat × Rat)
  /-- Terms of R215, newest first. -/
  errs : List ErrTerm
  /-- Predictions for 100 µs after recent cuts: target time, active, staged. -/
  preds : List (Nat × Option Rat × Option Rat)
  /-- F and the rectifiers' slope as they stood at the last cut (R199, R200); the last cut evaluated. -/
  cutF : Rat
  cutRect : Rat
  /-- Entries the schedule channels show as of the last two cuts, newest first (R198, R211). -/
  cuts : List (Nat × List SchedEntry)
  evalCut : Option Nat
  evals : Nat
  /-- Times of the evaluations of the last second (R214). -/
  evalT : List Nat
  /-- The millisecond of the last gate update (R215). -/
  gateMs : Nat
  carried : Nat
  carriedT : List Nat
  up604 : Bool
  saturated : Nat
  satT : List Nat
  up605 : Bool
  clamps : Nat
  evalLast : Nat
  evalHigh : Nat
  consec : Nat
  warmSteps : Nat
  warmPreds : Nat
  switchAt : Option Nat
  switchForced : Bool
  lastSlope : Rat
  met : Nat
  missed : Nat
  early : Nat
  unannounced : Nat
  unAbove : Bool
  entries : List SchedEntry
  /-- Entries of closed groups that still lie in the model's past window (R211, R218). -/
  past : List SchedEntry
  /-- Windows of groups closed in the last 200 µs (R217). -/
  wins : List (Rat × Rat)
  accepted : Nat
  rejected : Nat
  bias : List Rat
  history : List (List Bool)
  suspended : List (Option Nat)
  /-- 0607h has been raised for this holdover (R210). -/
  holdNoticed : Bool
deriving DecidableEq, Repr

/-- LOCAL, counting from 0; error bound not known until the first lock (R371). -/
def Clk.reset : Clk :=
  { st := .local_, theta := 0, freq := 0, off := 0, freeAt := 0, bound := none, ever := false, good := 0, bad := 0,
    lastMeas := 0, pendingStep := none, steps := 0, stepAt := none, crystalDev := 0, crystalRun := 0,
    crystalBad := false, pllLock := 0x7F, slaveState := 1, masterState := 1, pathDelay := 0, discards := 0,
    up1107 := false, gmIdentity := 0, gmClass := 248, syncSeq := 0, announceSeq := 0, delaySeq := 0,
    syncAt := none, announceAt := none, delayAt := none, foreign := [] }

/-- Capturing from start (Table 13.10), nothing held. -/
def Cap.reset : Cap :=
  { st := .capturing, postUntil := 0, trigAt := 0, trigCode := 0, frames := [], records := [], recPos := 0,
    dropped := 0, dropTimes := [], up1002 := false, ignored := 0, usedAt := 0, used := 0, tally := [] }

/-- OFF, no model, no entries. -/
def Tide.reset : Tide :=
  { st := .off, active := 0xFF, staged := 0xFF, gate := 0, rho := 0, rhoStaged := 0,
    horizon := List.replicate 200 0, cut := 0, predicted := List.replicate 200 0, stepAt := none, sum := 0,
    sumN := 0, vStart := none, vLast := none, il := [], il1 := [], errs := [], preds := [], cutF := 0, cutRect := 0,
    cuts := [],    evalCut := none, evalT := [], gateMs := 0, wins := [], evals := 0, carried := 0, carriedT := [], up604 := false,
    saturated := 0, satT := [], up605 := false, clamps := 0, evalLast := 0, evalHigh := 0, consec := 0,
    warmSteps := 0, warmPreds := 0, switchAt := none, switchForced := false, lastSlope := 0, met := 0, missed := 0,
    early := 0, unannounced := 0, unAbove := false, entries := [], past := [], accepted := 0, rejected := 0,
    bias := List.replicate 33 0, history := List.replicate 33 [], suspended := List.replicate 33 none,
    holdNoticed := false }

end Sys2Proof.Machine
end

