-- ==== Sys2Proof/Machine/StateTow.lean ====
section
/-! DEFINITION. State of the towpaths (chapter 05) and of the estimator (chapter 06). Cell voltages are corrected
volts, cells are numbered 0 to 191 on a tray, monitors 0 to 15; masks are numbers with bit i for cell or monitor i. -/

namespace Sys2Proof.Machine

/-- Ring states ([3100+t.01]). -/
inductive RingSt where
  | down | whole | broken | unreachable
deriving DecidableEq, Repr

/-- Where a ring stands in its cycle (Table 5.6). -/
inductive CycleSt where
  | idle | sweep | recovery | plaus | compared | enum
deriving DecidableEq, Repr

/-- A CONFIG_WRITE (R132): register, north hops f to l, value; part of the enumeration's configuration; hops that
have accepted it. -/
structure CfgWrite where
  reg : Nat
  f : Nat
  l : Nat
  val : Nat
  enum : Bool
  got : Nat
deriving DecidableEq, Repr

/-- Commands waiting for a command window (R134). -/
inductive TowCmd where
  | config (w : CfgWrite)
  /-- BALANCE to monitor m with its mask of that time. -/
  | balance (m : Nat)
  /-- OPEN_TEST to the monitors of a mask. -/
  | openTest (monitors : Nat)
  /-- WEIR_TEST to monitor m. -/
  | weirTest (m : Nat)
deriving DecidableEq, Repr

/-- A WEIR_TEST on its way (R145): monitor, start and end of the time in which its assertion counts. -/
structure WeirLive where
  m : Nat
  from_ : Nat
  until_ : Nat
deriving DecidableEq, Repr

/-- A run of weir tests (R145): monitors still to test, ascending; tests sent; a test failed; begun on entry from
ABSENT. -/
structure WeirRun where
  todo : List Nat
  live : List WeirLive
  failed : Bool
  entry : Bool
deriving DecidableEq, Repr

/-- An open-wire test sent (R150): its cycle N, its monitors, the main values of cycle N. -/
structure OpenTest where
  cycle : Nat
  monitors : Nat
  ref : List Rat
  /-- Discarded by a ring break (Table 5.9). -/
  void : Bool
deriving DecidableEq, Repr

/-- A suspicion pending (R148): the monitor, the cells concerned (all of a monitor that disagrees), the cells that
disagree. -/
structure Suspicion where
  m : Nat
  cells : Nat
  apart : Nat
  /-- Cells whose main reading lies above their plausibility reading. -/
  above : Nat
  /-- |D_m| within the sum tolerance. -/
  sumOk : Bool
deriving DecidableEq, Repr

/-- One towpath (R126 to R160). -/
structure Tow where
  ring : RingSt
  /-- Break position [3100+t.03]. -/
  brk : Nat
  /-- Event source 192 + t: a located break, until the ring is whole (R137, R139). -/
  brkSource : Bool
  unreach : Nat
  /-- North hops reached from the north, and hops reached from the south. -/
  hN : Nat
  hS : Nat
  cycle : Nat
  cycleAt : Nat
  cyc : CycleSt
  /-- This cycle's SWEEP is a single north one of all hops: the ring whole, or a probe (R139). -/
  full : Bool
  /-- The south port missed this cycle's north SWEEP (R135). -/
  southMissed : Bool
  /-- Valid sweep and plausibility replies of this cycle by north hop, with the end they came from; DATA replies of
  an enumeration. -/
  replies : List (Nat × Bool × Bytes)
  plReplies : List (Nat × Bool × Bytes)
  enumReplies : List (Nat × Bytes)
  probeCount : Nat
  enumDue : Bool
  enumBad : Bool
  cfgDone : Bool
  queue : List TowCmd
  cfgSent : List CfgWrite
  serials : List Nat
  /-- Main values, plausibility values, module totals T_p, temperatures (R131, R134). -/
  main : List Rat
  plaus : List Rat
  total : List Rat
  temps : List Int
  endFlags : Nat
  stale : Nat
  /-- Cells with a valid main reading this cycle, and with a plausibility one. -/
  validMain : Nat
  validPlaus : Nat
  /-- Monitors whose temperatures are not taken yet: reset since (status bit 7), no valid sweep after (Table 6.3). -/
  tempHold : Nat
  /-- A sweep was published and the estimator has not taken it (R165). -/
  fresh : Bool
  sampleN : Nat
  sampleS : Nat
  status : List Nat
  /-- Samples of Σ main − T_p by monitor, newest first, at most 1,000 (R147). -/
  bSamples : List (List Rat)
  dLast : List Rat
  cellRun : List Nat
  monRun : List Nat
  missRun : List Nat
  goodRun : Nat
  suspicions : List Suspicion
  test : Option OpenTest
  /-- A scheduled test deferred by slack water (Table 5.9). -/
  testDeferred : Bool
  lastTest : Nat
  /-- Stored marks (R156): sense-suspect, check-lost, unreadable cells; marked lines, line j of monitor m as
  13m + j where broken and 512 + 13m + j where intermittent, a failed main channel of cell c as 256 + c. -/
  suspect : Nat
  checkLost : Nat
  unreadable : Nat
  lines : List Nat
  weir : Bool
  weirSince : Nat
  weirSrc : Nat
  /-- The assertion comes from a WEIR_TEST; when the last other assertion ended (Table 5.9). -/
  weirByTest : Bool
  weirFaultEnd : Option Nat
  weirRun : Option WeirRun
  /-- A weir test failed: command 1 is refused until a test passes (R145). -/
  weirBlocked : Bool
  bleeding : Nat
  /-- When each monitor was last sent BALANCE. -/
  balAt : List Nat
  replyErrors : Nat
  recoveries : Nat
deriving DecidableEq, Repr

/-- Ring down, no values (Table 5.11). -/
def Tow.reset : Tow :=
  { ring := .down, brk := 0xFF, brkSource := false, unreach := 0, hN := 16, hS := 0, cycle := 0, cycleAt := 0,
    cyc := .idle, full := true, southMissed := false, replies := [], plReplies := [], enumReplies := [],
    probeCount := 0, enumDue := false, enumBad := false, cfgDone := false, queue := [], cfgSent := [],
    serials := List.replicate 16 0, main := List.replicate 192 0, plaus := List.replicate 192 0,
    total := List.replicate 16 0, temps := List.replicate 32 0, endFlags := 0, stale := 0, validMain := 0,
    validPlaus := 0, tempHold := 0, fresh := false, sampleN := 0, sampleS := 0, status := List.replicate 16 0,
    bSamples := List.replicate 16 [], dLast := List.replicate 16 0, cellRun := List.replicate 192 0,
    monRun := List.replicate 16 0, missRun := List.replicate 192 0, goodRun := 0, suspicions := [], test := none,
    testDeferred := false, lastTest := 0, suspect := 0, checkLost := 0, unreadable := 0, lines := [], weir := false,
    weirSince := 0, weirSrc := 0, weirByTest := false, weirFaultEnd := none, weirRun := none, weirBlocked := false,
    bleeding := 0, balAt := List.replicate 16 0, replyErrors := 0, recoveries := 0 }

/-- The estimator's values of a cell (R166 to R180). -/
structure EstCell where
  q : Rat
  uq : Rat
  sv : Rat
  uv : Rat
  vp : Rat
  /-- C_c, Ah. -/
  cap : Rat
  cred : Bool
  /-- Credible for balancing (R179). -/
  bal : Bool
  /-- Initialised from voltage (R191). -/
  fromV : Bool
  /-- The cell has its first estimates: loaded, mirrored or from voltage (R191). -/
  known : Bool
  /-- V_o,c and the cell's R_s + R_p of the last update, for an unreadable cell (R177). -/
  vo : Rat
  rSum : Rat
  /-- SoC_v at the last credible reset, and the charge counted since, A·s (R180). -/
  lastV : Option Rat
  qSince : Rat
  /-- Time bled since the last update, ns. -/
  bled : Nat
deriving DecidableEq, Repr

/-- An entry of the impedance table (Table 6.2), with the time of its last merge for its age; none of an entry at its
seeds. -/
structure ImpEntry where
  rs : Nat
  rp : Nat
  tau : Nat
  count : Nat
  at_ : Option Int
deriving DecidableEq, Repr

/-- A sweep kept for R187: its sample instants by end, the values, the cells usable and the bleeding cells. -/
structure SweepRec where
  atN : Nat
  atS : Nat
  endFlags : Nat
  main : List Rat
  ok : Nat
  bleeding : Nat
deriving DecidableEq, Repr

/-- A saved tray state (R189). -/
structure EstSave where
  cells : List EstCell
  efc : Rat
  deep : Nat
  high : Bool
  rest : Option Nat
  at_ : Nat
  /-- Value of [0010.10] at the save. -/
  clk : Nat
deriving DecidableEq, Repr

/-- A saved impedance table (R189): its seeds and entries, the time of the save, the value of [0010.10] then. -/
structure ImpSave where
  seed : Nat × Nat × Nat
  imp : List (Nat × ImpEntry)
  at_ : Nat
  clk : Nat
deriving DecidableEq, Repr

/-- A written entry waiting for the tray's next update (R190): transaction, element, entry number, the entry. -/
structure ImpWrite where
  id : Nat
  element : Nat
  entry : Nat
  val : ImpEntry
deriving DecidableEq, Repr

/-- A step qualified for an impedance fit (R185). -/
structure StepFit where
  ta : Nat
  tb : Nat
  dI : Rat
deriving DecidableEq, Repr

/-- The estimator of a tray (R162 to R193). -/
structure Est where
  /-- Cells have their first estimates. -/
  started : Bool
  cells : List EstCell
  /-- Displayed SoC_t, limits E_d and E_c, energies E_u and E_h in kWh, planning SoC, tray bound. -/
  soc : Rat
  eD : Rat
  eC : Rat
  eU : Rat
  eH : Rat
  sp : Rat
  bound : Rat
  credNow : Bool
  /-- String current counted now, charge since the last update, the link-loss term of R166. -/
  iS : Rat
  dQ : Rat
  pad : Rat
  /-- The loss already counted in it. -/
  padAt : Option Nat
  /-- The last sample integrated (R162); charge above the rest level since the last update (R182). -/
  chargeAt : Option Nat
  dQRest : Rat
  restLevel : Rat
  below : Option Nat
  slow : Bool
  skip : Nat
  lastAt : Option Nat
  /-- Since when the bleeding cells bleed, for R163. -/
  bleedFrom : Nat
  lastRest : Option Nat
  /-- From when the time without a rest point counts (R115, R176): the last rest point, the start where none is known. -/
  restFrom : Nat
  noRest : Bool
  up502 : Bool
  up505 : Bool
  efc : Rat
  deep : Nat
  /-- SoC_t was above 0.75 since the last deep cycle. -/
  high : Bool
  discarded : Nat
  save : Option EstSave
  /-- 30 days were taken at a start whose save had shelf time LOCKED: the save's time (R191). -/
  widen : Option Nat
  /-- Seeds of the entries that no measurement or write has replaced, raw units (R183, R192). -/
  seed : Nat × Nat × Nat
  imp : List (Nat × ImpEntry)
  impSave : Option ImpSave
  /-- Blocks written, oldest first (R190). -/
  impDue : List ImpWrite
  /-- 1 µs samples of V_link and I_s, newest first: shelf time, V_link, I_s, valid for a step (R185, R186). -/
  hist : List (Nat × Rat × Rat × Bool)
  sweeps : List SweepRec
  step : Option StepFit
  qualified : Nat
  rejected : Nat
  lastMerge : Nat
  writeTxn : Nat
  fit : Rat × Rat × Rat
deriving DecidableEq, Repr

/-- No estimate yet. -/
def EstCell.reset : EstCell :=
  { q := 0, uq := 0, sv := 0, uv := 0, vp := 0, cap := 20, cred := false, bal := false, fromV := false, known := false, vo := 0,
    rSum := 0, lastV := none, qSince := 0, bled := 0 }

/-- Nothing counted, the seeds of Table 6.7. -/
def Est.reset : Est :=
  { started := false, cells := List.replicate 192 EstCell.reset, soc := 0, eD := 0, eC := 0, eU := 0, eH := 0,
    sp := 0, bound := 0, credNow := false, iS := 0, dQ := 0, pad := 0, padAt := none, chargeAt := none, dQRest := 0,
    restLevel := 0, below := none, slow := true, skip := 0, lastAt := none, bleedFrom := 0, lastRest := none,
    restFrom := 0, noRest := false, up502 := false, up505 := false, efc := 0, deep := 0, high := false,
    discarded := 0, save := none, widen := none, seed := (7000, 3500, 400), imp := [], impSave := none,
    impDue := [], hist := [], sweeps := [], step := none, qualified := 0, rejected := 0, lastMerge := 0,
    writeTxn := 0, fit := (0, 0, 0) }

end Sys2Proof.Machine
end

