-- ==== Sys2Proof/Machine/State.lean ====
section
/-! DEFINITION. The state of the block: every register, buffer, counter, mode and pin the spec gives it, the queue
of waiting commands, and the outcomes a step can stop with. -/

namespace Sys2Proof.Machine

/-- Why a step can stop: for no reason. The spec gives every command of the table an effect, and one whose operand names
nothing the module has is ignored (R417). -/
inductive Fault where
deriving DecidableEq, Repr

/-- A command the model gives no meaning. -/
inductive Refusal where
  /-- A command of the table not reached yet, by its mnemonic. Safe: nothing is proved of it. -/
  | notModelled (mnemonic : String)
deriving DecidableEq, Repr

/-- The machine. -/
structure State where
  /-- Commands waiting, first in first out. -/
  pending : List Instr
  /-- The model's own counter of free values drawn (log entry 2). -/
  freeCount : Nat
  /-- Shelf time, ns (R366). -/
  now : Nat
  /-- What the module sent, oldest first. -/
  tx : List Tx
  hw : Hw
  od : Od
  txn : Txns
  fm : Fm
  rcd : Rec
  loop : Loop
  /-- Phases by tray, then by number. -/
  phases : List (List Phase)
  tph : List TrayPh
  links : List Link
  edge : Edge
  trays : List Tray
  alloc : Alloc
  tows : List Tow
  est : List Est
  feed : Feed
  gov : Gov
  gates : Gates
  ev : Events
  tide : Tide
  pair : Pair
  sec : Sec
  cal : Cal
  grid : Grid
  slots : List Slot
  dock : Dock
  port : Port
  sess : List Session
  clk : Clk
  cap : Cap
deriving DecidableEq, Repr

/-- Slots at power-up: 0 to 21 hold the firmware's programs (R345); 22 and 23, reserved, and the free slots are EMPTY (Table 12.2). -/
def slotsReset : List Slot :=
  List.replicate 22 { Slot.reset with st := .bound } ++ List.replicate 42 Slot.reset

/-- The module right after reset: in the boot ROM, every output released, every register and store at its reset value,
no command waiting. -/
def State.reset : State :=
  { pending := [], freeCount := 0, now := 0, tx := [], hw := Hw.reset, od := Od.reset, txn := Txns.reset, fm := Fm.reset
    rcd := Rec.reset, loop := Loop.reset, phases := List.replicate 16 (List.replicate 8 Phase.reset)
    tph := List.replicate 16 TrayPh.reset, links := List.replicate 16 Link.reset, edge := Edge.reset
    trays := List.replicate 16 Tray.reset, alloc := Alloc.reset, tows := List.replicate 16 Tow.reset
    est := List.replicate 16 Est.reset, feed := Feed.reset, gov := Gov.reset, gates := Gates.reset, ev := Events.reset
    tide := Tide.reset, pair := Pair.reset, sec := Sec.reset, cal := Cal.reset, grid := Grid.reset, slots := slotsReset
    dock := Dock.reset, port := Port.reset, sess := List.replicate 32 Session.reset, clk := Clk.reset, cap := Cap.reset }

end Sys2Proof.Machine
end

