-- ==== Sys2Proof/Machine/Ops.lean ====
section
/-! DEFINITION. The operations every family uses: reading settings, counting violations, raising faults, sending. -/

namespace Sys2Proof.Machine

/-- A command's outcome: its effect where its operands name what a K16 has and `go` holds, none otherwise (log entry
1). The queue stands apart from every effect. -/
def runIf (ok go : Bool) (s : State) (f : State → State) : Host.Outcome State Fault Refusal :=
  .next { (if ok && go then f s else s) with pending := s.pending }

/-- Firmware runs. -/
def State.running (s : State) : Bool := decide (s.hw.phase = .firmware)

/-- The command acts while firmware runs: the boot ROM, the network loader and an unpowered module run none of the
subsystems (R519, R538). -/
def run (ok : Bool) (s : State) (f : State → State) : Host.Outcome State Fault Refusal := runIf ok s.running s f

/-- The effect f where c holds, no change elsewhere (log entry 1). -/
def when_ (c : Bool) (f : State → State) (s : State) : State := if c then f s else s

/-! ### Settings -/

/-- Key of an object in the stores. -/
def okey (index sub : Nat) : Nat := index * 256 + sub

/-- Raw value of a setting: what was written, else its default (R422). -/
def State.cfgU (s : State) (index sub : Nat) : Nat :=
  match s.od.values.find? (fun e => e.1 == okey index sub) with
  | some e => e.2
  | none => objDefault index sub

/-- Value of an F32 setting. -/
def State.cfgF (s : State) (index sub : Nat) : Rat := f32Val (s.cfgU index sub)

/-- An F32 object value as a grid program uses it: a normalised BFP24 block (R295, log entry 12). -/
def State.cfgB (s : State) (index sub : Nat) : Rat := bfp24Norm (s.cfgF index sub)

/-- A slew or a ramp per n periods of a grid program: the step of one period, a normalised block (R295, log entry 12). -/
def State.cfgStep (s : State) (index sub n : Nat) : Rat := bfp24Norm (s.cfgF index sub / (n : Rat))

/-- Block data one frame carries (R392). -/
def State.blockLimit (s : State) : Nat := if s.cfgU 0x1000 0x0A = 1500 then 1024 else 8192

/-- Value of a signed setting of 8 bits. -/
def State.cfgI (s : State) (index sub : Nat) : Int := signed 8 (s.cfgU index sub)

/-- Write a setting's raw value; a value equal to its default is not listed. -/
def State.setCfg (s : State) (index sub v : Nat) : State :=
  let rest := Store.del s.od.values (okey index sub)
  let vs := if v = objDefault index sub then rest else Store.ins (okey index sub) v rest
  { s with od := { s.od with values := vs } }

/-- Value of a window object for a session: each session has its own (R420). -/
def State.win (s : State) (ses index sub : Nat) : Nat :=
  Store.get (objDefault index sub) s.od.windows (ses * 16777216 + okey index sub)

/-- Write it. -/
def State.setWin (s : State) (ses index sub v : Nat) : State :=
  let ws := Store.set (objDefault index sub) s.od.windows (ses * 16777216 + okey index sub) v
  { s with od := { s.od with windows := ws } }

/-- An IPv6 address object of [1000] as a number, its first octet the most significant (log entry 54). -/
def State.addr6 (s : State) (sub : Nat) : Nat := ofBe (le 16 (s.cfgU 0x1000 sub))

/-- Both module addresses are zero (R563). -/
def State.unaddressed (s : State) : Bool := s.cfgU 0x1000 0x06 == 0 && s.addr6 0x07 == 0

/-! ### Time -/

/-- Shelf time goes on to t; seconds of operation are counted. -/
def State.advance (s : State) (t : Nat) : State :=
  { s with
    now := t
    od := { s.od with opSeconds := s.od.opSeconds + (t / 1000000000 - s.now / 1000000000) } }

/-- A nanosecond in which no command comes: shelf time goes on, and the time AON measures while it holds the module off
(R550, R552, log entry 3). -/
def idle (s : State) : State := if s.hw.phase = .off then { s with now := s.now + 1 } else s.advance (s.now + 1)

/-! ### Instances -/

/-- Phase p of tray t. -/
def State.ph (s : State) (t p : Nat) : Phase := get Phase.reset (get [] s.phases t) p

/-- The phases of tray t. -/
def State.phs (s : State) (t : Nat) : List Phase := get [] s.phases t

/-- The number of phases tray t has, 2 to 8 (Table 0.1, log entry 70). -/
def State.nPh (s : State) (t : Nat) : Nat := (s.phs t).length

/-- Change phase p of tray t. -/
def State.updPh (s : State) (t p : Nat) (f : Phase → Phase) : State :=
  { s with phases := upd s.phases t (fun l => upd l p f) }

/-- Change every phase of tray t. -/
def State.updPhs (s : State) (t : Nat) (f : Phase → Phase) : State :=
  { s with phases := upd s.phases t (fun l => l.map f) }

/-- What the phase manager keeps for tray t. -/
def State.tp (s : State) (t : Nat) : TrayPh := get TrayPh.reset s.tph t

/-- Change it. -/
def State.updTp (s : State) (t : Nat) (f : TrayPh → TrayPh) : State := { s with tph := upd s.tph t f }

/-- The paddle link of tray t. -/
def State.link (s : State) (t : Nat) : Link := get Link.reset s.links t

/-- Change it. -/
def State.updLink (s : State) (t : Nat) (f : Link → Link) : State := { s with links := upd s.links t f }

/-- Tray t. -/
def State.tray (s : State) (t : Nat) : Tray := get Tray.reset s.trays t

/-- Change it. -/
def State.updTray (s : State) (t : Nat) (f : Tray → Tray) : State := { s with trays := upd s.trays t f }

/-- The towpath of tray t. -/
def State.tow (s : State) (t : Nat) : Tow := get Tow.reset s.tows t

/-- Change it. -/
def State.updTow (s : State) (t : Nat) (f : Tow → Tow) : State := { s with tows := upd s.tows t f }

/-- What the estimator keeps and publishes for tray t. -/
def State.estOf (s : State) (t : Nat) : Est := get Est.reset s.est t

/-- Change it. -/
def State.updEst (s : State) (t : Nat) (f : Est → Est) : State := { s with est := upd s.est t f }

/-- A fold over the trays, ascending. -/
def forTrays (f : Nat → State → State) (s : State) : State := (List.range Config.trays).foldl (fun a t => f t a) s

/-! ### Violations and faults -/

/-- Count a violation of a session on an object (R417). -/
def State.violate (s : State) (ses index sub : Nat) : State :=
  { s with sess := upd s.sess ses (fun x => { x with viol := sat32 (x.viol + 1), violObj := index + 65536 * sub }) }

/-- A command of session ses that writes an object: of an instance that is absent, it is a violation (R417). -/
def runObj (ses index sub : Nat) (here : Bool) (s : State) (f : State → State) : Host.Outcome State Fault Refusal :=
  run (decide (ses < Config.sessions)) s (fun s => if here then f s else s.violate ses index sub)

/-- Code of the running handler, 0 none (R450). -/
def State.context (s : State) : Nat :=
  match s.fm.running with
  | some h => h.code
  | none => 0

/-- A raise with its record data; it is delivered to the fault manager by FAULT_RAISE (Table 16.4). -/
def State.raiseWith (s : State) (code inst : Nat) (data : Bytes) : State :=
  let r : Raise := { code := code, inst := inst, ctx := s.context, at_ := s.now, data := data, count := 1 }
  { s with fm := { s.fm with inFlight := s.fm.inFlight ++ [r] } }

/-- A raise; its record carries the condition time (Table 18.2). -/
def State.raise (s : State) (code inst : Nat) : State := s.raiseWith code inst (le 8 s.now)

/-- Instance FFFFh: the module as a whole (R440). -/
def noInst : Nat := 0xFFFF

/-- Assert FAULT_OUT with its first cause (R453). A module whose pair link has been up since start becomes FAILED
(Table 17.2). -/
def State.assertFaultOut (s : State) (code : Nat) : State :=
  if s.fm.faultOut then s else
    let role := if s.pair.everUp then Role.failed else s.pair.role
    { s with
      fm := { s.fm with faultOut := true, faultOutCause := code }
      pair := { s.pair with role := role, since := if role = s.pair.role then s.pair.since else s.now }
      port := { s.port with shelf := s.port.shelf && decide (role ≠ .failed) } }

/-! ### Firmware slots (Tables 10.9 and 12.1) -/

/-- Milliseconds in ns. -/
def ms : Nat := 1000000

/-- The millisecond of a step: no tick, no program runs in it (R369). -/
def State.withheld (s : State) (a : Nat) : Bool :=
  match s.clk.stepAt with
  | some b => a / ms == b / ms
  | none => false

/-- The firmware slot of a core. -/
def fwSlotOf (core : Nat) : Option Nat :=
  if core ≤ 6 then some 0
  else if core = 7 then some 1
  else if core ≤ 23 then some (core - 6)
  else if core ≤ 31 then some 18
  else if 48 ≤ core ∧ core ≤ 51 then some 19
  else if core = 52 then some 20
  else if 53 ≤ core ∧ core ≤ 55 then some 21
  else none

/-- First core of a firmware slot; FFh of the reserved ones. -/
def fwFirst (n : Nat) : Nat := ((List.range Config.cores).find? fun c => fwSlotOf c == some n).getD 0xFF

/-- Stages of a firmware slot: one on each of its cores, in the order of the cores, as the bus loop has them (log
entry 50). -/
def fwStages (n : Nat) : Nat := ((List.range Config.cores).filter fun c => fwSlotOf c == some n).length

/-- Every period of a firmware slot is void: it restarts, or one of its cores has failed (R306, R307). -/
def State.fwHalted (s : State) (n : Nat) : Bool :=
  s.grid.restarting.contains n || s.grid.failed.any fun c => fwSlotOf c == some n

/-- Stage k of a firmware slot is void in the present period (R303): itself, or after a void stage of its chain. The
stages of a slot form one chain in their order, S7 of the bus loop apart (Table 2.1; log entry 50). -/
def State.fwStageVoid (s : State) (n k : Nat) : Bool :=
  s.fwHalted n || s.grid.fwVoid.any fun e =>
    e.1 == n && (if n = 0 ∧ k = 6 then e.2 == 6 else decide (e.2 ≤ k))

/-- A firmware slot gives no result in the present period: the last stage of its chain is void. -/
def State.fwStopped (s : State) (n : Nat) : Bool := s.fwStageVoid n (if n = 0 then 5 else fwStages n - 1)

/-- Stage k of firmware slot n ends its present period with a fault, or has a void input (R302, R303). -/
def voidFirmware (n k : Nat) (s : State) : State :=
  if k < fwStages n ∧ s.grid.fwVoid.contains (n, k) = false then
    { s with grid := { s.grid with fwVoid := (n, k) :: s.grid.fwVoid } }
  else s

/-! ### Sending -/

/-- What leaves through a transmitter of Table 21.8: paddle links, CAN FD, J1 and J3. -/
def Tx.silenced : Tx → Bool
  | .paddle _ _ | .can _ _ _ | .trasia _ _ _ | .blockData _ _ _ _ | .pfc _ _ | .ptp _ | .neighbour _ _ _
  | .pair _ => true
  | _ => false

/-- What leaves through J1 above the MAC layer. -/
def Tx.viaJ1 : Tx → Bool
  | .trasia _ _ _ | .blockData _ _ _ _ | .neighbour _ _ _ => true
  | _ => false

/-- The transmitter is silent (R538, R549, R555); the network loader uses J1 alone (R520). -/
def State.silent (s : State) (x : Tx) : Bool :=
  s.hw.released && x.silenced && !(decide (s.hw.phase = .loader) && x.viaJ1)

/-- Send, unless the transmitter is silent. -/
def State.send (s : State) (x : Tx) : State := if s.silent x then s else { s with tx := s.tx ++ [x] }

/-- A frame leaves J1 and counts in [1000.0E], unless the transmitter is silent. -/
def State.sendJ1 (s : State) (x : Tx) : State :=
  if s.silent x then s else { s with tx := s.tx ++ [x], port := { s.port with sent := s.port.sent + 1 } }

/-- The module drives the shelf: ACTIVE or TAKING (R466). -/
def State.drives (s : State) : Bool := decide (s.pair.role = .active) || decide (s.pair.role = .taking)

/-- A violation that names no object (R417). -/
def State.violateOp (s : State) (ses op : Nat) : State := s.violate ses 0xFFFF op

/-- The module is a standby: it takes READ, READ_BLOCK, SUBSCRIBE and QUOTE alone (R388). -/
def State.passive (s : State) : Bool := decide (s.pair.role = .standby) || decide (s.pair.role = .unsynced)

/-- A priority of the port's transmission is paused (R407). -/
def State.paused (s : State) (p : Nat) : Bool := decide (s.now < get 0 s.port.pauseUntil p)

/-- An ARP or Neighbour Discovery frame leaves J1 while the link is up: at once, or when the pause of its priority ends
(R388, R407). The spec gives these frames no priority; the model takes 0, as for untagged traffic (log entry 69). -/
def State.sendNear (s : State) (x : HeldNear) : State :=
  if s.port.link ≠ 2 then s
  else if s.paused 0 then { s with port := { s.port with heldNear := s.port.heldNear ++ [x] } }
  else s.sendJ1 (.neighbour x.v6 x.announce x.address)

/-- Those whose pause has ended leave in order. -/
def flushNear (s : State) : State :=
  if s.paused 0 then s
  else s.port.heldNear.foldl (fun s x => s.sendNear x) { s with port := { s.port with heldNear := [] } }

/-- A paddle-link frame with its header and trailer (Table 3.7). -/
def paddleFrame (typ t seq : Nat) (payload : Bytes) : Bytes :=
  let h := le 1 typ ++ le 1 t ++ le 2 (payload.length / 8) ++ le 4 seq ++ payload
  h ++ le 4 (crc32c h) ++ le 4 0

/-- Send a paddle-link frame. None leaves while FAULT_OUT is asserted (R454) or while a handover waits for the partner
(R481); EDGE frames are sent by ACTIVE and TAKING alone (R466). -/
def State.sendPaddle (s : State) (t typ : Nat) (payload : Bytes) : State :=
  if s.fm.faultOut || s.pair.handover.isSome || (typ == 1 && !s.drives) then s else
    (s.send (.paddle t (paddleFrame typ t (s.link t).txSeq payload))).updLink t
      (fun l => { l with txSeq := (l.txSeq + 1) % 4294967296 })

/-- A paddle-link frame received: its type and payload, when its length and CRC hold (R86). -/
def parsePaddle (t : Nat) (f : Bytes) : Option (Nat × Bytes) :=
  let n := 8 * u16At f 2
  if f.length = n + 16 ∧ u8At f 1 = t ∧ u32At f (8 + n) = crc32c (f.take (8 + n)) then
    some (u8At f 0, slice f 8 n)
  else none

/-! ### Calibration (R503) -/

/-- The live offset measurement of a phase is discarded (Table 19.4). -/
def Phase.dropCal (x : Phase) : Phase := { x with calSince := none, calN := 0, calSum := 0, calSq := 0 }

/-- That of a tray's DC-link current. -/
def Link.dropCal (l : Link) : Link := { l with calSince := none, calN := 0, calSum := 0, calSq := 0 }

/-- An entry as the factory left it: gain 1, offset 0 (log entry 6). -/
def calFactory (k : Nat) : CalEntry :=
  let v := if (8 ≤ k ∧ k < 16) ∨ k = 17 ∨ (36 ≤ k ∧ k < 52) then 0 else 0x3F800000
  { bits := v, src := 0, locked := false, unver := false, anchor := v, banded := false, old := v, at_ := 0 }

/-- Entry e of the set. -/
def State.calEntry (s : State) (e : Nat) : CalEntry := Store.get (calFactory (e % 68)) s.cal.entries e

/-- The pattern readings taken now are corrected with: a changed entry applies from the next whole microsecond, a monitor
entry from the ring's next cycle (R503). -/
def State.calInUse (s : State) (t k : Nat) : Nat :=
  let x := s.calEntry (68 * t + k)
  if k < 20 then (if x.at_ / 1000 = s.now / 1000 then x.old else x.bits)
  else if (s.tow t).cycleAt < x.at_ then x.old else x.bits

/-- The correction of entry k of tray t for readings taken now. -/
def State.calIn (s : State) (t k : Nat) : Rat := f32Val (s.calInUse t k)

/-- The value of entry k of tray t. -/
def State.calVal (s : State) (t k : Nat) : Rat := f32Val (s.calEntry (68 * t + k)).bits

/-! ### Free values -/

/-- Draw a rational the spec does not state (log entry 2). -/
def State.draw (s : State) : Rat × State := (Config.freeRat s.freeCount, { s with freeCount := s.freeCount + 1 })

/-! ### Measurements (R523) -/

/-- Add an entry to the measurement log and extend the aggregate; a full log only extends it. -/
def State.measure (s : State) (kind index : Nat) (hash : Bytes) : State :=
  let e := le 2 kind ++ le 2 index ++ le 4 0 ++ le 8 s.now ++ padTo 32 hash
  let x := s.sec
  let full := decide (256 ≤ x.log.length)
  { s with sec := { x with
    agg := sha256 (x.agg ++ e), log := if full then x.log else x.log ++ [e], overflow := x.overflow || full } }

/-! ### Small readings used across chapters -/

/-- Tray t is in the allocation set (Table 4.1, R121). -/
def State.inSet (s : State) (t : Nat) : Bool := get false s.alloc.set t

/-- Rated phase current of tray t. -/
def State.iPhR (s : State) (t : Nat) : Rat := s.cfgB (0x2100 + t) 0x08

/-- I_lim,p of R53. -/
def State.iLim (s : State) (t : Nat) : Rat :=
  let v := (s.link t).vLink
  if 0 < v then min (s.iPhR t) (12500 / v) else s.iPhR t

/-- Sign of a number. -/
def sgn (x : Rat) : Int := if 0 < x then 1 else if x < 0 then -1 else 0

/-- Sum of a list. -/
def sumQ (l : List Rat) : Rat := l.foldl (· + ·) 0

/-- Mean of a list; 0 of none. -/
def meanQ (l : List Rat) : Rat := if l.length = 0 then 0 else sumQ l / (l.length : Rat)

/-- The string current of tray t, the sum of its phase currents (R112). -/
def State.iStr (s : State) (t : Nat) : Rat := sumQ ((s.phs t).map (·.i))

/-- Any contactor drive of tray t is high. -/
def Tray.anyDrive (x : Tray) : Bool := x.kN || x.kPre || x.kP

/-- A tray carries current: it is in a state of the set with a nonzero admission factor (R34, log entry 10). -/
def State.carrying (s : State) (t : Nat) : Bool :=
  let x := s.tray t
  match x.st with
  | .online | .drain | .slack => true
  | .admitting => decide (0 < x.a)
  | _ => false

/-- Some tray carries current. -/
def State.anyCarrying (s : State) : Bool := (List.range Config.trays).any s.carrying

/-- The state a group of rectifiers is in. -/
def State.groupSt (s : State) (g : Nat) : GroupSt := (get Group.reset s.feed.groups g).st

/-- A group counts in the capacity sum: PRESENT or RETURNING (R265). -/
def State.groupUp (s : State) (g : Nat) : Bool := decide (s.groupSt g = .present) || decide (s.groupSt g = .returning)

/-- Both groups are outside PRESENT and RETURNING: both feeds are reported absent (R273). -/
def State.bothAbsent (s : State) : Bool := !s.groupUp 0 && !s.groupUp 1

/-- A load step is forecast within h ns of the published horizon's cut (R72, R201). -/
def State.stepForecast (s : State) (h : Nat) : Bool :=
  match s.tide.stepAt with
  | some a => decide (a ≤ s.tide.cut + h)
  | none => false

/-- Shelf time is disciplined: schedule entries resume (R210). -/
def State.hintsResume (s : State) : State := { s with tide := { s.tide with holdNoticed := false } }

/-- Shelf time of an instant of the PTP timescale (R370). -/
def State.toShelf (s : State) (ptp : Int) : Int := ptp - s.clk.off

/-- A step of shelf time is permitted (R51, R369). -/
def State.stepAllowed (s : State) : Bool :=
  decide (s.loop.st = .off) && s.phases.all fun l => l.all fun x =>
    match x.st with
    | .off | .shed | .fault => true
    | _ => false

/-- The whole microseconds of an offset go into O, with warning 1103h (R368). -/
def State.offsetIntoO (s : State) (theta : Int) : State :=
  let us := roundEven ((theta : Rat) / 1000)
  State.raise { s with clk := { s.clk with off := s.clk.off - 1000 * us, pendingStep := none } } 0x1103 noInst

/-- A pending step is not applied once the bus loop leaves OFF (Table 13.7). -/
def State.dropStep (s : State) : State :=
  match s.clk.pendingStep with
  | some d => s.offsetIntoO (-d)
  | none => s

/-- Seconds in ns. -/
def sec : Nat := 1000000000

/-! ### Discrete outputs (R261, R466, R538, R541) -/

/-- Level of a joined output whose drive is `b`: released by a module that does not drive the shelf. -/
def State.joined (s : State) (b : Bool) : Level :=
  if s.hw.released || !s.drives then .released else if b then .high else .low

/-- The tray whose drives the outputs follow: until TAKING has loaded its manifest the levels are the manifest's
(R476), with no contactor of a tray driven high whose weir line is asserted (Table 17.10). -/
def State.drivenTray (s : State) (t : Nat) : Tray :=
  let x := s.tray t
  let d := u8At s.pair.manifest (193 + 64 * t)
  let ok := !(s.tow t).weir
  if s.pair.role = .taking ∧ s.pair.loaded = false then
    { x with kN := bit d 0 && ok, kPre := bit d 1 && ok, kP := bit d 2 && ok, trayEn := bit d 3 }
  else x

/-- TRAY_EN_tt. -/
def State.trayEnOut (s : State) (t : Nat) : Level := s.joined (s.drivenTray t).trayEn

/-- CONT_NEG_tt, CONT_PRE_tt and CONT_POS_tt. -/
def State.contactorOut (s : State) (t : Nat) : Level × Level × Level :=
  let x := s.drivenTray t
  (s.joined x.kN, s.joined x.kPre, s.joined x.kP)

/-- RECT_EN_A (g = 0) and RECT_EN_B: high while the group is enabled (R261). -/
def State.rectEnOut (s : State) (g : Nat) : Level := s.joined (bit (s.cfgU 0x3400 0x02) g)

/-- FAULT_OUT: high in every role until a cause sets it low (R541). -/
def State.faultOutLine (s : State) : Level :=
  if s.hw.phase = .starting then .high else if s.hw.released then .released else if s.fm.faultOut then .low else .high

/-- PAIR_ROLE_OUT. -/
def State.roleOutLine (s : State) : Level := s.joined true

/-! ### Contactor drives (R132, R143) -/

/-- K_N and K_PRE may be driven high: the configuration of the monitors is complete and the weir line clear. -/
def State.mayDrive (s : State) (t : Nat) : Bool := (s.tow t).cfgDone && !(s.tow t).weir

/-- A phase of the tray stands in FAULT after a failed check: its contactors do not close (R84). -/
def State.checkFailed (s : State) (t : Nat) : Bool := (s.phs t).any fun x => decide (x.st = .fault) && bit x.flags 3

/-- Every in-service phase of the tray has passed its check and entered SHED (R98): none waits for its check, is in it,
or stands in FAULT for a cause that only the check clears (R82). -/
def State.checksDone (s : State) (t : Nat) : Bool :=
  (s.phs t).all fun x =>
    !(x.want && decide (x.st ≠ .shed)) && decide (x.st ≠ .check) && (decide (x.st ≠ .fault) || bit x.flags 0 || bit x.flags 1)

/-- The drives of PRECHARGE go high once they may (R98, R99, log entry 21). -/
def startDrives (t : Nat) (s : State) : State :=
  let x := s.tray t
  if x.st = .precharge ∧ x.waitDrive = true ∧ x.pin = true ∧ s.mayDrive t ∧ s.drives ∧ s.checkFailed t = false ∧
      (x.blackStart = true ∨ s.checksDone t = true) then
    s.updTray t (fun x => { x with kN := true, kPre := true, driveAt := s.now, waitDrive := false })
  else s

/-- K_N and K_PRE are driven high: PRECHARGE (R98, R99). -/
def trayPrecharge (t : Nat) (blackStart : Bool) (s : State) : State :=
  startDrives t (s.updTray t (fun x => { x with
    st := .precharge, since := s.now, waitDrive := true, clockAt := none, critSince := none, blackStart := blackStart
    bsAsked := false, bsPassed := false, safe := false }))

end Sys2Proof.Machine
end

