-- ==== Sys2Proof/Machine/CapOps.lean ====
section
/-! DEFINITION. Writing to the capture ring (R378 to R380). -/

namespace Sys2Proof.Machine

/-- The ring is written: CAPTURING or POST. -/
def State.capOn (s : State) : Bool := decide (s.cap.st = .capturing) || decide (s.cap.st = .post)

/-- A record with its header (R379). -/
def capBytes (kind slot : Nat) (payload : Bytes) : Bytes :=
  let h := le 2 (8 + payload.length) ++ le 1 kind ++ le 1 slot
  h ++ le 4 (crc32c (h ++ le 4 0 ++ payload)) ++ payload

/-- Record bytes of the last second, with n more now (R385). -/
def tallyBytes (now n : Nat) (l : List (Nat × Nat)) : List (Nat × Nat) :=
  match l.filter fun e => decide (now < e.1 + sec) with
  | (t, b) :: rest => if t = now then (t, b + n) :: rest else (now, n) :: (t, b) :: rest
  | [] => [(now, n)]

/-- A record written to a region of `size` bytes, which keeps the newest. -/
def Cap.put (now size : Nat) (b : Bytes) (x : Cap) : Cap :=
  let e : CapRecord := { pos := x.recPos, at_ := now, bytes := b }
  let recs := (e :: x.records).takeWhile fun r => decide (x.recPos + b.length ≤ r.pos + size)
  { x with records := recs, recPos := x.recPos + b.length, tally := tallyBytes now b.length x.tally }

/-- Bytes of the record region. -/
def State.recRegion (s : State) : Nat := s.cfgU 0x2300 0x04 * 1048576

/-- Payload of a marker (R379). -/
def markerBytes (now cause : Nat) : Bytes := capBytes 4 0xFF (le 8 now ++ le 2 cause)

/-- A marker (R379): 1 step, 2 freeze, 3 release, 4 takeover, 5 frames dropped. -/
def capMarker (cause : Nat) (s : State) : State :=
  if s.capOn then { s with cap := s.cap.put s.now s.recRegion (markerBytes s.now cause) } else s

/-- The bytes already written in the present microsecond. -/
def State.capUsed (s : State) : Nat := if s.cap.usedAt = s.now / 1000 then s.cap.used else 0

/-- The write path keeps pace with n bytes more (R382): how many it takes in a microsecond the spec does not state. -/
def State.capKeeps (s : State) (n : Nat) : Bool := decide (s.capUsed + n ≤ Config.capPace)

/-- A drop is counted, with a marker of cause 5 (R382). -/
def State.capDrop (s : State) : Cap :=
  { s.cap.put s.now s.recRegion (markerBytes s.now 5) with dropped := sat32 (s.cap.dropped + 1) }

/-- Append a record, or drop it; the region keeps its newest [2300.04] MiB. -/
def capRecord (kind slot : Nat) (payload : Bytes) (s : State) : State :=
  if s.capOn then
    let b := capBytes kind slot payload
    let kept := { s.cap.put s.now s.recRegion b with usedAt := s.now / 1000, used := s.capUsed + b.length }
    { s with cap := if s.capKeeps b.length then kept else s.capDrop }
  else s

/-- Append a waveform frame, or drop it, with 1002h above 1,000 dropped within 1 s; the region keeps its newest
[2300.03] MiB. -/
def capFrame (t0 : Nat) (b : Bytes) (s : State) : State :=
  if s.capOn then
    let x := s.cap
    let kept := { x with
      frames := ((t0, b) :: x.frames).take (s.cfgU 0x2300 0x03 * 1048576 / 1088)
      usedAt := s.now / 1000, used := s.capUsed + b.length }
    let times := (s.now :: x.dropTimes.filter fun a => decide (s.now < a + sec)).take 1001
    let many := decide (1000 < times.length)
    let lost := { s.capDrop with dropTimes := times, up1002 := many }
    let r : Raise := { code := 0x1002, inst := noInst, ctx := s.context, at_ := s.now, data := le 8 s.now, count := 1 }
    let keep := s.capKeeps b.length
    { s with
      cap := if keep then kept else lost
      fm := { s.fm with inFlight := s.fm.inFlight ++ if !keep && many && !x.up1002 then [r] else [] } }
  else s

/-- A trigger (R380): POST, or ignored and counted. -/
def capTrigger (code : Nat) (s : State) : State :=
  match s.cap.st with
  | .off => s
  | .capturing =>
    { s with cap := { s.cap with
      st := .post, postUntil := s.now + s.cfgU 0x2300 0x06 * ms, trigAt := s.now, trigCode := code } }
  | _ => { s with cap := { s.cap with ignored := sat32 (s.cap.ignored + 1) } }

end Sys2Proof.Machine
end

