-- ==== Sys2Proof/Machine/Bfp.lean ====
section
/-! DEFINITION. Block floating point (R290 to R293, Tables 10.4 and 10.6) and the arithmetic of the stage operators
(Table 12.7). A number of a block is held with the exponent of its lowest bit and with its block's exponent. -/

namespace Sys2Proof.Machine

/-- Mantissa width of a format. -/
def bfpWidth (fmt : Nat) : Nat :=
  match fmt with
  | 1 => 8
  | 2 => 16
  | _ => 24

/-- A block (Table 10.4). -/
structure Block where
  e : Int
  fmt : Nat
  sat : Bool
  m : List Int
deriving DecidableEq, Repr

/-- Largest mantissa of a format; the code below minus it is never produced (R290). -/
def bfpMax (fmt : Nat) : Int := 2 ^ (bfpWidth fmt - 1) - 1

/-- Bytes that a block of n mantissas takes. -/
def blockLen (fmt n : Nat) : Nat := 4 + n * (bfpWidth fmt / 8)

/-- A mantissa as read: the most negative code counts as the one above it (R290). -/
def readMant (fmt : Nat) (v : Int) : Int := max v (-bfpMax fmt)

/-- A block from its bytes. -/
def parseBlock (b : Bytes) : Block :=
  let fmt := u8At b 1
  let k := bfpWidth fmt / 8
  { e := signed 8 (u8At b 0), fmt := fmt, sat := bit (u8At b 3) 0
    m := (List.range (min 64 (u8At b 2))).map fun i => readMant fmt (signed (8 * k) (ofLe (slice b (4 + k * i) k))) }

/-- Most negative mantissa codes in a block's bytes (R290). -/
def badCodes (b : Bytes) : Nat :=
  let fmt := u8At b 1
  let k := bfpWidth fmt / 8
  ((List.range (min 64 (u8At b 2))).filter fun i => ofLe (slice b (4 + k * i) k) == 2 ^ (8 * k - 1)).length

/-- The bytes of a block. -/
def blockBytes (x : Block) : Bytes :=
  let k := bfpWidth x.fmt / 8
  le 1 (unsigned 8 x.e) ++ le 1 x.fmt ++ le 1 x.m.length ++ le 1 (b2n x.sat) ++
    x.m.flatMap fun v => le k (unsigned (8 * k) v)

/-- A term: mantissa, exponent of its lowest bit, exponent of its block or blocks. -/
structure Term where
  m : Int
  low : Int
  top : Int
deriving DecidableEq, Repr

/-- Element i of a block; 0 past its end. -/
def Block.term (x : Block) (i : Nat) : Term := ⟨x.m.getD i 0, x.e - ((bfpWidth x.fmt - 1 : Nat) : Int), x.e⟩

/-- Its value. -/
def Term.val (t : Term) : Rat := (t.m : Rat) * pow2 t.low

/-- An exact product (R291). -/
def Term.mul (a b : Term) : Term := ⟨a.m * b.m, a.low + b.low, a.top + b.top⟩

/-- The negative. -/
def Term.neg (a : Term) : Term := { a with m := -a.m }

/-- The exact sum of products of one pair of blocks, which share their exponents (R291). -/
def sumPair (l : List Term) : Term :=
  match l with
  | [] => ⟨0, 0, 0⟩
  | t :: _ => { t with m := (l.map (·.m)).foldl (· + ·) 0 }

/-- The sum of R291 over terms of different pairs of blocks: exact where all terms share their exponents, else aligned 32 bits below the lowest bit of the
term with the largest exponent, bits below dropped by arithmetic right shift. -/
def sumTerms (l : List Term) : Rat :=
  match l with
  | [] => 0
  | t :: rest =>
    if rest.all fun u => u.low == t.low && u.top == t.top then sumQ0 (l.map Term.val)
    else
      let big := rest.foldl (fun b u => if b.top < u.top then u else b) t
      let p := big.low - 32
      ((l.map fun u => (u.val / pow2 p).floor).foldl (· + ·) 0 : Int) * pow2 p
where
  /-- A plain sum. -/
  sumQ0 (l : List Rat) : Rat := l.foldl (· + ·) 0

/-- A value on an output exponent, and whether it saturates (R292, R293). -/
def renormOne (fmt : Nat) (e : Int) (v : Rat) : Int × Bool :=
  let m := roundEven (v / pow2 (e - ((bfpWidth fmt - 1 : Nat) : Int)))
  (clampI (-bfpMax fmt) (bfpMax fmt) m, decide (bfpMax fmt < m) || decide (m < -bfpMax fmt))

/-- The smallest exponent from e on at which every element fits; 127 where none does (R292). -/
def normExp (fmt : Nat) (vs : List Rat) : Nat → Int → Int
  | 0, e => e
  | n + 1, e => if vs.all fun v => !(renormOne fmt e v).2 then e else normExp fmt vs n (e + 1)

/-- Renormalisation of a stage's values to a block (R292): normalised mode, or fixed at e. -/
def renorm (fmt : Nat) (norm : Bool) (e : Int) (vs : List Rat) : Block :=
  let e := if norm then normExp fmt vs 255 (-128) else e
  let r := vs.map (renormOne fmt e)
  { e := e, fmt := fmt, sat := r.any (·.2), m := r.map (·.1) }

end Sys2Proof.Machine
end

