-- ==== Sys2Proof/Machine/FeedOps.lean ====
section
/-! DEFINITION. What the feed interface sends and what it publishes (R261, R262, R268 to R270). -/

namespace Sys2Proof.Machine

/-- Rectifier r. -/
def State.rect (s : State) (r : Nat) : Rect := get Rect.reset s.feed.rects r

/-- Change it. -/
def State.updRect (s : State) (r : Nat) (f : Rect → Rect) : State :=
  { s with feed := { s.feed with rects := upd s.feed.rects r f } }

/-- Group g. -/
def State.group (s : State) (g : Nat) : Group := get Group.reset s.feed.groups g

/-- Change it. -/
def State.updGroup (s : State) (g : Nat) (f : Group → Group) : State :=
  { s with feed := { s.feed with groups := upd s.feed.groups g f } }

/-- Rectifiers of group g (R261). -/
def groupRects (g : Nat) : List Nat := (List.range 24).map (24 * g + ·)

/-- State of a rectifier ([3500+r.01]). -/
def Rect.code (x : Rect) : Nat :=
  match x.mode with
  | some false => 3
  | some true => if x.silent then 2 else 1
  | none => if x.silent then 2 else 0

/-- î_r at an instant (R269). -/
def Rect.iHat (x : Rect) (t : Nat) : Rat := x.base + x.slope * ((min t x.until_ - min x.baseAt x.until_ : Nat) : Rat)

/-- The ramped command at an instant: the command itself once its ramp of 1 ms is over (Table 9.3). -/
def Rect.ramped (x : Rect) (t : Nat) : Rat := x.cmd - x.slope * ((x.until_ - min t x.until_ : Nat) : Rat)

/-- A new command: a linear ramp over 1 ms from the present command (R263, R269), which is where its ramp stands. -/
def Rect.command (x : Rect) (t : Nat) (c : Rat) : Rect :=
  { x with cmd := c, base := x.iHat t, baseAt := t, slope := (c - x.ramped t) / (ms : Rat), until_ := t + ms }

/-- Data of a COMMAND frame (Table 9.2); currents go out in 0.01 A, nearest (log entry 35). -/
def commandData (s : State) (g : Nat) (immediate : Bool) : Bytes :=
  let xs := (groupRects g).map s.rect
  let i := xs.flatMap fun x => le 2 (clampI 0 65535 (roundEven (x.cmd * 100))).toNat
  let en := (xs.mapIdx fun k x => if x.code = 1 then 2 ^ k else 0).foldl (· + ·) 0
  le 1 (s.group g).seq ++ le 1 (b2n immediate) ++ i ++ le 3 en ++
    le 2 (clampI 0 65535 (roundEven (s.cfgF 0x2000 0x21 * 64))).toNat ++ List.replicate 9 0

/-- Send a CAN FD frame: only ACTIVE and TAKING do (R466). -/
def State.sendCan (s : State) (port id : Nat) (data : Bytes) : State :=
  if s.drives then s.send (.can port id data) else s

/-- Send group g the commands its rectifiers hold; none leaves while FAULT_OUT is asserted (R454). -/
def sendCommand (g : Nat) (immediate : Bool) (s : State) : State :=
  if s.fm.faultOut || !s.drives then s
  else (s.sendCan g (32 * 0x04) (commandData s g immediate)).updGroup g (fun x => { x with seq := (x.seq + 1) % 256 })

/-- Every rectifier of group g commanded to zero by an immediate frame (R270, R273). -/
def zeroGroup (g : Nat) (s : State) : State :=
  let s := (groupRects g).foldl (fun s r => s.updRect r (fun x => x.command s.now 0)) s
  sendCommand g true s

/-- Both groups (R270). -/
def zeroRects (s : State) : State := zeroGroup 1 (zeroGroup 0 s)

/-- A CONFIG frame that reads the mode register of rectifier r (R264). -/
def readMode (r : Nat) (s : State) : State :=
  s.sendCan (r / 24) (32 * 0x10 + r % 24 + 1) (le 2 1 ++ le 2 0 ++ le 4 0)

/-- A module that begins to drive the shelf reads the mode of every rectifier it has heard and not yet read (R264,
R466). -/
def readModes (s : State) : State :=
  ((List.range Config.rectifiers).filter fun r => (s.rect r).seen && (s.rect r).mode.isNone).foldl
    (fun s r => readMode r s) s

end Sys2Proof.Machine
end

