-- ==== Sys2Proof/Machine/BusLoop.lean ====
section
/-! DEFINITION. The bus loop (chapter 02): sample ingest, the stages of Table 2.1, the states of Table 2.2, the
supervision of Table 2.4 and the loop's commands. -/

namespace Sys2Proof.Machine

/-! ### Sample ingest (R23, R24, R37) -/

/-- The combined value of the valid readings (R23). -/
def combineV (l : List Rat) : Option Rat :=
  match l with
  | [] => none
  | [a] => some a
  | [a, b] => some ((a + b) / 2)
  | a :: rest =>
    let hi := rest.foldl max a
    let lo := rest.foldl min a
    some ((sumQ l - hi - lo) / ((l.length - 2 : Nat) : Rat))

/-- The valid reading of tray t for the sample instant t0: link up, marked valid, taken at t0 (R16, R23). -/
def State.reading (s : State) (t0 t : Nat) : Option Rat :=
  let l := s.link t
  if l.up && l.vBusOk && decide (l.statusAt = t0) then some l.vBus else none

/-- Tray t's reading is excluded. -/
def State.isExcluded (s : State) (t : Nat) : Bool := get false s.loop.excluded t

/-- The readings V_bus is formed from: the valid ones not excluded. They are what HOLD, 0108h and [2000.22] count as
valid readings (R23 to R25, log entry 69). -/
def State.usable (s : State) (t0 : Nat) : List Rat :=
  ((List.range Config.trays).filter (fun t => !s.isExcluded t)).filterMap (s.reading t0)

/-- Next value of a tray's run outside the threshold (R24): with fewer than three readings it pauses, whatever the
reading. -/
def outRunNext (excluded : Bool) (n : Nat) (thr v vb : Rat) (run : Nat) : Nat :=
  if decide (n < 3) then run
  else if thr < absQ (v - vb) then (if excluded then run else min 16 (run + 1)) else 0

/-- Next value of a tray's run within the threshold (R24). -/
def inRunNext (thr v vb : Rat) (run : Nat) : Nat := if thr < absQ (v - vb) then 0 else min 1000 (run + 1)

/-- Declared exponent of stage S7: ratios below 2 in magnitude, in steps of 2^−22 (log entry 12). -/
def expM : Int := 1

/-- The voltage ratio of tray t before rounding (R37): both voltages of the sample of t0. Where the link voltage of that
sample is missing or invalid, or V_bus is absent or not positive, none is formed, and the tray keeps its last ratio
(R88: the previous values stay in use). S7's reciprocal table is not printed: the quotient is formed exactly and rounded once
(log entry 69). -/
def ratioNow (s : State) (t0 : Nat) (vb : Option Rat) (t : Nat) : Option Rat :=
  let l := s.link t
  match vb with
  | some b => if decide (0 < b) && l.up && l.vLinkOk && decide (l.statusAt = t0) then some (l.vLink / b) else none
  | none => none

/-- Stage S7 saturates in the period (R26, R293). -/
def ratioSat (s : State) (t0 : Nat) (vb : Option Rat) : Bool :=
  (List.range Config.trays).any fun t => match ratioNow s t0 vb t with
    | some m => bfp24Sat expM m
    | none => false

/-- The measured bus-side current of tray t, its DC-link current × m_t; none on a lost link (R565, log entry 71). -/
def busSide (s : State) (m : List Rat) (t : Nat) : Rat := if (s.link t).up then (s.link t).iDc * get 0 m t else 0

/-- Sample ingest of the period that begins at t0. V_bus enters the stages as it is formed: whether ingest rounds it to
BFP24 first is not said (log entry 69). -/
def ingest (t0 : Nat) (s : State) : State :=
  let us := s.usable t0
  let vb := combineV us
  let thr := s.cfgF 0x2000 0x20
  let trays := List.range Config.trays
  let runs := fun (old : List Nat) (f : Nat → Rat → Rat → Nat → Nat) =>
    trays.map (fun t => match s.reading t0 t, vb with
      | some v, some b => f t v b (get 0 old t)
      | _, _ => get 0 old t)
  let m := trays.map (fun t => match ratioNow s t0 vb t with
    | some x => bfp24 expM x
    | none => get 0 s.loop.m t)
  let outRun := runs s.loop.outRun (fun t v b n => outRunNext (s.isExcluded t) us.length thr v b n)
  let inRun := runs s.loop.inRun (fun _ v b n => inRunNext thr v b n)
  let l := { s.loop with
    nValid := us.length, nLeft := us.length, readOk := trays.map fun t => (s.reading t0 t).isSome
    outRun := outRun, inRun := inRun, m := m, satM := ratioSat s t0 vb }
  let s := { s with trays := s.trays.mapIdx fun t (x : Tray) => { x with iBus := busSide s m t } }
  match vb with
  | some b => { s with loop := { l with vBus := b, vOk := true, vAt := some t0 } }
  | none => { s with loop := { l with vOk := false } }

/-! ### The stages (R26) -/

/-- Shared exponent of the volt stages: ±1,024 V with 2^−13 V (log entry 12). -/
def expV : Int := 10

/-- Shared exponent of the ampere stages: ±4,096 A with 2^−11 A (log entry 12). -/
def expA : Int := 12

/-- Flag bit of stage n when x saturates its format. -/
def satBit (n : Nat) (e : Int) (x : Rat) : Nat := if bfp24Sat e x then 2 ^ n else 0

/-- v moved toward the target by at most the slew. -/
def stepToward (v target slew : Rat) : Rat :=
  if absQ (target - v) ≤ slew then target else if v < target then v + slew else v - slew

/-- The slope whose interval holds t0; none outside every interval (R38, log entry 11). -/
def slopeNow (s : State) (t0 : Nat) : Rat :=
  match s.loop.slopes.find? fun x => decide (x.at_ ≤ t0) && decide (t0 < x.at_ + 10000) with
  | some x => if s.cfgU 0x2000 0x1B = 1 then x.s else 0
  | none => 0

/-- The latest slope is stale: its interval ended more than 10 µs earlier without a successor (R38). -/
def slopeStale (s : State) (t0 : Nat) : Bool :=
  match s.loop.slopes with
  | x :: _ => decide (s.cfgU 0x2000 0x1B = 1) && decide (x.at_ + 20000 < t0)
  | [] => false

/-- The loop takes delivery of a slope (R38): it and the one before it are kept. -/
def takeSlope (x : Slope) (l : Loop) : Loop :=
  { l with slopes := (x :: l.slopes.filter fun y => y.at_ != x.at_).take 2 }

/-- A value of a stage's output block, as a term on the block's declared exponent (R291, R294). -/
def fixTerm (e : Int) (x : Rat) : Term := ⟨roundEven (x / pow2 (e - 23)), e - 23, e⟩

/-- A converted coefficient, as a term of its normalised block (R291, R295). -/
def coefTerm (x : Rat) : Term :=
  let e := if x = 0 then -128 else bfp24Exp x
  fixTerm e x

/-- A sum of coefficients with values of stage outputs: each coefficient is a block of its own (log entry 69), so the
products are aligned as R291 says. -/
def stageSum (l : List (Rat × Int × Rat)) : Rat :=
  sumTerms (l.map fun x => (coefTerm x.1).mul (fixTerm x.2.1 x.2.2))

/-- A slew or a ramp object as the grid holds it: the step of one period, a normalised block of its own (R295, log
entry 12). -/
def slewOf (s : State) (sub : Nat) : Rat := s.cfgStep 0x2000 sub (if sub = 0x0F then 1 else 1000)

/-- S6: the clamp (R40, R41). -/
def clampOut (dis chg u : Rat) (l : Loop) : Loop :=
  { l with
    iSt := bfp24 expA (min (max u (-chg)) dis)
    satFlags := l.satFlags ||| satBit 6 expA (min (max u (-chg)) dis)
    sat := if dis < u then 1 else if u < -chg then -1 else 0 }

/-- The target of V_ref. -/
def vSet (s : State) : Rat := bfp24 expV (s.cfgF 0x2000 0x03)

/-- One period of SOFT or RUN (R26 to R42), on V_bus = v. A period counts in [2000.24] when the integrator's increment is
omitted; one in which only the slope is omitted does not (R42, log entry 69). -/
def loopLaw (s : State) (t0 : Nat) (v : Rat) (l : Loop) : Loop :=
  let c := l.coef
  let slew := slewOf s (if l.st = .soft then 0x05 else 0x04)
  let vr0 := stepToward l.vRef (vSet s) slew
  let vr := bfp24 expV vr0
  let e0 := vr - v
  let e := bfp24 expV e0
  let f0 := stageSum [(c.fb0, expV, e), (c.fb1, expV, l.fx1), (-c.fa1, expV, l.fy1)]
  let ef := bfp24 expV f0
  let g0 := stageSum [(c.sb0, expV, ef), (c.sb1, expV, l.sx1), (c.sb2, expV, l.sx2), (-c.sa1, expV, l.sy1)
    , (-c.sa2, expV, l.sy2)]
  let es := bfp24 expV g0
  let p0 := c.kp * es
  let p := bfp24 expA p0
  let stop := (l.sat == 1 && decide (0 < es)) || (l.sat == -1 && decide (es < 0))
  let i0 := if stop then l.integ else sumTerms [fixTerm expA l.integ, (coefTerm c.ki).mul (fixTerm expV es)]
  let i1 := bfp24 expA i0
  let h := bfp24 expA (c.kh * l.ff)
  let slope := slopeNow s t0
  let add := if l.sat ≠ 0 ∧ sgn slope = l.sat then 0 else slope
  let ff0 := l.ff - h + add
  let ff := bfp24 expA ff0
  let i2 := bfp24 expA (i1 + h)
  let u0 := p + i2 + ff
  let u := bfp24 expA u0
  let flags := satBit 1 expV vr0 ||| satBit 1 expV e0 ||| satBit 2 expV f0 ||| satBit 3 expV g0 |||
    satBit 4 expA p0 ||| satBit 4 expA i0 ||| satBit 4 expA (i1 + h) ||| satBit 5 expA ff0 ||| satBit 5 expA u0
  let l := { l with vRef := vr, fx1 := e, fy1 := ef, sx2 := l.sx1, sx1 := ef, sy2 := l.sy1, sy1 := es }
  let l := { l with integ := i2, ff := ff, satFlags := flags, slopeUsed := slope }
  let l := { l with stops := if stop then sat32 (l.stops + 1) else l.stops }
  let l := { l with stale := if slopeStale s t0 then sat32 (l.stale + 1) else l.stale }
  clampOut l.disLim l.chgLim u l

/-- The trays' measured bus-side current (R31, [3000+t.08]). -/
def iMeas (s : State) : Rat := sumQ (s.trays.map (·.iBus))

/-- The period in which SOFT is entered (R31). The memories of both filters start at zero (log entry 69). -/
def loopEnter (s : State) (v : Rat) (l : Loop) : Loop :=
  let i := bfp24 expA (iMeas s)
  let l := { l with entry := false, vRef := bfp24 expV v, integ := i, ff := 0, slopeUsed := 0 }
  let l := { l with fx1 := 0, fy1 := 0, sx1 := 0, sx2 := 0, sy1 := 0, sy2 := 0 }
  let l := { l with satFlags := satBit 1 expV v ||| satBit 4 expA (iMeas s) }
  clampOut l.disLim l.chgLim i l

/-- One period of STOPPING: I_st ramps to zero at [2000.0F], within the clamp (Table 2.2, R11). -/
def loopStopping (s : State) (l : Loop) : Loop :=
  let i := min (max (stepToward l.iSt 0 (slewOf s 0x0F)) (-l.chgLim)) l.disLim
  { l with iSt := bfp24 expA i, sat := 0, satFlags := satBit 6 expA i, slopeUsed := 0 }

/-- Current zero, no stage S1 to S6 saturated. -/
def loopZero (l : Loop) : Loop := { l with iSt := 0, sat := 0, satFlags := 0, slopeUsed := 0 }

/-- A period without a reading in SOFT, RUN or HOLD (R25). I_st is repeated as it was, above limits that have fallen
meanwhile too, as in a period whose stages are void (R11, R303, log entry 69). -/
def loopMiss (l : Loop) : Loop :=
  if l.st = .hold then { l with holdCount := l.holdCount + 1 }
  else { l with st := .hold, holdFrom := l.st, holdCount := 1 }

/-- The loop of the period that begins at t0, after ingest: its state's part of R26 to R42. -/
def loopCore (s : State) (t0 : Nat) : Loop :=
  let l := { s.loop with disLim := s.alloc.disLim, chgLim := s.alloc.chgLim }
  let l := if l.st = .charge ∧ s.anyCarrying then { l with st := .soft, entry := true } else l
  match l.st with
  | .off | .charge | .tripped => loopZero l
  | .stopping => loopStopping s l
  | .soft | .run | .hold =>
    if l.vOk then
      let l := if l.st = .hold then { l with st := l.holdFrom } else l
      if l.entry then loopEnter s l.vBus l else loopLaw s t0 l.vBus l
    else loopMiss l

/-- A period that is void from stage k + 1 on, of S1 to S6 (R303): the stages before it leave their new state, the others
theirs as it was, and a void stage reports no saturation (Table 10.10). -/
def loopUpTo (k : Nat) (s : State) (t0 : Nat) : Loop :=
  let l := s.loop
  let runs := decide (l.st = .soft ∨ l.st = .run) && l.vOk && !l.entry
  let n := if runs then loopLaw s t0 l.vBus (if k = 4 then { l with coef := { l.coef with kh := 0 } } else l)
    else { l with satFlags := 0 }
  let part := fun (j : Nat) (f : Loop → Rat) => if j < k then f n else f l
  { l with
    vRef := part 0 (·.vRef), fx1 := part 1 (·.fx1), fy1 := part 1 (·.fy1)
    sx1 := part 2 (·.sx1), sx2 := part 2 (·.sx2), sy1 := part 2 (·.sy1), sy2 := part 2 (·.sy2)
    integ := part 3 (·.integ), stops := if 3 < k then n.stops else l.stops
    ff := part 4 (·.ff), slopeUsed := part 4 (·.slopeUsed), stale := if 4 < k then n.stale else l.stale
    satFlags := n.satFlags % 2 ^ (k + 1) }

/-- The run of a window of Table 2.4. -/
def windowNext (l : Loop) (half : Rat) (run : Nat) : Nat :=
  if l.st = .run ∧ l.vOk ∧ half < absQ (l.vBus - l.vRef) then run + 1 else 0

/-- The saturation flag of stage S7, which runs in every period (R26, [2000.28]). -/
def flagM (l : Loop) : Loop := { l with satFlags := l.satFlags % 128 + 128 * b2n l.satM }

/-- Run lengths and standing conditions after the period (Table 2.4). -/
def loopRuns (s : State) (l : Loop) : Loop :=
  let w := windowNext l (s.cfgF 0x2000 0x1C) l.windowRun
  let f := windowNext l (s.cfgF 0x2000 0x1E) l.farRun
  let c := if l.sat = 0 then 0 else l.clampRun + 1
  let quiet := l.st = .off ∨ l.st = .tripped
  { l with
    windowRun := w, farRun := f, clampRun := c
    up101 := l.up101 && decide (w ≠ 0), up102 := l.up102 && decide (f ≠ 0), up105 := l.up105 && decide (c ≠ 0)
    up106 := decide (l.satFlags ≠ 0)
    up108 := !decide quiet && (decide (l.nValid = 1) || (decide (l.nValid = 0) && l.up108)) }

/-- The values of I_st in the last 10 s that no later one exceeds in the same direction, newest first (R114). -/
def peaksNext (now : Nat) (i : Rat) (l : List (Nat × Rat)) : List (Nat × Rat) :=
  (now, i) :: (l.filter fun e => decide (i < e.2) && decide (now < e.1 + 10000000000))

/-- The bus loop's part of a control period: stages, runs, the faults that a period itself raises; P_ref on the way
from CHARGE to SOFT, with V_bus valid or not (R25, R270). -/
def loopPeriod (t0 : Nat) (s : State) : State :=
  let old := s.loop
  let l := loopRuns s (flagM (loopCore s t0))
  let l := { l with disPeaks := peaksNext t0 l.iSt l.disPeaks, chgPeaks := peaksNext t0 (-l.iSt) l.chgPeaks }
  let s := { s with loop := { l with hist := (l.iSt :: l.hist).take 11 } }
  let s := if old.st = .charge ∧ l.st ≠ .charge then
    { s with feed := { s.feed with pRef := s.feed.iRect * l.vBus / 1000 } } else s
  let s := when_ (l.up106 && !old.up106) (fun s => s.raise 0x0106 noInst) s
  when_ (l.up108 && !old.up108) (fun s => s.raise 0x0108 noInst) s

/-! ### The instants of the loop -/

/-- Exclusion of a reading (R24): in a period with at least three valid readings, the tray's own among them. -/
def excludeEff (t : Nat) (s : State) : State :=
  if 16 ≤ get 0 s.loop.outRun t ∧ s.isExcluded t = false ∧ 3 ≤ s.loop.nLeft ∧ get false s.loop.readOk t = true then
    State.raise { s with loop := { s.loop with
      excluded := s.loop.excluded.set t true, outRun := s.loop.outRun.set t 0, inRun := s.loop.inRun.set t 0
      nLeft := s.loop.nLeft - 1 } } 0x0103 t
  else s

/-- Readmission of a reading (R24). -/
def readmitEff (t : Nat) (s : State) : State :=
  if s.isExcluded t ∧ 1000 ≤ get 0 s.loop.inRun t then
    { s with loop := { s.loop with excluded := s.loop.excluded.set t false, outRun := s.loop.outRun.set t 0 } }
  else s

/-- The loop enters TRIPPED, from any state except OFF (Table 2.2); the rectifiers are commanded to zero at once
(R270). -/
def tripLoop (s : State) : State :=
  if s.loop.st = .off then s
  else zeroRects { s with loop := { loopZero s.loop with st := .tripped, entry := false } }

/-- Five periods in HOLD without a reading (R25). -/
def holdTimeoutEff (s : State) : State :=
  if s.loop.st = .hold ∧ 5 ≤ s.loop.holdCount then tripLoop (s.raise 0x0104 noInst) else s

/-- The clamp active for more than 100 consecutive periods (R43, Table 2.4). -/
def clampPersistentEff (s : State) : State :=
  if 100 < s.loop.clampRun ∧ s.loop.up105 = false then
    State.raise { s with loop := { s.loop with up105 := true } } 0x0105 noInst
  else s

/-- V_bus outside the window for longer than the window time (Table 2.4). -/
def windowTimeoutEff (s : State) : State :=
  if s.loop.st = .run ∧ s.cfgU 0x2000 0x1D < s.loop.windowRun ∧ s.loop.up101 = false then
    State.raise { s with loop := { s.loop with up101 := true } } 0x0101 noInst
  else s

/-- V_bus outside the far window for longer than the far-window time (Table 2.4). -/
def farTimeoutEff (s : State) : State :=
  if s.loop.st = .run ∧ s.cfgU 0x2000 0x1F < s.loop.farRun ∧ s.loop.up102 = false then
    State.raise { s with loop := { s.loop with up102 := true } } 0x0102 noInst
  else s

/-- V_ref has reached V_set in SOFT (R32, Table 2.2): the window supervision begins. -/
def softCompleteEff (s : State) : State :=
  if s.loop.st = .soft ∧ s.loop.entry = false ∧ s.loop.vRef = vSet s then
    { s with loop := { s.loop with st := .run, windowRun := 0, farRun := 0 } }
  else s

/-- I_st has reached zero in STOPPING (Table 2.2). -/
def stoppingCompleteEff (s : State) : State :=
  if s.loop.st = .stopping ∧ s.loop.iSt = 0 then { s with loop := { loopZero s.loop with st := .off } } else s

/-- The instants above that are due: a control period first takes those that no command has taken (log entry 13). -/
def settleLoop (s : State) : State :=
  let s := (List.range Config.trays).foldl (fun a t => readmitEff t (excludeEff t a)) s
  stoppingCompleteEff (softCompleteEff (farTimeoutEff (windowTimeoutEff (clampPersistentEff (holdTimeoutEff s)))))

/-! ### Commands of [2000.02] (R29 to R35) -/

/-- V_bus of the period, else the last valid one formed within the last 5 periods (R34). -/
def vBusForCommand (s : State) : Option Rat :=
  match s.loop.vAt with
  | some a => if s.loop.vOk ∨ s.now ≤ a + 5000 then some s.loop.vBus else none
  | none => none

/-- The coefficients as BFP24, rounded to nearest even (R47). Each is a normalised block of its own: which coefficients
share one exponent is not said (log entry 69). -/
def convertCoef (s : State) : Coef :=
  let f := fun sub => bfp24Norm (s.cfgF 0x2000 sub)
  ⟨f 0x10, f 0x11, f 0x12, f 0x13, f 0x14, f 0x15, f 0x16, f 0x17, f 0x18, f 0x19, f 0x1A⟩

/-- Leave OFF for a state, with the coefficients converted (R47). -/
def loopLeaveOff (st : LoopSt) (s : State) : State :=
  ({ s with loop := { s.loop with st := st, coef := convertCoef s, entry := decide (st = LoopSt.soft) } } : State).dropStep

/-- Command 1 (R34). -/
def loopStartEff (ses : Nat) (s : State) : State :=
  if s.loop.st = .off then
    match vBusForCommand s with
    | some v => loopLeaveOff (if s.cfgF 0x2000 0x2B ≤ v ∧ s.anyCarrying then .soft else .charge) s
    | none => s.violate ses 0x2000 0x02
  else s.violate ses 0x2000 0x02

/-- Command 2 (R35). The contactors of a black-start tray with a phase in FAULT after a failed check stay open while it
has such a phase (R84, log entry 69). -/
def loopBlackStartEff (ses : Nat) (s : State) : State :=
  let t := s.cfgU 0x2000 0x29
  if s.loop.st = .off then
    match vBusForCommand s with
    | some v =>
      if s.cfgF 0x2000 0x2B ≤ v then
        (if s.anyCarrying then loopLeaveOff .soft s else s.violate ses 0x2000 0x02)
      else if s.bothAbsent ∧ t < Config.trays ∧ (s.tray t).st = .idle then
        trayPrecharge t true (loopLeaveOff .charge s)
      else s.violate ses 0x2000 0x02
    | none => s.violate ses 0x2000 0x02
  else s.violate ses 0x2000 0x02

/-- Command 3 (Table 2.2, R33): the feed interface commands zero at its next refresh. -/
def loopStopEff (ses : Nat) (s : State) : State :=
  match s.loop.st with
  | .charge | .soft | .run | .hold => { s with loop := { s.loop with st := .stopping, entry := false } }
  | _ => s.violate ses 0x2000 0x02

/-- Command 4 (Table 2.2). -/
def loopResetEff (ses : Nat) (s : State) : State :=
  if s.loop.st = .tripped then { s with loop := { s.loop with st := .off } } else s.violate ses 0x2000 0x02

/-! ### Meanings -/

/-- TRAY_READING_EXCLUDED (R24). -/
def execTrayReadingExcluded (t : Nat) (s : State) : Host.Outcome State Fault Refusal :=
  run (decide (t < Config.trays)) s (excludeEff t)

/-- TRAY_READING_READMITTED (R24). -/
def execTrayReadingReadmitted (t : Nat) (s : State) : Host.Outcome State Fault Refusal :=
  run (decide (t < Config.trays)) s (readmitEff t)

/-- LOOP_HOLD_TIMEOUT (R25). -/
def execLoopHoldTimeout (s : State) : Host.Outcome State Fault Refusal := run true s holdTimeoutEff

/-- CLAMP_PERSISTENT (R44). -/
def execClampPersistent (s : State) : Host.Outcome State Fault Refusal := run true s clampPersistentEff

/-- WINDOW_TIMEOUT (R44). -/
def execWindowTimeout (s : State) : Host.Outcome State Fault Refusal := run true s windowTimeoutEff

/-- FAR_WINDOW_TIMEOUT (R44). -/
def execFarWindowTimeout (s : State) : Host.Outcome State Fault Refusal := run true s farTimeoutEff

/-- SOFT_START_COMPLETE (R32). -/
def execSoftStartComplete (s : State) : Host.Outcome State Fault Refusal := run true s softCompleteEff

/-- STOPPING_COMPLETE (R29). -/
def execStoppingComplete (s : State) : Host.Outcome State Fault Refusal := run true s stoppingCompleteEff

/-- LOOP_START (R34). -/
def execLoopStart (ses : Nat) (s : State) : Host.Outcome State Fault Refusal :=
  run (decide (ses < Config.sessions)) s (loopStartEff ses)

/-- LOOP_BLACK_START (R35). -/
def execLoopBlackStart (ses : Nat) (s : State) : Host.Outcome State Fault Refusal :=
  run (decide (ses < Config.sessions)) s (loopBlackStartEff ses)

/-- LOOP_STOP (R33). -/
def execLoopStop (ses : Nat) (s : State) : Host.Outcome State Fault Refusal :=
  run (decide (ses < Config.sessions)) s (loopStopEff ses)

/-- LOOP_RESET (R29). -/
def execLoopReset (ses : Nat) (s : State) : Host.Outcome State Fault Refusal :=
  run (decide (ses < Config.sessions)) s (loopResetEff ses)

end Sys2Proof.Machine
end

