-- ==== Sys2Proof/Machine/Transactions.lean ====
section
/-! DEFINITION. Transactions (R429 to R435): opening, elements, closing, and their copies in flash. -/

namespace Sys2Proof.Machine

/-- Open transactions. -/
def State.openTxns (s : State) : Nat := (s.txn.recs.filter (fun r => r.st == 0)).length

/-- A transaction record by id. -/
def State.txnById (s : State) (id : Nat) : Option Txn := s.txn.recs.find? (fun r => r.id == id)

/-- Elements completed. -/
def popCount : Nat → Nat → Nat
  | 0, _ => 0
  | n + 1, v => v % 2 + popCount n (v / 2)

/-- Room for one more record: with 256 held, the oldest closed one goes (R434). -/
def dropOldest (l : List Txn) : List Txn :=
  if l.length < 256 then l else
    match l.findIdx? (fun r => r.st != 0) with
    | some i => l.eraseIdx i
    | none => l

/-- Copy a record to flash, in its place by age (R434). -/
def copyTxn (id : Nat) (s : State) : State :=
  match s.txnById id with
  | some r =>
    let l := s.txn.flash
    { s with txn := { s.txn with
      flash := if l.any (fun x => x.id == id) then l.map fun x => if x.id = id then r else x else dropOldest l ++ [r] } }
  | none => s

/-- A new record (R429, R430). -/
def newTxn (s : State) (kind object arg requested ses seq : Nat) : Txn :=
  { id := s.txn.highest + 1, kind := kind, st := 0, session := ses, flags := 0, object := object, arg := arg,
    requested := requested, done := 0, count := none, cause := 0, cycles := s.od.powerCycles % 65536, opened := s.now, closed := 0,
    seq := seq }

/-- Open a transaction; the caller has checked that fewer than 32 are open (R429). -/
def openTxn (kind object arg requested ses seq : Nat) (s : State) : State :=
  let r := newTxn s kind object arg requested ses seq
  let t := { s.txn with recs := dropOldest s.txn.recs ++ [r], highest := r.id }
  copyTxn r.id { s with txn := { t with lastBy := if ses < Config.sessions then t.lastBy.set ses r.id else t.lastBy } }

/-- Change a record. -/
def updTxn (id : Nat) (f : Txn → Txn) (s : State) : State :=
  { s with txn := { s.txn with recs := s.txn.recs.map (fun r => if r.id = id then f r else r) } }

/-- Element i of an open record completed; kinds 1 and 4 are copied to flash at each element (R434). -/
def txnElement (id i : Nat) (s : State) : State :=
  match s.txnById id with
  | some r =>
    if r.st = 0 then
      let s := updTxn id (fun r => { r with done := setBit r.done i true }) s
      if r.kind = 1 ∨ r.kind = 4 then copyTxn id s else s
    else s
  | none => s

/-- Close an open record in a state of Table 15.8 with its cause. -/
def closeTxn (id st cause : Nat) (s : State) : State :=
  match s.txnById id with
  | some r =>
    if r.st = 0 then copyTxn id (updTxn id (fun r => { r with st := st, cause := cause, closed := s.now }) s) else s
  | none => s

/-- A 33rd open transaction: ignored whole, a violation, warning 0002h (R429). -/
def txnLimit (ses index sub : Nat) (s : State) : State := (s.violate ses index sub).raise 0x0002 noInst

/-- Close a record by its elements: COMPLETE with all of them, PARTIAL else (Table 15.8). -/
def finishTxn (id : Nat) (s : State) : State :=
  match s.txnById id with
  | some r => closeTxn id (if r.done + 1 = 2 ^ r.requested then 1 else 2) 0 s
  | none => s

end Sys2Proof.Machine
end

