-- ==== Sys2Proof/Machine/TrayOps.lean ====
section
/-! DEFINITION. Transitions of a tray that several chapters cause (Table 4.1, R116, R117, R567). -/

namespace Sys2Proof.Machine

/-- A tray enters a state (Table 4.1). -/
def setTray (t : Nat) (st : TraySt) (s : State) : State := s.updTray t (fun x => { x with st := st, since := s.now })

/-- Every contactor drive of the tray low. Reopening K_P ends a suspension of the tray-sum test (R78). -/
def drivesLow (t : Nat) (s : State) : State :=
  let s := if (s.tray t).kP then s.updTp t (fun y => { y with sumOff := false, mismatch := 0 }) else s
  s.updTray t (fun x => { x with kN := false, kPre := false, kP := false })

/-- K_P and K_PRE low, K_N kept (R112). -/
def drivesLowButN (t : Nat) (s : State) : State :=
  let n := (s.tray t).kN
  (drivesLow t s).updTray t (fun x => { x with kN := n })

/-- Slack water of tray t ends here: the interval of R114 runs from now (R116). -/
def slackOver (t : Nat) (s : State) : State :=
  if s.alloc.slackTray = some t then
    { s.updTray t (fun x => { x with slack := .none_, slackEnd := s.now, ramp := none }) with
      alloc := { s.alloc with slackTray := none, slackEnd := some s.now, urgentSince := none } }
  else s

/-- The resting tray returns through ADMIT over a ramp of `len` ns (R116, R105). -/
def slackReturn (t len : Nat) (s : State) : State :=
  (slackOver t s).updTray t (fun x => { x with
    st := .admitting, since := s.now, a := 0, rampFrom := none, rampLen := len, ramp := none, leftAt := none })

/-- Urgent end of slack water, with notice 0307h (R116). -/
def slackUrgent (s : State) : State :=
  match s.alloc.slackTray with
  | some t => (slackReturn t (s.cfgU 0x3010 0x0A * ms) s).raise 0x0307 t
  | none => s

/-- Tray t leaves the allocation set other than by a ramp-down into slack water: another tray's slack water ends
urgently, its own ends plainly (R116). -/
def leavesSet (t : Nat) (s : State) : State :=
  if s.alloc.slackTray = some t then slackOver t s
  else if s.alloc.slackTray = none then s else slackUrgent s

/-- The tray's drain transaction, if open, closes as interrupted (R113). -/
def interruptDrain (t cause : Nat) (s : State) : State :=
  let id := (s.tray t).drainTxn
  if id = 0 then s else closeTxn id 3 cause s

/-- The contactor test ends: the phase that ran it returns to SHED under R110 (R104). -/
def testOver (t : Nat) (s : State) : State :=
  (s.updTp t (fun y => { y with testRef := none, testEnd := y.testRef.isSome && y.testPhase.isSome || y.testEnd })).updTray t (fun x => { x with test := none })

/-- The black-start tray fails: the loop returns from CHARGE to OFF (Table 2.2). -/
def blackStartFailed (t : Nat) (s : State) : State :=
  if (s.tray t).blackStart ∧ s.loop.st = .charge then { s with loop := { s.loop with st := .off } } else s

/-- Into FAULT (Table 4.1): drives low, gates disabled; another tray's slack water ends urgently (Table 4.6), and a
black start has failed (Table 2.2). -/
def trayFault (t cause : Nat) (s : State) : State :=
  (testOver t (drivesLow t (leavesSet t (blackStartFailed t s)))).updTray t (fun x => { x with
    st := .fault, since := s.now, trayEn := false, cause := cause, openSince := none, leftAt := none
    openAtZero := false, blackStart := false, ramp := none, autoPending := false, waitDrive := false })

/-- Opening without a test: drives low at once, FAULT after the open time (R567). -/
def trayOpenFault (t cause : Nat) (s : State) : State :=
  let s := if cause = 0 then s else blackStartFailed t (leavesSet t s)
  let s := (testOver t (drivesLow t s)).updTray t (fun x => { x with
    st := .opening, since := s.now, openSince := some s.now, cause := cause, critSince := none
    clockAt := none, leftAt := none, openAtZero := false, blackStart := false, ramp := none, waitDrive := false })
  s.updTp t (fun y => { y with check := none })

/-- A drained tray opens K_P, its opening to be confirmed by the test after the open time (R112). -/
def drainOpen (t cause : Nat) (s : State) : State :=
  let id := (s.tray t).drainTxn
  let s := if cause = 0 then txnElement id 0 s else s
  (drivesLowButN t s).updTray t (fun x => { x with
    st := .opening, since := s.now, openSince := none, closeAt := s.now, cause := cause, ramp := none })

/-- The string current of tray t is within the opening level of 2.0 A (Table 4.8). -/
def atZero (s : State) (t : Nat) : Bool := decide (absQ (s.iStr t) ≤ 2)

/-- The drives that wait for the string current to reach 2.0 A: a pulled or weir-tripped tray's (R117, Table 4.6), a
drained tray's that has left the set (R112). -/
def openAtZeroCheck (t : Nat) (s : State) : State :=
  let x := s.tray t
  if atZero s t then
    if x.openAtZero then
      (drivesLow t s).updTray t (fun x => { x with
        openAtZero := false, openSince := if x.st = .opening then some s.now else x.openSince })
    else if x.st = .drain ∧ x.leftAt ≠ none then drainOpen t 0 s
    else s
  else s

/-- Marked lines that the sense-suspect cells of monitor m stand for, from cell k on: two neighbours for the line between
them, a single end cell for its end line, any other single cell for a failed main channel (Table 5.8). The first argument
bounds the cells looked at. -/
def linesFrom (m mask : Nat) : Nat → Nat → List Nat
  | 0, _ => []
  | n + 1, k =>
    if 12 ≤ k then []
    else if !bit mask (12 * m + k) then linesFrom m mask n (k + 1)
    else if k < 11 ∧ bit mask (12 * m + k + 1) then (13 * m + k + 1) :: linesFrom m mask n (k + 2)
    else (if k = 0 then 13 * m else if k = 11 then 13 * m + 12 else 256 + 12 * m + k) :: linesFrom m mask n (k + 1)

/-- The marked lines of a tray whose marks alone were carried over (R154, log entry 69). -/
def linesOf (mask : Nat) : List Nat := (List.range 16).flatMap fun m => linesFrom m mask 12 0

/-- The derate of a count of marked lines (R154); it stays at 0.50 above two (log entry 69). -/
def derateOf (b : Nat) : Rat := if b = 0 then 1 else if b = 1 then 3 / 4 else 1 / 2

/-- Bleeding time up to now enters the cells' accounts (R163); called before the bleeding mask changes. -/
def bleedAccount (t : Nat) (s : State) : State :=
  let mask := (s.tow t).bleeding
  s.updEst t (fun x => { x with
    bleedFrom := s.now
    cells := if mask = 0 then x.cells else x.cells.mapIdx fun c y =>
      if bit mask c then { y with bled := y.bled + (s.now - x.bleedFrom) } else y })

/-- Impedance writes that wait for an update of a tray that is gone are cut short (Table 15.8). -/
def interruptWrites (t cause : Nat) (s : State) : State :=
  let l := (s.estOf t).impDue
  l.foldl (fun s e => closeTxn e.id 3 cause s) (s.updEst t (fun x => { x with impDue := [] }))

/-- A tray is ABSENT (Table 4.1): drives and gates low, its ring silent (Table 5.9). -/
def trayAbsent (t : Nat) (s : State) : State :=
  let s := bleedAccount t (testOver t (drivesLow t (interruptWrites t 0x0309 (interruptDrain t 0x0309 s))))
  let s := s.updTray t (fun x => { x with
    st := .absent, since := s.now, trayEn := false, pinBlocked := false, a := 0, rampFrom := none, ramp := none
    openSince := none, leftAt := none, openAtZero := false, blackStart := false, cause := 0, autoPending := false
    waitDrive := false, seatLostAt := none, lostInSet := false, pulledInSet := false, weirFault := false
    linkFault := false })
  let s := s.updTp t (fun y => { y with check := none })
  s.updTow t (fun x => { x with
    ring := .down, brkSource := false, cyc := .idle, replies := [], plReplies := [], enumReplies := [], enumDue := false, cfgDone := false
    queue := [], cfgSent := [], suspicions := [], test := none, testDeferred := false, weirRun := none
    bleeding := 0, fresh := false })

/-- The pre-start check of the tray has ended (R84): what the tray does with the outcome. A tray in PRECHARGE whose
drives still wait acts on the check of a phase commanded into service meanwhile: its contactors do not close before every
in-service phase has passed (R98). -/
def checkOutcome (t : Nat) (c : Check) (s : State) : State :=
  let s := s.updTp t (fun y => { y with check := none })
  let failed := c.anyFailed || s.checkFailed t
  let x := s.tray t
  if x.st = .precharge ∧ x.waitDrive = true ∧ c.blackStart = false then
    (if failed then trayFault t 0x0206 s else startDrives t s)
  else if c.manager = false then s
  else if c.blackStart then
    (if failed then trayOpenFault t 0x0206 s else s.updTray t (fun x => { x with bsPassed := true }))
  else if x.st = .check then (if failed then trayFault t 0x0206 s else trayPrecharge t false s)
  else s

/-- The phases already told of a check that is asked for anew, for phase p or for the tray: what it asks for is told of
again where it is deferred, not where the check runs (R82). -/
def Check.toldFor (c : Check) (p : Option Nat) : List Nat :=
  match p with
  | some p => if c.started then p :: c.told else c.told.filter (· != p)
  | none => if c.started then c.told else []

/-- A request of the pre-start check, by a command for phase p or for the tray; it waits until PRESTART_CHECK_START
(R82). -/
def requestCheck (t : Nat) (p : Option Nat) (manager blackStart : Bool) (s : State) : State :=
  s.updTp t (fun y => match y.check with
    | some c => { y with check := some { c with
        manager := c.manager || manager, blackStart := c.blackStart || blackStart, told := c.toldFor p } }
    | none => { y with check := some {
        started := false, told := [], todo := [], tries := 0, due := s.now, retry := false, tb := none, ta := 0,
        anyFailed := false, blackStart := blackStart, manager := manager } })

end Sys2Proof.Machine
end

