-- ==== Sys2Proof/Machine/Allocation.lean ====
section
/-! DEFINITION. Tray allocation of one period: the set, admission, limits, weights, placement (R105 to R111). -/

namespace Sys2Proof.Machine

/-- The tray belongs to the allocation set (Table 4.1, R112, R121). An admitted tray enters it once its test phase has
returned to SHED: tray allocation keeps it outside the set throughout the test (R104, Table 4.5). A draining tray stays in it with its weight until
its limits are zero, as R111 and the text under it say; the sentence under R12 that gives a draining tray a share of zero
is read of a tray whose drain has reached zero (log entry 69). -/
def setMember (s : State) (t : Nat) : Bool :=
  let x := s.tray t
  (s.link t).up && !(s.tp t).testEnd &&
    match x.st with
    | .admitting | .online => true
    | .drain => x.leftAt.isNone
    | .slack => decide (x.slack = .rampDown)
    | _ => false

/-- The bus loop is in SOFT or RUN. -/
def loopRunning (s : State) : Bool := decide (s.loop.st = .soft) || decide (s.loop.st = .run)

/-- Admission factor and derate of one period (R105, R154); the factor stands still while the tray's link is lost
(R121). -/
def admitNext (s : State) (t0 : Nat) (linked : Bool) (x : Tray) : Tray :=
  let x := if x.q = x.qTarget then x else { x with q := stepToward x.q x.qTarget x.qStep }
  match x.st, x.rampFrom with
  | .admitting, some f =>
    if linked = false then { x with rampFrom := some (f + 1000) } else
    { x with a := if x.rampLen = 0 then 1 else min 1 (((t0 - f : Nat) : Rat) / (x.rampLen : Rat)) }
  | .admitting, none => if linked ∧ loopRunning s ∧ x.a < 1 then { x with rampFrom := some t0 } else x
  | _, _ => x

/-- The bus-side limits of R106, discharge then charge magnitude. -/
def limitsOf (s : State) (t : Nat) (x : Tray) : Rat × Rat :=
  let m := get 0 s.loop.m t
  let c := (s.tp t).capacity * m
  let p := if 0 < s.loop.vBus then s.cfgB (0x3000 + t) 0x0A * 1000 / s.loop.vBus else 0
  let e := s.estOf t
  (max 0 (x.a * x.q * min p (min c (e.eD * m))), max 0 (x.a * x.q * min p (min c (e.eC * m))))

/-- The limits of one period: those of R106, or the ramped ones of R111. -/
def limitNext (s : State) (t : Nat) (x : Tray) : Tray :=
  match x.ramp with
  | some (d, c) =>
    let slew := s.cfgStep (0x3000 + t) 0x1A 1000
    let d' := stepToward d 0 slew
    let c' := stepToward c 0 slew
    { x with ramp := some (d', c'), lD := d', lC := c' }
  | none =>
    let l := limitsOf s t x
    { x with lD := l.1, lC := l.2 }

/-- The state-of-charge factor g_t (R107). -/
def socFactor (gain soc mean : Rat) (sigma : Int) : Rat :=
  clampQ (1 / 2) (3 / 2) (1 + gain * (soc - mean) * (sigma : Rat))

/-- One tray's share under placement. -/
structure Share where
  t : Nat
  w : Rat
  lD : Rat
  lC : Rat
deriving DecidableEq, Repr

/-- The placement of R108: what is left, and the current of each tray placed. The first argument bounds the passes. -/
def place : Nat → Rat → List Share → List (Nat × Rat) → Rat × List (Nat × Rat)
  | 0, d, set, done => (d, done ++ set.map fun x => (x.t, 0))
  | n + 1, d, set, done =>
    match set with
    | [] => (d, done)
    | _ =>
      let ws := sumQ (set.map (·.w))
      if ws = 0 then (d, done ++ set.map fun x => (x.t, 0))
      else
        let cur := fun (x : Share) => d * x.w / ws
        let isOver := fun (x : Share) => decide (x.lD < cur x) || decide (cur x < -x.lC)
        let past := set.filter isOver
        match past with
        | [] => (0, done ++ set.map fun x => (x.t, cur x))
        | _ =>
          let held := past.map fun x => (x.t, if x.lD < cur x then x.lD else -x.lC)
          place n (d - sumQ (held.map (·.2))) (set.filter fun x => !isOver x) (done ++ held)

/-- The bus-side current a lost link still holds (R89). -/
def heldNow (t0 : Nat) (l : Link) : Rat :=
  match l.lostAt with
  | some a =>
    let f := l.fallAt.getD (a + 5 * ms)
    if t0 ≤ f then l.held else if t0 < f + 2 * ms then l.held * ((f + 2 * ms - t0 : Nat) : Rat) / (2 * ms : Nat) else 0
  | none => 0

/-- The shares of the set. -/
def sharesOf (s : State) : List Share :=
  ((List.range Config.trays).filter s.inSet).map fun t =>
    let x := s.tray t
    { t := t, w := x.weight, lD := x.lD, lC := x.lC }

/-- The current placed on tray t. -/
def placedOn (l : List (Nat × Rat)) (t : Nat) : Rat :=
  match l.find? (fun e => e.1 == t) with
  | some e => e.2
  | none => 0

/-- The string-side reference of a bus-side current (R12). -/
def stringSide (m i : Rat) : Rat := if m = 0 then 0 else i / m

/-- A tray with its weight (R107). -/
def weighTray (s : State) (mean : Rat) (t : Nat) (x : Tray) : Tray :=
  let sigma := match s.loop.hist with
    | _ :: p :: _ => if p < 0 then -1 else 1
    | _ => 1
  { x with weight := x.a * x.q * socFactor (s.cfgB 0x3010 0x05) (s.estOf t).soc mean sigma }

/-- Membership, admission, limits and weights of the period. -/
def allocPrepare (t0 : Nat) (s : State) : State :=
  let range := List.range Config.trays
  let set := range.map (setMember s)
  let s := { s with alloc := { s.alloc with set := set } }
  let s := { s with trays := s.trays.mapIdx fun t x => admitNext s t0 (s.link t).up x }
  let s := { s with trays := range.map fun t => if s.inSet t then limitNext s t (s.tray t) else { s.tray t with lD := 0, lC := 0 } }
  let members := range.filter s.inSet
  let mean := meanQ (members.map fun t => (s.estOf t).soc)
  { s with trays := range.map fun t => if s.inSet t then weighTray s mean t (s.tray t) else { s.tray t with weight := 0 } }

/-- Tray allocation of the period that begins at t0 (R108, R109). Its output block and the references are BFP24 on the
exponent of the ampere stages (R292, R294, log entry 12). -/
def allocPeriod (t0 : Nat) (s : State) : State :=
  let range := List.range Config.trays
  let s := allocPrepare t0 s
  let held := sumQ (s.links.map (heldNow t0))
  let shares := sharesOf s
  let out := place 17 (s.loop.iSt - held) shares []
  let now := fun (t : Nat) => if s.inSet t then placedOn out.2 t else 0
  let sat := range.any fun t => bfp24Sat expA (now t) || bfp24Sat expA (stringSide (get 0 s.loop.m t) (bfp24 expA (now t)))
  let s := { s with trays := range.map fun t =>
    let i := bfp24 expA (now t)
    { s.tray t with iT := i, ref := bfp24 expA (stringSide (get 0 s.loop.m t) i) } }
  let dis := held + sumQ (shares.map (·.lD))
  let chg := sumQ (shares.map (·.lC)) - held
  let left := decide (out.1 ≠ 0)
  let a := { s.alloc with
    held := held, disLim := dis, chgLim := chg, sat := sat
    shortfall := if left then sat32 (s.alloc.shortfall + 1) else s.alloc.shortfall }
  when_ left (fun s => s.raise 0x0308 noInst) { s with alloc := a }

end Sys2Proof.Machine
end

