-- ==== Sys2Proof/Machine/Codes.lean ====
section
/-! DEFINITION. The codes of the states that objects and the manifest carry, in the order of the tables that give
them (Tables 2.2, 3.1, 4.1, 7.6, 8.6, 9.4, 12.2 and the Meaning columns). -/

namespace Sys2Proof.Machine

/-- Place of a value in a table of codes. -/
def codeIn {α : Type} [DecidableEq α] (l : List α) (x : α) : Nat := l.idxOf x

/-- Table 2.2. -/
def loopStates : List LoopSt := [.off, .charge, .soft, .run, .hold, .stopping, .tripped]

/-- Table 3.1. -/
def phaseStates : List PhSt :=
  [.off, .check, .run, .de, .snub, .drawing, .shed, .restoring, .handoff, .fault, .linkLost]

/-- Table 4.1. -/
def trayStates : List TraySt :=
  [.absent, .idle, .check, .precharge, .closing, .admitting, .online, .slack, .drain, .opening, .fault, .pulled]

/-- [3100+t.01]. -/
def ringStates : List RingSt := [.down, .whole, .broken, .unreachable]

/-- Table 7.6. -/
def tideStates : List TideSt := [.off, .warming, .run, .fault]

/-- [5000.01]. -/
def govStates' : List GovSt := [.off, .run, .ride, .blind]

/-- Table 8.6. -/
def chipStates : List ChipSt := [.absent, .loading, .ready, .admitted, .silent, .refused]

/-- Table 9.4. -/
def groupStates : List GroupSt := [.disabled, .present, .dip, .absent, .returning]

/-- Table 12.2. -/
def slotStates : List SlotSt := [.empty, .loading, .loaded, .bound, .fault, .refused]

/-- [6A00.01]. -/
def dockStates : List DockSt := [.idle, .placing, .running, .diverged, .complete, .stopped]

/-- Table 13.2. -/
def clockStates : List ClkSt := [.local_, .acquiring, .locked, .holdover, .following]

/-- [2300.01]. -/
def captureStates : List CapSt := [.off, .capturing, .post, .frozen]

/-- A mask of flags: bit i for element i. -/
def maskOf (l : List Bool) : Nat := (l.zipIdx.map fun (e : Bool × Nat) => if e.1 then 2 ^ e.2 else 0).foldl (· + ·) 0

/-- The n lowest bits of a mask. -/
def bitsOf (n v : Nat) : List Bool := (List.range n).map fun i => v.testBit i

/-- A binary32 field. -/
def f32b (x : Rat) : Bytes := le 4 (f32Bits x)

/-- The binary32 field at an offset. -/
def f32At (b : Bytes) (off : Nat) : Rat := f32Val (u32At b off)

/-- A signed field of 8 bytes. -/
def i64b (x : Int) : Bytes := le 8 (unsigned 64 x)

/-- A signed field of 4 bytes. -/
def i32b (x : Int) : Bytes := le 4 (unsigned 32 x)

/-- Sum of a list of counts. -/
def sumN (l : List Nat) : Nat := l.foldl (· + ·) 0

/-! ### Records that objects and the manifest share -/

/-- A transaction record (Table 15.6). -/
def Txn.record (r : Txn) : Bytes :=
  let known := decide (r.requested ≠ 0xFFFFFFFF)
  let n := if known then r.requested else 4096
  let first := (List.range n).find? fun i => !r.done.testBit i
  let cnt := r.count.getD ((List.range 4096).filter fun i => r.done.testBit i).length
  le 4 r.id ++ le 1 r.kind ++ le 1 r.st ++ le 1 r.session ++ le 1 r.flags ++ le 4 r.object ++ le 4 r.arg ++
    le 4 r.requested ++ le 4 cnt ++ le 4 (first.getD 0xFFFFFFFF) ++ le 2 r.cause ++ le 2 r.cycles ++ le 8 r.opened ++
    le 8 r.closed ++ le 4 r.seq ++ List.replicate 12 0

/-- What a carried record's id stands above (R435). -/
def carried : Nat := 4294967296

/-- A record read back. It tells the elements below the first one open; which ones beyond are complete, where its count says
that there are, is a free value numbered c (log entry 47). -/
def Txn.ofRecord (c : Nat) (b : Bytes) : Txn :=
  let n := u32At b 16
  let first := min 4096 (if u32At b 24 = 0xFFFFFFFF then n else u32At b 24)
  let cnt := u32At b 20
  let beyond := if first < cnt then 2 ^ (first + 1) * (Config.freeNat c % 2 ^ (min 4096 n - first - 1)) else 0
  { id := carried + u32At b 0, kind := u8At b 4, st := u8At b 5, session := u8At b 6, flags := u8At b 7, object := u32At b 8
    arg := u32At b 12, requested := n, done := 2 ^ first - 1 + beyond, count := if first < cnt then some cnt else none
    cause := u16At b 28, cycles := u16At b 30, opened := u64At b 32, closed := u64At b 40, seq := u32At b 48 }

/-- An active-list entry (Table 16.6). -/
def Active.bytes (e : Active) : Bytes :=
  le 2 e.code ++ le 1 e.sev ++ le 1 (b2n e.gone + 2 * b2n e.acked + 4 * b2n e.foCause + 8 * b2n e.notHandled) ++
    le 2 e.inst ++ le 2 e.count ++ le 8 e.first

/-- An entry read back. -/
def Active.ofBytes (b : Bytes) : Active :=
  let f := u8At b 3
  { code := u16At b 0, inst := u16At b 4, sev := u8At b 2, gone := bit f 0, acked := bit f 1, foCause := bit f 2
    notHandled := bit f 3, count := u16At b 6, first := u64At b 8 }

/-- The state of a gate (Table 11.1). -/
def Gate.bytes (x : Gate) (waiters : Nat) : Bytes :=
  if x.kind = 0 then List.replicate 16 0 else
    le 4 x.count ++ le 4 x.target ++ le 1 (x.mode + 4 * x.barrier + 16 * b2n x.sat + 32 * b2n x.drain) ++
      le 1 x.kind ++ le 1 x.owner ++ le 1 waiters ++ le 2 x.route ++ le 2 x.gen

/-- A gate read back. -/
def Gate.ofBytes (b : Bytes) : Gate :=
  let m := u8At b 8
  { count := u32At b 0, target := u32At b 4, mode := m % 4, barrier := m / 4 % 4, sat := bit m 4, drain := bit m 5
    kind := u8At b 9, owner := u8At b 10, route := u16At b 12, gen := u16At b 14 }

end Sys2Proof.Machine
end

