-- ==== Sys2Proof/Machine/ShelfView.lean ====
section
/-! DEFINITION. The shelf as a module sees it that does not drive it: a standby knows the states of loop, trays and phases
from its last committed manifest (Table 17.5), and its live routines go by them (R512). -/

namespace Sys2Proof.Machine

/-- The module does not drive the shelf and has its partner's manifest. -/
def State.follows (s : State) : Bool := !s.drives && s.pair.manifest != []

/-- The bus loop of the shelf is in RUN. -/
def State.shelfRun (s : State) : Bool :=
  if s.follows then loopStates.getD (u8At s.pair.manifest 64) .off == .run else decide (s.loop.st = .run)

/-- A tray of the shelf is excluded under R24. -/
def State.shelfExcluded (s : State) (t : Nat) : Bool :=
  if s.follows then bit (u16At s.pair.manifest 66) t else get false s.loop.excluded t

/-- State of a phase of the shelf. -/
def State.shelfPhase (s : State) (t p : Nat) : PhSt :=
  if s.follows then phaseStates.getD (u8At s.pair.manifest (1216 + 8 * (8 * t + p)) % 16) .off else (s.ph t p).st

/-- A phase of the shelf is sense-failed (0204h). -/
def State.shelfSense (s : State) (t p : Nat) : Bool :=
  if s.follows then bit (u8At s.pair.manifest (1216 + 8 * (8 * t + p) + 2)) 1 else bit (s.ph t p).flags 1

/-- K_P of a tray of the shelf is closed. -/
def State.shelfKP (s : State) (t : Nat) : Bool :=
  if s.follows then bit (u8At s.pair.manifest (192 + 64 * t + 1)) 2 else (s.tray t).kP

/-- A tray of the shelf is in the allocation set (R95). -/
def State.shelfInSet (s : State) (t : Nat) : Bool :=
  if s.follows then
    (s.link t).up && match trayStates.getD (u8At s.pair.manifest (192 + 64 * t)) .absent with
      | .admitting | .online => true
      | .drain => !bit (u8At s.pair.manifest (192 + 64 * t + 1)) 7
      | .slack => u8At s.pair.manifest (192 + 64 * t + 52) == 1
      | _ => false
  else s.inSet t

end Sys2Proof.Machine
end

