-- ==== Sys2Proof/Machine/CalOps.lean ====
section
/-! DEFINITION. Operations on the calibration set (R502 to R513). -/

namespace Sys2Proof.Machine

/-- Write entry e. -/
def State.setCal (s : State) (e : Nat) (x : CalEntry) : State :=
  { s with cal := { s.cal with entries := Store.set (calFactory (e % 68)) s.cal.entries e x } }

/-- Entry k of tray t takes another value (R503). -/
def CalEntry.put (s : State) (t k bits : Nat) (x : CalEntry) : CalEntry :=
  { x with bits := bits, old := s.calInUse t k, at_ := s.now }

/-- Byte 2 of a set block entry (Table 19.2). -/
def CalEntry.flags (x : CalEntry) : Nat := x.src + 4 * b2n x.locked + 8 * b2n x.unver

/-- Entry e as the set block holds it. -/
def State.calBytes (s : State) (e : Nat) : Bytes :=
  let x := s.calEntry e
  le 2 e ++ le 1 x.flags ++ le 1 0 ++ le 4 x.bits

/-- The set block [9000.0A]. -/
def State.calBlock (s : State) : Bytes := (List.range Config.calEntries).flatMap s.calBytes

/-- Range of entry k (Table 19.1). -/
def calRange (k : Nat) : Rat × Rat :=
  if k < 8 ∨ k = 16 then (toF32 (9 / 10), toF32 (11 / 10))
  else if k < 16 then (-2, 2)
  else if k = 17 then (-5, 5)
  else if k < 20 then (toF32 (98 / 100), toF32 (102 / 100))
  else if k < 36 then (toF32 (995 / 1000), toF32 (1005 / 1000))
  else if k < 52 then (-5, 5)
  else (toF32 (99 / 100), toF32 (101 / 100))

/-- Whether a value lies in the range of entry k. -/
def calInRange (k bits : Nat) : Bool :=
  let v := f32Val bits
  decide (bits < 4294967296) && f32Finite bits && decide ((calRange k).1 ≤ v) && decide (v ≤ (calRange k).2)

/-- The live routine that writes entry k (Table 19.3). -/
def calRoutine (k : Nat) : Option Nat :=
  if (8 ≤ k ∧ k < 16) ∨ k = 17 then some 0 else if k = 18 ∨ k = 19 then some 1 else none

/-- The routine's bit is set and the entry is not locked (R509). -/
def State.calLive (s : State) (t k : Nat) : Bool :=
  match calRoutine k with
  | some r => bit (s.cfgU 0x9000 0x03) r && !(s.calEntry (68 * t + k)).locked
  | none => false

/-- A live value, unless it lies outside the band around its anchor (R510): then it is counted, 0D02h once. -/
def calApply (t k : Nat) (v : Rat) (s : State) : State :=
  let e := 68 * t + k
  let x := s.calEntry e
  let band := s.cfgF 0x9000 (if k = 18 ∨ k = 19 then 0x07 else 0x06)
  if absQ (v - f32Val x.anchor) ≤ band then
    let s := s.setCal e { CalEntry.put s t k (f32Bits v) x with src := 2 }
    { s with cal := { s.cal with dirty := true, liveWrites := sat32 (s.cal.liveWrites + 1) } }
  else
    let s := { s with cal := { s.cal with rejected := sat32 (s.cal.rejected + 1) } }
    if x.banded then s else (s.setCal e { x with banded := true }).raise 0x0D02 noInst

/-- A live measurement m of entry k of tray t: x ← x + (m − x) ÷ 8 (R509). -/
def calMeasure (t k : Nat) (m : Rat) (s : State) : State :=
  if s.calLive t k then
    let x := s.calVal t k
    calApply t k (x + (m - x) / 8) s
  else s

/-- The link-voltage routine at a rest point of tray t with K_P closed (Table 19.3). -/
def calLinkVoltage (t : Nat) (s : State) : State :=
  let v := (s.link t).vLink
  if s.shelfKP t = true ∧ 0 < v then calMeasure t 19 (s.calVal t 19 * (s.tray t).vStr / v) s else s

/-- Put a value on the list of values not yet in flash (R423, R506); a later change moves its time. -/
def State.pendStore (s : State) (key : Nat) : State :=
  { s with od := { s.od with stores := (s.od.stores.filter fun e => e.1 != key) ++ [(key, s.now)] } }

/-- Write a stored setting: in effect at once, in flash later (R423). -/
def State.storeCfg (s : State) (index sub v : Nat) : State := (s.setCfg index sub v).pendStore (okey index sub)

/-- Key of calibration entry e among the values to store. -/
def calKey (e : Nat) : Nat := 16777216 + e

/-- The monitor entries of a new tray are unverified (R513), in flash too (R506). -/
def calUnverify (t : Nat) (s : State) : State :=
  State.raise ((List.range 48).foldl (fun s i =>
    let e := 68 * t + 20 + i
    (s.setCal e { s.calEntry e with unver := true }).pendStore (calKey e)) s) 0x0D04 noInst

/-- Store every live value (R506): what the set holds goes to flash. -/
def calStoreLive (s : State) : State :=
  if s.cal.dirty then
    let live := s.cal.entries.filter fun e => e.2.src == 2
    { s with cal := { s.cal with
      flash := live.foldl (fun f e => Store.ins e.1 e.2 (Store.del f e.1)) s.cal.flash
      dirty := false, lastStore := s.now, storeFrom := s.now } }
  else s

end Sys2Proof.Machine
end

