-- ==== Sys2Proof/Machine/PhaseLaw.lean ====
section
/-! DEFINITION. The phase manager and edge engine of one period (R52 to R75): references, the phase law, diode
emulation, snubbing, edge times and the EDGE frame. -/

namespace Sys2Proof.Machine

/-! ### Switching clock (R49, R50) -/

/-- The switching divisor. -/
def State.kDiv (s : State) : Nat := s.cfgU 0x2200 0x01

/-- Slot offset of phase p of tray t within a switching period, in edge steps (R50). -/
def slotSteps (k t p : Nat) : Nat := (16 * p + t) * k

/-- The same in ns. -/
def slotNs (k t p : Nat) : Rat := (slotSteps k t p : Rat) / 64

/-- The latest half-period instant of the phase at or before `now` is a slot centre S; else S + P/2 (R54). -/
def atCentre (k t p now : Nat) : Bool := decide ((((now : Rat) - slotNs k t p) / (k : Rat)).floor % 2 = 0)

/-- A slot centre of the phase falls in the µs that ends at t0. -/
def slotIn (k t p t0 : Nat) : Bool :=
  let per : Rat := (2 * k : Nat)
  decide ((((t0 : Rat) - slotNs k t p) / per).floor ≠ (((t0 : Rat) - 1000 - slotNs k t p) / per).floor)

/-! ### States -/

/-- States in which the phase law runs and whose current counts in the tray's means (R54). -/
def PhSt.carry : PhSt → Bool
  | .run | .drawing | .restoring => true
  | _ => false

/-- Active phases ([2100+t.02]). -/
def PhSt.active : PhSt → Bool
  | .run | .de | .drawing | .restoring => true
  | _ => false

/-- States in capacity (Table 3.1). -/
def PhSt.inCap : PhSt → Bool
  | .run | .de | .snub | .drawing | .shed | .restoring => true
  | _ => false

/-- The weight a state fixes (Table 3.1); none where it is held or ramped. -/
def PhSt.weight : PhSt → Option Rat
  | .off | .check | .shed | .fault => some 0
  | .run | .de => some 1
  | _ => none

/-- States in which a phase applies a duty (R54, R79). -/
def PhSt.applies (st : PhSt) : Bool := st.carry || decide (st = .handoff)

/-- Enter a state; ramps and run counters start afresh, the weight is the state's own unless kept. The clamp's mark is of
a duty that the phase goes on applying (R59). -/
def Phase.go (x : Phase) (st : PhSt) (keep : Bool) : Phase :=
  { x with
    clamped := x.clamped && x.st.applies && st.applies
    st := st, rate := 0, deCnt := 0, drawn := false, onceOn := false, acc := 0, fresh := false
    w := if keep then x.w else st.weight.getD x.w }

/-- Enter SNUB with the weight held. The observer starts afresh after a load-step snub (log entry 69). -/
def Phase.snub (x : Phase) (k : SnubKind) : Phase :=
  { x.go .snub true with snubKind := k, obsOn := x.obsOn && decide (k ≠ .step) }

/-- 3% of the rated current: the level at which a phase counts as at zero current (R68, R70, R73, R110). -/
def smallI (ir : Rat) : Rat := 3 / 100 * ir

/-- The current the law uses: a sense-failed phase in HANDOFF runs on its observer (R79). -/
def Phase.iUse (x : Phase) : Rat :=
  if x.st = .handoff ∧ x.cause = .sense then x.iHat else x.i

/-! ### The current a state uses (R52) -/

/-- The latest half-period instant of a phase at or before x (R52): S or S + P/2. -/
def halfInstant (k t p : Nat) (x : Rat) : Rat :=
  let o := slotNs k t p
  o + (((x - o) / (k : Rat)).floor : Rat) * (k : Rat)

/-- The current of phase p at the instant h, linear between the two valid samples that bracket it; none where one of
them is not held (R52). -/
def bracketI (p : Nat) (h : Rat) : List Sample → Option Rat
  | a :: b :: l =>
    if (b.at_ : Rat) ≤ h ∧ h ≤ (a.at_ : Rat) then
      if b.at_ < a.at_ ∧ get false a.ok p ∧ get false b.ok p then
        some (get 0 b.i p + (get 0 a.i p - get 0 b.i p) * ((h - (b.at_ : Rat)) / ((a.at_ - b.at_ : Nat) : Rat)))
      else none
    else bracketI p h (b :: l)
  | _ => none

/-- Mean current of phase p over the last complete switching period at `now`; none where no valid sample of it is held
(R52). -/
def periodMean (k p now : Nat) (hist : List Sample) : Option Rat :=
  let per := 2 * k
  let l := hist.filter fun y => decide (y.at_ / per + 1 = now / per) && get false y.ok p
  if l = [] then none else some (meanQ (l.map fun y => get 0 y.i p))

/-- The latest valid sample of phase p. -/
def latestI (p : Nat) (hist : List Sample) : Option Rat :=
  (hist.find? fun y => get false y.ok p).map fun y => get 0 y.i p

/-- The current a phase's state uses, from the samples held up to `at_`, newest first (R52). R52 names no value for
HANDOFF, which takes the one of RUN, nor for CHECK, OFF, SHED and FAULT, which take the latest sample (log entry 69). -/
def currentOf (k t p : Nat) (hist : List Sample) (at_ : Nat) (x : Phase) : Rat :=
  (match x.st with
   | .run | .drawing | .restoring | .handoff => bracketI p (halfInstant k t p (at_ : Rat)) hist
   | .de => periodMean k p at_ hist
   | _ => latestI p hist).getD x.i

/-- A phase with the current that its present state uses: a state just entered takes it at once from the samples held. -/
def State.sees (s : State) (t p : Nat) (x : Phase) : Phase :=
  { x with i := currentOf s.kDiv t p (s.link t).samples (s.link t).sampleAt x }

/-! ### Decisions of a period -/

/-- End of a snub (R68, R70, R79, R80). A phase declared open or sense-failed that a trip took is not started again by
its tray's share (log entry 69). -/
def Phase.snubEnd (x : Phase) : Phase :=
  match x.snubKind with
  | .step => if x.svc then { x.go .run false with fresh := true } else x.go .off false
  | .trip => if x.svc then { x.go .off false with tripped := !(bit x.flags 0 || bit x.flags 1) } else x.go .off false
  | .toFault => x.go .fault false
  | .toOff => x.go .off false

/-- With its gates off the current of a sense-failed phase falls through a body diode. Its sensor has failed, so the
observer's value, moved by the diode's slope, is what the 3% that end the final snub are tested on (R79, log entry 69). -/
def Phase.diodeDecay (x : Phase) (l vs vb : Rat) : Phase :=
  if bit x.flags 1 then
    { x with iHat := if 0 < x.iHat then max 0 (x.iHat - max (vb - vs) 0 / l) else min 0 (x.iHat + vs / l) }
  else x

/-- What a phase's half-period instant decides (R54): snubs that end, drawn phases and phases of a tray outside the set
that reach zero current (R68, R70, R73, R110). -/
def decidePhase (ir : Rat) (free slot : Bool) (x : Phase) : Phase :=
  if x.st = .snub then
    let i := if bit x.flags 1 then x.iHat else x.i
    if absQ i ≤ smallI ir ∧ (x.snubKind ≠ .step ∨ slot) then x.snubEnd else x
  else if x.st.active && decide (absQ x.i ≤ smallI ir) && (free || (decide (x.st = .de) && x.drawn)) then
    { x.go (if x.svc && !x.oos then .shed else .off) false with oos := false }
  else x

/-- Change every phase of tray t by a function of its number. -/
def State.mapPhs (s : State) (t : Nat) (f : Nat → Phase → Phase) : State :=
  { s with phases := upd s.phases t (fun l => l.mapIdx f) }

/-- A load step is detected on I_st (R72). -/
def stepDetected (s : State) : Bool :=
  match s.loop.hist.head?, s.loop.hist[10]? with
  | some a, some b => decide (s.cfgB 0x2200 0x0C < absQ (a - b))
  | _, _ => false

/-- A load step is detected, or forecast within the abort horizon of 200 µs (R74, R75). -/
def stepNear (s : State) : Bool := stepDetected s || s.stepForecast 200000

/-- A shed phase restored (R74): its weight rises over 4 switching periods, its duty starts from m_t. -/
def Phase.restore (x : Phase) : Phase := { x.go .restoring true with w := 0, rate := 1 / 8, fresh := true }

/-- A phase at a load step: an aborted drawing returns, a shed phase is restored (R74, R75). -/
def stepPhase (x : Phase) : Phase :=
  if x.st = .drawing ∧ x.oos = false then { x.go .run true with rate := (1 - x.w) / 4 }
  else if x.st = .shed ∧ x.svc then x.restore
  else x

/-- Phase p of tray t is under identification (R78). -/
def State.underTest (s : State) (t p : Nat) : Bool :=
  match (s.tp t).ident with
  | some d => decide (d.p = p)
  | none => false

/-- A load step on tray t (R74, R75): notice 0201h and the lockout when a drawing is aborted. The phase under
identification is not restored early (Table 3.6). -/
def stepTray (t : Nat) (s : State) : State :=
  let drawing := (List.range (s.nPh t)).filter fun p =>
    decide ((s.ph t p).st = .drawing) && !(s.ph t p).oos && !s.underTest t p
  let s := if drawing = [] then s else { s with edge := { s.edge with lockUntil := s.now + 10 * ms } }
  let s := drawing.foldl (fun a p => a.raise 0x0201 (8 * t + p)) s
  s.mapPhs t fun p x => if s.underTest t p then x else stepPhase x

/-- The tray's share first becomes nonzero, or does so again after a trip snub (Table 3.1, R68). -/
def shareStart (t : Nat) (s : State) : State :=
  let f := fun (x : Phase) =>
    if (x.st = .shed ∨ (x.st = .off ∧ x.tripped)) ∧ x.svc then { x.go .run false with b := 0, tripped := false } else x
  (s.updPhs t f).updTp t (fun y => { y with x := 0, share := true, testEnd := false })

/-- A trip snub of the tray is still on (R68). -/
def tripSnubOn (s : State) (t : Nat) : Bool := (s.phs t).any fun x => decide (x.st = .snub) && decide (x.snubKind = .trip)

/-- Reference of the tray for this period: the contactor test's, or the share's (R53, R104). -/
def trayRef (s : State) (t : Nat) : Rat :=
  match (s.tp t).testRef with
  | some r => r
  | none => if s.inSet t then (s.tray t).ref else 0

/-- The reference of a phase (R53), with the transition of R91. -/
def phaseRef (rTray sw lim f : Rat) (x : Phase) : Phase :=
  let r := if sw = 0 then 0 else clampQ (-lim) lim (rTray * x.w / sw)
  { x with r := f * x.held + (1 - f) * r }

/-- Load-step snub of a phase that carries current on its reference (R70); a hand-off continues unchanged (Table 3.6). -/
def stepSnub (thr : Rat) (x : Phase) : Phase :=
  if x.st.active ∧ x.r * x.i < 0 ∧ thr < absQ x.i then x.snub .step else x

/-- The lowest duty the clamp of R59 lets through; the highest is 1 less it. -/
def dutyLo (s : State) : Rat := ((s.cfgU 0x2200 0x03 + s.cfgU 0x2200 0x04 : Nat) : Rat) / ((2 * s.kDiv : Nat) : Rat)

/-- A phase whose duty the law sets. -/
def Phase.driven (x : Phase) : Bool := x.st.carry || (decide (x.st = .handoff) && decide (x.cause ≠ .opened))

/-- The duty of a period before its clamp (R54). -/
def dutyLaw (kp m xt vb : Rat) (x : Phase) : Rat := m - (kp * (x.r - x.iUse) + xt + x.b) / vb

/-- The active on-time of DE in ns (R64). -/
def deOnTime (l p r : Rat) (low : Bool) (vs vb : Rat) : Rat :=
  if 0 < vs ∧ vs < vb then
    sqrtQ (2 * l * p * 1000 * absQ r * (if low then (vb - vs) / (vs * vb) else vs / ((vb - vs) * vb)))
  else 0

/-- The active switch of a phase in DE is the low side: for positive r_p (R63); for r_p = 0 the trimmed reference decides
(log entry 69). -/
def Phase.lowSide (x : Phase) : Bool := if x.r = 0 then decide (0 ≤ x.ei) else decide (0 < x.r)

/-- The DE pulse of a period (R64, R65). -/
def dePulse (l p tmin vs vb : Rat) (slot : Bool) (x : Phase) : Phase :=
  let ton := deOnTime l p (x.r + x.ei) x.lowSide vs vb
  let ratio := if 0 < vs ∧ vs < vb then (if x.lowSide then vs / (vb - vs) else (vb - vs) / vs) else 0
  if tmin ≤ ton then { x with onceOn := false, deOn := ton, deSync := max 0 (ton * ratio - 20) }
  else
    let acc := if x.onceOn then x.acc else 1
    let acc := if slot then acc + (ton / tmin) * (ton / tmin) else acc
    if slot ∧ 1 ≤ acc then { x with onceOn := true, acc := acc - 1, deOn := tmin, deSync := max 0 (tmin * ratio - 20) }
    else { x with onceOn := true, acc := acc, deOn := 0, deSync := 0 }

/-- Duty or pulse of a phase, and whether the clamp acts on the duty (R59). -/
def drivePhase (s : State) (t t0 : Nat) (vs vb : Rat) (p : Nat) (x : Phase) : Phase :=
  let k := s.kDiv
  if x.driven then
    let m := get 0 s.loop.m t
    let d := if x.fresh then m else dutyLaw (s.cfgB (0x2100 + t) 0x09) m (s.tp t).x vb x
    let lo := dutyLo s
    let dc := clampQ lo (1 - lo) d
    { x with d := dc, clamped := decide (dc ≠ d), fresh := false }
  else if x.st = .de then
    dePulse (s.cfgB (0x2100 + t) (0x17 + 8 * p)) (2 * k : Nat) (s.cfgU 0x2200 0x04 : Nat) vs vb (slotIn k t p t0) x
  else x

/-! ### Edges (R58 to R65) -/

/-- Code of a kind (Table 3.3). -/
def EdgeKind.code : EdgeKind → Nat
  | .sync => 0 | .deDis => 1 | .deChg => 2 | .snub => 3 | .off => 4 | .probe => 5

/-- Half the conduction interval in edge steps: (1 − d) P/2, or half the active pulse (R58, R64). -/
def halfSteps (k : Nat) (x : Phase) : Rat := if x.st = .de then x.deOn * 32 else (1 - x.d) * 64 * (k : Rat)

/-- T_a and T_b relative to the slot centre. -/
def relEdges (k t p : Nat) (h : Rat) : Int × Int :=
  let o : Rat := slotSteps k t p
  (roundEven (o - h) - slotSteps k t p, roundEven (o + h) - slotSteps k t p)

/-- The command a phase's state asks for; none where nothing is sent (R60, R65, Table 3.1). -/
def wantedCmd (k t p : Nat) (x : Phase) : Option EdgeCmd :=
  let e := relEdges k t p (halfSteps k x)
  let still := fun (kind : EdgeKind) => some { kind := kind, ta := 0, tb := 0, sync := 0, once := false }
  match x.st with
  | .run | .drawing | .restoring => some { kind := .sync, ta := e.1, tb := e.2, sync := 0, once := false }
  | .handoff =>
    if x.cause = .opened then still .off else some { kind := .sync, ta := e.1, tb := e.2, sync := 0, once := false }
  | .de =>
    if x.deOn = 0 then none
    else some { kind := if x.lowSide then .deDis else .deChg, ta := e.1, tb := e.2
                sync := min 65535 (roundEven x.deSync).toNat, once := x.onceOn }
  | .snub => still .snub
  | .off | .shed | .fault => still .off
  | .check | .linkLost => none

/-- Whether a wanted command is sent: when its edge times or kind changed, or it is flagged once (R60); any command where
what the stage holds is not known, OFF among them (log entry 69). -/
def cmdChanged (old : Option EdgeCmd) (c : EdgeCmd) : Bool :=
  match old with
  | some o => c.once || decide (o ≠ c)
  | none => true

/-- The first switching period whose T_a lies at least 25 ns after the latest arrival of Table 1.3 (R14, log
entry 14). -/
def firstPeriod (k t p : Nat) (ta : Int) (arrival : Nat) : Nat :=
  let o : Int := slotSteps k t p
  let need : Int := ((arrival + 25) * 64 : Nat) - (o + ta)
  if need ≤ 0 then 0 else ((need + (128 * k : Nat) - 1) / (128 * k : Nat)).toNat

/-- The 16 bytes of an edge command (Table 3.2). -/
def edgeBytes (k t p : Nat) (tagUs arrival : Nat) (r : Rat) (c : EdgeCmd) : Bytes :=
  let n := firstPeriod k t p c.ta arrival
  let base : Int := ((n * 128 * k + slotSteps k t p : Nat) : Int)
  let timed := c.kind = .sync ∨ c.kind = .deDis ∨ c.kind = .deChg ∨ c.kind = .probe
  le 1 (p * 32 + c.kind.code * 4) ++ le 1 tagUs ++ le 2 (unsigned 16 (clampI (-32768) 32767 (roundEven (r * 256)))) ++
    le 4 (if timed then unsigned 32 (base + c.ta) else 0) ++ le 4 (if timed then unsigned 32 (base + c.tb) else 0) ++
    le 2 c.sync ++ le 1 (b2n c.once) ++ le 1 0

/-- The edge engine may send this kind to tray t: from the early-break edge on no SYNC, DE or PROBE (R118). -/
def kindAllowed (s : State) (t : Nat) (k : EdgeKind) : Bool :=
  decide (k = .snub) || decide (k = .off) || ((s.tray t).pin && decide ((s.tray t).st ≠ .pulled))

/-- The changed commands of tray t, ascending by phase. -/
def changedCmds (s : State) (t : Nat) : List (Nat × EdgeCmd) :=
  (List.range (s.nPh t)).filterMap fun p =>
    match wantedCmd s.kDiv t p (s.ph t p) with
    | some c => if cmdChanged (s.ph t p).cmd c && kindAllowed s t c.kind then some (p, c) else none
    | none => none

/-- An EDGE frame has gone to tray t since the takeover was carried out (R476). -/
def markEdged (t : Nat) (s : State) : State :=
  if s.pair.role = .taking ∧ s.pair.loaded = true ∧ s.pair.edged.contains t = false then
    { s with pair := { s.pair with edged := t :: s.pair.edged } }
  else s

/-- Record the commands that leave with the period of t0. -/
def markCmds (t t0 : Nat) (l : List (Nat × EdgeCmd)) (s : State) : State :=
  markEdged t (l.foldl (fun a e => a.updPh t e.1 (fun x => { x with cmd := some e.2, cmdAt := t0 / 1000 })) s)

/-- The EDGE frame of tray t, if any command changed (R60, Table 3.8). Nothing leaves on a lost link, nor while
FAULT_OUT is asserted (R454). -/
def edgeFrame (t0 t : Nat) (s : State) : State :=
  let l := changedCmds s t
  if (s.link t).up = false ∨ l = [] ∨ s.fm.faultOut = true then s
  else
    let payload := (l.map fun e => edgeBytes s.kDiv t e.1 (t0 / 1000) (t0 + 900) (s.ph t e.1).r e.2).flatten
    markCmds t t0 l (s.sendPaddle t 0x01 payload)

/-! ### The period -/

/-- Phases that count in capacity, less one during identification (R56, R78). -/
def capacityOf (s : State) (t : Nat) : Rat :=
  let n := ((s.phs t).filter (fun x => x.st.inCap)).length
  let n := if (s.tp t).ident.isSome then n - 1 else n
  (n : Rat) * s.iLim t

/-- Publish the capacity; 0207h at the onset of a shortfall after a handoff is raised where the handoff starts. -/
def publishCapacity (t : Nat) (s : State) : State :=
  let c := if (s.link t).up then capacityOf s t else 0
  s.updTp t (fun y => { y with capacity := c, up207 := y.up207 && decide (c < absQ y.rTray) })

/-- Since when the shed condition of R72 holds. -/
def shedTrack (t t0 : Nat) (s : State) : State :=
  let n := ((s.phs t).filter (fun x => x.st.active)).length
  let low := decide (absQ (s.tp t).rTray ≤ ((n : Rat) - 1) * s.cfgB (0x2100 + t) 0x05 * s.iLim t)
  let ok := low && (s.tp t).share
  s.updTp t (fun y => { y with shedSince := if ok then (match y.shedSince with | some a => some a | none => some t0) else none })

/-- The phases of tray t whose switching period has its slot centre in the µs that ends at t0 and which then apply a
clamped duty (R59, log entry 69). -/
def clampedNow (s : State) (t0 t : Nat) : Nat :=
  ((List.range (s.nPh t)).filter fun p =>
    let x := s.ph t p
    x.driven && x.clamped && slotIn s.kDiv t p t0).length

/-- They are counted in [2200.0B], whether or not a command is sent (R59). -/
def clampPeriod (t0 : Nat) (s : State) : State :=
  let n := ((List.range Config.trays).map (clampedNow s t0)).sum
  { s with edge := { s.edge with clamps := sat32 (s.edge.clamps + n) } }

/-- The decisions of phase p's half-period instant (R54). -/
def decideAtInstant (t p : Nat) (s : State) : State :=
  let y := s.tp t
  let ending := y.testEnd && decide (y.testPhase = some p)
  let free := y.testRef.isNone && !s.inSet t || ending
  let old := s.ph t p
  let s := s.updPh t p (fun x => s.sees t p (decidePhase (s.iPhR t) free (atCentre s.kDiv t p s.now) (s.sees t p x)))
  let shed := decide ((s.ph t p).st = .shed)
  s.updTp t (fun y => { y with
    lastShed := if old.drawn && shed then s.now else y.lastShed
    testEnd := y.testEnd && !(decide (y.testPhase = some p) && !(s.ph t p).st.active) })

/-- The phase manager of one period on tray t (R53 to R75). -/
def phasePeriod (t0 t : Nat) (s : State) : State :=
  if (s.link t).up = false then s
  else
    let vs := (s.link t).vLink
    let vb := s.loop.vBus
    let ir := s.iPhR t
    let rT := trayRef s t
    let s := if (s.tp t).testRef.isNone ∧ s.inSet t then
        (if (s.tp t).share = false ∧ rT ≠ 0 ∧ tripSnubOn s t = false then shareStart t s else s)
      else s.updTp t (fun y => { y with share := false })
    let s := s.mapPhs t (fun p x => if x.st = .snub then x.diodeDecay (s.cfgB (0x2100 + t) (0x17 + 8 * p)) vs vb else x)
    let s := if (s.tp t).share ∧ stepNear s then stepTray t s else s
    let sw := sumQ ((s.phs t).map (·.w))
    let f : Rat := ((s.tp t).blend : Rat) / 16
    let s := s.mapPhs t (fun _ x => phaseRef rT sw (s.iLim t) f x)
    let s := if s.cfgU 0x2200 0x07 = 1 then s.mapPhs t (fun p x => stepSnub (s.cfgB 0x2200 0x08 * ir) (s.sees t p x)) else s
    let s := s.mapPhs t (s.sees t)
    let s := if 0 < vb then s.mapPhs t (fun p x => drivePhase s t t0 vs vb p x) else s
    let s := s.updTp t (fun y => { y with rTray := rT })
    publishCapacity t (shedTrack t t0 s)

end Sys2Proof.Machine
end

