-- ==== Sys2Proof/Machine/Phases.lean ====
section
/-! DEFINITION. The phase manager's half-period updates, detectors, hand-offs, drawing, phase commands, the pre-start
check, and the edge engine's late commands (R54 to R84, R18, R19). -/

namespace Sys2Proof.Machine

/-- Shelf phase index, the instance of phase faults (R440). -/
def phIdx (t p : Nat) : Nat := 8 * t + p

/-! ### Hand-off (R79 to R81) -/

/-- Abort of a sibling's drawing when a phase fails (Table 3.6): as R75 without the notice. -/
def abortDrawing (t : Nat) (s : State) : State :=
  if (s.phs t).any (fun x => decide (x.st = .drawing) && !x.oos) then
    let f := fun (x : Phase) => if x.st = .drawing ∧ x.oos = false then { x.go .run true with rate := (1 - x.w) / 4 } else x
    { s.updPhs t f with edge := { s.edge with lockUntil := s.now + 10 * ms } }
  else s

/-- A phase that can be handed off: it switches, or brakes for a load step; a trip wins (Table 3.6). -/
def Phase.canHandOff (x : Phase) : Bool :=
  match x.st with
  | .run | .de | .drawing | .restoring => true
  | .snub => decide (x.snubKind = .step)
  | _ => false

/-- HANDOFF from the present weight, reaching 0 in 8 switching periods. -/
def Phase.handOff (x : Phase) (c : HandCause) : Phase :=
  { x.go .handoff true with
    cause := c, rate := -(if x.w = 0 then 1 else x.w) / 16, iHat := if x.obsOn then x.iHat else x.r }

/-- Warning 0207h when the capacity after a hand-off is below the tray's reference (R81). -/
def capacityShort (t : Nat) (s : State) : State :=
  if (s.tp t).capacity < absQ (s.tp t).rTray ∧ (s.tp t).up207 = false then
    (s.updTp t (fun y => { y with up207 := true })).raise 0x0207 t
  else s

/-- Hand a phase off: it leaves the capacity in the same period (R79, R56). -/
def handOffEff (t p : Nat) (c : HandCause) (s : State) : State :=
  if (s.ph t p).canHandOff then
    let s := s.updPh t p (fun x => x.handOff c)
    let s := if c = .service then s else abortDrawing t s
    capacityShort t (publishCapacity t s)
  else s

/-- A phase declared open (R76). -/
def openDetectedEff (t p : Nat) (s : State) : State :=
  if 8 ≤ (s.ph t p).openCnt ∧ (s.ph t p).canHandOff then
    let s := s.updPh t p (fun x => { x with flags := setBit x.flags 0 true, openCnt := 0, senseCnt := 0 })
    handOffEff t p .opened (s.raise 0x0203 (phIdx t p))
  else s

/-- A phase declared sense-failed, whatever found it (R77, R78). -/
def senseFailed (t p : Nat) (s : State) : State :=
  let s := s.updPh t p (fun x => { x with flags := setBit x.flags 1 true, openCnt := 0, senseCnt := 0 }.dropCal)
  handOffEff t p .sense (s.raise 0x0204 (phIdx t p))

/-- Eight observer disagreements (R77). -/
def senseDetectedEff (t p : Nat) (s : State) : State :=
  if 8 ≤ (s.ph t p).senseCnt ∧ (s.ph t p).st.carry then senseFailed t p s else s

/-- The weight ramp of a hand-off has reached zero (R79, R80): an open phase is in FAULT; the others are snubbed and
end in FAULT or in OFF when their current is small. -/
def handoffCompleteEff (t p : Nat) (s : State) : State :=
  let x := s.ph t p
  if x.st = .handoff ∧ x.w ≤ 0 then
    s.updPh t p (fun x => match x.cause with
      | .opened => x.go .fault false
      | .sense => s.sees t p (x.snub .toFault)
      | .service => s.sees t p (x.snub .toOff))
  else s

/-! ### Diode emulation, drawing and restoring -/

/-- A phase enters DE: its current is the mean of the last complete switching period from here on (R52, R64). -/
def State.enterDe (s : State) (t p : Nat) (keep : Bool) (x : Phase) : Phase :=
  { x.go .de keep with ei := 0, i := (periodMean s.kDiv p s.now (s.link t).samples).getD x.i }

/-- DE after 2 half periods below the entry level (R63). -/
def deEntryEff (t p : Nat) (s : State) : State :=
  let x := s.ph t p
  if x.st = .run ∧ 2 ≤ x.deCnt then s.updPh t p (s.enterDe t p false) else s

/-- Under a trip snub a phase's detectors freeze (Table 3.6). -/
def Phase.frozen (x : Phase) : Bool := decide (x.st = .snub) && decide (x.snubKind = .trip)

/-- Warning 0202h after more than 1 ms at the trim limit (R55). -/
def trimLimitEff (t p : Nat) (s : State) : State :=
  let x := s.ph t p
  match x.trimSince with
  | some a =>
    if a + ms < s.now ∧ x.up202 = false ∧ x.frozen = false then
      (s.updPh t p (fun x => { x with up202 := true })).raise 0x0202 (phIdx t p)
    else s
  | none => s

/-- The drawing order (R71). -/
def drawOrder : List Nat := [7, 3, 5, 1, 6, 2]

/-- The conditions of R72, but for the candidate. -/
def drawAllowed (s : State) (t : Nat) : Bool :=
  let y := s.tp t
  let n := ((s.phs t).filter (fun x => x.st.active)).length
  let busy := (s.phs t).any (fun x => decide (x.st = .drawing ∨ x.st = .restoring ∨ x.st = .handoff ∨ x.drawn = true))
  match y.shedSince with
  | some a =>
    decide (s.cfgU (0x2100 + t) 0x04 = 1) && decide (max a y.lastShed + s.cfgU (0x2100 + t) 0x07 * ms ≤ s.now) && decide (s.cfgU (0x2100 + t) 0x03 < n) && !busy &&
      decide (s.edge.lockUntil ≤ s.now) && !s.stepForecast 2000000 && y.share && y.testRef.isNone
  | none => false

/-- The next phase to draw (R71). -/
def drawNext (s : State) (t : Nat) : Option Nat :=
  drawOrder.find? (fun p => decide ((s.ph t p).st = .run) || (decide ((s.ph t p).st = .de) && !(s.ph t p).drawn))

/-- A tray draws one phase (R72, R73): weight 1 to 0 over 4 switching periods. -/
def drawStartEff (t : Nat) (s : State) : State :=
  if drawAllowed s t then
    match drawNext s t with
    | some p => s.updPh t p (fun x => { x.go .drawing true with w := 1, rate := -(1 / 8) })
    | none => s
  else s

/-- The drawing ramp has ended (R73): DE with weight 0, or OFF when commanded out meanwhile (Table 3.6). The ramp of an
identification is another (R78). -/
def drawingCompleteEff (t p : Nat) (s : State) : State :=
  let x := s.ph t p
  if x.st = .drawing ∧ x.w ≤ 0 ∧ s.underTest t p = false then
    s.updPh t p (fun x =>
      if x.oos then { x.go .off false with oos := false }
      else { s.enterDe t p true x with w := 0, drawn := true })
  else s

/-- The restoring ramp has ended (R74). -/
def restoreCompleteEff (t p : Nat) (s : State) : State :=
  let x := s.ph t p
  if x.st = .restoring ∧ 1 ≤ x.w ∧ s.underTest t p = false then s.updPh t p (fun x => x.go .run false) else s

/-- The drawing lockout has expired (R75). -/
def lockoutExpiryEff (s : State) : State :=
  if s.edge.lockUntil ≠ 0 ∧ s.edge.lockUntil ≤ s.now then { s with edge := { s.edge with lockUntil := 0 } } else s

/-- A tray above the restore level restores one shed phase, the reverse of the drawing order (R74). -/
def restoreOne (t : Nat) (s : State) : State :=
  let n := ((s.phs t).filter (fun x => x.st.active)).length
  if (s.tp t).share ∧ (n : Rat) * s.cfgB (0x2100 + t) 0x06 * s.iLim t < absQ (s.tp t).rTray then
    match drawOrder.reverse.find? (fun p => decide ((s.ph t p).st = .shed) && (s.ph t p).svc) with
    | some p => s.updPh t p Phase.restore
    | none => s
  else s

/-! ### The half-period update (R54) -/

/-- The phases whose means the law takes: carrying, open and sense counters zero. -/
def meanSet (s : State) (t : Nat) : List Phase :=
  (s.phs t).filter (fun x => x.st.carry && decide (x.openCnt = 0) && decide (x.senseCnt = 0))

/-- Balance trim at the phase's instant (R54, R55): a limit of 0 holds every trim at 0; a phase in DE keeps its trim
(R64), and so does one in HANDOFF (log entry 69). A trim at its limit is so in every state that holds it for the phase's
next RUN, SHED, a load-step snub and a hand-off among them; under a trip snub its clock stands still (Table 3.6), and
in the states from which a phase starts with b_p = 0 it ends (log entry 69). The mean of an empty mean set is taken as 0
(log entry 69). -/
def trimNext (s : State) (t : Nat) (meanI : Rat) (x : Phase) : Phase :=
  let lim := s.cfgB (0x2100 + t) 0x0C
  if lim = 0 then { x with b := 0, trimSince := none, up202 := false }
  else if x.frozen then x
  else
    let b := if x.st.carry then clampQ (-lim) lim (x.b + s.cfgB (0x2100 + t) 0x0B * (meanI - x.i)) else x.b
    let holds := x.st.active || decide (x.st = .handoff) || decide (x.st = .shed) || (decide (x.st = .snub) && decide (x.snubKind = .step))
    let atLim := holds && decide (lim ≤ absQ b)
    let since := if atLim then some (x.trimSince.getD s.now) else none
    { x with b := b, trimSince := since, up202 := x.up202 && atLim }

/-- The open-phase evaluation (R76). -/
def openNext (ir : Rat) (x : Phase) : Phase :=
  if x.frozen then x else
  let drive := if 0 < x.r then 1 - x.d else x.d
  let bad := x.driven && decide (x.st ≠ .handoff) && decide (absQ x.i < 5 / 100 * absQ x.r) &&
    decide (10 / 100 * ir ≤ absQ x.r) && decide (20 / 100 < drive)
  { x with openCnt := if bad then x.openCnt + 1 else 0 }

/-- The observer and its test (R77, R79); `half` is P/2 in ns, `l` the inductance in µH. Its first value in a phase, after
a load-step snub and after a link loss is the measured current (log entry 69). -/
def observeNext (ir half l vs vb : Rat) (x : Phase) : Phase :=
  let model := (vs - x.d * vb) * half / (l * 1000)
  if x.st.carry then
    let h0 := if x.obsOn then x.iHat else x.i
    let h := h0 + model + (x.i - h0) / 64
    let bad := decide (30 / 100 * max (absQ h) (10 / 100 * ir) < absQ (x.i - h))
    { x with iHat := h, obsOn := true, senseCnt := if bad then x.senseCnt + 1 else 0 }
  else if x.st = .handoff ∧ x.cause = .sense then { x with iHat := x.iHat + model }
  else if x.frozen then x
  else { x with obsOn := false, senseCnt := 0 }

/-- The DE counter, the DE integrator and the way back to RUN (R63, R64). The phase under identification does not enter
DE: its reference is small because of the test, so its counter stands still (R78, log entry 69). -/
def deNext (s : State) (t : Nat) (ir : Rat) (underTest : Bool) (x : Phase) : Phase :=
  if x.st = .run then
    { x with deCnt := if absQ x.r < s.cfgB 0x2200 0x09 * ir && !underTest then x.deCnt + 1 else 0 }
  else if x.st = .de then
    if !x.drawn && decide (s.cfgB 0x2200 0x0A * ir < absQ x.r) then x.go .run false
    else { x with ei := x.ei + s.cfgB (0x2100 + t) 0x0A / s.cfgB (0x2100 + t) 0x09 * (x.r - x.i) }
  else x

/-- One half-period step of a weight ramp. -/
def rampNext (x : Phase) : Phase :=
  let w := clampQ 0 1 (x.w + x.rate)
  { x with w := w, rate := if x.st = .run ∧ 1 ≤ w then 0 else x.rate }

/-- The tray's part, at the instants of phase 0's slot: x_t, the transition of R91, the tray-sum test, whose counter stands
still under a trip snub (R54, R78, Table 3.6). -/
def trayHalf (t : Nat) (s : State) : State :=
  let l := meanSet s t
  let meanE := meanQ (l.map fun x => x.r - x.i)
  let sum := sumQ ((s.phs t).map (·.i))
  let k := s.link t
  let lim := 10 / 100 * max (absQ k.iDc) (if 0 < k.vLink then 5 / 100 * (100000 / k.vLink) else 0)
  let bad := k.iDcOk && decide (lim < absQ (sum - k.iDc)) && !(s.tp t).sumOff && (s.tp t).ident.isNone
  s.updTp t (fun y => { y with
    x := if l = [] then y.x else y.x + s.cfgB (0x2100 + t) 0x0A * meanE
    blend := y.blend - 1
    mismatch := if (s.phs t).any Phase.frozen then y.mismatch else if bad then y.mismatch + 1 else 0 })

/-- A phase that identification can test (R78). -/
def testable (x : Phase) : Bool := x.st.carry

/-- One half-period step of identification (R78): 4 down, 4 held, 4 back, then the next phase. The ramps run from the
weight the phase has at its turn and back to it, and its own ramp stands still meanwhile (log entry 69). -/
def identStep (t : Nat) (s : State) : State :=
  match (s.tp t).ident with
  | none => s
  | some d =>
    let x := s.ph t d.p
    let next := fun (found passed : Bool) (s : State) =>
      s.updTp t (fun y => { y with ident := some { p := d.p + 1, step := 0, w0 := 1, found := found, passed := passed } })
    if s.nPh t ≤ d.p then s
    else if !testable x then next d.found true s
    else if d.step = 8 ∧ 10 / 100 * s.iPhR t < absQ x.i then next true d.passed (senseFailed t d.p s)
    else
      let d := if d.step = 0 then { d with w0 := x.w } else d
      let w := if d.step < 4 then 1 - ((d.step + 1 : Nat) : Rat) / 4
        else if d.step < 8 then 0 else ((d.step - 7 : Nat) : Rat) / 4
      let s := s.updPh t d.p (fun x => { x with w := d.w0 * w })
      if d.step = 11 then next d.found d.passed s
      else s.updTp t (fun y => { y with ident := some { d with step := d.step + 1 } })

/-- The instants of a phase that are due and that no command has taken (log entry 13). -/
def settlePhase (t p : Nat) (s : State) : State :=
  restoreCompleteEff t p (drawingCompleteEff t p (handoffCompleteEff t p (deEntryEff t p
    (senseDetectedEff t p (openDetectedEff t p (trimLimitEff t p s))))))

/-- The half-period update of phase p of tray t (R54). -/
def halfPeriodEff (t p : Nat) (s : State) : State :=
  if (s.link t).up = false then s
  else
    let s := decideAtInstant t p (settlePhase t p s)
    let s := if p = 0 then restoreOne t (identStep t (trayHalf t s)) else s
    let ir := s.iPhR t
    let vs := (s.link t).vLink
    let meanI := meanQ ((meanSet s t).map (·.i))
    let under := s.underTest t p
    let half := s.cfgB (0x2100 + t) (0x17 + 8 * p)
    s.updPh t p (fun x =>
      let x := deNext s t ir under (observeNext ir (s.kDiv : Nat) half vs s.loop.vBus (openNext ir (trimNext s t meanI x)))
      s.sees t p (if under then { x with w := clampQ 0 1 x.w } else rampNext x))

/-- The tray-sum test has failed for 4 switching periods: identification begins (R78). -/
def sumMismatchEff (t : Nat) (s : State) : State :=
  let y := s.tp t
  if 8 ≤ y.mismatch ∧ y.ident = none ∧ y.sumOff = false then
    publishCapacity t (s.updTp t (fun y => { y with
      mismatch := 0, ident := some { p := 0, step := 0, w0 := 1, found := false, passed := false } }))
  else s

/-- Every phase has been tested (R78). -/
def identCompleteEff (t : Nat) (s : State) : State :=
  match (s.tp t).ident with
  | some d =>
    if s.nPh t ≤ d.p then
      let none_ := !d.found && !d.passed
      let s := s.updTp t (fun y => { y with ident := none, sumOff := y.sumOff || none_ })
      when_ none_ (fun s => s.raise 0x0205 t) s
    else s
  | none => s

/-! ### Phase commands (R80, R82) -/

/-- Phase p is judged no further by a check that runs: the check goes on with the next phase, and ends where none is
left. `failed`: the phase has not passed (R84). -/
def dropFromCheck (failed : Bool) (t p : Nat) (s : State) : State :=
  match (s.tp t).check with
  | some c =>
    let rest := c.todo.filter (· != p)
    if c.started = false ∨ rest = c.todo then s
    else
      let c := { c with anyFailed := c.anyFailed || failed }
      let c := if c.todo.head? = some p then
          { c with todo := rest, tries := 0, retry := false, tb := none, due := max c.due s.now }
        else { c with todo := rest }
      if rest = [] then checkOutcome t c s else s.updTp t (fun y => { y with check := some c })
  | none => s

/-- A phase commanded out of service leaves a check that runs (R80). -/
def leaveCheck (t p : Nat) (s : State) : State := dropFromCheck false t p s

/-- The tray is the black-start tray, its precharge path closed: it checks its phases so (R99). -/
def State.bsChecks (s : State) (t : Nat) : Bool :=
  let x := s.tray t
  decide (x.st = .precharge) && x.blackStart && x.bsAsked

/-- A phase commanded into service while the check of its tray runs is checked with the others (R82, R98). -/
def joinCheck (t p : Nat) (s : State) : State :=
  s.updTp t (fun y => { y with check := y.check.map fun c =>
    if c.started && !c.todo.contains p then { c with todo := c.todo ++ [p] } else c })

/-- Command 0 of [2100+t.11+8p] (R80, Table 3.6): the phase ends in OFF, whatever it was. -/
def phaseOutEff (ses t p : Nat) (s : State) : State :=
  let x := s.ph t p
  if x.svc = false ∨ s.nPh t ≤ p then s.violate ses (0x2100 + t) (0x11 + 8 * p)
  else
    let s := leaveCheck t p (s.updPh t p (fun x => { x with svc := false, want := false }))
    match x.st with
    | .drawing => s.updPh t p (fun x => { x with oos := true })
    | .off | .shed | .check | .fault => s.updPh t p (fun x => x.go .off false)
    | .handoff => s
    | .linkLost => s.updPh t p (fun x => { x with prev := .off })
    | _ => handOffEff t p .service s

/-- Command 1 (R82): the way back for a phase that is out of service, OFF or in FAULT. The black-start tray in PRECHARGE
checks it with its precharge path closed, before K_P closes (R99). -/
def phaseInEff (ses t p : Nat) (s : State) : State :=
  let x := s.ph t p
  if (x.svc = true ∧ x.st ≠ .off ∧ x.st ≠ .fault) ∨ s.nPh t ≤ p then s.violate ses (0x2100 + t) (0x11 + 8 * p)
  else joinCheck t p (requestCheck t (some p) (s.bsChecks t) (s.bsChecks t)
    ((s.updPh t p (fun x => { x with svc := true, want := true, oos := false })).updTray t (fun x => { x with
      bsPassed := false })))

/-! ### The pre-start check (R82 to R84, R99) -/

/-- A phase the check covers (R82): one in SHED, one in FAULT that its flags let pass, and one that command 1 wants in
service, as the module's start wants every phase (log entry 15). -/
def covered (x : Phase) : Bool :=
  match x.st with
  | .shed => true
  | .off => x.want
  | .fault => x.want || (!bit x.flags 0 && !bit x.flags 1)
  | _ => false

/-- The phases the check of tray t covers, ascending. -/
def coveredPhases (s : State) (t : Nat) : List Nat := (List.range (s.nPh t)).filter fun p => covered (s.ph t p)

/-- The check may run: contactors open (R98), bus at the tray at least 100 V, link up; the black-start tray with K_PRE
closed (R99); no check of a pulled tray, nor of one whose early-break pin is broken (R118), nor by a module that does
not drive (R466); a phase under a snub reaches OFF first (Table 3.6). -/
def checkAllowed (s : State) (t : Nat) (c : Check) : Bool :=
  let x := s.tray t
  (s.link t).up && decide (100 ≤ (s.link t).vBus) && !x.kP && (c.blackStart || !x.kPre) && x.pin &&
    decide (x.st ≠ .pulled) && s.drives && !(s.phs t).any (fun x => decide (x.st = .snub))

/-- Start of the pre-start check, or its deferral with notice 020Dh for each phase, once for each time it is asked for (R82). -/
def checkStartEff (t : Nat) (s : State) : State :=
  match (s.tp t).check with
  | some c =>
    if c.started then s
    else if checkAllowed s t c then
      let todo := coveredPhases s t
      let c := { c with started := true, told := todo ++ c.told, todo := todo, tries := 0, due := s.now, retry := false
                        tb := none, anyFailed := false }
      if todo = [] then checkOutcome t c s else s.updTp t (fun y => { y with check := some c })
    else
      let new := (coveredPhases s t).filter fun p => !c.told.contains p
      if new = [] then s
      else (new.foldl (fun a p => a.raise 0x020D (phIdx t p)) s).updTp t (fun y => { y with
        check := some { c with told := new ++ c.told } })
  | none => s

/-- The verdict on the phase in progress, and what follows (R83, R84, R99). -/
def judge (t p : Nat) (c : Check) (pass : Bool) (s : State) : State :=
  let s := s.updPh t p (fun x =>
    if pass then { x.go .shed false with flags := 0, want := false, tripped := false, svc := true }
    else { x.go .fault false with flags := setBit (setBit x.flags 3 true) 4 (bit x.flags 4 || bit (s.link t).desat p), want := false })
  let s := if pass then s else s.raise 0x0206 (phIdx t p)
  let rest := c.todo.drop 1
  let c := { c with todo := rest, tries := 0, retry := false, tb := none, due := c.due + 10000
                    anyFailed := c.anyFailed || !pass }
  if rest = [] ∨ (c.blackStart ∧ c.anyFailed) then checkOutcome t c s
  else s.updTp t (fun y => { y with check := some c })

/-- Send the PROBE of phase p (R83): centred on its slot centre, in the first period whose T_a lies at least 25 ns
after the arrival, at most 120 ns after now (R88). -/
def sendProbe (t p : Nat) (c : Check) (s : State) : State :=
  let k := s.kDiv
  let half : Rat := (s.cfgU 0x2200 0x10 * 32 : Nat)
  let e := relEdges k t p half
  let cmd : EdgeCmd := { kind := .probe, ta := e.1, tb := e.2, sync := 0, once := false }
  let n := firstPeriod k t p e.1 (s.now + 120)
  let tb : Int := ((n * 128 * k + slotSteps k t p : Nat) : Int) + e.2
  let s := s.sendPaddle t 0x01 (edgeBytes k t p (s.now / 1000) (s.now + 120) 0 cmd)
  let ta : Int := ((n * 128 * k + slotSteps k t p : Nat) : Int) + e.1
  let s := s.updLink t (fun l => { l with desat := setBit l.desat p false })
  s.updTp t (fun y => { y with check := some { c with tb := some ((tb + 63) / 64).toNat, ta := ta.toNat, retry := false } })

/-- The next phase of the check, every 10 µs (R82, R83). -/
def phaseProbeEff (t : Nat) (s : State) : State :=
  match (s.tp t).check with
  | some c =>
    match c.todo with
    | p :: _ =>
      if c.started ∧ c.tb = none ∧ c.retry = false ∧ c.due ≤ s.now ∧ kindAllowed s t .probe then
        let x := s.ph t p
        if c.blackStart = false ∧ (s.link t).vBus / 2 < x.vSw then judge t p c false s
        else sendProbe t p c (s.updPh t p (fun x => { x.go .check false with prev := x.st }))
      else s
    | [] => s
  | none => s

/-- The retry of an inconclusive probe, 100 µs later (R83). -/
def probeRetryEff (t : Nat) (s : State) : State :=
  match (s.tp t).check with
  | some c =>
    match c.todo with
    | p :: _ => if c.started ∧ c.retry ∧ c.due ≤ s.now ∧ kindAllowed s t .probe then sendProbe t p c s else s
    | [] => s
  | none => s

/-- The judgement on the STATUS frame of time `at_` (R83). -/
def judgeStatus (t at_ : Nat) (s : State) : State :=
  match (s.tp t).check with
  | some c =>
    match c.todo, c.tb with
    | p :: _, some tb =>
      if tb ≤ at_ ∧ (s.ph t p).st = .check then
        let l := s.link t
        let desat := bit l.desat p
        let vb := s.loop.vBus
        if desat ∨ (l.probeOk ∧ s.cfgF 0x2200 0x12 * vb < l.probe) then judge t p c false s
        else if l.probeOk ∧ l.probe < s.cfgF 0x2200 0x11 * vb then judge t p c true s
        else if 2 ≤ c.tries then judge t p c false s
        else s.updTp t (fun y => { y with check := some { c with tb := none, tries := c.tries + 1, retry := true
                                                                 due := s.now + 100000 } })
      else s
    | _, _ => s
  | none => s

/-- A running check is abandoned: bus below 100 V, or link lost (R82). -/
def abandonCheck (t : Nat) (s : State) : State :=
  match (s.tp t).check with
  | some c =>
    if c.started then
      let s := s.updPhs t (fun x => if x.st = .check then x.go x.prev true else x)
      s.updTp t (fun y => { y with check := some { c with started := false, todo := [], tb := none, retry := false
                                                          tries := 0, anyFailed := false } })
    else s
  | none => s

/-- A trip snub ends a check that runs: it starts again from its first phase once it is allowed (Table 3.6, R82, log
entry 69). -/
def tripCheck (t : Nat) (s : State) : State :=
  s.updTp t (fun y => { y with check := y.check.map fun c =>
    { c with started := false, todo := [], tb := none, retry := false, tries := 0, anyFailed := false } })

/-! ### Late commands (R18, R19) -/

/-- A command of an older period is discarded and counted (R18). The newest command of a phase is the last edge command
that left for it: a period that changed neither its edges nor its kind sent none (R60, log entry 69). -/
def lateCommandEff (t p period : Nat) (s : State) : State :=
  if period < (s.ph t p).cmdAt then { s with edge := { s.edge with late := sat32 (s.edge.late + 1) } } else s

/-- Edge commands later than 900 ns after t0 (R19). -/
def latePeriodEff (delay : Nat) (s : State) : State :=
  let s := { s with loop := { s.loop with delayLast := delay, delayHigh := max s.loop.delayHigh delay } }
  if delay ≤ 900 then s
  else
    let times := s.now :: s.edge.lateTimes.filter (fun a => decide (s.now < a + sec))
    let s := { s with edge := { s.edge with latePeriods := sat32 (s.edge.latePeriods + 1), lateTimes := times } }
    let s := s.raise 0x020B noInst
    when_ (decide (times.length = 11)) (fun s => s.raise 0x020C noInst) s

/-! ### Meanings -/

/-- Tray and phase exist. -/
def okTP (t p : Nat) : Bool := decide (t < Config.trays) && decide (p < Config.phases)

/-- HALF_PERIOD_UPDATE (R54). -/
def execHalfPeriodUpdate (t p : Nat) (s : State) : Host.Outcome State Fault Refusal := run (okTP t p) s (halfPeriodEff t p)

/-- DE_ENTRY (R63). -/
def execDeEntry (t p : Nat) (s : State) : Host.Outcome State Fault Refusal := run (okTP t p) s (deEntryEff t p)

/-- BALANCE_TRIM_AT_LIMIT (R55). -/
def execBalanceTrimAtLimit (t p : Nat) (s : State) : Host.Outcome State Fault Refusal :=
  run (okTP t p) s (trimLimitEff t p)

/-- PHASE_OPEN_DETECTED (R76). -/
def execPhaseOpenDetected (t p : Nat) (s : State) : Host.Outcome State Fault Refusal :=
  run (okTP t p) s (openDetectedEff t p)

/-- PHASE_SENSE_FAILED (R77). -/
def execPhaseSenseFailed (t p : Nat) (s : State) : Host.Outcome State Fault Refusal :=
  run (okTP t p) s (senseDetectedEff t p)

/-- TRAY_SUM_MISMATCH (R78). -/
def execTraySumMismatch (t : Nat) (s : State) : Host.Outcome State Fault Refusal :=
  run (decide (t < Config.trays)) s (sumMismatchEff t)

/-- IDENTIFICATION_COMPLETE (R78). -/
def execIdentificationComplete (t : Nat) (s : State) : Host.Outcome State Fault Refusal :=
  run (decide (t < Config.trays)) s (identCompleteEff t)

/-- PHASE_HANDOFF_COMPLETE (R79). -/
def execPhaseHandoffComplete (t p : Nat) (s : State) : Host.Outcome State Fault Refusal :=
  run (okTP t p) s (handoffCompleteEff t p)

/-- PHASE_OUT_OF_SERVICE (R80). -/
def execPhaseOutOfService (ses t p : Nat) (s : State) : Host.Outcome State Fault Refusal :=
  runObj ses (0x2100 + t) (0x11 + 8 * p) (okTP t p) s (phaseOutEff ses t p)

/-- PHASE_INTO_SERVICE (R82). -/
def execPhaseIntoService (ses t p : Nat) (s : State) : Host.Outcome State Fault Refusal :=
  runObj ses (0x2100 + t) (0x11 + 8 * p) (okTP t p) s (phaseInEff ses t p)

/-- PHASE_DRAW_START (R72). -/
def execPhaseDrawStart (t : Nat) (s : State) : Host.Outcome State Fault Refusal :=
  run (decide (t < Config.trays)) s (drawStartEff t)

/-- PHASE_DRAWING_COMPLETE (R73). -/
def execPhaseDrawingComplete (t p : Nat) (s : State) : Host.Outcome State Fault Refusal :=
  run (okTP t p) s (drawingCompleteEff t p)

/-- PHASE_RESTORE_COMPLETE (R74). -/
def execPhaseRestoreComplete (t p : Nat) (s : State) : Host.Outcome State Fault Refusal :=
  run (okTP t p) s (restoreCompleteEff t p)

/-- DRAWING_LOCKOUT_EXPIRY (R75). -/
def execDrawingLockoutExpiry (s : State) : Host.Outcome State Fault Refusal := run true s lockoutExpiryEff

/-- LATE_COMMAND_DISCARD (R18). -/
def execLateCommandDiscard (t p period : Nat) (s : State) : Host.Outcome State Fault Refusal :=
  run (okTP t p) s (lateCommandEff t p period)

/-- LATE_PERIOD (R19). -/
def execLatePeriod (delay : Nat) (s : State) : Host.Outcome State Fault Refusal := run true s (latePeriodEff delay)

/-- PRESTART_CHECK_START (R82). -/
def execPrestartCheckStart (t : Nat) (s : State) : Host.Outcome State Fault Refusal :=
  run (decide (t < Config.trays)) s (checkStartEff t)

/-- PRESTART_PHASE_PROBE (R83). -/
def execPrestartPhaseProbe (t : Nat) (s : State) : Host.Outcome State Fault Refusal :=
  run (decide (t < Config.trays)) s (phaseProbeEff t)

/-- PROBE_RETRY (R83). -/
def execProbeRetry (t : Nat) (s : State) : Host.Outcome State Fault Refusal :=
  run (decide (t < Config.trays)) s (probeRetryEff t)

end Sys2Proof.Machine
end

