-- ==== Sys2Proof/Machine/Links.lean ====
section
/-! DEFINITION. Paddle links (R66 to R69, R86 to R93): frames received and sent, trip snubs, loss and return. -/

namespace Sys2Proof.Machine

/-! ### Trip snubs (R66, R68, R69) -/

/-- A phase under a trip snub: the trip wins, ramps stop, the phase ends as R68 states (Table 3.6). One that was being
checked is checked again before it starts (R82). -/
def Phase.tripSnub (x : Phase) : Phase :=
  match x.st with
  | .off | .shed | .fault | .linkLost => x
  | .check => { x.snub .trip with want := true }
  | _ => x.snub .trip

/-- A SNUB command: both gates off on arrival (Table 3.3). -/
def snubCmd : EdgeCmd := { kind := .snub, ta := 0, tb := 0, sync := 0, once := false }

/-- The SNUB commands a trip sends on a link, outside the period (R66, R118). -/
def snubCmds (s : State) (t : Nat) : List (Nat × EdgeCmd) :=
  (List.range (s.nPh t)).filterMap fun p =>
    if (s.ph t p).st = .snub then (if (s.ph t p).cmd = some snubCmd then none else some (p, snubCmd)) else none

/-- Send edge commands at once, in one EDGE frame. -/
def sendAtOnce (t : Nat) (l : List (Nat × EdgeCmd)) (s : State) : State :=
  if (s.link t).up = false ∨ l = [] ∨ s.fm.faultOut = true ∨ s.drives = false then s
  else
    let payload := (l.map fun e => edgeBytes s.kDiv t e.1 (s.now / 1000) s.now (s.ph t e.1).r e.2).flatten
    markCmds t s.now l (s.sendPaddle t 0x01 payload)

/-- The trip's SNUB commands. -/
def sendSnubs (t : Nat) (s : State) : State := sendAtOnce t (snubCmds s t) s

/-- Snub every phase of a tray (R66): it starts again when its share is nonzero again (R68). -/
def snubTray (t : Nat) (s : State) : State :=
  sendSnubs t (((tripCheck t s).mapPhs t (fun p x => s.sees t p x.tripSnub)).updTp t (fun y => { y with share := false, testRef := none }))

/-- Snub all 128 phases (R66). -/
def snubShelf (s : State) : State := forTrays snubTray s

/-! ### EVENT frames (R45, R67, Table 3.8) -/

/-- One phase tripped by its overcurrent comparator (R66, R67): SNUB at once, FAULT, trip 020Ah. -/
def overcurrentPhase (t p : Nat) (s : State) : State :=
  let s := dropFromCheck true t p (s.updPh t p (fun x => { x.go .fault false with flags := setBit x.flags 2 true }))
  (sendAtOnce t [(p, snubCmd)] s).raise 0x020A (phIdx t p)

/-- A frame error on a link: discarded and counted; 020Eh at more than 100 within 1 s (R86, R88). -/
def frameError (t : Nat) (s : State) : State :=
  let s := { s with edge := { s.edge with frameErrors := sat32 (s.edge.frameErrors + 1) } }
  let times := s.now :: ((s.link t).errTimes.filter fun a => decide (s.now < a + sec))
  let many := decide (100 < times.length)
  let was := (s.link t).up20E
  let s := s.updLink t (fun l => { l with errTimes := times.take 101, up20E := many })
  when_ (many && !was) (fun s => s.raise 0x020E t) s

/-- A whole frame of a type this input does not take: an unknown type is a frame error (R86, Table 3.8). -/
def otherFrame (t typ : Nat) (s : State) : State := if 0x81 ≤ typ ∧ typ ≤ 0x84 then s else frameError t s

/-- A desaturation at shelf time `at_` falls in the probe of the check that runs: not before its T_a (R83). -/
def afterProbe (s : State) (t at_ : Nat) : Bool :=
  match (s.tp t).check with
  | some c => c.tb.isSome && decide (c.ta ≤ 64 * at_)
  | none => false

/-- The overcurrent and desaturation flags of an EVENT frame (R67). -/
def overcurrentEff (t : Nat) (frame : Bytes) (s : State) : State :=
  match parsePaddle t frame with
  | some (0x84, d) =>
    let oc := u8At d 8
    let ds := u8At d 9
    let at_ := u64At d 0
    let s := when_ (afterProbe s t at_) (fun s => s.updLink t (fun l => { l with desat := l.desat ||| ds })) s
    let s := s.mapPhs t (fun p x => if bit ds p then { x with flags := setBit x.flags 4 true } else x)
    let hit := (List.range (s.nPh t)).filter fun p => bit oc p
    if hit = [] then s
    else
      let recent := (s.tp t).ocs.filter fun e => decide (s.now ≤ e.2 + ms)
      let second := hit.any fun p => (recent.any fun e => e.1 != p) || hit.any (· != p)
      let s := hit.foldl (fun a p => overcurrentPhase t p a) s
      let s := s.updTp t (fun y => { y with ocs := hit.map (fun p => (p, s.now)) ++ recent })
      let s := publishCapacity t s
      if second then snubTray t s else s
  | some e => otherFrame t e.1 s
  | none => frameError t s

/-- The bus-overvoltage flag of an EVENT frame (R45): all 128 phases snubbed, TRIPPED, trip 0107h. -/
def overvoltageEff (t : Nat) (frame : Bytes) (s : State) : State :=
  match parsePaddle t frame with
  | some (0x84, d) => if u8At d 10 = 0 then s else (tripLoop (snubShelf s)).raise 0x0107 noInst
  | some e => otherFrame t e.1 s
  | none => frameError t s

/-! ### SAMPLE frames (Table 3.9, R52) -/

/-- A corrected current (R503): g × (raw − o). -/
def calCurrent (s : State) (t kg ko : Nat) (raw : Rat) : Rat := s.calIn t kg * (raw - s.calIn t ko)

/-- The phase currents of a SAMPLE, corrected. -/
def sampleCurrents (s : State) (t : Nat) (d : Bytes) : List Rat :=
  (List.range 8).map fun p => calCurrent s t p (8 + p) ((i16At d (8 + 2 * p) : Rat) / 256)

/-- Raw phase current of a SAMPLE, for the offset routine (R509). -/
def sampleRaw (d : Bytes) (p : Nat) : Rat := (i16At d (8 + 2 * p) : Rat) / 256

/-- The zero-current window of the offset routine is open in a state (Table 19.3). -/
def offsetWindow (st : PhSt) (failed : Bool) : Bool := decide (st = .shed ∨ st = .off) && !failed

/-- The window of a phase of the shelf may be open: that of zero current, or between the pulses of DE. -/
def State.offsetOpen (s : State) (t p : Nat) : Bool :=
  let st := s.shelfPhase t p
  offsetWindow st (s.shelfSense t p) || (decide (st = .de) && !s.shelfSense t p)

/-- One sample more, up to 1,024. -/
def Phase.calAdd (x : Phase) (raw : Rat) : Phase :=
  if x.calN < 1024 then { x with calN := x.calN + 1, calSum := x.calSum + raw, calSq := x.calSq + raw * raw } else x

/-- The window of a phase in DE (Table 19.3): between the end of the synchronous limit + 250 ns and the next active
pulse, which is centred on the slot. -/
def deWindow (k dead t p at_ : Nat) (x : Phase) : Bool :=
  let per : Rat := (2 * k : Nat)
  let o := slotNs k t p
  let u := (at_ : Rat) - o - (((at_ : Rat) - o) / per).floor * per
  decide (x.deOn = 0) || (decide (x.deOn / 2 + (dead : Rat) + x.deSync + 250 ≤ u) && decide (u < per - x.deOn / 2))

/-- Accumulate the live offset measurement of a phase (R509): from 50 µs in SHED or OFF, or in DE between pulses, whose
place a standby does not know. -/
def offsetAccum (st : PhSt) (failed deOpen : Bool) (now : Nat) (raw : Rat) (x : Phase) : Phase :=
  if st = .de ∧ failed = false then
    let x := { x with calSince := none }
    if deOpen then x.calAdd raw else x
  else if offsetWindow st failed then
    match x.calSince with
    | none => { x with calSince := some now, calN := 0, calSum := 0, calSq := 0 }
    | some a =>
      if a + 50000 ≤ now then x.calAdd raw else x
  else x.dropCal

/-- One phase at a SAMPLE. The valid bits of Table 3.9 are of the currents: the switch-node voltage is taken as it comes. -/
def samplePhase (s : State) (t at_ : Nat) (d : Bytes) (hist : List Sample) (valid p : Nat) (x : Phase) : Phase :=
  let ok := bit valid p
  let dw := !s.follows && deWindow s.kDiv (s.cfgU 0x2200 0x03) t p at_ x
  let x := if ok then offsetAccum (s.shelfPhase t p) (s.shelfSense t p) dw at_ (sampleRaw d p) { x with i := currentOf s.kDiv t p hist at_ x } else x
  { x with iOk := ok, vSw := (u16At d (24 + 2 * p) : Rat) / 64 }

/-- The DC-link offset routine's window (Table 19.3): the tray outside the set, every phase SHED, OFF or FAULT. -/
def dcWindow (s : State) (t : Nat) : Bool :=
  !s.shelfInSet t && (List.range (s.nPh t)).all fun p =>
    match s.shelfPhase t p with
    | .shed | .off | .fault => true
    | _ => false

/-- Accumulate it: from 1 ms on, up to 1,024 samples. -/
def dcAccum (openW : Bool) (now : Nat) (raw : Rat) (l : Link) : Link :=
  if openW then
    match l.calSince with
    | none => { l with calSince := some now, calN := 0, calSum := 0, calSq := 0 }
    | some a =>
      if a + ms ≤ now ∧ l.calN < 1024 then
        { l with calN := l.calN + 1, calSum := l.calSum + raw, calSq := l.calSq + raw * raw }
      else l
  else l.dropCal

/-- A phase's contribution to I_s, i its current of the sample (R162). A phase marked invalid in a state without an
observer counts with its last measured current (log entry 69). -/
def phaseCharge (i : Rat) (x : Phase) : Rat :=
  if x.st = .handoff ∧ x.cause = .sense then x.iHat
  else if x.iOk then i
  else if x.obsOn then x.iHat else x.i

/-- Charge of a current i over ns up to `at_` (R162, R182). -/
def Est.count (x : Est) (i : Rat) (at_ ns : Nat) : Est :=
  let d := i * (ns : Rat) / 1000000000
  { x with
    chargeAt := some at_, dQ := x.dQ + d, dQRest := if x.restLevel < absQ i then x.dQRest + d else x.dQRest }

/-- A SAMPLE frame is integrated, over the time since the one before it; four missing frames are a lost link, so at
most 500 ns (R162, R89, log entry 69). -/
def chargeSample (t at_ : Nat) (cur : List Rat) (s : State) : State :=
  let i := sumQ ((s.phs t).mapIdx fun p x => phaseCharge (get 0 cur p) x)
  s.updEst t (fun x =>
    let ns := match x.chargeAt with
      | some a => min 500 (at_ - a)
      | none => 125
    if ns = 0 then x else x.count i at_ ns)

/-- A SAMPLE frame (R88): its readings, or one more missing frame. While the link counts as lost the held current alone is
integrated (R162). -/
def sampleEff (t : Nat) (frame : Bytes) (s : State) : State :=
  match parsePaddle t frame with
  | some (0x81, d) =>
    let at_ := u64At d 0
    let cur := sampleCurrents s t d
    let valid := u8At d 42
    let rawDc := (i16At d 40 : Rat) / 64
    let dcOk := bit (u8At d 43) 0
    let smp : Sample := { at_ := at_, i := cur, vSw := (List.range 8).map fun p => (u16At d (24 + 2 * p) : Rat) / 64
                          ok := (List.range 8).map (bit valid) }
    let hist := (smp :: (s.link t).samples).take 162
    let s := s.mapPhs t (fun p x => samplePhase s t at_ d hist valid p x)
    let w := dcWindow s t
    let s := s.updLink t (fun l =>
      let l := { l with missing := 0, sampleAt := at_, samples := hist, iDcOk := dcOk
                        iDc := if dcOk then calCurrent s t 16 17 rawDc else l.iDc }
      if dcOk then dcAccum w at_ rawDc l else l)
    openAtZeroCheck t (if (s.link t).up then chargeSample t at_ cur s else s)
  | some e => otherFrame t e.1 s
  | none =>
    let s := s.updPhs t (fun x => { x with iOk := false })
    frameError t (s.updLink t (fun l => { l with missing := l.missing + 1, iDcOk := false }))

/-! ### STATUS frames (Table 3.9) -/

/-- The readings of a STATUS frame. -/
def statusLink (s : State) (t : Nat) (d : Bytes) (l : Link) : Link :=
  let f := u8At d 12
  let vl := s.calIn t 19 * ((u16At d 8 : Rat) / 64)
  let vb := s.calIn t 18 * ((u16At d 10 : Rat) / 64)
  { l with
    statusAt := u64At d 0, vLinkOk := bit f 0, vBusOk := bit f 1
    vLink := if bit f 0 then vl else l.vLink, vBus := if bit f 1 then vb else l.vBus
    fallback := bit f 2, fbHold := u8At d 13, probeOk := bit f 3, probe := (u16At d 14 : Rat) / 64
    temps := (List.range 8).map fun p => signed 8 (u8At d (16 + p))
    echoTurn := u32At d 24, echoSeq := u32At d 28 }

/-- The black-start tray asks for its check when the bus at the tray first reaches 100 V (R99). -/
def blackStartCheck (t : Nat) (s : State) : State :=
  let x := s.tray t
  if x.st = .precharge ∧ x.blackStart ∧ x.bsAsked = false ∧ 100 ≤ (s.link t).vBus then
    requestCheck t none true true (s.updTray t (fun x => { x with bsAsked := true }))
  else s

/-- A STATUS frame (R88): its readings, the probe it judges, the check it may abandon. -/
def statusEff (t : Nat) (frame : Bytes) (s : State) : State :=
  match parsePaddle t frame with
  | some (0x82, d) =>
    let s := s.updLink t (statusLink s t d)
    let s := if (s.link t).vBusOk ∧ (s.link t).vBus < 100 then abandonCheck t s else s
    blackStartCheck t (judgeStatus t (u64At d 0) s)
  | some e => otherFrame t e.1 s
  | none => frameError t (s.updLink t (fun l => { l with vLinkOk := false, vBusOk := false, probeOk := false }))

/-! ### Stage configuration (R51, Table 3.10) -/

/-- The registers of a stage and their values. -/
def stageConfig (s : State) (t : Nat) : List (Nat × Nat) :=
  [(0x0001, s.kDiv), (0x0002, s.cfgU 0x2200 0x03), (0x0003, s.cfgU 0x2200 0x04),
   (0x0004, (roundEven (s.cfgF 0x2000 0x21 * 64)).toNat)] ++
  (List.range (s.nPh t)).map fun p => (0x0010 + p, (roundEven (s.cfgF (0x2100 + t) 0x0D * 256)).toNat)

/-- Send one register (Table 3.8, 03h). -/
def sendConfig (t : Nat) (e : Nat × Nat) (s : State) : State :=
  (s.sendPaddle t 0x03 (le 2 e.1 ++ le 2 0 ++ le 4 e.2)).updLink t (fun l => { l with
    cfgSent := l.cfgSent.filter (fun x => x.1 != e.1) ++ [e], cfgRefused := l.cfgRefused.filter (· != e.1) })

/-- Send the whole configuration of a stage. -/
def sendStageConfig (t : Nat) (s : State) : State :=
  if (s.link t).up then (stageConfig s t).foldl (fun a e => sendConfig t e a) s else s

/-- A CONFIG_REPLY (R51): the register is accepted or refused. -/
def configReplyEff (t : Nat) (frame : Bytes) (s : State) : State :=
  match parsePaddle t frame with
  | some (0x83, d) =>
    let r := u16At d 0
    s.updLink t (fun l => { l with
      cfgSent := if u16At d 2 = 0 then l.cfgSent.filter (fun x => x.1 != r) else l.cfgSent
      cfgRefused := if u16At d 2 = 0 then l.cfgRefused.filter (· != r) else l.cfgRefused.filter (· != r) ++ [r] })
  | some e => otherFrame t e.1 s
  | none => frameError t s

/-! ### TIME frames (R87) -/

/-- A TIME frame to tray t: shelf time, one-way delay, echo request (Table 3.8). -/
def timeSendEff (t : Nat) (s : State) : State :=
  if (s.link t).up then
    (s.sendPaddle t 0x02 (le 8 s.now ++ le 4 (s.link t).delay ++ le 1 1 ++ le 3 0)).updLink t (fun l => { l with
      timeSeq := (s.link t).txSeq })
  else s

/-- The one-way delay from a round trip measured in edge steps: half of what the stage's turnaround leaves (R87). -/
def delayMeasureEff (t roundTrip : Nat) (s : State) : State :=
  s.updLink t (fun l => { l with delay := (roundTrip - l.echoTurn) / 2 })

/-! ### Lanes, loss and return (R88 to R91, R93) -/

/-- A lane lost: the link runs on the other (R88). -/
def laneLostEff (t : Nat) (s : State) : State :=
  if (s.link t).up ∧ (s.link t).oneLane = false then
    (s.updLink t (fun l => { l with oneLane := true })).raise 0x0208 t
  else s

/-- The second lane is back (R93). -/
def laneRestoredEff (t : Nat) (s : State) : State := s.updLink t (fun l => { l with oneLane := false })

/-- A phase of a lost link (R89, Table 3.6): LINKLOST, ramps stop; what it was is kept. -/
def Phase.loseLink (x : Phase) : Phase :=
  if x.st = .linkLost then x
  else { (x.go .linkLost true).dropCal with
    prev := if x.st = .check then x.prev else x.st, cmd := none, obsOn := false }

/-- The tray leaves the set by a link loss: another tray's slack water ends urgently (R116). A tray in its own ramp-down
keeps its state and rejoins in it (R121). -/
def linkLossSet (t : Nat) (s : State) : State :=
  if s.inSet t ∧ s.alloc.slackTray ≠ some t then leavesSet t s else s

/-- The link is lost (R89): phases LINKLOST, 0209h, the measured bus-side current held. -/
def linkLost (t : Nat) (s : State) : State :=
  let held := (s.tray t).iBus
  let s := abandonCheck t s
  let s := s.updPhs t Phase.loseLink
  let s := s.updTp t (fun y => { y with ident := none, mismatch := 0, shedSince := none, capacity := 0, blend := 0
                                        testRef := none })
  let s := linkLossSet t s
  let s := s.updLink t (fun l => { l.dropCal with
    up := false, lostAt := some s.now, held := held, fallAt := none, vBusOk := false, vLinkOk := false, iDcOk := false
    samples := [], statusAt := 0 })
  s.raise 0x0209 t

/-- A tray removed without warning (R119): 0306h, contactors low, PULLED. -/
def unwarned (t : Nat) (s : State) : State :=
  let s := interruptDrain t 0x0306 ((testOver t (drivesLow t (leavesSet t s))).raise 0x0306 t)
  s.updTray t (fun x => { x with
    st := .pulled, since := s.now, trayEn := false, ramp := none, leftAt := none, openAtZero := false, openSince := none, cause := 0x0306
    seatLostAt := none, lostInSet := false, pulledInSet := false })

/-- What the tray does at the loss of its link (Table 4.1, R113, R119, R120, R121): a tray whose pin is made keeps its
state, made again only just now or not. -/
def lossOfTray (t : Nat) (wasInSet : Bool) (s : State) : State :=
  let x := s.tray t
  if x.st = .absent then s
  else if (x.st = .pulled ∧ x.pulledInSet ∨ wasInSet) ∧ x.pin = false ∧ s.now < x.pinSince + ms then unwarned t s
  else if x.st = .pulled ∨ (x.pin = false ∧ !x.anyDrive) then trayAbsent t s
  else
    let s := if x.st = .drain ∨ x.st = .opening then interruptDrain t 0x0209 s else s
    (testOver t s).updTray t (fun x => { x with seatLostAt := some s.now, lostInSet := wasInSet })

/-- Four consecutive SAMPLE frames missing or discarded (R89). -/
def linkLostEff (t : Nat) (s : State) : State :=
  if (s.link t).up ∧ 4 ≤ (s.link t).missing then lossOfTray t (s.inSet t) (linkLost t s) else s

/-- A SAMPLE frame that never came counts as missing; the loss is declared at the fourth (R89). The command stands
for the 500 ns without one. -/
def paddleLinkLostEff (t : Nat) (s : State) : State :=
  linkLostEff t (s.updLink t (fun l => if l.up then { l with missing := max 4 l.missing } else l))

/-- The held current begins to fall, 5 ms after the loss (R89). -/
def heldExpiryEff (t : Nat) (s : State) : State :=
  s.updLink t (fun l => match l.lostAt, l.fallAt with
    | some a, none => if a + 5 * ms ≤ s.now then { l with fallAt := some (a + 5 * ms) } else l
    | _, _ => l)

/-- A phase that carried current back in RUN (R91), or in OFF when it was commanded out of service meanwhile (R80). -/
def Phase.backToRun (x : Phase) (fallback : Bool) : Phase :=
  if x.svc = false then { x.go .off false with oos := false }
  else if fallback then { x.go .run false with r := x.i } else x.go .run false

/-- A phase whose link returns (R91): its integrators reproduce the stage's present current; it returns to RUN, a phase
that did not carry current to what it was. One that was being handed off resumes its hand-off from its present weight,
over 8 switching periods (log entry 69). -/
def Phase.regain (x : Phase) (fallback : Bool) : Phase :=
  if x.st ≠ .linkLost then x
  else
    let x := { x with held := x.i, b := 0, trimSince := none, up202 := false, cmd := none }
    match x.prev with
    | .run | .de | .drawing | .restoring => x.backToRun fallback
    | .check | .linkLost => x.go .off false
    | .snub => match x.snubKind with
      | .step => x.backToRun fallback
      | .trip => x.snubEnd
      | .toFault => x.go .fault false
      | .toOff => x.go .off false
    | .handoff => { x.go .handoff true with rate := -(if x.w = 0 then 1 else x.w) / 16 }
    | st => x.go st false

/-- A lost link is back up, the stage's fallback active or not (R91). x_t is preset so that the phase law gives the
duty m_t at the present current. Where the stage reports no fallback its phases return to RUN at once with
x_t = b_p = 0 and no transition (log entry 69). -/
def linkRestoredEff (t : Nat) (fallback : Bool) (s : State) : State :=
  if (s.link t).up then s
  else
    let s := s.updLink t (fun l => { l with up := true, everUp := true, missing := 0, lostAt := none, held := 0
                                            fallAt := none, fallback := fallback, samples := [], oneLane := false })
    let s := s.updPhs t (fun x => x.regain fallback)
    let s := s.updTp t (fun y => { y with x := 0, blend := if fallback then 16 else 0, mismatch := 0 })
    let s := s.updTray t (fun x => { x with seatLostAt := none, lostInSet := false })
    sendStageConfig t s

/-! ### Meanings -/

/-- PHASE_OVERCURRENT (R67). -/
def execPhaseOvercurrent (t : Nat) (frame : Bytes) (s : State) : Host.Outcome State Fault Refusal :=
  run (decide (t < Config.trays)) s (overcurrentEff t frame)

/-- BUS_OVERVOLTAGE (R45). -/
def execBusOvervoltage (t : Nat) (frame : Bytes) (s : State) : Host.Outcome State Fault Refusal :=
  run (decide (t < Config.trays)) s (overvoltageEff t frame)

/-- SAMPLE_FRAME (R88). -/
def execSampleFrame (t : Nat) (frame : Bytes) (s : State) : Host.Outcome State Fault Refusal :=
  run (decide (t < Config.trays)) s (sampleEff t frame)

/-- STATUS_FRAME (R88). -/
def execStatusFrame (t : Nat) (frame : Bytes) (s : State) : Host.Outcome State Fault Refusal :=
  run (decide (t < Config.trays)) s (statusEff t frame)

/-- STAGE_CONFIG_REPLY (R51). -/
def execStageConfigReply (t : Nat) (frame : Bytes) (s : State) : Host.Outcome State Fault Refusal :=
  run (decide (t < Config.trays)) s (configReplyEff t frame)

/-- TIME_FRAME_SEND (R87). -/
def execTimeFrameSend (t : Nat) (s : State) : Host.Outcome State Fault Refusal :=
  run (decide (t < Config.trays)) s (timeSendEff t)

/-- LINK_DELAY_MEASURE (R87). -/
def execLinkDelayMeasure (t roundTrip : Nat) (s : State) : Host.Outcome State Fault Refusal :=
  run (decide (t < Config.trays)) s (delayMeasureEff t roundTrip)

/-- LINK_LANE_LOST (R88). -/
def execLinkLaneLost (t : Nat) (s : State) : Host.Outcome State Fault Refusal :=
  run (decide (t < Config.trays)) s (laneLostEff t)

/-- PADDLE_LANE_RESTORED (R93). -/
def execPaddleLaneRestored (t : Nat) (s : State) : Host.Outcome State Fault Refusal :=
  run (decide (t < Config.trays)) s (laneRestoredEff t)

/-- PADDLE_LINK_LOST (R89). -/
def execPaddleLinkLost (t : Nat) (s : State) : Host.Outcome State Fault Refusal :=
  run (decide (t < Config.trays)) s (paddleLinkLostEff t)

/-- HELD_CURRENT_EXPIRY (R89). -/
def execHeldCurrentExpiry (t : Nat) (s : State) : Host.Outcome State Fault Refusal :=
  run (decide (t < Config.trays)) s (heldExpiryEff t)

/-- PADDLE_LINK_RESTORED (R91). -/
def execPaddleLinkRestored (t : Nat) (fallback : Bool) (s : State) : Host.Outcome State Fault Refusal :=
  run (decide (t < Config.trays)) s (linkRestoredEff t fallback)

end Sys2Proof.Machine
end

