-- ==== Sys2Proof/Machine/Trays.lean ====
section
/-! DEFINITION. The tray manager (chapter 04): commands of Table 4.2, insertion, contactor tests, drains, slack water,
hot pull and removal. -/

namespace Sys2Proof.Machine

/-! ### Insertion (R96 to R99, R145) -/

/-- A weir test waits in the queue. -/
def TowCmd.isWeirTest : TowCmd → Bool
  | .weirTest _ => true
  | _ => false

/-- A ring starts with its enumeration (R128, Table 5.9); weir tests that wait stay. -/
def ringRestart (t : Nat) (s : State) : State :=
  let n := s.cfgU (0x3100 + t) 0x02
  s.updTow t (fun x => { x with
    ring := .whole, brk := 0xFF, brkSource := false, unreach := 0, hN := n, hS := 0, cyc := .idle, enumDue := true
    cfgDone := false, queue := x.queue.filter TowCmd.isWeirTest, cfgSent := [], probeCount := 0, test := none, suspicions := [] })

/-- The ring of a tray that enters IDLE from ABSENT: with its weir tests (R128, R145). -/
def towStart (t : Nat) (s : State) : State :=
  let n := s.cfgU (0x3100 + t) 0x02
  (ringRestart t s).updTow t (fun x => { x with
    queue := (List.range n).map TowCmd.weirTest
    weirRun := some { todo := List.range n, live := [], failed := false, entry := true }
    weirBlocked := false })

/-- The tray is seated: link up, pin made for 100 ms (Table 4.1). -/
def traySeatedEff (t : Nat) (s : State) : State :=
  let x := s.tray t
  if x.st = .absent ∧ (s.link t).up ∧ x.pin ∧ x.pinSince + 100 * ms ≤ s.now then
    let auto := decide (s.cfgU (0x3000 + t) 0x03 = 1)
    towStart t (s.updTray t (fun x => { x with
      st := .idle, since := s.now, trayEn := true, pinBlocked := false, autoPending := auto, cause := 0, safe := false }))
  else s

/-- Command 1 may be accepted: IDLE, pin made, no weir test awaited or failed (R120, R145). -/
def insertAllowed (s : State) (t : Nat) : Bool :=
  let x := s.tray t
  let w := s.tow t
  decide (x.st = .idle) && x.pin && !x.pinBlocked && !w.weirBlocked &&
    (match w.weirRun with
     | some r => !r.entry
     | none => true)

/-- The tray enters CHECK and asks for its pre-start check (Table 4.1, R98). -/
def enterCheck (t : Nat) (s : State) : State := requestCheck t none true false (setTray t .check s)

/-- Command 1 (Table 4.2). -/
def trayInsertEff (ses t : Nat) (s : State) : State :=
  if insertAllowed s t then enterCheck t s else s.violate ses (0x3000 + t) 0x02

/-! ### Precharge (R101, R102) -/

/-- V_str,tow and V_link meet the closure criterion (R102). -/
def closureMet (s : State) (t : Nat) : Bool :=
  let v := (s.tray t).vStr
  let d := absQ (v - (s.link t).vLink)
  if s.cfgU (0x3000 + t) 0x0F = 0 then decide (d ≤ s.cfgF (0x3000 + t) 0x10)
  else decide (d ≤ s.cfgF (0x3000 + t) 0x11 * v)

/-- τ of the precharge in ns (R101, R99). -/
def tauPre (s : State) (t : Nat) : Rat :=
  let c := s.cfgF (0x3000 + t) 0x13 + (if (s.tray t).blackStart then s.cfgF 0x4000 0x10 * 1000 else 0)
  s.cfgF (0x3000 + t) 0x12 * c * 1000

/-- The link is up and a STATUS has come over it: its link voltage is not one from before a loss (R121). -/
def State.linkFresh (s : State) (t : Nat) : Bool := (s.link t).up && decide ((s.link t).statusAt ≠ 0)

/-- Tracking clock and closure criterion as of a control period (R101, R102). A tray whose link is lost keeps its state
(R121): neither is judged until a STATUS comes again, and the criterion counts from then. -/
def prechargePeriod (t0 t : Nat) (s : State) : State :=
  let x := s.tray t
  if x.st = .precharge ∧ x.kN ∧ s.linkFresh t then
    let met := closureMet s t
    let go := decide (x.vStr / 20 < (s.link t).vLink)
    s.updTray t (fun x => { x with
      clockAt := if x.clockAt = none ∧ go = true then some t0 else x.clockAt
      critSince := if met then (if x.critSince = none then some t0 else x.critSince) else none })
  else if x.st = .precharge then s.updTray t (fun x => { x with critSince := none })
  else s

/-- The precharge does not follow its curve (R101). -/
def trackingFails (s : State) (t : Nat) : Bool :=
  let x := s.tray t
  let tau := tauPre s t
  match x.clockAt with
  | none => decide (((s.cfgU (0x3000 + t) 0x15 * ms : Nat) : Rat) + tau < ((s.now - x.driveAt : Nat) : Rat))
  | some a =>
    let tk : Rat := ((s.now - a : Nat) : Rat)
    let vExp := x.vStr * (1 - 95 / 100 * expNeg (tk / tau))
    decide (s.cfgF (0x3000 + t) 0x14 * x.vStr + 5 < absQ ((s.link t).vLink - vExp)) ||
      (decide (8 * tau < tk) && x.critSince.isNone)

/-- The 1 ms check of the precharge (R101). -/
def trackCheckEff (t : Nat) (s : State) : State :=
  if (s.tray t).st = .precharge ∧ (s.tray t).kN ∧ s.linkFresh t ∧ trackingFails s t then
    trayOpenFault t 0x0301 (s.raise 0x0301 t)
  else s

/-- The closure criterion has held for 1 ms: K_P is driven closed (R102, R99). -/
def closureEff (t : Nat) (s : State) : State :=
  let x := s.tray t
  match x.st, x.critSince with
  | .precharge, some a =>
    if x.kN = true ∧ s.linkFresh t ∧ a + ms ≤ s.now ∧ (x.blackStart = false ∨ (x.bsPassed = true ∧ s.checksDone t = true)) then
      s.updTray t (fun x => { x with st := .closing, since := s.now, kP := true, closeAt := s.now, test := none })
    else s
  | _, _ => s

/-! ### Contactor tests (R103, R104) -/

/-- The phase that runs the test (R104): phase 0, or the lowest-numbered one in service; it leaves SHED for it. -/
def testPhaseOf (s : State) (t : Nat) : Option Nat :=
  (List.range (s.nPh t)).find? fun p => (s.ph t p).svc && decide ((s.ph t p).st = .shed)

/-- The test begins (R104). -/
def testBegin (t : Nat) (k : CTest) (s : State) : State :=
  let p := testPhaseOf s t
  let s := match p with
    | some p => s.updPh t p (fun x => { x.go .run false with b := 0, fresh := true })
    | none => s
  let s := s.updTp t (fun y => { y with x := 0, testEnd := false, testRef := some (-(s.cfgF (0x3000 + t) 0x17)), testPhase := p })
  s.updTray t (fun x => { x with test := some k, testAt := s.now, testV := (s.link t).vLink })

/-- After the close time in CLOSING, or the open time of a drained tray, the test runs (R103). -/
def testStartEff (t : Nat) (s : State) : State :=
  let x := s.tray t
  if x.test = none ∧ (s.link t).up then
    if x.st = .closing ∧ x.closeAt + s.cfgU (0x3000 + t) 0x15 * ms ≤ s.now then testBegin t .closing s
    else if x.st = .opening ∧ x.openSince = none ∧ x.openAtZero = false ∧
        x.closeAt + s.cfgU (0x3000 + t) 0x16 * 1000 ≤ s.now then testBegin t .opening s
    else s
  else s

/-- K_P is confirmed closed: K_PRE opens, the tray is admitted (R103, R105). -/
def closingPassed (t : Nat) (s : State) : State :=
  let full := !(s.trays.any fun y => decide (y.st = .online ∨ y.st = .drain ∨ y.st = .slack))
  (testOver t s).updTray t (fun x => { x with
    st := .admitting, since := s.now, kPre := false, a := if full then 1 else 0, rampFrom := none
    rampLen := s.cfgU (0x3000 + t) 0x19 * ms, blackStart := false, leftAt := none })

/-- Opening is confirmed or not: K_N opens (R112, R113). -/
def openingTested (t : Nat) (ok : Bool) (s : State) : State :=
  let id := (s.tray t).drainTxn
  let cause := (s.tray t).cause
  let s := drivesLow t (testOver t s)
  if ok then
    let s := finishTxn id (txnElement id 2 (txnElement id 1 s))
    if cause = 0 then s.updTray t (fun x => { x with st := .idle, since := s.now, safe := true, leftAt := none })
    else trayFault t cause s
  else trayFault t 0x0304 (finishTxn id (txnElement id 2 (s.raise 0x0304 t)))

/-- The end of the 1 ms test (R103). -/
def testEndEff (t : Nat) (s : State) : State :=
  let x := s.tray t
  if x.testAt + ms ≤ s.now then
    let rise := (s.link t).vLink - x.testV
    let thr := s.cfgF (0x3000 + t) 0x18
    match x.test with
    | some .closing =>
      if rise < thr then closingPassed t s else trayOpenFault t 0x0302 (s.raise 0x0302 t)
    | some .opening => openingTested t (decide (thr < rise)) s
    | none => s
  else s

/-- The admission factor has reached 1 (R105). -/
def admitCompleteEff (t : Nat) (s : State) : State :=
  if (s.tray t).st = .admitting ∧ (s.tray t).a = 1 then setTray t .online s else s

/-! ### Drain (R111 to R113) -/

/-- States in which command 2 is allowed (Table 4.2). -/
def drainAllowed (s : State) (t : Nat) : Bool :=
  match (s.tray t).st with
  | .precharge | .closing | .admitting | .online | .slack => true
  | _ => false

/-- The ramped limits start at the present current (R111). -/
def rampFromNow (t : Nat) (st : TraySt) (s : State) : State :=
  s.updTray t (fun x => { x with
    st := st, since := s.now, ramp := some (max x.iT 0, max (-x.iT) 0), lD := max x.iT 0, lC := max (-x.iT) 0
    leftAt := none })

/-- The drain itself, its transaction open (Table 4.2). -/
def drainTray (t : Nat) (s : State) : State :=
  let x := s.tray t
  match x.st with
  | .precharge | .closing => trayOpenFault t 0 s
  | .admitting | .online => rampFromNow t .drain s
  | .slack =>
    if x.slack = .rampDown then
      (slackOver t s).updTray t (fun y => { y with st := .drain, since := s.now, ramp := x.ramp, leftAt := none })
    else drainOpen t 0 (slackOver t s)
  | _ => s

/-- A drain under its transaction (R113, R154, R155); a 33rd transaction refuses it whole (R429). -/
def drainWith (ses seq t : Nat) (s : State) : State :=
  if 32 ≤ s.openTxns then
    (if ses < Config.sessions then txnLimit ses (0x3000 + t) 0x02 s else s.raise 0x0002 noInst)
  else
    let s := openTxn 1 (0x3000 + t + 0x020000) t 3 ses seq s
    drainTray t (s.updTray t (fun x => { x with drainTxn := s.txn.highest }))

/-- Sequence of the session's last frame (Table 15.6). -/
def State.seqOf (s : State) (ses : Nat) : Nat :=
  match s.sess[ses]? with
  | some x => x.lastSeq.getD 0
  | none => 0

/-- Command 2 (Table 4.2). -/
def trayDrainEff (ses t : Nat) (s : State) : State :=
  if drainAllowed s t then drainWith ses (s.seqOf ses) t s else s.violate ses (0x3000 + t) 0x02

/-- A drain of the module's own, of a tray in the set that is not draining yet (R155). -/
def moduleDrain (t : Nat) (s : State) : State :=
  if s.inSet t ∧ (s.tray t).st ≠ .drain then drainWith 0xFF 0 t s else s

/-- A drain of the module's own in any state in which command 2 drains (R154). -/
def drainAsCommand (t : Nat) (s : State) : State := if drainAllowed s t then drainWith 0xFF 0 t s else s

/-- Both ramped limits have reached zero: the tray leaves the set (R111, R116). -/
def limitsZeroEff (t : Nat) (s : State) : State :=
  let x := s.tray t
  if x.ramp = some (0, 0) then
    let out := fun (s : State) => { s with alloc := { s.alloc with set := s.alloc.set.set t false } }
    if x.st = .drain ∧ x.leftAt = none then
      openAtZeroCheck t (leavesSet t ((out s).updTray t (fun x => { x with leftAt := some s.now })))
    else if x.st = .slack ∧ x.slack = .rampDown then
      (out s).updTray t (fun x => { x with slack := .resting s.now })
    else s
  else s

/-- 100 ms after leaving the set the current is still above 2.0 A (R112). -/
def drainTimeoutEff (t : Nat) (s : State) : State :=
  let x := s.tray t
  match x.st, x.leftAt with
  | .drain, some a =>
    if a + 100 * ms ≤ s.now ∧ atZero s t = false then drainOpen t 0x0303 (s.raise 0x0303 t) else s
  | _, _ => s

/-- The open time of an opening without a test has passed (R567, Table 4.1). -/
def openingTimeoutEff (t : Nat) (s : State) : State :=
  let x := s.tray t
  match x.st, x.openSince with
  | .opening, some a =>
    if a + s.cfgU (0x3000 + t) 0x16 * 1000 ≤ s.now then
      if x.cause = 0 then
        let s := finishTxn x.drainTxn (txnElement x.drainTxn 2 (txnElement x.drainTxn 0 s))
        s.updTray t (fun x => { x with st := .idle, since := s.now, openSince := none })
      else trayFault t x.cause s
    else s
  | _, _ => s

/-! ### Slack water (R114 to R116) -/

/-- Both feed groups are present. -/
def bothPresent (s : State) : Bool := decide (s.groupSt 0 = .present) && decide (s.groupSt 1 = .present)

/-- Peaks of I_st over the previous 10 s: discharge, charge magnitude (R114). -/
def peakOf (s : State) : Rat × Rat :=
  let top := fun (l : List (Nat × Rat)) =>
    (l.filter fun e => decide (s.now < e.1 + 10 * sec)).foldl (fun a e => max a e.2) 0
  (top s.loop.disPeaks, top s.loop.chgPeaks)

/-- The limits R109 gives without tray t. -/
def limitsWithout (s : State) (t : Nat) : Rat × Rat :=
  let l := ((List.range Config.trays).filter fun u => s.inSet u && decide (u ≠ t)).map s.tray
  (s.alloc.held + sumQ (l.map (·.lD)), sumQ (l.map (·.lC)) - s.alloc.held)

/-- The conditions of R114 for candidate t, but for the enable. -/
def slackConditions (s : State) (t : Nat) : Bool :=
  let busy := s.trays.any fun x =>
    decide (x.st = .admitting ∨ x.st = .drain ∨ x.st = .slack ∨ x.st = .opening ∨ x.st = .pulled)
  let from_ := s.alloc.slackEnd.getD s.alloc.startAt
  let g := s.cfgF 0x3010 0x09
  let lim := limitsWithout s t
  let pk := peakOf s
  decide (s.loop.st = .run) && bothPresent s && !busy && decide ((s.tray t).st = .online) &&
    decide (from_ + s.cfgU 0x3010 0x08 * sec ≤ s.now) && decide (pk.1 * g ≤ lim.1) && decide (pk.2 * g ≤ lim.2)

/-- Slack water begins with the ramp-down of R111. -/
def slackBegin (t : Nat) (s : State) : State :=
  let s := (rampFromNow t .slack s).updTray t (fun x => { x with slack := .rampDown })
  { s with alloc := { s.alloc with slackTray := some t, urgentSince := none } }

/-- The ONLINE tray longest without a rest point (R115); ties to the lowest number. -/
def slackCandidate (s : State) : Option Nat :=
  let better := fun (a b : Nat) => decide ((s.estOf a).restFrom ≤ (s.estOf b).restFrom)
  ((List.range Config.trays).filter fun t => decide ((s.tray t).st = .online)).foldl (fun acc t =>
    match acc with
    | none => some t
    | some b => if better b t then some b else some t) none

/-- The tray manager begins slack water by itself (R114). -/
def slackAutoEff (s : State) : State :=
  match slackCandidate s with
  | some t => if s.cfgU 0x3010 0x06 = 1 ∧ slackConditions s t then slackBegin t s else s
  | none => s

/-- Command 3 (Table 4.2, R114). -/
def traySlackBeginEff (ses t : Nat) (s : State) : State :=
  if slackConditions s t then slackBegin t s else s.violate ses (0x3000 + t) 0x02

/-- Command 4 (Table 4.2, R116). -/
def traySlackEndEff (ses t : Nat) (s : State) : State :=
  if (s.tray t).st = .slack then slackUrgent s else s.violate ses (0x3000 + t) 0x02

/-- The tray has rested for the slack duration (R116). -/
def slackRestEndEff (s : State) : State :=
  match s.alloc.slackTray with
  | some t =>
    match (s.tray t).slack with
    | .resting a =>
      if a + s.cfgU 0x3010 0x07 * sec ≤ s.now then slackReturn t (s.cfgU (0x3000 + t) 0x19 * ms) s else s
    | _ => s
  | none => s

/-- The demand is above 90% of the limit without the resting tray (R116). -/
def urgentDemand (s : State) : Bool :=
  match s.alloc.slackTray with
  | some t =>
    let l := limitsWithout s t
    decide (9 / 10 * l.1 < s.loop.iSt) || decide (9 / 10 * l.2 < -s.loop.iSt)
  | none => false

/-- Since when it is so, as of a control period. -/
def urgentPeriod (t0 : Nat) (s : State) : State :=
  let u := urgentDemand s
  { s with alloc := { s.alloc with urgentSince := if u then some (s.alloc.urgentSince.getD t0) else none } }

/-- For 1 ms (R116). -/
def slackUrgentDemandEff (s : State) : State :=
  match s.alloc.urgentSince with
  | some a => if a + ms ≤ s.now then slackUrgent s else s
  | none => s

/-! ### Reset (R97, R144, R568) -/

/-- The corrected plausibility reading or the main one, whichever protects the cell (R144). -/
def protecting (w : Tow) (c : Nat) : Rat := if bit w.suspect c then get 0 w.plaus c else get 0 w.main c

/-- The clearing conditions of a weir fault (R144). -/
def weirCleared (s : State) (t : Nat) : Bool :=
  let w := s.tow t
  let lo := s.cfgF (0x3100 + t) 0x17
  let hi := s.cfgF (0x3100 + t) 0x18
  !w.weir && decide (w.weirSince + sec ≤ s.now) && decide (10 ≤ w.goodRun) &&
    (List.range (12 * s.cfgU (0x3100 + t) 0x02)).all fun c =>
      decide (lo ≤ protecting w c) && decide (protecting w c ≤ hi)

/-- The cause of a tray's FAULT no longer holds (R97, R568): a welded contactor's never goes while the tray is seated, a
string current above the opening level (0303h) must have gone; a weir line that asserted since has its clearing conditions
(R144), a link lost for 1 s must be up. -/
def causeGone (s : State) (t : Nat) : Bool :=
  let x := s.tray t
  decide (x.cause ≠ 0x0304) && (decide (x.cause ≠ 0x0303) || atZero s t) && (!(x.weirFault || decide (x.cause = 0x0401)) || weirCleared s t) &&
    (!x.linkFault || (s.link t).up)

/-- Command 5 (Table 4.2). -/
def trayResetEff (ses t : Nat) (s : State) : State :=
  let x := s.tray t
  if x.st = .fault ∧ causeGone s t then
    s.updTray t (fun x => { x with
      st := .idle, since := s.now, trayEn := x.pin && !x.pinBlocked, cause := 0, weirFault := false, linkFault := false })
  else s.violate ses (0x3000 + t) 0x02

/-! ### Hot pull and removal (R117 to R121) -/

/-- The pin breaks with a contactor drive high (R117, Table 4.6). -/
def hotPull (t : Nat) (s : State) : State :=
  let x := s.tray t
  let was := s.inSet t
  let s := leavesSet t (testOver t (snubTray t s))
  let s := blackStartFailed t (interruptWrites t 0x0305 (interruptDrain t 0x0305 (s.raise 0x0305 t)))
  let now_ := decide (x.st = .precharge ∨ x.st = .closing ∨ x.st = .slack)
  let s := if now_ then drivesLow t s else s
  let s := s.updTray t (fun x => { x with
    st := .pulled, since := s.now, kPre := false, trayEn := false, pulledInSet := was, openAtZero := x.anyDrive
    openSince := none, leftAt := none, ramp := none, cause := 0x0305, blackStart := false, waitDrive := false })
  { s.updTp t (fun y => { y with check := none }) with alloc := { s.alloc with set := s.alloc.set.set t false } }

/-- A break of the pin pulls the tray (R117, Table 4.6): a drive is high, or the tray is in PRECHARGE or CLOSING, its
drives perhaps still waiting. -/
def Tray.pulls (x : Tray) : Bool := x.anyDrive || decide (x.st = .precharge ∨ x.st = .closing)

/-- The pin breaks with all drives low (R120, Table 4.6): a check that runs is abandoned, since no PROBE goes out from
here on (R118). -/
def removedLow (t : Nat) (s : State) : State :=
  let s := abandonCheck t s
  let s := if (s.tray t).st = .check then setTray t .idle (s.updTp t (fun y => { y with check := none })) else s
  let s := (s.updTray t (fun x => { x with trayEn := false, pinBlocked := true, autoPending := false })).raise 0x0309 t
  if (s.link t).up then s else trayAbsent t s

/-- EARLY_BRK breaks (R117, R119, R120): a check that runs on an ABSENT tray is abandoned, since no PROBE goes out from
here on (R118). -/
def earlyBreakEff (t : Nat) (s : State) : State :=
  let x := s.tray t
  if x.pin = false then s
  else
    let s := s.updTray t (fun x => { x with pin := false, pinSince := s.now })
    if x.st = .absent ∨ x.st = .pulled then abandonCheck t s
    else
      match x.seatLostAt with
      | some a =>
        if x.lostInSet ∧ s.now ≤ a + 10 * ms then unwarned t s
        else if x.pulls then hotPull t s else removedLow t s
      | none => if x.pulls then hotPull t s else removedLow t s

/-- The pin has been made again for 100 ms: command 1 is accepted, TRAY_EN goes high in IDLE (R120). -/
def pinSettle (t : Nat) (s : State) : State :=
  let x := s.tray t
  if x.pinBlocked ∧ x.pin ∧ x.pinSince + 100 * ms ≤ s.now then
    s.updTray t (fun x => { x with pinBlocked := false, trayEn := x.trayEn || decide (x.st = .idle) })
  else s

/-- EARLY_BRK is made (R120): the tray keeps its state, and its ring, silent meanwhile or not, restarts with enumeration
(Table 5.9). -/
def earlyMadeEff (t : Nat) (s : State) : State :=
  if (s.tray t).pin then pinSettle t s
  else
    let s := s.updTray t (fun x => { x with pin := true, pinSince := s.now })
    if (s.tow t).ring = .down then s else ringRestart t s

/-- The link of the seated tray has been lost for 1 s (R121). -/
def seatedLossEff (t : Nat) (s : State) : State :=
  let x := s.tray t
  match x.seatLostAt with
  | some a =>
    if (s.link t).up = false ∧ x.pin ∧ a + sec ≤ s.now ∧ x.st ≠ .absent ∧ x.st ≠ .pulled then
      let cause := if x.st = .fault then x.cause else 0x030A
      let s := (trayFault t cause (interruptDrain t 0x030A (blackStartFailed t s))).raise 0x030A t
      s.updTray t (fun x => { x with seatLostAt := none, linkFault := true })
    else s
  | none => s

/-- What a control period decides for a tray: a pulled tray whose link is lost, a pin made again, drives that wait, the
precharge clocks (Table 4.1, R120, R84, R101). -/
def trayPeriod (t0 t : Nat) (s : State) : State :=
  let x := s.tray t
  if x.st = .pulled ∧ (s.link t).up = false then trayAbsent t s else prechargePeriod t0 t (startDrives t (pinSettle t s))

/-! ### Meanings -/

/-- A command of a session to a tray, by an object of group `base`. -/
def runTray (base sub ses t : Nat) (s : State) (f : State → State) : Host.Outcome State Fault Refusal :=
  runObj ses (base + t) sub (decide (t < Config.trays)) s f

/-- TRAY_INSERT (R98). -/
def execTrayInsert (ses t : Nat) (s : State) : Host.Outcome State Fault Refusal :=
  runTray 0x3000 0x02 ses t s (trayInsertEff ses t)

/-- TRAY_DRAIN (R111). -/
def execTrayDrain (ses t : Nat) (s : State) : Host.Outcome State Fault Refusal :=
  runTray 0x3000 0x02 ses t s (trayDrainEff ses t)

/-- TRAY_SLACK_BEGIN (R114). -/
def execTraySlackBegin (ses t : Nat) (s : State) : Host.Outcome State Fault Refusal :=
  runTray 0x3000 0x02 ses t s (traySlackBeginEff ses t)

/-- TRAY_SLACK_END (R116). -/
def execTraySlackEnd (ses t : Nat) (s : State) : Host.Outcome State Fault Refusal :=
  runTray 0x3000 0x02 ses t s (traySlackEndEff ses t)

/-- TRAY_RESET (R97). -/
def execTrayReset (ses t : Nat) (s : State) : Host.Outcome State Fault Refusal :=
  runTray 0x3000 0x02 ses t s (trayResetEff ses t)

/-- TRAY_SEATED (R96). -/
def execTraySeated (t : Nat) (s : State) : Host.Outcome State Fault Refusal :=
  run (decide (t < Config.trays)) s (traySeatedEff t)

/-- PRECHARGE_TRACK_CHECK (R101). -/
def execPrechargeTrackCheck (t : Nat) (s : State) : Host.Outcome State Fault Refusal :=
  run (decide (t < Config.trays)) s (trackCheckEff t)

/-- PRECHARGE_CLOSURE (R102). -/
def execPrechargeClosure (t : Nat) (s : State) : Host.Outcome State Fault Refusal :=
  run (decide (t < Config.trays)) s (closureEff t)

/-- CONTACTOR_TEST_START (R103). -/
def execContactorTestStart (t : Nat) (s : State) : Host.Outcome State Fault Refusal :=
  run (decide (t < Config.trays)) s (testStartEff t)

/-- CONTAINED_TEST_PASS (R103). -/
def execContainedTestPass (t : Nat) (s : State) : Host.Outcome State Fault Refusal :=
  run (decide (t < Config.trays)) s (testEndEff t)

/-- TRAY_ADMIT_COMPLETE (R105). -/
def execTrayAdmitComplete (t : Nat) (s : State) : Host.Outcome State Fault Refusal :=
  run (decide (t < Config.trays)) s (admitCompleteEff t)

/-- DRAIN_LIMITS_ZERO (R111). -/
def execDrainLimitsZero (t : Nat) (s : State) : Host.Outcome State Fault Refusal :=
  run (decide (t < Config.trays)) s (limitsZeroEff t)

/-- DRAIN_OPEN_TIMEOUT (R112). -/
def execDrainOpenTimeout (t : Nat) (s : State) : Host.Outcome State Fault Refusal :=
  run (decide (t < Config.trays)) s (drainTimeoutEff t)

/-- OPENING_TIMEOUT (R567). -/
def execOpeningTimeout (t : Nat) (s : State) : Host.Outcome State Fault Refusal :=
  run (decide (t < Config.trays)) s (openingTimeoutEff t)

/-- SLACK_AUTO_BEGIN (R114). -/
def execSlackAutoBegin (s : State) : Host.Outcome State Fault Refusal := run true s slackAutoEff

/-- SLACK_REST_END (R116). -/
def execSlackRestEnd (s : State) : Host.Outcome State Fault Refusal := run true s slackRestEndEff

/-- SLACK_URGENT_DEMAND (R116). -/
def execSlackUrgentDemand (s : State) : Host.Outcome State Fault Refusal := run true s slackUrgentDemandEff

/-- EARLY_BREAK_BROKEN (R117). -/
def execEarlyBreakBroken (t : Nat) (s : State) : Host.Outcome State Fault Refusal :=
  run (decide (t < Config.trays)) s (earlyBreakEff t)

/-- EARLY_BREAK_MADE (R120). -/
def execEarlyBreakMade (t : Nat) (s : State) : Host.Outcome State Fault Refusal :=
  run (decide (t < Config.trays)) s (earlyMadeEff t)

/-- SEATED_LINK_LOSS_TIMEOUT (R121). -/
def execSeatedLinkLossTimeout (t : Nat) (s : State) : Host.Outcome State Fault Refusal :=
  run (decide (t < Config.trays)) s (seatedLossEff t)

end Sys2Proof.Machine
end

