-- ==== Sys2Proof/Machine/Estimator.lean ====
section
/-! DEFINITION. The estimator (chapter 06): charge counting, voltage estimates, rest points, limits, energies, health,
the impedance table and its storage. -/

namespace Sys2Proof.Machine

/-! ### Readings (R164) -/

/-- Cells on tray t. -/
def State.nCell (s : State) (t : Nat) : Nat := 12 * s.cfgU (0x3100 + t) 0x02

/-- The sweep of this cycle is a test reading (R151). -/
def Tow.testing (w : Tow) : Bool :=
  match w.test with
  | some x => decide (x.cycle < w.cycle) && decide (w.cycle ≤ x.cycle + 3)
  | none => false

/-- The usable voltage of a cell: plausibility reading of a sense-suspect cell, none for a stale or test reading. -/
def cellV (w : Tow) (c : Nat) : Option Rat :=
  if w.testing then none
  else if bit w.suspect c then (if bit w.validPlaus c then some (get 0 w.plaus c) else none)
  else if bit w.validMain c && !bit w.stale c then some (get 0 w.main c) else none

/-- Temperature of a cell, °C: sensor 0 for local cells 0 to 5, sensor 1 for the others. -/
def cellTemp (w : Tow) (c : Nat) : Rat :=
  (get 0 w.temps (2 * (c / 12) + (if c % 12 < 6 then 0 else 1)) : Rat)

/-! ### OCV table (R167, R169, R175) -/

/-- Point i of the OCV table of tray t, volts. -/
def ocvPoint (tab i : Nat) : Rat := ((tab / 65536 ^ i % 65536 : Nat) : Rat) / 10000

/-- Segment of the table that holds v: the last point not above v, the end segments beyond the table. -/
def ocvSeg (tab : Nat) (v : Rat) : Nat :=
  min 15 (((List.range 17).filter fun i => decide (ocvPoint tab i ≤ v)).length - 1)

/-- SoC_v of an open-circuit voltage and the slope k_c there (R167, R168). -/
def ocvInverse (tab : Nat) (v : Rat) : Rat × Rat :=
  let i := ocvSeg tab v
  let a := ocvPoint tab i
  let d := ocvPoint tab (i + 1) - a
  (clampQ 0 1 (((i : Rat) + (v - a) / d) / 16), 16 * d)

/-- OCV at a state of charge. -/
def ocvAt (tab : Nat) (x : Rat) : Rat :=
  let y := clampQ 0 16 (16 * x)
  let i := min 15 y.floor.toNat
  ocvPoint tab i + (y - (i : Rat)) * (ocvPoint tab (i + 1) - ocvPoint tab i)

/-- Integral of the OCV from a to b, zero when b ≤ a. -/
def ocvIntegral (tab : Nat) (a b : Rat) : Rat :=
  sumQ ((List.range 16).map fun i =>
    let lo := max a ((i : Rat) / 16)
    let hi := min b (((i : Rat) + 1) / 16)
    if lo < hi then (hi - lo) * (ocvAt tab lo + ocvAt tab hi) / 2 else 0)

/-! ### Impedance table (R183, R184) -/

/-- Entry e of tray t: a replaced one, else the seeds with count 0. -/
def impEntry (x : Est) (e : Nat) : ImpEntry :=
  Store.get { rs := x.seed.1, rp := x.seed.2.1, tau := x.seed.2.2, count := 0, at_ := none } x.imp e

/-- Position among centres, as the lower one and the fraction to the next, clamped at the ends. -/
def bracket (centres : List Rat) (x : Rat) : Nat × Rat :=
  let n := centres.length
  let i := min (n - 2) (((centres.filter fun c => decide (c ≤ x)).length) - 1)
  let a := get 0 centres i
  let b := get 0 centres (i + 1)
  (i, clampQ 0 1 ((x - a) / (b - a)))

/-- Temperature centres, °C. -/
def tempCentres : List Rat := [-10, 5, 15, 25, 35, 45]

/-- Centres of the state-of-charge bins. -/
def socCentres : List Rat := (List.range 8).map fun i => (2 * (i : Rat) + 1) / 16

/-- R_s and R_p in Ω and τ_p in s at a state of charge and temperature (R184). -/
def impLookup (x : Est) (c : Nat) (soc temp : Rat) : Rat × Rat × Rat :=
  let i := bracket socCentres soc
  let j := bracket tempCentres temp
  let f := fun (g : ImpEntry → Nat) (u : Rat) =>
    let v := fun (a b : Nat) => (g (impEntry x (48 * c + 6 * a + b)) : Rat)
    u * ((1 - i.2) * ((1 - j.2) * v i.1 j.1 + j.2 * v i.1 (j.1 + 1)) +
      i.2 * ((1 - j.2) * v (i.1 + 1) j.1 + j.2 * v (i.1 + 1) (j.1 + 1)))
  (f (·.rs) (1 / 10000000), f (·.rp) (1 / 10000000), f (·.tau) (1 / 100000))

/-- The temperature centre nearest to a temperature, the lower one on a tie. -/
def nearestTemp (x : Rat) : Nat :=
  let j := bracket tempCentres x
  if j.2 ≤ 1 / 2 then j.1 else j.1 + 1

/-- Entry of a cell's present state of charge and temperature. -/
def impIndex (c : Nat) (soc temp : Rat) : Nat :=
  48 * c + 6 * min 7 (8 * soc).floor.toNat + nearestTemp temp

/-! ### Charge counting in each period (R162, R165, R166) -/

/-- The string current that is counted: measured, or held on a lost link. -/
def countedI (s : State) (t0 t : Nat) : Rat :=
  if (s.link t).up then sumQ ((s.phs t).map fun x => phaseCharge x.i x)
  else stringSide (get 0 s.loop.m t) (heldNow t0 (s.link t))

/-- One control period of tray t: the present I_s; while the link is lost, the counting on the held current (R162). -/
def chargePeriod (t0 t : Nat) (s : State) : State :=
  let i := countedI s t0 t
  let l := s.link t
  let ok := l.up && s.inSet t
  s.updEst t (fun x =>
    let lossNew := decide (l.up = false) && decide (l.lostAt ≠ none) && decide (x.padAt ≠ l.lostAt)
    let above := decide (x.restLevel < absQ i)
    let x := if l.up then x else x.count i t0 1000
    { x with
      iS := i
      pad := if lossNew then x.pad + absQ (stringSide (get 0 s.loop.m t) l.held) * 7 / 1000 else x.pad
      padAt := if lossNew then l.lostAt else x.padAt
      below := if above then none else (match x.below with | some a => some a | none => some t0)
      hist := ((t0, l.vLink, i, ok) :: x.hist).take 26200 })

/-! ### The update (R165 to R182) -/

/-- What one update uses for every cell of a tray. -/
structure UpdateCtx where
  tab : Nat
  /-- Δt in s, ΔQ_s, the numerator of R166's bound. -/
  dt : Rat
  dQ : Rat
  num : Rat
  iS : Rat
  iBleed : Rat
  eps : Rat
  epsPlaus : Rat
  limit : Rat
  rested : Bool
  rated : Rat
deriving DecidableEq, Repr

/-- The cell's counting step (R166). -/
def countCell (u : UpdateCtx) (y : EstCell) : EstCell :=
  let q := u.dQ - u.iBleed * (y.bled : Rat) / 1000000000
  { y with
    q := clampQ 0 1 (y.q - q / (3600 * y.cap)), uq := min 1 (y.uq + u.num / (3600 * y.cap))
    qSince := y.qSince + q, bled := 0 }

/-- The polarisation voltage of the update, whatever the cell's reading (R167). It moves before V_o is formed in the same
update, and a cell without an estimate yet takes its impedances at SoC 0 (log entry 69). -/
def polarCell (u : UpdateCtx) (x : Est) (w : Tow) (c : Nat) (y : EstCell) : EstCell :=
  let z := impLookup x c y.q (cellTemp w c)
  { y with vp := y.vp + (u.iS * z.2.1 - y.vp) * (if z.2.2 = 0 then 1 else 1 - expNeg (u.dt / z.2.2)) }

/-- The voltage-based estimate and its bound (R167, R168). -/
def voltCell (u : UpdateCtx) (x : Est) (w : Tow) (c : Nat) (v : Rat) (y : EstCell) : EstCell :=
  let z := impLookup x c y.q (cellTemp w c)
  let vo := v + u.iS * z.1 + y.vp
  let r := ocvInverse u.tab vo
  let e := if bit w.suspect c then u.epsPlaus else u.eps
  { y with
    vo := vo, sv := r.1, rSum := z.1 + z.2.1
    uv := (e + absQ (u.iS * z.1) / 5 + absQ y.vp / 5) / r.2 + 1 / 500 }

/-- Capacity from two credible resets (R180); true when a measurement is discarded. -/
def capacityStep (y : EstCell) : EstCell × Bool :=
  match y.lastV with
  | some v0 =>
    if absQ (y.sv - v0) < 1 / 5 then (y, false)
    else
      let cm := absQ y.qSince / 3600 / absQ (y.sv - v0)
      if absQ (cm - y.cap) ≤ y.cap / 5 then ({ y with cap := y.cap + (cm - y.cap) / 8 }, false) else (y, true)
  | none => (y, false)

/-- What became of a cell in an update: SoC_q before a reset, reset, out of its bound, capacity measurement
discarded. -/
structure CellOut where
  cell : EstCell
  counted : Rat
  reset : Bool
  outside : Bool
  discard : Bool
deriving DecidableEq, Repr

/-- One cell's update; a cell without an estimate takes its first from its first usable reading (R191). -/
def updateCell (u : UpdateCtx) (x : Est) (w : Tow) (c : Nat) (y : EstCell) : CellOut :=
  if bit w.unreadable c then ⟨{ y with cred := false, bled := 0 }, y.q, false, false, false⟩
  else
    let y := polarCell u x w c (if y.known then countCell u y else { y with cap := u.rated, bled := 0 })
    match cellV w c with
    | none => ⟨{ y with cred := false }, y.q, false, false, false⟩
    | some v =>
      let y := voltCell u x w c v y
      if y.known = false then
        ⟨{ y with q := y.sv, uq := y.uv, fromV := true, known := true, cred := false }, y.sv, false, false, false⟩
      else if u.rested ∧ y.uv ≤ u.limit then
        let out := decide (y.uq + y.uv < absQ (y.sv - y.q))
        let r := capacityStep y
        ⟨{ r.1 with q := y.sv, uq := y.uv, cred := true, bal := true, lastV := some y.sv, qSince := 0 },
          y.q, true, out, r.2⟩
      else ⟨{ y with cred := false }, y.q, false, false, false⟩

/-- Least element of a list by a key, its first occurrence. -/
def argMin {α : Type} (d : α) (key : α → Rat) : List α → α
  | [] => d
  | [a] => a
  | a :: b :: rest =>
    let r := argMin d key (b :: rest)
    if key r < key a then r else a

/-- Limits, energies and displayed values from the cells (R172, R174, R175, R177). A cell whose R_s + R_p is 0, before its
first update or with zero entries, takes I_cr as its limit (log entry 69). -/
def publishEst (s : State) (t : Nat) (x : Est) : Est :=
  let w := s.tow t
  let cfg := fun sub => s.cfgB (0x3200 + t) sub
  let n := s.nCell t
  let tab := s.cfgU (0x3200 + t) 0x16
  let cells := (x.cells.take n).zipIdx
  let live := cells.filter fun e => !bit w.unreadable e.2
  let acc := s.cfgB (0x3100 + t) 0x16
  let dis := fun (e : EstCell × Nat) => if e.1.rSum = 0 then cfg 0x20 else
    min (cfg 0x20) ((e.1.vo - (if bit w.suspect e.2 then acc else 0) - cfg 0x21) / e.1.rSum)
  let chg := fun (e : EstCell × Nat) => if e.1.rSum = 0 then cfg 0x20 else
    min (cfg 0x20) ((cfg 0x22 - (e.1.vo + (if bit w.suspect e.2 then acc else 0))) / e.1.rSum)
  let lo := cfg 0x1E
  let hi := cfg 0x1F
  let sp := fun (y : EstCell) => min y.q y.sv
  let sh := fun (y : EstCell) => max y.q y.sv
  let cs := cells.map (·.1)
  let p := argMin EstCell.reset (fun y => (sp y - lo) * y.cap) cs
  let h := argMin EstCell.reset (fun y => (hi - sh y) * y.cap) cs
  { x with
    soc := if live = [] then x.soc else meanQ (live.map (·.1.q))
    eD := max 0 ((cells.map dis).foldl min (cfg 0x20)), eC := max 0 ((cells.map chg).foldl min (cfg 0x20))
    sp := sp p, bound := (cs.map (·.uq)).foldl max 0
    eU := (n : Rat) * p.cap * ocvIntegral tab lo (sp p) / 1000
    eH := (n : Rat) * h.cap * ocvIntegral tab (sh h) hi / 1000 }

/-- The first condition of R170. -/
def restedFor (s : State) (t : Nat) (x : Est) : Bool :=
  (match x.below with | some a => decide (a + s.cfgU (0x3200 + t) 0x18 * sec ≤ s.now) | none => false) ||
  (match (s.tray t).slack with | .resting a => decide (a + 5 * sec ≤ s.now) | _ => false)

/-- What the update of tray t uses. -/
def updateCtx (s : State) (t : Nat) (x : Est) : UpdateCtx :=
  let cfg := fun sub => s.cfgB (0x3200 + t) sub
  let dt : Rat := match x.lastAt with | some a => ((s.now - a : Nat) : Rat) / 1000000000 | none => 0
  { tab := s.cfgU (0x3200 + t) 0x16, dt := dt, dQ := x.dQ, num := cfg 0x1B * dt + cfg 0x1C * absQ x.dQ + x.pad
    iS := x.iS, iBleed := cfg 0x24, eps := cfg 0x1A, epsPlaus := s.cfgB (0x3100 + t) 0x16, limit := cfg 0x19
    rested := restedFor s t x, rated := cfg 0x25 }

/-- Lowest SoH_C of the tray (R180, R181). -/
def lowestHealth (s : State) (t : Nat) (x : Est) : Rat :=
  let r := s.cfgB (0x3200 + t) 0x25
  if r = 0 then 1 else ((x.cells.take (s.nCell t)).map fun y => y.cap / r).foldl min ((get EstCell.reset x.cells 0).cap / r)

/-- Deep cycles (R182). -/
def deepStep (soc : Rat) (x : Est) : Est :=
  if 3 / 4 < soc then { x with high := true }
  else if soc < 1 / 4 ∧ x.high then { x with high := false, deep := sat32 (x.deep + 1) }
  else x

/-- Blocks written since the last update take effect, before any merge (R190, Table 6.3); entries past the tray's
table stay undone. -/
def applyWrites (t : Nat) (s : State) : State :=
  let l := (s.estOf t).impDue
  let s := l.foldl (fun s e =>
    if e.entry < 48 * s.nCell t then
      txnElement e.id e.element (s.updEst t (fun x => { x with imp := Store.ins e.entry e.val (Store.del x.imp e.entry) }))
    else s) (s.updEst t (fun x => { x with impDue := [] }))
  l.foldl (fun s e => finishTxn e.id s) s

/-- The full update of tray t. -/
def estFull (t : Nat) (s : State) : State :=
  let s := applyWrites t (bleedAccount t s)
  let x := s.estOf t
  let w := s.tow t
  let u := updateCtx s t x
  let n := s.nCell t
  let outs := x.cells.mapIdx fun c y => if c < n then updateCell u x w c y else ⟨y, y.q, false, false, false⟩
  let live := (outs.take n).zipIdx.filter fun e => !bit w.unreadable e.2
  let counted := if live = [] then x.soc else meanQ (live.map (·.1.counted))
  let anyReset := outs.any (·.reset)
  let restPt := anyReset && (outs.mapIdx fun c o =>
    o.reset || decide (n ≤ c) || bit w.suspect c || bit w.unreadable c).all id
  let v := (s.tray t).vStr
  let y := { x with
    cells := outs.map (·.cell), started := true, dQ := 0, dQRest := 0, pad := 0, lastAt := some s.now
    efc := x.efc + max 0 x.dQRest / (3600 * u.rated)
    discarded := sat32 (x.discarded + (outs.filter (·.discard)).length), credNow := restPt
    lastRest := if restPt then some s.now else x.lastRest, restFrom := if restPt then s.now else x.restFrom
    noRest := x.noRest && !restPt
    restLevel := if 0 < v then s.cfgB (0x3200 + t) 0x17 * s.cfgB (0x3000 + t) 0x0A * 1000 / v else x.restLevel }
  let y := publishEst s t y
  let y := deepStep y.soc y
  let wide := decide (1 / 10 < y.bound)
  let worn := decide (lowestHealth s t y < s.cfgB (0x3200 + t) 0x26)
  let y := { y with up502 := wide, up505 := worn }
  let jump := anyReset && decide (s.cfgB (0x3200 + t) 0x23 < absQ (y.soc - counted))
  let s := s.updEst t (fun _ => y)
  let s := when_ jump (fun s => s.raiseWith 0x0503 t (le 8 s.now ++ le 4 (f32Bits counted) ++ le 4 (f32Bits y.soc))) s
  let s := when_ (outs.any (·.outside)) (fun s => s.raise 0x0504 t) s
  let s := when_ (wide && !x.up502) (fun s => s.raise 0x0502 t) s
  let s := when_ restPt (calLinkVoltage t) s
  when_ (worn && !x.up505) (fun s => s.raise 0x0505 t) s

/-- Below the rest level for 1 s: 20 Hz (R165). Before that second has passed the tray stays at the 1 kHz rate (log
entry 69). -/
def estSlow (s : State) (x : Est) : Bool :=
  match x.below with
  | some a => decide (a + sec ≤ s.now)
  | none => false

/-- A published sweep reaches the estimator (R165): an update, or one of the cycles passed over at 20 Hz; none in a void
period of slot 18 (R303, R306, R307). -/
def estimatorUpdateEff (t : Nat) (s : State) : State :=
  if (s.tow t).fresh = false then s
  else
    let s := s.updTow t (fun w => { w with fresh := false })
    if s.fwStopped 18 then s else
    let x := s.estOf t
    let slow := estSlow s x
    let s := s.updEst t (fun x => { x with slow := slow })
    if slow ∧ x.started ∧ x.skip < 49 then s.updEst t (fun x => { x with skip := x.skip + 1 })
    else estFull t (s.updEst t (fun x => { x with skip := 0 }))

/-- 6 h without a rest point in the set (R176). -/
def noRestEff (t : Nat) (s : State) : State :=
  let x := s.estOf t
  if s.inSet t ∧ x.noRest = false ∧ x.restFrom + 21600 * sec ≤ s.now then
    (s.updEst t (fun x => { x with noRest := true })).raise 0x0501 t
  else s

/-! ### Load steps and the fit (R185 to R188) -/

/-- Samples of a closed time window, oldest first. -/
def histWindow (x : Est) (a b : Nat) : List (Nat × Rat × Rat × Bool) :=
  (x.hist.filter fun e => decide (a ≤ e.1) && decide (e.1 ≤ b)).reverse

/-- Sample current at an instant. -/
def histI (x : Est) (a : Nat) : Option Rat := (x.hist.find? fun e => decide (e.1 ≤ a)).map (·.2.2.1)

/-- Every sample of a window lies in the band around a level (R185). -/
def inBand (x : Est) (a b : Nat) (level : Rat) : Bool :=
  (histWindow x a b).all fun e => decide (absQ (e.2.2.1 - level) ≤ max (absQ level / 50) 1)

/-- A step from ta to tb qualifies (R185, Table 6.3). -/
def stepOk (s : State) (t ta tb : Nat) : Option Rat :=
  let x := s.estOf t
  match histI x ta, histI x tb with
  | some a, some b =>
    let whole := (x.hist.any fun e => decide (e.1 + 20 * ms ≤ ta)) && decide (tb + 5 * ms ≤ s.now)
    if ta ≤ tb ∧ tb ≤ ta + 100000 ∧ 20 * ms ≤ ta ∧ whole = true ∧ s.cfgB (0x3300 + t) 0x06 ≤ absQ (b - a) ∧
        inBand x (ta - 20 * ms) ta a = true ∧ inBand x tb (tb + 5 * ms) b = true ∧
        (histWindow x (ta - 20 * ms) (tb + 5 * ms)).all (fun e => e.2.2.2) = true then some (b - a) else none
  | _, _ => none

/-- STEP_QUALIFIED's effect. -/
def stepQualifiedEff (t ta tb : Nat) (s : State) : State :=
  match stepOk s t ta tb with
  | some d => s.updEst t (fun x => { x with step := some ⟨ta, tb, d⟩, qualified := sat32 (x.qualified + 1) })
  | none => s

/-- The samples of R186 with the polarisation regressor for one τ: −I, −x, V. -/
def fitRows (tau : Rat) : List (Nat × Rat × Rat × Bool) → Option Rat → List (Rat × Rat × Rat)
  | [], _ => []
  | e :: rest, prev =>
    let i := e.2.2.1
    let x := match prev with | some p => p | none => i
    let k := 1 - expNeg (1 / 1000000 / tau)
    (-i, -x, e.2.1) :: fitRows tau rest (some (x + (i - x) * k))

/-- Determinant of a 3 × 3 matrix given by rows. -/
def det3 (a b c d e f g h i : Rat) : Rat := a * (e * i - f * h) - b * (d * i - f * g) + c * (d * h - e * g)

/-- Least squares of V = V0 + R_s·(−I) + R_p·(−x): the three values and the residual (R186). -/
def fitSolve (rows : List (Rat × Rat × Rat)) : Option (Rat × Rat × Rat × Rat) :=
  let n : Rat := (rows.length : Rat)
  let s := fun (f : Rat × Rat × Rat → Rat) => sumQ (rows.map f)
  let a := s (·.1)
  let b := s (·.2.1)
  let v := s (·.2.2)
  let aa := s fun r => r.1 * r.1
  let ab := s fun r => r.1 * r.2.1
  let bb := s fun r => r.2.1 * r.2.1
  let av := s fun r => r.1 * r.2.2
  let bv := s fun r => r.2.1 * r.2.2
  let d := det3 n a b a aa ab b ab bb
  if d = 0 then none
  else
    let v0 := det3 v a b av aa ab bv ab bb / d
    let rs := det3 n v b a av ab b bv bb / d
    let rp := det3 n a v a aa av b ab bv / d
    some (v0, rs, rp, s fun r => let e := r.2.2 - v0 - rs * r.1 - rp * r.2.1; e * e)

/-- The best fit over τ from 0.5 ms to 20.0 ms in steps of 0.1 ms: R_s,str, R_p,str, τ in s. -/
def fitBest (w : List (Nat × Rat × Rat × Bool)) : Option (Rat × Rat × Rat) :=
  let all := (List.range 196).filterMap fun k =>
    let tau : Rat := ((k + 5 : Nat) : Rat) / 10000
    (fitSolve (fitRows tau w none)).map fun r => (r.2.2.2, r.2.1, r.2.2.1, tau)
  match all with
  | [] => none
  | a :: rest => some (rest.foldl (fun b e => if e.1 < b.1 then e else b) a).2

/-- Sample instant of a cell in a kept sweep, by its end. -/
def sweepAt (r : SweepRec) (c : Nat) : Nat := if bit r.endFlags c then r.atS else r.atN

/-- Charge counted between two instants, A·s: the microseconds that end after the first and not after the second. -/
def chargeBetween (x : Est) (a b : Nat) : Rat := sumQ ((histWindow x (a + 1) b).map fun e => e.2.2.1) / 1000000

/-- Raw value of a measurement, rounded to nearest. -/
def toRaw (x scale : Rat) : Nat := min 65535 (roundEven (x * scale)).toNat

/-- x ← x + (x_m − x) ÷ n, rounded to nearest (R187). -/
def mergeField (x m n : Nat) : Nat := (roundEven ((x : Rat) + ((m : Rat) - (x : Rat)) / (n : Rat))).toNat

/-- A measurement merged into an entry (R187). -/
def mergeEntry (now : Nat) (m : Nat × Nat × Nat) (e : ImpEntry) : ImpEntry :=
  let n := min (e.count + 1) 16
  { rs := mergeField e.rs m.1 n, rp := mergeField e.rp m.2.1 n, tau := mergeField e.tau m.2.2 n
    count := min 255 (e.count + 1), at_ := some (now : Int) }

/-- One cell's measurement from a fitted step: the entry it merges into, or none where it is rejected (R187, R188). -/
def cellMeasure (s : State) (t : Nat) (x : Est) (st : StepFit) (fit : Rat × Rat × Rat) (pre post : SweepRec) (c : Nat) :
    Option (Nat × (Nat × Nat × Nat)) :=
  let w := s.tow t
  let y := get EstCell.reset x.cells c
  let ts : Rat := ((st.ta + st.tb : Nat) : Rat) / 2
  let dl := (((sweepAt post c : Nat) : Rat) - ts) / 1000000000
  let q := chargeBetween x (sweepAt pre c) (sweepAt post c)
  let k := (ocvInverse (s.cfgU (0x3200 + t) 0x16) y.vo).2
  let dOcv := -(k * q / (3600 * y.cap))
  let rc := -((get 0 post.main c - get 0 pre.main c - dOcv) / st.dI)
  let rStr := fit.1 + fit.2.1 * (1 - expNeg (dl / fit.2.2))
  let idx := impIndex c y.q (cellTemp w c)
  let e := impEntry x idx
  let tau : Rat := (e.tau : Rat) / 100000
  let re := ((e.rs : Rat) + (e.rp : Rat) * (if tau = 0 then 1 else 1 - expNeg (dl / tau))) / 10000000
  let bad := bit w.suspect c || bit w.unreadable c || !bit pre.ok c || !bit post.ok c ||
    (bit pre.bleeding c != bit post.bleeding c) || decide (rc < re / 5) || decide (5 * re < rc) || decide (rStr = 0)
  if bad then none
  else some (idx, toRaw (rc * fit.1 / rStr) 10000000, toRaw (rc * fit.2.1 / rStr) 10000000, toRaw fit.2.2 100000)

/-- The fit of the qualified step, and the merges (R186 to R188); the fit of a void period gives nothing (R303, R307). -/
def impedanceFitEff (t : Nat) (s : State) : State :=
  let x := s.estOf t
  match x.step with
  | none => s
  | some st =>
    let s := s.updEst t (fun x => { x with step := none })
    if s.fwStopped 18 then s else
    let s := applyWrites t s
    let x := s.estOf t
    match fitBest (histWindow x (st.ta - ms) (st.tb + 5 * ms)) with
    | none => s
    | some fit =>
      let s := s.updEst t (fun x => { x with fit := fit })
      let ts2 := st.ta + st.tb
      if s.cfgU (0x3300 + t) 0x05 = 0 then s
      else
        (List.range (s.nCell t)).foldl (fun s c =>
          let pre := x.sweeps.find? fun r => decide (sweepAt r c < st.ta)
          let post := x.sweeps.find? fun r =>
            decide (ts2 + 2 * ms ≤ 2 * sweepAt r c) && decide (2 * sweepAt r c ≤ ts2 + 4 * ms)
          match pre, post with
          | some a, some b =>
            (match cellMeasure s t x st fit a b c with
             | some m => s.updEst t (fun x => { x with
                 lastMerge := s.now
                 imp := Store.ins m.1 (mergeEntry s.now m.2 (impEntry x m.1)) (Store.del x.imp m.1) })
             | none => s.updEst t (fun x => { x with rejected := sat32 (x.rejected + 1) }))
          | _, _ => s) s

/-! ### Storage, the window, seeds (R189 to R192) -/

/-- Save the impedance tables (R189). -/
def impSaveAll (s : State) : State :=
  { s with est := s.est.map fun x => { x with
    impSave := some { seed := x.seed, imp := x.imp, at_ := s.now, clk := b2n s.clk.ever } } }

/-- The hourly save. -/
def impedanceTableSaveEff (ok : Bool) (s : State) : State := if ok then impSaveAll s else s.raise 0x0506 noInst

/-- Save tray t's state (R189). -/
def estSave (t : Nat) (s : State) : State :=
  s.updEst t (fun x => { x with save := some {
    cells := x.cells, efc := x.efc, deep := x.deep, high := x.high, rest := x.lastRest, at_ := s.now
    clk := b2n s.clk.ever } })

/-- The save of every 60 s. -/
def stateSaveEff (ok : Bool) (s : State) : State := if ok then forTrays estSave s else s.raise 0x0506 noInst

/-- Command 1 of [3200+t.28]. -/
def stateSaveNowEff (t : Nat) (ok : Bool) (s : State) : State := if ok then estSave t s else s.raise 0x0506 t

/-- Command 2 of [3300+t.0B]. -/
def impedanceSaveNowEff (t : Nat) (ok : Bool) (s : State) : State := if ok then impSaveAll s else s.raise 0x0506 t

/-- The seeds of Table 6.7 in raw units. -/
def seedsOf (s : State) (t : Nat) : Nat × Nat × Nat :=
  let f := fun sub => s.cfgB (0x3300 + t) sub
  (toRaw (f 0x0C) 10000, toRaw (f 0x0D) 10000, toRaw (f 0x0E) 100)

/-- Every entry of tray t back to the seeds, count 0 (Table 6.7, R192). -/
def resetSeeds (t : Nat) (s : State) : State :=
  let z := seedsOf s t
  s.updEst t (fun x => { x with seed := z, imp := [] })

/-- The tray is new (R192, R513). -/
def newTray (t : Nat) (s : State) : State :=
  let rated := s.cfgB (0x3200 + t) 0x25
  calUnverify t (((resetSeeds t s).updEst t (fun x => { x with
    cells := x.cells.map fun y => { y with cap := rated, bal := false, lastV := none, qSince := 0, known := false }
    efc := 0, deep := 0, high := false, started := false })).raise 0x0507 t)

/-- An entry of a block (Table 6.2). -/
def impParse (now : Nat) (d : Bytes) : ImpEntry :=
  { rs := u16At d 0, rp := u16At d 2, tau := u16At d 4, count := u8At d 6
    at_ := some ((now : Int) - (u8At d 7 : Int) * 86400000000000) }

/-- A tray has no update to come: it is not there, or its ring is down. -/
def State.noUpdates (s : State) (t : Nat) : Bool :=
  decide ((s.tow t).ring = .down) || decide ((s.tray t).st = .absent) || decide ((s.tray t).st = .pulled)

/-- A block written to [3300+t.04] (R190): its entries wait for the tray's next update; with none to come the write is cut
short at once (log entry 69). -/
def impedanceBlockEff (ses seq t offset : Nat) (data : Bytes) (s : State) : State :=
  let first := s.win ses (0x3300 + t) 0x03 + offset / 8
  let n := data.length / 8
  if data = [] ∨ data.length % 8 ≠ 0 ∨ offset % 8 ≠ 0 ∨ 8192 < offset + data.length ∨ 48 * s.nCell t < first + n then
    s.violate ses (0x3300 + t) 0x04
  else if 32 ≤ s.openTxns then txnLimit ses (0x3300 + t) 0x04 s
  else
    let s := openTxn 2 (0x3300 + t + 0x040000) first n ses seq s
    let id := s.txn.highest
    let l := (List.range n).map fun i =>
      ({ id := id, element := i, entry := first + i, val := impParse s.now (slice data (8 * i) 8) } : ImpWrite)
    let s := s.updEst t (fun x => { x with writeTxn := id, impDue := x.impDue ++ l })
    if s.noUpdates t then interruptWrites t 0 s else s

/-! ### Start (R191) -/

/-- Days of self-discharge since a save, in ns × rate: every bound widens. -/
def widenCells (rate : Rat) (ns : Nat) (l : List EstCell) : List EstCell :=
  let w := rate * (ns : Rat) / 86400000000000
  l.map fun y => { y with uq := min 1 (y.uq + w) }

/-- The times of a save and of now are on one scale: shelf time had been LOCKED at both (R191). -/
def sameScale (s : State) (at_ clk : Nat) : Bool := decide (clk = 1) && s.clk.ever && decide (at_ ≤ s.now)

/-- The saved impedance table at a start, its ages gone on by the time since the save: 30 days where that cannot be
known, as R191 takes it for the bounds (log entry 69). -/
def impLoad (s : State) (t : Nat) (x : Est) : (Nat × Nat × Nat) × List (Nat × ImpEntry) :=
  match x.impSave with
  | some v =>
    let move : Int := if sameScale s v.at_ v.clk then 0 else (s.now : Int) - v.at_ - 30 * 86400 * sec
    (v.seed, v.imp.map fun e => (e.1, { e.2 with at_ := e.2.at_.map (· + move) }))
  | none => (seedsOf s t, [])

/-- Load the saved state of tray t at a start (R191). A last rest point on another time scale does not count for the
6 hours of R176, which then run from the start. The last reset of a cell and the charge since it are part of the save, so
that one capacity measurement of R180 can span a start (log entry 69). -/
def estStart (t : Nat) (s : State) : State :=
  let rate := s.cfgB (0x3200 + t) 0x1D
  let x := s.estOf t
  let imp := impLoad s t x
  let rated := s.cfgB (0x3200 + t) 0x25
  let base := { Est.reset with
    save := x.save, impSave := x.impSave, seed := imp.1, imp := imp.2, bleedFrom := s.now, restFrom := s.now
    cells := List.replicate 192 { EstCell.reset with cap := rated } }
  match x.save with
  | some v =>
    let known := sameScale s v.at_ v.clk
    let ns := if known then s.now - v.at_ else 30 * 86400 * sec
    let cells := (widenCells rate ns v.cells).map fun y => { y with cred := false, bal := false, bled := 0 }
    s.updEst t (fun _ => { base with
      started := true, cells := cells, efc := v.efc, deep := v.deep, high := v.high, lastRest := v.rest
      restFrom := if known then v.rest.getD s.now else s.now
      widen := if v.clk = 1 ∧ known = false then some v.at_ else none })
  | none => s.updEst t (fun _ => base)

/-- Shelf time first reaches LOCKED after a start that took 30 days (R191). -/
def estLocked (t : Nat) (s : State) : State :=
  let rate := s.cfgB (0x3200 + t) 0x1D
  s.updEst t (fun x => match x.widen with
    | some a => { x with
        widen := none
        cells := if a + 30 * 86400 * sec < s.now then widenCells rate (s.now - a - 30 * 86400 * sec) x.cells else x.cells }
    | none => x)

/-! ### Meanings -/

/-- ESTIMATOR_UPDATE (R165). -/
def execEstimatorUpdate (t : Nat) (s : State) : Host.Outcome State Fault Refusal :=
  run (decide (t < Config.trays)) s (estimatorUpdateEff t)

/-- NO_REST_NOTICE (R176). -/
def execNoRestNotice (t : Nat) (s : State) : Host.Outcome State Fault Refusal :=
  run (decide (t < Config.trays)) s (noRestEff t)

/-- STEP_QUALIFIED (R185). -/
def execStepQualified (t ta tb : Nat) (s : State) : Host.Outcome State Fault Refusal :=
  run (decide (t < Config.trays)) s (stepQualifiedEff t ta tb)

/-- IMPEDANCE_FIT (R186). -/
def execImpedanceFit (t : Nat) (s : State) : Host.Outcome State Fault Refusal :=
  run (decide (t < Config.trays)) s (impedanceFitEff t)

/-- IMPEDANCE_TABLE_SAVE (R189). -/
def execImpedanceTableSave (ok : Bool) (s : State) : Host.Outcome State Fault Refusal :=
  run true s (impedanceTableSaveEff ok)

/-- ESTIMATOR_STATE_SAVE (R189). -/
def execEstimatorStateSave (ok : Bool) (s : State) : Host.Outcome State Fault Refusal := run true s (stateSaveEff ok)

/-- STATE_SAVE_NOW (R189). -/
def execStateSaveNow (ses t : Nat) (ok : Bool) (s : State) : Host.Outcome State Fault Refusal :=
  runTray 0x3200 0x28 ses t s (stateSaveNowEff t ok)

/-- IMPEDANCE_RESET_SEEDS (R192, Table 6.7). -/
def execImpedanceResetSeeds (ses t : Nat) (s : State) : Host.Outcome State Fault Refusal :=
  runTray 0x3300 0x0B ses t s (resetSeeds t)

/-- IMPEDANCE_SAVE_NOW (R189). -/
def execImpedanceSaveNow (ses t : Nat) (ok : Bool) (s : State) : Host.Outcome State Fault Refusal :=
  runTray 0x3300 0x0B ses t s (impedanceSaveNowEff t ok)

/-- IMPEDANCE_BLOCK_WRITE (R190). -/
def execImpedanceBlockWrite (ses seq t offset : Nat) (data : Bytes) (s : State) : Host.Outcome State Fault Refusal :=
  runTray 0x3300 0x04 ses t s (impedanceBlockEff ses seq t offset data)

end Sys2Proof.Machine
end

