-- ==== Sys2Proof/Machine/Feeds.lean ====
section
/-! DEFINITION. The feed interface (chapter 09): draw reference, groups, rectifier frames, auxiliary feeds. -/

namespace Sys2Proof.Machine

/-! ### Shelf values of the estimator ([3210]) -/

/-- Trays in ADMIT, ONLINE or SLACK. -/
def State.shelfTrays (s : State) : List Nat :=
  (List.range Config.trays).filter fun t => match (s.tray t).st with
    | .admitting | .online | .slack => true
    | _ => false

/-- Shelf usable discharge energy [3210.01], kWh. -/
def State.shelfEu (s : State) : Rat := sumQ (s.shelfTrays.map fun t => (s.estOf t).eU)

/-- Shelf charge headroom [3210.03], kWh. -/
def State.shelfEh (s : State) : Rat := sumQ (s.shelfTrays.map fun t => (s.estOf t).eH)

/-- Shelf displayed SoC [3210.02]: each tray weighted by its rated charge. -/
def State.shelfSoc (s : State) : Rat :=
  let w := fun t => s.cfgB (0x3200 + t) 0x25 * (s.nCell t : Rat)
  let sw := sumQ (s.shelfTrays.map w)
  if sw = 0 then 0 else sumQ (s.shelfTrays.map fun t => w t * (s.estOf t).soc) / sw

/-! ### Capacity (R265) -/

/-- A rectifier that counts in its group's available power. -/
def State.rectIn (s : State) (r : Nat) : Bool := (s.rect r).code == 1 && (s.rect r).ok

/-- Available power of group g, kW. -/
def State.groupAvail (s : State) (g : Nat) : Rat :=
  if (s.group g).portDown then 0 else sumQ (((groupRects g).filter s.rectIn).map fun r => (s.rect r).avail)

/-- K_g; a ceiling above the available power counts as that (log entry 36). -/
def State.groupK (s : State) (g : Nat) : Rat :=
  match s.groupSt g with
  | .present => s.groupAvail g
  | .returning => min (s.group g).ceiling (s.groupAvail g)
  | _ => 0

/-- ΣK. -/
def State.sumK (s : State) : Rat := s.groupK 0 + s.groupK 1

/-! ### Groups (R272 to R274) -/

/-- Both groups outside PRESENT and RETURNING: 0803h at its onset (R273). -/
def feedsAbsentCheck (s : State) : State :=
  let b := s.bothAbsent
  let s' := { s with feed := { s.feed with both := b } }
  if b && !s.feed.both then s'.raise 0x0803 noInst else s'

/-- A group enters a state of Table 9.4 (R273, R274). -/
def groupGo (g : Nat) (st : GroupSt) (s : State) : State :=
  let s := s.updGroup g (fun x =>
    { x with st := st, since := s.now, back := none, ceiling := if st = .present then x.ceiling else 0 })
  let s := match st with
    | .dip => zeroGroup g (s.raise 0x0801 (0x100 + g))
    | .absent => s.raise 0x0802 (0x100 + g)
    | .present => s.raise 0x0804 (0x100 + g)
    | _ => s
  feedsAbsentCheck s

/-- Input lost: rectifiers holding at least half of the enabled available power report input not OK (R272). A
rectifier is weighed by the power it last reported with its input OK (log entry 37). -/
def State.inputLost (s : State) (g : Nat) : Bool :=
  let xs := ((groupRects g).map s.rect).filter fun x => x.code == 1
  let tot := sumQ (xs.map (·.availOk))
  let bad := sumQ ((xs.filter fun x => !x.ok).map (·.availOk))
  decide (tot ≤ 2 * bad)

/-- A group after its rectifiers' input states changed (Table 9.4). While its port has failed nothing is known of them: the
group leaves ΣK until the port is good again, and no input is lost or back (Table 9.6). -/
def groupEval (g : Nat) (s : State) : State :=
  let x := s.group g
  let lost := s.inputLost g
  if x.portDown then s else
  match x.st with
  | .present | .returning => if lost then leavesFeed (groupGo g .dip s) else s
  | .dip => if lost = false ∧ s.now < x.since + s.cfgU 0x3400 0x0A * ms then groupGo g .returning s else s
  | .absent =>
    if lost then s.updGroup g (fun x => { x with back := none })
    else if x.back = none then s.updGroup g (fun x => { x with back := some s.now }) else s
  | .disabled => s
where
  /-- A lost group ends slack water urgently (R116). -/
  leavesFeed (s : State) : State := slackUrgent s

/-- The group enables as written (Table 9.4, R261); with no group enabled both feeds are absent (R273). -/
def groupEnables (s : State) : State :=
  feedsAbsentCheck <| [0, 1].foldl (fun s g =>
    let on := bit (s.cfgU 0x3400 0x02) g
    if on = false ∧ s.groupSt g ≠ .disabled then
      (if s.groupUp g then slackUrgent (groupGo g .disabled s) else groupGo g .disabled s)
    else if on ∧ s.groupSt g = .disabled then groupEval g (groupGo g .absent s)
    else s) s

/-! ### The draw reference (R265 to R271) -/

/-- P_avg: mean rack load over W_f; 0 before any step. -/
def State.loadMean (s : State) (ns : Nat) : Rat :=
  meanQ ((s.feed.load.takeWhile fun e => decide (s.now < e.1 + ns)).map (·.2))

/-- P_rec of R240, kW. -/
def State.pRec (s : State) : Rat :=
  (s.cfgB 0x5000 0x08 - s.shelfSoc) * s.cfgB 0x5000 0x0D * 3600 / (s.cfgU 0x5000 0x0A : Rat)

/-- P_soc (R271). -/
def State.formPsoc (s : State) : Rat :=
  let soc := s.shelfSoc
  let lim := s.cfgB 0x3400 0x09
  let v :=
    if s.gov.st = .ride then 0
    else if soc < s.cfgB 0x5000 0x08 then
      (if s.cfgU 0x5000 0x07 = 0 then s.pRec else max 0 (s.pRec - s.gov.trim * s.gov.fHi))
    else if s.cfgB 0x5000 0x09 < soc then
      -((soc - s.cfgB 0x5000 0x09) * s.cfgB 0x5000 0x0D * 3600 / (s.cfgU 0x5000 0x0A : Rat))
    else 0
  clampQ (-lim) lim v

/-- K_d of the parts that left group g's sum since the last refresh (R266); a group that returned since then has left
it too. -/
def departed (s : State) (g : Nat) : Rat :=
  let x := s.group g
  let anew := decide (x.st = .returning) && s.feed.refreshAt.any fun a => decide (a < x.since)
  if !s.groupUp g || x.portDown || anew then x.lastK
  else min x.lastK (sumQ ((x.members.filter fun m => !s.rectIn m.1).map (·.2)))

/-- P_ref after what left the capacity sum (R266). -/
def pRefAfterLoss (s : State) : Rat :=
  let kd := departed s 0 + departed s 1
  let before := (s.group 0).lastK + (s.group 1).lastK
  if 0 < kd ∧ 0 < before then min (s.feed.pRef - s.feed.pRef * kd / before) s.sumK else s.feed.pRef

/-- The ramp of P_ref (R265 to R267). -/
def pRefMove (s : State) (p tgt : Rat) : Rat :=
  let x := s.feed
  let ov := s.cfgStep 0x3400 0x08 1000
  let up := if 0 < x.periods ∧ x.periods < 10 * x.satPos then ov else s.cfgStep 0x3400 0x06 1000
  let down := if 0 < x.periods ∧ x.periods < 10 * x.satNeg then ov else s.cfgStep 0x3400 0x07 1000
  let q := if p < tgt then min tgt (p + up) else max tgt (p - down)
  if s.groupSt 0 = .dip ∨ s.groupSt 1 = .dip then min q p else q

/-- Current commands of a refresh (R268, R270). -/
def commandsOf (s : State) : List Rat :=
  let v := s.loop.vBus
  let sk := s.sumK
  let total := fun (l : List Nat) => sumQ (l.map fun r => (s.rect r).avail)
  match s.loop.st with
  | .soft | .run | .hold => (List.range Config.rectifiers).map fun r =>
    let a := s.groupAvail (r / 24)
    if s.rectIn r ∧ 0 < s.groupK (r / 24) ∧ 0 < a ∧ 0 < v then
      s.feed.pRef * s.groupK (r / 24) / sk * (s.rect r).avail / a * 1000 / v
    else 0
  | .charge =>
    let inn := (List.range Config.rectifiers).filter fun r =>
      s.rectIn r && s.groupUp (r / 24) && !(s.group (r / 24)).portDown
    (List.range Config.rectifiers).map fun r =>
      if inn.contains r ∧ 0 < total inn ∧ v < s.cfgB 0x2000 0x2B then
        s.cfgB 0x2000 0x2A * (s.rect r).avail / total inn
      else 0
  | _ => List.replicate Config.rectifiers 0

/-- P_ref and P_tgt of a refresh; both zero outside SOFT, RUN and HOLD (log entry 38). -/
def pRefStep (s : State) : State :=
  let soc := s.formPsoc
  let x := s.feed
  match s.loop.st with
  | .soft | .run | .hold =>
    let tgt := clampQ 0 s.sumK (s.loadMean (s.cfgU 0x3400 0x05 * sec) + soc)
    let ovr := decide (0 < x.periods) && (decide (x.periods < 10 * x.satPos) || decide (x.periods < 10 * x.satNeg))
    let s' := { s with feed := { x with
      pSoc := soc, pTgt := tgt, pRef := pRefMove s (pRefAfterLoss s) tgt, override := ovr,
      overrides := if ovr then sat32 (x.overrides + 1) else x.overrides } }
    if ovr && !x.override then s'.raise 0x0808 noInst else s'
  | _ => { s with feed := { x with pSoc := soc, pTgt := 0, pRef := 0, override := false } }

/-- FEED_REFRESH (R265 to R271, R274): ceilings, P_ref, commands, the COMMAND frames; none while the feed interface's
stage is void, restarting or on a failed core (R303, R306, R307). -/
def feedRefreshEff (s : State) : State :=
  if s.now % ms ≠ 0 ∨ s.feed.refreshAt = some s.now ∨ s.drives = false ∨ s.fwStopped 20 = true then s else
    let s := [0, 1].foldl (fun s g => if s.groupSt g = .returning then
      s.updGroup g (fun x => { x with ceiling := x.ceiling + s.cfgStep 0x3400 0x0C 1000 }) else s) s
    let s := pRefStep s
    let cs := commandsOf s
    let s := (List.range Config.rectifiers).foldl (fun a r => a.updRect r (fun x => x.command s.now (get 0 cs r))) s
    let tot := sumQ cs
    let s := { s with feed := { s.feed with
      slope := (tot - s.feed.sumC) / 1000, sumC := tot, refreshAt := some s.now, periods := 0, satPos := 0
      satNeg := 0 } }
    let s := [0, 1].foldl (fun s g =>
      let k := s.groupK g
      let m := if s.groupUp g then ((groupRects g).filter s.rectIn).map fun r => (r, (s.rect r).avail) else []
      s.updGroup g (fun x => { x with lastK := k, members := m })) s
    sendCommand 1 false (sendCommand 0 false s)

/-- The feed interface's part of a control period: I_rect, and the count of R267. -/
def feedPeriod (t0 : Nat) (s : State) : State :=
  let x := s.feed
  { s with feed := { x with
    iRect := sumQ (x.rects.map fun r => r.iHat t0), periods := x.periods + 1
    satPos := if s.loop.sat = 1 then x.satPos + 1 else x.satPos
    satNeg := if s.loop.sat = -1 then x.satNeg + 1 else x.satNeg } }

/-! ### Frames from rectifiers -/

/-- The rectifier of a node on a port (R261). -/
def rectOf (port node : Nat) : Nat := 24 * port + node - 1

/-- ALERT (Table 9.2). -/
def rectAlertEff (port node : Nat) (data : Bytes) (s : State) : State :=
  let r := rectOf port node
  if data.length ≠ 8 then s else
    match u8At data 0 with
    | 1 | 2 => groupEval port (s.updRect r (fun x => { x with ok := false }))
    | 3 => s.raise 0x0807 r
    | 4 => groupEval port (s.updRect r (fun x => { x with ok := true }))
    | _ => s

/-- A STATUS frame's readings; î_r is replaced by the reported current (R269). -/
def rectReadings (d : Bytes) (now : Nat) (x : Rect) : Rect :=
  let a : Rat := (u16At d 8 : Rat) / 100
  let i : Rat := (i16At d 0 : Rat) / 100
  let okNow := bit (u8At d 11) 0
  { x with
    iOut := i, vOut := (u16At d 2 : Rat) / 64, vIn := (u16At d 4 : Rat) / 10, freq := (u16At d 6 : Rat) / 100
    avail := a, availOk := if okNow then a else x.availOk, temp := signed 8 (u8At d 10), flags := u8At d 11
    ok := okNow, applied := u8At d 12, statusAt := now, seen := true, silent := false, base := i, baseAt := now }

/-- A STATUS frame on a port that had failed (Table 9.6). -/
def portGood (g : Nat) (s : State) : State :=
  let x := s.group g
  if x.portDown = false then s
  else if x.good + 1 < 10 then s.updGroup g (fun x => { x with good := x.good + 1 })
  else
    let s := s.updGroup g (fun x => { x with portDown := false, good := 0 })
    if s.groupUp g then groupGo g .returning s else s

/-- STATUS (R264, R269). -/
def rectStatusEff (port node : Nat) (data : Bytes) (s : State) : State :=
  let r := rectOf port node
  if data.length ≠ 16 then s else
    let old := s.rect r
    let s := s.updRect r (rectReadings data s.now)
    let s := if old.seen then s else readMode r s
    let s := when_ (bit (u8At data 11) 4 && !bit old.flags 4) (fun s => s.raise 0x0807 r) s
    groupEval port (portGood port s)

/-- CONFIG_REPLY (R264): the value read of register 0001h alone decides. -/
def rectConfigEff (port node : Nat) (data : Bytes) (s : State) : State :=
  let r := rectOf port node
  if data.length ≠ 8 ∨ u16At data 0 ≠ 1 ∨ u16At data 2 ≠ 0 then s
  else if u32At data 4 = 1 then groupEval port (s.updRect r (fun x => { x with mode := some true }))
  else (groupEval port (s.updRect r (fun x => { x with mode := some false }))).raise 0x0806 r

/-- No STATUS for 12 ms (R264). -/
def rectSilentEff (r : Nat) (s : State) : State :=
  let x := s.rect r
  if x.seen ∧ x.silent = false ∧ x.statusAt + 12 * ms ≤ s.now then
    (groupEval (r / 24) (s.updRect r (fun x => { x with silent := true }))).raise 0x0805 r
  else s

/-- The dip hold has run out (Table 9.4). -/
def dipHoldEff (g : Nat) (s : State) : State :=
  if s.groupSt g = .dip ∧ (s.group g).since + s.cfgU 0x3400 0x0A * ms ≤ s.now then groupEval g (groupGo g .absent s)
  else s

/-- The return delay has run out (R274). -/
def returnDelayEff (g : Nat) (s : State) : State :=
  match s.groupSt g, (s.group g).back with
  | .absent, some a =>
    if a + s.cfgU 0x3400 0x0B * sec ≤ s.now ∧ (s.group g).portDown = false then groupGo g .returning s else s
  | _, _ => s

/-- The ceiling has reached the available power (R273). -/
def returnCompleteEff (g : Nat) (s : State) : State :=
  let a := s.groupAvail g
  if s.groupSt g = .returning ∧ 0 < a ∧ a ≤ (s.group g).ceiling then
    groupGo g .present (s.updGroup g (fun x => { x with ceiling := a }))
  else s

/-- A CAN port goes bus-off or error-passive (Table 9.6). -/
def canErrorEff (port : Nat) (s : State) : State :=
  let was := (s.group port).portDown
  let s := s.updGroup port (fun x => { x with portDown := true, good := 0, back := none })
  if was then s else s.raise 0x080B (0x200 + port)

/-- Both auxiliary feeds, in 0.01 V (R276), and the counts of R549 and R550. -/
def auxEff (a b : Nat) (s : State) : State :=
  let out := fun (v : Nat) => decide (v < 4000) || decide (6000 < v)
  let run := [a, b].mapIdx fun i v => if out v && s.running then get 0 s.feed.auxRun i + 1 else 0
  let low := decide (a < 4000) && decide (b < 4000)
  let good := [a, b].mapIdx fun i v => if 4200 ≤ v then some ((get none s.hw.feedGood i).getD s.now) else none
  { s with
    feed := { s.feed with aux := [a, b], auxRun := run }
    hw := { s.hw with
      lowCount := if low then s.hw.lowCount + 1 else 0, feedGood := good } }

/-- The warnings of R276. -/
def auxWarn (s : State) : State :=
  [0, 1].foldl (fun s i => if get 0 s.feed.auxRun i = 10 then s.raise 0x0809 (0x300 + i) else s) s

/-- Command 1 of [3400.01]. -/
def feedClearEff (s : State) : State := { s with feed := { s.feed with overrides := 0 } }

/-- Command 2 of [3400.01]: every rectifier that has sent STATUS. -/
def rereadEff (s : State) : State :=
  ((List.range Config.rectifiers).filter fun r => (s.rect r).seen).foldl (fun s r => readMode r s) s

/-! ### Meanings -/

/-- FEED_REFRESH (R265). -/
def execFeedRefresh (s : State) : Host.Outcome State Fault Refusal := run true s feedRefreshEff

/-- A port and a node that exist (R261). -/
def okPN (port node : Nat) : Bool := decide (port < 2) && decide (1 ≤ node) && decide (node ≤ 24)

/-- RECT_ALERT (R272). -/
def execRectAlert (port node : Nat) (data : Bytes) (s : State) : Host.Outcome State Fault Refusal :=
  run (okPN port node) s (rectAlertEff port node data)

/-- RECT_STATUS (R264). -/
def execRectStatus (port node : Nat) (data : Bytes) (s : State) : Host.Outcome State Fault Refusal :=
  run (okPN port node) s (rectStatusEff port node data)

/-- RECT_CONFIG_REPLY (R264). -/
def execRectConfigReply (port node : Nat) (data : Bytes) (s : State) : Host.Outcome State Fault Refusal :=
  run (okPN port node) s (rectConfigEff port node data)

/-- RECT_SILENT (R264). -/
def execRectSilent (r : Nat) (s : State) : Host.Outcome State Fault Refusal :=
  run (decide (r < Config.rectifiers)) s (rectSilentEff r)

/-- DIP_HOLD_EXPIRY (R272). -/
def execDipHoldExpiry (g : Nat) (s : State) : Host.Outcome State Fault Refusal := run (decide (g < 2)) s (dipHoldEff g)

/-- RETURN_DELAY_EXPIRY (R274). -/
def execReturnDelayExpiry (g : Nat) (s : State) : Host.Outcome State Fault Refusal :=
  run (decide (g < 2)) s (returnDelayEff g)

/-- RETURN_COMPLETE (R273). -/
def execReturnComplete (g : Nat) (s : State) : Host.Outcome State Fault Refusal :=
  run (decide (g < 2)) s (returnCompleteEff g)

/-- CAN_PORT_ERROR (R275). -/
def execCanPortError (port : Nat) (s : State) : Host.Outcome State Fault Refusal :=
  run (decide (port < 2)) s (canErrorEff port)

/-- FEED_CLEAR_COUNTERS (R280). -/
def execFeedClearCounters (ses : Nat) (s : State) : Host.Outcome State Fault Refusal :=
  run (decide (ses < Config.sessions)) s feedClearEff

/-- REREAD_RECT_MODES (R264): every rectifier that has sent STATUS. -/
def execRereadRectModes (ses : Nat) (s : State) : Host.Outcome State Fault Refusal :=
  run (decide (ses < Config.sessions)) s rereadEff

/-- AUX_FEED_MEASURE (R276). While no firmware runs the reading still decides about the restart (R550). -/
def execAuxFeedMeasure (a b : Nat) (s : State) : Host.Outcome State Fault Refusal :=
  runIf true true s (fun s => if s.hw.phase = .firmware then auxWarn (auxEff a b s) else auxEff a b s)

end Sys2Proof.Machine
end

