-- ==== Sys2Proof/Machine/Container.lean ====
section
/-! DEFINITION. The program container (Tables 12.3 to 12.7): its fields, the cost of its stages, the loader's checks
(R351). -/

namespace Sys2Proof.Machine

/-- A stage entry (Table 12.4). -/
structure StageDef where
  core : Nat
  flags : Nat
  firstOp : Nat
  ops : Nat
  source : Nat
  cycles : Nat
  waits : Nat
deriving DecidableEq, Repr

/-- A channel entry (Table 12.5). -/
structure ChanDef where
  id : Nat
  consumer : Nat
  kind : Nat
  producer : Nat
  fmt : Nat
  count : Nat
deriving DecidableEq, Repr

/-- A core entry: its SRAM image and the state within it, in bytes. -/
structure CoreDef where
  image : Bytes
  stateAt : Nat
  stateLen : Nat
deriving DecidableEq, Repr

/-- An operator word (Table 12.6). -/
structure Op where
  code : Nat
  /-- Bits [7:3] of byte 1. -/
  reserved : Nat
  fmt : Nat
  norm : Bool
  e : Int
  n : Nat
  a : Nat
  b : Nat
  d : Nat
  s : Nat
  arg1 : Nat
  arg2 : Nat
deriving DecidableEq, Repr

/-- The header fields and tables of a container. -/
structure Program where
  flags : Nat
  length : Nat
  width : Nat
  height : Nat
  /-- 0 event-driven, 1 every 1 µs, 2 every 10 µs, 3 every 1 ms, 4 keeper call only. -/
  period : Nat
  stages : List StageDef
  chans : List ChanDef
  /-- Gate blocks: gates and mode. -/
  gates : List (Nat × Nat)
  cores : List CoreDef
  descriptor : Bytes
  crc : Nat
deriving DecidableEq, Repr

/-- The operator at a byte address of a core's SRAM. -/
def parseOp (w : Bytes) : Op :=
  let o := u8At w 1
  { code := u8At w 0, reserved := o / 8, fmt := o % 4, norm := bit o 2, e := signed 8 (u8At w 2), n := u8At w 3
    a := u16At w 4, b := u16At w 6, d := u16At w 8, s := u16At w 10, arg1 := u16At w 12, arg2 := u16At w 14 }

/-- Stage i of the table at an offset. -/
def parseStage (c : Bytes) (off i : Nat) : StageDef :=
  let w := slice c (off + 16 * i) 16
  { core := u8At w 0, flags := u8At w 1, firstOp := u16At w 2, ops := u16At w 4, source := u16At w 6
    cycles := u32At w 8, waits := u16At w 12 }

/-- Channel i. -/
def parseChan (c : Bytes) (off i : Nat) : ChanDef :=
  let w := slice c (off + 8 * i) 8
  { id := u16At w 0, consumer := u8At w 2, kind := u8At w 3, producer := u8At w 4, fmt := u8At w 5, count := u8At w 6 }

/-- Core j. -/
def parseCore (c : Bytes) (off j : Nat) : CoreDef :=
  let w := slice c (off + 16 * j) 16
  { image := slice c (u32At w 0) (u32At w 4), stateAt := 8 * u16At w 8, stateLen := 8 * u16At w 10 }

/-- A container's program. -/
def parseProgram (c : Bytes) : Program :=
  let w := u8At c 12
  let h := u8At c 13
  { flags := u16At c 6, length := u32At c 8, width := w, height := h, period := u8At c 16
    stages := (List.range (u8At c 14)).map (parseStage c (u32At c 20))
    chans := (List.range (u8At c 15)).map (parseChan c (u32At c 24))
    gates := (List.range (u8At c 17)).map fun i => (u16At c (u32At c 28 + 4 * i), u8At c (u32At c 28 + 4 * i + 2))
    cores := (List.range (w * h)).map (parseCore c (u32At c 32))
    descriptor := if bit (u16At c 6) 1 then slice c (u32At c 36) (u32At c 40) else []
    crc := u32At c 60 }

/-- Operator k of a stage, in its core's image. -/
def Program.op (p : Program) (st : StageDef) (k : Nat) : Op :=
  let c := p.cores.getD st.core ⟨[], 0, 0⟩
  parseOp (slice c.image (8 * st.firstOp + 16 * k) 16)

/-- The operators of a stage. -/
def Program.opsOf (p : Program) (st : StageDef) : List Op := (List.range st.ops).map (p.op st)

/-- The channel of a number. -/
def Program.chan (p : Program) (id : Nat) : Option ChanDef := p.chans.find? fun c => c.id == id

/-- Flits of a block of a channel, header included; a RAW channel sends the operator's n units of 8 bytes (log
entry 42). -/
def chanFlits (c : ChanDef) (n : Nat) : Nat :=
  let bytes := if c.fmt = 0 then 8 * n else blockLen c.fmt c.count
  1 + (bytes + 15) / 16

/-- An operator writes a block at an address (Table 12.7): its output at D, or SAT its sign block. -/
def Op.writes (o : Op) (addr : Nat) : Bool :=
  ((decide (1 ≤ o.code) && decide (o.code ≤ 8) || o.code == 0x0A) && o.d == addr) ||
    (o.code == 7 && o.arg2 != 0 && o.arg2 == addr)

/-- Format of the block at an address before operator k: that of the last earlier operator that writes it, else the
one its core's image holds there. -/
def Program.fmtAt (p : Program) (st : StageDef) (k addr : Nat) : Nat :=
  match (((p.opsOf st).take k).reverse.find? fun o => o.writes addr) with
  | some o => if o.code = 0x0A then ((p.chan o.arg1).map (·.fmt)).getD 3 else o.fmt
  | none => u8At (slice (p.cores.getD st.core ⟨[], 0, 0⟩).image (8 * addr) 4) 1

/-- Cycles of operator k of a stage (Table 12.7). -/
def Program.opCycles (p : Program) (st : StageDef) (k : Nat) : Nat :=
  let o := p.op st k
  let l := match p.fmtAt st k o.a with
    | 1 => 64
    | 2 => 32
    | _ => 16
  let g := (o.n + l - 1) / l
  let f := chanFlits ((p.chan o.arg1).getD ⟨0, 0, 0, 0, 0, 0⟩) o.n
  match o.code with
  | 0x01 => 6 + 5 * g
  | 0x02 => 8 + 4 * g
  | 0x03 => 4 + o.arg1 * g
  | 0x04 => 4 + o.arg1 * g
  | 0x05 => 3 + g
  | 0x06 => 4 + 2 * o.n
  | 0x07 => 3 + g
  | 0x08 => 3 + g
  | 0x09 => 2 + f
  | 0x0A => 2 + f
  | 0x0D => 1
  | _ => 3

/-- Cycles of a firing (R351). -/
def Program.cost (p : Program) (st : StageDef) : Nat :=
  (List.range st.ops).foldl (fun a k => a + p.opCycles st k) 12

/-- An operator the loader accepts: a known opcode, reserved bits zero, addresses within 256 KiB. PID and SAT have one
more address in an argument (Table 12.7). -/
def opOk (o : Op) : Bool :=
  let more := if o.code = 0x02 then o.arg1 else if o.code = 0x07 then o.arg2 else 0
  decide (1 ≤ o.code) && decide (o.code ≤ 0x0D) && o.reserved == 0 && decide (more < 32768) && decide (o.a < 32768) &&
    decide (o.b < 32768) && decide (o.d < 32768) && decide (o.s < 32768)

/-- A channel has the producer and the consumer its kind asks for, and keeps the stage order (R348). -/
def chanOk (p : Program) (c : ChanDef) : Bool :=
  let n := p.stages.length
  let prod := decide (c.producer < n)
  let cons := decide (c.consumer < n)
  match c.kind with
  | 0 => prod && cons && decide (c.producer < c.consumer)
  | 1 => prod && cons
  | 2 => cons && c.producer == 0xFF
  | 3 => prod && c.consumer == 0xFF
  | 4 => cons && c.producer == 0xFF
  | 5 => (cons && c.producer == 0xFF) || (prod && c.consumer == 0xFF)
  | _ => false

/-- The CRC of a container, its own field taken as zero. -/
def containerCrc (c : Bytes) : Nat := crc32c (patch c 60 [0, 0, 0, 0])

/-- Reserved bytes of the header and of the tables are zero. -/
def reservedOk (c : Bytes) (p : Program) : Bool :=
  decide (p.flags < 8) && u16At c 18 == 0 && (slice c 44 16).all (· == 0) &&
    (List.range p.stages.length).all (fun i => u16At c (u32At c 20 + 16 * i + 14) == 0 &&
      decide (u8At c (u32At c 20 + 16 * i + 1) < 8)) &&
    (List.range p.chans.length).all (fun i => u8At c (u32At c 24 + 8 * i + 7) == 0) &&
    (List.range p.gates.length).all (fun i => u8At c (u32At c 28 + 4 * i + 3) == 0) &&
    (List.range p.cores.length).all (fun j => u32At c (u32At c 32 + 16 * j + 12) == 0)

/-- The counts of the header lie in their ranges, and a descriptor that flag [1] announces lies in the container (Table
12.3). -/
def countsOk (c : Bytes) (p : Program) : Bool :=
  decide (1 ≤ p.width) && decide (p.width ≤ 8) && decide (1 ≤ p.height) && decide (p.height ≤ 8) &&
    decide (1 ≤ p.stages.length) && decide (p.stages.length ≤ 64) && decide (1 ≤ p.chans.length) &&
    decide (p.period ≤ 4) && decide (p.gates.length ≤ 4) &&
    p.gates.all (fun g => decide (1 ≤ g.1) && decide (g.1 ≤ 1024) && decide (g.2 ≤ 3)) &&
    decide (p.length = c.length) &&
    p.cores.all (fun x => decide (x.image.length ≤ 262144) && decide (x.stateAt + x.stateLen ≤ 262144)) &&
    (!bit p.flags 1 || (decide (0 < u32At c 40) && decide (u32At c 36 + u32At c 40 ≤ c.length)))

/-- The descriptor is one the forecaster accepts (R212, Table 7.4). -/
def tideDescOk (d : Bytes) (maxCores : Nat) : Bool :=
  slice d 0 4 == [0x54, 0x49, 0x44, 0x45] && u16At d 4 == 1 && u16At d 6 == 4 && u16At d 8 == 2240 &&
    u16At d 10 == 200 && u16At d 12 == 10 && u16At d 14 == 200 && decide (u32At d 16 ≤ 12000) &&
    decide (u8At d 20 ≤ maxCores)

/-- A container says that it carries a tide descriptor: flag [1] of its header (Table 12.3). -/
def tideContainer (c : Bytes) : Bool := bit (u16At c 6) 1

/-- The loader's checks of a container for a free slot (R351), its descriptor apart. -/
def containerOk (c : Bytes) : Bool :=
  let p := parseProgram c
  decide (64 ≤ c.length) && slice c 0 4 == [0x53, 0x54, 0x47, 0x50] && u16At c 4 == 1 && containerCrc c == p.crc &&
    countsOk c p && reservedOk c p && !bit p.flags 0 &&
    p.stages.all (fun st => decide (st.core < p.cores.length) && decide (1 ≤ st.ops) && decide (st.ops ≤ 4096) &&
      decide (st.firstOp + 2 * st.ops ≤ 32768) &&
      (p.opsOf st).all opOk && st.cycles == p.cost st) &&
    p.chans.all (chanOk p) && decide ((p.chans.map (·.id)).eraseDups.length = p.chans.length)

end Sys2Proof.Machine
end

