-- ==== Sys2Proof/Machine/Mesh.lean ====
section
/-! DEFINITION. The mesh (R283 to R289): barges, sequences, acknowledgement, the send buffers. A barge sent stands in
`State.tx`; its arrival is a command of its own. -/

namespace Sys2Proof.Machine

/-- A barge as read (Table 10.3). -/
structure Barge where
  dst : Nat
  src : Nat
  kind : Nat
  flits : Nat
  slot : Nat
  channel : Nat
  seq : Nat
  tag : Nat
  payload : Bytes
deriving DecidableEq, Repr

/-- The bytes of a barge: header, payload filled to whole flits, CRC over all with its field zero. -/
def bargeBytes (x : Barge) : Bytes :=
  let n := 1 + (x.payload.length + 15) / 16
  let h := le 1 x.dst ++ le 1 x.src ++ le 1 (16 * x.kind + (n - 1)) ++ le 1 x.slot ++ le 2 x.channel ++ le 2 x.seq ++
    le 4 x.tag
  let b := padTo (16 * (n - 1)) x.payload
  h ++ le 4 (crc32c (h ++ le 4 0 ++ b)) ++ b

/-- A barge's header and payload; none where the header is unreadable (R286). -/
def parseBarge (b : Bytes) : Option Barge :=
  let n := u8At b 2 % 16 + 1
  if 16 ≤ b.length ∧ b.length = 16 * n then
    some { dst := u8At b 0, src := u8At b 1, kind := u8At b 2 / 16, flits := n, slot := u8At b 3, channel := u16At b 4
           seq := u16At b 6, tag := u32At b 8, payload := b.drop 16 }
  else none

/-- The CRC of a barge holds (R286). -/
def bargeCrcOk (b : Bytes) : Bool := crc32c (patch b 12 [0, 0, 0, 0]) == u32At b 12

/-- Sequence state of a pair of endpoints. -/
def State.pairSeq (s : State) (src dst : Nat) : PairSeq :=
  (s.grid.pairs.find? fun p => p.src == src && p.dst == dst).getD
    { src := src, dst := dst, next := 0, expect := 0, held := [] }

/-- Change it. -/
def State.setPair (s : State) (p : PairSeq) : State :=
  { s with grid := { s.grid with pairs := (s.grid.pairs.filter fun q => !(q.src == p.src && q.dst == p.dst)) ++ [p] } }

/-- Entries of a source's send buffer: barges sent and not acknowledged (R287, Table 10.1). -/
def State.inBuffer (s : State) (src : Nat) : Nat :=
  (s.grid.unacked.filter fun u => u.src == src && decide (0 < u.sends)).length

/-- One more barge sent [6000.07]. -/
def countSent (s : State) : State := { s with grid := { s.grid with sent := s.grid.sent + 1 } }

/-- Send a barge that needs acknowledgement; it waits while its source's buffer holds 16 (R287, R289). -/
def sendBarge (src dst kind slot channel tag : Nat) (payload : Bytes) (s : State) : State :=
  let p := s.pairSeq src dst
  let f := bargeBytes { dst := dst, src := src, kind := kind, flits := 0, slot := slot, channel := channel
                        seq := p.next, tag := tag, payload := payload }
  let go := decide (s.inBuffer src < 16)
  let u : Unacked := { src := src, dst := dst, seq := p.next, frame := f, sends := if go then 1 else 0, at_ := s.now }
  let s := s.setPair { p with next := (p.next + 1) % 65536 }
  let s := { s with grid := { s.grid with unacked := s.grid.unacked ++ [u] } }
  if go then countSent (s.send (.barge f)) else s

/-- Send bytes in RAW barges of at most 240 (R285). -/
def sendRaw (src dst slot channel tag : Nat) : Nat → Bytes → State → State
  | 0, _, s => s
  | n + 1, b, s =>
    let s := sendBarge src dst 1 slot channel tag (b.take 240) s
    if b.length ≤ 240 then s else sendRaw src dst slot channel tag n (b.drop 240) s

/-- Send a block or bytes of a channel: RAW bytes in as many barges as they need. -/
def sendBlock (src dst kind slot channel tag : Nat) (data : Bytes) (s : State) : State :=
  if kind = 1 then sendRaw src dst slot channel tag (data.length + 1) data s
  else sendBarge src dst kind slot channel tag data s

/-- A barge of kind ACK or NAK for a sequence (R286). -/
def ackBarge (kind : Nat) (x : Barge) (s : State) : State :=
  let b : Barge := {
    dst := x.src, src := x.dst, kind := kind, flits := 0, slot := 0xFF, channel := 0, seq := x.seq, tag := 0, payload := [] }
  countSent (s.send (.barge (bargeBytes b)))

/-- The first barge of a source that waits for room is sent (R289). -/
def releaseStall (src : Nat) (s : State) : State :=
  match s.grid.unacked.find? fun u => u.src == src && u.sends == 0 with
  | some u =>
    if s.inBuffer src < 16 then
      countSent (({ s with grid := { s.grid with unacked := s.grid.unacked.map fun v =>
          if v = u then { v with sends := 1, at_ := s.now } else v } } : State).send (.barge u.frame))
    else s
  | none => s

/-- An ACK frees the entry (R287). -/
def ackArrived (x : Barge) (s : State) : State :=
  let keep := s.grid.unacked.filter fun u => !(u.src == x.dst && u.dst == x.src && u.seq == x.seq && decide (0 < u.sends))
  releaseStall x.dst { s with grid := { s.grid with unacked := keep } }

/-- One more resend counted; warning 0908h above 1,000 in 1 s. -/
def countRetry (s : State) : State :=
  let times := (s.now :: s.grid.retryTimes.filter fun a => decide (s.now < a + sec)).take 1001
  let many := decide (1000 < times.length)
  let up := s.grid.up908
  let s := { s with grid := { s.grid with retries := s.grid.retries + 1, retryTimes := times, up908 := many } }
  when_ (many && !up) (fun s => s.raise 0x0908 noInst) s

/-- Resend an entry (R287). -/
def resend (u : Unacked) (s : State) : State :=
  countRetry (({ s with grid := { s.grid with unacked := s.grid.unacked.map fun v =>
    if v = u then { v with sends := v.sends + 1, at_ := s.now } else v } }).send (.barge u.frame))

/-- An entry that was sent. -/
def State.findUnacked (s : State) (src dst seq : Nat) : Option Unacked :=
  s.grid.unacked.find? fun u => u.src == src && u.dst == dst && u.seq == seq && decide (0 < u.sends)

/-- What is to be delivered when a barge arrives with its CRC intact, in order (R288): the barge, and those held
behind it. -/
def takeHeld : Nat → Nat → List (Nat × Bytes) → List Bytes × Nat × List (Nat × Bytes)
  | 0, e, held => ([], e, held)
  | n + 1, e, held =>
    match held.find? fun h => h.1 == e with
    | some h =>
      let r := takeHeld n ((e + 1) % 65536) (held.filter fun k => k.1 != e)
      (h.2 :: r.1, r.2.1, r.2.2)
    | none => ([], e, held)

/-- Sequence handling at the destination (R288): the barges to deliver now. -/
def sequence (b : Bytes) (x : Barge) (s : State) : List Bytes × State :=
  let p := s.pairSeq x.src x.dst
  let ahead := (x.seq + 65536 - p.expect) % 65536
  if 32768 ≤ ahead then ([], s)
  else
    let held := if p.held.any fun h => h.1 == x.seq then p.held else p.held ++ [(x.seq, b)]
    let r := takeHeld (held.length + 1) p.expect held
    (r.1, s.setPair { p with expect := r.2.1, held := r.2.2 })

end Sys2Proof.Machine
end

