-- ==== Sys2Proof/Machine/Gates.lean ====
section
/-! DEFINITION. The gate array (chapter 11): operations, modes, waits, allocation. -/

namespace Sys2Proof.Machine

/-! ### Gates and blocks -/

/-- The block a gate lies in. -/
def Gates.blockOf (x : Gates) (g : Nat) : Option GateBlock :=
  x.blocks.find? fun b => decide (b.base ≤ g) && decide (g < b.base + b.n) && !b.holes.contains g

/-- A gate as allocated: gates 0 to 2047 belong to the firmware (R327); the governor's take drain signals (R328). -/
def Gates.fresh (x : Gates) (g : Nat) : Gate :=
  if g < 2048 then { Gate.free with kind := 1 } else
    match x.blockOf g with
    | some b => { Gate.free with mode := b.mode, kind := b.kind, owner := b.owner, drain := decide (b.kind = 2) }
    | none => Gate.free

/-- Gate g. -/
def State.gate (s : State) (g : Nat) : Gate := Store.get (s.gates.fresh g) s.gates.gates g

/-- Write gate g. -/
def State.setGate (s : State) (g : Nat) (x : Gate) : State :=
  { s with gates := { s.gates with gates := Store.set (s.gates.fresh g) s.gates.gates g x } }

/-- The party is firmware: the lock-keeper and the programs of slots 0 to 23, the governor among them (R345). -/
def fromFirmware : Party → Bool
  | .keeper _ => true
  | .governor _ => true
  | .grid _ slot => decide (slot < 24)
  | .session _ => false
  | .drain => false

/-- The party is the gate's owner (Table 11.1); gates of the firmware are every firmware program's (R327). -/
def Gate.ownedBy (x : Gate) : Party → Bool
  | .keeper _ => x.kind == 1
  | .governor _ => x.kind == 1 || x.kind == 2
  | .grid _ slot => (x.kind == 1 && decide (slot < 24)) || (x.kind == 3 && x.owner == slot)
  | .session n => x.kind == 4 && x.owner == n
  | .drain => false

/-- The core whose wait registers a party uses: grid cores 0–63, keeper cores 64–67. -/
def coreOf : Party → Option Nat
  | .keeper c => some c
  | .governor c => some c
  | .grid c _ => some c
  | _ => none

/-- Wait registers of a core (R322). -/
def waitRegs (core : Nat) : Nat := if core < 64 then 8 else 16

/-- The lowest free wait register of a core. -/
def State.freeReg (s : State) (core : Nat) : Option Nat :=
  let used := (s.gates.waits.filter fun w => w.core == core).map (·.reg)
  (List.range (waitRegs core)).find? fun i => !used.contains i

/-! ### Refusals (R316) -/

/-- A refused operation: counted, nothing else changes; a session's is also its violation; 0A02h above 1,000 in 1 s. -/
def refuseOp (who : Party) (s : State) : State :=
  let x := s.gates
  let times := (s.now :: x.refTimes.filter fun a => decide (s.now < a + sec)).take 1001
  let many := decide (1000 < times.length)
  let s := { s with gates := { x with refused := sat32 (x.refused + 1), refTimes := times, upRef := many } }
  let s := when_ (many && !x.upRef) (fun s => s.raise 0x0A02 noInst) s
  match who with
  | .session n => s.violate n 0x6800 0x05
  | _ => s

/-! ### Waits and releases (R320 to R323) -/

/-- A wait's condition holds (Table 11.4). -/
def Gate.meets (x : Gate) (v : Nat) : Bool :=
  match x.mode with
  | 0 => decide (v ≤ x.count)
  | 1 => x.barrier == 2
  | 2 => decide (0 < x.count)
  | _ => x.count == 1

/-- The gate is reached: its routed source is high (Table 11.4). -/
def Gate.reached (x : Gate) : Bool :=
  match x.mode with
  | 0 => decide (x.target ≤ x.count)
  | 1 => x.barrier == 2
  | 2 => decide (0 < x.count)
  | _ => x.count == 1

/-- The block that releases a grid core's wait: both halves of v, then the status, as whole numbers (R323). -/
def releaseBlock (v : Nat) (status : Int) : Block :=
  { e := 23, fmt := 3, sat := false, m := [((v / 65536 : Nat) : Int), ((v % 65536 : Nat) : Int), status] }

/-- Release one wait with its status (R323): a keeper core's into its wait register, with its gate interrupt, a grid
core's by a DATA barge from endpoint 70. -/
def releaseWait (w : GateWait) (status : Int) (s : State) : State :=
  let x := s.gates
  let s := { s with gates := { x with waits := x.waits.filter (fun y => y != w) } }
  if 64 ≤ w.core then
    let k := 16 * (w.core - 64) + w.reg
    ({ s with gates := { s.gates with keeper := upd x.keeper k (fun _ => (w.v, status)) } }).send
      (.gateInterrupt w.core w.reg)
  else sendBarge 70 w.core 0 w.slot w.channel w.tag (blockBytes (releaseBlock w.v status)) s

/-- Release every wait of a gate that can be: a token each in order of arrival, else together (R321). -/
def settleGate (g : Nat) (s : State) : State :=
  (s.gates.waits.filter fun w => w.g == g).foldl (fun s w =>
    let x := s.gate g
    if x.meets w.v then
      releaseWait w 1 (if x.mode = 2 then s.setGate g { x with count := x.count - 1 } else s)
    else s) s

/-- Waits on a gate that is freed end with element 2 = 0 (R329). -/
def freeWaits (g : Nat) (s : State) : State :=
  (s.gates.waits.filter fun w => w.g == g).foldl (fun s w => releaseWait w 0 s) s

/-- Waits of a slot restarted or of a core failed go without a release (Table 11.10). -/
def dropWaits (p : GateWait → Bool) (s : State) : State :=
  { s with gates := { s.gates with waits := s.gates.waits.filter fun w => !p w } }

/-! ### Operations (Table 11.3) -/

/-- A barrier that its count has reached is RELEASED, its generation one on (R320). -/
def Gate.tryRelease (x : Gate) : Gate :=
  if x.mode = 1 ∧ x.barrier = 1 ∧ x.target ≤ x.count then { x with barrier := 2, gen := (x.gen + 1) % 65536 } else x

/-- A count moved on by n, held at FFFFFFFFh with flag [4] (R319). -/
def Gate.add (x : Gate) (n : Nat) : Gate :=
  if 0xFFFFFFFF < x.count + n then { x with count := 0xFFFFFFFF, sat := true } else { x with count := x.count + n }

/-- SIGNAL n on a gate (Table 11.4); none: refused. -/
def Gate.signal (x : Gate) (n : Nat) : Option Gate :=
  match x.mode with
  | 0 => some (x.add n)
  | 1 => if x.barrier = 1 then some (x.add n).tryRelease else none
  | 2 => some { x with count := min (x.count + n) x.target }
  | _ => some { x with count := 1 }

/-- Tokens that a SIGNAL finds no room for (Table 11.4). -/
def Gate.excess (x : Gate) (n : Nat) : Nat := if x.mode = 2 then x.count + n - x.target else 0

/-- The party may SIGNAL: the owner, or the drain on gates with flag [5]. -/
def Gate.maySignal (x : Gate) (who : Party) : Bool :=
  x.ownedBy who || (who == .drain && x.drain && x.kind != 0)

/-- SIGNAL (R318, R319). -/
def gateSignalEff (who : Party) (g n : Nat) (s : State) : State :=
  let x := s.gate g
  if x.maySignal who = false ∨ n = 0 then refuseOp who s else
    match x.signal n with
    | none => refuseOp who s
    | some y =>
      let s := s.setGate g y
      let s := { s with gates := { s.gates with
        excess := sat32 (s.gates.excess + x.excess n)
        drains := if who = .drain then s.gates.drains + 1 else s.gates.drains } }
      settleGate g (when_ (y.sat && !x.sat) (fun s => s.raise 0x0A01 g) s)

/-- WAIT (R321, R322): any party with a core on gates 2048 to 65535, the firmware on all. -/
def gateWaitEff (who : Party) (g v slot channel tag : Nat) (s : State) : State :=
  let x := s.gate g
  let allowed := x.kind != 0 && (decide (2048 ≤ g) || fromFirmware who)
  match coreOf who with
  | none => refuseOp who s
  | some core =>
    match s.freeReg core with
    | none => refuseOp who s
    | some reg =>
      if allowed then
        let w : GateWait := { who := who, core := core, reg := reg, g := g, v := v, slot := slot, channel := channel
                              tag := tag }
        settleGate g { s with gates := { s.gates with waits := s.gates.waits ++ [w] } }
      else refuseOp who s

/-- ARM (R317, R320). -/
def gateArmEff (who : Party) (g target : Nat) (s : State) : State :=
  let x := s.gate g
  if x.ownedBy who then
    let y := { x with count := 0, target := target, sat := false, gen := (x.gen + 1) % 65536
                      barrier := if x.mode = 1 then 1 else x.barrier }
    settleGate g (s.setGate g y.tryRelease)
  else refuseOp who s

/-- ADJUST (R320). A target that leaves U32 is not stated: a free value (log entry 2). -/
def gateAdjustEff (who : Party) (g : Nat) (delta : Int) (s : State) : State :=
  let x := s.gate g
  if x.ownedBy who then
    let t := (x.target : Int) + delta
    if 0 ≤ t ∧ t < 4294967296 then settleGate g (s.setGate g { x with target := t.toNat }.tryRelease)
    else
      let v := Config.freeNat s.freeCount % 4294967296
      settleGate g (({ s with freeCount := s.freeCount + 1 }).setGate g { x with target := v }.tryRelease)
  else refuseOp who s

/-- CLEAR (Table 11.4). -/
def gateClearEff (who : Party) (g : Nat) (s : State) : State :=
  let x := s.gate g
  if x.ownedBy who then
    settleGate g (s.setGate g { x with count := 0, sat := false, barrier := if x.mode = 1 then 0 else x.barrier })
  else refuseOp who s

/-- CANCEL (Table 11.3): the sender's waits on the gate end with element 2 = −1. -/
def gateCancelEff (who : Party) (g : Nat) (s : State) : State :=
  let ws := s.gates.waits.filter fun w => w.g == g && w.who == who
  if ws = [] ∨ (s.gate g).kind = 0 then refuseOp who s else ws.foldl (fun s w => releaseWait w (-1) s) s

/-- The gate that drives a source; none: the source is low (R330). -/
def State.routedGate (s : State) (src : Nat) : Option (Nat × Gate) :=
  if src = 0 then none else s.gates.gates.find? fun e => e.2.route == src

/-- ROUTE is allowed: a source 384–1023 that no other gate drives, or 0 (R330). -/
def State.routeFree (s : State) (g src : Nat) : Bool :=
  src == 0 || (decide (384 ≤ src) && decide (src < 1024) &&
    (match s.routedGate src with | some e => e.1 == g | none => true))

/-- ROUTE (R330). -/
def gateRouteEff (who : Party) (g src : Nat) (s : State) : State :=
  let x := s.gate g
  if x.ownedBy who ∧ s.routeFree g src then s.setGate g { x with route := src } else refuseOp who s

/-! ### Allocation (R327 to R329) -/

/-- The intervals of taken gates, rising: blocks without their holes. -/
def GateBlock.intervals (b : GateBlock) : List (Nat × Nat) :=
  if b.holes = [] then [(b.base, b.n)]
  else ((List.range b.n).filter fun i => !b.holes.contains (b.base + i)).map fun i => (b.base + i, 1)

/-- Free intervals between taken ones, from gate `at_` on. -/
def freeRuns : Nat → List (Nat × Nat) → List (Nat × Nat)
  | at_, [] => if at_ < 65536 then [(at_, 65536 - at_)] else []
  | at_, (b, n) :: rest => (if at_ < b then [(at_, b - at_)] else []) ++ freeRuns (b + n) rest

/-- The free intervals of gates 2048 to 65535. -/
def Gates.free (x : Gates) : List (Nat × Nat) :=
  freeRuns 2048 (((x.blocks.flatMap GateBlock.intervals).mergeSort fun a b => decide (a.1 ≤ b.1)))

/-- Put a block among the others, bases rising. -/
def insertBlock (b : GateBlock) : List GateBlock → List GateBlock
  | [] => [b]
  | c :: rest => if b.base < c.base then b :: c :: rest else c :: insertBlock b rest

/-- Allocate n gates of a mode to an owner at the lowest free address that fits: the base, or 0 and 0A03h. -/
def allocGates (n mode kind owner : Nat) (s : State) : Nat × State :=
  match s.gates.free.find? fun e => decide (n ≤ e.2) with
  | some e =>
    let b : GateBlock := { base := e.1, n := n, mode := mode, kind := kind, owner := owner, holes := [] }
    (e.1, { s with gates := { s.gates with blocks := insertBlock b s.gates.blocks } })
  | none => (0, s.raise 0x0A03 noInst)

/-- Free a block: waits released with element 2 = 0, states and routes gone (R329). -/
def freeBlock (b : GateBlock) (s : State) : State :=
  let mine := fun g => decide (b.base ≤ g) && decide (g < b.base + b.n) && !b.holes.contains g
  let s := ((s.gates.waits.filter fun w => mine w.g).map (·.g)).foldl (fun s g => freeWaits g s) s
  { s with gates := { s.gates with
    blocks := s.gates.blocks.filter fun c => c != b
    gates := s.gates.gates.filter fun e => !mine e.1 } }

/-- Free every block of an owner: its slot is unbound or its session closes (R329). -/
def freeOwner (kind owner : Nat) (s : State) : State :=
  (s.gates.blocks.filter fun b => b.kind == kind && b.owner == owner).foldl (fun s b => freeBlock b s) s

/-- A write of [6800.06] (R328). -/
def gateAllocateEff (ses v : Nat) (s : State) : State :=
  let n := v % 65536
  if n = 0 ∨ 1024 < n ∨ 262144 ≤ v then s.violate ses 0x6800 0x06 else
    let r := allocGates n (v / 65536 % 4) 4 ses s
    { r.2 with gates := { r.2.gates with lastBase := r.2.gates.lastBase.set ses r.1 } }

/-- A write of [6800.08] (R329). -/
def gateFreeEff (ses base : Nat) (s : State) : State :=
  match s.gates.blocks.find? fun b => b.base == base && b.kind == 4 && b.owner == ses with
  | some b => freeBlock b s
  | none => s.violate ses 0x6800 0x08

/-- An uncorrectable gate word (Table 11.10): the gate is free, its waits released, its source low; the drain is held
during recovery from 0A06h (R403). -/
def gateUncorrectableEff (g : Nat) (s : State) : State :=
  let s := freeWaits g s
  let code := if g < 2048 then 0x0A06 else 0x0A04
  let s := if g < 2048 then { s.setGate g Gate.free with port := { s.port with drainHeld := true } } else
    { s with gates := { s.gates with
      gates := Store.del s.gates.gates g
      blocks := s.gates.blocks.map fun b =>
        if b.base ≤ g ∧ g < b.base + b.n ∧ b.holes.contains g = false then { b with holes := g :: b.holes } else b } }
  s.raise code g

/-- Command 1 of [6800.0F]. -/
def gatesClearEff (s : State) : State := { s with gates := { s.gates with refused := 0, excess := 0 } }

/-! ### Meanings -/

/-- GATE_SIGNAL (R318). -/
def execGateSignal (who : Party) (g n : Nat) (s : State) : Host.Outcome State Fault Refusal :=
  run (decide (g < 65536) && decide (n < 4294967296)) s (gateSignalEff who g n)

/-- GATE_WAIT (R321). -/
def execGateWait (who : Party) (g v slot channel tag : Nat) (s : State) : Host.Outcome State Fault Refusal :=
  run (decide (g < 65536) && decide (v < 4294967296)) s (gateWaitEff who g v slot channel tag)

/-- GATE_ARM (R317). -/
def execGateArm (who : Party) (g target : Nat) (s : State) : Host.Outcome State Fault Refusal :=
  run (decide (g < 65536) && decide (target < 4294967296)) s (gateArmEff who g target)

/-- GATE_ADJUST (R320). -/
def execGateAdjust (who : Party) (g : Nat) (delta : Int) (s : State) : Host.Outcome State Fault Refusal :=
  run (decide (g < 65536)) s (gateAdjustEff who g delta)

/-- GATE_CLEAR (R318). -/
def execGateClear (who : Party) (g : Nat) (s : State) : Host.Outcome State Fault Refusal :=
  run (decide (g < 65536)) s (gateClearEff who g)

/-- GATE_CANCEL (R316). -/
def execGateCancel (who : Party) (g : Nat) (s : State) : Host.Outcome State Fault Refusal :=
  run (decide (g < 65536)) s (gateCancelEff who g)

/-- GATE_ROUTE (R330). -/
def execGateRoute (who : Party) (g src : Nat) (s : State) : Host.Outcome State Fault Refusal :=
  run (decide (g < 65536) && decide (src < 65536)) s (gateRouteEff who g src)

/-- GATE_ALLOCATE (R328). -/
def execGateAllocate (ses v : Nat) (s : State) : Host.Outcome State Fault Refusal :=
  run (decide (ses < Config.sessions)) s (gateAllocateEff ses v)

/-- GATE_FREE (R329). -/
def execGateFree (ses base : Nat) (s : State) : Host.Outcome State Fault Refusal :=
  run (decide (ses < Config.sessions)) s (gateFreeEff ses base)

/-- GATE_STATE_UNCORRECTABLE (R342). -/
def execGateStateUncorrectable (g : Nat) (s : State) : Host.Outcome State Fault Refusal :=
  run (decide (g < 65536)) s (gateUncorrectableEff g)

/-- GATES_CLEAR_COUNTERS (R344). -/
def execGatesClearCounters (ses : Nat) (s : State) : Host.Outcome State Fault Refusal :=
  run (decide (ses < Config.sessions)) s gatesClearEff

end Sys2Proof.Machine
end

