-- ==== Sys2Proof/Machine/Tide.lean ====
section
/-! DEFINITION. The tide forecaster and schedule ingest (chapter 07): the rack-load estimate, slopes, gate, schedule
entries, groups and states. The evaluation itself is in Forecast. -/

namespace Sys2Proof.Machine

/-! ### The rack-load estimate (R196) -/

/-- Σ I_b,t of a sample: measured bus-side currents, held ones of lost links. -/
def busSum (s : State) (t0 : Nat) : Rat :=
  sumQ ((List.range Config.trays).map fun t =>
    if (s.link t).up then (s.tray t).iBus else heldNow t0 (s.link t))

/-- Earliest time whose samples are still needed: 20.4 ms back, or 2 ms before the first open window. -/
def ilFrom (s : State) (tol : Rat) : Int :=
  let e := s.tide.entries.foldl (fun a x => min a ((x.tc - tol).floor - 3000000)) (s.now : Int)
  min e ((s.now : Int) - 20400000)

/-- Tolerance of schedule ingest in ns, widened by 2 ppm of the time in holdover (R210). -/
def tolNow (s : State) : Rat :=
  ((s.cfgU 0x4100 0x04 * 1000 : Nat) : Rat) +
    (if s.clk.st = .holdover then 2 * ((s.now - s.clk.freeAt : Nat) : Rat) / 1000000 else 0)

/-- The sample at or before a time, newest first. -/
def ilAt (l : List (Nat × Rat)) (a : Int) : Option Rat := (l.find? fun e => decide ((e.1 : Int) ≤ a)).map (·.2)

/-- A move between two instants lies in the window of some entry, open or just closed (R217). -/
def moveInWindow (x : Tide) (tol : Rat) (a b : Nat) : Bool :=
  (x.entries.any fun e => decide (e.tc - tol ≤ (b : Rat)) && decide ((a : Rat) ≤ e.tc + e.ramp + tol)) ||
    x.wins.any fun w => decide (w.1 ≤ (b : Rat)) && decide ((a : Rat) ≤ w.2)

/-- A completed step of I_L (R196, R215, R217). -/
def stepSample (t0 : Nat) (i : Rat) (s : State) : State :=
  let tol := tolNow s
  let x := s.tide
  let back := ilAt x.il ((t0 : Int) - 100000)
  let thr := s.cfgB 0x2200 0x0C
  let outside := x.il.any fun e =>
    decide (t0 ≤ e.1 + 100000) && decide (thr < absQ (i - e.2)) && !moveInWindow x tol e.1 t0
  let err := match x.preds.find? (fun e => e.1 == t0), back with
    | some p, some b => [({ at_ := t0, act := p.2.1.map fun v => absQ (v - i), stg := p.2.2.map fun v => absQ (v - i)
                            chg := absQ (i - b) } : ErrTerm)]
    | _, _ => []
  { s with tide := { x with
    il := ((t0, i) :: x.il).takeWhile fun e => decide (t0 ≤ e.1 + 20400000)
    errs := (err ++ x.errs).takeWhile fun e => decide (t0 ≤ e.at_ + sec)
    wins := x.wins.filter fun w => decide ((t0 : Rat) ≤ w.2 + 200000)
    evalT := x.evalT.takeWhile fun a => decide (t0 < a + sec)
    preds := x.preds.filter fun e => decide (t0 < e.1)
    warmSteps := if x.st = .warming then x.warmSteps + 1 else x.warmSteps
    warmPreds := if x.st = .warming then x.warmPreds + (err.filter fun e => e.act.isSome).length else x.warmPreds
    past := x.past.filter fun e => decide ((t0 : Rat) ≤ e.tc + e.ramp + 20000000)
    unAbove := outside
    unannounced := if outside && !x.unAbove then sat32 (x.unannounced + 1) else x.unannounced } }

/-- One control period of the estimate, I_L of the period and, on each whole 10 µs, of the step that ends (R196); C_f is
in mF. -/
def tidePeriod (t0 : Nat) (s : State) : State :=
  let x := s.tide
  let now_ := s.feed.iRect + busSum s t0
  let v := s.loop.vBus
  let c := s.cfgB 0x4000 0x10
  let dv := match x.vLast with | some l => if l.1 + 1000 = t0 then v - l.2 else 0 | none => 0
  let keep := ilFrom s (tolNow s)
  let x := { x with
    vLast := some (t0, v)
    il1 := ((t0, now_ - c * 1000 * dv) :: x.il1).takeWhile fun e => decide (keep ≤ (e.1 : Int)) }
  let s := { s with tide := x }
  let sum := x.sum + now_
  if t0 % 10000 = 0 then
    let i := sum / ((x.sumN + 1 : Nat) : Rat) - c * 100 * (v - x.vStart.getD v)
    let s := stepSample t0 i s
    let load := ((t0, i * s.loop.vBus / 1000) :: s.feed.load).takeWhile fun e => decide (t0 < e.1 + 600 * sec)
    let s := { s with feed := { s.feed with load := load } }
    { s with tide := { s.tide with sum := 0, sumN := 0, vStart := some v, cutRect := s.feed.slope } }
  else { s with tide := { x with sum := sum, sumN := x.sumN + 1 } }

/-! ### Slopes and the horizon (R198 to R201, R216) -/

/-- Î(T_k + x µs) − Î(T_k), linear between the points of 10 µs, held beyond the last (R198). -/
def predAt (p : List Rat) (x : Rat) : Rat :=
  let y := clampQ 0 200 (x / 10)
  let i := min 199 y.floor.toNat
  let v := fun (k : Nat) => if k = 0 then (0 : Rat) else get 0 p (k - 1)
  v i + (y - (i : Rat)) * (v (i + 1) - v i)

/-- The interval that begins at time a is announced (R216). -/
def announcedAt (s : State) (tol a : Rat) : Bool :=
  s.tide.entries.any fun e => decide (e.tc - tol ≤ a) && decide (a ≤ e.tc + e.ramp + tol)

/-- Horizon slope s_j of the evaluation at cut T_k (R199). -/
def slopeAt (s : State) (cut : Nat) (p : List Rat) (j : Nat) : Rat :=
  let lead := s.cfgB 0x4000 0x06
  let x := 10 * (j : Rat) + lead
  let raw := (predAt p (x + 10) - predAt p x) / 10 - s.tide.cutRect
  let c := if announcedAt s (tolNow s) ((cut : Rat) + 1000 * x) then s.cfgB 0x4000 0x07 else s.cfgB 0x4000 0x08
  s.tide.gate * clampQ (-c) c raw

/-- |s| reduced so that |F + s × 10 µs| ≤ F_max (R200). -/
def ffLimit (fMax f x : Rat) : Rat :=
  if 0 < x then max 0 (min x ((fMax - f) / 10)) else min 0 (max x ((-fMax - f) / 10))

/-- Deliver a slope to the bus loop for the interval after the cut (R200, Table 7.6). -/
def deliver (cut : Nat) (x : Rat) (s : State) : State :=
  let y := ffLimit (s.cfgB 0x4000 0x09) s.tide.cutF x
  let live := decide (s.tide.st = .run) && decide (s.loop.st = .run)
  let out := if live then y else 0
  { s with
    loop := takeSlope { s := out, at_ := cut + 10000 } s.loop
    tide := { s.tide with
      lastSlope := out, clamps := if live && decide (y ≠ x) then sat32 (s.tide.clamps + 1) else s.tide.clamps } }

/-- A slope in the format of [4000.12]. -/
def slopeRaw (x : Rat) : Int := clampI (-32768) 32767 (roundEven (x * 128))

/-- Start of the first interval at which the integrated horizon passes the threshold (R72). The integral runs from the
first interval after the last evaluation's cut, and the step is dated at the start of the interval in which it first
passes (log entry 69). -/
def firstStep (thr : Rat) (cut : Nat) : Nat → Rat → List Int → Option Nat
  | _, _, [] => none
  | j, acc, h :: rest =>
    let a := acc + (h : Rat) * 10 / 128
    if thr < absQ a then some (cut + 10000 * j) else firstStep thr cut (j + 1) a rest

/-- Some group's window is open (R222). -/
def windowOpen (s : State) (a : Rat) : Bool := announcedAt s (tolNow s) a

/-- The forecaster enters FAULT (Table 7.6). -/
def tideFault (s : State) : State :=
  State.raise { s with
    tide := { s.tide with st := .fault, gate := 0, stepAt := none, horizon := List.replicate 200 0, lastSlope := 0 } }
    0x0609 noInst

/-- The active model's slot is lost (Table 7.6, Table 7.8). -/
def tideSlotLost (n : Nat) (s : State) : State :=
  let s := if s.tide.active = n ∧ s.tide.st = .run then tideFault s else s
  if s.tide.active = n then { s with tide := { s.tide with active := 0xFF } } else s

/-! ### The gate (R215) -/

/-- Target gate of an error ratio. -/
def gateTarget (lo hi r : Rat) : Rat := if r ≤ lo then 1 else if hi ≤ r then 0 else (hi - r) / (hi - lo)

/-- Error ratio over the terms of the gate window that have a prediction; none where the mean change is below 5 A or
there is no term (R215). -/
def errRatio (s : State) (sel : ErrTerm → Option Rat) : Option Rat :=
  let win := s.cfgU 0x4000 0x0C * ms
  let l := s.tide.errs.filterMap fun e => if s.now < e.at_ + win then (sel e).map fun v => (v, e.chg) else none
  let den := sumQ (l.map (·.2))
  if l = [] ∨ den < 5 * (l.length : Rat) then none else some (sumQ (l.map (·.1)) / den)

/-- GATE_UPDATE's effect, once in each millisecond (R215, R221). -/
def gateUpdateEff (s : State) : State :=
  let x := s.tide
  if s.now / ms = x.gateMs then s
  else
    let shadow := decide (s.cfgU 0x4000 0x05 = 1) && decide (x.staged ≠ 0xFF)
    let x := { x with
      gateMs := s.now / ms, rhoStaged := if shadow then (errRatio s (·.stg)).getD x.rhoStaged else x.rhoStaged }
    match errRatio s (·.act) with
    | none => { s with tide := x }
    | some r =>
      let x := { x with rho := r }
      if x.st = .run then
        let g := stepToward x.gate (gateTarget (s.cfgB 0x4000 0x0A) (s.cfgB 0x4000 0x0B) r) (1 / 10)
        let closed := decide (g = 0) && decide (x.gate ≠ 0)
        when_ closed (fun s => s.raise 0x0603 noInst) { s with tide := { x with gate := g } }
      else { s with tide := x }

/-! ### Schedule ingest (R202 to R210) -/

/-- Entries pending and rejected: count one. -/
def schedReject (s : State) : State := { s with tide := { s.tide with rejected := sat32 (s.tide.rejected + 1) } }

/-- Two entries of one source and one partition whose corrected instants lie within 10 µs (R205). -/
def SchedEntry.near (e y : SchedEntry) : Bool :=
  decide (y.src = e.src) && decide (y.part = e.part) && decide (absQ (y.tc - e.tc) ≤ 10000)

/-- They are merged (R205). The flight number, kind and confidence are those of the entry held (log entry 69). -/
def SchedEntry.merge (e y : SchedEntry) : SchedEntry :=
  { y with delta := y.delta + e.delta, tc := min y.tc e.tc, conv := min y.conv e.conv, ramp := max y.ramp e.ramp }

/-- An entry among others, merged for as long as one lies near the result (R205). The first argument bounds the
merges. -/
def mergeEntries : Nat → SchedEntry → List SchedEntry → List SchedEntry
  | 0, e, l => l ++ [e]
  | n + 1, e, l =>
    match l.findIdx? e.near with
    | some i => mergeEntries n (e.merge (l.getD i e)) (l.eraseIdx i)
    | none => l ++ [e]

/-- Enter an accepted entry (R205). -/
def schedEnter (e : SchedEntry) (s : State) : State :=
  let x := s.tide
  { s with tide := { x with
    entries := mergeEntries x.entries.length e x.entries, accepted := sat32 (x.accepted + 1) } }

/-- The ingest rejects entries from sessions: holdover beyond the limit, and from then on until shelf time is
disciplined again (R210). -/
def hintsDropped (s : State) : Bool :=
  decide (s.clk.st = .holdover) && decide (s.clk.freeAt + s.cfgU 0x4100 0x0E * sec < s.now) ||
    s.tide.holdNoticed && !(decide (s.clk.st = .locked) || decide (s.clk.st = .following))

/-- A source is suspended. -/
def suspendedNow (s : State) (src : Nat) : Bool := (get none s.tide.suspended src).isSome

/-- A cancel (R205). -/
def schedCancel (src part flight : Nat) (s : State) : State :=
  let x := s.tide
  let hit := fun (y : SchedEntry) => decide (y.src = src) && decide (y.part = part) && decide (y.flight = flight) &&
    decide ((s.now : Rat) + tolNow s < y.tc)
  match x.entries.findIdx? hit with
  | some i => { s with tide := { x with entries := x.entries.eraseIdx i, accepted := sat32 (x.accepted + 1) } }
  | none => schedReject s

/-- 1,024 entries are pending (R204). -/
def schedFull (s : State) : Bool := decide (1024 ≤ s.tide.entries.length)

/-- One entry of a SCHEDULE frame that arrived at `arr` (R204, Table 7.1). -/
def schedOne (arr src : Nat) (d : Bytes) (s : State) : State :=
  let kind := u8At d 18
  let part := u8At d 19
  let delta := i32At d 8
  let conv := s.toShelf (u64At d 0 : Int)
  let tc := (conv : Rat) + get 0 s.tide.bias src
  let early := (arr : Rat) + ((s.cfgU 0x4100 0x02 * 1000 : Nat) : Rat)
  let late := (arr : Rat) + ((s.cfgU 0x4100 0x03 * ms : Nat) : Rat)
  if schedFull s then (schedReject s).raise 0x0608 noInst
  else if (slice d 21 11).any (· ≠ 0) ∨ kind = 0 ∨ 6 < kind ∨ (63 < part ∧ part ≠ 0xFF) then schedReject s
  else if s.cfgF 0x4100 0x0F * 1000 < absQ (delta : Rat) ∨ tc < early ∨ late < tc ∨ suspendedNow s src = true ∨
      hintsDropped s = true then schedReject s
  else if kind = 6 then schedCancel src part (u16At d 16) s
  else schedEnter { src := src, part := part, delta := delta, ramp := u32At d 12, flight := u16At d 16, kind := kind
                    conf := u8At d 20, conv := conv, tc := tc } s

/-- The entries of a SCHEDULE payload that arrived at `arr`. -/
def schedAll (arr src n : Nat) (payload : Bytes) (s : State) : State :=
  (List.range n).foldl (fun s i => schedOne arr src (slice payload (32 * i) 32) s) s

/-- The governor's internal entry (R207): exempt from the notice rule of R204 only. -/
def schedInternal (at_ : Nat) (watts : Int) (s : State) : State :=
  let late := (s.now : Rat) + ((s.cfgU 0x4100 0x03 * ms : Nat) : Rat)
  if schedFull s then (schedReject s).raise 0x0608 noInst
  else if s.cfgF 0x4100 0x0F * 1000 < absQ (watts : Rat) ∨ late < (at_ : Rat) + get 0 s.tide.bias 32 then schedReject s
  else schedEnter { src := 32, part := 0xFF, delta := watts, ramp := 0, flight := 0, kind := 1, conf := 255
                    conv := (at_ : Int), tc := (at_ : Rat) + get 0 s.tide.bias 32 } s

/-! ### Groups (R209, R217 to R219) -/

/-- Insert by corrected instant. -/
def insertEntry (e : SchedEntry) : List SchedEntry → List SchedEntry
  | [] => [e]
  | x :: rest => if e.tc < x.tc then e :: x :: rest else x :: insertEntry e rest

/-- Groups of entries whose windows overlap, in order of time (R209). -/
def groupsOf (tol : Rat) (l : List SchedEntry) : List (List SchedEntry) :=
  let sorted := l.foldr insertEntry []
  let ends := fun (g : List SchedEntry) => g.foldl (fun a e => max a (e.tc + e.ramp + tol)) 0
  (sorted.foldl (fun (acc : List (List SchedEntry)) e =>
    match acc with
    | [] => [[e]]
    | g :: rest => if e.tc - tol ≤ ends g then (g ++ [e]) :: rest else [e] :: g :: rest) []).reverse

/-- What became of a group (R217). -/
inductive Verdict where
  | met | early | missed
deriving DecidableEq, Repr

/-- First period of a window whose I_L has moved by at least d in the direction of sg from a level. -/
def firstMove (x : Tide) (a b : Rat) (level d : Rat) (sg : Int) : Option Nat :=
  ((x.il1.filter fun e => decide (a ≤ (e.1 : Rat)) && decide ((e.1 : Rat) ≤ b) &&
    decide (d ≤ (sg : Rat) * (e.2 - level))).getLast?).map (·.1)

/-- The verdict on a group and the instant of its move. -/
def judgeGroup (s : State) (g : List SchedEntry) : Verdict × Option Nat :=
  let tol := tolNow s
  let vset := vSet s
  let d : Rat := if vset = 0 then 0 else ((g.map (·.delta)).foldl (· + ·) 0 : Int) / vset
  let sg := sgn d
  let half := absQ d / 2
  let tc := g.foldl (fun a e => min a e.tc) ((g.head?.map (·.tc)).getD 0)
  let w0 := tc - tol
  let w1 := g.foldl (fun a e => max a (e.tc + e.ramp + tol)) w0
  let level := (ilAt s.tide.il1 w0.ceil).getD 0
  let before := (ilAt s.tide.il1 (tc - 2000000).ceil).getD 0
  let opposite := firstMove s.tide w0 w1 level half (-sg)
  if sg ≠ 0 ∧ opposite ≠ none then (.missed, none)
  else
    match firstMove s.tide w0 w1 level half sg with
    | some a => (.met, some a)
    | none =>
      match firstMove s.tide (tc - 2000000) w0 before half sg with
      | some a => (.early, some a)
      | none => (.missed, none)

/-- Earliest converted instant of a source in a group. -/
def groupConv (g : List SchedEntry) (src : Nat) : Option Int :=
  (g.filter fun e => e.src == src).foldl (fun a e => some (match a with | some v => min v e.conv | none => e.conv)) none

/-- Bias of a source after a group met or early (R209). -/
def biasNext (b : Rat) (m : Rat) : Rat := clampQ (-500000) 500000 (b + (m - b) / 16)

/-- The source's history after a group, and its suspension (R219). -/
def historyStep (src : Nat) (missed : Bool) (s : State) : State :=
  let x := s.tide
  let h := (missed :: get [] x.history src).take 32
  let s := { s with tide := { x with history := x.history.set src h } }
  if src < 32 ∧ suspendedNow s src = false ∧ s.cfgU 0x4100 0x0B ≤ (h.filter id).length then
    State.raise { s with tide := { s.tide with
      suspended := s.tide.suspended.set src (some (s.now + s.cfgU 0x4100 0x0D * sec)) } } 0x0602 noInst
  else s

/-- GROUP_WINDOW_CLOSE's effect on the g-th group in order of time. -/
def groupCloseEff (g : Nat) (s : State) : State :=
  let tol := tolNow s
  match (groupsOf tol s.tide.entries)[g]? with
  | none => s
  | some grp =>
    let w1 := grp.foldl (fun a e => max a (e.tc + e.ramp + tol)) 0
    if (s.now : Rat) < w1 then s
    else
      let r := judgeGroup s grp
      let ramp := grp.foldl (fun a e => max a e.ramp) 0
      let srcs := (List.range 33).filter fun i => grp.any fun e => e.src == i
      let x := s.tide
      let x := { x with
        entries := x.entries.filter fun e => !grp.contains e
        wins := (grp.foldl (fun a e => min a (e.tc - tol)) w1, w1) :: x.wins
        past := if r.1 = .missed then x.past else x.past ++ grp
        met := if r.1 = .met then sat32 (x.met + 1) else x.met
        early := if r.1 = .early then sat32 (x.early + 1) else x.early
        missed := if r.1 = .missed then sat32 (x.missed + 1) else x.missed }
      let x := match r.2 with
        | some a =>
          let inst := (a : Rat) - (ramp : Rat) / 2
          { x with bias := x.bias.mapIdx fun i b => match groupConv grp i with
              | some c => biasNext b (inst - (c : Rat))
              | none => b }
        | none => x
      let s := { s with tide := x }
      let s := when_ (decide (r.1 = .missed)) (fun s => s.raise 0x0601 noInst) s
      srcs.foldl (fun s i => historyStep i (decide (r.1 = .missed)) s) s

/-- SOURCE_SUSPENSION_END's effect (R219). -/
def suspensionEndEff (src : Nat) (s : State) : State :=
  match get none s.tide.suspended src with
  | some a =>
    if a ≤ s.now then { s with tide := { s.tide with
      suspended := s.tide.suspended.set src none, history := s.tide.history.set src [] } } else s
  | none => s

/-- HINT_HOLDOVER_LIMIT's effect (R210). -/
def hintLimitEff (s : State) : State :=
  if hintsDropped s ∧ s.tide.holdNoticed = false then
    State.raise { s with tide := { s.tide with holdNoticed := true } } 0x0607 noInst
  else s

/-! ### Commands and states (R220, R222) -/

/-- Into WARMING: nothing gathered yet. -/
def tideWarm (s : State) : State :=
  { s with tide := { s.tide with
    st := .warming, gate := 0, warmSteps := 0, warmPreds := 0, consec := 0, errs := [], preds := [] } }

/-- Command 1. -/
def forecasterStartEff (ses : Nat) (s : State) : State :=
  match s.tide.st with
  | .off => if s.tide.active ≠ 0xFF then tideWarm s else s.violate ses 0x4000 0x02
  | .fault => tideWarm s
  | _ => s.violate ses 0x4000 0x02

/-- Command 2. -/
def forecasterStopEff (ses : Nat) (s : State) : State :=
  if s.tide.st = .off then s.violate ses 0x4000 0x02
  else { s with
    tide := { s.tide with st := .off, gate := 0, stepAt := none, horizon := List.replicate 200 0, lastSlope := 0 } }

/-- Command 3: the switch waits for its cut, in every state (R222). -/
def modelSwitchEff (ses : Nat) (s : State) : State :=
  if s.tide.staged = 0xFF then s.violate ses 0x4000 0x02
  else { s with tide := { s.tide with switchAt := some s.now, switchForced := false } }

/-- MODEL_SWITCH_FORCED's effect. -/
def modelForceEff (s : State) : State :=
  match s.tide.switchAt with
  | some a => if a + 100 * ms ≤ s.now then { s with tide := { s.tide with switchForced := true } } else s
  | none => s

/-- Command 4. -/
def forecasterClearEff (s : State) : State :=
  { s with tide := { s.tide with
    carried := 0, saturated := 0, clamps := 0, met := 0, missed := 0, early := 0, unannounced := 0 } }

/-- WARMING_COMPLETE's effect. -/
def warmingCompleteEff (s : State) : State :=
  let x := s.tide
  if x.st = .warming ∧ 2000 ≤ x.warmSteps ∧ s.cfgU 0x4000 0x0C * 100 ≤ x.warmPreds then
    { s with tide := { x with st := .run, gate := 0 } }
  else s

/-! ### Meanings -/

/-- GATE_UPDATE (R215). -/
def execGateUpdate (s : State) : Host.Outcome State Fault Refusal := run true s gateUpdateEff

/-- GROUP_WINDOW_CLOSE (R217). -/
def execGroupWindowClose (g : Nat) (s : State) : Host.Outcome State Fault Refusal := run true s (groupCloseEff g)

/-- SOURCE_SUSPENSION_END (R219). -/
def execSourceSuspensionEnd (src : Nat) (s : State) : Host.Outcome State Fault Refusal :=
  run (decide (src < 33)) s (suspensionEndEff src)

/-- HINT_HOLDOVER_LIMIT (R210). -/
def execHintHoldoverLimit (s : State) : Host.Outcome State Fault Refusal := run true s hintLimitEff

/-- FORECASTER_START (R220). -/
def execForecasterStart (ses : Nat) (s : State) : Host.Outcome State Fault Refusal :=
  run (decide (ses < Config.sessions)) s (forecasterStartEff ses)

/-- FORECASTER_STOP (R220). -/
def execForecasterStop (ses : Nat) (s : State) : Host.Outcome State Fault Refusal :=
  run (decide (ses < Config.sessions)) s (forecasterStopEff ses)

/-- MODEL_SWITCH (R222). -/
def execModelSwitch (ses : Nat) (s : State) : Host.Outcome State Fault Refusal :=
  run (decide (ses < Config.sessions)) s (modelSwitchEff ses)

/-- MODEL_SWITCH_FORCED (R222). -/
def execModelSwitchForced (s : State) : Host.Outcome State Fault Refusal := run true s modelForceEff

/-- FORECASTER_CLEAR_COUNTERS (R225). -/
def execForecasterClearCounters (ses : Nat) (s : State) : Host.Outcome State Fault Refusal :=
  run (decide (ses < Config.sessions)) s forecasterClearEff

/-- WARMING_COMPLETE (R220). -/
def execWarmingComplete (s : State) : Host.Outcome State Fault Refusal := run true s warmingCompleteEff

end Sys2Proof.Machine
end

