-- ==== Sys2Proof/Machine/Governor.lean ====
section
/-! DEFINITION. The rack governor (chapter 08): reports, tables, flights, the epoch cut. Powers in kW. -/

namespace Sys2Proof.Machine

/-! ### Chips, points, partitions -/

/-- Chip c. -/
def State.chip (s : State) (c : Nat) : Chip := Store.get Chip.reset s.gov.chips c

/-- Change it. -/
def State.updChip (s : State) (c : Nat) (f : Chip → Chip) : State :=
  { s with gov := { s.gov with chips := Store.set Chip.reset s.gov.chips c (f (s.chip c)) } }

/-- Partition k. -/
def State.part (s : State) (k : Nat) : Partition := get Partition.reset s.gov.parts k

/-- Change it. -/
def State.updPart (s : State) (k : Nat) (f : Partition → Partition) : State :=
  { s with gov := { s.gov with parts := upd s.gov.parts k f } }

/-- Entry i of chip c's table (Table 8.5). -/
def State.opPoint (s : State) (c i : Nat) : Nat := Store.get 0 s.gov.points (32 * c + i)

/-- P_a,i, kW. -/
def State.pointP (s : State) (c i : Nat) : Rat := ((s.opPoint c i / 4294967296 % 65536 : Nat) : Rat) / 10000

/-- Frequency of point i, MHz. -/
def State.pointF (s : State) (c i : Nat) : Nat := s.opPoint c i / 65536 % 65536

/-- The partition a chip lies in; 64 none (R248). -/
def State.partOf (s : State) (c : Nat) : Nat :=
  ((List.range Config.partitions).find? fun k =>
    let p := s.part k
    p.cls != 0xFF && decide (p.first ≤ c) && decide (c ≤ p.last)).getD 64

/-- Known chips of partition k in a state of a list. -/
def State.chipsIn (s : State) (k : Nat) (p : Chip → Bool) : List Nat :=
  (s.gov.chips.filter fun e => p e.2 && (s.partOf e.1 == k)).map (·.1)

/-- A chip that floor demand counts: not ABSENT, REFUSED or LOADING. -/
def Chip.counted (x : Chip) : Bool :=
  match x.st with
  | .ready | .admitted | .silent => true
  | _ => false

/-- A chip that runs at its partition's point: ADMITTED and within its band (R245, R247). -/
def Chip.runs (x : Chip) : Bool := x.st == .admitted && !x.outside

/-- Factor of a chip's partition; 1 outside any (R236). -/
def State.kappaOf (s : State) (c : Nat) : Rat := if s.partOf c = 64 then 1 else (s.part (s.partOf c)).kappa

/-- Frequencies within ±2% of the partition's mean at every point (R247). -/
def State.inBand (s : State) (k c : Nat) : Bool :=
  let cs := s.chipsIn k fun x => x.st == .admitted || x.st == .silent
  let cs := if cs.contains c then cs else c :: cs
  (List.range 32).all fun i =>
    let m := meanQ (cs.map fun a => (s.pointF a i : Rat))
    decide (absQ ((s.pointF c i : Rat) - m) ≤ m / 50)

/-- The check of R247 on chip c where it now lies. -/
def bandCheck (c : Nat) (s : State) : State :=
  let k := s.partOf c
  let bad := decide (k < 64) && (s.part k).cls == 0 && !s.inBand k c
  let s := s.updChip c (fun x => { x with outside := bad })
  if bad then s.raise 0x070B c else s

/-! ### Flights (R249 to R252) -/

/-- The governor's own program (R250). -/
def govParty : Party := .governor 48

/-- Gate of flight n of partition k. -/
def State.flightGate (s : State) (k n : Nat) : Nat := s.gov.gateBase + 2 * k + n % 2

/-- What is kept of flight n's gate. -/
def State.flightOf (s : State) (k n : Nat) : Flight := get (Flight.reset 0) (s.part k).gates (n % 2)

/-- Change it. -/
def State.updFlight (s : State) (k n : Nat) (f : Flight → Flight) : State :=
  s.updPart k (fun p => { p with gates := upd p.gates (n % 2) f })

/-- The gate of flight n is armed for it. -/
def State.flightArmed (s : State) (k n : Nat) : Bool :=
  (s.flightOf k n).n == n && (s.gate (s.flightGate k n)).barrier == 1

/-- Flight n takes arrivals: its gate is armed, or it closes by time. -/
def State.flightOpen (s : State) (k n : Nat) : Bool :=
  s.flightArmed k n || ((s.flightOf k n).n == n && (s.flightOf k n).byTime)

/-- Arm the gate of flight n: its target is the number of ADMITTED chips (R250). Without any the gate stays IDLE
until a cut finds one (log entry 39). -/
def armFlight (k n : Nat) (s : State) : State :=
  let cs := s.chipsIn k fun x => x.st == .admitted
  let s := s.updFlight k n (fun _ => { Flight.reset n with members := cs })
  let g := s.flightGate k n
  if cs = [] then gateClearEff govParty g s else gateArmEff govParty g cs.length s

/-- A chip leaves the open flights of partition k: the target falls by one where it had not arrived (R249). -/
def leaveFlights (k c : Nat) (s : State) : State :=
  if 64 ≤ k then s else
    [0, 1, 3].foldl (fun s i =>
      let n := ((s.part k).flight + i) % 65536
      let x := s.flightOf k n
      if s.flightArmed k n ∧ x.members.contains c ∧ (x.arrivals.any fun a => a.1 == c) = false then
        gateAdjustEff govParty (s.flightGate k n) (-1)
          (s.updFlight k n (fun x => { x with members := x.members.filter (· != c) }))
      else s) s

/-- Averaged slack of the chips that arrived (R252). -/
def slackUpdate (arr : List (Nat × Nat)) (s : State) : State :=
  let last := arr.foldl (fun m a => max m a.2) 0
  arr.foldl (fun s a => s.updChip a.1 (fun x => { x with
    slack := x.slack + (((last - a.2 : Nat) : Rat) - x.slack) / 8, flights := x.flights + 1 })) s

/-- Flight n of partition k has closed before the current one: its gate is armed for flight n + 2 already. -/
def State.flightPassed (s : State) (k n : Nat) : Bool := (s.flightOf k n).n == (n + 2) % 65536

/-- The current flight once flight n has closed: the oldest that has not (log entry 40). -/
def State.nextFlight (s : State) (k n : Nat) : Nat :=
  let cur := (s.part k).flight
  if n ≠ cur then cur
  else if s.flightPassed k ((cur + 1) % 65536) then (cur + 2) % 65536 else (cur + 1) % 65536

/-- Flight n closes; its gate is armed for flight n + 2 (R250, R252). -/
def closeFlight (k n : Nat) (byTime : Bool) (s : State) : State :=
  let cur := s.nextFlight k n
  let arr := (s.flightOf k n).arrivals
  let last := arr.foldl (fun m a => max m a.2) 0
  let first := arr.foldl (fun m a => min m a.2) last
  let s := slackUpdate arr s
  let s := s.updPart k (fun p => { p with
    spread := last - first, closed := sat32 (p.closed + 1), flight := cur
    timedOut := if byTime then sat32 (p.timedOut + 1) else p.timedOut })
  armFlight k ((n + 2) % 65536) s

/-- The two flights of partition k that may be open: the current one and the next (R251). -/
def State.flightsOf (s : State) (k : Nat) : List Nat := [(s.part k).flight, ((s.part k).flight + 1) % 65536]

/-- The gate of flight n has reached its target (R252). -/
def State.flightFull (s : State) (k n : Nat) : Bool :=
  decide (s.gov.gateBase ≠ 0) && (s.flightOf k n).n == n && !(s.flightOf k n).byTime &&
    (s.gate (s.flightGate k n)).barrier == 2

/-- FLIGHT_CLOSE: the gate of a flight, the current one before the next, has reached its target (R252). -/
def flightCloseEff (k : Nat) (s : State) : State :=
  match (s.flightsOf k).find? (s.flightFull k) with
  | some n => closeFlight k n false s
  | none => s

/-- The flight timeout of flight n has passed since its first arrival (R252). -/
def State.flightLate (s : State) (k n : Nat) : Bool :=
  match ((s.flightOf k n).arrivals.map (·.2) ++ (s.flightOf k n).openAt.toList).min? with
  | some a => s.flightOpen k n && decide (a + s.cfgU (0x5100 + k) 0x0E * ms ≤ s.now)
  | none => false

/-- FLIGHT_TIMEOUT: the flight timeout after its first arrival (R252). -/
def flightTimeoutEff (k : Nat) (s : State) : State :=
  match (s.flightsOf k).find? (s.flightLate k) with
  | some n => (closeFlight k n true s).raise 0x0704 k
  | none => s

/-! ### Reports (R230, R231, R251) -/

/-- The counters a chip's report moves on: its partition's energy and the rack's (R256). -/
def countEnergy (c e : Nat) (s : State) : State :=
  let d := match (s.chip c).energy with
    | some e0 => e - e0
    | none => 0
  let s := s.updChip c (fun x => { x with energy := some e })
  let s := { s with gov := { s.gov with energy := s.gov.energy + d } }
  let k := s.partOf c
  if k < 64 then s.updPart k (fun p => { p with energy := p.energy + d, epochEnergy := p.epochEnergy + (d : Rat) })
  else s

/-- A stray report. -/
def strayReport (s : State) : State := { s with gov := { s.gov with stray := sat32 (s.gov.stray + 1) } }

/-- A flight-complete report counts its gate, or is stray (R251). -/
def flightArrival (c n at_ : Nat) (s : State) : State :=
  let k := s.partOf c
  let cur := (s.part k).flight
  if k < 64 ∧ (n = cur ∨ n = (cur + 1) % 65536) ∧ s.flightOpen k n ∧ (s.flightOf k n).barred.contains c = false then
    let s' := s.updFlight k n (fun x => { x with arrivals := x.arrivals ++ [(c, at_)] })
    if s.flightArmed k n then gateSignalEff .drain (s.flightGate k n) 1 s' else s'
  else strayReport s

/-- The report is accepted (R231): its session, its length, its chip, its kind, its reserved bytes. -/
def reportOk (f : Bytes) (s : State) : Bool :=
  let d := f.drop 16
  f.length == 128 && bit (s.cfgU 0x5000 0x14) (u8At f 2) && decide (u16At d 0 < 4096) && decide (1 ≤ u8At d 4) &&
    decide (u8At d 4 ≤ 3) && (d.drop 35).all (· == 0)

/-- An accepted report (Table 8.4). -/
def acceptReport (f : Bytes) (at_ : Nat) (s : State) : State :=
  let d := f.drop 16
  let c := u16At d 0
  let s := { s with gov := { s.gov with accepted := s.gov.accepted + 1 } }
  let s := countEnergy c (u64At d 24) s
  let s := s.updChip c (fun x => { x with
    slot := d, lastAt := s.now, repAt := some s.now, reported := true, gone := false, st := if x.st = .silent then .admitted else x.st })
  match u8At d 4 with
  | 1 => flightArrival c (u16At d 2) at_ s
  | 3 =>
    (leaveFlights (s.partOf c) c s).updChip c (fun x => { x with
      st := .absent, written := [], energy := none, outside := false, point := 0, gone := true })
  | _ => s

/-- REPORT: the drain takes the oldest frame from the basin; a frame behind it waits its turn, and one finds an empty
queue only by arriving now (R231, R403, log entry 1). All wait while the drain is held. -/
def reportEff (f : Bytes) (s : State) : State :=
  if s.port.drainHeld then s else
    match s.port.reports with
    | [] =>
      if s.passive then s.violateOp (u8At f 2) 6
      else if reportOk f s then acceptReport f s.now s else strayReport s
    | e :: rest =>
      if e.2 ≠ f then s else
        let s := { s with port := { s.port with reports := rest } }
        if reportOk f s then acceptReport f e.1 s else strayReport s

/-- CHIP_SILENT (R237). -/
def chipSilentEff (c : Nat) (s : State) : State :=
  let x := s.chip c
  if x.st = .admitted ∧ x.lastAt + s.cfgU 0x5000 0x15 * ms ≤ s.now then
    (s.updChip c (fun x => { x with st := .silent })).raise 0x0706 c
  else s

/-! ### The operating-point table (R233 to R235) -/

/-- The 32 points are all valid, frequencies rise strictly, powers do not fall (R234). -/
def tableValid (s : State) (c : Nat) : Bool :=
  (List.range 32).all fun i =>
    bit (s.opPoint c i) 48 && (i == 31 || (decide (s.pointF c i < s.pointF c (i + 1)) &&
      decide (s.pointP c i ≤ s.pointP c (i + 1))))

/-- A chip all of whose points have been written is judged at the close of the transaction (R234, log entry 41). -/
def judgeTable (c : Nat) (s : State) : State :=
  let x := s.chip c
  if (x.st = .loading ∨ x.st = .ready) ∧ 32 ≤ x.written.length then
    (if tableValid s c then s.updChip c (fun x => { x with st := .ready })
     else (s.updChip c (fun x => { x with st := .refused })).raise 0x0707 c)
  else s

/-- One entry written; a chip's first moves it to LOADING. -/
def opEntry (e : Nat) (d : Bytes) (s : State) : State :=
  let s := { s with gov := { s.gov with points := Store.set 0 s.gov.points e (ofLe d) } }
  s.updChip (e / 32) (fun x => { x with
    st := if x.st = .absent then .loading else x.st
    written := if x.written.contains (e % 32) then x.written else (e % 32) :: x.written })

/-- OP_TABLE_WRITE (R234). -/
def opTableEff (ses seq offset : Nat) (data : Bytes) (s : State) : State :=
  let first := s.win ses 0x5800 0x03 + offset / 8
  let n := data.length / 8
  if data = [] ∨ data.length % 8 ≠ 0 ∨ offset % 8 ≠ 0 ∨ 8192 < offset + data.length ∨ 131072 < first + n then
    s.violate ses 0x5800 0x04
  else if 32 ≤ s.openTxns then txnLimit ses 0x5800 0x04 s
  else
    let s := openTxn 3 0x045800 first n ses seq s
    let id := s.txn.highest
    let ok := fun (s : State) (e : Nat) => (s.chip (e / 32)).st != .admitted
    let refused := (List.range n).any fun i => !ok s (first + i)
    let s := (List.range n).foldl (fun s i =>
      if ok s (first + i) then txnElement id i (opEntry (first + i) (slice data (8 * i) 8) s) else s) s
    let s := when_ refused (fun s => s.violate ses 0x5800 0x04) s
    let s := { s with gov := { s.gov with writeTxn := id } }
    let chips := ((List.range n).map fun i => (first + i) / 32).eraseDups
    finishTxn id (chips.foldl (fun s c => judgeTable c s) s)

/-! ### The cut: limits (R238 to R243) -/

/-- Rack load of the last `ns`, newest first. -/
def State.loadOf (s : State) (ns : Nat) : List (Nat × Rat) := s.feed.load.takeWhile fun e => decide (s.now < e.1 + ns)

/-- P_pk: the highest mean over a whole millisecond of the last 1 s (R239). -/
def formPk (s : State) : Rat :=
  let l := s.loadOf sec
  let bins := (l.map fun e => (e.1 - 1) / ms).eraseDups
  (bins.map fun b => meanQ ((l.filter fun e => (e.1 - 1) / ms == b).map (·.2))).foldl max 0

/-- f_hi (R239). -/
def formHi (s : State) : Rat :=
  let l := (s.loadOf sec).map (·.2)
  let m := meanQ l
  if l = [] then 1 / 10 else clampQ (1 / 10) 1 (((l.filter fun x => decide (m < x)).length : Rat) / (l.length : Rat))

/-- P_ung (R239). -/
def formUng (s : State) : Rat :=
  let slots := (s.gov.chips.filter fun e => e.2.st != .absent).map fun e => ((u32At e.2.slot 16 : Nat) : Rat) / 1000000
  max 0 (s.loadMean (100 * ms) - sumQ slots)

/-- P_lim (R238). -/
def formLim (s : State) : Rat :=
  let cont := s.cfgB 0x5000 0x0E
  let above := ((s.loadOf (s.cfgU 0x5000 0x10 * sec)).filter fun e => decide (cont < e.2)).length * 10000
  if above < s.cfgU 0x5000 0x11 / 65536 * sec then s.cfgB 0x5000 0x0F else cont

/-- T_soc, and whether it is at its limit (R240, R241). -/
def formTrim (s : State) : Rat × Bool :=
  if s.cfgU 0x5000 0x07 = 1 ∧ s.shelfSoc < s.cfgB 0x5000 0x08 ∧ s.bothAbsent = false then
    let want := s.pRec / s.gov.fHi
    let lim := s.cfgB 0x5000 0x0B * s.gov.pPk
    (min want lim, decide (lim ≤ want))
  else (0, false)

/-- P_cap (R238, R241). -/
def formCap (s : State) : Rat :=
  let ride := s.bothAbsent
  let st := s.alloc.disLim * vSet s / 1000
  let base := min ((if ride then 0 else s.feed.pFd) + st) (formLim s)
  let base := if ride then min base (s.shelfEu * 3600 / ((s.cfgU 0x5000 0x11 % 65536 : Nat) : Rat)) else base
  if 0 < s.gov.trim then min base (s.gov.pPk - s.gov.trim) else base

/-- Floor demand of partition k; of the chips in no partition for k = 64. -/
def State.floorDemand (s : State) (k : Nat) : Rat :=
  sumQ ((s.chipsIn k Chip.counted).map fun c => s.kappaOf c * s.pointP c 0)

/-- D_k(i) over the chips that run at the partition's point. -/
def State.demand (s : State) (k i : Nat) : Rat :=
  (s.part k).kappa * sumQ ((s.chipsIn k Chip.runs).map fun c => s.pointP c i)

/-- B_cool,k (R243). -/
def formCool (s : State) (k : Nat) : Rat :=
  let w := s.cfgU (0x5100 + k) 0x09
  let e := sumQ (((s.part k).history.filter fun h => decide (s.now < h.1 + (w * sec - ms))).map (·.2)) / 1000000
  let b := (s.cfgB (0x5100 + k) 0x08 * (w : Rat) - e) * 1000
  max (s.floorDemand k) (min (s.cfgB (0x5100 + k) 0x0A) b)

/-! ### The cut: points and shifting (R244 to R247, R253) -/

/-- κ_k at the cut (R244). -/
def kappaStep (k : Nat) (s : State) : State :=
  let cs := s.chipsIn k fun x => x.st == .admitted
  let fresh := cs.all fun c => match (s.chip c).repAt with | some a => decide (s.now ≤ a + ms) | none => false
  let table := sumQ (cs.map fun c => s.pointP c (u8At (s.chip c).slot 5))
  if cs = [] ∨ fresh = false ∨ table = 0 then s else
    let rho := sumQ (cs.map fun c => ((u32At (s.chip c).slot 20 : Nat) : Rat) / 1000000) / table
    s.updPart k (fun p => { p with kappa := clampQ (1 / 2) (3 / 2) (p.kappa + (rho - p.kappa) / 16) })

/-- One pass over the partitions of a class (R246): used, and whether anything rose. -/
def raisePass (cls : Nat) (cool : List Rat) (s : State) (used : Rat) : State × Rat × Bool :=
  (List.range Config.partitions).foldl (fun (acc : State × Rat × Bool) k =>
    let p := acc.1.part k
    let top := if cls = 1 then p.fixed else 31
    let next := acc.1.demand k (p.point + 1)
    let step := next - acc.1.demand k p.point
    if p.cls = cls ∧ p.point < top ∧ acc.2.1 + step ≤ acc.1.gov.bGov ∧ next ≤ get 0 cool k then
      (acc.1.updPart k (fun p => { p with point := p.point + 1 }), acc.2.1 + step, true)
    else acc) (s, used, false)

/-- Passes until one raises nothing; 31 × 64 rises at most. -/
def raiseAll (cls : Nat) (cool : List Rat) : Nat → State → Rat → State × Rat
  | 0, s, used => (s, used)
  | n + 1, s, used =>
    let r := raisePass cls cool s used
    if r.2.2 then raiseAll cls cool n r.1 r.2.1 else (r.1, r.2.1)

/-- Shifting in one partition: what is used, its demand, the chips raised and lowered (R253). -/
structure Shift where
  used : Rat
  dk : Rat
  up : List Nat
  down : List Nat
  donors : List Nat
deriving DecidableEq, Repr

/-- Chips in order of averaged slack, ties to the lower number; greatest first when `rev`. -/
def State.bySlack (s : State) (cs : List Nat) (rev : Bool) : List Nat :=
  cs.mergeSort fun a b =>
    let x := (s.chip a).slack
    let y := (s.chip b).slack
    if x = y then decide (a ≤ b) else if rev then decide (y < x) else decide (x < y)

/-- A candidate raised within the remainder, or by lowering the next donor (R253). -/
def shiftOne (k i : Nat) (cool : Rat) (pair : Bool) (s : State) (x : Shift) (c : Nat) : Shift :=
  let kap := (s.part k).kappa
  let f := (s.part k).fMean
  let dUp := kap * (s.pointP c (i + 1) - s.pointP c i)
  if 31 ≤ i ∨ x.up.contains c ∨ f * 102 < (s.pointF c (i + 1) : Rat) * 100 then x
  else if pair = false then
    (if x.used + dUp ≤ s.gov.bGov ∧ x.dk + dUp ≤ cool then
      { x with used := x.used + dUp, dk := x.dk + dUp, up := x.up ++ [c] } else x)
  else
    match x.donors.find? fun d => d != c && decide (0 < i) && decide (f * 98 ≤ (s.pointF d (i - 1) : Rat) * 100) with
    | none => x
    | some d =>
      let dDn := kap * (s.pointP d i - s.pointP d (i - 1))
      if x.dk + dUp - dDn ≤ x.dk + (s.gov.bGov - x.used) then
        { used := x.used + dUp - dDn, dk := x.dk + dUp - dDn, up := x.up ++ [c], down := x.down ++ [d]
          donors := x.donors.filter (· != d) }
      else x

/-- Critical-path shifting of partition k (R253): used after it, chips raised, chips lowered. -/
def shiftPart (k : Nat) (cool used : Rat) (s : State) : Shift :=
  let p := s.part k
  let cs := s.chipsIn k Chip.runs
  let adm := s.chipsIn k fun x => x.st == .admitted
  let ns := (s.cfgB (0x5100 + k) 0x0D * (adm.length : Rat)).floor.toNat
  let known := cs.filter fun c => decide (8 ≤ (s.chip c).flights)
  let cands := (s.bySlack known false).take ns
  let donors := ((s.bySlack known true).take ns).filter fun d => !cands.contains d
  let x : Shift := { used := used, dk := s.demand k p.point, up := [], down := [], donors := donors }
  if p.cls ≠ 0 ∨ s.cfgU (0x5100 + k) 0x0C ≠ 1 then x else
    let x := cands.foldl (shiftOne k p.point cool false s) x
    cands.foldl (shiftOne k p.point cool true s) x

/-! ### The cut: grants (R236, R254, Table 8.2) -/

/-- A floor grant (R236). -/
def floorGrant (s : State) (c e : Nat) (moved : Bool) : Grant :=
  let k := s.partOf c
  { chip := c, epoch := e % 65536, cap := (s.kappaOf c * s.pointP c 0 * 1000000).floor.toNat, point := 0
    part := if k < 64 then k else 0xFF, cls := if k < 64 then (s.part k).cls else 0xFF
    flags := 2 + 4 * b2n moved }

/-- The grants of chips in partition k at their points (R254). -/
def partGrants (s : State) (k e : Nat) (cool : Rat) (total : Rat) (x : Shift) (moved : List Nat) : List Grant :=
  let p := s.part k
  let ptOf := fun c => if x.up.contains c then p.point + 1 else if x.down.contains c then p.point - 1 else p.point
  let r0 := if 0 < total then s.gov.bGov / total else 1
  let r1 := if 0 < x.dk then cool / x.dk else 11 / 10
  let r := max 1 (min (min r0 r1) (11 / 10))
  (s.chipsIn k Chip.runs).map fun c =>
    { chip := c, epoch := e % 65536, cap := (r * p.kappa * s.pointP c (ptOf c) * 1000000).floor.toNat
      point := ptOf c, part := k, cls := p.cls, flags := b2n (x.up.contains c) + 4 * b2n (moved.contains c) }

/-- Grants in order of chip. -/
def sortGrants (l : List Grant) : List Grant := l.mergeSort fun a b => decide (a.chip ≤ b.chip)

/-- Chips that report since takeover and have no table (R257); one that has departed reports no more. -/
def State.blindChips (s : State) : List Nat :=
  (s.gov.chips.filter fun e => e.2.reported && !e.2.counted && !e.2.gone).map (·.1)

/-- The caps of BLIND (R257). -/
def blindGrants (s : State) (e : Nat) (moved : List Nat) : List Grant :=
  let n := (s.gov.chips.filter fun x => x.2.reported).length
  s.blindChips.map fun c =>
    let k := s.partOf c
    { chip := c, epoch := e % 65536, cap := (s.gov.bGov / (n : Rat) * 1000000).floor.toNat, point := 31
      part := if k < 64 then k else 0xFF, cls := if k < 64 then (s.part k).cls else 0xFF
      flags := 8 + 4 * b2n (moved.contains c) }

/-- What the cut says of partition k's points (R246, R247): the mean frequency, and 0708h where a Fixed partition ends
below its fixed point. -/
def closePoints (k : Nat) (s : State) : State :=
  let cs := s.chipsIn k Chip.runs
  let p := s.part k
  let low := decide (p.cls = 1) && decide (p.point < p.fixed)
  let s := s.updPart k (fun p => { p with fMean := meanQ (cs.map fun c => (s.pointF c p.point : Rat)), up708 := low })
  if low && !p.up708 then s.raise 0x0708 k else s

/-- Every partition starts at point 0, none shifted (R246). -/
def startPoints (s : State) : State :=
  { s with gov := { s.gov with parts := s.gov.parts.map fun p => { p with point := 0, raised := 0, lowered := 0 } } }

/-- The cut's grants in order of chip; those of chips whose table was lost in memory ask for it (R305). -/
def publishGrants (l : List Grant) (s : State) : State :=
  let gs := (sortGrants l).map fun g =>
    if s.gov.lostTables.contains g.chip then { g with flags := g.flags ||| 8 } else g
  let left := s.gov.lostTables.filter fun c => !(gs.any fun g => g.chip == c)
  { s with gov := { s.gov with grants := gs, lostTables := left } }

/-- Floor grants for every chip that has a table, and the blind caps in BLIND. -/
def floorGrants (e : Nat) (moved : List Nat) (s : State) : State :=
  let s := (List.range Config.partitions).foldl (fun s k => closePoints k s) (startPoints s)
  let cs := (s.gov.chips.filter fun x => x.2.counted).map (·.1)
  let gs := cs.map fun c => floorGrant s c e (moved.contains c)
  let bl := if s.gov.st = .blind then blindGrants s e moved else []
  publishGrants (gs ++ bl) s

/-- The grants of a cut with points computed (R246, R253, R254). -/
def computedGrants (e : Nat) (moved : List Nat) (s : State) : State :=
  let s := startPoints s
  let cool := (List.range Config.partitions).map (formCool s)
  let floor := sumQ ((List.range 65).map s.floorDemand)
  let r := raiseAll 1 cool 2000 s floor
  let r := raiseAll 0 cool 2000 r.1 r.2
  let s := r.1
  let s := (List.range Config.partitions).foldl (fun s k => closePoints k s) s
  let sh := (List.range Config.partitions).foldl (fun (acc : Rat × List Shift) k =>
    let x := shiftPart k (get 0 cool k) acc.1 s
    (x.used, acc.2 ++ [x])) (r.2, [])
  let none_ : Shift := { used := 0, dk := 0, up := [], down := [], donors := [] }
  let gs := (List.range Config.partitions).flatMap fun k =>
    partGrants s k e (get 0 cool k) sh.1 (get none_ sh.2 k) moved
  let fl := (s.gov.chips.filter fun x => x.2.counted && !(x.2.runs && decide (s.partOf x.1 < 64))).map fun x =>
    floorGrant s x.1 e (moved.contains x.1)
  let s := (List.range Config.partitions).foldl (fun s k =>
    let x := get none_ sh.2 k
    s.updPart k (fun p => { p with raised := x.up.length, lowered := x.down.length })) s
  publishGrants (gs ++ fl) s

/-! ### The cut as a whole (R226) -/

/-- The borders, classes and fixed points as written (R248). -/
def newBorders (s : State) : State :=
  let f := fun k (p : Partition) =>
    let v := fun sub => s.cfgU (0x5100 + k) sub
    { p with first := v 0x01, last := v 0x02, cls := v 0x03, fixed := v 0x04 }
  { s with gov := { s.gov with commit := none, parts := s.gov.parts.mapIdx f } }

/-- Pending borders take effect (R248, R249): the chips whose partition changed. -/
def applyBorders (s : State) : State × List Nat :=
  let old := s.gov.chips.map fun e => (e.1, s.partOf e.1)
  let new_ := newBorders s
  let moved := old.filter fun e => new_.partOf e.1 != e.2
  let s := moved.foldl (fun s e => leaveFlights e.2 e.1 s) s
  let s := newBorders s
  let s := moved.foldl (fun s e =>
    let c := e.1
    let k := s.partOf c
    let s := s.updChip c (fun x => { x with slack := 0, flights := 0, part := k })
    if k < 64 then s.updPart k (fun p => { p with gates := p.gates.map fun x => { x with barred := c :: x.barred } })
    else s) s
  let s := moved.foldl (fun s e => if (s.chip e.1).counted then bandCheck e.1 s else s) s
  (s.raise 0x070A noInst, moved.map (·.1))

/-- Two pending ranges overlap (R248). -/
def bordersOverlap (s : State) : Bool :=
  let used := (List.range Config.partitions).filter fun k => s.cfgU (0x5100 + k) 0x03 != 0xFF
  let f := fun k => s.cfgU (0x5100 + k) 0x01
  let l := fun k => s.cfgU (0x5100 + k) 0x02
  used.any fun a => used.any fun b => decide (a < b) && decide (f a ≤ l b) && decide (f b ≤ l a)

/-- A commit at its cut (R248): ignored as a violation of its session where a write since has made the pending ranges
overlap. -/
def applyCommit (s : State) : State × List Nat :=
  match s.gov.commit with
  | none => (s, [])
  | some ses =>
    if bordersOverlap s then (State.violate { s with gov := { s.gov with commit := none } } ses 0x5000 0x02, [])
    else applyBorders s

/-- States at the cut (R236, R241, R257). -/
def govStates (s : State) : State :=
  let st := s.gov.st
  let st' :=
    if st = .run ∧ s.bothAbsent then .ride
    else if st = .ride ∧ s.bothAbsent = false then .run
    else if st = .blind ∧ s.blindChips = [] ∧ (s.gov.chips.any fun e => e.2.reported) then
      (if s.bothAbsent then .ride else .run)
    else st
  let s := { s with gov := { s.gov with st := st' } }
  let s := if st' = .ride ∧ st ≠ .ride then s.raise 0x0709 noInst else s
  if st' = .run ∧ s.cfgB 0x5000 0x12 ≤ s.shelfSoc then
    let cs := (s.gov.chips.filter fun e => e.2.st == .ready).map (·.1)
    let s := cs.foldl (fun s c => s.updChip c (fun x => { x with st := .admitted, lastAt := max x.lastAt s.now })) s
    cs.foldl (fun s c => bandCheck c s) s
  else s

/-- The rack quantities of the cut (R238 to R241). -/
def govBudget (s : State) : State :=
  let old := s.gov
  let s := { s with feed := { s.feed with pFd := s.sumK } }
  let s := { s with gov := { s.gov with pPk := formPk s, fHi := formHi s, pUng := formUng s } }
  let t := formTrim s
  let s := { s with gov := { s.gov with trim := t.1, up702 := t.2 } }
  let cap := formCap s
  let s := { s with gov := { s.gov with pCap := cap, bGov := max 0 (cap - s.gov.pUng) } }
  let s := when_ (decide (0 < t.1) && decide (old.trim = 0)) (fun s => s.raise 0x0701 noInst) s
  when_ (t.2 && !old.up702) (fun s => s.raise 0x0702 noInst) s

/-- Energy of the epoch just ended, kept for the longest window (R243). -/
def energyEpoch (s : State) : State :=
  let f := fun (p : Partition) =>
    let h := ((s.now, p.epochEnergy) :: p.history).takeWhile fun h => decide (s.now < h.1 + 30 * sec)
    { p with epochEnergy := 0, history := h }
  { s with gov := { s.gov with parts := s.gov.parts.map f } }

/-- Budgets of the partitions: the sum of their caps (Table 8.11). -/
def partBudgets (s : State) : State :=
  let f := fun k (p : Partition) =>
    { p with budget := sumQ ((s.gov.grants.filter fun g => g.part == k).map fun g => (g.cap : Rat) / 1000000) }
  { s with gov := { s.gov with parts := s.gov.parts.mapIdx f } }

/-- Gates of partitions that have chips and no armed gate (log entry 39). -/
def armIdle (s : State) : State :=
  if s.gov.gateBase = 0 then s else
    (List.range Config.partitions).foldl (fun s k =>
      if (s.part k).cls = 0xFF ∨ (s.chipsIn k fun x => x.st == .admitted) = [] then s else
        [0, 1].foldl (fun s i =>
          let n := ((s.part k).flight + i) % 65536
          let n := if s.flightPassed k n then (n + 2) % 65536 else n
          if (s.gate (s.flightGate k n)).barrier = 0 then armFlight k n s else s) s) s

/-- A change of the total budget above the load-step threshold is an internal entry of the forecaster (R207). -/
def budgetEntry (old : Gov) (s : State) : State :=
  let d := (s.gov.bGov - old.bGov) * 1000
  if old.cutAt.isSome ∧ s.cfgB 0x2200 0x0C * vSet s < absQ d then schedInternal s.now (roundEven d) s else s

/-- The governor's period is void (R303, R306, R307): its void stages are counted, no grant leaves, and its state stands
as it stood. -/
def voidEpoch (s : State) : State :=
  let n := ((List.range (fwStages 19)).filter (s.fwStageVoid 19)).length
  { s with
    gov := { s.gov with cutAt := some s.now }
    grid := { s.grid with voids := s.grid.voids + n, fwVoid := s.grid.fwVoid.filter fun e => e.1 != 19 }
    slots := upd s.slots 19 fun x => { x with voids := x.voids + n } }

/-- The cut as far as the governed budget: energies, the commit, the correction factors, the states, the rack cap; with
the chips that a commit has moved (R238, R244, R248). -/
def cutBudget (s : State) : State × List Nat :=
  let b := applyCommit (energyEpoch s)
  (govBudget (govStates ((List.range Config.partitions).foldl (fun s k => kappaStep k s) b.1)), b.2)

/-- EPOCH_CUT (R226): on each whole millisecond, once, on the module that drives the shelf; after a step from the next
millisecond on (R369). -/
def epochCutEff (s : State) : State :=
  if s.now % ms ≠ 0 ∨ s.gov.cutAt = some s.now ∨ s.drives = false then s
  else if s.withheld s.now then s
  else if s.fwStopped 19 then voidEpoch s else
    let e := s.now / ms
    let old := s.gov
    let b := cutBudget s
    let s := b.1
    let floor := sumQ ((List.range 65).map s.floorDemand)
    let short := decide (s.gov.bGov < floor)
    let s := when_ (short && !s.gov.up703) (fun s => s.raise 0x0703 noInst) s
    let s := { s with gov := { s.gov with epoch := e, cutAt := some s.now, up703 := short } }
    let s := match s.gov.st with
      | .off | .blind => floorGrants e b.2 s
      | _ => if short then floorGrants e b.2 s else computedGrants e b.2 s
    budgetEntry old (armIdle (partBudgets s))

/-! ### Commands -/

/-- Command 1 (R260). -/
def governorStartEff (ses : Nat) (s : State) : State :=
  if s.gov.st = .off then { s with gov := { s.gov with st := .run } } else s.violate ses 0x5000 0x02

/-- Command 2 (R260): floor grants from the next cut. -/
def governorStopEff (ses : Nat) (s : State) : State :=
  if s.gov.st = .off then s.violate ses 0x5000 0x02 else { s with gov := { s.gov with st := .off } }

/-- Command 3 (R248). -/
def commitBordersEff (ses : Nat) (s : State) : State :=
  if bordersOverlap s then s.violate ses 0x5000 0x02 else { s with gov := { s.gov with commit := some ses } }

/-- Route one flight gate (R250): unrouted first, and so it stays where R330 refuses. -/
def routeFlight (ses k i src : Nat) (s : State) : State :=
  let g := s.gov.gateBase + 2 * k + i
  if s.gov.gateBase = 0 then s else
    let s := gateRouteEff govParty g 0 s
    if src = 0 then s
    else if s.routeFree g src then gateRouteEff govParty g src s
    else
      let s := gateRouteEff govParty g src s
      if ses < Config.sessions then s.violate ses (0x5100 + k) 0x17 else s

/-- A write of [5100+k.17] (R250). -/
def flightSourcesEff (ses k v : Nat) (s : State) : State :=
  let a := v % 65536
  let b := v / 65536
  let ok := fun x => x == 0 || (decide (384 ≤ x) && decide (x < 1024))
  if v < 4294967296 ∧ ok a ∧ ok b then
    routeFlight ses k 1 b (routeFlight ses k 0 a (s.setCfg (0x5100 + k) 0x17 v))
  else s.violate ses (0x5100 + k) 0x17

/-- The governor's flight gates at start (R250, R328): 128 barriers from 2048 up, routed as written, the drain free
to signal (R403). -/
def governorGates (s : State) : State :=
  let r := allocGates 128 1 2 0 s
  let s := { r.2 with gov := { r.2.gov with gateBase := r.1 }, port := { r.2.port with drainHeld := false } }
  (List.range Config.partitions).foldl (fun s k =>
    let v := s.cfgU (0x5100 + k) 0x17
    routeFlight 0xFF k 1 (v / 65536) (routeFlight 0xFF k 0 (v % 65536) s)) s

/-- Command 4 (R260): the counters not kept since power-up. -/
def governorClearEff (s : State) : State :=
  { s with gov := { s.gov with
    stray := 0, dropped := 0, parts := s.gov.parts.map fun p => { p with timedOut := 0 } } }

/-! ### Meanings -/

/-- EPOCH_CUT (R226). -/
def execEpochCut (s : State) : Host.Outcome State Fault Refusal := run true s epochCutEff

/-- REPORT (R231, R251). -/
def execReport (frame : Bytes) (s : State) : Host.Outcome State Fault Refusal := run true s (reportEff frame)

/-- CHIP_SILENT (R237). -/
def execChipSilent (chip : Nat) (s : State) : Host.Outcome State Fault Refusal :=
  run (decide (chip < Config.chips)) s (chipSilentEff chip)

/-- FLIGHT_CLOSE (R252). -/
def execFlightClose (k : Nat) (s : State) : Host.Outcome State Fault Refusal :=
  run (decide (k < Config.partitions)) s (flightCloseEff k)

/-- FLIGHT_TIMEOUT (R252). -/
def execFlightTimeout (k : Nat) (s : State) : Host.Outcome State Fault Refusal :=
  run (decide (k < Config.partitions)) s (flightTimeoutEff k)

/-- OP_TABLE_WRITE (R234). -/
def execOpTableWrite (ses seq offset : Nat) (data : Bytes) (s : State) : Host.Outcome State Fault Refusal :=
  run (decide (ses < Config.sessions)) s (opTableEff ses seq offset data)

/-- GOVERNOR_START (R260). -/
def execGovernorStart (ses : Nat) (s : State) : Host.Outcome State Fault Refusal :=
  run (decide (ses < Config.sessions)) s (governorStartEff ses)

/-- GOVERNOR_STOP (R260). -/
def execGovernorStop (ses : Nat) (s : State) : Host.Outcome State Fault Refusal :=
  run (decide (ses < Config.sessions)) s (governorStopEff ses)

/-- COMMIT_BORDERS (R248). -/
def execCommitBorders (ses : Nat) (s : State) : Host.Outcome State Fault Refusal :=
  run (decide (ses < Config.sessions)) s (commitBordersEff ses)

/-- GOVERNOR_CLEAR_COUNTERS (R260). -/
def execGovernorClearCounters (ses : Nat) (s : State) : Host.Outcome State Fault Refusal :=
  run (decide (ses < Config.sessions)) s governorClearEff

/-- FLIGHT_SOURCES_WRITE (R250). -/
def execFlightSourcesWrite (ses k v : Nat) (s : State) : Host.Outcome State Fault Refusal :=
  runObj ses (0x5100 + k) 0x17 (decide (k < Config.partitions)) s (flightSourcesEff ses k v)

end Sys2Proof.Machine
end

