-- ==== Sys2Proof/Machine/Stages.lean ====
section
/-! DEFINITION. Stages and their operators (chapter 12), inputs, firing, voids (R297, R303). -/

namespace Sys2Proof.Machine

/-! ### Slots -/

/-- Slot n. -/
def State.slot (s : State) (n : Nat) : Slot := get Slot.reset s.slots n

/-- Change it. -/
def State.updSlot (s : State) (n : Nat) (f : Slot → Slot) : State := { s with slots := upd s.slots n f }

/-- The container of a slot as its blocks give it (R352). -/
def Slot.image (x : Slot) : Bytes :=
  let b0 := Store.get [] x.blocks 0
  let n := u32At b0 8
  ((List.range ((n + 8191) / 8192)).flatMap fun i => padTo 8192 (Store.get [] x.blocks i)).take n

/-- Its program. -/
def Slot.program (x : Slot) : Program := parseProgram x.image

/-- Step of a program's period tags (Table 12.3). -/
def Program.step (p : Program) : Nat :=
  match p.period with
  | 2 => 10
  | 3 => 1000
  | _ => 1

/-- The physical core of core j of a rectangle (R300). -/
def Running.core (r : Running) (j : Nat) : Nat := r.first + j % r.width + 8 * (j / r.width)

/-- All its cores. -/
def Running.cores (r : Running) : List Nat := (List.range (r.width * r.height)).map r.core

/-- Channel of a TICK among a stage's inputs, and of an event record. -/
def tickChan : Nat := 65536

/-- The event record's. -/
def eventChan : Nat := 65537

/-! ### Memory -/

/-- Bytes of a store. -/
def memRead (m : List (Nat × Byte)) (base len : Nat) : Bytes := (List.range len).map fun i => Store.get 0 m (base + i)

/-- Write bytes. -/
def memWrite (m : List (Nat × Byte)) (base : Nat) : Bytes → List (Nat × Byte)
  | [] => m
  | b :: bs => memWrite (Store.set 0 m base b) (base + 1) bs

/-- Forget a range. -/
def memClear (m : List (Nat × Byte)) (base len : Nat) : List (Nat × Byte) :=
  m.filter fun e => decide (e.1 < base) || decide (base + len ≤ e.1)

/-! ### Operators (Table 12.7) -/

/-- A firing in progress: memory, blocks sent by channel, gate words, saturation, digest selections (none: the sent
blocks), most negative codes read. -/
structure Firing where
  mem : List (Nat × Byte)
  sends : List (Nat × Bytes)
  words : List Bytes
  sat : Bool
  dig : List (Option Bytes)
  bad : Nat
deriving DecidableEq, Repr

/-- Where a stage runs: base of its core's SRAM, its slot, its tag, its program, gates, inputs by channel. -/
structure FireCtx where
  base : Nat
  slot : Nat
  tag : Nat
  prog : Program
  gates : List (Nat × Nat)
  inputs : List StageIn
deriving DecidableEq, Repr

/-- Bytes of one core's SRAM in a store of all of them. -/
def sramBytes : Nat := 262144

/-- Bytes of the stage's core. No operator reaches another core's SRAM (R282, R298): a byte past the end of its own reads
as 00h, and a write there goes nowhere (log entry 43). -/
def coreRead (c : FireCtx) (m : List (Nat × Byte)) (a len : Nat) : Bytes :=
  padTo len (memRead m (c.base + a) (min len (sramBytes - a)))

/-- Write bytes of the stage's core, as far as its SRAM goes. -/
def coreWrite (c : FireCtx) (m : List (Nat × Byte)) (a : Nat) (b : Bytes) : List (Nat × Byte) :=
  memWrite m (c.base + a) (b.take (sramBytes - a))

/-- Bytes of the block at an address in 8-byte units. -/
def blockAt (c : FireCtx) (m : List (Nat × Byte)) (a : Nat) : Bytes :=
  let h := coreRead c m (8 * a) 4
  coreRead c m (8 * a) (blockLen (u8At h 1) (min 64 (u8At h 2)))

/-- Block k of a run of blocks, each beginning at the next 8-byte unit (log entry 43). -/
def nextBlockUnit (c : FireCtx) (m : List (Nat × Byte)) : Nat → Nat → Nat
  | 0, a => a
  | k + 1, a => nextBlockUnit c m k (a + ((blockAt c m a).length + 7) / 8)

/-- The first n elements of a run of blocks, as terms, each with the address of its block. -/
def runElems (c : FireCtx) (m : List (Nat × Byte)) : Nat → Nat → Nat → List (Nat × Term)
  | 0, _, _ => []
  | fuel + 1, a, n =>
    let b := parseBlock (blockAt c m a)
    let k := b.m.length
    if k = 0 then List.replicate n (a, ⟨0, 0, 0⟩)
    else if n ≤ k then (List.range n).map fun i => (a, b.term i)
    else (List.range k).map (fun i => (a, b.term i)) ++ runElems c m fuel (nextBlockUnit c m 1 a) (n - k)

/-- The terms alone. -/
def runTerms (c : FireCtx) (m : List (Nat × Byte)) (fuel a n : Nat) : List Term := (runElems c m fuel a n).map (·.2)

/-- Write a block at an address. -/
def putBlock (c : FireCtx) (a : Nat) (b : Bytes) (f : Firing) : Firing :=
  { f with mem := coreWrite c f.mem (8 * a) b }

/-- Renormalise an operator's values to its output block (R292, R293). -/
def putOut (c : FireCtx) (o : Op) (vs : List Rat) (f : Firing) : Firing :=
  let b := renorm o.fmt o.norm o.e vs
  putBlock c o.d (blockBytes b) { f with sat := f.sat || b.sat }

/-- Units of 8 bytes between the blocks of an operator's state (log entry 43). -/
def stateStride : Nat := 25

/-- Block k of an operator's state. -/
def stateBlock (c : FireCtx) (o : Op) (f : Firing) (k : Nat) : Block :=
  parseBlock (blockAt c f.mem (o.s + stateStride * k))

/-- BIQUAD: the difference equation of chapter 02, per element; state x1, x2, y1, y2. -/
def opBiquad (c : FireCtx) (o : Op) (f : Firing) : Firing :=
  let xb := blockAt c f.mem o.a
  let x := parseBlock xb
  let b := runTerms c f.mem 2 o.b 5
  let k := fun i => b.getD i ⟨0, 0, 0⟩
  let st := stateBlock c o f
  let v := (List.range o.n).map fun i => sumTerms
    [(k 0).mul (x.term i), (k 1).mul ((st 0).term i), (k 2).mul ((st 1).term i), ((k 3).mul ((st 2).term i)).neg
     , ((k 4).mul ((st 3).term i)).neg]
  let x1 := blockAt c f.mem o.s
  let y1 := blockAt c f.mem (o.s + 2 * stateStride)
  let f := putOut c o v f
  let y := blockAt c f.mem o.d
  putBlock c o.s xb (putBlock c (o.s + stateStride) x1 (putBlock c (o.s + 2 * stateStride) y
    (putBlock c (o.s + 3 * stateStride) y1 f)))

/-- Terms with the pair of blocks each comes from: those of one pair are summed exactly (R291). -/
def pairSums (l : List ((Nat × Nat) × Term)) : List Term :=
  (l.map (·.1)).eraseDups.map fun a => sumPair ((l.filter fun e => e.1 == a).map (·.2))

/-- PID: P_i, then I_i + D_i; integrator, last error, derivative (log entry 44). The integrator and the derivative are
kept in the mode and on the exponent declared for the stage (R294), and their saturation is the stage's (R293). -/
def opPid (c : FireCtx) (o : Op) (f : Firing) : Firing :=
  let eb := blockAt c f.mem o.a
  let e := parseBlock eb
  let ks := runElems c f.mem 2 o.b 4
  let k := fun i => ks.getD i (0, ⟨0, 0, 0⟩)
  let st := stateBlock c o f
  let times := fun (i : Nat) (other : Nat) (t : Term) => (((k i).1, other), (k i).2.mul t)
  let sat := if o.arg1 = 0 then fun _ => (0 : Rat) else fun i => ((parseBlock (blockAt c f.mem o.arg1)).term i).val
  let int := fun (i : Nat) =>
    let ei := (e.term i).val
    let own := ((0, 0), (st 0).term i)
    if (0 < sat i ∧ 0 < ei) ∨ (sat i < 0 ∧ ei < 0) then [own] else [own, times 1 1 (e.term i)]
  let der := fun (i : Nat) => [times 3 3 ((st 2).term i), times 2 1 (e.term i), times 2 2 ((st 1).term i).neg]
  let each := fun (g : Nat → List ((Nat × Nat) × Term)) => (List.range o.n).map fun i => sumTerms (pairSums (g i))
  let keep := fun g => renorm 3 o.norm o.e (each g)
  let int' := keep int
  let der' := keep der
  let f := putOut c o (each (fun i => [times 0 1 (e.term i)]) ++ each fun i => int i ++ der i)
    { f with sat := f.sat || int'.sat || der'.sat }
  putBlock c o.s (blockBytes int') (putBlock c (o.s + stateStride) eb
    (putBlock c (o.s + 2 * stateStride) (blockBytes der') f))

/-- FIR: k taps, the k − 1 inputs before kept newest first. -/
def opFir (c : FireCtx) (o : Op) (f : Firing) : Firing :=
  let xb := blockAt c f.mem o.a
  let taps := runTerms c f.mem (o.arg1 + 1) o.b o.arg1
  let past := (List.range (o.arg1 - 1)).map fun j => blockAt c f.mem (o.s + stateStride * j)
  let xs := (xb :: past).map parseBlock
  let f := putOut c o ((List.range o.n).map fun i => sumTerms ((taps.zip xs).map fun q => q.1.mul (q.2.term i))) f
  ((xb :: past).take (o.arg1 - 1)).zipIdx.foldl (fun f q => putBlock c (o.s + stateStride * q.2) q.1 f) f

/-- The products of a row, those with one block of the matrix summed exactly (R291). -/
def rowTerms (x : Block) (row : List (Nat × Term)) : List Term :=
  pairSums (row.mapIdx fun j e => ((e.1, 0), e.2.mul (x.term j)))

/-- MATVEC: r rows, bias last. -/
def opMatvec (c : FireCtx) (o : Op) (f : Firing) : Firing :=
  let x := parseBlock (blockAt c f.mem o.a)
  let rows := runElems c f.mem (o.arg1 * o.n + 1) o.b (o.arg1 * o.n)
  let bias := if o.s = 0 then none else some (parseBlock (blockAt c f.mem o.s))
  putOut c o ((List.range o.arg1).map fun r =>
    let row := rowTerms x ((rows.drop (r * o.n)).take o.n)
    sumTerms (match bias with
      | some b => row ++ [b.term r]
      | none => row)) f

/-- Linear interpolation in points (x, y), clamped at both ends. -/
def interp : List (Rat × Rat) → Rat → Rat
  | [], _ => 0
  | [p], _ => p.2
  | p :: q :: rest, v =>
    if v ≤ p.1 then p.2
    else if v < q.1 then p.2 + (q.2 - p.2) * (v - p.1) / (q.1 - p.1)
    else interp (q :: rest) v

/-- ACT: identity, rectify, clip at ±B[0], 16 segments between 17 points (log entry 44). -/
def opAct (c : FireCtx) (o : Op) (f : Firing) : Firing :=
  let x := parseBlock (blockAt c f.mem o.a)
  let b := (runTerms c f.mem 35 o.b 34).map Term.val
  let g := fun (v : Rat) => match o.arg1 with
    | 0 => v
    | 1 => max 0 v
    | 2 => clampQ (-(b.getD 0 0)) (b.getD 0 0) v
    | _ => interp ((b.take 17).zip (b.drop 17)) v
  putOut c o ((List.range o.n).map fun i => g (x.term i).val) f

/-- LOOKUP: x0, step, points. -/
def opLookup (c : FireCtx) (o : Op) (f : Firing) : Firing :=
  let x := parseBlock (blockAt c f.mem o.a)
  let b := (runTerms c f.mem (o.arg1 + 3) o.b (o.arg1 + 2)).map Term.val
  let pts := (b.drop 2).zipIdx.map fun q => (b.getD 0 0 + b.getD 1 0 * (q.2 : Rat), q.1)
  putOut c o ((List.range o.n).map fun i => interp pts (x.term i).val) f

/-- Limits of SAT and CMP: shared, or lo and hi per element. -/
def satLimits (c : FireCtx) (o : Op) (f : Firing) (per : Bool) (i : Nat) : Rat × Rat :=
  let b := (runTerms c f.mem 129 o.b (if per then 2 * o.n else 2)).map Term.val
  if per then (b.getD i 0, b.getD (o.n + i) 0) else (b.getD 0 0, b.getD 1 0)

/-- +1 above hi, −1 below lo, 0 otherwise. -/
def signOf (l : Rat × Rat) (v : Rat) : Rat := if l.2 < v then 1 else if v < l.1 then -1 else 0

/-- SAT, with its sign block in whole numbers (log entry 44). -/
def opSat (c : FireCtx) (o : Op) (f : Firing) : Firing :=
  let x := parseBlock (blockAt c f.mem o.a)
  let l := satLimits c o f (decide (o.arg1 = 1))
  let vs := (List.range o.n).map fun i => (x.term i).val
  let signs := vs.zipIdx.map fun q => signOf (l q.2) q.1
  let f := putOut c o (vs.zipIdx.map fun q => clampQ (l q.2).1 (l q.2).2 q.1) f
  if o.arg2 = 0 then f
  else putBlock c o.arg2 (blockBytes (renorm o.fmt false ((bfpWidth o.fmt - 1 : Nat) : Int) signs)) f

/-- CMP. -/
def opCmp (c : FireCtx) (o : Op) (f : Firing) : Firing :=
  let x := parseBlock (blockAt c f.mem o.a)
  let l := satLimits c o f false
  putOut c o ((List.range o.n).map fun i => signOf (l i) (x.term i).val) f

/-- The block, or the n units of a RAW channel, at A. -/
def sendBytes (c : FireCtx) (o : Op) (f : Firing) : Bytes :=
  match c.prog.chan o.arg1 with
  | some ch => if ch.fmt = 0 then coreRead c f.mem (8 * o.a) (8 * o.n) else blockAt c f.mem o.a
  | none => blockAt c f.mem o.a

/-- RECV: the input tagged with this period; a delayed channel's first period leaves the initial block (R349). The bytes
of a RAW channel come in one barge or more (R285). An Arg 1 that names no channel of the container reads the event record
of an event-bound stage (R354, log entry 44). -/
def opRecv (c : FireCtx) (o : Op) (f : Firing) : Firing :=
  match c.prog.chan o.arg1 with
  | some ch =>
    match c.inputs.filter fun i => i.channel == o.arg1 with
    | [] => f
    | i :: rest => putBlock c o.d (if ch.fmt = 0 then (i :: rest).flatMap (·.data) else i.data) f
  | none =>
    match c.inputs.find? fun i => i.channel == eventChan with
    | some i => putBlock c o.d i.data f
    | none => f

/-- The gate a container index names; 0 past its blocks. -/
def gateNo : List (Nat × Nat) → Nat → Nat
  | [], _ => 0
  | (b, n) :: rest, i => if i < n then b + i else gateNo rest (i - n)

/-- GWAIT (R315): a WAIT of two words. -/
def opGwait (c : FireCtx) (o : Op) (f : Firing) : Firing :=
  let w := le 1 2 ++ le 1 1 ++ le 2 (gateNo c.gates o.arg1) ++ coreRead c f.mem (8 * o.a) 4 ++ le 1 c.slot ++
    le 1 0 ++ le 2 o.arg2 ++ le 4 c.tag
  { f with words := f.words ++ [w] }

/-- GSIG: SIGNAL, ARM, ADJUST or CLEAR. -/
def opGsig (c : FireCtx) (o : Op) (f : Firing) : Firing :=
  let w := le 1 o.arg2 ++ le 1 1 ++ le 2 (gateNo c.gates o.arg1) ++ coreRead c f.mem (8 * o.a) 4
  { f with words := f.words ++ [w] }

/-- Addresses of the blocks an operator reads as numbers: its input, its parameters, its state (Table 12.7). -/
def opReads (c : FireCtx) (o : Op) (m : List (Nat × Byte)) : List Nat :=
  let run := fun (n : Nat) => ((runElems c m (n + 1) o.b n).map (·.1)).eraseDups
  let st := fun (n : Nat) => (List.range n).map fun j => o.s + stateStride * j
  let also := fun (a : Nat) => if a = 0 then [] else [a]
  match o.code with
  | 0x01 => o.a :: run 5 ++ st 4
  | 0x02 => o.a :: run 4 ++ st 3 ++ also o.arg1
  | 0x03 => o.a :: run o.arg1 ++ st (o.arg1 - 1)
  | 0x04 => o.a :: run (o.arg1 * o.n) ++ also o.s
  | 0x05 => o.a :: run (if o.arg1 ≤ 1 then 0 else if o.arg1 = 2 then 1 else 34)
  | 0x06 => o.a :: run (o.arg1 + 2)
  | 0x07 => o.a :: run (if o.arg1 = 1 then 2 * o.n else 2)
  | 0x08 => o.a :: run 2
  | _ => []

/-- Most negative codes in the blocks an operator reads, each counted once a reading (R290). -/
def opBad (c : FireCtx) (o : Op) (m : List (Nat × Byte)) : Nat :=
  ((opReads c o m).map fun a => badCodes (blockAt c m a)).foldl (· + ·) 0

/-- One operator. -/
def runOp (c : FireCtx) (f : Firing) (o : Op) : Firing :=
  let f := { f with bad := f.bad + opBad c o f.mem }
  match o.code with
  | 0x01 => opBiquad c o f
  | 0x02 => opPid c o f
  | 0x03 => opFir c o f
  | 0x04 => opMatvec c o f
  | 0x05 => opAct c o f
  | 0x06 => opLookup c o f
  | 0x07 => opSat c o f
  | 0x08 => opCmp c o f
  | 0x09 => { f with sends := f.sends ++ [(o.arg1, sendBytes c o f)] }
  | 0x0A => opRecv c o f
  | 0x0B => opGwait c o f
  | 0x0C => opGsig c o f
  | 0x0D => { f with dig := f.dig ++ [if o.arg1 = 1 then some (blockAt c f.mem o.a) else none] }
  | _ => f

/-- The operators of a stage, as they stand in its core's SRAM. -/
def stageOps (c : FireCtx) (m : List (Nat × Byte)) (st : StageDef) : List Op :=
  (List.range st.ops).map fun k => parseOp (coreRead c m (8 * st.firstOp + 16 * k) 16)

/-- Flag [0] of a block sent by a stage that saturated (R293). -/
def markSat (sat : Bool) (fmt : Nat) (b : Bytes) : Bytes :=
  if sat ∧ fmt ≠ 0 then patch b 3 [BitVec.ofNat 8 (u8At b 3 / 2 * 2 + 1)] else b

/-- A firing (R298): what it sends, what it leaves in memory, its digest. -/
def fireStage (c : FireCtx) (m : List (Nat × Byte)) (st : StageDef) : Firing :=
  let f := (stageOps c m st).foldl (runOp c) { mem := m, sends := [], words := [], sat := false, dig := [], bad := 0 }
  { f with sends := f.sends.map fun e => (e.1, markSat f.sat (((c.prog.chan e.1).map (·.fmt)).getD 3) e.2) }

/-- Digest of a firing (R355): the first 8 bytes of the hash, in the order the hash produces them. -/
def digestOf (f : Firing) : Nat :=
  let sent := f.sends.flatMap (·.2)
  let sel := if f.dig = [] then sent else f.dig.flatMap fun d => d.getD sent
  ofLe ((sha256 sel).take 8)

/-! ### Inputs and order of periods (R297, R301) -/

/-- A fresh stage of a bound program. -/
def StageRt.fresh : StageRt := { last := none, ahead := [], run := 0, sat := false, digest := 0, fired := 0 }

/-- Stage k of a running program. -/
def Running.stage (r : Running) (k : Nat) : StageRt := get StageRt.fresh r.stages k

/-- a comes at or after b, modulo 2^32. -/
def tagGe (a b : Nat) : Bool := decide ((a + 4294967296 - b) % 4294967296 < 2147483648)

/-- The period is over for the stage: fired or voided. -/
def StageRt.over (x : StageRt) (tag : Nat) : Bool :=
  x.ahead.contains tag || (match x.last with | some l => tagGe l tag | none => false)

/-- The channels a stage needs in a period: a delayed one not in the first (R349). -/
def needs (p : Program) (k : Nat) (first : Bool) : List Nat :=
  let st := p.stages.getD k ⟨0, 0, 0, 0, 0, 0, 0⟩
  ((p.chans.filter fun c => c.consumer == k && !(c.kind == 1 && first)).map (·.id)) ++
    (if bit st.flags 0 then [tickChan] else []) ++ (if bit st.flags 1 then [eventChan] else [])

/-- Units of 8 bytes that the stage's RECV takes from a RAW channel; none where the channel has another format, or no RECV
names it. -/
def rawUnits (p : Program) (k c : Nat) : Option Nat :=
  match p.chan c with
  | some ch =>
    if ch.fmt = 0 then
      ((p.opsOf (p.stages.getD k ⟨0, 0, 0, 0, 0, 0, 0⟩)).find? fun o => o.code == 0x0A && o.arg1 == c).map (·.n)
    else none
  | none => none

/-- An input is there. One that comes in several RAW barges is whole with a barge of less than 240 bytes, or with the
units its RECV takes (R285, log entry 42). -/
def inputHere (p : Program) (r : Running) (k tag c : Nat) : Bool :=
  let l := r.inputs.filter fun i => i.stage == k && i.tag == tag && i.channel == c
  match rawUnits p k c with
  | some n => l.any (fun i => decide (i.data.length < 240)) || (l != [] && decide (8 * n ≤ (l.map (·.data.length)).sum))
  | none => l != []

/-- The stage has every input of a period; one without inputs never fires. -/
def ready (p : Program) (r : Running) (k tag : Nat) : Bool :=
  needs p k false != [] && (needs p k ((r.stage k).last == none)).all (inputHere p r k tag)

/-- Tags a stage has inputs for and has not ended. -/
def pendingTags (r : Running) (k : Nat) : List Nat := ((r.inputs.filter fun i => i.stage == k).map (·.tag)).eraseDups

/-- The earliest of some tags, modulo 2^32. -/
def oldestTag (l : List Nat) : Option Nat :=
  match l with
  | [] => none
  | t :: rest => some (rest.foldl (fun a b => if tagGe b a then a else b) t)

/-- The first period of stage k: the earliest that something has arrived for, or, with delayed inputs alone, the first
after binding, for which nothing comes (R349). -/
def firstTag (p : Program) (r : Running) (k : Nat) : Nat :=
  if needs p k true = [] then r.origin else (oldestTag (pendingTags r k)).getD r.origin

/-- The period that stage k can fire now (R297): the one after its last, or its first. -/
def nextTag (p : Program) (r : Running) (k : Nat) : Option Nat :=
  match (r.stage k).last with
  | some l =>
    let t := (l + p.step) % 4294967296
    if ready p r k t then some t else none
  | none =>
    let t := firstTag p r k
    if ready p r k t then some t else none

/-- A period is over: it is the last one, and so are those voided right after it. -/
def absorb (step : Nat) : Nat → StageRt → StageRt
  | 0, x => x
  | n + 1, x =>
    match x.last with
    | some l =>
      let t := (l + step) % 4294967296
      if x.ahead.contains t then absorb step n { x with last := some t, ahead := x.ahead.filter (· != t) } else x
    | none => x

/-- End a period of stage k: its inputs go (R303). No period is skipped: one that ends before an earlier one waits ahead of
it (R297). -/
def endPeriod (p : Program) (k tag : Nat) (f : StageRt → StageRt) (r : Running) : Running :=
  let x := f (r.stage k)
  let next := match x.last with
    | some l => decide ((l + p.step) % 4294967296 = tag)
    | none => if needs p k true = [] then tag == r.origin else (pendingTags r k).all fun t => t == tag || !tagGe tag t
  let x := if next then absorb p.step (x.ahead.length + 1) { x with last := some tag }
    else { x with ahead := tag :: x.ahead }
  { r with stages := upd r.stages k (fun _ => x)
           inputs := r.inputs.filter fun i => !(i.stage == k && i.tag == tag) }

/-! ### Sending a stage's outputs -/

/-- The bindings written to [6100+n.0C]; entries of zeros are unused. -/
def State.writtenBinds (s : State) (n : Nat) : List Binding :=
  let b := le 512 (s.cfgU (0x6100 + n) 0x0C)
  ((List.range 64).map fun i =>
    let e := slice b (8 * i) 8
    (⟨u16At e 0, u8At e 2, u8At e 3, u16At e 4, u16At e 6⟩ : Binding)).filter fun x => x != ⟨0, 0, 0, 0, 0⟩

/-- The bindings of slot n that its last command 2 made (R353); an unbound slot's are kept (Table 12.12). -/
def State.bindings (s : State) (n : Nat) : List Binding := (s.slot n).binds

/-- The free slots. -/
def freeSlots : List Nat := (List.range 40).map (24 + ·)

/-- The entry takes the channel of another slot's output as an input of slot m. -/
def State.takesFrom (s : State) (m : Nat) (b : Binding) : Bool :=
  b.kind == 1 && (match (s.slot m).program.chan b.chan with
    | some c => c.kind == 2
    | none => false)

/-- The inputs of free slots that an output channel is bound to, by an entry of its own slot or of theirs (R354): slot and
channel. -/
def State.consumersOf (s : State) (n ch : Nat) : List (Nat × Nat) :=
  let own := (s.bindings n).filterMap fun b =>
    if b.chan = ch ∧ b.kind = 1 then some (b.peer, b.peerChan) else none
  let theirs := freeSlots.flatMap fun m => (s.bindings m).filterMap fun b =>
    if b.peer = n ∧ b.peerChan = ch ∧ s.takesFrom m b = true then some (m, b.chan) else none
  (own ++ theirs).eraseDups

/-- The slots that feed input channel ch of slot n, by its own entries or by theirs. -/
def State.feedersOf (s : State) (n ch : Nat) : List Nat :=
  let own := (s.bindings n).filterMap fun b => if b.chan = ch ∧ b.kind = 1 then some b.peer else none
  let theirs := freeSlots.filter fun m => (s.bindings m).any fun b =>
    b.kind == 1 && b.peer == n && b.peerChan == ch && !s.takesFrom m b
  (own ++ theirs).eraseDups

/-- The core that runs stage k of slot n. -/
def State.stageCore (s : State) (n k : Nat) : Nat :=
  match (s.slot n).rt with
  | some r => r.core ((s.slot n).program.stages.getD k ⟨0, 0, 0, 0, 0, 0, 0⟩).core
  | none => 0

/-- A block or a VOID to an input of a bound free slot. -/
def sendPeer (src kind tag m ch : Nat) (data : Bytes) (s : State) : State :=
  let peer := s.slot m
  match peer.st, peer.program.chan ch with
  | .bound, some pc => if pc.kind = 2 then sendBlock src (s.stageCore m pc.consumer) kind m ch tag data s else s
  | _, _ => s

/-- A block or a VOID to every input of a free slot that the output channel is bound to. -/
def sendPeers (n src kind tag ch : Nat) (data : Bytes) (s : State) : State :=
  (s.consumersOf n ch).foldl (fun s e => sendPeer src kind tag e.1 e.2 data s) s

/-- One block or VOID of a stage to every consumer of a channel (R303, R354). -/
def sendOut (n src kind tag : Nat) (ch : ChanDef) (data : Bytes) (s : State) : State :=
  let raw := if ch.fmt = 0 ∧ kind = 0 then 1 else kind
  match ch.kind with
  | 0 | 1 => sendBlock src (s.stageCore n ch.consumer) raw n ch.id tag data s
  | 3 =>
    let s := sendPeers n src raw tag ch.id data s
    if kind = 0 ∧ (s.bindings n).any (fun b => b.chan == ch.id && b.kind == 2) = true then
      s.updSlot n (fun x => { x with results := Store.ins ch.id data (Store.del x.results ch.id) })
    else s
  | 5 => if ch.consumer = 0xFF then sendBlock src 65 (if kind = 0 then 1 else kind) 0xFF ch.id tag data s else s
  | _ => s

/-- Slot n's records go to the capture ring: enabled from start for slots 0 to 20 (R356). -/
def State.captured (s : State) (n : Nat) : Bool := s.cfgU (0x6100 + n) 0x0D == 1

/-- A digest record (Table 12.9). -/
def digestRecord (digest tag n k : Nat) (isVoid sat : Bool) (s : State) : State :=
  if s.captured n then
    capRecord 1 n (le 8 digest ++ le 4 tag ++ le 1 n ++ le 1 k ++ le 1 (b2n isVoid + 2 * b2n sat) ++ le 1 0) s
  else s

/-- An input record (Table 12.9). -/
def inputRecord (n chan tag : Nat) (data : Bytes) (s : State) : State :=
  if s.captured n then capRecord 2 n (le 2 chan ++ le 2 0 ++ le 4 tag ++ data) s else s

/-- The state regions of a slot's cores (Table 12.9). -/
def stateRegions (mem : List (Nat × Byte)) (p : Program) (r : Running) : Bytes :=
  p.cores.zipIdx.flatMap fun q => memRead mem (262144 * r.core q.2 + q.1.stateAt) q.1.stateLen

/-- A delayed channel's block waits at the channel's place, where its consumer's RECV puts it (R349). -/
def placeDelayed (p : Program) (r : Running) (m : List (Nat × Byte)) : List (Nat × Byte) :=
  (p.chans.filter fun c => c.kind == 1).foldl (fun m c =>
    let st := p.stages.getD c.consumer ⟨0, 0, 0, 0, 0, 0, 0⟩
    match r.inputs.find? fun i => i.channel == c.id, (p.opsOf st).find? fun o => o.code == 0x0A && o.arg1 == c.id with
    | some i, some o => memWrite m (sramBytes * r.core st.core + 8 * o.d) (i.data.take (sramBytes - 8 * o.d))
    | _, _ => m) m

/-- A checkpoint record (Table 12.9). -/
def checkpoint (n tag : Nat) (s : State) : State :=
  match s.captured n, (s.slot n).rt with
  | true, some r =>
    let p := (s.slot n).program
    capRecord 3 n (le 4 tag ++ le 4 0 ++ stateRegions (placeDelayed p r s.grid.sram) p r) s
  | _, _ => s

/-- A program whose tags are shelf time (Table 12.3). -/
def Program.timed (p : Program) : Bool := decide (1 ≤ p.period) && decide (p.period ≤ 3)

/-- The period of the next checkpoint is over: in every stage, or in stage 0 where each stage counts its own firings. -/
def checkDue (p : Program) (r : Running) (at_ : Nat) : Bool :=
  let done := fun k => (r.stage k).over at_
  if p.timed then (List.range p.stages.length).all done else done 0

/-- After a period of a stage: the checkpoint, when it is due. -/
def afterPeriod (n : Nat) (s : State) : State :=
  let x := s.slot n
  let p := x.program
  match x.rt with
  | some r =>
    if checkDue p r x.checkAt then
      (checkpoint n x.checkAt s).updSlot n (fun x => { x with checkAt := (x.checkAt + 1024 * p.step) % 4294967296 })
    else s
  | none => s

/-! ### Firing and voids -/

/-- Void a period of stage k of slot n (R303): VOID on each of its outputs, a void digest. -/
def voidStage (n k tag : Nat) (s : State) : State :=
  match (s.slot n).rt with
  | none => s
  | some r =>
    let p := (s.slot n).program
    if (r.stage k).over tag then s else
      let core := s.stageCore n k
      let s := s.updSlot n (fun x => { x with
        voids := x.voids + 1
        rt := some (endPeriod p k tag (fun y => { y with run := y.run + 1, sat := false, digest := 0 }) r) })
      let s := { s with grid := { s.grid with voids := s.grid.voids + 1 } }
      let st := p.stages.getD k ⟨0, 0, 0, 0, 0, 0, 0⟩
      let s := if bit st.flags 2 then digestRecord 0 tag n k true false s else s
      afterPeriod n ((p.chans.filter fun c => c.producer == k).foldl (fun s c => sendOut n core 2 tag c [] s) s)

/-- A slot is neither placed nor in FAULT: nothing comes from it. -/
def State.slotGone (s : State) (n : Nat) : Bool := decide ((s.slot n).st ≠ .bound) && decide ((s.slot n).st ≠ .fault)

/-- An input of stage k comes from a slot that is gone: its periods are void (Table 12.12). -/
def State.unfed (s : State) (n k : Nat) : Bool :=
  (s.slot n).program.chans.any fun c => c.kind == 2 && c.consumer == k && (s.feedersOf n c.id).any s.slotGone

/-- An input for stage k (R297); a fifth pending period is voided on arrival, with 0905h (R301), and in a program whose
periods no tick tells, one with an input from a slot that is gone is void with its first arrival (Table 12.12). -/
def addInput (n k tag chan : Nat) (data : Bytes) (s : State) : State :=
  match (s.slot n).rt with
  | none => s
  | some r =>
    let tags := pendingTags r k
    if (r.stage k).over tag then s
    else if 4 ≤ tags.length ∧ tags.contains tag = false then
      let s := { s with grid := { s.grid with overruns := sat32 (s.grid.overruns + 1) } }
      (voidStage n k tag s).raise 0x0905 n
    else
      let i : StageIn := { stage := k, tag := tag, channel := chan, data := data }
      let s := s.updSlot n (fun x => { x with rt := some { r with inputs := r.inputs ++ [i] } })
      if (s.slot n).program.timed = false ∧ s.unfed n k = true then voidStage n k tag s else s

/-- A period of a slot in FAULT whose program no tick drives: the loader sends its VOID on each output to another free
slot, once, when something comes for it (R357, log entry 50). -/
def faultPeriod (n tag : Nat) (s : State) : State :=
  let p := (s.slot n).program
  if p.timed then s else
    p.chans.foldl (fun s c =>
      match (s.slot n).rt with
      | some r =>
        if c.kind ≠ 3 ∨ (r.stage c.producer).over tag = true then s else
          (sendPeers n 65 2 tag c.id [] s).updSlot n (fun x => { x with rt := some (endPeriod p c.producer tag (fun y => y) r) })
      | none => s) s

/-- A DATA or RAW barge for a channel of a bound slot. -/
def slotInput (n chan tag : Nat) (data : Bytes) (s : State) : State :=
  let x := s.slot n
  match x.st, x.program.chan chan with
  | .bound, some c =>
    if c.consumer < x.program.stages.length then
      let body := if c.fmt = 0 then data else data.take (blockLen c.fmt c.count)
      let s := if c.kind = 2 ∨ c.kind = 4 ∨ c.kind = 5 then inputRecord n chan tag body s else s
      let t := if c.kind = 1 then (tag + x.program.step) % 4294967296 else tag
      addInput n c.consumer t chan body s
    else s
  | .fault, some c => faultPeriod n (if c.kind = 1 then (tag + x.program.step) % 4294967296 else tag) s
  | _, _ => s

/-- A VOID barge for a channel of a bound slot (R303). -/
def slotVoid (n chan tag : Nat) (s : State) : State :=
  let x := s.slot n
  match x.st, x.program.chan chan with
  | .bound, some c =>
    let t := if c.kind = 1 then (tag + x.program.step) % 4294967296 else tag
    if c.consumer < x.program.stages.length then voidStage n c.consumer t s else s
  | .fault, some c => faultPeriod n (if c.kind = 1 then (tag + x.program.step) % 4294967296 else tag) s
  | _, _ => s

/-- Gate words of a firing in RAW barges to endpoint 70, at most 240 bytes each (R315). -/
def sendWords (core tag : Nat) (words : List Bytes) (s : State) : State :=
  let all := words.foldl (fun (acc : List Bytes) w =>
    match acc with
    | b :: rest => if b.length + w.length ≤ 240 then (b ++ w) :: rest else w :: b :: rest
    | [] => [w]) []
  all.reverse.foldl (fun s b => sendBarge core 70 1 0xFF 0 tag b s) s

/-- Stage k completes the answer to a keeper call: it is the last to send to endpoint 65, or the one that takes the
call where none sends (R308). -/
def Program.answers (p : Program) (k : Nat) : Bool :=
  let calls := p.chans.filter fun c => c.kind == 5
  let outs := (calls.filter fun c => c.consumer == 0xFF).map (·.producer)
  if outs = [] then calls.any fun c => c.consumer == k else outs.foldl max 0 == k

/-- The answer to the call of a tag is complete: the gate named in it is signalled (R308). -/
def answerCall (n core tag : Nat) (calls : List (Nat × Nat)) (s : State) : State :=
  let s := s.updSlot n (fun x => { x with
    rt := x.rt.map fun r => { r with calls := r.calls.filter fun q => q.1 != tag } })
  (calls.filter fun q => q.1 == tag).foldl (fun s q => gateSignalEff (.grid core n) q.2 1 s) s

/-- Event records wait in a core's banks (R336). -/
def State.recordsWait (s : State) (core : Nat) : Bool :=
  get [] s.ev.fast core != [] || s.ev.pending.any fun e => e.1 / 1024 == core

/-- A firing of stage k of slot n must wait: for its core, for the checkpoint's copy (R356), for the event records that the
core takes before a stage driven by barges or TICKs (R338), or, with nothing but delayed inputs, for the first period's
instant (R349). -/
def State.holdFire (s : State) (n k tag : Nat) (p : Program) (r : Running) (st : StageDef) : Bool :=
  let x := s.slot n
  let core := r.core st.core
  s.grid.failed.contains core || (p.timed && tag != x.checkAt && tagGe tag x.checkAt) ||
    (!bit st.flags 1 && s.recordsWait core) ||
    (p.timed && needs p k ((r.stage k).last == none) == [] && !tagGe (s.now / 1000 % 4294967296) tag)

/-- STAGE_FIRE (R297): a stage of a bound free slot fires its next period. -/
def stageFireEff (n k : Nat) (s : State) : State :=
  let x := s.slot n
  let p := x.program
  match x.st, x.rt, p.stages[k]? with
  | .bound, some r, some st =>
    match nextTag p r k with
    | none => s
    | some tag =>
      let core := r.core st.core
      if s.holdFire n k tag p r st then s else
        let ins := r.inputs.filter fun i => i.stage == k && i.tag == tag
        let c : FireCtx := { base := 262144 * core, slot := n, tag := tag, prog := p, gates := r.gates, inputs := ins }
        let f := fireStage c s.grid.sram st
        let d := if bit st.flags 2 then digestOf f else 0
        let s := { s with grid := { s.grid with sram := f.mem, corrected := s.grid.corrected + f.bad } }
        let s := s.updSlot n (fun x => { x with
          firings := x.firings + 1
          rt := some (endPeriod p k tag (fun y => { y with run := 0, sat := f.sat, digest := d, fired := y.fired + 1 }) r) })
        let s := if bit st.flags 2 then digestRecord d tag n k false f.sat s else s
        let s := f.sends.foldl (fun s e => match p.chan e.1 with
          | some ch => sendOut n core 0 tag ch e.2 s
          | none => s) s
        let s := sendWords core tag f.words s
        afterPeriod n (if p.answers k then answerCall n core tag r.calls s else s)
  | _, _, _ => s

end Sys2Proof.Machine
end

