-- ==== Sys2Proof/Machine/Grid.lean ====
section
/-! DEFINITION. The control grid's commands (chapter 10): ticks, barges, memory errors, restarts, failed cores. -/

namespace Sys2Proof.Machine

/-! ### Who has a core (Tables 10.9 and 12.1) -/

/-- The firmware slot that holds a core now: an absent tray's phase core is in the user region (R309). -/
def State.fwHolder (s : State) (core : Nat) : Option Nat :=
  if 8 ≤ core ∧ core ≤ 23 ∧ (s.tray (core - 8)).st = .absent then none else fwSlotOf core

/-- The free slot placed on a core. -/
def State.slotAt (s : State) (core : Nat) : Option Nat :=
  (List.range Config.slots).find? fun n => match (s.slot n).rt with
    | some r => r.cores.contains core
    | none => false

/-! ### Barges (R285 to R289) -/

/-- The sender of gate words in a barge from an endpoint. -/
def State.gateSender (s : State) (src : Nat) : Party :=
  if 64 ≤ src then .keeper 64
  else if 48 ≤ src ∧ src ≤ 51 then .governor src
  else .grid src ((s.slotAt src).getD ((fwSlotOf src).getD 0xFF))

/-- Apply gate operation words in order (R315, Table 11.3); zeros fill the last flit of a barge. -/
def applyWords (who : Party) : Nat → Bytes → State → State
  | 0, _, s => s
  | n + 1, b, s =>
    let g := u16At b 2
    let v := u32At b 4
    if b.length < 8 then s
    else match u8At b 0 with
      | 0 =>
        let fill := (coreOf who).isSome && decide (b.length = 8) && b.all (· == 0)
        applyWords who n (b.drop 8) (if fill then s else refuseOp who s)
      | 1 => applyWords who n (b.drop 8) (gateSignalEff who g v s)
      | 2 => applyWords who n (b.drop 16) (gateWaitEff who g v (u8At b 8) (u16At b 10) (u32At b 12) s)
      | 3 => applyWords who n (b.drop 8) (gateArmEff who g v s)
      | 4 => applyWords who n (b.drop 8) (gateAdjustEff who g (signed 32 v) s)
      | 5 => applyWords who n (b.drop 8) (gateClearEff who g s)
      | 6 => applyWords who n (b.drop 8) (gateCancelEff who g s)
      | 7 => applyWords who n (b.drop 8) (gateRouteEff who g v s)
      | _ => applyWords who n (b.drop 8) (refuseOp who s)

/-- Bytes of a memory channel; past its 4 GiB they are free values (log entry 45). -/
def ddrRead (ch addr len : Nat) (s : State) : Bytes × State :=
  if addr + len ≤ 4294967296 then (memRead s.grid.ddr (4294967296 * ch + addr) len, s)
  else ((List.range len).map fun i => BitVec.ofNat 8 (Config.freeNat (s.freeCount + i)),
        { s with freeCount := s.freeCount + len })

/-- The period of a barge's destination is void (R287, R303): of a firmware slot, or of a free slot's stage. -/
def voidInput (x : Barge) (s : State) : State :=
  if x.slot < 24 then voidFirmware x.slot (x.dst - fwFirst x.slot) s
  else if x.slot < Config.slots then slotVoid x.slot x.channel x.tag s
  else s

/-- A barge that arrived in its order (R288, Table 10.5). A TICK names its root stage in the channel field (log entry
42). -/
def deliverBarge (x : Barge) (s : State) : State :=
  match x.kind with
  | 0 => if x.slot < Config.slots then slotInput x.slot x.channel x.tag x.payload s else s
  | 1 =>
    if x.dst = 70 ∧ x.slot = 0xFF then applyWords (s.gateSender x.src) 30 x.payload s
    else if x.slot < Config.slots then slotInput x.slot x.channel x.tag x.payload s
    else s
  | 2 => voidInput x s
  | 5 =>
    if 66 ≤ x.dst ∧ x.dst ≤ 69 then
      let r := ddrRead (x.dst - 66) (u64At x.payload 0) (u32At x.payload 8) s
      sendRaw x.dst x.src x.slot x.channel x.tag (r.1.length + 1) r.1 r.2
    else s
  | 6 =>
    let a := u64At x.payload 0
    let d := x.payload.drop 8
    if 66 ≤ x.dst ∧ x.dst ≤ 69 ∧ a + d.length ≤ 4294967296 then
      { s with grid := { s.grid with ddr := memWrite s.grid.ddr (4294967296 * (x.dst - 66) + a) d } }
    else s
  | 7 => if x.slot < Config.slots then addInput x.slot x.channel x.tag tickChan [] s else s
  | _ => s

/-- Barges that are due in their order. -/
def deliverBarges (l : List Bytes) (s : State) : State :=
  l.foldl (fun s f => match parseBarge f with
    | some y => deliverBarge y s
    | none => s) s

/-- A barge is discarded and counted (R284, Table 10.5). -/
def discardBarge (s : State) : State := { s with grid := { s.grid with discarded := sat32 (s.grid.discarded + 1) } }

/-- A barge of one of some kinds arrives (R286 to R288): at an endpoint that does not exist it is discarded whatever its
CRC, since nothing there replies (R284). -/
def recvBarge (kinds : List Nat) (b : Bytes) (s : State) : State :=
  match parseBarge b with
  | none => s
  | some x =>
    if 74 ≤ x.dst then discardBarge s
    else if bargeCrcOk b = false then ackBarge 4 x s
    else if 8 ≤ x.kind then discardBarge s
    else if kinds.contains x.kind = false then s
    else
      let r := sequence b x (ackBarge 3 x s)
      deliverBarges r.1 r.2

/-- An ACK or a NAK arrives (R286): a bad CRC is answered like any barge's. -/
def recvReply (kind : Nat) (f : Barge → State → State) (b : Bytes) (s : State) : State :=
  match parseBarge b with
  | none => s
  | some x =>
    if 74 ≤ x.dst then discardBarge s
    else if bargeCrcOk b = false then ackBarge 4 x s
    else if 8 ≤ x.kind then discardBarge s
    else if x.kind = kind then f x s
    else s

/-- An ACK arrives (R287). -/
def bargeAckEff (b : Bytes) (s : State) : State := recvReply 3 ackArrived b s

/-- The entry has been sent 8 times without ACK (R287): 0904h, the destination's period is void, and the barges behind
it are delivered (log entry 69). -/
def giveUp (u : Unacked) (s : State) : State :=
  let s := { s with grid := { s.grid with unacked := s.grid.unacked.filter fun v => v != u } }
  let s := match parseBarge u.frame with
    | some x =>
      let r := sequence [] x (voidInput x s)
      deliverBarges r.1 r.2
    | none => s
  releaseStall u.src (s.raise 0x0904 (((parseBarge u.frame).map (·.slot)).getD noInst))

/-- Resend, or give up after 8 sends (R287). -/
def retryOrFail (u : Unacked) (s : State) : State := if 8 ≤ u.sends then giveUp u s else resend u s

/-- A NAK arrives (R287). -/
def bargeNakEff (b : Bytes) (s : State) : State :=
  recvReply 4 (fun x s => match s.findUnacked x.dst x.src x.seq with
    | some u => retryOrFail u s
    | none => s) b s

/-- 256 cycles of 1.5 GHz, in whole ns (R287). -/
def ackTimeout : Nat := 171

/-- BARGE_ACK_TIMEOUT (R287). -/
def ackTimeoutEff (src dst seq : Nat) (s : State) : State :=
  match s.findUnacked src dst seq with
  | some u => if u.at_ + ackTimeout ≤ s.now then retryOrFail u s else s
  | none => s

/-! ### Ticks (R284) -/

/-- One root stage gets the tick of a period: a TICK barge, which needs no acknowledgement and takes its place in the
sequence from endpoint 64 (R288). -/
def tickStage (n k tag : Nat) (s : State) : State :=
  let core := s.stageCore n k
  let p := s.pairSeq 64 core
  let x : Barge := { dst := core, src := 64, kind := 7, flits := 1, slot := n, channel := k, seq := p.next, tag := tag
                     payload := [] }
  let b := bargeBytes x
  let r := sequence b x (countSent ((s.setPair { p with next := (p.next + 1) % 65536 }).send (.barge b)))
  deliverBarges r.1 r.2

/-- A program's period boundary lies on a whole microsecond of shelf time (Table 12.3). -/
def Program.dueAt (p : Program) (us : Nat) : Bool :=
  match p.period with
  | 1 => true
  | 2 => us % 10 == 0
  | 3 => us % 1000 == 0
  | _ => false

/-- Void the period of each stage of slot n whose input comes from a slot that is not bound (Table 12.12). -/
def voidUnfed (n tag : Nat) (p : Program) (s : State) : State :=
  p.chans.foldl (fun s c =>
    if c.kind = 2 ∧ (s.feedersOf n c.id).any s.slotGone = true then voidStage n c.consumer tag s else s) s

/-- Void the periods of the untimed slots that an unbound slot's outputs are bound to, at its own rate (Table 12.12). -/
def voidFed (n tag : Nat) (p : Program) (s : State) : State :=
  p.chans.foldl (fun s c => if c.kind ≠ 3 then s else
    (s.consumersOf n c.id).foldl (fun s e =>
      match (s.slot e.1).st, (s.slot e.1).program.chan e.2 with
      | .bound, some pc => if (s.slot e.1).program.timed then s else voidStage e.1 pc.consumer tag s
      | _, _ => s) s) s

/-- Slot n at a whole microsecond of shelf time: its ticks and the voids of inputs that no bound slot feeds; in FAULT the
loader's VOIDs from endpoint 65 (R357, Table 12.12). -/
def tickSlot (n us : Nat) (s : State) : State :=
  let x := s.slot n
  let p := x.program
  let tag := us % 4294967296
  if p.dueAt us = false then s else
    match x.st with
    | .bound =>
      voidUnfed n tag p (p.stages.zipIdx.foldl (fun s q => if bit q.1.flags 0 then tickStage n q.2 tag s else s) s)
    | .fault => (p.chans.filter fun c => c.kind == 3).foldl (fun s c => sendPeers n 65 2 tag c.id [] s) s
    | _ => voidFed n tag p s

/-- PERIOD_TICK (R284): on each whole microsecond, once; none in the millisecond of a step (R369). -/
def periodTickEff (s : State) : State :=
  if s.now % 1000 ≠ 0 ∨ s.grid.tickAt = some s.now ∨ s.withheld s.now = true then s else
    let s := { s with grid := { s.grid with tickAt := some s.now } }
    (List.range Config.slots).foldl (fun s n => tickSlot n (s.now / 1000) s) s

/-- KEEPER_CALL (R308): the call leaves in RAW barges from endpoint 65, tagged with its number. A firmware slot's answer is
a free value; a slot in FAULT answers nothing and voids the call's period (R357). -/
def keeperCallEff (n chan gate : Nat) (payload : Bytes) (s : State) : State :=
  if n < 24 then
    let core := if fwFirst n = 0xFF then 0 else fwFirst n
    let v := Config.freeNat s.freeCount
    let s := sendBlock 65 core 1 n chan 0 payload { s with freeCount := s.freeCount + 1 }
    let s := inputRecord n chan 0 payload s
    let s := sendBarge core 65 1 0xFF chan 0 (le 8 v) s
    gateSignalEff (if gate < 2048 then .keeper 64 else .grid core n) gate 1 s
  else
    let x := s.slot n
    match x.st, x.rt, x.program.chan chan with
    | .bound, some r, some c =>
      if c.kind = 5 ∧ c.consumer < x.program.stages.length then
        let s := s.updSlot n (fun x => { x with rt := some { r with
          calls := r.calls ++ [(r.callN, gate)], callN := r.callN + 1 } })
        sendBlock 65 (s.stageCore n c.consumer) 1 n chan r.callN payload s
      else s
    | .fault, some r, some _ =>
      faultPeriod n r.callN (s.updSlot n (fun x => { x with rt := some { r with callN := r.callN + 1 } }))
    | _, _, _ => s

/-! ### Memory errors (R302 to R305) -/

/-- Corrected errors: counted; 0901h above the limit within 1 h. -/
def corrected (n : Nat) (s : State) : State :=
  let times := ((s.now, n) :: s.grid.corrTimes).filter fun e => decide (s.now < e.1 + 3600 * sec)
  let many := decide (s.cfgU 0x6000 0x12 < (times.map (·.2)).foldl (· + ·) 0)
  let up := s.grid.up901
  let s := { s with grid := { s.grid with corrected := s.grid.corrected + n, corrTimes := times, up901 := many } }
  when_ (many && !up) (fun s => s.raise 0x0901 noInst) s

/-- An uncorrectable word: its count and its place. -/
def uncorrected (endpoint addr : Nat) (s : State) : State :=
  { s with grid := { s.grid with
    uncorrected := sat32 (s.grid.uncorrected + 1), lastBad := endpoint * 72057594037927936 + addr } }

/-- Void the period in progress of stage k: its earliest pending one (R302). -/
def voidPresent (n k : Nat) (s : State) : State :=
  match (s.slot n).rt with
  | some r => match oldestTag (pendingTags r k) with
    | some t => voidStage n k t s
    | none => s
  | none => s

/-- The word at an address lies in some bytes. -/
def within (addr at_ len : Nat) : Bool := decide (at_ ≤ addr / 8 * 8 + 7) && decide (addr / 8 * 8 < at_ + len)

/-- Address and length of the blocks an operator writes in a firing (Table 12.7). -/
def Op.buffers (p : Program) (o : Op) : List (Nat × Nat) :=
  let out := fun (n : Nat) => [(8 * o.d, blockLen o.fmt (min 64 n))]
  match o.code with
  | 0x02 => out (2 * o.n)
  | 0x04 => out o.arg1
  | 0x07 => out o.n ++ (if o.arg2 = 0 then [] else [(8 * o.arg2, blockLen o.fmt o.n)])
  | 0x0A => match p.chan o.arg1 with
    | some c => [(8 * o.d, if c.fmt = 0 then 8 * o.n else blockLen c.fmt c.count)]
    | none => [(8 * o.d, 16)]
  | c => if 1 ≤ c ∧ c ≤ 8 then out o.n else []

/-- Stages of core j for which a word lies in a buffer. -/
def bufferStages (p : Program) (j addr : Nat) : List Nat :=
  (p.stages.zipIdx.filter fun q => q.1.core == j &&
    (p.opsOf q.1).any fun o => (o.buffers p).any fun b => within addr b.1 b.2).map (·.2)

/-- Stages of core j whose code a word lies in, else those one of whose operators names the unit it lies at or after within
its longest block, else all of the core's: a constant is theirs that read it (R304). -/
def codeStages (p : Program) (j addr : Nat) : List Nat :=
  let mine := p.stages.zipIdx.filter fun q => q.1.core == j
  let code := mine.filter fun q => within addr (8 * q.1.firstOp) (16 * q.1.ops)
  let near := mine.filter fun q => (p.opsOf q.1).any fun o => [o.a, o.b].any fun a => within addr (8 * a) 196
  (if code != [] then code else if near != [] then near else mine).map (·.2)

/-- Void the period in progress of some stages of slot n. -/
def voidStages (n : Nat) (l : List Nat) (s : State) : State := l.foldl (fun s k => voidPresent n k s) s

/-- A free slot enters FAULT (R357). -/
def slotToFault (n cause : Nat) (s : State) : State :=
  let s := s.updSlot n (fun x => { x with st := .fault, cause := cause
                                          rt := x.rt.map fun r => { r with inputs := [], calls := [] } })
  tideSlotLost n ((dropWaits (fun w => w.who == .grid w.core n) s).raise 0x090A n)

/-- Load a program's images into its cores; `all`: the state regions as well (R305, R347). -/
def loadImages (p : Program) (r : Running) (all : Bool) (mem : List (Nat × Byte)) : List (Nat × Byte) :=
  p.cores.zipIdx.foldl (fun m q =>
    let base := 262144 * r.core q.2
    if all then memWrite (memClear m base 262144) base q.1.image
    else
      let a := q.1.image.take q.1.stateAt
      let z := q.1.image.drop (q.1.stateAt + q.1.stateLen)
      memWrite (memWrite m base a) (base + q.1.stateAt + q.1.stateLen) z) mem

/-- A checkpoint of slot n copied at this instant read an uncorrectable word: it is recorded as void (Table 12.12). -/
def voidCheckpoint (n : Nat) (s : State) : State :=
  let hit := fun (r : CapRecord) => decide (r.at_ = s.now) && u8At r.bytes 2 == 3 && u8At r.bytes 3 == n
  let void := fun (r : CapRecord) => { r with bytes := capBytes 3 n (patch (r.bytes.drop 8) 4 (le 4 1)) }
  { s with cap := { s.cap with records := s.cap.records.map fun r => if hit r then void r else r } }

/-- An uncorrectable word of a free slot's core, by the region it lies in (R304). -/
def sramFree (n core addr : Nat) (s : State) : State :=
  let p := (s.slot n).program
  match (s.slot n).rt with
  | none => s
  | some r =>
    let j := (r.cores.idxOf? core).getD 0
    let c := p.cores.getD j ⟨[], 0, 0⟩
    let zero := { s with grid := { s.grid with sram := memClear s.grid.sram (262144 * core + addr / 8 * 8) 8 } }
    let outs := bufferStages p j addr
    if (s.slot n).st ≠ .bound then zero
    else if c.stateAt ≤ addr ∧ addr < c.stateAt + c.stateLen then slotToFault n 1 (voidCheckpoint n s)
    else if outs ≠ [] then (voidStages n outs s).raise 0x0902 n
    else if addr < c.image.length then
      voidStages n (codeStages p j addr) { s with grid := { s.grid with sram := loadImages p r false s.grid.sram } }
    else zero

/-- A firmware slot's restart begins (R306): the waits of its cores go without a release (Table 11.10). -/
def beginRestart (n : Nat) (s : State) : State :=
  let s := dropWaits (fun w => decide (w.core < 64) && fwSlotOf w.core == some n) s
  { s with grid := { s.grid with
    restarting := if s.grid.restarting.contains n then s.grid.restarting else n :: s.grid.restarting } }

/-- SRAM_UNCORRECTABLE (R304). The layout of firmware images is not in the spec: the region is a free value. -/
def sramBadEff (core addr : Nat) (s : State) : State :=
  let s := uncorrected core addr s
  match if (s.slotAt core).isSome then none else s.fwHolder core with
  | some n =>
    let r := Config.freeNat s.freeCount % 4
    let s := { s with freeCount := s.freeCount + 1 }
    match r with
    | 0 => (voidFirmware n (core - fwFirst n) s).raise 0x0902 n
    | 1 => voidFirmware n (core - fwFirst n) s
    | 2 => beginRestart n (voidCheckpoint n s)
    | _ => s
  | none =>
    match s.slotAt core with
    | some n => sramFree n core addr s
    | none => { s with grid := { s.grid with sram := memClear s.grid.sram (262144 * core + addr / 8 * 8) 8 } }

/-- An impedance entry is rewritten from the last save of its tray's table: the seed where that has none (R305). -/
def restoreImp (t i : Nat) (s : State) : State :=
  let l := impLoad s t (s.estOf t)
  s.updEst t (fun x => { x with imp := match l.2.find? fun e => e.1 == i with
    | some e => Store.ins i e.2 (Store.del x.imp i)
    | none => Store.del x.imp i })

/-- The owner rewrites a lost block from its source (R305): an image as it is in flash, an impedance entry from the last
save, an operating-point entry by a request in the chip's next grant. Which block lies at an address the spec does not
give: a free value. -/
def rewriteBlock (s : State) : State :=
  let v := Config.freeNat s.freeCount
  let s := { s with freeCount := s.freeCount + 1 }
  match v % 4 with
  | 1 => restoreImp (v / 4 % Config.trays) (v / 64) s
  | 2 =>
    let c := v / 4 % Config.chips
    { s with gov := { s.gov with lostTables := if s.gov.lostTables.contains c then s.gov.lostTables
                                               else s.gov.lostTables ++ [c] } }
  | _ => s

/-- MEM_UNCORRECTABLE (R305): the reading stage's period is void; the block is rewritten from its source. -/
def memBadEff (channel addr n k : Nat) (s : State) : State :=
  let s := rewriteBlock ((uncorrected (66 + channel) addr s).raise 0x0903 n)
  if n < 24 then voidFirmware n k s else voidPresent n k s

/-! ### Restarts and failed cores (R306, R307) -/

/-- The phase manager of tray t restarted: integrators preset from the present currents (Table 10.8, R91). -/
def presetTray (t : Nat) (s : State) : State :=
  (s.updPhs t (fun x => { x with b := 0, r := x.i, held := x.i })).updTp t (fun y => { y with x := 0, mismatch := 0 })

/-- State of a restarted firmware slot (Table 10.8). -/
def restartState (n : Nat) (s : State) : State :=
  if n = 0 then
    match s.loop.st with
    | .soft | .run | .hold => { s with loop := { s.loop with st := .soft, entry := true } }
    | _ => s
  else if 2 ≤ n ∧ n ≤ 17 then presetTray (n - 2) s
  else if n = 18 then forTrays estStart s
  else if n = 19 then
    { s with gov := { s.gov with
      parts := s.gov.parts.map fun p => { p with
        kappa := 1, gates := p.gates.map fun f => { f with byTime := f.byTime || !f.arrivals.isEmpty } }
      chips := s.gov.chips.map (fun e => (e.1, { e.2 with slack := 0, flights := 0 })) } }
  else if n = 20 then
    { s with feed := { s.feed with pRef := sumQ (s.feed.rects.map (·.cmd)) * s.loop.vBus / 1000 } }
  else s

/-- SLOT_RESTART_COMPLETE (R306). -/
def restartCompleteEff (n : Nat) (s : State) : State :=
  if s.grid.restarting.contains n then
    let loud := !s.grid.quiet.contains n
    let s := { s with grid := { s.grid with
      restarting := s.grid.restarting.filter (· != n), quiet := s.grid.quiet.filter (· != n)
      restarts := sat32 (s.grid.restarts + 1) } }
    when_ loud (fun s => s.raise 0x0906 n) (restartState n s)
  else s

/-- Configuration word at start (R331, R332): the firmware's words are log entry 7. -/
def srcDefault (src : Nat) : Nat := if src < 384 then 1 + 64 * 32 else 0

/-- Configuration word of a source. -/
def State.srcWord (s : State) (src : Nat) : Nat := Store.get (srcDefault src) s.ev.cfg src

/-- Write it. -/
def State.setSrcWord (s : State) (src w : Nat) : State :=
  { s with ev := { s.ev with cfg := Store.set (srcDefault src) s.ev.cfg src w } }

/-- Sources routed to a failed core (Table 11.10): firmware sources to keeper core 0, user routes cleared. -/
def failedRoutes (core : Nat) (s : State) : State :=
  (List.range 1024).foldl (fun s n =>
    let w := s.srcWord n
    let cleared := fun (s : State) => { s with ev := { s.ev with routesCleared := sat32 (s.ev.routesCleared + 1) } }
    let s := if bit w 12 ∧ bitField w 18 13 = core then cleared (s.setSrcWord n (w % 4096)) else s
    let w := s.srcWord n
    if bitField w 11 5 ≠ core ∨ w % 8 = 0 then s
    else if n < 384 then s.setSrcWord n (w - 32 * core + 32 * 64)
    else cleared (s.setSrcWord n 0)) s

/-- CORE_FAILED (R307, Table 11.10). A firmware slot with a failed core is void from then on (State.fwHalted). -/
def coreFailedEff (core : Nat) (s : State) : State :=
  if s.grid.failed.contains core then s else
    let s := { s with grid := { s.grid with failed := s.grid.failed ++ [core] } }
    let s := failedRoutes core (dropWaits (fun w => w.core == core) (s.raise 0x0907 core))
    match s.slotAt core with
    | some n => if (s.slot n).st = .bound then slotToFault n 2 s else s
    | none => s

/-- The user region [6000.05]: cores 56–63, forecaster cores beyond [4000.1A], phase cores of absent trays (R309). -/
def State.userCores (s : State) : List Nat :=
  (List.range Config.cores).filter fun c =>
    if 8 ≤ c ∧ c ≤ 23 then decide ((s.tray (c - 8)).st = .absent)
    else if 32 ≤ c ∧ c ≤ 47 then decide (32 + s.cfgU 0x4000 0x1A ≤ c)
    else decide (56 ≤ c)

/-- Cores that hold dry dock's copy. -/
def State.dockCores (s : State) : List Nat :=
  match s.dock.st with
  | .placing | .running => s.dock.cores
  | _ => []

/-- A core no slot, no copy and no failure holds. -/
def State.coreFree (s : State) (c : Nat) : Bool :=
  (s.slotAt c).isNone && !s.grid.failed.contains c && !s.dockCores.contains c

/-- GRID_SELF_TEST (R312): idle cores of the user region, those of the mask fail. -/
def gridSelfTestEff (failed : Nat) (s : State) : State :=
  (s.userCores.filter fun c => s.coreFree c && bit failed c).foldl (fun s c => coreFailedEff c s) s

/-- Command 1 of [6000.14]: the counters not kept since power-up. -/
def gridClearEff (s : State) : State :=
  { s with grid := { s.grid with
    retries := 0, voids := 0, overruns := 0, discarded := 0, corrected := 0, uncorrected := 0, restarts := 0 } }

/-! ### Meanings -/

/-- PERIOD_TICK (R284). -/
def execPeriodTick (s : State) : Host.Outcome State Fault Refusal := run true s periodTickEff

/-- STAGE_FIRE (R297). -/
def execStageFire (slot stage : Nat) (s : State) : Host.Outcome State Fault Refusal :=
  run (decide (slot < Config.slots) && decide (stage < 256)) s (stageFireEff slot stage)

/-- BARGE_DATA (R286, R288). -/
def execBargeData (barge : Bytes) (s : State) : Host.Outcome State Fault Refusal := run true s (recvBarge [0, 1] barge)

/-- BARGE_VOID (R303). -/
def execBargeVoid (barge : Bytes) (s : State) : Host.Outcome State Fault Refusal := run true s (recvBarge [2] barge)

/-- BARGE_ACK (R287). -/
def execBargeAck (barge : Bytes) (s : State) : Host.Outcome State Fault Refusal := run true s (bargeAckEff barge)

/-- BARGE_NAK (R287). -/
def execBargeNak (barge : Bytes) (s : State) : Host.Outcome State Fault Refusal := run true s (bargeNakEff barge)

/-- MEM_READ (R285). -/
def execMemRead (barge : Bytes) (s : State) : Host.Outcome State Fault Refusal := run true s (recvBarge [5] barge)

/-- MEM_WRITE (R285). -/
def execMemWrite (barge : Bytes) (s : State) : Host.Outcome State Fault Refusal := run true s (recvBarge [6] barge)

/-- BARGE_ACK_TIMEOUT (R287). -/
def execBargeAckTimeout (src dst seq : Nat) (s : State) : Host.Outcome State Fault Refusal :=
  run (decide (src < 256) && decide (dst < 256)) s (ackTimeoutEff src dst seq)

/-- KEEPER_CALL (R308). -/
def execKeeperCall (slot channel gate : Nat) (payload : Bytes) (s : State) : Host.Outcome State Fault Refusal :=
  run (decide (slot < Config.slots) && decide (channel < 65536) && decide (gate < 65536)) s
    (keeperCallEff slot channel gate payload)

/-- SRAM_UNCORRECTABLE (R304). -/
def execSramUncorrectable (core addr : Nat) (s : State) : Host.Outcome State Fault Refusal :=
  run (decide (core < Config.cores)) s (sramBadEff core addr)

/-- SRAM_SCRUB (R304). -/
def execSramScrub (core n : Nat) (s : State) : Host.Outcome State Fault Refusal :=
  run (decide (core < Config.cores)) s (corrected n)

/-- MEM_UNCORRECTABLE (R305). -/
def execMemUncorrectable (channel addr slot stage : Nat) (s : State) : Host.Outcome State Fault Refusal :=
  run (decide (channel < 4) && decide (slot < Config.slots) && decide (stage < 256)) s (memBadEff channel addr slot stage)

/-- MEM_PATROL_SCRUB (R305). -/
def execMemPatrolScrub (channel n : Nat) (s : State) : Host.Outcome State Fault Refusal :=
  run (decide (channel < 4)) s (corrected n)

/-- SLOT_RESTART_COMPLETE (R306). -/
def execSlotRestartComplete (slot : Nat) (s : State) : Host.Outcome State Fault Refusal :=
  run (decide (slot < Config.slots)) s (restartCompleteEff slot)

/-- CORE_FAILED (R307). -/
def execCoreFailed (core : Nat) (s : State) : Host.Outcome State Fault Refusal :=
  run (decide (core < Config.cores)) s (coreFailedEff core)

/-- GRID_CLEAR_COUNTERS (R312). -/
def execGridClearCounters (ses : Nat) (s : State) : Host.Outcome State Fault Refusal :=
  run (decide (ses < Config.sessions)) s gridClearEff

/-- GRID_SELF_TEST (R312). -/
def execGridSelfTest (ses failed : Nat) (s : State) : Host.Outcome State Fault Refusal :=
  run (decide (ses < Config.sessions)) s (gridSelfTestEff failed)

end Sys2Proof.Machine
end

