-- ==== Sys2Proof/Machine/Programs.lean ====
section
/-! DEFINITION. Loading, binding and faults of program slots, and dry dock (chapter 12). -/

namespace Sys2Proof.Machine

/-! ### Loading (R351, R352) -/

/-- A free slot takes user containers; slots 0 to 23 belong to the firmware (R345). -/
def freeSlot (n : Nat) : Bool := decide (24 ≤ n)

/-- The forecaster accepts a descriptor with the cores it is granted (R212). -/
def State.descOk (s : State) (p : Program) : Bool := tideDescOk p.descriptor (s.cfgU 0x4000 0x1A)

/-- A slot is unbound (R346): its gates go, its waits end, the forecaster loses it as its active model. -/
def unbindEff (n : Nat) (s : State) : State :=
  let s := dropWaits (fun w => match w.who with | .grid _ k => k == n | _ => false) (freeOwner 3 n s)
  let s := tideSlotLost n s
  s.updSlot n (fun x => { x with st := .loaded, rt := none, cause := 0, checkAt := 0, results := [] })

/-- Blocks of a container, from its header in block 0; none before block 0 is written. -/
def Slot.blockCount (x : Slot) : Option Nat :=
  if (Store.get [] x.blocks 0).length < 12 then none else some ((u32At (Store.get [] x.blocks 0) 8 + 8191) / 8192)

/-- Elements of a load: its blocks, checked, bound; FFFFFFFFh before block 0 is written (Table 15.7). -/
def Slot.elements (x : Slot) : Nat :=
  match x.blockCount with
  | some n => n + 2
  | none => 0xFFFFFFFF

/-- The slot's load transaction is open. -/
def State.loadOpen (s : State) (n : Nat) : Bool :=
  match s.txnById (s.slot n).txn with
  | some r => r.st == 0 && r.kind == 4
  | none => false

/-- Blocks of the container that is being loaded: known once its block 0 has been written in this load (Table 15.7). -/
def State.loadCount (s : State) (n : Nat) : Option Nat :=
  match s.txnById (s.slot n).txn with
  | some r => if s.loadOpen n ∧ bit r.done 0 = true then (s.slot n).blockCount else none
  | none => none

/-- The elements of a load's transaction are its blocks, checked and bound: block k has been written; a block past the end
that came before block 0 is no element. -/
def loadElement (n k : Nat) (s : State) : State :=
  let id := (s.slot n).txn
  let s := txnElement id k s
  let s := match s.loadCount n with
    | some c => updTxn id (fun r => { r with requested := c + 2, done := r.done % 2 ^ c }) s
    | none => updTxn id (fun r => { r with requested := 0xFFFFFFFF }) s
  copyTxn id s

/-- SLOT_BLOCK_WRITE (R352). The block number is that of the session's window (R420); one past the container's blocks is
ignored whole, as a block past an object's end is (R418). -/
def slotBlockEff (ses seq n offset : Nat) (data : Bytes) (s : State) : State :=
  let k := s.win ses (0x6100 + n) 0x04
  let past := match s.loadCount n with
    | some c => decide (0 < k) && decide (c ≤ k)
    | none => false
  if freeSlot n = false ∨ data = [] ∨ 8192 < offset + data.length ∨ 524288 ≤ k ∨ past = true then s.violate ses (0x6100 + n) 0x05
  else if s.loadOpen n = false ∧ 32 ≤ s.openTxns then txnLimit ses (0x6100 + n) 0x05 s
  else
    let bound := (s.slot n).st = .bound ∨ (s.slot n).st = .fault
    let s := if bound then unbindEff n s else tideSlotLost n s
    let s := if s.loadOpen n then s else
      let s := openTxn 4 (0x6100 + n + 0x050000) n 0xFFFFFFFF ses seq s
      s.updSlot n (fun x => { x with txn := s.txn.highest })
    let s := s.updSlot n (fun x =>
      let old := Store.get [] x.blocks k
      let new := patch (padTo (max old.length (offset + data.length)) old) offset data
      { x with st := .loading, blocks := Store.ins k new (Store.del x.blocks k) })
    loadElement n k s

/-- The forecaster names a slot whose descriptor R212 refuses: it is left unbound. -/
def tideRefused (n : Nat) (s : State) : State :=
  let s := tideSlotLost n s
  { s with tide := { s.tide with staged := if s.tide.staged = n then 0xFF else s.tide.staged } }

/-- SLOT_CHECK (R351): the descriptor counts when the forecaster names the slot. A container without one that R212 accepts
leaves the forecaster's object, with 0606h. -/
def slotCheckEff (ses n : Nat) (s : State) : State :=
  let x := s.slot n
  if freeSlot n = false ∨ x.st ≠ .loading then s.violate ses (0x6100 + n) 0x02 else
    let p := x.program
    let named := s.tide.active = n ∨ s.tide.staged = n
    let s := when_ (decide named && !s.descOk p) (fun s => (tideRefused n s).raise 0x0606 noInst) s
    if containerOk x.image ∧ (tideContainer x.image = false ∨ ¬ named ∨ s.descOk p) then
      let c := x.blockCount.getD 0
      txnElement x.txn c (updTxn x.txn (fun r => { r with requested := x.elements, done := r.done % 2 ^ c })
        (s.updSlot n (fun x => { x with st := .loaded })))
    else
      (closeTxn x.txn 4 0x0909 (s.updSlot n (fun x => { x with st := .refused }))).raise 0x0909 n

/-! ### Binding (R353, R354) -/

/-- The cores of a rectangle whose top-left core is given. -/
def rectCores (first w h : Nat) : List Nat := (List.range (w * h)).map fun j => first + j % w + 8 * (j / w)

/-- The placement with the lowest top-left core in a region (R353). -/
def State.place (s : State) (region : List Nat) (w h : Nat) : Option Nat :=
  (List.range Config.cores).find? fun c =>
    decide (c % 8 + w ≤ 8) && (rectCores c w h).all fun d => region.contains d && s.coreFree d

/-- The region of a container (R353). -/
def State.region (s : State) (p : Program) : List Nat :=
  if bit p.flags 1 = false then s.userCores
  else ((List.range 16).map (32 + ·)).filter fun c => decide (c < 32 + s.cfgU 0x4000 0x1A)

/-- Values of a tap (Table 12.8). -/
def tapCount : Nat → Nat
  | 2 => 2
  | 3 => 16
  | 4 => 16
  | _ => 1

/-- A binding names a peer that Table 12.8 allows, on a channel of its direction; its last two bytes are 0 (R354). -/
def bindingOk (p : Program) (n : Nat) (b : Binding) : Bool :=
  b.zero == 0 &&
  match p.chan b.chan with
  | none => false
  | some c =>
    match b.kind with
    | 0 => c.kind == 2 && decide (1 ≤ b.peer) && decide (b.peer ≤ 6) && c.fmt == 3 && c.count == tapCount b.peer
    | 1 => (c.kind == 2 || c.kind == 3) && freeSlot b.peer && decide (b.peer < Config.slots) && b.peer != n
    | 2 => c.kind == 3
    | _ => false

/-- Gate waits of the stages on core j (R353). -/
def coreWaits (p : Program) (j : Nat) : Nat :=
  ((p.stages.filter fun st => st.core == j).map (·.waits)).foldl (· + ·) 0

/-- Allocate a program's gate blocks in order: their bases and sizes, 0 where one found no place. -/
def allocBlocks (n : Nat) (l : List (Nat × Nat)) (s : State) : List (Nat × Nat) × State :=
  l.foldl (fun acc g =>
    let r := allocGates g.1 g.2 3 n acc.2
    (acc.1 ++ [(r.1, g.1)], r.2)) ([], s)

/-- What a program has when it is placed: fresh stages, nothing waiting, its first period after the one of a tag. -/
def startRunning (p : Program) (first : Nat) (gates : List (Nat × Nat)) (before : Nat) : Running :=
  { width := p.width, height := p.height, first := first, gates := gates
    stages := List.replicate p.stages.length StageRt.fresh, inputs := [], calls := [], callN := 0
    origin := (before + p.step) % 4294967296 }

/-- Tag of the last period before a slot starts: the present one, unless it begins now and its tick is still to come; in
the millisecond of a step the last one withheld (R369). -/
def State.tagBefore (s : State) (p : Program) : Nat :=
  let us := if s.withheld s.now then (s.now / ms + 1) * 1000 - 1 else s.now / 1000
  let b := us / p.step * p.step
  let begun := s.withheld s.now || decide (s.now ≠ 1000 * b) || decide (s.grid.tickAt = some s.now)
  if p.timed then (if begun then b else b + 4294967296 - p.step) % 4294967296 else 4294967295

/-- SLOT_BIND (R353): placed, gates allocated, channels bound, images loaded, first checkpoint written. -/
def slotBindEff (ses n : Nat) (s : State) : State :=
  let x := s.slot n
  if freeSlot n = false ∨ x.st ≠ .loaded then s.violate ses (0x6100 + n) 0x02 else
    let p := x.program
    let fits := (List.range (p.width * p.height)).all (fun j => decide (coreWaits p j ≤ 8)) &&
      (s.writtenBinds n).all (bindingOk p n)
    match s.place (s.region p) p.width p.height, fits with
    | some first, true =>
      let g := allocBlocks n p.gates s
      if g.1.any fun b => b.1 == 0 then (freeOwner 3 n g.2).raise 0x090B n
      else
        let tag := s.tagBefore p
        let r := startRunning p first g.1 tag
        let binds := s.writtenBinds n
        let s := { g.2 with grid := { g.2.grid with sram := loadImages p r true g.2.grid.sram } }
        let next := (tag + 1024 * p.step) % 4294967296
        let s := s.updSlot n (fun x =>
          { x with st := .bound, rt := some r, cause := 0, checkAt := next, binds := binds, results := [] })
        let s := (checkpoint n tag s).measure 6 n (sha256 x.image)
        finishTxn x.txn (txnElement x.txn (x.blockCount.getD 0 + 1) s)
    | _, _ => s.raise 0x090B n

/-- SLOT_UNBIND (R346): from BOUND or FAULT. -/
def slotUnbindEff (ses n : Nat) (s : State) : State :=
  let st := (s.slot n).st
  if freeSlot n = true ∧ (st = .bound ∨ st = .fault) then unbindEff n s else s.violate ses (0x6100 + n) 0x02

/-- A placed slot starts again at its initial state, on its cores (R357, R369). -/
def restartSlot (n : Nat) (s : State) : State :=
  match (s.slot n).rt with
  | some r =>
    let p := (s.slot n).program
    let s := dropWaits (fun w => match w.who with | .grid _ k => k == n | _ => false) s
    let s := { s with grid := { s.grid with sram := loadImages p r true s.grid.sram } }
    s.updSlot n (fun x => { x with
      st := .bound, cause := 0, rt := some (startRunning p r.first r.gates (s.tagBefore p))
      checkAt := (s.tagBefore p + 1024 * p.step) % 4294967296 })
  | none => s

/-- SLOT_RESTART (R357): from FAULT, when none of its cores has failed. -/
def slotRestartEff (ses n : Nat) (s : State) : State :=
  let x := s.slot n
  let broken := match x.rt with
    | some r => r.cores.any fun c => s.grid.failed.contains c
    | none => true
  if x.st ≠ .fault ∨ broken = true then s.violate ses (0x6100 + n) 0x02 else restartSlot n s

/-- SLOT_CLEAR (R346): a slot that is not placed becomes EMPTY; its load is CANCELLED (Table 15.8). -/
def slotClearEff (ses n : Nat) (s : State) : State :=
  let x := s.slot n
  match freeSlot n, x.st with
  | true, .loading | true, .loaded | true, .refused =>
    closeTxn x.txn 5 0 ((tideSlotLost n s).updSlot n (fun x => { x with st := .empty, blocks := [], txn := x.txn, results := [] }))
  | _, _ => s.violate ses (0x6100 + n) 0x02

/-- SLOT_FAULT (R357): one of its stages has voided 16 consecutive periods. -/
def slotFaultEff (n : Nat) (s : State) : State :=
  let x := s.slot n
  let many : Bool := match x.rt with
    | some r => r.stages.any fun y => decide (16 ≤ y.run)
    | none => false
  if freeSlot n = true ∧ x.st = .bound ∧ many = true then slotToFault n 1 s else s

/-- STAGED_SLOT_WRITE (R212). -/
def stagedSlotEff (ses slot : Nat) (s : State) : State :=
  if slot = 0xFF then { s with tide := { s.tide with staged := 0xFF } }
  else if Config.slots ≤ slot then s.violate ses 0x4000 0x04
  else if s.descOk (s.slot slot).program then { s with tide := { s.tide with staged := slot } }
  else State.raise { s with tide := { s.tide with staged := 0xFF } } 0x0606 noInst

/-! ### Dry dock (R358, R359) -/

/-- Rectangle of a firmware slot's cores (Tables 10.9 and 12.1); slots 22 and 23 have none. -/
def fwRect (n : Nat) : Option (Nat × Nat) :=
  let cores := (List.range Config.cores).filter fun c => fwSlotOf c == some n
  if cores = [] then none else some (cores.length, 1)

/-- A record of a slot and kind. -/
def isRecord (kind n : Nat) (r : CapRecord) : Bool := u8At r.bytes 2 == kind && u8At r.bytes 3 == n

/-- Its payload. -/
def CapRecord.payload (r : CapRecord) : Bytes := r.bytes.drop 8

/-- Its CRC holds. -/
def CapRecord.crcOk (r : CapRecord) : Bool := u32At r.bytes 4 == crc32c (patch r.bytes 4 [0, 0, 0, 0])

/-- A marker of a step: the end of what can be replayed (Table 13.7). -/
def isStep (r : CapRecord) : Bool := u8At r.bytes 2 == 4 && u16At r.bytes 16 == 1

/-- Records after a position up to the next step, oldest first. -/
def State.replayable (s : State) (pos : Nat) : List CapRecord :=
  ((s.cap.records.filter fun r => decide (pos < r.pos)).reverse).takeWhile fun r => !isStep r

/-- The last checkpoint of slot n at or before a shelf time; a void one is skipped (Table 12.12). -/
def State.checkpointAt (s : State) (n at_ : Nat) : Option CapRecord :=
  s.cap.records.find? fun r => isRecord 3 n r && decide (r.at_ ≤ at_) && u32At r.payload 4 == 0

/-- Put a checkpoint's state regions into the copy's cores. -/
def loadState (p : Program) (r : Running) (data : Bytes) (m : List (Nat × Byte)) : List (Nat × Byte) :=
  (p.cores.zipIdx.foldl (fun (acc : List (Nat × Byte) × Bytes) q =>
    (memWrite acc.1 (262144 * r.core q.2 + q.1.stateAt) (acc.2.take q.1.stateLen), acc.2.drop q.1.stateLen)) (m, data)).1

/-- Step of a slot's period tags: the governor's periods are milliseconds, those of the other firmware slots
microseconds. -/
def slotStep (n : Nat) (p : Program) : Nat := if freeSlot n then p.step else if n = 19 then 1000 else 1

/-- Tag of the last period to replay: the end, or with tags that count firings the last one recorded by then. -/
def State.lastTag (s : State) (p : Program) (n pos end_ first : Nat) : Nat :=
  if freeSlot n ∧ p.timed = false then
    (((s.replayable pos).filter fun r => isRecord 1 n r && decide (r.at_ ≤ end_)).map
      (fun r => u32At r.payload 8)).foldl (fun a t => if tagGe t a then t else a) first
  else end_ / 1000 % 4294967296

/-- DRYDOCK_START (R358). -/
def dockStartEff (ses : Nat) (s : State) : State :=
  let u := s.cfgU 0x6A00 0x03
  let src := if s.cfgU 0x6A00 0x04 = 0xFF then u else s.cfgU 0x6A00 0x04
  let x := s.slot src
  let p := x.program
  let size := if freeSlot src then (if x.blocks = [] then none else some (p.width, p.height)) else fwRect src
  if s.dock.st = .placing ∨ s.dock.st = .running then s.violate ses 0x6A00 0x02 else
    match size, s.checkpointAt u (s.cfgU 0x6A00 0x05) with
    | some (w, h), some ck =>
      match s.place s.userCores w h with
      | none => s.raise 0x0F03 noInst
      | some first =>
        let tag := u32At ck.payload 0
        let r : Running := { startRunning p first [] tag with width := w, height := h }
        let step := slotStep src p
        let m := if freeSlot src then
            loadState p r (ck.payload.drop 8) (loadImages p r true s.grid.sram)
          else s.grid.sram
        { s with
          grid := { s.grid with sram := m }
          dock := { Dock.reset with
            st := .placing, slot := u, source := src, image := x.image, pos := ck.pos, rt := some r
            tag := (tag + step) % 4294967296, end_ := s.lastTag p u ck.pos (s.cfgU 0x6A00 0x06) tag, step := step
            cores := rectCores first w h, reference := s.dock.reference } }
    | _, _ => s.raise 0x0F03 noInst

/-- Captured inputs of a period: channel and block; FFFFh is an event record. -/
def capturedInputs (l : List CapRecord) (n tag : Nat) : List CapRecord :=
  l.filter fun r => isRecord 2 n r && u32At r.payload 4 == tag

/-- A captured or replayed digest of a stage: value, void, saturation. -/
structure DigestRec where
  value : Nat
  void : Bool
  sat : Bool
deriving DecidableEq, Repr

/-- Of the payload of a digest record (Table 12.9). -/
def digestAt (b : Bytes) : DigestRec := { value := u64At b 0, void := bit (u8At b 14) 0, sat := bit (u8At b 14) 1 }

/-- What stage k's record should be: captured, or from the reference block (R358). -/
def State.expectedDigest (s : State) (l : List CapRecord) (tag k : Nat) : Option (Bool × DigestRec) :=
  if s.cfgU 0x6A00 0x07 = 1 then
    (s.dock.reference.find? fun e => u32At e.2 8 == tag && u8At e.2 13 == k).map fun e => (true, digestAt e.2)
  else
    (l.find? fun r => isRecord 1 s.dock.slot r && u32At r.payload 8 == tag && u8At r.payload 13 == k).map
      fun r => (r.crcOk, digestAt r.payload)

/-- Put the captured inputs and the ticks of a period into the copy. -/
def feedCopy (p : Program) (tag : Nat) (ins : List CapRecord) (r : Running) : Running :=
  let ticks := p.stages.zipIdx.filterMap fun q =>
    if bit q.1.flags 0 then some ({ stage := q.2, tag := tag, channel := tickChan, data := [] } : StageIn) else none
  let vals := ins.flatMap fun e =>
    let ch := u16At e.payload 0
    let d := e.payload.drop 8
    if ch = 0xFFFF then p.stages.zipIdx.filterMap fun q =>
      if bit q.1.flags 1 ∧ q.1.source = u16At d 0 % 1024 then
        some ({ stage := q.2, tag := tag, channel := eventChan, data := d } : StageIn) else none
    else match p.chan ch with
      | some c => [{ stage := c.consumer, tag := tag, channel := ch, data := d }]
      | none => []
  { r with inputs := r.inputs ++ ticks ++ vals }

/-- What stage k of the copy does in a period: its digest record, what it sends, the copy after it, and the codes of
Table 10.6 that it read. -/
structure CopyFire where
  digest : DigestRec
  sends : List (Nat × Bytes)
  rt : Running
  mem : List (Nat × Byte)
  bad : Nat
deriving DecidableEq, Repr

/-- Stage k of the copy fires, or its period is void. -/
def fireCopy (p : Program) (n tag k : Nat) (r : Running) (m : List (Nat × Byte)) : CopyFire :=
  let st := p.stages.getD k ⟨0, 0, 0, 0, 0, 0, 0⟩
  if ready p r k tag then
    let ins := r.inputs.filter fun i => i.stage == k && i.tag == tag
    let c : FireCtx :=
      { base := 262144 * r.core st.core, slot := n, tag := tag, prog := p, gates := [], inputs := ins }
    let f := fireStage c m st
    let r := endPeriod p k tag (fun y => { y with run := 0, sat := f.sat, fired := y.fired + 1 }) r
    let inner := f.sends.filterMap fun (e : Nat × Bytes) => match p.chan e.1 with
      | some ch => if ch.kind = 0 ∨ ch.kind = 1 then
          some ({ stage := ch.consumer, tag := if ch.kind = 1 then (tag + p.step) % 4294967296 else tag
                  channel := ch.id, data := e.2 } : StageIn) else none
      | none => none
    { digest := { value := digestOf f, void := false, sat := f.sat }, sends := f.sends
      rt := { r with inputs := r.inputs ++ inner }, mem := f.mem, bad := f.bad }
  else { digest := { value := 0, void := true, sat := false }, sends := [], rt := endPeriod p k tag (fun y => y) r, mem := m
         bad := 0 }

/-- Kind of divergence of two records (Table 12.10); 0 none. -/
def divergence (e g : DigestRec) : Nat :=
  if e.void ≠ g.void then 2 else if e.void then 0 else if e.value ≠ g.value then 1 else if e.sat ≠ g.sat then 3 else 0

/-- Dry dock stops on a divergence of stage k. -/
def diverge (kind k : Nat) (e g : DigestRec) (out : List (Nat × Bytes)) (s : State) : State :=
  let s := { s with dock := { s.dock with
    st := .diverged, kind := kind, divPeriod := s.dock.tag, divStage := k, expected := e.value, got := g.value
    output := out.flatMap fun (e : Nat × Bytes) => e.2 } }
  s.raise (if kind ≤ 3 then 0x0F01 else 0x0F02) noInst

/-- No record. -/
def noDigest : DigestRec := { value := 0, void := false, sat := false }

/-- Stage k of the copy lacks a captured input in the period, its own or that of a stage it depends on. -/
def lacksInput (p : Program) (r : Running) (k tag : Nat) (lack : List Nat) : Bool :=
  (needs p k ((r.stage k).last == none)).any fun c => !inputHere p r k tag c &&
    match p.chan c with
    | some ch => if ch.kind = 0 then lack.contains ch.producer else ch.kind != 1
    | none => true

/-- The stages of a period, ascending, up to the first divergence; `lack`: those before that lack a captured input, which
is what a void of a later stage then shows (Table 12.10, kind 4). The copy's voids and the codes it reads count as a
program's do ([6000.0B], [6000.0F]). -/
def replayStages (p : Program) (l : List CapRecord) (lack : List Nat) : List Nat → State → State
  | [], s => s
  | k :: ks, s =>
    match s.dock.rt with
    | none => s
    | some r =>
      let tag := s.dock.tag
      let st := p.stages.getD k ⟨0, 0, 0, 0, 0, 0, 0⟩
      let lack := if lacksInput p r k tag lack then k :: lack else lack
      let f := fireCopy p s.dock.slot tag k r s.grid.sram
      let s := { s with
        grid := { s.grid with
          sram := f.mem, corrected := s.grid.corrected + f.bad, voids := s.grid.voids + b2n f.digest.void }
        dock := { s.dock with rt := some f.rt } }
      if bit st.flags 2 = false then replayStages p l lack ks s else
        match s.expectedDigest l tag k with
        | none => diverge 4 k noDigest f.digest f.sends s
        | some (false, e) => diverge 5 k e f.digest f.sends s
        | some (true, e) =>
          let d := divergence e f.digest
          if d = 2 ∧ f.digest.void = true ∧ lack.contains k = true then diverge 4 k e f.digest f.sends s
          else if d ≠ 0 then diverge d k e f.digest f.sends s
          else replayStages p l lack ks s

/-- The records that count in a run: those after its checkpoint. -/
def State.dockRecords (s : State) : List CapRecord := s.replayable s.dock.pos

/-- A period has been replayed without divergence: on to the next, or the end. -/
def dockNext (s : State) : State :=
  let d := s.dock
  let s := { s with dock := { d with replayed := d.replayed + 1, tag := (d.tag + d.step) % 4294967296 } }
  if d.st = .running ∧ tagGe s.dock.tag ((d.end_ + 1) % 4294967296) then { s with dock := { s.dock with st := .complete } }
  else s

/-- The digest record that stage k of the slot under test made live, by what the ring still holds. -/
def State.liveDigest (s : State) (l : List CapRecord) (k : Nat) : Option DigestRec :=
  (l.find? fun r => isRecord 1 s.dock.slot r && u32At r.payload 8 == s.dock.tag && u8At r.payload 13 == k).map
    fun r => digestAt r.payload

/-- The stages of a firmware slot's copy in a period (log entry 46): the copy of its own image makes the bits it made live
(R298); those of another image, or those the ring no longer holds, are free values. -/
def replayFwStages (l : List CapRecord) : List Nat → State → State
  | [], s => dockNext s
  | k :: ks, s =>
    match s.expectedDigest l s.dock.tag k with
    | none => diverge 4 k noDigest noDigest [] s
    | some (false, e) => diverge 5 k e noDigest [] s
    | some (true, e) =>
      let free : DigestRec := { e with value := Config.freeNat s.freeCount % 18446744073709551616 }
      let g := if s.dock.source = s.dock.slot then (s.liveDigest l k).getD free else free
      let s := { s with freeCount := s.freeCount + 1 }
      let d := divergence e g
      if d ≠ 0 then diverge d k e g [] s else replayFwStages l ks s

/-- A period of a firmware slot's copy: its captured inputs, then its stages in their order (R358, R359). -/
def replayFirmware (l : List CapRecord) (s : State) : State :=
  match capturedInputs l s.dock.slot s.dock.tag with
  | [] => diverge 4 0 noDigest noDigest [] s
  | ins =>
    if ins.any fun r => !r.crcOk then diverge 5 0 noDigest noDigest [] s
    else replayFwStages l (List.range (fwStages s.dock.source)) s

/-- DRYDOCK_REPLAY_PERIOD (R359): the placed copy runs; an end that comes after a step is the step's (Table 13.7). -/
def replayPeriodEff (s : State) : State :=
  if s.dock.st = .placing ∨ s.dock.st = .running then
    let s := { s with dock := { s.dock with st := .running } }
    let d := s.dock
    let l := s.dockRecords
    let p := parseProgram d.image
    let past := !(l.any fun r => isRecord 1 d.slot r && tagGe (u32At r.payload 8) d.tag) && s.cap.records.any isStep
    if tagGe d.tag ((d.end_ + 1) % 4294967296) ∨ past = true then { s with dock := { d with st := .complete } }
    else if freeSlot d.source = false then replayFirmware l s
    else
      let ins := capturedInputs l d.slot d.tag
      let s := { s with dock := { d with rt := d.rt.map (feedCopy p d.tag ins) } }
      match ins.find? (fun r => !r.crcOk) with
      | some _ => diverge 5 0 noDigest noDigest [] s
      | none =>
        let s := replayStages p l [] (List.range p.stages.length) s
        if s.dock.st = .running then dockNext s else s
  else s

/-- DRYDOCK_STOP. -/
def dockStopEff (ses : Nat) (s : State) : State :=
  if s.dock.st = .placing ∨ s.dock.st = .running then { s with dock := { s.dock with st := .stopped } }
  else s.violate ses 0x6A00 0x02

/-- DRYDOCK_CLEAR: the results of a run that has ended. -/
def dockClearEff (ses : Nat) (s : State) : State :=
  if s.dock.st = .placing ∨ s.dock.st = .running then s.violate ses 0x6A00 0x02
  else { s with dock := { Dock.reset with reference := s.dock.reference } }

/-! ### Meanings -/

/-- SLOT_BLOCK_WRITE (R352). -/
def execSlotBlockWrite (ses seq n offset : Nat) (data : Bytes) (s : State) : Host.Outcome State Fault Refusal :=
  runObj ses (0x6100 + n) 0x05 (decide (n < Config.slots)) s (slotBlockEff ses seq n offset data)

/-- SLOT_CHECK (R351). -/
def execSlotCheck (ses n : Nat) (s : State) : Host.Outcome State Fault Refusal :=
  runObj ses (0x6100 + n) 0x02 (decide (n < Config.slots)) s (slotCheckEff ses n)

/-- SLOT_BIND (R353). -/
def execSlotBind (ses n : Nat) (s : State) : Host.Outcome State Fault Refusal :=
  runObj ses (0x6100 + n) 0x02 (decide (n < Config.slots)) s (slotBindEff ses n)

/-- SLOT_UNBIND (R346). -/
def execSlotUnbind (ses n : Nat) (s : State) : Host.Outcome State Fault Refusal :=
  runObj ses (0x6100 + n) 0x02 (decide (n < Config.slots)) s (slotUnbindEff ses n)

/-- SLOT_RESTART (R357). -/
def execSlotRestart (ses n : Nat) (s : State) : Host.Outcome State Fault Refusal :=
  runObj ses (0x6100 + n) 0x02 (decide (n < Config.slots)) s (slotRestartEff ses n)

/-- SLOT_CLEAR (R346). -/
def execSlotClear (ses n : Nat) (s : State) : Host.Outcome State Fault Refusal :=
  runObj ses (0x6100 + n) 0x02 (decide (n < Config.slots)) s (slotClearEff ses n)

/-- SLOT_FAULT (R357). -/
def execSlotFault (n : Nat) (s : State) : Host.Outcome State Fault Refusal :=
  run (decide (n < Config.slots)) s (slotFaultEff n)

/-- STAGED_SLOT_WRITE (R212). -/
def execStagedSlotWrite (ses slot : Nat) (s : State) : Host.Outcome State Fault Refusal :=
  run (decide (ses < Config.sessions)) s (stagedSlotEff ses slot)

/-- DRYDOCK_START (R358). -/
def execDrydockStart (ses : Nat) (s : State) : Host.Outcome State Fault Refusal :=
  run (decide (ses < Config.sessions)) s (dockStartEff ses)

/-- DRYDOCK_REPLAY_PERIOD (R359). -/
def execDrydockReplayPeriod (s : State) : Host.Outcome State Fault Refusal := run true s replayPeriodEff

/-- DRYDOCK_STOP (R362). -/
def execDrydockStop (ses : Nat) (s : State) : Host.Outcome State Fault Refusal :=
  run (decide (ses < Config.sessions)) s (dockStopEff ses)

/-- DRYDOCK_CLEAR (R362). -/
def execDrydockClear (ses : Nat) (s : State) : Host.Outcome State Fault Refusal :=
  run (decide (ses < Config.sessions)) s (dockClearEff ses)

end Sys2Proof.Machine
end

