-- ==== Sys2Proof/Machine/Forecast.lean ====
section
/-! DEFINITION. The forecaster's evaluation (R198 to R201, R211 to R214, R221, R222): the input channels, the model's
output, the horizon, carried slopes, the switch of models. -/

namespace Sys2Proof.Machine

/-! ### Input channels (R211, Table 7.3) -/

/-- Entries the schedule channels show: pending and open ones, and those of the past 20 ms; none while hints are dropped
(R210, R218). -/
def liveEntries (s : State) : List SchedEntry := if hintsDropped s then [] else s.tide.entries ++ s.tide.past

/-- At a cut the schedule channels are fixed: what comes later belongs to the next evaluation (R198, Table 7.5). -/
def cutEntries (t0 : Nat) (s : State) : State :=
  { s with tide := { s.tide with cuts := ((t0, liveEntries s) :: s.tide.cuts).take 2 } }

/-- The entries of the evaluation cut at T_k. -/
def channelEntries (s : State) (cut : Nat) : List SchedEntry :=
  match s.tide.cuts.find? fun (e : Nat × List SchedEntry) => e.1 == cut with
  | some e => e.2
  | none => []

/-- End of the step of index i of an evaluation cut at T_k, ns (Table 7.3). -/
def stepEnd (cut i : Nat) : Int := (cut : Int) + ((i : Int) - 2039) * 10000

/-- Change of load of an entry, A. -/
def entryAmps (s : State) (e : SchedEntry) : Rat :=
  let v := vSet s
  if v = 0 then 0 else (e.delta : Rat) / v

/-- Fraction of an entry's ramp done at an instant; a ramp of 0 is a step. -/
def rampDone (e : SchedEntry) (a : Rat) : Rat :=
  if e.ramp = 0 then (if e.tc ≤ a then 1 else 0) else clampQ 0 1 ((a - e.tc) / (e.ramp : Rat))

/-- The entries whose corrected instant falls in the step that ends at a. -/
def stepEntries (l : List SchedEntry) (a : Int) : List SchedEntry :=
  l.filter fun e => decide (((a - 10000 : Int) : Rat) < e.tc) && decide (e.tc ≤ (a : Rat))

/-- Channel 0: I_L of the step less I_L at the cut; 0 of a step without a sample. -/
def loadChannel (s : State) (cut i : Nat) : Rat :=
  let at_ := fun (a : Int) => (s.tide.il.find? fun e => decide ((e.1 : Int) = a)).map (·.2)
  if i < 40 ∨ 2040 ≤ i then 0
  else match at_ (stepEnd cut i), at_ (cut : Int) with
    | some v, some v0 => v - v0
    | _, _ => 0

/-- Channel 1: the steps announced. -/
def stepChannel (s : State) (l : List SchedEntry) (cut i : Nat) : Rat :=
  if i < 40 then 0 else sumQ ((stepEntries l (stepEnd cut i)).map (entryAmps s))

/-- Channel 2: the level announced, less that at the cut. -/
def levelChannel (s : State) (l : List SchedEntry) (cut i : Nat) : Rat :=
  let at_ := fun (a : Rat) => sumQ (l.map fun e => entryAmps s e * rampDone e a)
  if i < 40 then 0 else at_ (stepEnd cut i : Rat) - at_ (cut : Rat)

/-- Channel 3: the confidence. -/
def confidenceChannel (l : List SchedEntry) (cut i : Nat) : Rat :=
  if i < 40 then 0 else (((stepEntries l (stepEnd cut i)).foldl (fun a e => max a e.conf) 0 : Nat) : Rat) / 255

/-- A channel as BFP8 with one exponent, in normalised mode (R211, R292, log entry 69). -/
def channelBlock (f : Nat → Rat) : Block := renorm 1 true 0 ((List.range 2240).map f)

/-- The four channels of the evaluation cut at T_k. -/
def channels (s : State) (cut : Nat) : List Block :=
  let l := channelEntries s cut
  [channelBlock (loadChannel s cut), channelBlock (stepChannel s l cut), channelBlock (levelChannel s l cut),
    channelBlock (confidenceChannel l cut)]

/-! ### The model (R198, R212, R221) -/

/-- Whether a stage of the model in a slot saturates, and its 200 values Î(T_k + j × 10 µs) − Î(T_k), read from its BFP16
output. -/
def modelRun (s : State) (cs : List Block) (slot : Nat) : Bool × List Rat :=
  let r := Config.modelOutput (s.slot slot).image (cs.map fun c => (c.e, c.m))
  (r.2, (List.range 200).map fun j => (clampI (-32767) 32767 (get 0 r.1.2 j) : Rat) * pow2 (r.1.1 - 15))

/-- A record of the evaluation (step 1 of training; log entry 69): blocks of 64 in the layout of Table 10.4, all with the
channel's exponent. -/
def channelBytes (b : Block) : Bytes :=
  (List.range ((b.m.length + 63) / 64)).flatMap fun i => blockBytes { b with m := (b.m.drop (64 * i)).take 64 }

/-- The evaluation's input channels and prediction go to the capture ring as input records 0 to 4 of its slot. -/
def tideRecords (slot cut : Nat) (cs : List Block) (p : List Rat) (s : State) : State :=
  ((cs ++ [renorm 2 true 0 p]).zipIdx).foldl (fun s e =>
    capRecord 2 slot (le 2 e.2 ++ le 2 0 ++ le 4 (cut / 1000 % 4294967296) ++ channelBytes e.1) s) s

/-- The delivery deadline, ns after the cut (Table 7.5). -/
def evalDeadline : Nat := 9500

/-- Cores a slot's tide descriptor requires (Table 7.4). -/
def State.tideCores (s : State) (n : Nat) : Nat := u8At (s.slot n).program.descriptor 20

/-- The model of a slot is evaluated: it is BOUND, on its own cores (R212, R221). -/
def State.modelRuns (s : State) (n : Nat) : Bool := decide ((s.slot n).st = .bound)

/-- The staged model runs in shadow: enabled, bound, and together with the active one within [4000.1A] cores (R221). -/
def State.shadowRuns (s : State) : Bool :=
  decide (s.cfgU 0x4000 0x05 = 1) && decide (s.tide.staged ≠ 0xFF) && s.modelRuns s.tide.staged &&
    decide (s.tideCores s.tide.active + s.tideCores s.tide.staged ≤ s.cfgU 0x4000 0x1A)

/-- The staged model's value for 100 µs after the cut, while it runs in shadow (R221); none of an evaluation that is
late or saturates, whose output is discarded (R214). -/
def shadowPoint (s : State) (cs : List Block) (i0 : Rat) (late : Bool) : Option Rat :=
  let r := modelRun s cs s.tide.staged
  if s.shadowRuns = true ∧ late = false ∧ r.1 = false then some (i0 + get 0 r.2 9) else none

/-- The cut of an evaluation: the whole 10 µs at or before now. -/
def cutOf (now : Nat) : Nat := now / 10000 * 10000

/-- The evaluation of a cut is due: WARMING or RUN with a model, neither this cut nor a later one evaluated yet. -/
def evalDue (s : State) (cut : Nat) : Bool :=
  (decide (s.tide.st = .warming) || decide (s.tide.st = .run)) && decide (s.tide.active ≠ 0xFF) &&
    (match s.tide.evalCut with
     | some a => decide (a < cut)
     | none => true)

/-- A discarded evaluation: its output is not used, s_2 of the last published horizon is carried (R214). -/
def carriedEff (cut : Nat) (saturated : Bool) (shadow : Option Rat) (s : State) : State :=
  let x := s.tide
  let recent := fun (l : List Nat) => l.filter fun a => decide (s.now < a + sec)
  let ct := s.now :: recent x.carriedT
  let et := s.now :: recent x.evalT
  let st := if saturated then s.now :: recent x.satT else recent x.satT
  let many := decide (10 < ct.length)
  let sats := decide (et.length < 100 * st.length)
  let y := { x with
    evals := x.evals + 1, evalT := et, evalCut := some cut
    carried := sat32 (x.carried + 1), carriedT := ct.take 11, up604 := many
    saturated := if saturated then sat32 (x.saturated + 1) else x.saturated, satT := st, up605 := sats
    consec := x.consec + 1, preds := x.preds ++ [(cut + 100000, none, shadow)] }
  let s := deliver cut ((get 0 x.horizon 1 : Rat) / 128) { s with tide := y }
  let s := when_ (many && !x.up604) (fun s => s.raise 0x0604 noInst) s
  let s := when_ (sats && !x.up605) (fun s => s.raise 0x0605 noInst) s
  if 100 ≤ s.tide.consec ∧ s.tide.st = .run then tideFault s else s

/-- An evaluation in time and without saturation: the horizon is published and s_1 delivered (R198 to R201). -/
def publishedEff (p : List Rat) (i0 : Rat) (shadow : Option Rat) (time : Nat) (s : State) : State :=
  let cut := cutOf s.now
  let slopes := (List.range 200).map fun i => slopeAt s cut p (i + 1)
  let raw := slopes.map slopeRaw
  let x := s.tide
  let et := s.now :: x.evalT.filter fun a => decide (s.now < a + sec)
  let sats := x.satT.filter fun a => decide (s.now < a + sec)
  let x := { x with
    evals := x.evals + 1, evalT := et, evalCut := some cut, evalLast := time % 65536
    evalHigh := max x.evalHigh (time % 65536), consec := 0, satT := sats, up605 := decide (et.length < 100 * sats.length)
    predicted := p.map fun v => clampI (-32768) 32767 (roundEven (v * 8)), horizon := raw, cut := cut
    stepAt := firstStep (s.cfgB 0x2200 0x0C) cut 1 0 raw
    preds := x.preds ++ [(cut + 100000, some (i0 + get 0 p 9), shadow)] }
  deliver cut (get 0 slopes 0) { s with tide := x }

/-- FORECAST_EVALUATION's effect. In ns from the cut: `stages` is the time at which the active model's stages have
completed, `shadow` that of the staged model's, `time` that of s_1 at the bus loop (Table 7.5). A flag set after the
deadline is not seen. The model of a slot that is not BOUND produces nothing. -/
def evaluationEff (stages shadow time : Nat) (s : State) : State :=
  if evalDue s (cutOf s.now) then
    let cut := cutOf s.now
    let cs := channels s cut
    let r := modelRun s cs s.tide.active
    let i0 := (s.tide.il.head?.map (·.2)).getD 0
    let sh := shadowPoint s cs i0 (decide (evalDeadline < shadow))
    if s.modelRuns s.tide.active = false then carriedEff cut false sh s else
    let s := tideRecords s.tide.active cut cs r.2 s
    if r.1 ∨ evalDeadline < time then carriedEff cut (r.1 && decide (min stages time ≤ evalDeadline)) sh s
    else publishedEff r.2 i0 sh time s
  else s

/-- EVALUATION_DEADLINE_MISS's effect: the evaluation of the last cut whose delivery deadline has passed has not produced
s_1 in time (R214). `complete` says that its stages had completed by the deadline. -/
def deadlineMissEff (complete : Bool) (s : State) : State :=
  let cut := cutOf (s.now - evalDeadline)
  if cut + evalDeadline ≤ s.now ∧ evalDue s cut = true then
    let cs := channels s cut
    let i0 := (ilAt s.tide.il (cut : Int)).getD 0
    carriedEff cut (complete && s.modelRuns s.tide.active && (modelRun s cs s.tide.active).1) (shadowPoint s cs i0 (!complete)) s
  else s

/-! ### The switch of models (R212, R222) -/

/-- The descriptor of a named slot is still one R212 accepts. -/
def State.slotAccepted (s : State) (n : Nat) : Bool := n == 0xFF || s.descOk (s.slot n).program

/-- The two slots change places; one that R212 no longer accepts is left unbound, with 0606h (log entry 69). -/
def switchModels (s : State) : State :=
  let x := s.tide
  if s.slotAccepted x.staged = false then
    State.raise { s with tide := { x with staged := 0xFF, switchAt := none, switchForced := false } } 0x0606 noInst
  else
    let ok := s.slotAccepted x.active
    let s := { s with tide := { x with
      active := x.staged, staged := if ok then x.active else 0xFF, switchAt := none, switchForced := false } }
    if ok then s else s.raise 0x0606 noInst

/-- Command 3 takes effect at the first cut at which no group's window is open, or that follows MODEL_SWITCH_FORCED. -/
def switchAtCut (t0 : Nat) (s : State) : State :=
  if t0 % 10000 = 0 ∧ s.tide.switchAt.isSome ∧ s.tide.staged ≠ 0xFF ∧
    (s.tide.switchForced ∨ windowOpen s (t0 : Rat) = false) then switchModels s else s

/-! ### Meanings -/

/-- FORECAST_EVALUATION (R198). -/
def execForecastEvaluation (stages shadow time : Nat) (s : State) : Host.Outcome State Fault Refusal :=
  run true s (evaluationEff stages shadow time)

/-- EVALUATION_DEADLINE_MISS (R214). -/
def execEvaluationDeadlineMiss (complete : Bool) (s : State) : Host.Outcome State Fault Refusal :=
  run true s (deadlineMissEff complete)

end Sys2Proof.Machine
end

