-- ==== Sys2Proof/Machine/Flags.lean ====
section
/-! DEFINITION. The status lines of the block: when each of the 1,024 event sources is high (Table 0.4). -/

namespace Sys2Proof.Machine

/-- Bytes held by a queue of the basin: Trasia header and payload of each frame. -/
def queueBytes (l : List (Nat × Bytes)) : Nat := l.foldl (fun n (e : Nat × Bytes) => n + e.2.length) 0

/-- Basin occupancy [1300.06]: both queues (R402, R403). -/
def State.basin (s : State) : Nat := queueBytes s.port.reports + queueBytes s.port.keeper

/-- Sources 208 to 214 (R267, R273, R276, Table 9.6). -/
def feedLevel (s : State) (n : Nat) : Bool :=
  match n with
  | 0 => decide (s.groupSt 0 = .dip)
  | 1 => decide (s.groupSt 1 = .dip)
  | 2 => s.feed.override
  | 3 => decide (10 ≤ get 0 s.feed.auxRun 0)
  | 4 => decide (10 ≤ get 0 s.feed.auxRun 1)
  | 5 => (get Group.reset s.feed.groups 0).portDown
  | 6 => (get Group.reset s.feed.groups 1).portDown
  | _ => false

/-- Sources 256 to 261 (R409). -/
def portLevel (s : State) (n : Nat) : Bool :=
  match n with
  | 0 => s.port.link != 2
  | 1 => s.port.pauseSince.isSome
  | 2 => (List.range 8).any s.paused
  | 3 => decide (s.cfgU 0x1300 0x05 ≤ queueBytes s.port.keeper)
  | 4 => match s.port.reportDropAt with
    | some a => decide (s.now < a + ms)
    | none => false
  | 5 => s.port.shelf
  | _ => false

/-- Sources 320 to 324 (R483). -/
def pairLevel (s : State) (n : Nat) : Bool :=
  match n with
  | 0 => decide (2 ≤ s.pair.link)
  | 1 => s.pair.roleIn
  | 2 => s.pair.faultIn
  | 3 => match s.pair.missAt with
    | some a => decide (s.now < a + 100000)
    | none => false
  | 4 => decide (s.pair.role = .taking)
  | _ => false

/-- Phase sources (R93). -/
def phaseLevel (x : Phase) : Bool :=
  match x.st with
  | .snub | .handoff | .fault | .linkLost => true
  | _ => false

/-- The level of an event source. -/
def State.sourceLevel (s : State) (src : Nat) : Bool :=
  if src < 128 then phaseLevel (s.ph (src / 8) (src % 8))
  else if src < 144 then (s.tow (src - 128)).weir
  else if src < 160 then !(s.tray (src - 144)).pin
  else if src < 192 then
    let l := s.link ((src - 160) / 2)
    if src % 2 = 0 then l.lostAt.isSome else l.up && l.oneLane
  else if src < 208 then (s.tow (src - 192)).brkSource
  else if src < 256 then feedLevel s (src - 208)
  else if src = 312 then !(decide (s.clk.st = .locked) || decide (s.clk.st = .following))
  else if src < 320 then portLevel s (src - 256)
  else if src < 384 then pairLevel s (src - 320)
  else match s.routedGate src with
    | some e => e.2.reached
    | none => false

end Sys2Proof.Machine
end

