-- ==== Sys2Proof/Machine/Events.lean ====
section
/-! DEFINITION. The event controller's commands (chapter 11): sensing, delivery, the register banks, masks. -/

namespace Sys2Proof.Machine

/-- Key of a core and a source in the banks. -/
def ekey (core src : Nat) : Nat := 1024 * core + src

/-- What the banks of a target hold of a source: pending, in service, in the fast queue or held for it (R333). -/
def State.evBusy (s : State) (core src : Nat) : Bool :=
  let k := ekey core src
  s.ev.pending.any (fun e => e.1 == k) || s.ev.service.contains k || s.ev.held.any (fun e => e.1 == k)
    || (get [] s.ev.fast core).any (fun r => r.src == src)

/-- The targets of a source with their class, fast being true (Table 11.6). -/
def targetsOf (src w : Nat) : List (Nat × Bool) :=
  (if bitField w 11 5 < 68 then [(bitField w 11 5, bit w 3)] else []) ++
    (if src < 384 ∧ bit w 12 then [(bitField w 18 13, false)] else [])

/-- A delivery is stopped: the source is masked, and no mask write of the last 24 ns lets one more through (R340). -/
def State.evStopped (s : State) (src : Nat) : Bool :=
  bit (s.srcWord src) 4 && !(s.ev.masks.any fun m => m.1 == src && decide (s.now < m.2 + 24))

/-- A delivery made inside the mask window is counted and uses the window up (R340). -/
def useMaskWindow (src : Nat) (s : State) : State :=
  if bit (s.srcWord src) 4 then
    { s with ev := { s.ev with
      maskWin := sat32 (s.ev.maskWin + 1), masks := s.ev.masks.filter fun m => m.1 != src } }
  else s

/-- A fast delivery finds the queue full: the source stays pending at the controller (R337). -/
def refuseFast (core : Nat) (r : EvRec) (s : State) : State :=
  let x := s.ev
  let times := (x.refTimes ++ [s.now]).filter fun a => decide (s.now < a + sec)
  let many := decide (100 < times.length)
  let s := { s with ev := { x with
    held := Store.ins (ekey core r.src) r (Store.del x.held (ekey core r.src))
    overflow := upd x.overflow core (fun n => sat32 (n + 1))
    refusals := sat32 (x.refusals + 1)
    refTimes := times
    upRef := many } }
  if many && !x.upRef then s.raise 0x0A05 noInst else s

/-- A record enters the bank of its target (R336). -/
def deliverTo (core : Nat) (fast : Bool) (r : EvRec) (s : State) : State :=
  let x := s.ev
  if fast then
    if (get [] x.fast core).length < 8 then
      when_ (decide (64 ≤ core)) (fun s => s.send (.eventInterrupt core))
        { s with ev := { x with fast := upd x.fast core (fun q => q ++ [r]), delivered := x.delivered + 1 } }
    else refuseFast core r s
  else
    { s with ev := { x with
      pending := Store.ins (ekey core r.src) r (Store.del x.pending (ekey core r.src)), delivered := x.delivered + 1 } }

/-- Move a source's sequence number on and stamp the change (R335). -/
def senseChange (src : Nat) (s : State) : State :=
  let n := (Store.get 0 s.ev.seq src + 1) % 256
  { s with ev := { s.ev with seq := Store.set 0 s.ev.seq src n, at_ := Store.set 0 s.ev.at_ src s.now } }

/-- The record of a source's last sensed change. -/
def State.evRecord (s : State) (src kind : Nat) : EvRec :=
  { src := src, kind := kind, seq := Store.get 0 s.ev.seq src, at_ := Store.get 0 s.ev.at_ src }

/-- The targets at which nothing of the source is pending or in service. -/
def State.freeTargets (s : State) (src : Nat) : List (Nat × Bool) :=
  (targetsOf src (s.srcWord src)).filter fun e => !s.evBusy e.1 src

/-- Deliver to some targets. -/
def deliverAll (targets : List (Nat × Bool)) (r : EvRec) (s : State) : State :=
  targets.foldl (fun s e => deliverTo e.1 e.2 r s) s

/-- A level-sensed source that is active and unmasked is delivered where nothing of it is pending or in service
(R333, R334). -/
def levelDeliver (src : Nat) (s : State) : State :=
  let sense := s.srcWord src % 8
  let active := (sense == 1 && s.sourceLevel src) || (sense == 2 && !s.sourceLevel src)
  let free := s.freeTargets src
  if active && !s.evStopped src && free != [] then
    deliverAll free (s.evRecord src 0) (useMaskWindow src s)
  else s

/-- A level-sensed source delivered again without a change has a new sequence number and the same time (R341). -/
def redeliver (src : Nat) (s : State) : State :=
  let sense := s.srcWord src % 8
  let active := (sense == 1 && s.sourceLevel src) || (sense == 2 && !s.sourceLevel src)
  if active && !s.evStopped src && s.freeTargets src != [] then
    levelDeliver src { s with ev := { s.ev with seq := Store.set 0 s.ev.seq src ((Store.get 0 s.ev.seq src + 1) % 256) } }
  else s

/-- An edge the sense takes: discarded while masked, coalesced where a delivery is pending or in service (R333, R334). -/
def edgeDeliver (src kind : Nat) (s : State) : State :=
  let s := senseChange src s
  if s.evStopped src then s else
    let free := s.freeTargets src
    let all := targetsOf src (s.srcWord src)
    let s := if free.length < all.length then { s with ev := { s.ev with coalesced := sat32 (s.ev.coalesced + 1) } } else s
    if free = [] then s else deliverAll free (s.evRecord src kind) (useMaskWindow src s)

/-- SOURCE_CHANGE (R333): the level differs from the last one sensed. -/
def sourceChangeEff (src : Nat) (s : State) : State :=
  let high := s.sourceLevel src
  if high = s.ev.high.contains src then s else
    let list := if high then (src :: s.ev.high).mergeSort (fun a b => decide (a ≤ b)) else s.ev.high.filter (· != src)
    let s := { s with ev := { s.ev with high := list, at_ := Store.set 0 s.ev.at_ src s.now } }
    match s.srcWord src % 8 with
    | 1 => if high then levelDeliver src (senseChange src s) else s
    | 2 => if high then s else levelDeliver src (senseChange src s)
    | 3 => if high then edgeDeliver src 1 s else s
    | 4 => if high then s else edgeDeliver src 2 s
    | 5 => edgeDeliver src (if high then 1 else 2) s
    | _ => s

/-! ### The register banks (Table 11.7) -/

/-- A record as its 16 bytes (R335). -/
def EvRec.bytes (r : EvRec) : Bytes := le 2 r.src ++ le 1 r.kind ++ le 1 r.seq ++ le 8 r.at_ ++ le 4 0

/-- Tag of the next event of a stage: its own firing count (R354). -/
def nextEventTag (r : Running) (k : Nat) : Nat :=
  let x := r.stage k
  match pendingTags r k ++ x.ahead ++ x.last.toList with
  | [] => 0
  | t :: rest => (rest.foldl (fun a b => if tagGe b a then b else a) t + 1) % 4294967296

/-- A record taken by a grid core is the input of the stage bound to its source (R338, R354). -/
def recordTaken (core : Nat) (r : EvRec) (s : State) : State :=
  if 64 ≤ core then s else
    (List.range Config.slots).foldl (fun s n =>
      match (s.slot n).st, (s.slot n).rt with
      | .bound, some rt =>
        (s.slot n).program.stages.zipIdx.foldl (fun s q =>
          if bit q.1.flags 1 ∧ q.1.source = r.src ∧ rt.core q.1.core = core then
            let tag := nextEventTag (((s.slot n).rt).getD rt) q.2
            addInput n q.2 tag eventChan r.bytes (inputRecord n 0xFFFF tag r.bytes s)
          else s) s
      | .fault, some rt =>
        let p := (s.slot n).program
        p.stages.zipIdx.foldl (fun s q =>
          if bit q.1.flags 1 ∧ q.1.source = r.src ∧ rt.core q.1.core = core then
            let tag := nextEventTag (((s.slot n).rt).getD rt) q.2
            let pass := fun (rt : Running) => if (rt.stage q.2).over tag then rt else endPeriod p q.2 tag (fun y => y) rt
            (faultPeriod n tag s).updSlot n (fun x => { x with rt := x.rt.map pass })
          else s) s
      | _, _ => s) s

/-- Reading TAKE (R336): a grid core takes its fast records first, and a keeper core's fast deliveries interrupt the
scheduler that takes its normal ones (R338). -/
def eventTakeEff (core : Nat) (s : State) : State :=
  if get [] s.ev.fast core ≠ [] then s else
    match s.ev.pending.find? fun e => e.1 / 1024 == core with
    | none => s.send (.eventWord core 0xFFFF)
    | some e =>
      let x := s.ev
      recordTaken core e.2 (({ s with ev := { x with
        pending := Store.del x.pending e.1
        service := x.service ++ [e.1]
        taken := upd x.taken core (fun _ => e.2) } }).send (.eventWord core e.2.src))

/-- Writing ACK (R333). -/
def eventAckEff (core src : Nat) (s : State) : State :=
  if s.ev.service.contains (ekey core src) then
    redeliver src { s with ev := { s.ev with service := s.ev.service.filter (· != ekey core src) } }
  else s

/-- MASK_SET (R340). -/
def maskSetEff (src : Nat) (s : State) : State :=
  let w := s.srcWord src
  if bit w 4 then s else
    let s := s.setSrcWord src (setBit w 4 true)
    { s with ev := { s.ev with masks := s.ev.masks ++ [(src, s.now)] } }

/-- MASK_CLEAR (R334). -/
def maskClearEff (src : Nat) (s : State) : State :=
  let s := s.setSrcWord src (setBit (s.srcWord src) 4 false)
  levelDeliver src { s with ev := { s.ev with masks := s.ev.masks.filter fun m => m.1 != src } }

/-- A held delivery of the lowest source enters a queue that has room (R337, Table 11.10). -/
def admitHeld (core : Nat) (s : State) : State :=
  match s.ev.held.find? fun e => e.1 / 1024 == core with
  | some e => deliverTo core true e.2 { s with ev := { s.ev with held := Store.del s.ev.held e.1 } }
  | none => s

/-- POP (R337). -/
def fastPopEff (core : Nat) (s : State) : State :=
  match get [] s.ev.fast core with
  | [] => s
  | r :: rest =>
    let s := { s with ev := { s.ev with fast := upd s.ev.fast core (fun _ => rest) } }
    recordTaken core r (redeliver r.src (admitHeld core s))

/-! ### Configuration (R331, R332) -/

/-- A word the integrator may write over another: sources 0 to 383 keep bits [11:0], a mirror target lies in the user
region; the target exists and the reserved bits are 0. -/
def srcWordOk (s : State) (src w : Nat) : Bool :=
  decide (w < 524288) && decide (bitField w 11 5 < 68) &&
    (decide (384 ≤ src) ||
      (w % 4096 == s.srcWord src % 4096 && (!bit w 12 || s.userCores.contains (bitField w 18 13))))

/-- Words in order; false: some word was ignored. -/
def srcWords : Nat → Bytes → State → State × Bool
  | src, b0 :: b1 :: b2 :: b3 :: rest, s =>
    let w := ofLe [b0, b1, b2, b3]
    if srcWordOk s src w then srcWords (src + 1) rest (levelDeliver src (s.setSrcWord src w))
    else ((srcWords (src + 1) rest s).1, false)
  | _, _, s => (s, true)

/-- A write of [6900.03] (R332, R418): one violation however many of its words are ignored. -/
def sourceConfigEff (ses offset : Nat) (data : Bytes) (s : State) : State :=
  let first := s.win ses 0x6900 0x02 + offset / 4
  if data = [] ∨ data.length % 4 ≠ 0 ∨ offset % 4 ≠ 0 ∨ 1024 < first + data.length / 4 then s.violate ses 0x6900 0x03 else
    let r := srcWords first data s
    if r.2 then r.1 else r.1.violate ses 0x6900 0x03

/-- Command 1 of [6900.0B]; the deliveries count since power-up. -/
def eventsClearEff (s : State) : State :=
  { s with ev := { s.ev with coalesced := 0, maskWin := 0, routesCleared := 0, refusals := 0 } }

/-! ### Meanings -/

/-- SOURCE_CHANGE. -/
def execSourceChange (src : Nat) (s : State) : Host.Outcome State Fault Refusal :=
  run (decide (src < 1024)) s (sourceChangeEff src)

/-- EVENT_TAKE. -/
def execEventTake (core : Nat) (s : State) : Host.Outcome State Fault Refusal :=
  run (decide (core < 68)) s (eventTakeEff core)

/-- EVENT_ACK. -/
def execEventAck (core src : Nat) (s : State) : Host.Outcome State Fault Refusal :=
  run (decide (core < 68) && decide (src < 1024)) s (eventAckEff core src)

/-- MASK_SET: the core's number tells the bank only. -/
def execMaskSet (core src : Nat) (s : State) : Host.Outcome State Fault Refusal :=
  run (decide (core < 68) && decide (src < 1024)) s (maskSetEff src)

/-- MASK_CLEAR. -/
def execMaskClear (core src : Nat) (s : State) : Host.Outcome State Fault Refusal :=
  run (decide (core < 68) && decide (src < 1024)) s (maskClearEff src)

/-- FAST_POP. -/
def execFastPop (core : Nat) (s : State) : Host.Outcome State Fault Refusal :=
  run (decide (core < 68)) s (fastPopEff core)

/-- SOURCE_CONFIG_WRITE. -/
def execSourceConfigWrite (ses offset : Nat) (data : Bytes) (s : State) : Host.Outcome State Fault Refusal :=
  run (decide (ses < 32)) s (sourceConfigEff ses offset data)

/-- EVENTS_CLEAR_COUNTERS. -/
def execEventsClearCounters (ses : Nat) (s : State) : Host.Outcome State Fault Refusal :=
  run (decide (ses < 32)) s eventsClearEff

end Sys2Proof.Machine
end

