-- ==== Sys2Proof/Machine/Recorder.lean ====
section
/-! DEFINITION. The event recorder (chapter 18). -/

namespace Sys2Proof.Machine

/-! ### The record (R485) -/

/-- Role [0001.01]: 0 starting, 1 active, 2 standby; FAILED counts as standby (log entry 48). -/
def State.roleCode (s : State) : Nat :=
  match s.pair.role with
  | .deciding => 0
  | .active | .taking => 1
  | _ => 2

/-- Code of the shelf-time state (Table 13.2). -/
def ClkSt.code : ClkSt → Nat
  | .local_ => 0
  | .acquiring => 1
  | .locked => 2
  | .holdover => 3
  | .following => 4

/-- What a record says of a handler run; the rest is taken at the write. -/
structure RecordOf where
  code : Nat
  inst : Nat
  ctx : Nat
  flags : Nat
  supp : Nat
  data : Bytes
deriving DecidableEq, Repr

/-- A record as it is formed at staging (Table 18.1). -/
def recordBytes (x : RecordOf) (s : State) : Bytes :=
  let stand := decide (s.pair.role = .standby) || decide (s.pair.role = .unsynced)
  let b := le 4 s.rcd.nextSeq ++ le 2 x.code ++ le 1 (severity x.code) ++ le 1 (x.flags + 8 * b2n stand) ++
    le 2 x.inst ++ le 2 x.ctx ++ le 4 s.od.powerCycles ++ le 8 s.now ++ le 4 s.od.opSeconds ++ le 2 (sat16 x.supp) ++
    le 1 s.clk.st.code ++ le 1 s.roleCode ++ padTo 28 x.data
  b ++ le 4 (crc32c b)

/-- Upper-case hexadecimal digits of a number, most significant first. -/
def hexDigits : Nat → Nat → Bytes
  | 0, _ => []
  | n + 1, v =>
    let d := v / 16 ^ n % 16
    BitVec.ofNat 8 (if d < 10 then 48 + d else 55 + d) :: hexDigits n v

/-- The console line of a record (R545); its fields are separated by a space (log entry 49). -/
def recordLine (b : Bytes) : Bytes :=
  hexDigits 8 (u32At b 0) ++ [0x20] ++ hexDigits 4 (u16At b 4) ++ [0x20] ++ hexDigits 2 (u8At b 6) ++ [0x20] ++
    hexDigits 4 (u16At b 8) ++ [0x20] ++ hexDigits 16 (u64At b 16) ++ [0x0D, 0x0A]

/-- Key of a code and instance. -/
def ciKey (code inst : Nat) : Nat := 65536 * code + inst

/-- Runs of a code and instance without a record since its last one. -/
def State.unrecorded (s : State) (code inst : Nat) : Nat := Store.get 0 s.rcd.unrecorded (ciKey code inst)

/-- Set their number. -/
def State.setUnrecorded (s : State) (code inst n : Nat) : State :=
  { s with rcd := { s.rcd with unrecorded := Store.set 0 s.rcd.unrecorded (ciKey code inst) n } }

/-- Stage a record; a full buffer loses it, 0C05h once for a run of losses (R487). The raises of a lost summary are counted
already. -/
def stageRecord (x : RecordOf) (s : State) : State :=
  let b := recordBytes x s
  let r := s.rcd
  if 64 ≤ r.staged.length then
    let s := { s with rcd := { r with nextSeq := r.nextSeq + 1, lost := sat32 (r.lost + 1), losing := true } }
    when_ (!r.losing) (fun s => s.raise 0x0C05 noInst)
      (s.setUnrecorded x.code x.inst (s.unrecorded x.code x.inst + b2n (!bit x.flags 1)))
  else
    let s := { s with rcd := { r with nextSeq := r.nextSeq + 1, staged := r.staged ++ [b], losing := false } }
    (s.setUnrecorded x.code x.inst 0).send (.console (recordLine b))

/-! ### Rate limiting (R490 to R492) -/

/-- The open window of a code and instance. -/
def State.rateWindow (s : State) (code inst : Nat) : Option RateWindow :=
  s.rcd.windows.find? fun w => w.code == code && w.inst == inst

/-- Change it. -/
def State.updWindow (s : State) (code inst : Nat) (f : RateWindow → RateWindow) : State :=
  { s with rcd := { s.rcd with windows := s.rcd.windows.map fun w =>
    if w.code = code ∧ w.inst = inst then f w else w } }

/-- A window's time is over. -/
def State.windowOver (s : State) (w : RateWindow) : Bool := decide (w.opened + s.cfgU 0x7200 0x09 * ms ≤ s.now)

/-- Close a window; a nonzero suppressed count leaves a summary record (R491). -/
def closeWindow (w : RateWindow) (s : State) : State :=
  let s := { s with rcd := { s.rcd with windows := s.rcd.windows.filter fun v => v != w } }
  if w.suppressed = 0 then s else
    stageRecord { code := w.code, inst := w.inst, ctx := w.lastCtx, flags := 2, supp := w.suppressed
                  data := le 8 w.lastAt } s

/-- A record that takes part in no limit. -/
def recordAlways (r : Raise) (flags : Nat) (s : State) : State :=
  stageRecord { code := r.code, inst := r.inst, ctx := r.ctx, flags := flags, supp := s.unrecorded r.code r.inst
                data := r.data } s

/-- A new window with its first record. -/
def openWindow (r : Raise) (flags : Nat) (s : State) : State :=
  let w : RateWindow := { code := r.code, inst := r.inst, opened := s.now, written := 1, suppressed := 0, lastCtx := 0
                          lastAt := 0 }
  let s := recordAlways r flags s
  { s with rcd := { s.rcd with windows := s.rcd.windows ++ [w] } }

/-- A run within an open window. -/
def recordInWindow (r : Raise) (flags : Nat) (w : RateWindow) (s : State) : State :=
  if w.written < s.cfgU 0x7200 0x08 then
    (recordAlways r flags s).updWindow r.code r.inst (fun w => { w with written := w.written + 1 })
  else
    let s := s.updWindow r.code r.inst (fun w => { w with
      suppressed := w.suppressed + 1, lastCtx := r.ctx, lastAt := r.at_ })
    let s := { s with rcd := { s.rcd with suppressed := sat32 (s.rcd.suppressed + 1) } }
    s.setUnrecorded r.code r.inst (s.unrecorded r.code r.inst + 1)

/-- The record of a handler run (R490, R492). -/
def recordRun (r : Raise) (flags : Nat) (s : State) : State :=
  if 4 ≤ severity r.code ∨ bit flags 0 = true ∨ r.code = 0x0C01 then recordAlways r flags s else
    match s.rateWindow r.code r.inst with
    | none => openWindow r flags s
    | some w => if s.windowOver w then openWindow r flags (closeWindow w s) else recordInWindow r flags w s

/-- RATE_WINDOW_CLOSE (R491). -/
def rateCloseEff (code inst : Nat) (s : State) : State :=
  match s.rateWindow code inst with
  | some w => if s.windowOver w then closeWindow w s else s
  | none => s

/-! ### The store (R493) -/

/-- Highest severity in a segment. -/
def segSeverity (l : List Bytes) : Nat := (l.map fun b => u8At b 6).foldl max 0

/-- Its newest sequence. -/
def segNewest (l : List Bytes) : Nat := (l.map fun b => u32At b 0).foldl max 0

/-- The segment to reclaim: lowest highest severity, then oldest newest sequence. -/
def reclaimIdx (segs : List (List Bytes)) : Option Nat :=
  let full := (segs.dropLast).zipIdx
  (full.foldl (fun (a : Option (List Bytes × Nat)) q =>
    match a with
    | none => some q
    | some b =>
      if segSeverity q.1 < segSeverity b.1 ∨ (segSeverity q.1 = segSeverity b.1 ∧ segNewest q.1 < segNewest b.1)
      then some q else a) none).map (·.2)

/-- Reclaim a segment when none is erased; 0C04h when it held severity 3 or higher. -/
def reclaim (s : State) : State :=
  if s.rcd.segs.length < 512 then s else
    match reclaimIdx s.rcd.segs with
    | none => s
    | some i =>
      let bad := decide (3 ≤ segSeverity (s.rcd.segs.getD i []))
      let s := { s with rcd := { s.rcd with
        segs := s.rcd.segs.eraseIdx i, reclaimed := sat32 (s.rcd.reclaimed + 1) } }
      when_ bad (fun s => s.raise 0x0C04 noInst) s

/-- Append a record to the segment being filled; a full one gives way to an erased one. -/
def appendRecord (b : Bytes) (segs : List (List Bytes)) : List (List Bytes) :=
  match segs.reverse with
  | [] => [[b]]
  | last :: rest =>
    let x := last ++ [b]
    (rest.reverse ++ [x]) ++ (if 2048 ≤ x.length then [[]] else [])

/-- The oldest staged record reaches flash, or stays staged with 0C02h (R487, R499). -/
def flashRecordEff (ok : Bool) (s : State) : State :=
  match s.rcd.staged with
  | [] => s
  | b :: rest =>
    if ok then
      reclaim { s with rcd := { s.rcd with staged := rest, segs := appendRecord b s.rcd.segs, failedAt := none } }
    else State.raise { s with rcd := { s.rcd with failedAt := some s.now } } 0x0C02 noInst

/-- RECORD_FLASH_WRITE: once a write has failed, only a retry writes. -/
def flashWriteEff (ok : Bool) (s : State) : State := if s.rcd.failedAt.isSome then s else flashRecordEff ok s

/-- RECORD_FLASH_RETRY: 10 ms after a write that failed (R499). -/
def flashRetryEff (ok : Bool) (s : State) : State :=
  match s.rcd.failedAt with
  | some a => if a + 10 * ms ≤ s.now then flashRecordEff ok s else s
  | none => s

/-! ### Reading (R494, R495) -/

/-- Records in flash above the clear mark. -/
def State.heldRecords (s : State) : List Bytes :=
  s.rcd.segs.flatMap fun l => l.filter fun b => decide (s.rcd.clearMark < u32At b 0)

/-- A record's CRC holds. -/
def recordOk (b : Bytes) : Bool := u32At b 60 == crc32c (b.take 60)

/-- A record as a read returns it. -/
def readRecord (b : Bytes) : Bytes := if recordOk b then b else padTo 64 (b.take 4)

/-- 0C03h once for each record whose CRC fails at a read. -/
def warnRecord (b : Bytes) (s : State) : State :=
  if recordOk b ∨ s.rcd.crcWarned.contains (u32At b 0) = true then s
  else State.raise { s with rcd := { s.rcd with crcWarned := u32At b 0 :: s.rcd.crcWarned } } 0x0C03 noInst

/-- A read of n bytes from an offset touches some of a list of records: each is checked (R495). -/
def warnTouched (l : List Bytes) (offset n : Nat) (s : State) : State :=
  (l.zipIdx.filter fun q => decide (offset < 64 * q.2 + 64) && decide (64 * q.2 < offset + n)).foldl
    (fun s q => warnRecord q.1 s) s

/-- The records a read of [7200.06] returns for a session. -/
def State.recordsFrom (s : State) (ses : Nat) : List Bytes :=
  (s.heldRecords.filter fun b => decide (s.win ses 0x7200 0x05 ≤ u32At b 0)).take 128

/-- A read of [7200.06]: its bytes, and the session's next read sequence. -/
def readRecords (ses offset length : Nat) (s : State) : Bytes × State :=
  let held := s.recordsFrom ses
  let data := padTo length (slice (held.flatMap readRecord) offset length)
  let whole := (held.zipIdx.filter fun q => decide (offset ≤ 64 * q.2) && decide (64 * q.2 + 64 ≤ offset + length)).map
    (·.1)
  let s := warnTouched held offset length s
  match whole.getLast? with
  | some b => (data, s.setWin ses 0x7200 0x05 ((u32At b 0 + 1) % 4294967296))
  | none => (data, s)

/-- RECORD_BLOCK_READ (R494). -/
def recordReadEff (ses offset length : Nat) (s : State) : State :=
  if length = 0 ∨ s.blockLimit < length then
    (s.violate ses 0x7200 0x06).send (.blockData ses 0x7200 0x06 (List.replicate (min length s.blockLimit) 0))
  else
    let r := readRecords ses offset length s
    r.2.send (.blockData ses 0x7200 0x06 r.1)

/-- The records of the last two segments and the staged ones, above the clear mark, in order. -/
def State.newestRecords (s : State) : List Bytes :=
  (((s.rcd.segs.reverse.take 2).reverse).flatten ++ s.rcd.staged).filter fun b => decide (s.rcd.clearMark < u32At b 0)

/-- The 16 newest records, newest first. -/
def State.latestList (s : State) : List Bytes := s.newestRecords.reverse.take 16

/-- What a read of [7200.07] returns. -/
def State.latestRecords (s : State) : Bytes := s.latestList.flatMap readRecord

/-! ### Clearing (R496 to R498) -/

/-- The segments after a clear to v: one whose records all lie at or below v is erased (R497). -/
def clearSegments (v : Nat) (segs : List (List Bytes)) : List (List Bytes) :=
  let stays := fun (l : List Bytes) => l.any fun b => decide (v < u32At b 0)
  match segs.getLast? with
  | some x => segs.dropLast.filter stays ++ [if stays x then x else []]
  | none => []

/-- RECORDER_CLEAR: an inner write of v to [7200.0F], verified with a key; staged records at or below v are cleared with
those in flash. -/
def recorderClearEff (ses v : Nat) (key : Bytes) (s : State) : State :=
  let newest := s.rcd.nextSeq - 1
  let v := if v = 0xFFFFFFFF then newest else v
  if v < s.rcd.clearMark ∨ newest < v then s.violate ses 0x7200 0x0F else
    let all := s.heldRecords ++ s.rcd.staged.filter fun b => decide (s.rcd.clearMark < u32At b 0)
    let gone := all.filter fun b => decide (u32At b 0 ≤ v)
    let seqOf := fun (b : Option Bytes) => match b with
      | some b => u32At b 0
      | none => 0
    let s := { s with rcd := { s.rcd with
      segs := clearSegments v s.rcd.segs
      clearMark := v
      lastClear := s.now } }
    s.raiseWith 0x0C01 noInst (le 4 (seqOf gone.head?) ++ le 4 (seqOf gone.getLast?) ++ le 4 gone.length ++ le 2 ses ++
      (sha256 key).take 8)

/-- Command 1 of [7200.10]. -/
def recorderClearCountersEff (s : State) : State := { s with rcd := { s.rcd with suppressed := 0, lost := 0 } }

/-! ### Meanings -/

/-- RECORD_FLASH_WRITE (R487). -/
def execRecordFlashWrite (ok : Bool) (s : State) : Host.Outcome State Fault Refusal := run true s (flashWriteEff ok)

/-- RECORD_FLASH_RETRY (R499). -/
def execRecordFlashRetry (ok : Bool) (s : State) : Host.Outcome State Fault Refusal := run true s (flashRetryEff ok)

/-- RATE_WINDOW_CLOSE (R491). -/
def execRateWindowClose (code inst : Nat) (s : State) : Host.Outcome State Fault Refusal :=
  run (decide (code < 65536) && decide (inst < 65536)) s (rateCloseEff code inst)

/-- RECORD_BLOCK_READ (R494). -/
def execRecordBlockRead (ses offset length : Nat) (s : State) : Host.Outcome State Fault Refusal :=
  run (decide (ses < Config.sessions)) s (recordReadEff ses offset length)

/-- RECORDER_CLEAR (R496). -/
def execRecorderClear (ses v : Nat) (key : Bytes) (s : State) : Host.Outcome State Fault Refusal :=
  run (decide (ses < Config.sessions)) s (recorderClearEff ses v key)

/-- RECORDER_CLEAR_COUNTERS (R501). -/
def execRecorderClearCounters (ses : Nat) (s : State) : Host.Outcome State Fault Refusal :=
  run (decide (ses < Config.sessions)) s recorderClearCountersEff

end Sys2Proof.Machine
end

