-- ==== Sys2Proof/Machine/Faults.lean ====
section
/-! DEFINITION. The fault manager (chapter 16). -/

namespace Sys2Proof.Machine

/-- Severity of a raise. -/
def Raise.sev (r : Raise) : Nat := severity r.code

/-- Same code and instance (R448). -/
def Raise.same (r x : Raise) : Bool := r.code == x.code && r.inst == x.inst

/-- One occurrence more, up to FFFFh. -/
def Raise.again (r : Raise) : Raise := { r with count := sat16 (r.count + 1) }

/-! ### The active list (R456) -/

/-- The active entry of a code and instance. -/
def State.activeOf (s : State) (code inst : Nat) : Option Active :=
  s.fm.active.find? fun e => e.code == code && e.inst == inst

/-- Change it. -/
def State.updActive (s : State) (code inst : Nat) (f : Active → Active) : State :=
  { s with fm := { s.fm with active := s.fm.active.map fun e =>
    if e.code = code ∧ e.inst = inst then f e else e } }

/-- A fault-out cause of Table 16.5. -/
def foCause (s : State) (r : Raise) : Bool :=
  match r.code with
  | 0x1106 | 0x1105 | 0x0A06 | 0x0006 => true
  | 0x0907 => match s.fwHolder r.inst with
    | some n => decide (n ≤ 20)
    | none => false
  | _ => false

/-- Step 2 of a handler: the active list. -/
def enterActive (r : Raise) (notHandled : Bool) (s : State) : State :=
  if r.sev < 2 then s else
    match s.activeOf r.code r.inst with
    | some _ => s.updActive r.code r.inst (fun e => { e with
        count := sat16 (e.count + 1), gone := false, acked := false, notHandled := notHandled })
    | none =>
      if s.fm.active.length < 128 then
        let e : Active := { code := r.code, inst := r.inst, sev := r.sev, gone := false, acked := false
                            foCause := foCause s r, notHandled := notHandled, count := r.count, first := r.at_ }
        { s with fm := { s.fm with active := s.fm.active ++ [e] } }
      else
        State.raise { s with fm := { s.fm with refusals := sat32 (s.fm.refusals + 1) } } 0x0008 noInst

/-! ### Handlers (R444 to R446) -/

/-- Step 3: capture (R380). -/
def faultCapture (r : Raise) (s : State) : State :=
  if s.cfgU 0x2300 0x05 ≤ r.sev then capTrigger r.code s else s

/-- Step 4: FAULT_OUT (R453). -/
def faultFo (r : Raise) (s : State) : State := if foCause s r then s.assertFaultOut r.code else s

/-- The handler of 0005h writes the record of the fault discarded and its list entry (R449). -/
def handleDiscarded (d : Option Raise) (s : State) : State :=
  match d with
  | some x => enterActive x true (recordAlways x 1 s)
  | none => s

/-- A handler starts: it runs steps 1 to 4, which nothing splits; its step 5 lasts until HANDLER_END. -/
def startHandler (r : Raise) (d : Option Raise) (s : State) : State :=
  let s := { s with fm := { s.fm with
    running := some r, ranFrom := s.now, discarded := if r.code = 0x0005 then d else s.fm.discarded } }
  let s := faultFo r (faultCapture r (enterActive r false (recordRun r 0 s)))
  if r.code = 0x0005 then handleDiscarded d s else s

/-- A raise pre-empts the running handler, or the manager is idle (R445). -/
def State.canRun (s : State) (r : Raise) : Bool :=
  match s.fm.running with
  | none => true
  | some h => decide (h.sev < r.sev)

/-- Processing of the running handler, ns, its suspensions not counted (R451). -/
def State.handled (s : State) (h : Raise) : Nat := h.used + (s.now - s.fm.ranFrom)

/-- Run a raise at once; a running handler goes onto the stack. -/
def runNow (r : Raise) (d : Option Raise) (s : State) : State :=
  match s.fm.running with
  | none => startHandler r d s
  | some h => startHandler r d { s with fm := { s.fm with stack := { h with used := s.handled h } :: s.fm.stack } }

/-- Order of the queue: severity, highest first; equal severity in order of raise (R447). -/
def insertQueue (r : Raise) : List Raise → List Raise
  | [] => [r]
  | x :: rest => if x.sev < r.sev then r :: x :: rest else x :: insertQueue r rest

/-- 0005h is held in its slot, or its handler runs or is suspended (R449). -/
def State.has0005 (s : State) : Bool :=
  s.fm.reserved.isSome || (s.fm.running.toList ++ s.fm.stack).any fun r => r.code == 0x0005

/-- Count a raise (R462). -/
def countRaise (r : Raise) (s : State) : State :=
  { s with fm := { s.fm with raised := s.fm.raised + 1, bySev := upd s.fm.bySev r.sev (fun n => sat32 (n + 1)) } }

/-- A fault of severity 4 or higher abandons a drill that waits (Table 17.10). -/
def abandonDrill (r : Raise) (s : State) : State :=
  if 4 ≤ r.sev then { s with pair := { s.pair with drill := none } } else s

/-- An entry is discarded (R449); a fault-out cause stands all the same (R453). -/
def discardRaise (x : Raise) (s : State) : State :=
  let s := faultFo x { s with fm := { s.fm with discards := sat32 (s.fm.discards + 1) } }
  if s.has0005 then s.setUnrecorded x.code x.inst (s.unrecorded x.code x.inst + 1) else
    let r : Raise := { code := 0x0005, inst := noInst, ctx := s.context, at_ := s.now, data := le 8 s.now, count := 1 }
    let s := abandonDrill r (countRaise r s)
    if s.canRun r then runNow r (some x) s else { s with fm := { s.fm with reserved := some (r, x) } }

/-- A raise that cannot run joins the queue; the 17th entry's lowest is discarded. -/
def enqueueRaise (r : Raise) (s : State) : State :=
  let q := insertQueue r s.fm.queue
  let s := { s with fm := { s.fm with queue := q.take 16 } }
  match q.drop 16 with
  | x :: _ => discardRaise x s
  | [] => s

/-- A raise of a code and instance that is queued, suspended or running (R448). -/
def coalesce (r : Raise) (s : State) : State :=
  let f := fun (x : Raise) => if x.same r then x.again else x
  let s := { s with fm := { s.fm with
    queue := s.fm.queue.map f, stack := s.fm.stack.map f, running := s.fm.running.map f
    reserved := s.fm.reserved.map fun (x : Raise × Raise) => (f x.1, x.2)
    coalesced := sat32 (s.fm.coalesced + 1) } }
  s.updActive r.code r.inst (fun e => { e with count := sat16 (e.count + 1) })

/-- The same code and instance waits or runs. -/
def State.holdsSame (s : State) (r : Raise) : Bool :=
  (s.fm.queue ++ s.fm.stack ++ s.fm.running.toList ++ (s.fm.reserved.map (·.1)).toList).any fun x => x.same r

/-- A raise reaches the fault manager. -/
def deliverRaise (r : Raise) (s : State) : State :=
  let s := abandonDrill r (countRaise r s)
  if s.holdsSame r then coalesce r s
  else if s.canRun r then runNow r none s
  else enqueueRaise r s

/-- The record data of a raise that its owner sends now: the time; of the codes with contents of their own in Table 18.2
the rest is a free value (log entry 19). -/
def raiseData (code : Nat) (s : State) : Bytes × State :=
  let own := fun (n : Nat) => (le 8 s.now ++ le n (Config.freeNat s.freeCount), { s with freeCount := s.freeCount + 1 })
  match code with
  | 0x0503 => own 8
  | 0x0006 => own 1
  | 0x0C01 => (le 22 (Config.freeNat s.freeCount), { s with freeCount := s.freeCount + 1 })
  | _ => (le 8 s.now, s)

/-- The first raise of a code and instance on its way; without one, its owner's raise now (log entry 19). -/
def State.takeRaise (s : State) (code inst : Nat) : Raise × State :=
  match s.fm.inFlight.findIdx? fun r => r.code == code && r.inst == inst with
  | some i =>
    (s.fm.inFlight.getD i ⟨code, inst, 0, 0, [], 1, 0, false⟩, { s with fm := { s.fm with inFlight := s.fm.inFlight.eraseIdx i } })
  | none =>
    let d := raiseData code s
    (⟨code, inst, s.context, s.now, d.1, 1, 0, false⟩, d.2)

/-- FAULT_RAISE (R444 to R450). A code outside every fault table is no fault. -/
def faultRaiseEff (code inst : Nat) (s : State) : State :=
  if sevTable.any fun e => e.1 == code then
    let r := s.takeRaise code inst
    deliverRaise r.1 r.2
  else s

/-- The highest severity that waits: of the queue's head and of 0005h in its slot (R446, R449). -/
def State.waitingSev (s : State) : Option Nat :=
  ((s.fm.queue.head?.toList ++ (s.fm.reserved.map (·.1)).toList).map Raise.sev).max?

/-- The suspended handler on the stack's top resumes. -/
def resumeTop (s : State) : State :=
  match s.fm.stack with
  | t :: rest => { s with fm := { s.fm with running := some t, ranFrom := s.now, stack := rest } }
  | [] => s

/-- The next handler (R446): a suspended one resumes, or a waiting one starts, 0005h before every queued entry. -/
def nextHandler (s : State) : State :=
  let head : Option (Raise × Option Raise) := match s.fm.reserved with
    | some x => some (x.1, some x.2)
    | none => s.fm.queue.head?.map fun r => (r, none)
  match s.fm.stack.head?, s.waitingSev, head with
  | some t, some v, some h => if v ≤ t.sev then resumeTop s else startNext h s
  | none, _, some h => startNext h s
  | some _, _, _ => resumeTop s
  | none, _, none => s
where
  /-- Start the reserved 0005h or the queue's head. -/
  startNext (h : Raise × Option Raise) (s : State) : State :=
    let s := match h.2 with
      | some _ => { s with fm := { s.fm with reserved := none } }
      | none => { s with fm := { s.fm with queue := s.fm.queue.drop 1 } }
    startHandler h.1 h.2 s

/-- HANDLER_END (R446). Recovery from 0A06h ends with its handler: the drain runs again (R403). -/
def handlerEndEff (s : State) : State :=
  match s.fm.running with
  | none => s
  | some r =>
    let s := { s with fm := { s.fm with
      running := none, discarded := if r.code = 0x0005 then none else s.fm.discarded } }
    let s := if r.code = 0x0A06 then { s with port := { s.port with drainHeld := false } } else s
    nextHandler s

/-- HANDLER_OVERRUN (R451): once a handler, beyond 200 µs of its processing. -/
def overrunEff (s : State) : State :=
  match s.fm.running with
  | some h =>
    if h.overran ∨ s.handled h ≤ 200000 then s else
      State.raise { s with fm := { s.fm with
        running := some { h with overran := true }, overruns := sat32 (s.fm.overruns + 1) } } 0x0007 noInst
  | none => s

/-! ### The list's other changes (R456, R457) -/

/-- An entry leaves the list: a warning whose condition is gone, a fault that is also acknowledged. -/
def Active.leaves (e : Active) : Bool := e.gone && (e.sev == 2 || e.acked)

/-- Drop what leaves. -/
def sweepActive (s : State) : State := { s with fm := { s.fm with active := s.fm.active.filter fun e => !e.leaves } }

/-- The temperatures still hold the condition of 0009h or 000Ah (R551). -/
def State.conditionHolds (s : State) (code : Nat) : Bool :=
  (code == 0x0009 && (s.hw.warnJ || s.hw.warnI)) || (code == 0x000A && s.hw.over110.isSome)

/-- FAULT_CONDITION_GONE. -/
def conditionGoneEff (code inst : Nat) (s : State) : State :=
  if s.conditionHolds code then s else sweepActive (s.updActive code inst (fun e => { e with gone := true }))

/-- FAULT_ACKNOWLEDGE (R457). -/
def acknowledgeEff (ses v : Nat) (s : State) : State :=
  if v = 0xFFFFFFFF then
    sweepActive { s with fm := { s.fm with active := s.fm.active.map fun e => { e with acked := true } } }
  else match s.activeOf (v % 65536) (v / 65536) with
    | some _ => sweepActive (s.updActive (v % 65536) (v / 65536) (fun e => { e with acked := true }))
    | none => s.violate ses 0x7000 0x0F

/-- Command 1 of [7000.12]: the counters not kept since power-up. -/
def faultsClearEff (s : State) : State :=
  { s with fm := { s.fm with discards := 0, coalesced := 0, refusals := 0, overruns := 0, bySev := List.replicate 6 0 } }

/-- A fault of before the start completed: its record carries flag [2], its context is 0000h (R489). -/
def recordStart (r : Raise) (s : State) : State :=
  faultCapture r (enterActive r false (recordRun r 4 (countRaise r s)))

/-- A fault of the module before the start completed. -/
def recordAtStart (code : Nat) (data : Bytes) (s : State) : State :=
  recordStart { code := code, inst := noInst, ctx := 0, at_ := s.now, data := data, count := 1 } s

/-! ### Meanings -/

/-- FAULT_RAISE (R444). -/
def execFaultRaise (code inst : Nat) (s : State) : Host.Outcome State Fault Refusal :=
  run (decide (code < 65536) && decide (inst < 65536)) s (faultRaiseEff code inst)

/-- HANDLER_END (R446). -/
def execHandlerEnd (s : State) : Host.Outcome State Fault Refusal := run true s handlerEndEff

/-- HANDLER_OVERRUN (R451). -/
def execHandlerOverrun (s : State) : Host.Outcome State Fault Refusal := run true s overrunEff

/-- FAULT_CONDITION_GONE (R456). -/
def execFaultConditionGone (code inst : Nat) (s : State) : Host.Outcome State Fault Refusal :=
  run (decide (code < 65536) && decide (inst < 65536)) s (conditionGoneEff code inst)

/-- FAULT_ACKNOWLEDGE (R457). -/
def execFaultAcknowledge (ses v : Nat) (s : State) : Host.Outcome State Fault Refusal :=
  run (decide (ses < Config.sessions)) s (acknowledgeEff ses v)

/-- FAULTS_CLEAR_COUNTERS (R462). -/
def execFaultsClearCounters (ses : Nat) (s : State) : Host.Outcome State Fault Refusal :=
  run (decide (ses < Config.sessions)) s faultsClearEff

end Sys2Proof.Machine
end

