-- ==== Sys2Proof/Machine/PairOps.lean ====
section
/-! DEFINITION. Frames of the pair link (R469, Tables 17.3 and 17.4). -/

namespace Sys2Proof.Machine

/-- A pair-link frame. -/
def pairFrame (typ flags seq time : Nat) (payload : Bytes) : Bytes :=
  let h := le 1 typ ++ le 1 flags ++ le 2 (payload.length / 8) ++ le 4 seq ++ le 8 time ++ payload
  h ++ le 4 (crc32c h) ++ le 4 0

/-- Code of a role (Table 17.2). -/
def Role.code : Role → Nat
  | .deciding => 0
  | .active => 1
  | .standby => 2
  | .taking => 3
  | .unsynced => 4
  | .failed => 5

/-- A payload of whole words (R469). -/
def wholeWords (b : Bytes) : Bytes := b ++ List.replicate ((8 - b.length % 8) % 8) 0

/-- Send on the pair link while it is up. Flag [0] is PAIR_ROLE_OUT: high in ACTIVE and TAKING (R466, log entry 47). -/
def State.sendPair (s : State) (typ : Nat) (handover : Bool) (data : Bytes) : State :=
  if s.pair.link < 2 then s else
    let payload := wholeWords data
    let flags := b2n s.drives + 2 * b2n s.fm.faultOut + 4 * b2n handover
    ({ s with pair := { s.pair with txSeq := (s.pair.txSeq + 1) % 4294967296 } }).send
      (.pair (pairFrame typ flags s.pair.txSeq s.now payload))

/-- The device id: SHA-256 of the identity key (R522). -/
def State.deviceId (s : State) : Bytes := sha256 s.sec.idKey

/-- Send HELLO (Table 17.4). -/
def sendHello (s : State) : State :=
  s.sendPair 1 false (le 1 s.pair.position ++ le 1 s.pair.role.code ++ le 2 0 ++ le 4 s.sec.image.version ++
    le 4 s.sec.image.layout ++ le 4 0 ++ s.deviceId)

/-- A pair-link frame received. -/
structure PairMsg where
  typ : Nat
  flags : Nat
  seq : Nat
  time : Nat
  payload : Bytes
deriving DecidableEq, Repr

/-- A frame of its own length whose CRC holds. -/
def parsePair (f : Bytes) : Option PairMsg :=
  let n := 8 * u16At f 2
  if f.length = n + 24 ∧ u32At f (16 + n) = crc32c (f.take (16 + n)) then
    some { typ := u8At f 0, flags := u8At f 1, seq := u32At f 4, time := u64At f 8, payload := slice f 16 n }
  else none

/-- A frame of a type arrives while the link is up: PAIR_ROLE_IN follows the sender's flag (log entry 47); a bad CRC is
counted (R469). -/
def recvPair (typ : Nat) (frame : Bytes) (f : PairMsg → State → State) (s : State) : State :=
  if s.pair.link < 2 then s else
    match parsePair frame with
    | none => { s with pair := { s.pair with missed := sat32 (s.pair.missed + 1) } }
    | some m =>
      if m.typ = typ then f m { s with pair := { s.pair with roleIn := bit m.flags 0, faultIn := bit m.flags 1 } } else s

end Sys2Proof.Machine
end

