-- ==== Sys2Proof/Machine/StepTimes.lean ====
section
/-! DEFINITION. A step of shelf time (R369) relabels instants and lengthens no duration (log entry 73): what the module
keeps as the beginning or the end of a duration still running moves with the count. Stamps that a reader sees stay. -/

namespace Sys2Proof.Machine

/-- An instant after a step by d. -/
def moved (d : Int) (a : Nat) : Nat := ((a : Int) + d).toNat

/-- An instant that may be absent. -/
def movedO (d : Int) (a : Option Nat) : Option Nat := a.map (moved d)

/-- A list of instants. -/
def movedL (d : Int) (l : List Nat) : List Nat := l.map (moved d)

/-- Shelf time's own durations. -/
def Clk.move (d : Int) (x : Clk) : Clk :=
  { x with
    freeAt := moved d x.freeAt, lastMeas := moved d x.lastMeas, syncAt := movedO d x.syncAt
    announceAt := movedO d x.announceAt, delayAt := movedO d x.delayAt
    foreign := x.foreign.map fun f => { f with at_ := moved d f.at_ } }

/-- Paddle links. -/
def Link.move (d : Int) (x : Link) : Link :=
  { x with
    lostAt := movedO d x.lostAt, fallAt := movedO d x.fallAt, errTimes := movedL d x.errTimes
    statusAt := moved d x.statusAt, sampleAt := moved d x.sampleAt, calSince := movedO d x.calSince
    samples := x.samples.map fun y => { y with at_ := moved d y.at_ } }

/-- The edge engine. -/
def Edge.move (d : Int) (x : Edge) : Edge :=
  { x with lateTimes := movedL d x.lateTimes, lockUntil := moved d x.lockUntil }

/-- A phase. -/
def Phase.move (d : Int) (x : Phase) : Phase :=
  { x with trimSince := movedO d x.trimSince, calSince := movedO d x.calSince }

/-- A tray's phase manager. -/
def TrayPh.move (d : Int) (x : TrayPh) : TrayPh :=
  { x with
    shedSince := movedO d x.shedSince, lastShed := moved d x.lastShed, ocs := x.ocs.map fun e => (e.1, moved d e.2)
    check := x.check.map fun c => { c with
      due := moved d c.due, tb := movedO d c.tb, ta := moved (64 * d) c.ta } }

/-- A tray. The end of its last slack water, [3000+t.1E], moves (log entry 73). -/
def Tray.move (d : Int) (x : Tray) : Tray :=
  { x with
    since := moved d x.since, pinSince := moved d x.pinSince, rampFrom := movedO d x.rampFrom
    driveAt := moved d x.driveAt, clockAt := movedO d x.clockAt, critSince := movedO d x.critSince
    closeAt := moved d x.closeAt, testAt := moved d x.testAt, leftAt := movedO d x.leftAt
    openSince := movedO d x.openSince, seatLostAt := movedO d x.seatLostAt
    slackEnd := if x.slackEnd = 0 then 0 else moved d x.slackEnd
    slack := match x.slack with
      | .resting a => .resting (moved d a)
      | y => y }

/-- Allocation. -/
def Alloc.move (d : Int) (x : Alloc) : Alloc :=
  { x with
    slackEnd := movedO d x.slackEnd, startAt := moved d x.startAt, urgentSince := movedO d x.urgentSince }

/-- A towpath. -/
def Tow.move (d : Int) (x : Tow) : Tow :=
  { x with
    cycleAt := moved d x.cycleAt, sampleN := moved d x.sampleN, sampleS := moved d x.sampleS
    weirSince := moved d x.weirSince, weirFaultEnd := movedO d x.weirFaultEnd, balAt := movedL d x.balAt
    weirRun := x.weirRun.map fun r => { r with live := r.live.map fun l =>
      { l with from_ := moved d l.from_, until_ := moved d l.until_ } } }

/-- A tray's estimator. The last rest point, [3200+t.0C], moves although a reader sees it (R171): it begins the 6 hours of
R176 that a start takes from a save (log entry 73). -/
def Est.move (d : Int) (x : Est) : Est :=
  { x with
    padAt := movedO d x.padAt, chargeAt := movedO d x.chargeAt, below := movedO d x.below, lastAt := movedO d x.lastAt
    bleedFrom := moved d x.bleedFrom, lastRest := movedO d x.lastRest, restFrom := moved d x.restFrom
    imp := x.imp.map fun e => (e.1, { e.2 with at_ := e.2.at_.map (· + d) })
    hist := x.hist.map fun e => (moved d e.1, e.2)
    sweeps := x.sweeps.map fun y => { y with atN := moved d y.atN, atS := moved d y.atS }
    step := x.step.map fun y => { y with ta := moved d y.ta, tb := moved d y.tb } }

/-- The feed interface. The time of a rectifier's last STATUS, [3500+r.07], moves, since its 12 ms of silence run from it
(log entry 73). -/
def Feed.move (d : Int) (x : Feed) : Feed :=
  { x with
    groups := x.groups.map fun g => { g with since := moved d g.since, back := movedO d g.back }
    rects := x.rects.map fun r => { r with
      baseAt := moved d r.baseAt, until_ := moved d r.until_, statusAt := if r.seen then moved d r.statusAt else r.statusAt }
    refreshAt := movedO d x.refreshAt, load := x.load.map fun e => (moved d e.1, e.2) }

/-- The governor; its epochs go on from the next cut (R369). -/
def Gov.move (d : Int) (x : Gov) : Gov :=
  let flight := fun (f : Flight) =>
    { f with arrivals := f.arrivals.map fun a => (a.1, moved d a.2), openAt := movedO d f.openAt }
  { x with
    cutAt := none
    chips := x.chips.map fun c => (c.1, { c.2 with lastAt := moved d c.2.lastAt, repAt := movedO d c.2.repAt })
    parts := x.parts.map fun p => { p with
      gates := p.gates.map flight, history := p.history.map fun h => (moved d h.1, h.2) } }

/-- The forecaster's past; schedule entries lie on the new count already (R208, R370). -/
def Tide.move (d : Int) (x : Tide) : Tide :=
  { x with
    il := x.il.map fun e => (moved d e.1, e.2), il1 := x.il1.map fun e => (moved d e.1, e.2)
    errs := x.errs.map fun e => { e with at_ := moved d e.at_ }
    preds := x.preds.map fun e => (moved d e.1, e.2)
    evalT := movedL d x.evalT, carriedT := movedL d x.carriedT, satT := movedL d x.satT
    switchAt := movedO d x.switchAt, suspended := x.suspended.map (movedO d) }

/-- The port and its basin. -/
def Port.move (d : Int) (x : Port) : Port :=
  { x with
    crcTimes := movedL d x.crcTimes, dropTimes := movedL d x.dropTimes, reportDropAt := movedO d x.reportDropAt
    reports := x.reports.map fun e => (moved d e.1, e.2), keeper := x.keeper.map fun e => (moved d e.1, e.2)
    pauseSince := movedO d x.pauseSince, pauseAt := moved d x.pauseAt, countFrom := moved d x.countFrom
    pauseUntil := movedL d x.pauseUntil, pauseFrom := x.pauseFrom.map (movedO d) }

/-- A session. -/
def Session.move (d : Int) (x : Session) : Session :=
  { x with transfer := x.transfer.map fun y => { y with since := moved d y.since } }

/-- The pair. -/
def Pair.move (d : Int) (x : Pair) : Pair :=
  { x with
    since := moved d x.since, faultInAt := moved d x.faultInAt, lastAt := moved d x.lastAt
    missAt := movedO d x.missAt, selfTestAt := moved d x.selfTestAt, drill := movedO d x.drill
    handover := movedO d x.handover }

/-- Grid, gates and events. -/
def Grid.move (d : Int) (x : Grid) : Grid :=
  { x with
    unacked := x.unacked.map fun u => { u with at_ := moved d u.at_ }
    tickAt := none, retryTimes := movedL d x.retryTimes, corrTimes := x.corrTimes.map fun e => (moved d e.1, e.2) }

/-- The board. -/
def Hw.move (d : Int) (x : Hw) : Hw :=
  { x with
    powerFail := movedO d x.powerFail, feedGood := x.feedGood.map (movedO d), coolSince := movedO d x.coolSince }

/-- The durations that run when shelf time is stepped by d. -/
def State.moveTimes (d : Int) (s : State) : State :=
  { s with
    clk := s.clk.move d, links := s.links.map (Link.move d), edge := s.edge.move d
    phases := s.phases.map fun l => l.map (Phase.move d), tph := s.tph.map (TrayPh.move d)
    trays := s.trays.map (Tray.move d), alloc := s.alloc.move d, tows := s.tows.map (Tow.move d)
    est := s.est.map (Est.move d), feed := s.feed.move d, gov := s.gov.move d, tide := s.tide.move d
    port := s.port.move d, sess := s.sess.map (Session.move d), pair := s.pair.move d, grid := s.grid.move d
    gates := { s.gates with refTimes := movedL d s.gates.refTimes }
    ev := { s.ev with
      refTimes := movedL d s.ev.refTimes, masks := s.ev.masks.map fun m => (m.1, moved d m.2) }
    sec := { s.sec with quotes := s.sec.quotes.map fun q => (q.1, q.2.1, q.2.2.1, moved d q.2.2.2) }
    cal := { s.cal with
      eqSince := movedO d s.cal.eqSince, storeFrom := moved d s.cal.storeFrom
      entries := s.cal.entries.map fun e => (e.1, { e.2 with at_ := moved d e.2.at_ }) }
    fm := { s.fm with watchdog := movedL d s.fm.watchdog, ranFrom := moved d s.fm.ranFrom }
    od := { s.od with storeFailed := s.od.storeFailed.map fun e => (e.1, moved d e.2) }
    rcd := { s.rcd with
      failedAt := movedO d s.rcd.failedAt
      windows := s.rcd.windows.map fun w => { w with opened := moved d w.opened } }
    cap := { s.cap with
      postUntil := moved d s.cap.postUntil, dropTimes := movedL d s.cap.dropTimes
      tally := s.cap.tally.map fun e => (moved d e.1, e.2) }
    hw := s.hw.move d }

end Sys2Proof.Machine
end

