-- ==== Sys2Proof/Machine/Clock.lean ====
section
/-! DEFINITION. Shelf time, PTP and the crystals (chapters 13 and 14). -/

namespace Sys2Proof.Machine

/-! ### The servo (R366 to R371) -/

/-- The port is a PTP slave: portState SLAVE. -/
def State.ptpSlave (s : State) : Bool := s.clk.slaveState == 9 && s.cfgU 0x1200 0x01 != 3

/-- The bound at entry, with 2 ppm of the time since (R371). -/
def State.driftBound (s : State) : Option Nat := s.clk.bound.map fun b => b + (s.now - s.clk.freeAt) * 2 / 1000000

/-- Error bound of a module that follows: the partner's, plus 2 ns (Table 13.7). -/
def State.partnerBound (s : State) : Option Nat :=
  let b := u64At s.pair.manifest 144
  if s.pair.manifest = [] ∨ b = 0xFFFFFFFFFFFFFFFF then none else some (b + 2)

/-- The error bound [0010.07] (R371, R376); of the disciplined states, a bound taken over until an offset of the own
port is accepted, then |θ| (log entry 69). -/
def State.errBound (s : State) : Option Nat :=
  let x := s.clk
  if x.crystalBad then none else
    match x.st with
    | .holdover => s.driftBound
    | .local_ => if x.ever then s.driftBound else none
    | .following => s.partnerBound
    | _ => match x.bound with
      | some b => some b
      | none => if x.ever then some x.theta.natAbs else none

/-- The frequency correction: the servo's law is not stated, its limit is (R367). -/
def servo (s : State) : State :=
  let lim := s.cfgF 0x0010 0x08
  let d := s.draw
  { d.2 with clk := { d.2.clk with freq := clampQ (-lim) lim d.1 } }

/-- An offset above the step threshold (R368). -/
def largeOffset (theta : Int) (s : State) : State :=
  if s.stepAllowed then { s with clk := { s.clk with pendingStep := some (-theta) } } else s.offsetIntoO theta

/-- Into ACQUIRING with the first of its offsets. -/
def toAcquiring (within : Bool) (s : State) : State :=
  { s with clk := { s.clk with st := .acquiring, good := b2n within, bad := 0 } }

/-- The state after an accepted offset (Table 13.2). -/
def clockAfter (theta : Int) (s : State) : State :=
  let x := s.clk
  let within := decide (theta.natAbs ≤ s.cfgU 0x0010 0x09)
  match x.st with
  | .local_ | .holdover => toAcquiring within s
  | .acquiring =>
    let good := if within then x.good + 1 else 0
    if 16 ≤ good then
      let s := { s with clk := { x with st := .locked, good := 0, bad := 0, ever := true, crystalBad := false } }
      (forTrays estLocked s).hintsResume.raise 0x1101 noInst
    else { s with clk := { x with good := good } }
  | .locked =>
    let bad := if 1000 < theta.natAbs then x.bad + 1 else 0
    if 4 ≤ bad then toAcquiring within s else { s with clk := { x with bad := bad } }
  | .following => s

/-- A measurement whose Sync and Delay_Resp carry hardware timestamps, of the domain in use (R390). -/
def State.measured (s : State) (x : PtpExchange) : Bool := x.stamped && x.domain == s.cfgU 0x1200 0x02

/-- PTP_OFFSET_ACCEPTED: an offset that meets R390, in a state the port disciplines. -/
def offsetEff (theta : Int) (x : PtpExchange) (s : State) : State :=
  if s.ptpSlave = false ∨ s.clk.st = .following ∨ s.measured x = false ∨ s.cfgU 0x1200 0x0C < x.pathDelay then s else
    let s := { s with clk := { s.clk with
      theta := theta, bound := none, lastMeas := s.now, pathDelay := x.pathDelay, discards := 0, up1107 := false } }
    let s := if s.cfgU 0x0010 0x0B * 1000 < theta.natAbs then largeOffset theta s else s
    servo (clockAfter theta s)

/-- PTP_MEASUREMENT_DISCARD (R390): discarded for its path delay alone it counts towards 1107h (log entry 74). -/
def discardEff (x : PtpExchange) (s : State) : State :=
  if s.ptpSlave = false ∨ s.measured x = false ∨ x.pathDelay ≤ s.cfgU 0x1200 0x0C then s else
    let n := s.clk.discards + 1
    let up := s.clk.up1107
    let s := { s with clk := { s.clk with discards := n, up1107 := up || decide (8 ≤ n) } }
    when_ (decide (8 ≤ n) && !up) (fun s => s.raise 0x1107 noInst) s

/-- HOLDOVER_ENTRY (Table 13.2); with a port that is no slave any more HOLDOVER is left for LOCAL at once (log entry 69). -/
def holdoverEff (s : State) : State :=
  let x := s.clk
  if (x.st = .locked ∨ x.st = .acquiring) ∧ x.lastMeas + s.cfgU 0x0010 0x0A * ms ≤ s.now then
    let st := if s.ptpSlave then ClkSt.holdover else .local_
    State.raise { s with clk := { x with st := st, freeAt := s.now, bound := some (x.bound.getD x.theta.natAbs), bad := 0, good := 0 } }
      0x1102 noInst
  else s

/-- Interval of a log setting, ns (Table 14.2). -/
def logInterval (k : Int) : Nat := if 0 ≤ k then sec * 2 ^ k.toNat else sec / 2 ^ (-k).toNat

/-- The best of the masters heard within three Announce intervals: IEEE 1588-2019's timeout and the order of its data set
comparison (log entry 74). -/
def State.bestMaster (s : State) : Option Foreign :=
  let live := s.clk.foreign.filter fun f => decide (s.now ≤ f.at_ + 3 * logInterval (s.cfgI 0x1200 0x06))
  live.foldl (fun best f => match best with
    | some b => if b.rank ≤ f.rank then some b else some f
    | none => some f) none

/-- A slave port follows the grandmaster that the best master announces; where none has been heard, its identity and class
are free values. -/
def newMaster (s : State) : State :=
  match s.bestMaster with
  | some f => { s with clk := { s.clk with
      gmIdentity := f.rank % 18446744073709551616, gmClass := f.rank / 2 ^ 96 % 256 } }
  | none => { s with
      freeCount := s.freeCount + 2
      clk := { s.clk with
        gmIdentity := Config.freeNat s.freeCount % 18446744073709551616
        gmClass := Config.freeNat (s.freeCount + 1) % 256 } }

/-- clockClass served. -/
def State.clockClass (s : State) : Nat :=
  match s.clk.st with
  | .locked => if s.clk.gmClass = 6 then 6 else 248
  | .holdover => 7
  | _ => 248

/-- Priority1 and clockClass of the data set that an Announce carries. -/
def Foreign.key (f : Foreign) : Nat := f.rank / 2 ^ 104 * 256 + f.rank / 2 ^ 96 % 256

/-- The port states that the best master decision allows (Table 14.2, log entry 74): a port is UNCALIBRATED (8) or SLAVE
(9) only where a master is heard; in role 1, with one port, only where that master is not worse than the clock itself, and
it is MASTER (6) only where it is not better. In role 0 there is no master port, and in role 3 both are DISABLED. -/
def State.decides (s : State) (slave master : Nat) : Bool :=
  let follows := slave == 8 || slave == 9
  match s.cfgU 0x1200 0x01, s.bestMaster with
  | 3, _ => slave == 3 && master == 3
  | 0, m => (!follows || m.isSome) && master != 6
  | 1, none => !follows
  | 1, some f =>
    let own := s.cfgU 0x1200 0x08 * 256 + s.clockClass
    (!follows || (decide (f.key ≤ own) && master != 6)) && (master != 6 || decide (own ≤ f.key))
  | _, m => !follows || m.isSome

/-- PTP_PORT_STATE_CHANGE (Table 14.10, Table 13.2): to states that the best master decision allows. -/
def portStateEff (slave master : Nat) (s : State) : State :=
  if s.decides slave master = false then s else
  let s := if slave = 9 ∧ s.clk.slaveState ≠ 9 then newMaster s else s
  let s := { s with clk := { s.clk with slaveState := slave, masterState := master } }
  if s.clk.st = .holdover ∧ slave ≠ 9 then
    { s with clk := { s.clk with st := .local_, bound := s.driftBound, freeAt := s.now } }
  else s

/-! ### Steps (R369) -/

/-- The step that is due: the pending one, or one that clears O. -/
def State.stepDue (s : State) : Option (Int × Int) :=
  match s.clk.pendingStep with
  | some d => some (d, s.clk.off)
  | none => if s.clk.off ≠ 0 ∧ bit (s.cfgU 0x0010 0x0E) 0 = true then some (s.clk.off, 0) else none

/-- Apply a step: ticks withheld, slots restart, a marker (R369); durations go on (log entry 73). -/
def applyStep (d off : Int) (s : State) : State :=
  let t := moved d s.now
  let s := s.moveTimes ((t : Int) - s.now)
  let s := { s with
    now := t
    clk := { s.clk with off := off, pendingStep := none, steps := sat32 (s.clk.steps + 1), stepAt := some t } }
  let s := (List.range 22).foldl (fun s n => beginRestart n s) s
  let s := { s with grid := { s.grid with quiet := List.range 22 } }
  let s := ((List.range 40).map (24 + ·)).foldl (fun s n =>
    if (s.slot n).st = .bound then restartSlot n s else s) s
  capMarker 1 s

/-- SHELF_TIME_STEP: at a whole millisecond; not permitted any longer, a pending step goes into O (Table 13.7). -/
def stepEff (s : State) : State :=
  if s.now % ms ≠ 0 ∨ s.clk.st = .following then s
  else if s.stepAllowed = false then s.dropStep
  else match s.stepDue with
    | some (d, off) => applyStep d off s
    | none => s

/-! ### Following the active module (R372) -/

/-- PAIR_TIME_FRAME: the standby's shelf time comes within 2 ns of the active's (a free value) and the frame is
echoed; the active takes the echo. A frame may set the count far on: durations go on (log entry 73). -/
def timeFrameEff (frame : Bytes) (s : State) : State :=
  recvPair 2 frame (fun m s =>
    if s.pair.role = .standby ∨ s.pair.role = .unsynced then
      let d : Int := Config.freeNat s.freeCount % 5
      let turn := Config.freeNat (s.freeCount + 1) % 4294967296
      let t := moved (d - 2) m.time
      let jump : Int := (t : Int) - s.now
      let s := if jump.natAbs ≤ 1000000 then s else s.moveTimes jump
      let s := { s with freeCount := s.freeCount + 2, now := t, clk := { s.clk with st := .following } }
      s.hintsResume.sendPair 2 false (le 4 turn ++ le 4 m.seq)
    else s) s

/-! ### PTP messages (Table 14.2) -/

/-- The port is a PTP master: portState MASTER, in a role that has one (Table 14.10). -/
def State.ptpMaster (s : State) : Bool :=
  s.clk.masterState == 6 && (s.cfgU 0x1200 0x01 == 1 || s.cfgU 0x1200 0x01 == 2)

/-- The VLAN of the slave port, and of the master port: apart in role 2 alone (Table 14.2). -/
def State.ptpVlan (s : State) (master : Bool) : Nat :=
  if master && s.cfgU 0x1200 0x01 == 2 then s.cfgU 0x1200 0x0B else s.cfgU 0x1200 0x0A

/-- The time served: T_shelf + O (R370). -/
def State.served (s : State) : Int := (s.now : Int) + s.clk.off

/-- A PTP message with the port's settings. -/
def State.ptpTx (s : State) (kind : PtpKind) (master : Bool) (seq : Nat) (time : Int) (peer : Nat) : Tx :=
  .ptp {
    kind := kind, transport := s.cfgU 0x1200 0x03, vlan := s.ptpVlan master, domain := s.cfgU 0x1200 0x02, seq := seq
    twoStep := s.cfgU 0x1200 0x04 == 1, cls := s.clockClass, prio1 := s.cfgU 0x1200 0x08, prio2 := s.cfgU 0x1200 0x09
    time := time, peer := peer }

/-- The port has the role that sends a message: Sync and Announce from a master, Delay_Req from a slave. -/
def State.ptpRole (s : State) : PtpMessage → Bool
  | .sync | .announce => s.ptpMaster
  | .delayReq => s.ptpSlave

/-- A message of the port's own leaves J1; a two-step Sync is followed by its Follow_Up (Table 14.2). -/
def ptpEmit (kind : PtpMessage) (s : State) : State :=
  let c := s.clk
  if s.ptpRole kind = false then s else
    match kind with
    | .sync =>
      let s := { s with clk := { c with syncSeq := (c.syncSeq + 1) % 65536 } }
      let t := s.served
      let s := s.sendJ1 (s.ptpTx .sync true c.syncSeq t 0)
      if s.cfgU 0x1200 0x04 = 1 then s.sendJ1 (s.ptpTx .followUp true c.syncSeq t 0) else s
    | .announce =>
      let s := { s with clk := { c with announceSeq := (c.announceSeq + 1) % 65536 } }
      s.sendJ1 (s.ptpTx .announce true c.announceSeq s.served 0)
    | .delayReq =>
      let s := { s with clk := { c with delaySeq := (c.delaySeq + 1) % 65536 } }
      s.sendJ1 (s.ptpTx .delayReq false c.delaySeq s.served 0)

/-- When a message was last due. -/
def Clk.dueAt (c : Clk) : PtpMessage → Option Nat
  | .sync => c.syncAt
  | .announce => c.announceAt
  | .delayReq => c.delayAt

/-- A message is due at a time. -/
def Clk.setDue (c : Clk) (kind : PtpMessage) (t : Nat) : Clk :=
  match kind with
  | .sync => { c with syncAt := some t }
  | .announce => { c with announceAt := some t }
  | .delayReq => { c with delayAt := some t }

/-- Subindex of a message's log interval (Table 14.10). -/
def intervalSub : PtpMessage → Nat
  | .sync => 0x05
  | .announce => 0x06
  | .delayReq => 0x07

/-- The port's role sends the message, and its interval has passed since it was last due (Table 14.2). -/
def State.ptpDue (s : State) (kind : PtpMessage) : Bool :=
  s.ptpRole kind && match s.clk.dueAt kind with
    | some a => decide (a + logInterval (s.cfgI 0x1200 (intervalSub kind)) ≤ s.now)
    | none => true

/-- PTP_MESSAGE_SEND; a message due while priority 7 is paused leaves when the pause ends (R407). -/
def ptpSendEff (kind : PtpMessage) (s : State) : State :=
  if s.port.link ≠ 2 ∨ s.ptpDue kind = false then s else
    let s := { s with clk := s.clk.setDue kind s.now }
    if s.paused 7 then { s with port := { s.port with heldPtp := s.port.heldPtp ++ [.own kind] } } else ptpEmit kind s

/-- The answer to a Delay_Req, with the time of its arrival (Table 14.2). -/
def delayResp (seq : Nat) (time : Int) (peer : Nat) (s : State) : State :=
  if s.paused 7 then { s with port := { s.port with heldPtp := s.port.heldPtp ++ [.resp seq time peer] } }
  else s.sendJ1 (s.ptpTx .delayResp true seq time peer)

/-- PTP messages whose pause has ended leave in order. -/
def flushPtp (s : State) : State :=
  if s.paused 7 then s
  else s.port.heldPtp.foldl (fun s h => match h with
    | .own k => ptpEmit k s
    | .resp seq time peer => delayResp seq time peer s) { s with port := { s.port with heldPtp := [] } }

/-! ### PTP messages received (R389, R390) -/

/-- Fields of a PTP message: its type, source port identity, sequence, and the bytes after the header; none where it is not
of version 2 and of the domain in use. The layout is IEEE 1588-2019's (log entry 74). -/
def State.parsePtp (s : State) (p : Bytes) : Option (Nat × Nat × Nat × Bytes) :=
  if 34 ≤ p.length ∧ u8At p 1 % 16 = 2 ∧ u8At p 4 = s.cfgU 0x1200 0x02 then
    some (u8At p 0 % 16, ofBe (slice p 20 10), ofBe (slice p 30 2), p.drop 34)
  else none

/-- An Announce: the master it comes from, and at a slave port the grandmaster it follows. -/
def announceHeard (port : Nat) (body : Bytes) (s : State) : State :=
  let f : Foreign := { port := port, rank := ofBe (slice body 13 14), at_ := s.now }
  let s := { s with clk := { s.clk with foreign := f :: s.clk.foreign.filter fun g => g.port != port } }
  if s.ptpSlave then newMaster s else s

/-- A PTP message arrives, in the port's transport on a VLAN: an Announce is noted by the slave port, a Delay_Req answered by
the master port; what Sync, Follow_Up and Delay_Resp measure comes with PTP_OFFSET_ACCEPTED and PTP_MEASUREMENT_DISCARD
(log entry 74). -/
def ptpArrives (vlan : Nat) (p : Bytes) (s : State) : State :=
  match s.parsePtp p with
  | some (11, port, _, body) =>
    if vlan = s.ptpVlan false ∧ s.cfgU 0x1200 0x01 ≠ 3 ∧ 30 ≤ body.length then announceHeard port body s else s
  | some (1, port, seq, _) => if vlan = s.ptpVlan true ∧ s.ptpMaster = true then delayResp seq s.served port s else s
  | _ => s

/-! ### Crystals and PLLs (R376, R377) -/

/-- CRYSTAL_CHECK. -/
def crystalEff (dev : Rat) (s : State) : State :=
  let n := if 200 < absQ dev then s.clk.crystalRun + 1 else 0
  let s := { s with clk := { s.clk with crystalDev := dev, crystalRun := n } }
  if n = 3 then State.raise { s with clk := { s.clk with crystalBad := true } } 0x1104 noInst else s

/-- Place of an island in Table 13.1. -/
def islandNo : Island → Nat
  | .edge => 0
  | .grid => 1
  | .keeper => 2
  | .net => 3
  | .mem => 4
  | .tow => 5
  | .aon => 6

/-- PLL_UNLOCK: the clock trip takes the bus loop to TRIPPED (Table 2.2). AON runs from its crystals: R377 gives its
loss no fault. -/
def pllEff (i : Island) (s : State) : State :=
  let s := { s with clk := { s.clk with pllLock := setBit s.clk.pllLock (islandNo i) false } }
  match i with
  | .edge | .grid => tripLoop ((s.assertFaultOut 0x1106).raise 0x1106 noInst)
  | .aon => s
  | _ => s.raise 0x1105 noInst

/-! ### Capture (R380, R385) -/

/-- CAPTURE_POST_EXPIRY. -/
def postExpiryEff (s : State) : State :=
  if s.cap.st = .post ∧ s.cap.postUntil ≤ s.now then
    let s := capMarker 2 s
    State.raise { s with cap := { s.cap with st := .frozen } } 0x1001 noInst
  else s

/-- Command 1: from off. -/
def captureStartEff (ses : Nat) (s : State) : State :=
  if s.cap.st = .off then
    { s with cap := { s.cap with st := .capturing, frames := [], records := [], recPos := 0 } }
  else s.violate ses 0x2300 0x02

/-- Command 2. -/
def captureFreezeEff (ses : Nat) (s : State) : State :=
  if s.cap.st = .off then s.violate ses 0x2300 0x02 else capTrigger 0 s

/-- Command 3: from FROZEN. -/
def captureReleaseEff (ses : Nat) (s : State) : State :=
  if s.cap.st = .frozen then capMarker 3 { s with cap := { s.cap with st := .capturing } }
  else s.violate ses 0x2300 0x02

/-- Command 4. -/
def captureStopEff (ses : Nat) (s : State) : State :=
  if s.cap.st = .off then s.violate ses 0x2300 0x02 else { s with cap := { s.cap with st := .off } }

/-! ### Meanings -/

/-- PTP_OFFSET_ACCEPTED (R367). -/
def execPtpOffsetAccepted (theta : Int) (exchange : PtpExchange) (s : State) : Host.Outcome State Fault Refusal :=
  run true s (offsetEff theta exchange)

/-- PTP_MEASUREMENT_DISCARD (R390). -/
def execPtpMeasurementDiscard (exchange : PtpExchange) (s : State) : Host.Outcome State Fault Refusal :=
  run true s (discardEff exchange)

/-- HOLDOVER_ENTRY (R366). -/
def execHoldoverEntry (s : State) : Host.Outcome State Fault Refusal := run true s holdoverEff

/-- SHELF_TIME_STEP (R369). -/
def execShelfTimeStep (s : State) : Host.Outcome State Fault Refusal := run true s stepEff

/-- PAIR_TIME_FRAME (R372). -/
def execPairTimeFrame (frame : Bytes) (s : State) : Host.Outcome State Fault Refusal := run true s (timeFrameEff frame)

/-- CRYSTAL_CHECK (R376). -/
def execCrystalCheck (deviation : Rat) (s : State) : Host.Outcome State Fault Refusal := run true s (crystalEff deviation)

/-- PLL_UNLOCK (R377). -/
def execPllUnlock (island : Island) (s : State) : Host.Outcome State Fault Refusal := run true s (pllEff island)

/-- CAPTURE_POST_EXPIRY (R380). -/
def execCapturePostExpiry (s : State) : Host.Outcome State Fault Refusal := run true s postExpiryEff

/-- CAPTURE_START (R385). -/
def execCaptureStart (ses : Nat) (s : State) : Host.Outcome State Fault Refusal :=
  run (decide (ses < Config.sessions)) s (captureStartEff ses)

/-- CAPTURE_FREEZE (R380). -/
def execCaptureFreeze (ses : Nat) (s : State) : Host.Outcome State Fault Refusal :=
  run (decide (ses < Config.sessions)) s (captureFreezeEff ses)

/-- CAPTURE_RELEASE (R380). -/
def execCaptureRelease (ses : Nat) (s : State) : Host.Outcome State Fault Refusal :=
  run (decide (ses < Config.sessions)) s (captureReleaseEff ses)

/-- CAPTURE_STOP (R385). -/
def execCaptureStop (ses : Nat) (s : State) : Host.Outcome State Fault Refusal :=
  run (decide (ses < Config.sessions)) s (captureStopEff ses)

/-- PTP_PORT_STATE_CHANGE (R366). -/
def execPtpPortStateChange (slave master : Nat) (s : State) : Host.Outcome State Fault Refusal :=
  run true s (portStateEff slave master)

/-- PTP_MESSAGE_SEND (R389). -/
def execPtpMessageSend (kind : PtpMessage) (s : State) : Host.Outcome State Fault Refusal := run true s (ptpSendEff kind)

end Sys2Proof.Machine
end

