-- ==== Sys2Proof/Machine/Manifest.lean ====
section
/-! DEFINITION. The manifest of 32,768 bytes (R471 to R473): what it holds of each subsystem, and how it is read back.
Tables 17.5 and 17.6 give the regions; the places of the fields within a region are this model's (log entry 51). -/

namespace Sys2Proof.Machine

/-! ### Firmware part (Table 17.5) -/

/-- Bytes 0–63; the snapshot's layout version is [8100.01]. -/
def manHeader (s : State) : Bytes :=
  padTo 64 (le 4 s.pair.number ++ le 2 s.sec.image.layout ++ le 2 0 ++ le 8 s.now ++ le 4 s.sec.image.version ++
    le 4 (Config.layoutId s.pair.layout))

/-- Bytes 64–127. -/
def manLoop (s : State) : Bytes :=
  let l := s.loop
  padTo 64 (le 1 (codeIn loopStates l.st) ++ le 1 0 ++ le 2 (maskOf l.excluded) ++ f32b (vSet s) ++ f32b l.vRef ++
    f32b l.integ ++ f32b l.ff ++ f32b l.disLim ++ f32b l.chgLim)

/-- Bytes 128–191. -/
def manClock (s : State) : Bytes :=
  padTo 64 (f32b s.clk.freq ++ le 4 (codeIn clockStates s.clk.st) ++ i64b s.clk.off ++
    le 8 (s.errBound.getD 0xFFFFFFFFFFFFFFFF))

/-- 64 bytes of a tray. -/
def manTray (s : State) (t : Nat) : Bytes :=
  let x := s.tray t
  let drives := [x.kN, x.kPre, x.kP, x.trayEn, x.ramp.isSome, x.blackStart, x.openAtZero, x.leftAt.isSome]
  let ramp := x.ramp.getD (0, 0)
  let slack := match x.slack with
    | .none_ => (0, 0)
    | .rampDown => (1, 0)
    | .resting a => (2, a)
  padTo 64 (le 1 (codeIn trayStates x.st) ++ le 1 (maskOf drives) ++ le 2 x.cause ++ le 4 x.drainTxn ++ le 8 x.since ++
    le 8 slack.2 ++ f32b x.a ++ f32b x.q ++ f32b x.qTarget ++ f32b x.qStep ++ f32b ramp.1 ++ f32b ramp.2 ++
    f32b (s.link t).held ++ le 1 slack.1 ++ le 1 (maskOf [x.safe, x.openSince.isSome, x.weirFault, x.linkFault]) ++ le 2 0 ++ le 8 x.slackEnd)

/-- How a snub ends, in the order of its codes. -/
def snubKinds : List SnubKind := [.step, .trip, .toFault, .toOff]

/-- 8 bytes of a phase: its state with the state before a check or a link loss, and how its snub ends; the lockout of R74
in 0.1 ms. -/
def manPhase (s : State) (t p : Nat) : Bytes :=
  let x := s.ph t p
  let kind := codeIn snubKinds x.snubKind
  le 1 (codeIn phaseStates x.st + 16 * codeIn phaseStates x.prev) ++
    le 1 (maskOf [x.svc, x.want, x.oos, x.tripped, x.drawn] + 32 * kind) ++ le 1 x.flags ++
    le 1 ((s.edge.lockUntil - s.now + 99999) / 100000) ++ f32b x.w

/-- Bytes 2,240–2,495. -/
def manFeeds (s : State) : Bytes :=
  let g := fun k => codeIn groupStates (s.groupSt k)
  padTo 256 (f32b s.feed.pRef ++ le 1 (g 0) ++ le 1 (g 1) ++ le 1 (b2n s.feed.override) ++ le 1 0 ++
    f32b (s.group 0).ceiling ++ f32b (s.group 1).ceiling ++
    (List.range 48).flatMap fun r => le 2 (clampI 0 65535 (roundEven ((s.rect r).cmd * 100))).toNat)

/-- 72 bytes of marks. -/
def manMarks (w : Tow) : Bytes := le 24 w.suspect ++ le 24 w.checkLost ++ le 24 w.unreadable

/-- 16 bytes of the estimator of a tray. -/
def manEst (s : State) (t : Nat) : Bytes :=
  let x := s.estOf t
  let qs := (x.cells.take (s.nCell t)).map (·.q)
  let first := qs.headD 0
  f32b x.soc ++ f32b x.bound ++ f32b (qs.foldl min first) ++ f32b (qs.foldl max first)

/-- 16 bytes of a partition. -/
def manPart (p : Partition) : Bytes :=
  le 2 p.first ++ le 2 p.last ++ le 1 p.cls ++ le 1 p.fixed ++ le 1 p.point ++ le 1 0 ++ f32b p.kappa ++ le 2 p.flight ++
    le 2 0

/-- Bytes 4,928–4,991. -/
def manGov (s : State) : Bytes :=
  padTo 64 (le 4 s.gov.epoch ++ le 4 (codeIn govStates' s.gov.st) ++ f32b s.gov.bGov ++ f32b s.gov.trim)

/-- Bytes 0–6,143. -/
def manFirmware (s : State) : Bytes :=
  let ts := List.range Config.trays
  padTo 6144 (manHeader s ++ manLoop s ++ manClock s ++ ts.flatMap (manTray s) ++
    (ts.flatMap fun t => (List.range Config.phases).flatMap (manPhase s t)) ++ manFeeds s ++ s.tows.flatMap manMarks ++
    ts.flatMap (manEst s) ++ s.gov.parts.flatMap manPart ++ manGov s)

/-! ### User entries (Table 17.6) -/

/-- Cost of an entry; 0 for an id the table does not list. -/
def entryCost : Nat → Nat
  | 0x01 => 1152
  | 0x02 => 384
  | 0x03 => 384
  | 0x04 => 2048
  | 0x05 => 264
  | 0x06 => 16
  | 0x07 => 2048
  | 0x08 => 2048
  | 0x09 => 2048
  | 0x0A => 1024
  | 0x0B => 384
  | 0x0C => 1024
  | _ => 0

/-- An instance lies in its range. -/
def instanceOk (id n : Nat) : Bool :=
  match id with
  | 0x01 | 0x02 | 0x04 => decide (n < 16)
  | 0x03 | 0x05 | 0x06 | 0x08 | 0x09 => n == 0
  | 0x07 => decide (n < 8)
  | 0x0A => decide (n < 256)
  | 0x0B => decide (n < 32)
  | 0x0C => decide (24 ≤ n) && decide (n < 64)
  | _ => false

/-- An unsigned 16-bit fraction of 1. -/
def frac16 (x : Rat) : Bytes := le 2 (clampI 0 65535 (roundEven (x * 65535))).toNat

/-- A schedule entry, 32 bytes. -/
def SchedEntry.bytes (e : SchedEntry) : Bytes :=
  le 1 e.src ++ le 1 e.part ++ le 1 e.kind ++ le 1 e.conf ++ le 2 e.flight ++ le 2 1 ++ i32b e.delta ++ le 4 e.ramp ++
    i64b e.conv ++ i64b (roundEven e.tc)

/-- Read back. -/
def SchedEntry.ofBytes (b : Bytes) : SchedEntry :=
  { src := u8At b 0, part := u8At b 1, delta := i32At b 8, ramp := u32At b 12, flight := u16At b 4, kind := u8At b 2
    conf := u8At b 3, conv := i64At b 16, tc := (i64At b 24 : Rat) }

/-- The entries in order of T_c. -/
def State.byTc (s : State) : List SchedEntry := s.tide.entries.foldr insertEntry []

/-- A stream, 24 bytes; none there: zeros. -/
def Stream.bytes (x : Stream) : Bytes :=
  le 1 x.i ++ le 1 x.sub ++ le 2 x.index ++ le 4 x.offset ++ le 4 x.length ++ le 4 x.period ++ le 4 x.phase ++ le 4 1

/-- Waits on a gate (Table 11.1). -/
def State.waiters (s : State) (g : Nat) : Nat := min 255 (s.gates.waits.filter fun w => w.g == g).length

/-- The bytes of an entry. -/
def entryBytes (s : State) (id n : Nat) : Bytes :=
  match id with
  | 0x01 => (s.estOf n).cells.flatMap fun y => frac16 y.q ++ frac16 y.uq ++ le 2 (unsigned 16 (roundEven (y.vp * 10000)))
  | 0x02 => (s.estOf n).cells.flatMap fun y => le 2 (clampI 0 65535 (roundEven (y.cap * 1000))).toNat
  | 0x03 => s.tows.flatMap fun w => le 24 w.bleeding
  | 0x04 => (slice' s.byTc (64 * n) 64).flatMap SchedEntry.bytes
  | 0x05 => ((s.tide.bias.zip s.tide.history).flatMap fun (e : Rat × List Bool) => i32b (roundEven e.1) ++ le 4 (maskOf e.2))
  | 0x06 => f32b s.tide.gate ++ f32b s.tide.rho
  | 0x07 => (List.range 512).flatMap fun i => f32b (s.chip (512 * n + i)).slack
  | 0x08 => s.fm.active.flatMap Active.bytes
  | 0x09 => (s.txn.recs.filter fun r => r.st == 0).flatMap Txn.record
  | 0x0A => (List.range 64).flatMap fun i => (s.gate (2048 + 64 * n + i)).bytes (s.waiters (2048 + 64 * n + i))
  | 0x0B => (get Session.reset s.sess n).streams.flatMap Stream.bytes
  | 0x0C => match (s.slot n).rt with
    | some r => stateRegions s.grid.sram (s.slot n).program r
    | none => []
  | _ => []
where
  /-- Elements [a, a + n) of a list. -/
  slice' (l : List SchedEntry) (a n : Nat) : List SchedEntry := (l.drop a).take n

/-- The manifest (R471, R472). -/
def manifestBytes (s : State) : Bytes :=
  padTo 32768 (manFirmware s ++
    s.pair.layout.flatMap fun (e : Nat × Nat) => padTo (entryCost e.1) (entryBytes s e.1 e.2))

/-! ### Reading back -/

/-- Rows of n bytes from an offset. -/
def rowsAt (b : Bytes) (off n : Nat) : Nat → List Bytes
  | 0 => []
  | k + 1 => slice b off n :: rowsAt b (off + n) n k

/-- Byte offset of each entry of a layout. -/
def layoutOffsets : Nat → List (Nat × Nat) → List (Nat × Nat × Nat)
  | _, [] => []
  | off, (id, n) :: rest => (id, n, off) :: layoutOffsets (off + entryCost id) rest

/-- The layout of a manifest (log entry 51). -/
def manLayout (m : Bytes) : List (Nat × Nat) := Config.layoutOf (u32At m 20)

/-- An entry of a manifest, where its layout has it. -/
def manEntry (m : Bytes) (id n : Nat) : Option Bytes :=
  ((layoutOffsets 6144 (manLayout m)).find? fun e => e.1 == id && e.2.1 == n).map fun e => slice m e.2.2 (entryCost id)

/-- The tray as the manifest has it, its drives kept low by an asserted weir line (R143, Table 17.10). A time the
manifest has no place for counts from the takeover. -/
def loadTray (now : Nat) (weir : Bool) (full : Nat) (b : Bytes) (x : Tray) : Tray :=
  let d := u8At b 1
  let st := trayStates.getD (u8At b 0) .absent
  let since := u64At b 8
  let a := f32At b 24
  let slack := match u8At b 52 with
    | 1 => Slack.rampDown
    | 2 => Slack.resting (u64At b 16)
    | _ => Slack.none_
  { Tray.reset with
    pin := x.pin, pinSince := x.pinSince, pinBlocked := x.pinBlocked, vStr := x.vStr, iBus := x.iBus
    st := st, since := since, kN := bit d 0 && !weir, kPre := bit d 1 && !weir, kP := bit d 2 && !weir, trayEn := bit d 3
    a := a, rampLen := full, rampFrom := if st = .admitting ∧ 0 < a then some (now - (a * (full : Rat)).floor.toNat) else none
    q := f32At b 28, qTarget := f32At b 32, qStep := f32At b 36
    ramp := if bit d 4 then some (f32At b 40, f32At b 44) else none
    cause := u16At b 2, drainTxn := if u32At b 4 = 0 then 0 else carried + u32At b 4, blackStart := bit d 5, openAtZero := bit d 6
    leftAt := if bit d 7 then some now else none, slack := slack, slackEnd := u64At b 56, safe := bit (u8At b 53) 0
    weirFault := bit (u8At b 53) 2, linkFault := bit (u8At b 53) 3
    openSince := if bit (u8At b 53) 1 then some now else none, driveAt := now, closeAt := now }

/-- A phase as the manifest has it, on a link that is up or not. The stage is in fallback, so the phase regains its state
as after a lost link (R91), which takes DRAWING and RESTORING to RUN (Table 17.8); DE goes on. The cause of a hand-off
follows the fault flags. -/
def loadPhase (linked : Bool) (b : Bytes) (x : Phase) : Phase :=
  let m := u8At b 1
  let st := phaseStates.getD (u8At b 0 % 16) .off
  let before := if st = .linkLost then phaseStates.getD (u8At b 0 / 16) .off else st
  let f := u8At b 2
  let y := { x with
    st := .linkLost, prev := before, w := f32At b 4, rate := 0, svc := bit m 0, want := bit m 1, oos := bit m 2
    tripped := bit m 3, drawn := bit m 4, flags := f, r := x.i, held := x.i, b := 0, cmd := none
    cause := if bit f 0 then .opened else if bit f 1 then .sense else .service
    snubKind := snubKinds.getD (m / 32 % 4) .toOff }
  if !linked then y else if st = .de then { y with st := .de } else y.regain true

/-- Cells without their entry (Table 17.8). -/
def seedCell (low high bound : Rat) (y : EstCell) : EstCell :=
  { y with q := low, uq := bound + (high - low), bal := false, known := true }

/-- A cell with its entry. -/
def mirrorCell (b : Bytes) (y : EstCell) : EstCell :=
  { y with q := (u16At b 0 : Rat) / 65535, uq := (u16At b 2 : Rat) / 65535, vp := (i16At b 4 : Rat) / 10000, bal := true, known := true }

/-- The estimator of tray t from a manifest; capacities with neither entry nor save are the rated one (R479). -/
def loadEst (m : Bytes) (t : Nat) (rated : Rat) (x : Est) : Est :=
  let b := slice m (3648 + 16 * t) 16
  let cells := match manEntry m 0x01 t with
    | some e => (x.cells.zip (rowsAt e 0 6 192)).map fun (y : EstCell × Bytes) => mirrorCell y.2 y.1
    | none => x.cells.map (seedCell (f32At b 8) (f32At b 12) (f32At b 4))
  let cells := match manEntry m 0x02 t with
    | some e => (cells.zip (rowsAt e 0 2 192)).map fun (y : EstCell × Bytes) => { y.1 with cap := (u16At y.2 0 : Rat) / 1000 }
    | none => if x.save.isSome then cells else cells.map fun y => { y with cap := rated }
  { x with started := true, soc := f32At b 0, bound := f32At b 4, cells := cells }

/-- A partition as the manifest has it. -/
def loadPart (b : Bytes) (p : Partition) : Partition :=
  { p with
    first := u16At b 0, last := u16At b 2, cls := u8At b 4, fixed := u8At b 5, point := u8At b 6, kappa := f32At b 8
    flight := u16At b 12 }

/-- A mirrored gate: its state, in the block of its owner (Table 17.8); neighbours of one owner and mode are one
block (log entry 51). -/
def mirrorGate (g : Nat) (x : Gate) (s : State) : State :=
  if x.kind = 0 then s else
    let s := if (s.gates.blockOf g).isSome then s else
      match s.gates.blocks.find? fun b => b.base + b.n == g && b.kind == x.kind && b.owner == x.owner && b.mode == x.mode with
      | some c => { s with gates := { s.gates with blocks := s.gates.blocks.map fun b =>
          if b.base = c.base then { b with n := b.n + 1 } else b } }
      | none =>
        let b : GateBlock := { base := g, n := 1, mode := x.mode, kind := x.kind, owner := x.owner, holes := [] }
        { s with gates := { s.gates with blocks := insertBlock b s.gates.blocks } }
    s.setGate g x

/-- A stream read back; none for zeros. -/
def Stream.ofBytes (b : Bytes) : Option Stream :=
  if u32At b 20 = 0 then none else
    some { i := u8At b 0, index := u16At b 2, sub := u8At b 1, offset := u32At b 4, length := u32At b 8
           period := u32At b 12, phase := u32At b 16, last := none }

/-- A mirrored transaction: a drain goes on, any other operation was cut short by the takeover (R435, R459). -/
def mirrorTxn (c now : Nat) (b : Bytes) : Option Txn :=
  let r := Txn.ofRecord c b
  if r.id = carried then none
  else if r.kind = 1 then some r
  else some { r with st := 3, cause := 0x0B03, closed := now }

/-- A carried record is held, and copied to flash (R434, R435). -/
def holdTxn (r : Txn) (s : State) : State := copyTxn r.id { s with txn := { s.txn with recs := dropOldest s.txn.recs ++ [r] } }

/-- One user entry takes effect (Table 17.8); entries 01h and 02h are read by `loadEst`. -/
def loadEntry (id n : Nat) (e : Bytes) (s : State) : State :=
  match id with
  | 0x03 =>
    let s := (List.range Config.trays).foldl (fun s t => bleedAccount t s) s
    { s with tows := (s.tows.zip (rowsAt e 0 24 16)).map fun (w : Tow × Bytes) => { w.1 with bleeding := ofLe w.2 } }
  | 0x04 =>
    let l := ((rowsAt e 0 32 64).filter fun b => u16At b 6 == 1).map SchedEntry.ofBytes
    { s with tide := { s.tide with entries := s.tide.entries ++ l } }
  | 0x05 =>
    let rows := rowsAt e 0 8 33
    { s with tide := { s.tide with
      bias := rows.map (fun b => (i32At b 0 : Rat)), history := rows.map fun b => bitsOf 32 (u32At b 4) } }
  | 0x06 => { s with tide := { s.tide with gate := f32At e 0, rho := f32At e 4 } }
  | 0x07 => (rowsAt e 0 4 512).zipIdx.foldl (fun s (q : Bytes × Nat) =>
      s.updChip (512 * n + q.2) (fun x => { x with slack := f32At q.1 0, flights := max 8 x.flights })) s
  | 0x08 => { s with fm := { s.fm with active := s.fm.active ++
      ((rowsAt e 0 16 128).filter fun b => u16At b 0 != 0).map Active.ofBytes } }
  | 0x09 =>
    let l := (rowsAt e 0 64 32).zipIdx.filterMap fun (q : Bytes × Nat) => mirrorTxn (s.freeCount + q.2) s.now q.1
    l.foldl (fun s r => holdTxn r s) { s with freeCount := s.freeCount + 32 }
  | 0x0A => (rowsAt e 0 16 64).zipIdx.foldl (fun s (q : Bytes × Nat) =>
      mirrorGate (2048 + 64 * n + q.2) (Gate.ofBytes q.1) s) s
  | 0x0B => { s with sess := upd s.sess n fun x => { x with streams := (rowsAt e 0 24 16).filterMap Stream.ofBytes } }
  | 0x0C => match (s.slot n).rt with
    | some r =>
      let p := (s.slot n).program
      let len := min 1024 (stateRegions s.grid.sram p r).length
      let all := e.take len ++ (stateRegions s.grid.sram p r).drop len
      { s with grid := { s.grid with sram := loadState p r all s.grid.sram } }
    | none => s
  | _ => s

end Sys2Proof.Machine
end

