-- ==== Sys2Proof/Machine/Calibration.lean ====
section
/-! DEFINITION. The calibration set's commands (chapter 19). -/

namespace Sys2Proof.Machine

/-! ### Writing the set (R507, R508) -/

/-- An integrator's write of an entry discards the live measurement of it (Table 19.4). -/
def dropMeasure (e : Nat) (s : State) : State :=
  let t := e / 68
  let k := e % 68
  if 8 ≤ k ∧ k < 16 then s.updPh t (k - 8) Phase.dropCal
  else if k = 17 then s.updLink t Link.dropCal
  else if k = 18 then { s with cal := { s.cal with eqDrop := t :: s.cal.eqDrop.filter (· != t) } }
  else s

/-- An integrator's value for entry e: source 1, verified, its anchor; 0D01h when a factory value goes. -/
def calWrite (e bits : Nat) (locked : Bool) (s : State) : State :=
  let was := (s.calEntry e).src
  let s := s.setCal e { CalEntry.put s (e / 68) (e % 68) bits (s.calEntry e) with
    src := 1, locked := locked, unver := false, anchor := bits, banded := false }
  let s := (dropMeasure e s).pendStore (calKey e)
  let s := { s with cal := { s.cal with lastWrite := s.now } }
  if was = 0 then s.raise 0x0D01 e else s

/-- The entries of a block, in order: the element completes when the number fits its place and the value its range. -/
def calElements (id : Nat) (first : Nat) : Nat → List Bytes → State → State
  | _, [], s => s
  | i, b :: rest, s =>
    let e := first + i
    if u16At b 0 = e ∧ e < Config.calEntries ∧ calInRange (e % 68) (u32At b 4) = true then
      calElements id first (i + 1) rest (txnElement id i (calWrite e (u32At b 4) (bit (u8At b 2) 2) s))
    else calElements id first (i + 1) rest s

/-- CAL_BLOCK_WRITE. -/
def calBlockEff (ses seq offset : Nat) (data : Bytes) (s : State) : State :=
  let n := data.length / 8
  if data = [] ∨ data.length % 8 ≠ 0 ∨ offset % 8 ≠ 0 ∨ 8192 < data.length ∨ 8 * Config.calEntries < offset + data.length
  then s.violate ses 0x9000 0x0A
  else if 32 ≤ s.openTxns then txnLimit ses 0x9000 0x0A s
  else
    let s := openTxn 5 0x0A9000 offset n ses seq s
    let id := s.txn.highest
    let s := { s with cal := { s.cal with lastTxn := id } }
    finishTxn id (calElements id (offset / 8) 0 ((List.range n).map fun i => slice data (8 * i) 8) s)

/-- CAL_ENTRY_WRITE: a scalar of [9100+t]; the lock is kept (Table 19.4). -/
def calScalarEff (ses t sub value : Nat) (s : State) : State :=
  let e := 68 * t + 12 + sub
  if 4 ≤ sub ∧ sub ≤ 7 ∧ calInRange (12 + sub) value = true then calWrite e value (s.calEntry e).locked s
  else s.violate ses (0x9100 + t) sub

/-- Anchors of the entries of a routine, at their present values (R510), in flash too. -/
def resetAnchors (r : Nat) (s : State) : State :=
  (List.range Config.calEntries).foldl (fun s e =>
    if calRoutine (e % 68) = some r then
      let x := s.calEntry e
      (s.setCal e { x with anchor := x.bits, banded := false }).pendStore (calKey e)
    else s) s

/-- LIVE_ROUTINES_WRITE. -/
def liveRoutinesEff (ses v : Nat) (s : State) : State :=
  if 3 < v then s.violate ses 0x9000 0x03 else
    let s := s.storeCfg 0x9000 0x03 v
    let s := if bit v 0 then resetAnchors 0 s else s
    if bit v 1 then resetAnchors 1 s else s

/-! ### Live routines (R509) -/

/-- 1,024 samples whose standard deviation ÷ 32 is at most 0.005 A. -/
def calAccepted (sum sq : Rat) : Bool :=
  let m := sum / 1024
  decide (sq / 1024 - m * m ≤ (16 / 100) * (16 / 100))

/-- PHASE_OFFSET_MEASURE: discarded when the window is no longer open (Table 19.4). -/
def phaseOffsetEff (t p : Nat) (s : State) : State :=
  let x := s.ph t p
  if x.calN < 1024 then s else
    let s := s.updPh t p (fun x => { x with calN := 0, calSum := 0, calSq := 0 })
    if s.offsetOpen t p = false then s.updPh t p Phase.dropCal
    else if calAccepted x.calSum x.calSq then calMeasure t (8 + p) (x.calSum / 1024) s else s

/-- DC_LINK_OFFSET_MEASURE. -/
def dcOffsetEff (t : Nat) (s : State) : State :=
  let x := s.link t
  if x.calN < 1024 then s else
    let s := s.updLink t (fun l => { l with calN := 0, calSum := 0, calSq := 0 })
    if dcWindow s t = false then s.updLink t Link.dropCal
    else if calAccepted x.calSum x.calSq then calMeasure t 17 (x.calSum / 1024) s else s

/-- The running second of the bus-voltage equalisation, from `eqSince` on. -/
def startSecond (s : State) : State :=
  { s with cal := { s.cal with
    eqSince := some s.now, eqSum := List.replicate 16 0, eqN := List.replicate 16 0, eqDrop := [] } }

/-- BUS_VOLTAGE_EQUALISE: trays not excluded and not locked, their measured gains scaled to keep their mean. -/
def equaliseEff (s : State) : State :=
  match s.cal.eqSince with
  | none => s
  | some a =>
    if s.shelfRun = false ∨ s.now < a + sec then s else
      let ts := (List.range Config.trays).filter fun t =>
        !s.shelfExcluded t && decide (0 < get 0 s.cal.eqN t) && !s.cal.eqDrop.contains t && s.calLive t 18
      let g := fun (t : Nat) => s.calVal t 18
      let m := fun (t : Nat) => g t * (1 - get 0 s.cal.eqSum t / ((get 0 s.cal.eqN t : Nat) : Rat))
      let total := sumQ (ts.map m)
      if s.loop.nValid < 4 ∨ total = 0 then startSecond s else
        let k := sumQ (ts.map g) / total
        startSecond (ts.foldl (fun a t => calMeasure t 18 (m t * k) a) s)

/-! ### Storing, locking (R506, R511) -/

/-- An hour in ns. -/
def hour : Nat := 3600 * sec

/-- CAL_LIVE_STORE: a whole hour has passed since the last store, or the bus loop is OFF. -/
def calLiveStoreEff (s : State) : State :=
  if s.cal.storeFrom / hour < s.now / hour ∨ s.loop.st = .off then calStoreLive s else s

/-- Commands 2 and 3. -/
def calLockEff (b : Bool) (s : State) : State :=
  (List.range Config.calEntries).foldl (fun s e =>
    (s.setCal e { s.calEntry e with locked := b }).pendStore (calKey e)) s

/-- Command 4 of [9000.02]. -/
def calClearEff (s : State) : State := { s with cal := { s.cal with rejected := 0 } }

/-! ### Meanings -/

/-- CAL_BLOCK_WRITE (R508). -/
def execCalBlockWrite (ses seq offset : Nat) (data : Bytes) (s : State) : Host.Outcome State Fault Refusal :=
  run (decide (ses < Config.sessions)) s (calBlockEff ses seq offset data)

/-- CAL_ENTRY_WRITE (R508). -/
def execCalEntryWrite (ses t sub value : Nat) (s : State) : Host.Outcome State Fault Refusal :=
  runObj ses (0x9100 + t) sub (decide (t < Config.trays) && decide (sub < 256) && decide (value < 2 ^ 64)) s
    (calScalarEff ses t sub value)

/-- LIVE_ROUTINES_WRITE (R510). -/
def execLiveRoutinesWrite (ses v : Nat) (s : State) : Host.Outcome State Fault Refusal :=
  run (decide (ses < Config.sessions)) s (liveRoutinesEff ses v)

/-- PHASE_OFFSET_MEASURE (R509). -/
def execPhaseOffsetMeasure (t p : Nat) (s : State) : Host.Outcome State Fault Refusal :=
  run (decide (t < Config.trays) && decide (p < Config.phases)) s (phaseOffsetEff t p)

/-- DC_LINK_OFFSET_MEASURE (R509). -/
def execDcLinkOffsetMeasure (t : Nat) (s : State) : Host.Outcome State Fault Refusal :=
  run (decide (t < Config.trays)) s (dcOffsetEff t)

/-- BUS_VOLTAGE_EQUALISE (R509). -/
def execBusVoltageEqualise (s : State) : Host.Outcome State Fault Refusal := run true s equaliseEff

/-- CAL_LIVE_STORE (R506). -/
def execCalLiveStore (s : State) : Host.Outcome State Fault Refusal := run true s calLiveStoreEff

/-- CAL_STORE_NOW (R506). -/
def execCalStoreNow (ses : Nat) (s : State) : Host.Outcome State Fault Refusal :=
  run (decide (ses < Config.sessions)) s calStoreLive

/-- CAL_LOCK_ALL (R511). -/
def execCalLockAll (ses : Nat) (s : State) : Host.Outcome State Fault Refusal :=
  run (decide (ses < Config.sessions)) s (calLockEff true)

/-- CAL_UNLOCK_ALL (R511). -/
def execCalUnlockAll (ses : Nat) (s : State) : Host.Outcome State Fault Refusal :=
  run (decide (ses < Config.sessions)) s (calLockEff false)

/-- CAL_CLEAR_COUNTERS (R516): the counter not kept since power-up. -/
def execCalClearCounters (ses : Nat) (s : State) : Host.Outcome State Fault Refusal :=
  run (decide (ses < Config.sessions)) s calClearEff

end Sys2Proof.Machine
end

