-- ==== Sys2Proof/Machine/Start.lean ====
section
/-! DEFINITION. Resets, boot and start, the flash store of settings, power fail and temperature (chapters 15, 20 and
21). -/

namespace Sys2Proof.Machine

/-! ### What a reset keeps -/

/-- A tray's marks and serial numbers are in flash (R156, R192); its weir line stays at its level. -/
def keepTow (w : Tow) : Tow :=
  { Tow.reset with
    suspect := w.suspect, checkLost := w.checkLost, unreadable := w.unreadable, lines := w.lines
    serials := w.serials, weir := w.weir }

/-- The counters that an object table keeps since power-up go on over a reset that does not remove power. -/
def keepCounters (old : State) (s : State) : State :=
  { s with
    od := { s.od with storeFails := old.od.storeFails }
    fm := { s.fm with raised := old.fm.raised }
    edge := { s.edge with frameErrors := old.edge.frameErrors }
    gov := { s.gov with
      accepted := old.gov.accepted
      parts := s.gov.parts.mapIdx fun k x => { x with closed := (get Partition.reset old.gov.parts k).closed } }
    gates := { s.gates with drains := old.gates.drains }
    ev := { s.ev with delivered := old.ev.delivered }
    tide := { s.tide with evals := old.tide.evals, accepted := old.tide.accepted }
    pair := { s.pair with sent := old.pair.sent }
    sec := { s.sec with refused := old.sec.refused, signed := old.sec.signed }
    cal := { s.cal with liveWrites := old.cal.liveWrites }
    grid := { s.grid with sent := old.grid.sent }
    port := { s.port with sent := old.port.sent, linkUps := old.port.linkUps }
    clk := { s.clk with ever := old.clk.ever, steps := old.clk.steps } }

/-- What a reset leaves: flash, the one-time area, the levels of pins; all else is at its reset value but for what is kept
since power-up. `powered`: power has not been removed (R366). -/
def loseVolatile (powered : Bool) (s : State) : State :=
  when_ powered (keepCounters s) { State.reset with
    pending := s.pending
    freeCount := s.freeCount
    tx := s.tx
    hw := { Hw.reset with
      withdrawn := s.hw.withdrawn, scan := s.hw.scan, thermalOff := s.hw.thermalOff, junction := s.hw.junction, inlet := s.hw.inlet
      recordThermal := s.hw.recordThermal, recordWatchdog := s.hw.recordWatchdog }
    od := { Od.reset with
      flash := s.od.flash, restoreMark := s.od.restoreMark, opSeconds := s.od.opSeconds
      powerCycles := s.od.powerCycles, resetCause := s.od.resetCause }
    txn := { Txns.reset with flash := s.txn.flash, highest := s.txn.highest }
    rcd := { Rec.reset with
      segs := s.rcd.segs, nextSeq := s.rcd.nextSeq, clearMark := s.rcd.clearMark, reclaimed := s.rcd.reclaimed
      crcWarned := s.rcd.crcWarned }
    tows := s.tows.map keepTow
    est := s.est
    phases := s.phases.map fun l => l.map fun _ => Phase.reset
    trays := s.trays.mapIdx fun t x =>
      let q := derateOf (s.tow t).lines.length
      { Tray.reset with pin := x.pin, q := q, qTarget := q }
    feed := { Feed.reset with aux := s.feed.aux }
    cal := { Cal.reset with flash := s.cal.flash }
    sec := { Sec.reset with
      image := s.sec.image, keyHashes := s.sec.keyHashes, programmed := s.sec.programmed, revoked := s.sec.revoked
      minVer := s.sec.minVer, idKey := s.sec.idKey, rootKey := s.sec.rootKey, counter := s.sec.counter
      applied := s.sec.applied, loaderRan := s.sec.loaderRan, installed := s.sec.installed }
    pair := { Pair.reset with
      position := s.pair.position, roleIn := s.pair.roleIn, faultIn := s.pair.faultIn, takeovers := s.pair.takeovers } }

/-- Every staged record reaches flash. -/
def flushStaged : Nat → State → State
  | 0, s => s
  | n + 1, s => flushStaged n (flashRecordEff true s)

/-- A reset with its cause ([0001.05]): the boot ROM runs next. What is staged in the recorder reaches flash first: only a
full buffer loses a record (R487), and written records stand (Table 16.8). -/
def resetModule (cause : Nat) (s : State) : State :=
  let s := loseVolatile true (flushStaged s.rcd.staged.length s)
  { s with od := { s.od with resetCause := cause } }

/-- MODULE_RESET (Table 15.13): with the bus loop OFF, or in standby. -/
def moduleResetEff (ses : Nat) (s : State) : State :=
  if s.loop.st = .off ∨ s.pair.role = .standby then resetModule 1 s else s.violate ses 0x0001 0x02

/-- WATCHDOG_EXPIRY (R455): 50 ms without a write of the core: FAULT_OUT, a reset; 0006h is recorded at the next
start. -/
def watchdogEff (core : Nat) (s : State) : State :=
  let last := get 0 s.fm.watchdog core
  if s.now < last + 50 * ms then s else
  let s := s.assertFaultOut 0x0006
  resetModule 2 { s with hw := { s.hw with recordWatchdog := some (core, last) } }

/-! ### Boot (R518 to R520) -/

/-- An image the ROM runs (R518); the K16 is the member with 2^4 trays. -/
def State.imageValid (s : State) (x : FwImage) : Bool :=
  x.magicOk && bit x.members 4 && x.slot < 4 && bit s.sec.programmed x.slot && !bit s.sec.revoked x.slot &&
    get [] s.sec.keyHashes x.slot == x.keyHash && decide (s.sec.minVer ≤ x.secVersion) && x.sigOk

/-- A printable ASCII character from each of 16 digits of a number to the base 95. -/
def asciiText (v : Nat) : Bytes := (List.range 16).map fun i => BitVec.ofNat 8 (32 + v / 95 ^ i % 95)

/-- The console line of a boot step (R545); its text is not stated: free ASCII characters. -/
def bootLine (s : State) : State :=
  State.send { s with freeCount := s.freeCount + 1 } (.console (asciiText (Config.freeNat s.freeCount) ++ [0x0D, 0x0A]))

/-- The line of the step `Pair role decided` follows a change that ends DECIDING (Table 20.2). -/
def saysRole (f : State → State) (s : State) : State :=
  let t := f s
  when_ (decide (s.pair.role = .deciding) && !decide (t.pair.role = .deciding)) bootLine t

/-- BOOT (R519, R520): the lines of the self-test, of the measurement and of a firmware that is started; PAIR_SLOT is read
at power-up, high at position B (R544). -/
def bootEff (pins : BootPins) (s : State) : State :=
  if s.hw.phase ≠ .rom then s else
    let x := s.sec.image
    let s := bootLine (bootLine s)
    let s := ((s.measure 1 0 Config.romMeasurement).measure 2 0 x.measure).measure 3 x.slot x.keyHash
    let runs : Bool := s.imageValid x && !pins.breakHeld
    { when_ runs bootLine s with
      hw := { s.hw with phase := if runs then .starting else .loader }
      pair := { s.pair with position := if s.od.resetCause = 0 then b2n pins.slotHigh else s.pair.position } }

/-! ### Start (R423, R434, R467, R489) -/

/-- A key of a dictionary value that a restore resets: outside [9000–9FFF] and [A000] (R424). -/
def restorable (key : Nat) : Bool := !(decide (0x900000 ≤ key) && decide (key < 0xA00100))

/-- Settings from flash, less those whose copies are both lost; a restore marked takes effect (R423, R424). -/
def loadSettings (lost : List Nat) (s : State) : State :=
  let f := s.od.flash.filter fun e => !lost.contains e.1 && !(s.od.restoreMark && restorable e.1)
  { s with od := { s.od with values := f, flash := f, restoreMark := false, stores := [], storeFailed := [] } }

/-- The calibration set from flash; an entry whose copies are both lost is gain 1 or offset 0, source integrator,
and is stored so (R506). -/
def loadCal (lost : List Nat) (s : State) : State :=
  let f := (s.cal.flash.filter fun e => !lost.contains (calKey e.1)).map fun e =>
    (e.1, { e.2 with old := e.2.bits, at_ := 0 })
  let bad := (List.range Config.calEntries).filter fun e => lost.contains (calKey e)
  let s := { s with cal := { s.cal with entries := f, flash := f } }
  bad.foldl (fun s e =>
    let x := { calFactory (e % 68) with src := 1 }
    let s := s.setCal e x
    { s with cal := { s.cal with flash := Store.set (calFactory (e % 68)) s.cal.flash e x } }) s

/-- Transactions from flash: those found open are closed as INTERRUPTED (R434). -/
def loadTxns (s : State) : State :=
  let l := s.txn.flash.map fun r => if r.st = 0 then { r with st := 3, flags := 3, closed := s.now, cause := 0 } else r
  { s with txn := { s.txn with recs := l, flash := l } }

/-- A fault record of the start when it is due. -/
def startRecord (due : Bool) (code : Nat) (data : Bytes) (s : State) : State :=
  if due then recordAtStart code data s else s

/-- What is recorded at start (R455, R489, R520, R530, R552). -/
def startRecords (lost : List Nat) (wasOpen : Bool) (s : State) : State :=
  let t := le 8 s.now
  let s := match s.hw.recordWatchdog with
    | some w => recordAtStart 0x0006 (le 8 w.2 ++ le 1 w.1) s
    | none => s
  let s := match s.hw.recordThermal with
    | some a => recordAtStart 0x000A (le 8 a) s
    | none => s
  let s := startRecord s.sec.loaderRan 0x0E01 t s
  let s := startRecord (lost.any fun k => decide (k < 16777216)) 0x0003 t s
  let s := startRecord (lost.any fun k => decide (16777216 ≤ k)) 0x0D03 t s
  let s := startRecord wasOpen 0x0004 t s
  let s := startRecord s.sec.installed 0x0E05 t s
  { s with
    hw := { s.hw with recordWatchdog := none, recordThermal := none }
    sec := { s.sec with loaderRan := false, installed := false } }

/-- Raises of before the start completed are recorded with flag [2] (R489). -/
def recordInFlight (s : State) : State :=
  s.fm.inFlight.foldl (fun s r => recordStart { r with ctx := 0 } s) { s with fm := { s.fm with inFlight := [] } }

/-- STANDBY: shelf time follows the active module (Table 13.2). -/
def toStandby (s : State) : State :=
  { s with
    pair := { s.pair with role := .standby, since := s.now }
    clk := { s.clk with st := .following } }

/-- MODULE_START: `lost` names the stored values whose two copies both failed. -/
def moduleStartEff (lost : List Nat) (s : State) : State :=
  if s.hw.phase ≠ .starting then s else
    let cold := b2n (s.od.resetCause == 0)
    let wasOpen := s.txn.flash.any fun r => r.st == 0
    let s := bootLine (loadTxns (loadCal lost (loadSettings lost s)))
    let s := { s with
      od := { s.od with powerCycles := (s.od.powerCycles + cold) % 4294967296 }
      hw := { s.hw with phase := .firmware, released := false }
      pair := { s.pair with since := s.now } }
    let s := startRecords lost wasOpen s
    let s := (s.measure 4 0 (sha256 s.sec.rootKey)).measure 5 0 (sha256 s.calBlock)
    let s := governorGates (groupEnables (forTrays estStart s))
    let s := recordInFlight s
    let s := { s with port := { s.port with linkLocal := s.unaddressed } }
    if s.pair.roleIn then saysRole toStandby s else s

/-! ### The store (R423, R424, R438, R470) -/

/-- Bytes of a dictionary value. -/
def storedBytes (index sub v : Nat) : Bytes :=
  match objRow index sub with
  | some r => le r.len v
  | none => le 8 v

/-- The active module sends a stored value to its partner (R470). -/
def sendStore (key : Nat) (s : State) : State :=
  if s.pair.role = .active ∧ restorable key ∧ key < 16777216 then
    let b := storedBytes (key / 256) (key % 256) (s.cfgU (key / 256) (key % 256))
    s.sendPair 5 false (le 2 (key / 256) ++ le 1 (key % 256) ++ le 1 0 ++ le 4 b.length ++ b)
  else s

/-- A pending value reaches flash. -/
def storeKey (key : Nat) (s : State) : State :=
  let rest := s.od.stores.filter fun e => e.1 != key
  let s := { s with od := { s.od with storeFailed := s.od.storeFailed.filter fun e => e.1 != key } }
  if 16777216 ≤ key then
    let e := key - 16777216
    { s with
      od := { s.od with stores := rest }
      cal := { s.cal with flash := Store.set (calFactory (e % 68)) s.cal.flash e (s.calEntry e) } }
  else
    let v := s.cfgU (key / 256) (key % 256)
    sendStore key { s with od := { s.od with
      stores := rest, flash := Store.set (objDefault (key / 256) (key % 256)) s.od.flash key v } }

/-- A store is tried; one that fails leaves the value pending (R423). -/
def tryStore (key : Nat) (ok : Bool) (s : State) : State :=
  if ok then storeKey key s
  else State.raise { s with od := { s.od with
    storeFails := sat32 (s.od.storeFails + 1)
    storeFailed := (key, s.now) :: s.od.storeFailed.filter fun e => e.1 != key } } 0x0001 noInst

/-- When the store of a value last failed. -/
def State.storeFailedAt (s : State) (key : Nat) : Option Nat :=
  (s.od.storeFailed.find? fun e => e.1 == key).map (·.2)

/-- STORE_TO_FLASH: the store that follows a write; once it has failed, only a retry or a later write stores again. -/
def storeEff (key : Nat) (ok : Bool) (s : State) : State :=
  match s.od.stores.find? (fun e => e.1 == key), s.storeFailedAt key with
  | some e, some a => if e.2 ≤ a then s else tryStore key ok s
  | some _, none => tryStore key ok s
  | none, _ => s

/-- STORE_RETRY: 10 s after a store that failed. -/
def storeRetryEff (key : Nat) (ok : Bool) (s : State) : State :=
  match s.od.stores.find? (fun e => e.1 == key), s.storeFailedAt key with
  | some _, some a => if a + 10 * sec ≤ s.now then tryStore key ok s else s
  | _, _ => s

/-- STORE_PENDING_NOW: whether flash takes each value is no operand of the command: a free value (log entry 62). -/
def storeAllEff (s : State) : State :=
  (s.od.stores.map (·.1)).foldl (fun s k =>
    tryStore k (Config.freeNat s.freeCount % 2 == 0) { s with freeCount := s.freeCount + 1 }) s

/-- TRANSACTION_COPY (R434). -/
def txnCopyEff (s : State) : State :=
  ((s.txn.recs.filter fun r => r.st == 0).map (·.id)).foldl (fun s id => copyTxn id s) s

/-! ### Power fail (R549, R550) -/

/-- The sequence of Table 21.8: 000Bh is staged first, outputs released, transmitters silent, records stored, rails
off. It runs to its end at once (log entry 50); raises still on their way are recorded after 000Bh (Table 21.13). -/
def powerFailSequence (s : State) : State :=
  let r : Raise := { code := 0x000B, inst := noInst, ctx := s.context, at_ := s.now, data := le 8 s.now, count := 1 }
  let s := enterActive r false (recordAlways r 0 (countRaise r s))
  let s := s.fm.inFlight.foldl (fun s r => enterActive r false (recordRun r 0 (countRaise r s))) s
  let s := { s with hw := { s.hw with released := true } }
  let at_ := s.now
  let s := loseVolatile false (flushStaged s.rcd.staged.length s)
  { s with
    now := at_
    hw := { s.hw with phase := .off, powerFail := some at_ }
    od := { s.od with resetCause := 0 } }

/-- POWER_FAIL_START: both feeds below 40.0 V in two consecutive measurements. -/
def powerFailEff (s : State) : State :=
  if 2 ≤ s.hw.lowCount ∧ s.hw.phase ≠ .off then powerFailSequence s else s

/-- The module starts as at power-up. -/
def powerUp (s : State) : State :=
  let s := loseVolatile false s
  { s with od := { s.od with resetCause := 0 } }

/-- One feed has read at or above 42.0 V for 100 ms (R550). -/
def State.feedBack (s : State) : Bool :=
  s.hw.feedGood.any fun a => match a with
    | some t => decide (t + 100 * ms ≤ s.now)
    | none => false

/-- POWER_RESTORE: one feed at or above 42.0 V for 100 ms. The feeds come over the connectors beside J2: a module that
gets them back has been inserted (R555, log entry 69). -/
def powerRestoreEff (s : State) : State :=
  if s.hw.phase = .off ∧ s.hw.thermalOff = false ∧ s.feedBack = true then
    powerUp { s with hw := { s.hw with withdrawn := false, scan := .held } }
  else s

/-! ### Temperature (R551, R552) -/

/-- THERMAL_CHECK: thresholds, each with a hysteresis of 5 °C; in shutdown, since when the junction is below 85 °C. -/
def thermalEff (j i : Rat) (s : State) : State :=
  let h := s.hw
  let on := decide (h.phase = .firmware)
  let warmJ := on && (decide (95 < j) || (h.warnJ && !decide (j < 90)))
  let warmI := on && (decide (50 < i) || (h.warnI && !decide (i < 45)))
  let hot := on && (decide (110 < j) || (h.over110.isSome && !decide (j < 105)))
  let s := { s with hw := { h with
    junction := j, inlet := i, warnJ := warmJ, warnI := warmI
    over110 := if hot then some (h.over110.getD s.now) else none
    coolSince := if h.thermalOff && decide (j < 85) then some (h.coolSince.getD s.now) else none } }
  let s := when_ ((warmJ && !h.warnJ) || (warmI && !h.warnI)) (fun s => s.raise 0x0009 noInst) s
  when_ (hot && h.over110.isNone) (fun s => s.raise 0x000A noInst) s

/-- THERMAL_SHUTDOWN: AON runs the power-fail sequence and holds the module off. -/
def thermalShutdownEff (s : State) : State :=
  if 115 < s.hw.junction ∧ s.hw.phase ≠ .off then
    let since := s.hw.over110.getD s.now
    let s := powerFailSequence s
    { s with hw := { s.hw with thermalOff := true, recordThermal := some since } }
  else s

/-- THERMAL_RESTART: below 85 °C for 60 s. -/
def thermalRestartEff (s : State) : State :=
  match s.hw.coolSince with
  | some a =>
    if s.hw.thermalOff = true ∧ a + 60 * sec ≤ s.now then
      let s := powerUp s
      { s with hw := { s.hw with thermalOff := false } }
    else s
  | none => s

/-- The power-fail sequence is still storing records: 20 ms from its start (Table 21.8). -/
def State.dying (s : State) : Bool :=
  match s.hw.phase, s.hw.powerFail with
  | .off, some a => decide (s.now < a + 20 * ms)
  | _, _ => false

/-- 000Ch is recorded while the power-fail sequence stores what is staged (Table 21.13). -/
def recordDying (s : State) : State :=
  let r : Raise := { code := 0x000C, inst := noInst, ctx := 0, at_ := s.now, data := le 8 s.now, count := 1 }
  flushStaged 1 (recordAlways r 0 s)

/-- J2_WITHDRAWN: boundary scan is operable from here (R546); with the firmware running every output is released and
every transmitter silent, 000Ch (R555), which is recorded in a power-fail sequence too (R556). -/
def withdrawnEff (s : State) : State :=
  let s := when_ (s.dying && !s.hw.withdrawn) recordDying s
  let acts := decide (s.hw.phase = .firmware) && !(s.hw.withdrawn && s.hw.released)
  let s := { s with hw := { s.hw with withdrawn := true, scan := .operable, released := s.hw.released || acts } }
  when_ acts (fun s => s.raise 0x000C noInst) s

/-- Commands 2 and 3 of [0001.02] (R424). -/
def markEff (on : Bool) (s : State) : State := { s with od := { s.od with restoreMark := on } }

/-! ### Meanings -/

/-- BOOT (R519): runs in the boot ROM only. -/
def execBoot (pins : BootPins) (s : State) : Host.Outcome State Fault Refusal := runIf true true s (bootEff pins)

/-- MODULE_START (R423): runs between the ROM and the firmware's first command. -/
def execModuleStart (lost : List Nat) (s : State) : Host.Outcome State Fault Refusal := runIf true true s (moduleStartEff lost)

/-- MODULE_RESET (R438). -/
def execModuleReset (ses : Nat) (s : State) : Host.Outcome State Fault Refusal :=
  run (decide (ses < Config.sessions)) s (moduleResetEff ses)

/-- WATCHDOG_EXPIRY (R455). -/
def execWatchdogExpiry (core : Nat) (s : State) : Host.Outcome State Fault Refusal :=
  run (decide (core < 4)) s (watchdogEff core)

/-- STORE_TO_FLASH (R423). -/
def execStoreToFlash (key : Nat) (ok : Bool) (s : State) : Host.Outcome State Fault Refusal := run true s (storeEff key ok)

/-- STORE_RETRY (R423). -/
def execStoreRetry (key : Nat) (ok : Bool) (s : State) : Host.Outcome State Fault Refusal :=
  run true s (storeRetryEff key ok)

/-- STORE_PENDING_NOW (R438). -/
def execStorePendingNow (ses : Nat) (s : State) : Host.Outcome State Fault Refusal :=
  run (decide (ses < Config.sessions)) s storeAllEff

/-- MARK_RESTORE (R424). -/
def execMarkRestore (ses : Nat) (s : State) : Host.Outcome State Fault Refusal :=
  run (decide (ses < Config.sessions)) s (markEff true)

/-- WITHDRAW_RESTORE (R424). -/
def execWithdrawRestore (ses : Nat) (s : State) : Host.Outcome State Fault Refusal :=
  run (decide (ses < Config.sessions)) s (markEff false)

/-- TRANSACTION_COPY (R434). -/
def execTransactionCopy (s : State) : Host.Outcome State Fault Refusal := run true s txnCopyEff

/-- POWER_FAIL_START (R549): in any state but off. -/
def execPowerFailStart (s : State) : Host.Outcome State Fault Refusal := runIf true true s powerFailEff

/-- POWER_RESTORE (R550). -/
def execPowerRestore (s : State) : Host.Outcome State Fault Refusal := runIf true true s powerRestoreEff

/-- THERMAL_CHECK (R551): AON measures in every state. -/
def execThermalCheck (junction inlet : Rat) (s : State) : Host.Outcome State Fault Refusal :=
  runIf true true s (thermalEff junction inlet)

/-- THERMAL_SHUTDOWN (R552). -/
def execThermalShutdown (s : State) : Host.Outcome State Fault Refusal := runIf true true s thermalShutdownEff

/-- THERMAL_RESTART (R552). -/
def execThermalRestart (s : State) : Host.Outcome State Fault Refusal := runIf true true s thermalRestartEff

/-- J2_WITHDRAWN (R555): J2_MATE reads high in any phase. -/
def execJ2Withdrawn (s : State) : Host.Outcome State Fault Refusal := runIf true true s withdrawnEff

end Sys2Proof.Machine
end

