-- ==== Sys2Proof/Machine/Pair.lean ====
section
/-! DEFINITION. The redundant pair (chapter 17): roles, the link, manifests, layouts, triggers of a takeover. -/

namespace Sys2Proof.Machine

/-! ### Roles (R466, R467) -/

/-- Change the pair's state. -/
def State.updPair (s : State) (f : Pair → Pair) : State := { s with pair := f s.pair }

/-- The shelf address is claimed and announced, notice 1207h (R388). -/
def claimShelf (s : State) : State :=
  if s.port.shelf then s else
    let s := { s with port := { s.port with shelf := true } }
    let a4 := s.cfgU 0x1000 0x08
    let a6 := s.addr6 0x09
    let s := when_ (a4 != 0) (fun s => s.sendNear ⟨false, true, a4⟩) s
    (when_ (a6 != 0) (fun s => s.sendNear ⟨true, true, a6⟩) s).raise 0x1207 noInst

/-- The role becomes ACTIVE. -/
def becomeActive (s : State) : State :=
  readModes (claimShelf (s.updPair fun x => { x with role := .active, since := s.now }))

/-- PAIR_DECIDE_TIMEOUT: steps 1 and 4 of R467. -/
def decideEff (s : State) : State :=
  let x := s.pair
  if x.role ≠ .deciding ∨ x.conflict = true ∨ s.now < x.since + 200 * ms then s
  else if x.roleIn then saysRole toStandby s
  else if x.link < 2 then saysRole becomeActive s else s

/-! ### The link (R469, R470, R483) -/

/-- Every stored object: key of each RWS and RWL value that a restore covers (R424). -/
def storedKeys : List Nat :=
  (objGroups.flatMap fun g => (List.range g.count).flatMap fun i => g.rows.flatMap fun r =>
    if r.acc = .rws ∨ r.acc = .rwl then (List.range r.reps).map fun j => okey (g.first + i) (r.sub + r.stride * j)
    else []).filter restorable

/-- The value a key has in flash. -/
def State.storedVal (s : State) (key : Nat) : Nat := Store.get (objDefault (key / 256) (key % 256)) s.od.flash key

/-- The whole stored set goes to the partner (R470). -/
def sendStoredSet (s : State) : State :=
  storedKeys.foldl (fun s key =>
    let b := storedBytes (key / 256) (key % 256) (s.storedVal key)
    s.sendPair 5 false (le 2 (key / 256) ++ le 1 (key % 256) ++ le 1 0 ++ le 4 b.length ++ b)) s

/-- Two modules that decide: position A becomes ACTIVE and sends its stored set; equal positions are a conflict
(R467, R470). -/
def decideByPosition (partner : Nat) (s : State) : State :=
  if partner = s.pair.position then
    (if s.pair.conflict then s else (s.updPair fun x => { x with conflict := true }).raise 0x0B0A noInst)
  else if s.pair.position = 0 then sendStoredSet (becomeActive s) else toStandby s

/-- PAIR_HELLO (R467, Table 17.12). -/
def helloEff (frame : Bytes) (s : State) : State :=
  recvPair 1 frame (fun m s =>
    let s := s.updPair fun x => { x with
      partnerRole := u8At m.payload 1, partnerVer := u32At m.payload 4, partnerId := slice m.payload 16 32 }
    if s.pair.role = .deciding then
      (if s.pair.roleIn then saysRole toStandby s
       else if u8At m.payload 1 = 0 then saysRole (decideByPosition (u8At m.payload 0)) s else s)
    else s) s

/-- PAIR_LINK_UP. -/
def pairUpEff (s : State) : State :=
  if s.pair.link = 3 then s
  else if s.pair.link = 2 then s.updPair fun x => { x with link := 3 }
  else
    let s := (s.updPair fun x => { x with link := 3, everUp := true }).raise 0x0B01 noInst
    let s := sendHello s
    if s.pair.role = .active then sendStoredSet s else s

/-- PAIR_LINK_LANE_LOST. -/
def pairLaneEff (s : State) : State :=
  if s.pair.link = 3 then (s.updPair fun x => { x with link := 2 }).raise 0x0B04 noInst else s

/-- The elements of a layout change complete (R474). -/
def finishLayout (s : State) : State :=
  match s.txnById s.pair.layoutTxn with
  | some r => if s.pair.layoutNo = 0 then s else
      let s := (List.range r.requested).foldl (fun s i => txnElement r.id i s) s
      (finishTxn r.id s).updPair fun x => { x with layoutNo := 0 }
  | none => s

/-- PAIR_LINK_LOST: a standby follows no longer, its crystal at the partner's last frequency (Table 13.7); a layout in effect waits for no acknowledgement. -/
def pairDownEff (s : State) : State :=
  if s.pair.link = 0 then s else
    let s := (s.updPair fun x => { x with link := 0, partnerRole := 0 }).raise 0x0B02 noInst
    let s := finishLayout s
    if s.clk.st = .following ∧ s.drives = false then
      let y := if s.pair.manifest = [] then s.clk.freq else f32At s.pair.manifest 128
      State.raise { s with clk := { s.clk with st := .holdover, freq := y, freeAt := s.now, bound := s.partnerBound } } 0x1102 noInst
    else s

/-! ### Manifests (R471 to R474) -/

/-- A layout accepted takes effect with this manifest; with no standby its elements complete now. -/
def layoutTakes (s : State) : State :=
  match s.pair.next with
  | some l =>
    let s := s.updPair fun x => { x with layout := l, next := none, layoutNo := x.number }
    if s.pair.link < 2 ∨ s.pair.partnerRole ≠ 2 then finishLayout s else s
  | none => s

/-- Number, snapshot and send the manifest in 8 parts. -/
def sendManifest (handover : Bool) (s : State) : State :=
  let s := s.updPair fun x => { x with number := (x.number + 1) % 4294967296, sent := x.sent + 1, lastAt := s.now }
  let s := layoutTakes s
  let m := manifestBytes s
  let no := s.pair.number
  (List.range 8).foldl (fun s i =>
    s.sendPair 3 handover (le 4 no ++ le 1 i ++ le 1 8 ++ le 2 0 ++ slice m (4096 * i) 4096)) s

/-- MANIFEST_SEND: on each whole 100 µs, once, on the active module. -/
def manifestSendEff (s : State) : State :=
  if s.pair.role ≠ .active ∨ s.now % 100000 ≠ 0 ∨ (s.pair.number ≠ 0 ∧ s.pair.lastAt = s.now) then s
  else (sendManifest false s).updPair fun x => { x with lastNo := x.number }

/-- The drill of a former active module has succeeded: its partner has sent a manifest (R481). -/
def drillDone (s : State) : State :=
  if s.pair.handover.isNone then s else
    { s with
      loop := { loopZero s.loop with st := .off, entry := false }
      clk := { s.clk with st := .following }
      pair := { s.pair with handover := none } }

/-- The boundary of a manifest: its snapshot time (Table 17.5). -/
def manBoundary (m : Bytes) : Nat := u64At m 8

/-- A whole manifest is committed and acknowledged; O is the active module's (R372, R471). One committed by 50 µs after
its boundary ends a run of missed ones (R475). -/
def commitManifest (no : Nat) (m : Bytes) (s : State) : State :=
  let late : Bool := decide (manBoundary m + 50000 < s.now)
  let s := s.updPair fun x => { x with
    manifest := m, lastNo := no, lastAt := s.now, committed := x.committed + 1
    missRun := if late then x.missRun else 0, up5 := x.up5 && late
    parts := [], role := if x.role = .unsynced then .standby else x.role
    since := if x.role = .unsynced then s.now else x.since }
  let s := { s with clk := { s.clk with off := i64At m 136 } }
  (drillDone s).sendPair 4 false (le 4 no)

/-- A whole manifest of another layout version is refused. -/
def refuseManifest (s : State) : State :=
  let s := s.updPair fun x => { x with parts := [] }
  if s.pair.role = .standby then
    (s.updPair fun x => { x with role := .unsynced, since := s.now }).raise 0x0B0B noInst
  else s

/-- MANIFEST_PART. -/
def manifestPartEff (frame : Bytes) (s : State) : State :=
  recvPair 3 frame (fun m s =>
    let p := m.payload
    let no := u32At p 0
    let part := u8At p 4
    if (s.pair.role ≠ .standby ∧ s.pair.role ≠ .unsynced) ∨ p.length ≠ 4104 ∨ 8 ≤ part ∨ u8At p 5 ≠ 8 then s else
      let old := if s.pair.partsOf = no then s.pair.parts else []
      let parts := Store.ins part (p.drop 8) (Store.del old part)
      let s := s.updPair fun x => { x with partsOf := no, parts := parts }
      if parts.length < 8 then s else
        let all := parts.flatMap fun (e : Nat × Bytes) => e.2
        if u16At all 4 = s.sec.image.layout then commitManifest no all s else refuseManifest s) s

/-- PAIR_ACK. -/
def pairAckEff (frame : Bytes) (s : State) : State :=
  recvPair 4 frame (fun m s =>
    if s.pair.role ≠ .active then s else
      let no := u32At m.payload 0
      let s := s.updPair fun x => { x with acked := no, ackRun := if no = x.acked + 1 then x.ackRun + 1 else 1 }
      if s.pair.layoutNo ≠ 0 ∧ s.pair.layoutNo ≤ no then finishLayout s else s) s

/-- The entries of a pending layout: those with an id. -/
def pendingLayout (s : State) : List (Nat × Nat) :=
  ((rowsAt (le 512 (s.cfgU 0x8100 0x02)) 0 8 64).map fun b => (u8At b 0, u8At b 1)).filter fun e => e.1 != 0

/-- Bytes a layout costs. -/
def layoutCost (l : List (Nat × Nat)) : Nat := sumN (l.map fun e => entryCost e.1)

/-- The layout is accepted (R474). -/
def layoutOk (l : List (Nat × Nat)) : Bool :=
  l.eraseDups.length == l.length && (l.all fun e => instanceOk e.1 e.2) && decide (layoutCost l ≤ 26624)

/-- Block [8100.03] of a layout. -/
def layoutBlock (l : List (Nat × Nat)) : Bytes :=
  padTo 512 ((layoutOffsets 6144 l).flatMap fun (e : Nat × Nat × Nat) =>
    le 1 e.1 ++ le 1 e.2.1 ++ le 2 (entryCost e.1) ++ le 4 e.2.2)

/-- LAYOUT_COMMIT. A layout that replaces one not yet in effect closes its transaction by its elements. -/
def layoutCommitEff (ses seq : Nat) (s : State) : State :=
  let l := pendingLayout s
  if layoutOk l = false then (s.violate ses 0x8100 0x04).raise 0x0B06 noInst
  else if 32 ≤ s.openTxns then txnLimit ses 0x8100 0x04 s
  else
    let s := if s.pair.layoutTxn = 0 then s else finishTxn s.pair.layoutTxn s
    let s := openTxn 6 0x048100 0 l.length ses seq s
    let s := s.updPair fun x => { x with next := some l, layoutTxn := s.txn.highest, layoutNo := 0 }
    s.measure 7 0 (sha256 (layoutBlock l))

/-! ### Triggers of a takeover (R475) -/

/-- The role becomes TAKING: 1 FAULT_OUT, 2 command, 3 heartbeat, 4 drill. -/
def enterTaking (cause : Nat) (s : State) : State :=
  s.updPair fun x => { x with
    role := .taking, since := s.now, takeCause := cause, takeAt := s.now, takeovers := sat32 (x.takeovers + 1)
    loaded := false, edged := [], handover := none }

/-- The manifest of a boundary was committed by 50 µs after it. -/
def State.onTime (s : State) (at_ : Nat) : Bool :=
  s.pair.manifest != [] && decide (at_ ≤ manBoundary s.pair.manifest) && decide (s.pair.lastAt ≤ at_ + 50000)

/-- MANIFEST_MISSED: the manifest of the last boundary 50 µs ago was not committed by then. -/
def manifestMissedEff (s : State) : State :=
  if s.pair.role ≠ .standby ∨ s.pair.handover.isSome = true ∨ s.now < 50000 then s else
    let at_ := (s.now - 50000) / 100000 * 100000
    if at_ < s.pair.since ∨ s.onTime at_ = true ∨ s.pair.missAt = some (at_ + 50000) then s else
      let s := s.updPair fun x => { x with
        missed := sat32 (x.missed + 1), missRun := x.missRun + 1, missAt := some (at_ + 50000) }
      if s.pair.missRun < 3 then s
      else if s.pair.roleIn = false then enterTaking 3 s
      else if s.pair.up5 then s
      else (s.updPair fun x => { x with up5 := true }).raise 0x0B05 noInst

/-- PAIR_FAULT_IN_TRIGGER: the command stands for 10 µs of assertion. -/
def faultInEff (s : State) : State :=
  let s := if s.pair.faultIn then s else s.updPair fun x => { x with faultIn := true, faultInAt := s.now }
  match s.pair.role with
  | .standby => enterTaking 1 s
  | .unsynced => s.raise 0x0B09 noInst
  | _ => s

/-- PAIR_ROLE_IN_FALL. -/
def roleInFallEff (s : State) : State :=
  let s := s.updPair fun x => { x with roleIn := false }
  if s.pair.role = .standby ∧ s.pair.handover = none ∧ 3 ≤ s.pair.missRun then enterTaking 3 s else s

/-- TAKE_OVER_NOW: command 1, in STANDBY. -/
def takeNowEff (ses : Nat) (s : State) : State :=
  if s.pair.role = .standby then enterTaking 2 s else s.violate ses 0x8000 0x02

/-- PAIR_HANDOVER: a commanded takeover (R481). -/
def pairHandoverEff (frame : Bytes) (s : State) : State :=
  recvPair 6 frame (fun _ s => if s.pair.role = .standby then enterTaking 4 s else s) s

/-! ### Drill and self-test (R480, R481) -/

/-- HANDOVER_DRILL: command 2, in ACTIVE. -/
def drillEff (ses : Nat) (s : State) : State :=
  if s.pair.role ≠ .active then s.violate ses 0x8000 0x02
  else if s.pair.drill.isSome then s else s.updPair fun x => { x with drill := some s.now }

/-- DRILL_ABANDON. -/
def drillAbandonEff (s : State) : State :=
  match s.pair.drill with
  | some a => if a + 10 * sec ≤ s.now then s.updPair fun x => { x with drill := none } else s
  | none => s

/-- STANDBY_SELF_TEST: every grid core; those of the mask fail. -/
def standbyTestEff (failed : Nat) (s : State) : State :=
  if s.pair.role ≠ .standby ∨ s.now < max s.pair.since s.pair.selfTestAt + s.cfgU 0x8000 0x11 * sec then s else
    let s := s.updPair fun x => { x with selfTestAt := s.now }
    let bad := (List.range Config.cores).filter fun c => bit failed c
    let s := bad.foldl (fun s c => coreFailedEff c s) s
    if bad = [] then s else s.raise 0x0B08 noInst

/-- PAIR_CLEAR_COUNTERS: the counters that are not kept since power-up or stored. -/
def pairClearEff (s : State) : State := s.updPair fun x => { x with committed := 0, missed := 0 }

/-- Command 2 of [8100.04]. -/
def layoutDiscardEff (s : State) : State := s.setCfg 0x8100 0x02 0

/-! ### Meanings -/

/-- PAIR_DECIDE_TIMEOUT (R467). -/
def execPairDecideTimeout (s : State) : Host.Outcome State Fault Refusal := run true s decideEff

/-- PAIR_HELLO (R467). -/
def execPairHello (frame : Bytes) (s : State) : Host.Outcome State Fault Refusal := run true s (helloEff frame)

/-- MANIFEST_SEND (R471). -/
def execManifestSend (s : State) : Host.Outcome State Fault Refusal := run true s manifestSendEff

/-- MANIFEST_PART (R471). -/
def execManifestPart (frame : Bytes) (s : State) : Host.Outcome State Fault Refusal := run true s (manifestPartEff frame)

/-- PAIR_ACK (R471). -/
def execPairAck (frame : Bytes) (s : State) : Host.Outcome State Fault Refusal := run true s (pairAckEff frame)

/-- PAIR_HANDOVER (R481). -/
def execPairHandover (frame : Bytes) (s : State) : Host.Outcome State Fault Refusal := run true s (pairHandoverEff frame)

/-- MANIFEST_MISSED (R475). -/
def execManifestMissed (s : State) : Host.Outcome State Fault Refusal := run true s manifestMissedEff

/-- PAIR_FAULT_IN_TRIGGER (R475). -/
def execPairFaultInTrigger (s : State) : Host.Outcome State Fault Refusal := run true s faultInEff

/-- PAIR_ROLE_IN_FALL (R475). -/
def execPairRoleInFall (s : State) : Host.Outcome State Fault Refusal := run true s roleInFallEff

/-- PAIR_LINK_LOST (R483). -/
def execPairLinkLost (s : State) : Host.Outcome State Fault Refusal := run true s pairDownEff

/-- PAIR_LINK_UP (R470). -/
def execPairLinkUp (s : State) : Host.Outcome State Fault Refusal := run true s pairUpEff

/-- PAIR_LINK_LANE_LOST (R483). -/
def execPairLinkLaneLost (s : State) : Host.Outcome State Fault Refusal := run true s pairLaneEff

/-- TAKE_OVER_NOW (R475). -/
def execTakeOverNow (ses : Nat) (s : State) : Host.Outcome State Fault Refusal :=
  run (decide (ses < Config.sessions)) s (takeNowEff ses)

/-- HANDOVER_DRILL (R481). -/
def execHandoverDrill (ses : Nat) (s : State) : Host.Outcome State Fault Refusal :=
  run (decide (ses < Config.sessions)) s (drillEff ses)

/-- DRILL_ABANDON (R481). -/
def execDrillAbandon (s : State) : Host.Outcome State Fault Refusal := run true s drillAbandonEff

/-- PAIR_CLEAR_COUNTERS (R484). -/
def execPairClearCounters (ses : Nat) (s : State) : Host.Outcome State Fault Refusal :=
  run (decide (ses < Config.sessions)) s pairClearEff

/-- STANDBY_SELF_TEST (R480). -/
def execStandbySelfTest (failed : Nat) (s : State) : Host.Outcome State Fault Refusal := run true s (standbyTestEff failed)

/-- LAYOUT_COMMIT (R474). -/
def execLayoutCommit (ses seq : Nat) (s : State) : Host.Outcome State Fault Refusal :=
  run (decide (ses < Config.sessions)) s (layoutCommitEff ses seq)

/-- LAYOUT_DISCARD (R484). -/
def execLayoutDiscard (ses : Nat) (s : State) : Host.Outcome State Fault Refusal :=
  run (decide (ses < Config.sessions)) s layoutDiscardEff

end Sys2Proof.Machine
end

