-- ==== Sys2Proof/Machine/Towpath.lean ====
section
/-! DEFINITION. The towpath (chapter 05): the ring cycle, ring breaks, weir lines, the plausibility path, open-wire
tests, marks and balancing. -/

namespace Sys2Proof.Machine

/-! ### Frames (R127 to R131) -/

/-- Monitors on the ring, [3100+t.02]. -/
def State.nMon (s : State) (t : Nat) : Nat := s.cfgU (0x3100 + t) 0x02

/-- The monitor at north hop h: byte h − 1 of [3100+t.05] (R128). -/
def monAt (s : State) (t h : Nat) : Nat := s.cfgU (0x3100 + t) 0x05 / 256 ^ (h - 1) % 256 % 16

/-- The north hop of monitor m. -/
def hopOf (s : State) (t m : Nat) : Nat :=
  1 + ((List.range (s.nMon t)).findIdx fun i => decide (monAt s t (i + 1) = m))

/-- A command frame (Table 5.2); the CRC leaves out byte 1. -/
def towFrame (code f l : Nat) (payload : Bytes) : Bytes :=
  let h := le 1 f ++ le 1 l ++ le 1 payload.length ++ payload
  le 1 (16 * code) ++ le 1 0 ++ h ++ le 4 (crc32c (le 1 (16 * code) ++ h))

/-- Send a command from an end of ring t. -/
def towSend (t : Nat) (south : Bool) (code f l : Nat) (payload : Bytes) (s : State) : State :=
  s.send (.towpath t south (towFrame code f l payload))

/-- A valid reply: type, south end, hop as the end counts, status, payload (Table 5.4, R131). -/
def parseReply (b : Bytes) : Option (Nat × Bool × Nat × Nat × Bytes) :=
  let h := u8At b 0
  let typ := bitField h 7 6
  let n := if typ = 0 then 20 else if typ = 1 then 18 else 10
  if b.length = n + 4 ∧ typ < 3 ∧ u32At b n = crc32c (b.take n) then
    some (typ, bit h 5, bitField h 4 0, u8At b 1, slice b 2 (n - 2))
  else none

/-- The north hop of a reply. -/
def northHop (s : State) (t : Nat) (south : Bool) (hop : Nat) : Nat := if south then s.nMon t + 1 - hop else hop

/-! ### Times (R133) -/

/-- End of a SWEEP's last reply plus 1 µs, ns after its start. -/
def sweepEnd (l : Nat) : Nat := 10000 + 250 * l + 20000 + (l - 1) * 26000 + 25000 + 1000

/-- End of the plausibility replies, ns after the cycle's start. -/
def plausEnd (l : Nat) : Nat := sweepEnd l + 10000 + 250 * l + 4000 + (l - 1) * 24000 + 23000

/-- Sample instant of a SWEEP sent at a, addressing hops 1 to l. -/
def sampleAt (a l : Nat) : Nat := a + 10000 + 250 * l

/-! ### Configuration (R132) -/

/-- Cells under suspicion. -/
def Tow.suspicious (w : Tow) : Nat := w.suspicions.foldl (fun a x => a ||| x.cells) 0

/-- Millivolts of a setting in volts, rounded to nearest even where it is no whole number of them (log entry 69). -/
def mv (x : Rat) : Nat := (roundEven (x * 1000)).toNat

/-- Value of a register for monitor m (Table 5.5); voltages and temperatures are rounded to nearest even (log entry 69). -/
def regValue (s : State) (t reg m : Nat) : Nat :=
  let w := s.tow t
  let f := fun sub => s.cfgF (0x3100 + t) sub
  let sus := w.suspect / 2 ^ (12 * m) % 4096
  let pend := w.suspicious / 2 ^ (12 * m) % 4096
  match reg with
  | 1 => mv (f 0x14)
  | 2 => mv (f 0x15)
  | 3 => mv (f 0x14 - f 0x16)
  | 4 => mv (f 0x15 + f 0x16)
  | 5 => 4095 - sus
  | 6 => sus ||| pend
  | 7 => s.cfgU (0x3100 + t) 0x1C
  | 8 => s.cfgU (0x3100 + t) 0x12
  | _ => (roundEven (f 0x1D)).toNat

/-- Write of one register to a run of hops. -/
def cfgWrite (s : State) (t reg f l : Nat) (enum : Bool) : CfgWrite :=
  { reg := reg, f := f, l := l, val := regValue s t reg (monAt s t f), enum := enum, got := 0 }

/-- The writes of a register: runs of at most 4 consecutive hops with one value, one end (R132). -/
def cfgRuns (s : State) (t reg : Nat) (enum : Bool) : List CfgWrite :=
  let n := s.nMon t
  let cut := (s.tow t).hN
  ((List.range n).foldl (fun (acc : List CfgWrite) i =>
    let w := cfgWrite s t reg (i + 1) (i + 1) enum
    match acc with
    | [] => [w]
    | x :: rest =>
      if x.val = w.val ∧ x.l < x.f + 3 ∧ x.l ≠ cut then { x with l := i + 1 } :: rest else w :: x :: rest) []).reverse

/-- Queue the writes of some registers. -/
def queueConfig (t : Nat) (regs : List Nat) (enum : Bool) (s : State) : State :=
  let l := (regs.map fun r => (cfgRuns s t r enum).map TowCmd.config).flatten
  s.updTow t (fun w => { w with queue := w.queue ++ l })

/-- The two comparator enables of a monitor are written again (R148, R153). -/
def queueEnables (t m : Nat) (s : State) : State :=
  let h := hopOf s t m
  s.updTow t (fun w => { w with
    queue := w.queue ++ [.config (cfgWrite s t 5 h h false), .config (cfgWrite s t 6 h h false)] })

/-- The enumeration's configuration is complete. -/
def cfgCheck (t : Nat) (s : State) : State :=
  let w := s.tow t
  let waits := w.queue.any (fun q => match q with | .config c => c.enum | _ => false) || w.cfgSent.any (·.enum)
  if w.ring ≠ .down ∧ w.enumDue = false ∧ w.cyc ≠ .enum ∧ waits = false then
    startDrives t (s.updTow t (fun w => { w with cfgDone := true }))
  else s

/-! ### Marks and what follows (R152 to R156) -/

/-- The derate moves to its new value over 50 ms (R154). -/
def derate (t : Nat) (s : State) : State :=
  let b := (s.tow t).lines.length
  s.updTray t (fun x =>
    if x.qTarget = derateOf b then x
    else { x with qTarget := derateOf b, qStep := absQ (derateOf b - x.q) / 50000 })

/-- Sense-suspect cells and marked lines of monitor m (R153, R154); a broken line's mark takes the place of its
intermittent one. -/
def markSuspect (t m cells : Nat) (lines : List Nat) (s : State) : State :=
  let before := (s.tow t).lines.length
  let s := s.updTow t (fun w => { w with
    suspect := w.suspect ||| cells
    lines := w.lines.filter (fun l => !(lines.map (· + 512)).contains l) ++ lines.filter fun l => !w.lines.contains l })
  let s := derate t (queueEnables t m s)
  if before < 3 ∧ 3 ≤ (s.tow t).lines.length then drainAsCommand t (s.raise 0x040C t) else s

/-- Cells of monitor m as a mask. -/
def monMask (m : Nat) : Nat := 4095 * 2 ^ (12 * m)

/-- Cells become unreadable together; one 0403h of the given instance (R155). -/
def markUnreadable (t cells inst : Nat) (s : State) : State :=
  moduleDrain t ((s.updTow t (fun w => { w with unreadable := w.unreadable ||| cells })).raise 0x0403 inst)

/-- The whole monitor becomes unreadable. -/
def monUnreadable (t m : Nat) (s : State) : State :=
  if monMask m &&& (s.tow t).unreadable = monMask m then s else markUnreadable t (monMask m) (16 * t + m) s

/-- The towpath raises no fault of a tray that is leaving the shelf (Table 5.9). -/
def towQuiet (s : State) (t : Nat) : Bool :=
  let x := s.tray t
  !x.pin || decide (x.st = .absent ∨ x.st = .pulled)

/-! ### The cycle (R134 to R139) -/

/-- Close a cycle's sweep: values, flags and counts from its replies (R134 to R138, R155). -/
def publishSweep (t : Nat) (s : State) : State :=
  let w := s.tow t
  let n := s.nMon t
  let reps := w.replies.filter fun e => decide (1 ≤ e.1) && decide (e.1 ≤ n)
  let raw := fun (d : Bytes) (i : Nat) => bitField (u32At (slice d (3 * (i / 2)) 3) 0) (12 * (i % 2) + 11) (12 * (i % 2))
  let val := fun (m : Nat) (d : Bytes) (i : Nat) =>
    (s.calIn t (20 + m) * (raw d i : Rat) + s.calIn t (36 + m)) / 1000
  let ok := reps.foldl (fun a e => a ||| monMask (monAt s t e.1)) 0
  let southM := reps.foldl (fun a e => if e.2.1 then a ||| monMask (monAt s t e.1) else a) 0
  let northM := reps.foldl (fun a e => if e.2.1 then a else a ||| monMask (monAt s t e.1)) 0
  let find := fun (m : Nat) => reps.find? fun e => decide (monAt s t e.1 = m)
  let main := w.main.mapIdx fun c v => match find (c / 12) with
    | some e => val (c / 12) (e.2.2.drop 1) (c % 12)
    | none => v
  let status := w.status.mapIdx fun m v => match find m with | some e => u8At e.2.2 0 | none => v
  let rose := fun (m : Nat) => match find m with
    | some e => bit (u8At e.2.2 0) 7 && !bit (get 0 w.status m) 7
    | none => bit w.tempHold m
  let src := reps.foldl (fun a e => if bit (u8At e.2.2 0) 3 then setBit a (monAt s t e.1) true else a) 0
  let all := 2 ^ (12 * n) - 1
  let quiet := towQuiet s t
  let miss := w.missRun.mapIdx fun c r =>
    if bit ok c then 0 else if quiet || decide (12 * n ≤ c) then r else min 10 (r + 1)
  let s := s.updTow t (fun w => { w with
    main := main, status := status, tempHold := (List.range 16).foldl (fun a m => setBit a m (rose m)) 0, weirSrc := src, validMain := ok, validPlaus := 0
    stale := all - (all &&& ok), endFlags := ((2 ^ 192 - 1 - (northM ||| southM)) &&& w.endFlags) ||| southM
    missRun := miss, fresh := true, sampleN := sampleAt w.cycleAt (if w.full then n else w.hN) })
  let w' := s.tow t
  let sum := sumQ (w'.main.take (12 * n))
  let s := if w'.testing then s else s.updTray t (fun x => { x with vStr := sum })
  let r : SweepRec := {
    atN := w'.sampleN, atS := w'.sampleS, endFlags := w'.endFlags, main := w'.main
    ok := if w'.testing then 0 else ok, bleeding := w'.bleeding }
  s.updEst t (fun x => { x with sweeps := (r :: x.sweeps).take 32 })

/-- Farthest north hop that replied from the north. -/
def farthestNorth (w : Tow) : Nat := (w.replies.filter fun e => !e.2.1).foldl (fun a e => max a e.1) 0

/-- Replies of hops before the farthest that are missing: reply errors (R136). -/
def replyErrorsOf (w : Tow) : Nat :=
  let h := farthestNorth w
  h - ((w.replies.filter fun e => !e.2.1 && decide (e.1 ≤ h)).length)

/-- A cycle without a comparison: five cycles with it are no longer consecutive (R148). -/
def runsBroken (w : Tow) : Tow := { w with cellRun := List.replicate 192 0, monRun := List.replicate 16 0 }

/-- One ring's cycle starts (R128, R134, R139). With monitors unreachable the cycle runs as with a single break: sweeps of
both ends that are reached, one probe in 1,000, whole again after 3 good ones (R137, log entry 69). -/
def ringCycle (southMissed : Nat) (t : Nat) (s : State) : State :=
  if (s.tow t).ring = .down then s
  else
    let s := if (s.tow t).cyc = .sweep ∨ (s.tow t).cyc = .recovery then publishSweep t s else s
    let n := s.nMon t
    let w := s.tow t
    let all := 2 ^ (12 * n) - 1
    let s := if w.cyc = .sweep ∨ w.cyc = .recovery ∨ w.cyc = .plaus then s.updTow t runsBroken else s
    let s := s.updTow t (fun w => { w with
      goodRun := if (w.validMain &&& w.validPlaus) &&& all = all then w.goodRun else 0
      cycle := w.cycle + 1, cycleAt := s.now, replies := [], plReplies := [], enumReplies := []
      southMissed := bit southMissed t })
    if w.enumDue then
      let quiet := towQuiet s t
      let s := s.updTow t (fun w => { runsBroken w with
        cyc := .enum, enumDue := false, stale := all, validMain := 0, validPlaus := 0, fresh := true
        missRun := w.missRun.mapIdx fun c r => if quiet || decide (12 * n ≤ c) then r else min 10 (r + 1) })
      towSend t false 7 1 n [] s
    else
      let full := decide (w.ring = .whole) || decide ((w.cycle + 1) % 1000 = 0)
      let s := s.updTow t (fun w => { w with cyc := .sweep, full := full })
      if full then towSend t false 1 1 n [] s
      else
        let s := if 0 < w.hN then towSend t false 1 1 w.hN [] s else s
        let s := s.updTow t (fun w => { w with sampleS := if 0 < w.hS then sampleAt s.now w.hS else w.sampleS })
        if 0 < w.hS then towSend t true 1 1 w.hS [] s else s

/-- TOWPATH_CYCLE: every ring on a whole millisecond (R134). -/
def towpathCycleEff (southMissed : Nat) (s : State) : State :=
  if s.now % ms = 0 then forTrays (ringCycle southMissed) s else s

/-- A CONFIG reply: the write is accepted by one hop more, or stays due (R132). -/
def cfgReply (t h : Nat) (d : Bytes) (s : State) : State :=
  let reg := u8At d 0
  if u16At d 4 ≠ 0 then s
  else
    let mark := fun (c : CfgWrite) =>
      if c.reg = reg ∧ c.f ≤ h ∧ h ≤ c.l ∧ c.val = u16At d 2 then { c with got := setBit c.got h true } else c
    let due := fun (c : CfgWrite) => !((List.range (c.l + 1 - c.f)).all fun i => bit c.got (c.f + i))
    cfgCheck t (s.updTow t (fun w => { w with cfgSent := (w.cfgSent.map mark).filter due }))

/-- A reply frame (R131). -/
def towReplyEff (t : Nat) (frame : Bytes) (s : State) : State :=
  match parseReply frame with
  | none => s
  | some (typ, south, hop, status, d) =>
    let h := northHop s t south hop
    let w := s.tow t
    if hop = 0 ∨ s.nMon t < hop ∨ w.ring = .down then s
    else if typ = 0 then
      (if w.cyc = .sweep ∨ w.cyc = .recovery then
        s.updTow t (fun w => { w with
          replies := w.replies.filter (fun e => e.1 ≠ h) ++ [(h, south, le 1 status ++ d)] }) else s)
    else if typ = 1 then
      (if w.cyc = .plaus then
        s.updTow t (fun w => { w with
          plReplies := w.plReplies.filter (fun e => e.1 ≠ h) ++ [(h, south, le 1 status ++ d)] }) else s)
    else if w.cyc = .enum then s.updTow t (fun w => { w with enumReplies := w.enumReplies.filter (fun e => e.1 ≠ h) ++ [(h, d)] })
    else cfgReply t h d s

/-- A cycle whose north SWEEP addressed all hops has been heard everywhere (R135, R139). -/
def wholeHeard (s : State) (t : Nat) : Bool :=
  let w := s.tow t
  !w.southMissed && (List.range (s.nMon t)).all fun i => w.replies.any fun e => e.1 == i + 1 && !e.2.1

/-- What a whole cycle says of the ring: the tail break of R135, the probes of R139. -/
def ringVerdict (t : Nat) (s : State) : State :=
  let w := s.tow t
  let n := s.nMon t
  if w.full = false then s
  else if wholeHeard s t then
    (if w.ring ≠ .whole ∨ w.brk ≠ 0xFF then s.updTow t (fun w => { w with probeCount := w.probeCount + 1 }) else s)
  else
    let s := s.updTow t (fun w => { w with probeCount := 0 })
    let replies := (List.range n).all fun i => w.replies.any fun e => e.1 == i + 1 && !e.2.1
    if w.ring = .whole ∧ w.southMissed ∧ replies ∧ w.brk ≠ n ∧ towQuiet s t = false then
      (s.updTow t (fun w => { w with brk := n })).raise 0x0402 t
    else s

/-- An open-wire test whose reading is not yet taken is discarded and issued again (Table 5.9); its cycles stay test
cycles until then. -/
def discardTest (t : Nat) (s : State) : State :=
  s.updTow t (fun w =>
    match w.test with
    | some x =>
      if x.monitors = 0 then w
      else { w with
        test := some { x with monitors := 0, void := true }, queue := .openTest x.monitors :: w.queue }
    | none => w)

/-- What a sweep with a silent stretch behind north hop h says (R137): a break located there, or monitors reached from
neither end. -/
def classifyBreak (t h : Nat) (s : State) : State :=
  let w := s.tow t
  let n := s.nMon t
  let heard := fun (i : Nat) => w.replies.any fun e => e.1 == i
  let lost := (List.range n).filter fun i => decide (h ≤ i) && !heard (i + 1)
  if lost = [] then
    let new_ := decide (w.ring ≠ .broken ∨ w.brk ≠ h)
    let s := s.updTow t (fun w => { w with
      ring := .broken, brk := h, brkSource := true, unreach := 0, hN := h, hS := n - h, probeCount := 0 })
    if new_ then (let s := discardTest t s; if towQuiet s t then s else s.raise 0x0402 t) else s
  else
    let mons := lost.map fun i => monAt s t (i + 1)
    let k := ((List.range (n - h)).takeWhile fun i => heard (n - i)).length
    let unreach := mons.foldl (fun a m => setBit a m true) 0
    let s := if w.unreach = unreach then s else discardTest t s
    let s := s.updTow t (fun w => { w with
      ring := .unreachable, brk := 0xFE, unreach := unreach, hN := h, hS := k, probeCount := 0 })
    if towQuiet s t then s else mons.foldl (fun a m => monUnreadable t m a) s

/-- A split cycle's south part whose farthest hops are silent: monitors between two breaks (R137, Table 5.9). -/
def southVerdict (t : Nat) (s : State) : State :=
  let w := s.tow t
  let n := s.nMon t
  let far := (w.replies.filter fun e => e.2.1).foldl (fun a e => max a (n + 1 - e.1)) 0
  if w.full = false ∧ far < w.hS then classifyBreak t w.hN s else s

/-- The sweep's replies run to the last hop addressed from the north. -/
def sweepReached (s : State) (t : Nat) : Bool :=
  let w := s.tow t
  decide ((if w.full then s.nMon t else w.hN) ≤ farthestNorth w)

/-- Main values published, PLAUS leaves (Table 5.6). A probe cycle issues the north SWEEP only: no PLAUS, no comparison, no
command window (R139). -/
def plausSendEff (t : Nat) (s : State) : State :=
  let w := s.tow t
  let n := s.nMon t
  if w.cyc = .sweep ∧ sweepReached s t ∧ w.cycleAt + sweepEnd n ≤ s.now then
    let s := s.updTow t (fun w => { w with replyErrors := sat32 (w.replyErrors + replyErrorsOf w) })
    let s := southVerdict t (ringVerdict t (publishSweep t s))
    if w.full = true ∧ w.ring ≠ .whole then s.updTow t (fun w => { runsBroken w with cyc := .idle }) else
    let s := s.updTow t (fun w => { w with cyc := .plaus })
    let w := s.tow t
    if w.full then towSend t false 2 1 n [] s
    else
      let s := if 0 < w.hN then towSend t false 2 1 w.hN [] s else s
      if 0 < w.hS then towSend t true 2 1 w.hS [] s else s
  else s

/-- The recovery sweep from the south (R136). -/
def southRecoveryEff (t : Nat) (s : State) : State :=
  let w := s.tow t
  let n := s.nMon t
  let l := if w.full then n else w.hN
  if w.cyc = .sweep ∧ sweepReached s t = false ∧ w.cycleAt + sweepEnd l - 1000 + 40000 ≤ s.now then
    let k := n - farthestNorth w
    let s := s.updTow t (fun w => { w with
      cyc := .recovery, recoveries := sat32 (w.recoveries + 1), sampleS := sampleAt s.now k
      replyErrors := sat32 (w.replyErrors + replyErrorsOf w) })
    towSend t true 1 1 k [] s
  else s

/-- The break is located, or monitors are unreachable (R137). -/
def breakClassifyEff (t : Nat) (s : State) : State :=
  let w := s.tow t
  let n := s.nMon t
  let h := farthestNorth w
  if w.cyc = .recovery ∧ w.sampleS + 20000 + (n - h - 1) * 26000 + 25000 ≤ s.now then
    (classifyBreak t h (publishSweep t s)).updTow t (fun w => { runsBroken w with cyc := .idle })
  else s

/-- Three good probes: the ring is whole again (R139). -/
def ringWholeEff (t : Nat) (s : State) : State :=
  let w := s.tow t
  if 3 ≤ w.probeCount ∧ w.ring ≠ .down then
    (s.updTow t (fun w => { w with
      ring := .whole, brk := 0xFF, brkSource := false, unreach := 0, hN := s.nMon t, hS := 0, probeCount := 0 })).raise 0x040A t
  else s

/-! ### Comparison (R146, R147) -/

/-- B_m: the mean of the samples kept, 0 of none (R147, log entry 26). -/
def bOf (w : Tow) (m : Nat) : Rat := meanQ (get [] w.bSamples m)

/-- Store the plausibility replies (R131, R503); a monitor that has been reset gives no temperatures before its next
valid sweep (Table 6.3). -/
def takePlaus (t : Nat) (s : State) : State :=
  let w := s.tow t
  let ratio := fun (m : Nat) => s.calIn t (52 + m)
  let find := fun (m : Nat) => w.plReplies.find? fun e => decide (monAt s t e.1 = m)
  let plaus := w.plaus.mapIdx fun c v => match find (c / 12) with
    | some e => (1 + (u8At e.2.2 (1 + c % 12) : Rat) / 100) * ratio (c / 12)
    | none => v
  let total := w.total.mapIdx fun m v => match find m with
    | some e => (u16At e.2.2 13 : Rat) / 1000 * ratio m
    | none => v
  let temps := w.temps.mapIdx fun i v => match find (i / 2) with
    | some e => if bit w.tempHold (i / 2) then v else signed 8 (u8At e.2.2 (15 + i % 2))
    | none => v
  let ok := w.plReplies.foldl (fun a e => a ||| monMask (monAt s t e.1)) 0
  let src := w.plReplies.foldl (fun a e => if bit (u8At e.2.2 0) 3 then setBit a (monAt s t e.1) true else a) w.weirSrc
  s.updTow t (fun w => { w with plaus := plaus, total := total, temps := temps, validPlaus := ok, weirSrc := src })

/-- The comparisons (R146 to R148): runs of disagreement, D_m, B_m. A cycle that does not compare a cell or a monitor ends
its run. -/
def compareRuns (s : State) (t : Nat) (w : Tow) : Tow :=
  let thr := s.cfgF (0x3100 + t) 0x19
  let tol := s.cfgF (0x3100 + t) 0x1A
  let both := w.validMain &&& w.validPlaus
  let off := fun (c : Nat) => decide (thr < absQ (get 0 w.plaus c - get 0 w.main c))
  let diff := fun (m : Nat) => sumQ ((w.main.drop (12 * m)).take 12) - get 0 w.total m
  let d := fun (m : Nat) => diff m - bOf w m
  let ok := fun (m : Nat) => both &&& monMask m == monMask m
  let clean := fun (m : Nat) => !(List.range 12).any fun i => off (12 * m + i)
  { w with
    cellRun := w.cellRun.mapIdx fun c r => if bit both c && off c then min 5 (r + 1) else 0
    monRun := w.monRun.mapIdx fun m r => if ok m && decide (tol < absQ (d m)) then min 5 (r + 1) else 0
    dLast := w.dLast.mapIdx fun m v => if ok m then d m else v
    bSamples := w.bSamples.mapIdx fun m l =>
      if ok m && clean m && decide (absQ (d m) ≤ tol) then (diff m :: l).take 1000 else l }

/-- PLAUS_COMPARISON's effect. -/
def plausComparisonEff (t : Nat) (s : State) : State :=
  let w := s.tow t
  let n := s.nMon t
  if w.cyc = .plaus ∧ w.cycleAt + plausEnd n ≤ s.now then
    let s := takePlaus t s
    let all := 2 ^ (12 * n) - 1
    s.updTow t (fun w =>
      let w := compareRuns s t w
      let good := decide ((w.validMain &&& w.validPlaus) &&& all = all)
      { w with cyc := .compared, goodRun := if good then min 10 (w.goodRun + 1) else 0 })
  else s

/-- Cells of monitor m in 5 consecutive disagreeing cycles. -/
def suspectCells (w : Tow) (m : Nat) : Nat :=
  (List.range 12).foldl (fun a i =>
    let c := 12 * m + i
    if 5 ≤ get 0 w.cellRun c then setBit a c true else a) 0

/-- Cells of monitor m that disagree in the present cycle (R146). -/
def disagreeing (w : Tow) (m : Nat) : Nat :=
  (List.range 12).foldl (fun a i =>
    let c := 12 * m + i
    if 1 ≤ get 0 w.cellRun c then setBit a c true else a) 0

/-- A cell or the monitor has become suspect (R148). The decision of Table 5.8 takes every cell of the monitor that
disagrees (R146), a suspect one or not. -/
def senseSuspicionEff (t m : Nat) (s : State) : State :=
  let w := s.tow t
  let cells := suspectCells w m
  let sums := decide (5 ≤ get 0 w.monRun m)
  if (cells ≠ 0 ∨ sums = true) ∧ !(w.suspicions.any fun x => x.m == m) then
    let all := if cells = 0 then monMask m else cells
    let cells := disagreeing w m
    let above := (List.range 192).foldl (fun a c =>
      if bit cells c ∧ get 0 w.plaus c < get 0 w.main c then setBit a c true else a) 0
    let x : Suspicion := {
      m := m, cells := all, apart := cells, above := above, sumOk := decide (absQ (get 0 w.dLast m) ≤ s.cfgF (0x3100 + t) 0x1A) }
    let s := s.updTow t (fun w => { w with suspicions := w.suspicions ++ [x] })
    let s := queueEnables t m s
    s.updTow t (fun w => { w with queue := .openTest (2 ^ m) :: w.queue })
  else s

/-! ### Open-wire test (R149 to R152) -/

/-- The scheduled test falls due (R149); slack water on the tray defers it (Table 5.9). -/
def openScheduledEff (t : Nat) (s : State) : State :=
  let w := s.tow t
  if w.ring ≠ .down ∧ w.cyc ≠ .idle ∧ w.cycleAt / ms % 10000 = 625 * t ∧ w.lastTest ≠ w.cycleAt then
    if (s.tray t).st = .slack then s.updTow t (fun w => { w with testDeferred := true })
    else s.updTow t (fun w => { w with
      queue := w.queue.filter (fun q => q ≠ .openTest (2 ^ s.nMon t - 1)) ++ [.openTest (2 ^ s.nMon t - 1)] })
  else s

/-- Lines of monitor m found open (R151). -/
def openLines (thr : Rat) (dv : Nat → Rat) : List Nat :=
  (List.range 13).filter fun j =>
    if j = 0 then decide (dv 0 < -thr)
    else if j = 12 then decide (dv 11 < -thr)
    else decide (thr < dv j) && decide (dv (j - 1) < -thr)

/-- Local cells set in a mask, ascending. -/
def localCells (m mask : Nat) : List Nat := (List.range 12).filter fun i => bit mask (12 * m + i)

/-- The decision of Table 5.8 on monitor m: its open lines, the cells disagreeing, their signs, the sum test. -/
def senseDecide (t m : Nat) (lines : List Nat) (cells : List Nat) (above : Nat → Bool) (sumOk suspicion : Bool)
    (s : State) : State :=
  let w := s.tow t
  let cell := fun (k : Nat) => 12 * m + k
  let idx := fun (k : Nat) => 192 * t + 12 * m + k
  let inner := lines.filter fun j => decide (1 ≤ j) && decide (j ≤ 11)
  let fresh := fun (j : Nat) => !w.lines.contains (13 * m + j)
  let pair := fun (k : Nat) => 2 ^ cell k ||| 2 ^ cell (k + 1)
  if inner ≠ [] then
    (inner.filter fresh).foldl (fun s j =>
      markSuspect t m (pair (j - 1)) [13 * m + j] (s.raise 0x0404 (idx (j - 1)))) s
  else if suspicion = false then s
  else
    match cells with
    | [k, k'] =>
      if k' = k + 1 ∧ above k ≠ above k' ∧ sumOk = true ∧ lines = [] then
        markSuspect t m (pair k) (if fresh k' then [512 + 13 * m + k'] else []) (s.raise 0x0405 (idx k))
      else s
    | [k] =>
      if sumOk = false ∧ ((k = 0 ∧ lines.contains 0) ∨ (k = 11 ∧ lines.contains 12)) then
        markSuspect t m (2 ^ cell k) [13 * m + (if k = 0 then 0 else 12)] (s.raise 0x0404 (idx k))
      else if lines ≠ [] then s
      else if sumOk = false then
        markSuspect t m (2 ^ cell k) [256 + cell k] (s.raise 0x0406 (idx k))
      else (s.updTow t (fun w => { w with checkLost := setBit w.checkLost (cell k) true })).raise 0x0407 (idx k)
    | [] =>
      if sumOk = false ∧ lines = [] then
        (s.updTow t (fun w => { w with checkLost := w.checkLost ||| monMask m })).raise 0x0408 (16 * t + m)
      else s
    | _ => monUnreadable t m (s.raise 0x0409 (16 * t + m))

/-- Evaluate one monitor of the test. -/
def evalMonitor (t : Nat) (x : OpenTest) (m : Nat) (s : State) : State :=
  let w := s.tow t
  if bit x.monitors m = false then s
  else
    let sus := w.suspicions.find? fun y => y.m == m
    if w.validMain &&& monMask m ≠ monMask m then
      (if sus ≠ none then s.updTow t (fun w => { w with queue := .openTest (2 ^ m) :: w.queue }) else s)
    else
      let dv := fun (i : Nat) => get 0 w.main (12 * m + i) - get 0 x.ref (12 * m + i)
      let lines := openLines (s.cfgF (0x3100 + t) 0x1B) dv
      let s := s.updTow t (fun w => { w with suspicions := w.suspicions.filter fun y => y.m != m })
      match sus with
      | some y =>
        queueEnables t m (senseDecide t m lines (localCells m y.apart) (fun i => bit y.above (12 * m + i)) y.sumOk true s)
      | none => senseDecide t m lines [] (fun _ => false) true false s

/-- OPEN_WIRE_EVALUATE's effect: the sweep of cycle N + 2 (R150 to R152). -/
def openEvaluateEff (t : Nat) (s : State) : State :=
  let w := s.tow t
  match w.test with
  | some x =>
    if w.cycle = x.cycle + 2 ∧ w.cyc ≠ .sweep ∧ w.cyc ≠ .recovery ∧ x.monitors ≠ 0 then
      let s := (List.range (s.nMon t)).foldl (fun a m => evalMonitor t x m a) s
      s.updTow t (fun w => { w with test := some { x with monitors := 0 } })
    else s
  | none => s

/-! ### Balancing (R157, R158) -/

/-- The cells that should bleed (R157). -/
def bleedWanted (s : State) (t : Nat) : Nat :=
  let w := s.tow t
  let x := s.estOf t
  let n := s.nMon t
  let cred := (x.cells.take (12 * n)).zipIdx.filter fun e => e.1.bal && !bit (w.suspect ||| w.unreadable) e.2
  match cred with
  | [] => 0
  | a :: rest =>
    if s.cfgU (0x3100 + t) 0x10 ≠ 1 ∨ (s.tray t).st = .slack then 0
    else
      let low := rest.foldl (fun v e => min v e.1.q) a.1.q
      let band := s.cfgF (0x3100 + t) 0x11
      let out := w.suspect ||| w.suspicious
      (List.range (12 * n)).foldl (fun acc c =>
        let d := (get EstCell.reset x.cells c).q - low
        let on := decide (band < d) || (bit w.bleeding c && decide (band / 2 ≤ d))
        if on ∧ !bit out c ∧ hopOf s t (c / 12) ≤ w.hN then setBit acc c true else acc) 0

/-- New bleeding masks; monitors whose mask changes are sent BALANCE, those beyond a break stop at their timeout
(R140, R157, R158). -/
def balanceStep (t : Nat) (s : State) : State :=
  let w := s.tow t
  let want := bleedWanted s t
  let timeout := s.cfgU (0x3100 + t) 0x12 * ms
  let next := (List.range 16).foldl (fun acc m =>
    let reach := decide (hopOf s t m ≤ w.hN)
    let old := w.bleeding &&& monMask m
    acc ||| (if reach then want &&& monMask m else if s.now < get 0 w.balAt m + timeout then old else 0)) 0
  let changed := (List.range (s.nMon t)).filter fun m =>
    decide (next &&& monMask m ≠ w.bleeding &&& monMask m) && decide (hopOf s t m ≤ w.hN)
  let s := bleedAccount t s
  s.updTow t (fun w => { w with
    bleeding := next
    queue := w.queue.filter (fun q => match q with
      | .balance m => !changed.contains m && decide (hopOf s t m ≤ w.hN)
      | _ => true) ++ changed.map TowCmd.balance })

/-- BALANCE_RESEND's effect (R158). -/
def balanceResendEff (t : Nat) (s : State) : State :=
  let w := s.tow t
  let due := (List.range (s.nMon t)).filter fun m =>
    decide (w.bleeding &&& monMask m ≠ 0) && decide (get 0 w.balAt m + 500 * ms ≤ s.now) &&
      decide (hopOf s t m ≤ w.hN) && !w.queue.contains (.balance m)
  s.updTow t (fun w => { w with queue := w.queue ++ due.map TowCmd.balance })

/-! ### The command window (R132, R134) -/

/-- The end and the hops, as that end counts, that reach north hops f to l. -/
def route (s : State) (t f l : Nat) : Option (Bool × Nat × Nat) :=
  let w := s.tow t
  let n := s.nMon t
  if l ≤ w.hN then some (false, f, l)
  else if n < f + w.hS then some (true, n + 1 - l, n + 1 - f)
  else none

/-- The weir test may be sent: tray in IDLE or FAULT, the line clear for 1 s if it ever was asserted (Table 5.9). -/
def weirTestAllowed (s : State) (t : Nat) : Bool :=
  let w := s.tow t
  !w.weir && (match w.weirFaultEnd with | some a => decide (a + sec ≤ s.now) | none => true) &&
    decide ((s.tray t).st = .idle ∨ (s.tray t).st = .fault)

/-- Line time of a queued command in ns, replies included; none while it cannot be sent. -/
def cmdTime (s : State) (t : Nat) (q : TowCmd) : Option Nat :=
  match q with
  | .config c => (route s t c.f c.l).map fun r => 14000 + 250 * r.2.2 + 4000 + (c.l - c.f) * 16000 + 15000
  | .balance m => (route s t (hopOf s t m) (hopOf s t m)).map fun r => 14000 + 250 * r.2.2
  | .openTest _ => some (11000 + 250 * s.nMon t)
  | .weirTest m =>
    if weirTestAllowed s t then
      (route s t (hopOf s t m) (hopOf s t m)).map fun r => 11000 + 250 * r.2.2 + 30000
    else none

/-- Send one queued command at `off` ns into the window. A BALANCE's duration is the bleed timeout in whole 10 ms, rounded
down (R158, log entry 69). -/
def cmdSend (t off : Nat) (q : TowCmd) (s : State) : State :=
  match q with
  | .config c =>
    match route s t c.f c.l with
    | some r => towSend t r.1 5 r.2.1 r.2.2 (le 1 c.reg ++ le 1 0 ++ le 2 c.val)
        (s.updTow t (fun w => { w with cfgSent := w.cfgSent ++ [c] }))
    | none => s
  | .balance m =>
    match route s t (hopOf s t m) (hopOf s t m) with
    | some r => towSend t r.1 3 r.2.1 r.2.2
        (le 2 ((s.tow t).bleeding / 2 ^ (12 * m) % 4096) ++ le 2 (s.cfgU (0x3100 + t) 0x12 / 10))
        (s.updTow t (fun w => { w with balAt := w.balAt.set m s.now }))
    | none => s
  | .openTest ms' =>
    let w := s.tow t
    let s := s.updTow t (fun w => { w with
      test := some { cycle := w.cycle, monitors := ms', ref := w.main, void := false }, lastTest := w.cycleAt })
    if ms' = 2 ^ s.nMon t - 1 then
      let s := if 0 < w.hN then towSend t false 4 1 w.hN (le 1 2) s else s
      if 0 < w.hS then towSend t true 4 1 w.hS (le 1 2) s else s
    else
      (List.range 16).foldl (fun s m => if bit ms' m then
        (match route s t (hopOf s t m) (hopOf s t m) with
         | some r => towSend t r.1 4 r.2.1 r.2.2 (le 1 2) s
         | none => s) else s) s
  | .weirTest m =>
    match route s t (hopOf s t m) (hopOf s t m) with
    | some r =>
      let x : WeirLive := { m := m, from_ := s.now + off, until_ := s.now + off + 11000 + 250 * r.2.2 + 30000 }
      towSend t r.1 8 r.2.1 r.2.2 (le 1 10) (s.updTow t (fun w => { w with weirRun := w.weirRun.map fun y =>
        { y with todo := y.todo.filter (· != m), live := y.live ++ [x] } }))
    | none => s

/-- An open-wire test is not sent while one runs, unless a ring break made that one void. -/
def testBusy (w : Tow) (q : TowCmd) : Bool :=
  match q, w.test with
  | .openTest _, some x => decide (w.cycle ≤ x.cycle + 3) && !x.void
  | _, _ => false

/-- Send from the queue while the window lasts; a command that must wait stays in its place. The first argument
bounds the commands looked at. -/
def windowSend (t : Nat) : Nat → Nat → List TowCmd → State → State
  | 0, _, rest, s => s.updTow t (fun w => { w with queue := w.queue ++ rest })
  | _ + 1, _, [], s => s
  | n + 1, off, q :: rest, s =>
    match if testBusy (s.tow t) q then none else cmdTime s t q with
    | none => windowSend t n off rest (s.updTow t (fun w => { w with queue := w.queue ++ [q] }))
    | some d =>
      if off + d ≤ 135000 then windowSend t n (off + d) rest (cmdSend t off q s)
      else s.updTow t (fun w => { w with queue := w.queue ++ q :: rest })

/-- The serial number of an ENUM reply. -/
def enumSerial (d : Bytes) : Nat := ofLe (slice d 2 6)

/-- The enumeration is judged (R128, R192), and the configuration of R132 queued. -/
def enumFinish (t : Nat) (s : State) : State :=
  let w := s.tow t
  let n := s.nMon t
  let bad := decide (w.enumReplies.length ≠ n) || w.enumReplies.any fun e => decide (u8At e.2 0 ≠ monAt s t e.1)
  let s := s.updTow t (fun w => { w with cyc := .compared, enumBad := bad })
  let s := if bad then
      if towQuiet s t then s
      else (List.range n).foldl (fun a m => monUnreadable t m a) (s.raise 0x040B t)
    else
      let serials := w.serials.mapIdx fun m v =>
        match w.enumReplies.find? fun e => decide (monAt s t e.1 = m) with | some e => enumSerial e.2 | none => v
      let diff := ((serials.zip w.serials).filter fun e => e.1 != e.2).length
      let s := s.updTow t (fun w => { w with serials := serials })
      if n < 2 * diff then newTray t s else s
  queueConfig t [1, 2, 3, 4, 5, 6, 7, 8, 9] true s

/-- Writes not answered in full are queued again, one hop each where a break parts them (R132). -/
def requeue (t : Nat) (s : State) : State :=
  let again := ((s.tow t).cfgSent.map fun c =>
    ((List.range (c.l + 1 - c.f)).filter fun i => !bit c.got (c.f + i)).map fun i =>
      TowCmd.config { c with f := c.f + i, l := c.f + i, got := 0 }).flatten
  s.updTow t (fun w => { w with cfgSent := [], queue := w.queue ++ again })

/-- A queued write in the pieces that one end reaches each (R132, R139). -/
def splitConfig (n hN hS : Nat) (q : TowCmd) : List TowCmd :=
  match q with
  | .config c =>
    let pieces := [(c.f, min c.l hN), (max c.f (hN + 1), min c.l (n - hS)), (max c.f (max hN (n - hS) + 1), c.l)]
    (pieces.filter fun p => decide (p.1 ≤ p.2)).map fun p => .config { c with f := p.1, l := p.2 }
  | q => [q]

/-- COMMAND_WINDOW's effect. -/
def commandWindowEff (t : Nat) (s : State) : State :=
  let w := s.tow t
  if (w.cyc = .compared ∨ w.cyc = .enum) ∧ w.cycleAt + 860000 ≤ s.now then
    let s := requeue t s
    let s := if w.cyc = .enum then enumFinish t s else s
    let s := if w.testDeferred ∧ (s.tray t).st ≠ .slack then
        s.updTow t (fun w => { w with testDeferred := false, queue := w.queue ++ [.openTest (2 ^ s.nMon t - 1)] }) else s
    let s := balanceStep t s
    let w := s.tow t
    let q := (w.queue.map (splitConfig (s.nMon t) w.hN w.hS)).flatten
    let s := windowSend t (q.length + 1) 0 q (s.updTow t (fun w => { w with queue := [] }))
    s.updTow t (fun w => { w with cyc := .idle })
  else s

/-! ### Unreadable cells (R155) -/

/-- A cell without a valid main reading for 10 cycles. -/
def cellUnreadableEff (t c : Nat) (s : State) : State :=
  let w := s.tow t
  let gone := fun (c : Nat) => decide (10 ≤ get 0 w.missRun c) && !bit w.unreadable c
  if gone c ∧ c < s.nCell t ∧ towQuiet s t = false then
    let m := c / 12
    if (List.range 12).all fun i => gone (12 * m + i) then markUnreadable t (monMask m) (16 * t + m) s
    else markUnreadable t (2 ^ c) (192 * t + c) s
  else s

/-! ### Weir lines (R141 to R145) -/

/-- A weir test of the run now on the line. -/
def liveTest (s : State) (t : Nat) : Option WeirLive :=
  match (s.tow t).weirRun with
  | some r => r.live.find? fun x => decide (x.from_ ≤ s.now) && decide (s.now ≤ x.until_)
  | none => none

/-- The run of weir tests has ended: command 1 is open or refused; auto-insert follows (R145). -/
def weirRunEnd (t : Nat) (s : State) : State :=
  match (s.tow t).weirRun with
  | some r =>
    if r.todo = [] ∧ r.live = [] then
      let s := s.updTow t (fun w => { w with weirRun := none, weirBlocked := r.failed })
      if r.failed = false ∧ (s.tray t).autoPending ∧ insertAllowed s t then
        enterCheck t (s.updTray t (fun x => { x with autoPending := false }))
      else s
    else s
  | none => s

/-- What a weir trip does to the tray (R143, R567, Table 4.6). -/
def weirTray (t : Nat) (s : State) : State :=
  let x := s.tray t
  let s := match x.st with
    | .idle | .absent | .pulled => s
    | _ => s.updTray t (fun x => { x with weirFault := true })
  match x.st with
  | .check =>
    trayOpenFault t 0x0401 (abandonCheck t s)
  | .precharge | .closing => trayOpenFault t 0x0401 (interruptDrain t 0x0401 s)
  | .admitting | .online | .drain | .slack =>
    let was := s.inSet t
    let s := interruptDrain t 0x0401 s
    let s := if was then leavesSet t s else slackOver t s
    let s := { s with alloc := { s.alloc with set := s.alloc.set.set t false } }
    if was then
      (testOver t s).updTray t (fun x => { x with
        st := .opening, since := s.now, openSince := none, openAtZero := true, cause := 0x0401, ramp := none
        leftAt := none })
    else trayOpenFault t 0x0401 s
  | .opening => trayOpenFault t (if x.cause = 0 then 0x0401 else x.cause) (interruptDrain t 0x0401 s)
  | _ => s

/-- WEIR_ASSERTED's effect (R143, R145). An assertion caused by WEIR_TEST snubs no phase (log entry 69). -/
def weirAssertedEff (t : Nat) (s : State) : State :=
  let w := s.tow t
  if w.weir then s
  else
    let test := (liveTest s t).isSome
    let s' := s.updTow t (fun w => { w with weir := true, weirSince := s.now, weirByTest := test })
    match liveTest s t with
    | some x =>
      weirRunEnd t (s'.updTow t (fun w => { w with weirRun := w.weirRun.map fun r =>
        { r with live := r.live.filter (· != x) } }))
    | none =>
      let s' := snubTray t s'
      if towQuiet s t then s' else weirTray t (s'.raise 0x0401 t)

/-- WEIR_LINE_CLEARED's effect (R143). -/
def weirClearedEff (t : Nat) (s : State) : State :=
  if (s.tow t).weir then
    startDrives t (s.updTow t (fun w => { w with
      weir := false, weirSince := s.now, weirFaultEnd := if w.weirByTest then w.weirFaultEnd else some s.now }))
  else s

/-- WEIR_TEST_TIMEOUT's effect (R145). -/
def weirTestTimeoutEff (t : Nat) (s : State) : State :=
  match (s.tow t).weirRun with
  | some r =>
    let late := r.live.filter fun x => decide (x.until_ < s.now)
    if late = [] then s
    else
      let s := s.updTow t (fun w => { w with
        weirRun := some { r with live := r.live.filter (fun x => !late.contains x), failed := true }, weirBlocked := true })
      weirRunEnd t (if towQuiet s t then s else s.raise 0x040D t)
  | none => s

/-! ### Commands of [3100+t.23] -/

/-- [3100+t.02] has been written (R128, R132): the north end reaches the ring's hops as far as a break lets it. -/
def ringLength (t : Nat) (s : State) : State :=
  let n := s.nMon t
  s.updTow t (fun w =>
    if w.ring = .broken ∨ w.ring = .unreachable then { w with hN := min w.hN n, hS := min w.hS (n - min w.hN n) }
    else { w with hN := n, hS := 0 })

/-- Command 1 (R149). -/
def openNowEff (ses t : Nat) (s : State) : State :=
  if (s.tow t).ring = .down then s.violate ses (0x3100 + t) 0x23
  else s.updTow t (fun w => { w with queue := w.queue ++ [.openTest (2 ^ s.nMon t - 1)] })

/-- Command 2: tray not in the set (R128). -/
def reenumerateEff (ses t : Nat) (s : State) : State :=
  if (s.tow t).ring = .down ∨ s.inSet t then s.violate ses (0x3100 + t) 0x23
  else s.updTow t (fun w => { w with enumDue := true, cfgDone := false })

/-- Command 3: tray in IDLE, FAULT or ABSENT (R156). -/
def clearMarksEff (ses t : Nat) (s : State) : State :=
  let st := (s.tray t).st
  if st = .idle ∨ st = .fault ∨ st = .absent then
    let s := s.updTow t (fun w => { w with
      suspect := 0, checkLost := 0, unreadable := 0, lines := [], cellRun := List.replicate 192 0
      monRun := List.replicate 16 0, missRun := List.replicate 192 0 })
    let s := derate t s
    if (s.tow t).ring = .down then s else queueConfig t [5, 6] false s
  else s.violate ses (0x3100 + t) 0x23

/-- Command 4: tray in IDLE or FAULT (R145). -/
def weirTestCmdEff (ses t : Nat) (s : State) : State :=
  let st := (s.tray t).st
  if (st = .idle ∨ st = .fault) ∧ (s.tow t).ring ≠ .down then
    let l := List.range (s.nMon t)
    s.updTow t (fun w => { w with
      weirRun := some { todo := l, live := [], failed := false, entry := (w.weirRun.map (·.entry)).getD false }
      queue := w.queue.filter (fun q => match q with | .weirTest _ => false | _ => true) ++ l.map TowCmd.weirTest })
  else s.violate ses (0x3100 + t) 0x23

/-! ### Meanings -/

/-- TOWPATH_CYCLE (R134). -/
def execTowpathCycle (southMissed : Nat) (s : State) : Host.Outcome State Fault Refusal :=
  run true s (towpathCycleEff southMissed)

/-- TOWPATH_REPLY (R131). -/
def execTowpathReply (t : Nat) (frame : Bytes) (s : State) : Host.Outcome State Fault Refusal :=
  run (decide (t < Config.trays)) s (towReplyEff t frame)

/-- TOWPATH_PLAUS_SEND (R134). -/
def execTowpathPlausSend (t : Nat) (s : State) : Host.Outcome State Fault Refusal :=
  run (decide (t < Config.trays)) s (plausSendEff t)

/-- PLAUS_COMPARISON (R146). -/
def execPlausComparison (t : Nat) (s : State) : Host.Outcome State Fault Refusal :=
  run (decide (t < Config.trays)) s (plausComparisonEff t)

/-- COMMAND_WINDOW (R134). -/
def execCommandWindow (t : Nat) (s : State) : Host.Outcome State Fault Refusal :=
  run (decide (t < Config.trays)) s (commandWindowEff t)

/-- SOUTH_RECOVERY_SWEEP (R136). -/
def execSouthRecoverySweep (t : Nat) (s : State) : Host.Outcome State Fault Refusal :=
  run (decide (t < Config.trays)) s (southRecoveryEff t)

/-- BREAK_CLASSIFY (R137). -/
def execBreakClassify (t : Nat) (s : State) : Host.Outcome State Fault Refusal :=
  run (decide (t < Config.trays)) s (breakClassifyEff t)

/-- RING_WHOLE (R139). -/
def execRingWhole (t : Nat) (s : State) : Host.Outcome State Fault Refusal :=
  run (decide (t < Config.trays)) s (ringWholeEff t)

/-- SENSE_SUSPICION (R148). -/
def execSenseSuspicion (t m : Nat) (s : State) : Host.Outcome State Fault Refusal :=
  run (decide (t < Config.trays) && decide (m < Config.monitors)) s (senseSuspicionEff t m)

/-- OPEN_WIRE_SCHEDULED (R149). -/
def execOpenWireScheduled (t : Nat) (s : State) : Host.Outcome State Fault Refusal :=
  run (decide (t < Config.trays)) s (openScheduledEff t)

/-- OPEN_WIRE_EVALUATE (R151). -/
def execOpenWireEvaluate (t : Nat) (s : State) : Host.Outcome State Fault Refusal :=
  run (decide (t < Config.trays)) s (openEvaluateEff t)

/-- CELL_UNREADABLE (R155). -/
def execCellUnreadable (t c : Nat) (s : State) : Host.Outcome State Fault Refusal :=
  run (decide (t < Config.trays) && decide (c < Config.cells)) s (cellUnreadableEff t c)

/-- WEIR_ASSERTED (R143). -/
def execWeirAsserted (t : Nat) (s : State) : Host.Outcome State Fault Refusal :=
  run (decide (t < Config.trays)) s (weirAssertedEff t)

/-- OPEN_WIRE_TEST_NOW (R149). -/
def execOpenWireTestNow (ses t : Nat) (s : State) : Host.Outcome State Fault Refusal :=
  runTray 0x3100 0x23 ses t s (openNowEff ses t)

/-- TOW_REENUMERATE (R128). -/
def execTowReenumerate (ses t : Nat) (s : State) : Host.Outcome State Fault Refusal :=
  runTray 0x3100 0x23 ses t s (reenumerateEff ses t)

/-- CLEAR_MARKS (R156). -/
def execClearMarks (ses t : Nat) (s : State) : Host.Outcome State Fault Refusal :=
  runTray 0x3100 0x23 ses t s (clearMarksEff ses t)

/-- WEIR_TEST_CMD (R145). -/
def execWeirTestCmd (ses t : Nat) (s : State) : Host.Outcome State Fault Refusal :=
  runTray 0x3100 0x23 ses t s (weirTestCmdEff ses t)

/-- WEIR_TEST_TIMEOUT (R145). -/
def execWeirTestTimeout (t : Nat) (s : State) : Host.Outcome State Fault Refusal :=
  run (decide (t < Config.trays)) s (weirTestTimeoutEff t)

/-- BALANCE_RESEND (R158). -/
def execBalanceResend (t : Nat) (s : State) : Host.Outcome State Fault Refusal :=
  run (decide (t < Config.trays)) s (balanceResendEff t)

/-- WEIR_LINE_CLEARED (R143). -/
def execWeirLineCleared (t : Nat) (s : State) : Host.Outcome State Fault Refusal :=
  run (decide (t < Config.trays)) s (weirClearedEff t)

end Sys2Proof.Machine
end

