-- ==== Sys2Proof/Machine/ReadPower.lean ====
section
/-! DEFINITION. What the RO objects of chapters 02 to 05 and 09 read as. A reading is the object's bytes; a scalar is
cut to the size of its type. Whole units elapsed are counted down, units remaining up; a rational published as an
integer is rounded to the nearest, ties to even (log entry 53). -/

namespace Sys2Proof.Machine

/-- A number. -/
def rN (n : Nat) : Option Bytes := some (le 8 n)

/-- A signed number. -/
def rI (x : Int) : Option Bytes := some (le 8 (unsigned 64 x))

/-- An F32. -/
def rF (x : Rat) : Option Bytes := some (le 4 (f32Bits x))

/-- A counter U32. -/
def rC (n : Nat) : Option Bytes := some (le 4 (sat32 n))

/-- U16 values of a list, in units of 1 ÷ scale. -/
def u16s (scale : Rat) (l : List Rat) : Bytes := l.flatMap fun x => le 2 (clampI 0 65535 (roundEven (x * scale))).toNat

/-- I8 values. -/
def i8s (l : List Int) : Bytes := l.flatMap fun x => le 1 (unsigned 8 x)

/-- RO objects of [2000]. -/
def readLoop (s : State) (sub : Nat) : Option Bytes :=
  let l := s.loop
  match sub with
  | 0x01 => rN (codeIn loopStates l.st)
  | 0x06 => rF l.vRef
  | 0x07 => rF l.vBus
  | 0x08 => rF l.iSt
  | 0x09 => rF l.disLim
  | 0x0A => rF l.chgLim
  | 0x0B => rF l.integ
  | 0x0C => rF l.ff
  | 0x0D => rF l.slopeUsed
  | 0x0E => rI l.sat
  | 0x22 => rN l.nValid
  | 0x23 => rN (maskOf l.excluded)
  | 0x24 => rC l.stops
  | 0x25 => rC l.stale
  | 0x26 => rC l.delayLast
  | 0x27 => rC l.delayHigh
  | 0x28 => rN l.satFlags
  | _ => none

/-- RO objects of one phase, [2100+t.10+8p] on. -/
def readPhase (x : Phase) (k : Nat) : Option Bytes :=
  match k with
  | 0 => rN (codeIn phaseStates x.st)
  | 2 => rF x.i
  | 3 => rF x.r
  | 4 => rF x.d
  | 5 => rF x.b
  | 6 => rN x.flags
  | _ => none

/-- RO objects of [2100+t]. -/
def readTrayPhases (s : State) (t sub : Nat) : Option Bytes :=
  let mask := fun (f : PhSt → Bool) => maskOf ((s.phs t).map fun x => f x.st)
  match sub with
  | 0x00 => rN (0x0F + 8 * s.nPh t)
  | 0x01 => rN (mask fun st => st != .off && st != .fault)
  | 0x02 => rN (mask PhSt.active)
  | 0x0E => rF (s.tp t).capacity
  | 0x0F => rN (min 65535 (roundEven (((s.edge.lockUntil - s.now : Nat) : Rat) / ms)).toNat)
  | _ => if sub < 0x10 then none else readPhase (s.ph t ((sub - 0x10) / 8)) ((sub - 0x10) % 8)

/-- RO objects of [2200]. -/
def readEdge (s : State) (sub : Nat) : Option Bytes :=
  let e := s.edge
  match sub with
  | 0x02 => rF (if s.cfgU 0x2200 0x01 = 0 then 0 else 500000 / (s.cfgU 0x2200 0x01 : Rat))
  | 0x05 => rC e.late
  | 0x06 => rC e.latePeriods
  | 0x0B => rC e.clamps
  | 0x13 => rN (maskOf (s.links.map (·.up)) + 65536 * maskOf (s.links.map fun l => l.up && l.oneLane))
  | 0x14 => rC e.frameErrors
  | 0x15 => some (le 16 (maskOf ((List.range 128).map fun j => phaseLevel (s.ph (j / 8) (j % 8)))))
  | _ => none

/-- RO objects of [3000+t]. -/
def readTray (s : State) (t sub : Nat) : Option Bytes :=
  let x := s.tray t
  match sub with
  | 0x01 => rN (codeIn trayStates x.st)
  | 0x04 => rN (b2n x.pin)
  | 0x05 => rN (let on := fun (b : Bool) => b2n (s.joined b == .high)
    let d := s.drivenTray t
    on d.kN + 2 * on d.kPre + 4 * on d.kP + 8 * on d.trayEn)
  | 0x06 => rF x.vStr
  | 0x07 => rF (s.link t).vLink
  | 0x08 => rF x.iBus
  | 0x09 => rF x.weight
  | 0x0B => rF x.a
  | 0x0C => rF x.q
  | 0x0D => rF x.lD
  | 0x0E => rF x.lC
  | 0x1C => rC ((s.now - x.since) / ms)
  | 0x1D => rN (b2n x.safe)
  | 0x1E => rN x.slackEnd
  | 0x1F => rC (x.drainTxn % carried)
  | _ => none

/-- RO objects of [3010]. -/
def readAlloc (s : State) (sub : Nat) : Option Bytes :=
  let a := s.alloc
  match sub with
  | 0x01 => rN (maskOf a.set)
  | 0x02 => rF a.disLim
  | 0x03 => rF a.chgLim
  | 0x04 => rF a.held
  | 0x0B => rN (a.slackTray.getD 0xFF)
  | 0x0C => rC a.shortfall
  | _ => none

/-- RO objects of [3100+t]. -/
def readTow (s : State) (t sub : Nat) : Option Bytes :=
  let w := s.tow t
  match sub with
  | 0x01 => rN (codeIn ringStates w.ring)
  | 0x03 => rN w.brk
  | 0x04 => rN w.unreach
  | 0x06 => some (le 24 w.suspect)
  | 0x07 => some (le 24 w.checkLost)
  | 0x08 => some (u16s 1000 w.main)
  | 0x09 => some (le 24 w.endFlags)
  | 0x0A => some (u16s 1000 w.plaus)
  | 0x0B => some (u16s 1000 w.total)
  | 0x0C => some ((List.range 16).flatMap fun m =>
      le 2 (unsigned 16 (clampI (-32768) 32767 (roundEven (bOf w m * 1000)))))
  | 0x0D => some (i8s w.temps)
  | 0x0E => rN w.sampleN
  | 0x0F => rN w.sampleS
  | 0x13 => some (le 24 w.bleeding)
  | 0x1E => rN (b2n w.weir)
  | 0x1F => rN w.weirSrc
  | 0x20 => rC w.replyErrors
  | 0x21 => rC w.recoveries
  | 0x22 => rN w.lastTest
  | _ => none

/-- RO objects of [3400]. -/
def readFeed (s : State) (sub : Nat) : Option Bytes :=
  let f := s.feed
  match sub with
  | 0x03 => rN (codeIn groupStates (s.groupSt 0))
  | 0x04 => rN (codeIn groupStates (s.groupSt 1))
  | 0x0D => rF f.pRef
  | 0x0E => rF f.pTgt
  | 0x0F => rF f.pSoc
  | 0x10 => rF f.pFd
  | 0x11 => rF f.iRect
  | 0x12 => rN (min 65535 (get 0 f.aux 0) + 65536 * min 65535 (get 0 f.aux 1))
  | 0x13 => rC f.overrides
  | _ => none

/-- RO objects of [3500+r]. -/
def readRect (s : State) (r sub : Nat) : Option Bytes :=
  let x := s.rect r
  match sub with
  | 0x01 => rN x.code
  | 0x02 => rF x.cmd
  | 0x03 => rF x.iOut
  | 0x04 => rF x.avail
  | 0x05 => rN x.flags
  | 0x06 => rF x.vIn
  | 0x07 => rN x.statusAt
  | _ => none

end Sys2Proof.Machine
end

