-- ==== Sys2Proof/Machine/ReadTime.lean ====
section
/-! DEFINITION. What the RO objects of chapters 06 to 08 and 13 read as. -/

namespace Sys2Proof.Machine

/-- Flags of a cell [3200+t.10]. -/
def cellFlags (w : Tow) (c : Nat) (y : EstCell) : Nat :=
  b2n y.cred + 2 * b2n (bit w.suspect c) + 4 * b2n (bit w.unreadable c) + 8 * b2n y.fromV + 16 * b2n (y.bal && !bit (w.suspect ||| w.unreadable) c)

/-- SoH_R of cell c (R181). -/
def healthR (x : Est) (seed : Nat) (c : Nat) : Rat :=
  if seed = 0 then 1 else ((impEntry x (48 * c + 21)).rs : Rat) / (seed : Rat)

/-- RO objects of [3200+t]. -/
def readEst (s : State) (t sub : Nat) : Option Bytes :=
  let x := s.estOf t
  let n := s.nCell t
  let cells := x.cells.take n
  let seed := (seedsOf s t).1
  match sub with
  | 0x01 => rN (b2n x.slow)
  | 0x02 => rF x.soc
  | 0x03 => rF (meanQ (cells.map (·.q)))
  | 0x04 => rF (meanQ (cells.map (·.sv)))
  | 0x05 => rF x.bound
  | 0x06 => rN (b2n x.credNow)
  | 0x07 => rF x.sp
  | 0x08 => rF x.eU
  | 0x09 => rF x.eD
  | 0x0A => rF x.eC
  | 0x0B => rC ((s.now - x.restFrom) / sec)
  | 0x0C => rN (x.lastRest.getD 0)
  | 0x0D => some (u16s 65536 (x.cells.map (·.q)))
  | 0x0E => some (u16s 65536 (x.cells.map (·.sv)))
  | 0x0F => some (u16s 65536 (x.cells.map (·.uq)))
  | 0x10 => some ((x.cells.mapIdx fun c y => le 1 (cellFlags (s.tow t) c y)).flatten)
  | 0x11 => some (u16s 100 (x.cells.map (·.cap)))
  | 0x12 => rF (if x.started then lowestHealth s t x else 1)
  | 0x13 => rF (((List.range n).map (healthR x seed)).foldl max 0)
  | 0x14 => rF x.efc
  | 0x15 => rC x.deep
  | 0x27 => rC x.discarded
  | _ => none

/-- RO objects of [3210]. -/
def readShelfEst (s : State) (sub : Nat) : Option Bytes :=
  match sub with
  | 0x01 => rF s.shelfEu
  | 0x02 => rF s.shelfSoc
  | 0x03 => rF s.shelfEh
  | 0x04 =>
    match s.shelfTrays with
    | [] => rF 0
    | t :: rest => rF ((rest.map fun u => (s.estOf u).sp).foldl min (s.estOf t).sp)
  | 0x05 => rN (maskOf (s.est.map (·.noRest)))
  | _ => none

/-- An entry of the impedance table as its 8 bytes (Table 6.2). -/
def impBytes (now : Nat) (e : ImpEntry) : Bytes :=
  let age := match e.at_ with
    | some a => (((now : Int) - a) / 86400000000000).toNat
    | none => 0
  le 2 e.rs ++ le 2 e.rp ++ le 2 e.tau ++ le 1 (min 255 e.count) ++ le 1 (min 255 age)

/-- RO objects and the block of [3300+t]. -/
def readImp (s : State) (ses t sub : Nat) : Option Bytes :=
  let x := s.estOf t
  let all := 48 * s.nCell t
  let first := s.win ses (0x3300 + t) 0x03
  match sub with
  | 0x01 => rN all
  | 0x04 => some ((List.range (min 1024 (all - first))).flatMap fun i => impBytes s.now (impEntry x (first + i)))
  | 0x07 => rC x.qualified
  | 0x08 => rC x.rejected
  | 0x09 => rN x.lastMerge
  | 0x0A => rC x.writeTxn
  | 0x0F => rF x.fit.1
  | 0x10 => rF x.fit.2.1
  | 0x11 => rF (x.fit.2.2 * 1000)
  | _ => none

/-- RO objects of [4000]. -/
def readTide (s : State) (sub : Nat) : Option Bytes :=
  let x := s.tide
  match sub with
  | 0x01 => rN (codeIn tideStates x.st)
  | 0x03 => rN x.active
  | 0x04 => rN x.staged
  | 0x0D => rF x.gate
  | 0x0E => rF x.rho
  | 0x0F => rF x.rhoStaged
  | 0x11 => rF x.lastSlope
  | 0x12 => some (x.horizon.flatMap fun v => le 2 (unsigned 16 v))
  | 0x13 => some (x.predicted.flatMap fun v => le 2 (unsigned 16 v))
  | 0x14 => rN x.evals
  | 0x15 => rC x.carried
  | 0x16 => rC x.saturated
  | 0x17 => rC x.clamps
  | 0x18 => rN (min 65535 x.evalLast)
  | 0x19 => rN (min 65535 x.evalHigh)
  | 0x1B => rF ((x.il.head?.map (·.2)).getD 0)
  | 0x1C => rC x.met
  | 0x1D => rC x.missed
  | 0x1E => rC x.early
  | 0x1F => rC x.unannounced
  | _ => none

/-- RO objects of [4100]. -/
def readSched (s : State) (sub : Nat) : Option Bytes :=
  let x := s.tide
  match sub with
  | 0x05 => rN x.entries.length
  | 0x06 => rC x.accepted
  | 0x07 => some (x.bias.flatMap fun b => le 4 (unsigned 32 (roundEven b)))
  | 0x0A => rC x.rejected
  | 0x0C => rC (maskOf ((x.suspended.take 32).map (·.isSome)))
  | _ => none

/-- A grant as its 16 bytes (Table 8.2). -/
def Grant.bytes (g : Grant) : Bytes :=
  le 2 g.chip ++ le 2 (g.epoch % 65536) ++ le 4 g.cap ++ le 1 g.point ++ le 1 g.part ++ le 1 g.cls ++ le 1 g.flags ++
    le 4 0

/-- RO objects of [5000]. -/
def readGov (s : State) (sub : Nat) : Option Bytes :=
  let g := s.gov
  let chips := (List.range Config.chips).map s.chip
  match sub with
  | 0x01 => rN (codeIn govStates' g.st)
  | 0x03 => rN g.epoch
  | 0x04 => rF g.pCap
  | 0x05 => rF g.bGov
  | 0x06 => rF g.pUng
  | 0x0C => rF g.trim
  | 0x17 => some (chips.flatMap fun c => le 1 (codeIn chipStates c.st))
  | 0x18 => some ((List.range Config.chips).flatMap fun c =>
      match g.grants.find? fun e => e.chip == c with
      | some e => e.bytes
      | none => List.replicate 16 0)
  | 0x19 => some (chips.flatMap fun c => padTo 112 c.slot)
  | 0x1A => rN g.accepted
  | 0x1B => rC g.stray
  | 0x1C => rC g.dropped
  | 0x1D => rN ((g.chips.filter fun e => e.2.st == .admitted).length)
  | 0x1E => rF g.fHi
  | 0x1F => rF g.pPk
  | 0x20 => rN g.energy
  | 0x21 => some (chips.flatMap fun c => le 4 (clampI 0 4294967295 (roundEven c.slack)).toNat)
  | _ => none

/-- RO objects of [5100+k]. -/
def readPart (s : State) (k sub : Nat) : Option Bytes :=
  let p := s.part k
  match sub with
  | 0x05 => rN p.point
  | 0x06 => rF p.fMean
  | 0x07 => rF p.budget
  | 0x0B => rF p.kappa
  | 0x0F => rN p.flight
  | 0x10 => rN (if s.gov.gateBase = 0 then 0 else s.gov.gateBase + 2 * k)
  | 0x11 => rC p.spread
  | 0x12 => rC p.closed
  | 0x13 => rC p.timedOut
  | 0x14 => rN p.raised
  | 0x15 => rN p.lowered
  | 0x16 => rN p.energy
  | _ => none

/-- RO objects and the block of [5800]. -/
def readOpWin (s : State) (ses sub : Nat) : Option Bytes :=
  let first := s.win ses 0x5800 0x03
  match sub with
  | 0x04 => some ((List.range (min 1024 (131072 - first))).flatMap fun i =>
      le 8 (Store.get 0 s.gov.points (first + i)))
  | 0x05 => rC s.gov.writeTxn
  | 0x06 => rN ((s.gov.chips.filter fun e =>
      match e.2.st with
      | .ready | .admitted | .silent => true
      | _ => false).length)
  | _ => none

/-- RO objects of [0010]. -/
def readClock (s : State) (sub : Nat) : Option Bytes :=
  let x := s.clk
  match sub with
  | 0x01 => rN (codeIn clockStates x.st)
  | 0x02 => rN s.now
  | 0x03 => rI x.theta
  | 0x04 => rF x.freq
  | 0x05 => rI x.off
  | 0x06 => rC (if x.st = .holdover then (s.now - x.freeAt) / ms else 0)
  | 0x07 => rC (s.errBound.getD 0xFFFFFFFF)
  | 0x0C => rF x.crystalDev
  | 0x0D => rN x.pllLock
  | 0x0F => rC x.steps
  | 0x10 => rN (b2n x.ever)
  | _ => none

/-- Bytes of records written in the last second (R385). -/
def State.recordBytesPerSecond (s : State) : Nat :=
  sumN ((s.cap.tally.filter fun e => decide (s.now < e.1 + 1000 * ms)).map (·.2))

/-- The waveform region's frames from a shelf time on, oldest first, none where it is no longer held (R381). The first
list is what lies after the frames still searched, newest first; of a time that a step backward made twice, the later
frame counts (log entry 69). -/
def framesFrom (at_ : Nat) : List (Nat × Bytes) → List (Nat × Bytes) → List (Nat × Bytes)
  | _, [] => []
  | after, e :: older =>
    let past := match after.head? with
      | some f => decide (e.1 < at_ ∧ at_ ≤ f.1)
      | none => false
    if e.1 = at_ then e :: after else if past then after else framesFrom at_ (e :: after) older

/-- Whether the waveform region holds the frames from a shelf time on. -/
def State.frameHeld (s : State) (at_ : Nat) : Bool := !(framesFrom at_ [] s.cap.frames).isEmpty

/-- Up to 7 frames from a shelf time on. -/
def State.frameBlock (s : State) (at_ : Nat) : Bytes := ((framesFrom at_ [] s.cap.frames).take 7).flatMap (·.2)

/-- Whether the record region holds the bytes from a position on. -/
def State.recordHeld (s : State) (at_ : Nat) : Bool :=
  match s.cap.records.getLast? with
  | some old => decide (old.pos ≤ at_) && decide (at_ < s.cap.recPos)
  | none => false

/-- Up to 8,192 bytes of records from a position on. -/
def State.recordBlock (s : State) (at_ : Nat) : Bytes :=
  if s.recordHeld at_ then
    (((s.cap.records.takeWhile fun r => decide (at_ < r.pos + r.bytes.length)).reverse.flatMap fun r =>
      r.bytes.drop (at_ - r.pos)).take 8192)
  else []

/-- RO objects and the blocks of [2300]. -/
def readCapture (s : State) (ses sub : Nat) : Option Bytes :=
  let x := s.cap
  match sub with
  | 0x01 => rN (codeIn captureStates x.st)
  | 0x07 => rN x.trigAt
  | 0x08 => rN x.trigCode
  | 0x09 => rC (s.cfgU 0x2300 0x03 * 1048576 / 1088 / 1000)
  | 0x0A => rC (if s.recordBytesPerSecond = 0 then 0 else s.cfgU 0x2300 0x04 * 1048576 * 1000 / s.recordBytesPerSecond)
  | 0x0B => rN ((x.frames.getLast?.map (·.1)).getD 0)
  | 0x0D => some (s.frameBlock (s.win ses 0x2300 0x0C))
  | 0x0F => some (s.recordBlock (s.win ses 0x2300 0x0E))
  | 0x10 => rC x.dropped
  | 0x11 => rF ((s.recordBytesPerSecond : Rat) / 1000000)
  | 0x12 => rC x.ignored
  | _ => none

end Sys2Proof.Machine
end

