-- ==== Sys2Proof/Machine/ReadGrid.lean ====
section
/-! DEFINITION. What the RO objects of chapters 10 to 12 read as. -/

namespace Sys2Proof.Machine

/-- Capability id of a core's owner, 0 the user region (Table 10.9). -/
def State.coreOwner (s : State) (c : Nat) : Nat :=
  if s.userCores.contains c then 0
  else if c ≤ 6 then 1
  else if c = 7 then 3
  else if c ≤ 23 then 2
  else if c ≤ 31 then 5
  else if c ≤ 47 then 6
  else if c ≤ 51 then 7
  else if c = 52 then 8
  else 9

/-- State of a core [6000.06]. A firmware core is idle until its slot has fired. -/
def State.coreState (s : State) (c : Nat) : Nat :=
  if s.grid.failed.contains c then 3 else
    match s.slotAt c with
    | some n => b2n (decide ((s.slot n).st = .bound))
    | none =>
      if s.dockCores.contains c then 1 else
        match s.fwHolder c with
        | some n => if s.grid.restarting.contains n then 2 else b2n (decide (0 < (s.slot n).firings))
        | none => 0

/-- RO objects of [6000]. -/
def readGrid (s : State) (sub : Nat) : Option Bytes :=
  let g := s.grid
  match sub with
  | 0x04 => some ((List.range Config.cores).flatMap fun c => le 1 (s.coreOwner c))
  | 0x05 => rN (sumN (s.userCores.map (2 ^ ·)))
  | 0x06 => some ((List.range Config.cores).flatMap fun c => le 1 (s.coreState c))
  | 0x07 => rN g.sent
  | 0x08 => rN g.retries
  | 0x0B => rN g.voids
  | 0x0D => rC g.overruns
  | 0x0E => rC g.discarded
  | 0x0F => rN g.corrected
  | 0x10 => rC g.uncorrected
  | 0x11 => rN g.lastBad
  | 0x13 => rC g.restarts
  | _ => none

/-- RO objects and the block of [6800]. -/
def readGates (s : State) (ses sub : Nat) : Option Bytes :=
  let x := s.gates
  let first := s.win ses 0x6800 0x03
  match sub with
  | 0x04 => some ((List.range (min 1024 (65536 - first))).flatMap fun i =>
      (s.gate (first + i)).bytes (min 255 (x.waits.filter fun w => w.g == first + i).length))
  | 0x07 => rN (get 0 x.lastBase ses)
  | 0x09 => rC (sumN (x.free.map (·.2)))
  | 0x0A => rC ((x.free.map (·.2)).foldl max 0)
  | 0x0B => rC x.refused
  | 0x0C => rC x.excess
  | 0x0D => rN x.drains
  | 0x0E => rN (min 65535 x.waits.length)
  | _ => none

/-- RO objects and the blocks of [6900]. -/
def readEvents (s : State) (ses sub : Nat) : Option Bytes :=
  let x := s.ev
  let first := s.win ses 0x6900 0x02
  match sub with
  | 0x03 => some ((List.range (1024 - first)).flatMap fun i => le 4 (s.srcWord (first + i)))
  | 0x04 => some (le 128 (maskOf ((List.range 1024).map s.sourceLevel)))
  | 0x05 => rN x.delivered
  | 0x06 => rC x.coalesced
  | 0x07 => rC x.maskWin
  | 0x08 => rC x.routesCleared
  | 0x0A => rC x.refusals
  | _ => none

/-- Capability id of a slot's owner (R345, Table 12.1). -/
def slotOwner (n : Nat) : Nat :=
  if n = 0 then 1 else if n = 1 then 3 else if n ≤ 17 then 2 else if n = 18 then 5 else if n = 19 then 7
  else if n = 20 then 8 else if n ≤ 23 then 9 else 0

/-- Stages of a slot. -/
def State.stageCount (s : State) (n : Nat) : Nat :=
  if freeSlot n then (s.slot n).program.stages.length else fwStages n

/-- Saturation flags of a firmware slot's stages [6100+n.0E]. -/
def State.fwSatFlags (s : State) (n : Nat) : Nat :=
  if n = 0 then s.loop.satFlags / 2 % 128 else if n = 1 then b2n s.alloc.sat else 0

/-- RO objects and blocks of [6100+n]. -/
def readSlot (s : State) (n sub : Nat) : Option Bytes :=
  let x := s.slot n
  let p := x.program
  let stages := (x.rt.map (·.stages)).getD []
  let some_ := decide (x.blocks ≠ [])
  match sub with
  | 0x01 => rN (codeIn slotStates x.st)
  | 0x03 => rN (slotOwner n)
  | 0x06 => rC (if freeSlot n then (if some_ then p.length else 0) else Config.fwHeader n 0x06)
  | 0x07 => rC (if freeSlot n then (if some_ then p.crc else 0) else Config.fwHeader n 0x07)
  | 0x08 => rC x.txn
  | 0x09 => rN (if freeSlot n then (x.rt.map (·.first)).getD 0xFF else fwFirst n)
  | 0x0A =>
    if freeSlot n then rN (if some_ then p.width % 256 + 256 * (p.height % 256) else 0)
    else match fwRect n with
      | some r => rN (r.1 + 256 * r.2)
      | none => rN 0
  | 0x0B => rN (if freeSlot n && !some_ then 0 else s.stageCount n)
  | 0x0E => rN (if freeSlot n then maskOf (stages.map (·.sat)) else s.fwSatFlags n)
  | 0x0F => rN x.voids
  | 0x10 => rN x.firings
  | 0x11 =>
    if freeSlot n then some (stages.flatMap fun r => le 8 r.digest)
    else some ((List.range (fwStages n)).flatMap fun k => le 8 (get 0 x.digests k))
  | 0x12 => some (x.results.flatMap (·.2))
  | 0x13 => rN x.cause
  | _ => none

/-- RO objects and the block of [6A00]. -/
def readDock (s : State) (sub : Nat) : Option Bytes :=
  let d := s.dock
  match sub with
  | 0x01 => rN (codeIn dockStates d.st)
  | 0x0A => rN d.replayed
  | 0x0B => rC d.divPeriod
  | 0x0C => rN d.divStage
  | 0x0D => rN d.expected
  | 0x0E => rN d.got
  | 0x0F => rN d.kind
  | 0x10 => some d.output
  | 0x11 => rN (sumN (d.cores.map (2 ^ ·)))
  | _ => none

end Sys2Proof.Machine
end

