-- ==== Sys2Proof/Machine/ReadModule.lean ====
section
/-! DEFINITION. What the RO objects of chapters 14 to 20 read as. -/

namespace Sys2Proof.Machine

/-- RO objects of [1000]. -/
def readPort (s : State) (sub : Nat) : Option Bytes :=
  let p := s.port
  match sub with
  | 0x02 => rN p.link
  | 0x0B => rN p.framesIn
  | 0x0C => rC p.parseDrops
  | 0x0D => rC p.crcFails
  | 0x0E => rN p.sent
  | 0x0F => rC p.linkUps
  | _ => none

/-- Session n's state. -/
def State.session (s : State) (n : Nat) : Session := get Session.reset s.sess n

/-- RO objects of [1100+n]. -/
def readSession (s : State) (n sub : Nat) : Option Bytes :=
  let x := s.session n
  match sub with
  | 0x08 => rC (x.lastSeq.getD 0)
  | 0x09 => rC x.viol
  | 0x0A => rC x.violObj
  | 0x0B => rN x.framesIn
  | 0x0C => rN x.framesOut
  | 0x0D => rN (maskOf ((List.range 16).map fun i => x.streams.any fun y => y.i == i))
  | 0x0E => rC x.stale
  | _ => none

/-- RO objects of [1200]. -/
def readPtp (s : State) (sub : Nat) : Option Bytes :=
  match sub with
  | 0x0D => rN s.clk.slaveState
  | 0x0E => rN s.clk.masterState
  | 0x0F => rC s.clk.pathDelay
  | 0x10 => rN s.clk.gmIdentity
  | _ => none

/-- RO objects of [1300]. -/
def readFlow (s : State) (sub : Nat) : Option Bytes :=
  let p := s.port
  match sub with
  | 0x06 => rC s.basin
  | 0x07 => rC p.highest
  | 0x08 => rC p.pfcSent
  | 0x09 => rN (p.paused + (if p.pauseSince.isSome then s.now - p.countFrom else 0))
  | 0x0A => some (p.pfcGot.flatMap fun n => le 4 (sat32 n))
  | 0x0B => rC p.keeperDrops
  | _ => none

/-- The capability list of the K16: id, first and last index, flags (Table 15.5). -/
def capList : List (Nat × Nat × Nat × Nat) :=
  [(0x00, 0x0000, 0x0001, 0), (0x00, 0x0100, 0x0124, 0), (0x00, 0x7000, 0x7000, 0), (0x00, 0x7100, 0x7100, 0),
   (0x01, 0x2000, 0x2000, 0), (0x02, 0x2100, 0x210F, 1), (0x02, 0x2200, 0x2200, 0), (0x03, 0x3000, 0x300F, 1),
   (0x03, 0x3010, 0x3010, 0), (0x04, 0x3100, 0x310F, 1), (0x05, 0x3200, 0x320F, 1), (0x05, 0x3210, 0x3210, 0)] ++
  [(0x05, 0x3300, 0x330F, 1), (0x06, 0x4000, 0x4000, 0), (0x06, 0x4100, 0x4100, 0), (0x07, 0x5000, 0x5000, 0),
   (0x07, 0x5100, 0x513F, 1), (0x07, 0x5800, 0x5800, 0), (0x08, 0x3400, 0x3400, 0), (0x08, 0x3500, 0x352F, 1),
   (0x09, 0x6000, 0x6000, 0), (0x09, 0x6100, 0x613F, 1), (0x0A, 0x6800, 0x6800, 0), (0x0A, 0x6900, 0x6900, 0)] ++
  [(0x0B, 0x8000, 0x8000, 0), (0x0B, 0x8100, 0x8100, 0), (0x0C, 0x7200, 0x7200, 2), (0x0D, 0x9000, 0x9FFF, 0),
   (0x0E, 0xA000, 0xA000, 2), (0x0F, 0x6A00, 0x6A00, 0), (0x10, 0x2300, 0x2300, 0), (0x11, 0x0010, 0x0010, 0),
   (0x11, 0x1200, 0x1200, 0), (0x12, 0x1000, 0x1000, 0), (0x12, 0x1100, 0x111F, 1), (0x12, 0x1300, 0x1300, 0)]

/-- An index lies in the range of some capability entry. -/
def inCapability (index : Nat) : Bool := capList.any fun e => decide (e.2.1 ≤ index) && decide (index ≤ e.2.2.1)

/-- RO objects of capability entry i, from 1 (Table 15.4). -/
def readCap (i sub : Nat) : Option Bytes :=
  let e := capList.getD (i - 1) (0, 0, 0, 0)
  match sub with
  | 0x01 => rN e.1
  | 0x02 => rN 0x0100
  | 0x03 => rN e.2.1
  | 0x04 => rN e.2.2.1
  | 0x05 => rN e.2.2.2
  | _ => none

/-- RO objects of [0000]. -/
def readIdent (s : State) (sub : Nat) : Option Bytes :=
  match sub with
  | 0x01 => some (padTo 16 [0x41, 0x4B, 0x31, 0x36, 0x2D, 0x43, 0x4D])
  | 0x04 => rC s.sec.image.version
  | 0x06 => some s.deviceId
  | 0x07 => rN s.sec.image.dict
  | _ => none

/-- RO objects of [0001]. -/
def readModule (s : State) (sub : Nat) : Option Bytes :=
  match sub with
  | 0x01 => rN s.roleCode
  | 0x03 => rN s.od.opSeconds
  | 0x04 => rC s.od.powerCycles
  | 0x05 => rN s.od.resetCause
  | 0x06 => rN (min 65535 s.od.stores.length)
  | 0x07 => rC s.od.storeFails
  | 0x08 => rN (b2n s.od.restoreMark)
  | _ => none

/-- The record a session names in [7100.03]; of two with one id, the module's own (log entry 47). -/
def State.txnNamed (s : State) (ses : Nat) : Option Txn :=
  let id := s.win ses 0x7100 0x03
  (s.txnById id).or (s.txnById (carried + id))

/-- RO objects of [7100]. -/
def readTxns (s : State) (ses sub : Nat) : Option Bytes :=
  match sub with
  | 0x01 => rN s.txn.recs.length
  | 0x02 => rC (get 0 s.txn.lastBy ses)
  | 0x04 => some ((s.txnNamed ses).elim [] Txn.record)
  | 0x05 => some ((s.txnNamed ses).elim [] fun r => le 512 r.done)
  | 0x06 => rN s.openTxns
  | 0x07 => rC s.txn.highest
  | _ => none

/-- A queued raise as [7000.06] holds it. -/
def Raise.queued (r : Raise) : Bytes := le 2 r.code ++ le 1 (severity r.code) ++ le 1 0 ++ le 2 r.inst ++ le 2 r.ctx

/-- RO objects of [7000]. -/
def readFaults (s : State) (sub : Nat) : Option Bytes :=
  let f := s.fm
  match sub with
  | 0x01 => rN ((f.running.map (·.code)).getD 0)
  | 0x02 => rN ((f.running.map fun r => severity r.code).getD 0)
  | 0x03 => rN ((f.running.map (·.inst)).getD 0)
  | 0x04 => rN f.stack.length
  | 0x05 => rN f.queue.length
  | 0x06 => some (f.queue.flatMap Raise.queued)
  | 0x07 => rC f.discards
  | 0x08 => rN f.active.length
  | 0x09 => some (f.active.flatMap Active.bytes)
  | 0x0A => rN f.raised
  | 0x0B => some (f.bySev.flatMap fun n => le 4 (sat32 n))
  | 0x0C => rN (b2n f.faultOut)
  | 0x0D => rN f.faultOutCause
  | 0x0E => rC f.overruns
  | 0x10 => rC f.coalesced
  | 0x11 => rC f.refusals
  | _ => none

/-- RO objects of [7200], the record block apart. -/
def readRecorder (s : State) (sub : Nat) : Option Bytes :=
  let r := s.rcd
  match sub with
  | 0x02 => rC s.heldRecords.length
  | 0x03 => rC (r.nextSeq - 1)
  | 0x04 => rC ((s.heldRecords.head?.map fun b => u32At b 0).getD 0)
  | 0x07 => some s.latestRecords
  | 0x0A => rC r.suppressed
  | 0x0B => rC r.lost
  | 0x0C => rC r.reclaimed
  | 0x0D => rC r.clearMark
  | 0x0E => rN r.lastClear
  | _ => none

/-- RO objects of [8000]. -/
def readPair (s : State) (sub : Nat) : Option Bytes :=
  let x := s.pair
  match sub with
  | 0x01 => rN x.role.code
  | 0x03 => rN x.position
  | 0x04 => rN x.link
  | 0x05 => rN x.partnerRole
  | 0x06 => rC x.partnerVer
  | 0x07 => some x.partnerId
  | 0x08 => rN x.sent
  | 0x09 => rN x.committed
  | 0x0A => rC x.missed
  | 0x0B => rC x.lastNo
  | 0x0C => rC (if x.lastNo = 0 then 0 else (s.now - x.lastAt) / 1000)
  | 0x0D => rC x.takeovers
  | 0x0E => rN x.takeCause
  | 0x0F => rN x.takeAt
  | 0x10 => rC x.gap
  | 0x12 => rN x.selfTestAt
  | _ => none

/-- RO objects of [8100]. -/
def readManifest (s : State) (sub : Nat) : Option Bytes :=
  match sub with
  | 0x01 => rN s.sec.image.layout
  | 0x03 => some (layoutBlock s.pair.layout)
  | 0x05 => rN (layoutCost s.pair.layout)
  | 0x06 => rN (26624 - layoutCost s.pair.layout)
  | 0x07 => rC s.pair.layoutTxn
  | _ => none

/-- Entries of the calibration set with a property. -/
def State.calCount (s : State) (p : CalEntry → Bool) : Nat :=
  ((List.range Config.calEntries).filter fun e => p (s.calEntry e)).length

/-- RO objects and the set block of [9000]. -/
def readCal (s : State) (sub : Nat) : Option Bytes :=
  let c := s.cal
  match sub with
  | 0x04 => rN (s.calCount fun x => x.src == 0)
  | 0x05 => rN (s.calCount (·.locked))
  | 0x08 => rC c.liveWrites
  | 0x09 => rC c.rejected
  | 0x0A => some s.calBlock
  | 0x0B => rC c.lastTxn
  | 0x0C => rN c.lastWrite
  | 0x0D => rN c.lastStore
  | 0x0E => rC (crc32c s.calBlock)
  | _ => none

/-- Values of entries k to k + n − 1 of tray t. -/
def State.calBits (s : State) (t k n : Nat) : Bytes :=
  (List.range n).flatMap fun i => le 4 (s.calEntry (68 * t + k + i)).bits

/-- Objects of [9100+t]. -/
def readCalTray (s : State) (t sub : Nat) : Option Bytes :=
  match sub with
  | 0x01 => some (s.calBits t 0 8)
  | 0x02 => some (s.calBits t 8 8)
  | 0x03 => some ((List.range 68).flatMap fun k => le 1 (s.calEntry (68 * t + k)).flags)
  | 0x04 => some (s.calBits t 16 1)
  | 0x05 => some (s.calBits t 17 1)
  | 0x06 => some (s.calBits t 18 1)
  | 0x07 => some (s.calBits t 19 1)
  | 0x08 => some (s.calBits t 20 16)
  | 0x09 => some (s.calBits t 36 16)
  | 0x0A => some (s.calBits t 52 16)
  | _ => none

/-- RO and SEC objects of [A000]. -/
def readSec (s : State) (sub : Nat) : Option Bytes :=
  let x := s.sec
  match sub with
  | 0x01 => rN (b2n (decide (s.hw.phase = .loader)))
  | 0x03 => some x.idKey
  | 0x04 => rC x.image.secVersion
  | 0x05 => rC x.minVer
  | 0x06 => rN (x.programmed % 16 + 16 * (x.revoked % 16))
  | 0x07 => some x.log.flatten
  | 0x08 => rN x.log.length
  | 0x09 => some x.agg
  | 0x0A => some x.rootKey
  | 0x0B => rN x.counter
  | 0x0C => rN x.lastResult
  | 0x0D => rC x.applied
  | 0x0E => rC x.refused
  | 0x11 => rN x.stagedSt
  | 0x12 => rC x.stagedVer
  | 0x15 => rC x.signed
  | 0x16 => rC x.quoteDrops
  | _ => none

end Sys2Proof.Machine
end

