-- ==== Sys2Proof/Machine/Operands.lean ====
section
/-! DEFINITION. Object operands: which objects exist, what a read of one gives and when a read is a violation
(R412 to R421), and which values a write may give one (R413 to R416, the Meaning columns). -/

namespace Sys2Proof.Machine

/-! ### Presence (R412) -/

/-- An index holds an object table. -/
def indexPresent (index : Nat) : Bool :=
  decide (index = 0x0100) ||
    objGroups.any fun g => decide (g.first ≤ index) && decide (index < g.first + g.count)

/-- The row of an object; [0100.00] is the entry count of the capability list. -/
def objectOf (index sub : Nat) : Option ObjRow :=
  if index = 0x0100 then (if sub = 0 then some ⟨0, 1, 1, .u8, .ro, 1, 36, none⟩ else none) else objRow index sub

/-- Objects of a phase that the tray does not have ([2100+t.00]: 0Fh + 8 × the tray's phases). -/
def State.phaseAbsent (s : State) (index sub : Nat) : Bool :=
  decide (0x2100 ≤ index) && decide (index ≤ 0x210F) && decide (0x0F + 8 * s.nPh (index - 0x2100) < sub)

/-- The row of an object that is present. -/
def State.objectAt (s : State) (index sub : Nat) : Option ObjRow :=
  if s.phaseAbsent index sub then none else objectOf index sub

/-- A window or position object: one value for each session (R420, R494). -/
def windowed (index sub : Nat) : Bool :=
  (index == 0x2300 && (sub == 0x0C || sub == 0x0E)) ||
  (decide (0x3300 ≤ index) && decide (index ≤ 0x330F) && sub == 0x03) ||
  (index == 0x5800 && sub == 0x03) ||
  (decide (0x6100 ≤ index) && decide (index ≤ 0x613F) && sub == 0x04) ||
  (index == 0x6800 && sub == 0x03) || (index == 0x6900 && sub == 0x02) || (index == 0x6A00 && sub == 0x08) ||
  (index == 0x7100 && sub == 0x03) || (index == 0x7200 && sub == 0x05)

/-! ### Reading -/

/-- What an object with a source of its own reads as; none: a stored value or a constant of its table. -/
def State.reading? (s : State) (ses index sub : Nat) : Option Bytes :=
  let hi := index / 256
  let lo := index % 256
  match hi with
  | 0x00 => if lo = 0 then readIdent s sub else if lo = 1 then readModule s sub else if lo = 0x10 then readClock s sub else none
  | 0x01 => if 1 ≤ lo ∧ lo ≤ 36 then readCap lo sub else none
  | 0x10 => readPort s sub
  | 0x11 => readSession s lo sub
  | 0x12 => readPtp s sub
  | 0x13 => readFlow s sub
  | 0x20 => readLoop s sub
  | 0x21 => readTrayPhases s lo sub
  | 0x22 => readEdge s sub
  | 0x23 => readCapture s ses sub
  | 0x30 => if lo < 16 then readTray s lo sub else readAlloc s sub
  | 0x31 => readTow s lo sub
  | 0x32 => if lo < 16 then readEst s lo sub else readShelfEst s sub
  | 0x33 => readImp s ses lo sub
  | 0x34 => readFeed s sub
  | 0x35 => readRect s lo sub
  | 0x40 => readTide s sub
  | 0x41 => readSched s sub
  | 0x50 => readGov s sub
  | 0x51 => readPart s lo sub
  | 0x58 => readOpWin s ses sub
  | 0x60 => readGrid s sub
  | 0x61 => readSlot s lo sub
  | 0x68 => readGates s ses sub
  | 0x69 => readEvents s ses sub
  | 0x6A => readDock s sub
  | 0x70 => readFaults s sub
  | 0x71 => readTxns s ses sub
  | 0x72 => readRecorder s sub
  | 0x80 => readPair s sub
  | 0x81 => readManifest s sub
  | 0x90 => readCal s sub
  | 0x91 => readCalTray s lo sub
  | 0xA0 => readSec s sub
  | _ => none

/-- The bytes of an object for a session: the present value, else zeros (R419). -/
def State.objBytes (s : State) (ses index sub : Nat) (r : ObjRow) : Bytes :=
  let v := if windowed index sub then some (le r.len (s.win ses index sub)) else s.reading? ses index sub
  let n := if r.len = 0 then (v.getD []).length else r.len
  padTo n (v.getD (le r.len (if index = 0x0100 then r.dflt else s.cfgU index sub)))

/-- Width in bits of a scalar type; 0 of STR and BLOB. -/
def OType.bits : OType → Nat
  | .u8 | .i8 => 8
  | .u16 | .i16 => 16
  | .u32 | .i32 | .f32 => 32
  | .u64 | .i64 | .time => 64
  | .str | .blob => 0

/-- The type is signed. -/
def OType.signed : OType → Bool
  | .i8 | .i16 | .i32 | .i64 => true
  | _ => false

/-- A scalar as the 8 bytes of a READ or WRITE value (R393). -/
def wideValue (t : OType) (raw : Nat) : Nat :=
  if t.signed then unsigned 64 (Sys2Proof.Machine.signed t.bits raw) else raw % 2 ^ t.bits

/-- A block read that finds nothing held is a violation (Table 15.10, R381). -/
def State.notHeld (s : State) (ses index sub : Nat) : Bool :=
  (index == 0x7100 && (sub == 0x04 || sub == 0x05) && (s.txnNamed ses).isNone) ||
  (index == 0x2300 && sub == 0x0D && !s.frameHeld (s.win ses 0x2300 0x0C)) ||
  (index == 0x2300 && sub == 0x0F && !s.recordHeld (s.win ses 0x2300 0x0E))

/-- One word of a READ: its value, and whether it is a violation (R393, R412, R416 to R419). -/
def State.readWord (s : State) (ses index sub : Nat) : Nat × Bool :=
  match s.objectAt index sub with
  | none => (0, !(sub == 0 && inCapability index))
  | some r =>
    if r.acc = .wo ∨ r.typ.bits = 0 then (0, true)
    else (wideValue r.typ (ofLe (s.objBytes ses index sub r)), false)

/-- The bytes of a READ_BLOCK, its length within the frame's limit, and whether it is a violation (R394, R418). -/
def State.readBlock (s : State) (ses index sub offset length : Nat) : Bytes × Bool :=
  match s.objectAt index sub with
  | none => (List.replicate length 0, !(sub == 0 && inCapability index))
  | some r =>
    if r.acc = .wo then (List.replicate length 0, true)
    else (padTo length (slice (s.objBytes ses index sub r) offset length), s.notHeld ses index sub)

/-! ### Writing (R413 to R416) -/

/-- The type's encoding admits an 8-byte value (R413, Table 15.1). -/
def OType.fits (t : OType) (v : Nat) : Bool :=
  match t with
  | .str | .blob => false
  | .f32 => decide (v < 4294967296) && f32Finite v
  | _ => if t.signed then v == unsigned 64 (Sys2Proof.Machine.signed t.bits v) else decide (v < 2 ^ t.bits)

/-- The number a value stands for. -/
def OType.number (t : OType) (v : Nat) : Rat :=
  match t with
  | .f32 => f32Val v
  | _ => if t.signed then (Sys2Proof.Machine.signed t.bits v : Rat) else (v : Rat)

/-- Constraints of the Meaning column that name another object or are no interval; x is the number, v the bits. A bound
computed from another F32 object is rounded to binary32 (log entry 9). -/
def State.rangeExtra (s : State) (index sub : Nat) (x : Rat) (v : Nat) : Bool :=
  let lo := index % 256
  match index / 256, sub with
  | 0x20, 0x03 => decide (x ≤ toF32 (s.cfgF 0x2000 0x21 - 20))
  | 0x20, 0x21 => decide (toF32 (s.cfgF 0x2000 0x03 + 20) ≤ x)
  | 0x20, 0x29 => decide (v < 16) || v == 0xFF
  | 0x21, 0x06 => decide (toF32 (s.cfgF (0x2100 + lo) 0x05 + 1 / 10) ≤ x)
  | 0x22, 0x0A => decide (toF32 (s.cfgF 0x2200 0x09 * (6 / 5)) ≤ x)
  | 0x22, 0x11 => decide (x ≤ toF32 (s.cfgF 0x2200 0x12 - 1 / 20))
  | 0x22, 0x12 => decide (toF32 (s.cfgF 0x2200 0x11 + 1 / 20) ≤ x)
  | 0x23, 0x03 => decide (v + s.cfgU 0x2300 0x04 ≤ 12288)
  | 0x23, 0x04 => decide (v + s.cfgU 0x2300 0x03 ≤ 12288)
  | 0x31, 0x17 => decide (s.cfgF (0x3100 + lo) 0x15 ≤ x)
  | 0x31, 0x18 => decide (x ≤ s.cfgF (0x3100 + lo) 0x14)
  | 0x32, 0x21 => decide (s.cfgF (0x3100 + lo) 0x15 ≤ x)
  | 0x32, 0x22 => decide (x ≤ s.cfgF (0x3100 + lo) 0x14)
  | 0x34, 0x08 => decide (s.cfgF 0x3400 0x06 ≤ x)
  | 0x40, 0x08 => decide (x ≤ s.cfgF 0x4000 0x07)
  | 0x40, 0x0B => decide (toF32 (s.cfgF 0x4000 0x0A + 1 / 20) ≤ x)
  | 0x50, 0x09 => decide (toF32 (s.cfgF 0x5000 0x08 + 1 / 10) ≤ x)
  | 0x50, 0x0F => decide (s.cfgF 0x5000 0x0E ≤ x)
  | 0x50, 0x11 => decide (10 ≤ v % 65536) && decide (v % 65536 ≤ 3600) && decide (v / 65536 ≤ 60)
  | 0x51, 0x02 => decide (s.cfgU (0x5100 + lo) 0x01 ≤ v)
  | 0x51, 0x03 => v == 0 || v == 1 || v == 0xFF
  | 0x51, 0x0A => decide (s.cfgF (0x5100 + lo) 0x08 ≤ x)
  | 0x6A, 0x04 => decide (v < 64) || v == 0xFF
  | 0x10, 0x01 => decide (v < 3)
  | 0x10, 0x0A => v == 1500 || v == 9000
  | 0x10, 0x12 => decide (v % 256 ≤ 32) && decide (v / 256 ≤ 128)
  | 0x13, 0x04 => decide (v + 524288 ≤ s.cfgU 0x1300 0x03)
  | _, _ => true

/-- A value is in range: type, interval and constraints (R413, R416). -/
def State.inRange (s : State) (index sub : Nat) (r : ObjRow) (v : Nat) : Bool :=
  r.typ.fits v && s.rangeExtra index sub (r.typ.number v) v &&
    match r.rng with
    | some b => decide (b.1 ≤ r.typ.number v) && decide (r.typ.number v ≤ b.2)
    | none => true

/-- The owner of an RWL object is idle (Table 15.3). -/
def State.ownerIdle (s : State) (index : Nat) : Bool :=
  let t := index % 256
  match index / 256 with
  | 0x20 => decide (s.loop.st = .off)
  | 0x21 => (s.phs t).all fun x => decide (x.st = .off) || decide (x.st = .shed) || decide (x.st = .fault)
  | 0x22 => s.stepAllowed
  | 0x23 => decide (s.cap.st = .off)
  | 0x31 => decide ((s.tray t).st = .absent) || decide ((s.tray t).st = .idle) || decide ((s.tray t).st = .fault)
  | 0x40 => decide (s.tide.st = .off)
  | 0x61 => decide ((s.slot t).st ≠ .bound)
  | _ => true

/-- The values a whole block object may take: the 17 points of an OCV table rise strictly (R169). -/
def blobInRange (index sub : Nat) (b : Bytes) : Bool :=
  if 0x3200 ≤ index ∧ index ≤ 0x320F ∧ sub = 0x16 then
    (List.range 16).all fun i => decide (u16At b (2 * i) < u16At b (2 * i + 2))
  else true

end Sys2Proof.Machine
end

