-- ==== Sys2Proof/Machine/Takeover.lean ====
section
/-! DEFINITION. Takeover and the handover drill (R476 to R482). -/

namespace Sys2Proof.Machine

/-! ### Steps of R476 -/

/-- Trays, phases, marks and estimator of the shelf from the manifest. -/
def loadShelf (m : Bytes) (s : State) : State :=
  let ts := List.range Config.trays
  let tray := fun t => loadTray s.now (s.tow t).weir (s.cfgU (0x3000 + t) 0x19 * ms) (slice m (192 + 64 * t) 64) (s.tray t)
  let linked := fun t => (s.link t).up
  let phs := fun t => (List.range (s.nPh t)).map fun p =>
    loadPhase (linked t) (slice m (1216 + 8 * (8 * t + p)) 8) (s.ph t p)
  let tow := fun t =>
    let b := slice m (2496 + 72 * t) 72
    { s.tow t with
      lines := linesOf (ofLe (slice b 0 24))
      suspect := ofLe (slice b 0 24), checkLost := ofLe (slice b 24 24), unreadable := ofLe (slice b 48 24) }
  let slackTray := ts.find? fun t => u8At m (192 + 64 * t + 52) != 0
  let held := fun t => f32At m (192 + 64 * t + 48)
  let lock := u8At m 1219
  { s with
    trays := ts.map tray, phases := ts.map phs, tows := ts.map tow
    est := s.est.zipIdx.map fun (e : Est × Nat) => loadEst m e.2 (s.cfgF (0x3200 + e.2) 0x25) e.1
    links := ts.map fun t => if linked t then s.link t else { s.link t with held := held t }
    alloc := { s.alloc with slackTray := slackTray }
    edge := { s.edge with lockUntil := if lock = 0 then 0 else s.now + 100000 * lock } }

/-- Shelf time: the partner's servo state and O, no step (Table 13.2, R372). -/
def loadClock (m : Bytes) (s : State) : State :=
  if s.clk.st ≠ .following then s else
    let st := clockStates.getD (u32At m 132) .local_
    let locked := decide (st = .locked)
    let c := { s.clk with
      st := st, freq := f32At m 128, off := i64At m 136, bound := s.partnerBound, freeAt := s.now
      ever := s.clk.ever || locked, crystalBad := s.clk.crystalBad && !locked
      lastMeas := s.now, good := 0, bad := 0 }
    let s := { s with clk := c }
    when_ locked (forTrays estLocked) s

/-- Feeds: P_ref, states, ceilings and the commands in force. -/
def loadFeeds (m : Bytes) (s : State) : State :=
  let f := s.feed
  let grp := fun g (x : Group) => { x with
    st := groupStates.getD (u8At m (2244 + g)) .disabled, since := s.now, ceiling := f32At m (2248 + 4 * g), back := none }
  let rec_ := fun r (x : Rect) =>
    let c : Rat := (u16At m (2256 + 2 * r) : Rat) / 100
    { x with cmd := c, base := c, baseAt := s.now, slope := 0, until_ := s.now }
  let s := { s with feed := { f with
    pRef := f32At m 2240, override := u8At m 2246 == 1, groups := f.groups.mapIdx grp, rects := f.rects.mapIdx rec_ } }
  { s with feed := { s.feed with both := s.bothAbsent } }

/-- The gate of a partition's current flight is mirrored. -/
def flightMirrored (m : Bytes) (s : State) (k : Nat) : Bool :=
  (manEntry m 0x0A ((s.flightGate k (s.part k).flight - 2048) / 64)).isSome

/-- The governor after a takeover is in BLIND, with no chip heard and no slack (R257). -/
def blindGovernor (g : Gov) : Gov :=
  { g with
    st := .blind, cutAt := none
    chips := g.chips.map fun (e : Nat × Chip) => (e.1, { e.2 with reported := false, gone := false, slack := 0, flights := 0 }) }

/-- Without a manifest its flights and κ start empty too (R257). -/
def emptyGovernor (s : State) : State :=
  let g := blindGovernor s.gov
  let s := { s with gov := { g with parts := g.parts.map fun p => { p with kappa := 1 } } }
  (List.range Config.partitions).foldl (fun s k =>
    let n := (s.part k).flight
    if (s.part k).cls = 0xFF ∨ s.gov.gateBase = 0 then s
    else armFlight k ((n + 1) % 65536) (armFlight k n s)) s

/-- The governor: partitions, BLIND; an open flight not mirrored closes by time, the timeout running from the takeover,
and its gates are armed from flight n + 1 (R257, Table 17.8). -/
def loadGovernor (m : Bytes) (s : State) : State :=
  let g := blindGovernor s.gov
  let s := { s with gov := { g with
    epoch := u32At m 4928, bGov := f32At m 4936, trim := f32At m 4940
    parts := g.parts.mapIdx fun k p => loadPart (slice m (3904 + 16 * k) 16) p } }
  (List.range Config.partitions).foldl (fun s k =>
    let n := (s.part k).flight
    if (s.part k).cls = 0xFF ∨ s.gov.gateBase = 0 then s
    else if flightMirrored m s k then
      (s.updFlight k n (fun _ => Flight.reset n)).updFlight k ((n + 1) % 65536) (fun _ => Flight.reset ((n + 1) % 65536))
    else
      let open_ : Flight := { Flight.reset n with byTime := true, openAt := some s.now }
      armFlight k ((n + 1) % 65536) (s.updFlight k n (fun _ => open_))) s

/-- State that the manifest did not carry is as Table 17.8 has it: no schedule, no streams, an empty queue and stack
(Table 16.8); a drain whose record did
not come has none. -/
def clearRebuilt (m : Bytes) (s : State) : State :=
  { s with
    tide := { s.tide with entries := [], past := [], bias := List.replicate 33 0, history := List.replicate 33 [] }
    fm := { s.fm with active := [], queue := [], stack := [], running := none, reserved := none, discarded := none }
    sess := s.sess.map fun x => { x with streams := [], transfer := none, verify := none }
    trays := if (manEntry m 0x09 0).isSome then s.trays else s.trays.map fun x => { x with drainTxn := 0 } }

/-- Step 2: the firmware part and the user entries. -/
def loadManifest (m : Bytes) (s : State) : State :=
  let s := clearRebuilt m (loadGovernor m (loadFeeds m (loadClock m (loadShelf m s))))
  let s := { s with loop := { s.loop with excluded := bitsOf 16 (u16At m 66) } }
  let s := (layoutOffsets 6144 (manLayout m)).foldl (fun s (e : Nat × Nat × Nat) =>
    loadEntry e.1 e.2.1 (slice m e.2.2 (entryCost e.1)) s) s
  s.updPair fun x => { x with layout := manLayout m, next := none, layoutNo := 0 }

/-- The forecaster starts in WARMING (Table 7.8), with its mirrored gate. -/
def warmForecaster (s : State) : State :=
  let g := s.tide.gate
  let s := tideWarm s
  { s with tide := { s.tide with gate := g } }

/-- A run of dry dock ends without a result (Table 12.13). -/
def stopDock (s : State) : State :=
  match s.dock.st with
  | .placing | .running => { s with dock := { Dock.reset with st := .stopped, reference := s.dock.reference } }
  | _ => s

/-- A tray of the shelf just taken: a ring not yet followed is enumerated, without the weir tests of an entry from
ABSENT; an asserted weir line acts (R143). -/
def takeTray (t : Nat) (s : State) : State :=
  let s := if (s.tray t).st ≠ .absent ∧ (s.tow t).ring = .down then
    (towStart t s).updTow t (fun w => { w with queue := [], weirRun := none }) else s
  if (s.tow t).weir then weirTray t s else s

/-- Steps 3 to 5: the loop in SOFT, integrators preset on every linked tray, COMMAND frames. -/
def startDriving (s : State) : State :=
  let s := { s with alloc := { s.alloc with set := (List.range Config.trays).map (setMember s) } }
  let s := loopLeaveOff .soft s
  let s := forTrays (fun t s =>
    if (s.link t).up then
      (s.updTp t (fun y => { y with x := 0, blend := 16, mismatch := 0, testRef := none, ident := none })).updPhs t
        (fun x => { x with r := x.i, held := x.i, b := 0, cmd := none })
    else s) s
  sendCommand 1 false (sendCommand 0 false (readModes s))

/-- An image still being received is lost; a marked one waits (Table 20.7). -/
def loseStaging (s : State) : State :=
  if s.sec.stagedSt = 1 then { s with sec := { s.sec with stagedSt := 0, staged := [], stagedVer := 0 } } else s

/-- TAKEOVER: R476 is carried out, once, in TAKING. -/
def takeoverEff (s : State) : State :=
  if s.pair.role ≠ .taking ∨ s.pair.loaded = true then s else
    let m := s.pair.manifest
    let s := if m = [] then clearRebuilt [] (emptyGovernor s) else loadManifest m s
    let s := if s.clk.st = .following then
      { s with clk := { s.clk with st := .local_, bound := none, freeAt := s.now } } else s
    let s := forTrays takeTray (stopDock (warmForecaster s))
    let s := loseStaging (startDriving (s.updPair fun x => { x with loaded := true }))
    (claimShelf (capMarker 4 s)).raise 0x0B03 noInst

/-- TAKEOVER_COMPLETE: EDGE has gone to every linked tray. The gap is measured by means the spec does not state: a free
value. -/
def takeoverDoneEff (s : State) : State :=
  let all := (List.range Config.trays).all fun t => !(s.link t).up || s.pair.edged.contains t
  if s.pair.role = .taking ∧ s.pair.loaded = true ∧ all = true then
    let s := becomeActive s
    { s with
      freeCount := s.freeCount + 1
      pair := { s.pair with gap := Config.freeNat s.freeCount % 4294967296, missRun := 0, ackRun := 0 } }
  else s

/-! ### The drill (R481) -/

/-- The conditions of R481. -/
def drillReady (s : State) : Bool :=
  let idle := s.trays.all fun x => match x.st with
    | .check | .precharge | .closing | .admitting | .drain | .opening => false
    | _ => true
  let feeds := s.feed.groups.all fun g => !(decide (g.st = .dip) || decide (g.st = .returning))
  decide (s.loop.st = .run) && s.pair.partnerRole == 2 && decide (10 ≤ s.pair.ackRun) &&
    decide (s.pair.number ≤ s.pair.acked + 1) && idle && feeds && !s.stepForecast 2000000

/-- DRILL_HANDOVER_START: at a boundary; the module goes silent and is STANDBY, transfers lost (Table 14.6). -/
def drillStartEff (s : State) : State :=
  if s.pair.role = .active ∧ s.pair.drill.isSome = true ∧ s.now % 100000 = 0 ∧ drillReady s = true then
    let s := sendManifest true s
    let s := s.sendPair 6 true (le 4 s.pair.number)
    { s with
      port := { s.port with shelf := false }
      sess := s.sess.map fun x => { x with transfer := none, verify := none }
      pair := { s.pair with role := .standby, since := s.now, drill := none, handover := some s.now, missRun := 0 } }
  else s

/-- DRILL_FAILED: the partner has not asserted its role within 3 ms; the module resumes from its own state. With the
role asserted it does not resume. -/
def drillFailedEff (s : State) : State :=
  match s.pair.handover with
  | some a =>
    if s.pair.role ≠ .standby ∨ s.now < a + 3 * ms then s
    else if s.pair.roleIn then drillDone s
    else
      let s := s.updPair fun x => { x with
        role := .taking, since := s.now, loaded := true, edged := [], handover := none }
      (claimShelf (startDriving s)).raise 0x0B07 noInst
  | none => s

/-! ### Meanings -/

/-- TAKEOVER (R476). -/
def execTakeover (s : State) : Host.Outcome State Fault Refusal := run true s takeoverEff

/-- TAKEOVER_COMPLETE (R466). -/
def execTakeoverComplete (s : State) : Host.Outcome State Fault Refusal := run true s takeoverDoneEff

/-- DRILL_HANDOVER_START (R481). -/
def execDrillHandoverStart (s : State) : Host.Outcome State Fault Refusal := run true s drillStartEff

/-- DRILL_FAILED (R481). -/
def execDrillFailed (s : State) : Host.Outcome State Fault Refusal := run true s drillFailedEff

end Sys2Proof.Machine
end

