-- ==== Sys2Proof/Machine/Security.lean ====
section
/-! DEFINITION. The firmware image, staging and installation, the network loader, the root key and the one-time area
(chapter 20). Signed writes and quotes stand with the protocol (Trasia.lean). -/

namespace Sys2Proof.Machine

/-- What the network loader serves: session 0, without the subsystems (R520). -/
def State.serving (s : State) (ses : Nat) : Bool :=
  decide (s.hw.phase = .firmware) || (decide (s.hw.phase = .loader) && ses == 0)

/-- A command of the port: it has its effect in the firmware and, for session 0, in the loader. -/
def runServed (ok : Bool) (ses : Nat) (s : State) (f : State → State) : Host.Outcome State Fault Refusal :=
  runIf ok (s.serving ses) s f

/-! ### The image (Table 20.1) -/

/-- Body length L. -/
def imageBody (b : Bytes) : Nat := u32At b 12

/-- The longest body, 96 MiB. -/
def imageBodyMax : Nat := 100663296

/-- Length of an image with a body of L bytes. -/
def imageLength (body : Nat) : Nat := 128 + body + 48 + 16224

/-- The context string AK16-FW. -/
def ctxImage : Bytes := [0x41, 0x4B, 0x31, 0x36, 0x2D, 0x46, 0x57]

/-- The context string AK16-CERT. -/
def ctxCert : Bytes := [0x41, 0x4B, 0x31, 0x36, 0x2D, 0x43, 0x45, 0x52, 0x54]

/-- The context string AK16-SW. -/
def ctxSigned : Bytes := [0x41, 0x4B, 0x31, 0x36, 0x2D, 0x53, 0x57]

/-- The context string AK16-QUOTE. -/
def ctxQuote : Bytes := [0x41, 0x4B, 0x31, 0x36, 0x2D, 0x51, 0x55, 0x4F, 0x54, 0x45]

/-- What the checks of R518 see of an image's bytes. -/
def imageOf (b : Bytes) : FwImage :=
  let n := imageBody b
  { magicOk := b.take 4 == [0x49, 0x4D, 0x47, 0x31] && slice b 22 106 == List.replicate 106 0 &&
      decide (n ≤ imageBodyMax) && b.length == imageLength n
    version := u32At b 4
    secVersion := u32At b 8
    members := u8At b 16
    slot := u8At b 17
    layout := u16At b 18
    dict := u16At b 20
    keyHash := sha256 (slice b (128 + n) 48)
    sigOk := Config.slhVerify (slice b (128 + n) 48) ctxImage (b.take (128 + n)) (slice b (176 + n) 16224)
    measure := sha256 (b.take (128 + n)) }

/-! ### Staging (R529) -/

/-- Write bytes d at o into a store of disjoint pieces, rising. -/
def putPiece (l : List (Nat × Bytes)) (o : Nat) (d : Bytes) : List (Nat × Bytes) :=
  let n := o + d.length
  let cut := l.flatMap fun (e : Nat × Bytes) =>
    [(e.1, e.2.take (o - e.1)), (max e.1 n, e.2.drop (n - e.1))].filter fun (p : Nat × Bytes) => p.2 != []
  (cut.filter fun (e : Nat × Bytes) => decide (e.1 < o)) ++ [(o, d)] ++
    cut.filter fun (e : Nat × Bytes) => decide (n ≤ e.1)

/-- The bytes that stand without a gap from 0 on. -/
def joinPieces (l : List (Nat × Bytes)) : Bytes :=
  l.foldl (fun acc (e : Nat × Bytes) => if e.1 = acc.length then acc ++ e.2 else acc) []

/-- The image is whole: every byte is in, or its length is not one an image has. -/
def stagedWhole (b : Bytes) : Bool :=
  decide (128 ≤ b.length) &&
    (decide (imageBodyMax < imageBody b) || decide (imageLength (imageBody b) ≤ b.length))

/-- The staged image is judged once whole (R518, R529). -/
def judgeStaged (s : State) : State :=
  let b := joinPieces s.sec.staged
  let s := if 8 ≤ b.length then { s with sec := { s.sec with stagedVer := u32At b 4 } } else s
  if stagedWhole b then
    if s.imageValid (imageOf b) then { s with sec := { s.sec with stagedSt := 2 } }
    else State.raise { s with sec := { s.sec with stagedSt := 3 } } 0x0E04 noInst
  else s

/-- A write of block 0 discards what is staged, but for the later parts of a block that is being received (R402). -/
def State.startsImage (s : State) (offset : Nat) : Bool :=
  s.cfgU 0xA000 0x0F == 0 && (offset == 0 || s.sec.stagedSt != 1)

/-- A write of bytes at an offset of block [A000.0F]: an earlier staged image is discarded by block 0, and any other block
becomes part of what is staged, which is judged again (log entry 60). -/
def imageBlockEff (ses offset : Nat) (data : Bytes) (s : State) : State :=
  let at_ := 8192 * s.cfgU 0xA000 0x0F + offset
  if data = [] ∨ 8192 < offset + data.length ∨ imageLength imageBodyMax < at_ + data.length then
    s.violate ses 0xA000 0x10
  else
    let old := if s.startsImage offset then [] else s.sec.staged
    judgeStaged { s with sec := { s.sec with stagedSt := 1, staged := putPiece old at_ data, stagedVer := 0 } }

/-- MARK_INSTALL: of a verified image. -/
def markInstallEff (ses : Nat) (s : State) : State :=
  if s.sec.stagedSt = 2 then { s with sec := { s.sec with stagedSt := 4 } } else s.violate ses 0xA000 0x02

/-- DISCARD_STAGED_IMAGE. -/
def discardStagedEff (s : State) : State :=
  { s with sec := { s.sec with stagedSt := 0, staged := [], stagedVer := 0 } }

/-- SECURITY_CLEAR_COUNTERS: the counter that is not since power-up. -/
def securityClearEff (s : State) : State := { s with sec := { s.sec with quoteDrops := 0 } }

/-- The flash write of the marked image begins: until it is done the image in flash is not valid (R530). -/
def beginInstall (s : State) : State :=
  { s with sec := { s.sec with
    image := { s.sec.image with magicOk := false }, installing := some (imageOf (joinPieces s.sec.staged)) } }

/-- FIRMWARE_INSTALL (R530): in STANDBY, or with the bus loop OFF and no phase switching, the write begins; the next one
ends it, and the module resets (log entry 60). -/
def firmwareInstallEff (s : State) : State :=
  match s.sec.installing with
  | some x => resetModule 4 { s with sec := { s.sec with image := x, installed := true } }
  | none => if s.sec.stagedSt = 4 ∧ (s.pair.role = .standby ∨ s.stepAllowed) then beginInstall s else s

/-- NETWORK_LOADER (R520): the write of a marked valid image begins; the next one ends it, and the module resets. -/
def networkLoaderEff (s : State) : State :=
  if s.hw.phase ≠ .loader then s else
    match s.sec.installing with
    | some x => resetModule 5 { s with sec := { s.sec with image := x, loaderRan := true } }
    | none =>
      if s.sec.stagedSt = 4 ∧ s.imageValid (imageOf (joinPieces s.sec.staged)) then beginInstall s else s

/-! ### Root key and one-time area (R527, R528) -/

/-- The owner root key takes a value and is measured (Table 20.3). -/
def putRootKey (data : Bytes) (s : State) : State :=
  let s := { s with sec := { s.sec with rootKey := data } }
  s.measure 4 0 (sha256 data)

/-- The owner root key is zero: not set. -/
def State.noRootKey (s : State) : Bool := s.sec.rootKey == List.replicate 48 0

/-- ROOT_KEY_SET: 48 bytes while the key is zero. -/
def rootKeySetEff (ses : Nat) (data : Bytes) (s : State) : State :=
  if data.length = 48 ∧ s.noRootKey ∧ bit (s.cfgU (0x1100 + ses) 0x06) 1 then
    (putRootKey data s).raise 0x0E06 noInst
  else s.violate ses 0xA000 0x0A

/-- RAISE_MIN_VERSION. -/
def raiseMinEff (ses v : Nat) (s : State) : State :=
  if v < s.sec.minVer ∨ 0xFFFFFFFF < v then s.violate ses 0xA000 0x13
  else State.raise { s with sec := { s.sec with minVer := v } } 0x0E07 noInst

/-- REVOKE_KEY_SLOT: not that of the running image. -/
def revokeEff (ses slot : Nat) (s : State) : State :=
  if slot = s.sec.image.slot ∨ 3 < slot then s.violate ses 0xA000 0x14
  else State.raise { s with sec := { s.sec with revoked := setBit s.sec.revoked slot true } } 0x0E07 noInst

/-! ### Meanings -/

/-- NETWORK_LOADER (R520): runs in the loader. -/
def execNetworkLoader (s : State) : Host.Outcome State Fault Refusal := runIf true true s networkLoaderEff

/-- IMAGE_BLOCK_WRITE (R529). -/
def execImageBlockWrite (ses : Nat) (data : Bytes) (s : State) : Host.Outcome State Fault Refusal :=
  runServed (decide (ses < Config.sessions)) ses s (imageBlockEff ses 0 data)

/-- MARK_INSTALL (R530). -/
def execMarkInstall (ses : Nat) (s : State) : Host.Outcome State Fault Refusal :=
  runServed (decide (ses < Config.sessions)) ses s (markInstallEff ses)

/-- DISCARD_STAGED_IMAGE (R533). -/
def execDiscardStagedImage (ses : Nat) (s : State) : Host.Outcome State Fault Refusal :=
  runServed (decide (ses < Config.sessions)) ses s discardStagedEff

/-- SECURITY_CLEAR_COUNTERS (R533). -/
def execSecurityClearCounters (ses : Nat) (s : State) : Host.Outcome State Fault Refusal :=
  runServed (decide (ses < Config.sessions)) ses s securityClearEff

/-- FIRMWARE_INSTALL (R530). -/
def execFirmwareInstall (s : State) : Host.Outcome State Fault Refusal := run true s firmwareInstallEff

/-- ROOT_KEY_SET (R527). -/
def execRootKeySet (ses : Nat) (data : Bytes) (s : State) : Host.Outcome State Fault Refusal :=
  run (decide (ses < Config.sessions)) s (rootKeySetEff ses data)

/-- RAISE_MIN_VERSION (R528). -/
def execRaiseMinVersion (ses v : Nat) (s : State) : Host.Outcome State Fault Refusal :=
  run (decide (ses < Config.sessions)) s (raiseMinEff ses v)

/-- REVOKE_KEY_SLOT (R528). -/
def execRevokeKeySlot (ses slot : Nat) (s : State) : Host.Outcome State Fault Refusal :=
  run (decide (ses < Config.sessions)) s (revokeEff ses slot)

end Sys2Proof.Machine
end

