-- ==== Sys2Proof/Machine/Port.lean ====
section
/-! DEFINITION. The network port: frames received and sent, the basin, flow control, the link (R386 to R411, R563). A
received Ethernet frame is held without its preamble and frame check sequence (log entry 61). -/

namespace Sys2Proof.Machine

/-! ### Trasia frames (Table 14.3) -/

/-- CRC-32C over header and payload, its own field taken as zero. -/
def trasiaCrc (f : Bytes) : Nat := crc32c (f.take 12 ++ le 4 0 ++ f.drop 16)

/-- A frame with its header. -/
def trasiaFrame (flags ses op seq count : Nat) (payload : Bytes) : Bytes :=
  let f := le 1 1 ++ le 1 flags ++ le 1 ses ++ le 1 op ++ le 4 seq ++ le 2 count ++ le 2 0 ++ le 4 0 ++ payload
  patch f 12 (le 4 (trasiaCrc f))

/-- The fields of a frame. -/
structure Trasia where
  flags : Nat
  ses : Nat
  op : Nat
  seq : Nat
  count : Nat
  payload : Bytes
deriving DecidableEq, Repr

/-- A frame whose header is whole, whose version is 01h and whose CRC holds. -/
def parseTrasia (f : Bytes) : Option Trasia :=
  if 16 ≤ f.length ∧ u8At f 0 = 1 ∧ u32At f 12 = trasiaCrc f then
    some { flags := u8At f 1, ses := u8At f 2, op := u8At f 3, seq := u32At f 4, count := u16At f 8, payload := f.drop 16 }
  else none

/-! ### Sending -/

/-- Change session n. -/
def State.updSess (s : State) (n : Nat) (f : Session → Session) : State := { s with sess := upd s.sess n f }

/-- A frame leaves J1. -/
def emitTrasia (ses pcp : Nat) (frame : Bytes) (s : State) : State :=
  (s.updSess ses (fun x => { x with framesOut := x.framesOut + 1 })).sendJ1 (.trasia ses pcp frame)

/-- A frame of a session is sent with its priority: at once, or when the pause of that priority ends (R398, R407);
never while the link is not up. -/
def sendTrasia (ses : Nat) (stream : Option Nat) (frame : Bytes) (s : State) : State :=
  let pcp := s.cfgU (0x1100 + ses) 0x05
  if s.port.link ≠ 2 then s
  else if s.paused pcp ∨ s.port.held.any (fun h => h.pcp == pcp) then
    { s with port := { s.port with held := s.port.held ++ [{ ses := ses, pcp := pcp, stream := stream, frame := frame }] } }
  else emitTrasia ses pcp frame s

/-- Held frames whose pause has ended leave in order. -/
def flushHeld (s : State) : State :=
  s.port.held.foldl (fun s h =>
    if s.paused h.pcp then { s with port := { s.port with held := s.port.held ++ [h] } }
    else emitTrasia h.ses h.pcp h.frame s) { s with port := { s.port with held := [] } }

/-- Every frame whose pause has ended leaves (R407). -/
def flushJ1 (s : State) : State := flushHeld (flushNear (flushPtp s))

/-- Part data one frame of a transfer carries (R401, R402). -/
def State.partLimit (s : State) : Nat := if s.cfgU 0x1000 0x0A = 1500 then 1016 else 8184

/-! ### Addresses (R387, R388, R563) -/

/-- The MAC address. -/
def State.mac (s : State) : Nat := s.cfgU 0x1000 0x04 % 281474976710656

/-- The link-local address formed from the MAC address by EUI-64. -/
def State.eui64 (s : State) : Nat :=
  let hi := s.mac / 16777216
  0xFE80 * 2 ^ 112 + (hi ^^^ 0x020000) * 2 ^ 40 + 0xFFFE * 2 ^ 24 + s.mac % 16777216

/-- The module answers on the link-local address: in the loader, while both module addresses are zero, and until the
next start after one is set. -/
def State.onLinkLocal (s : State) : Bool :=
  decide (s.hw.phase = .loader) || s.port.linkLocal || s.unaddressed

/-- The module answers on an IPv4 address. -/
def State.answers4 (s : State) (a : Nat) : Bool :=
  a != 0 && decide (s.hw.phase = .firmware) &&
    (a == s.cfgU 0x1000 0x06 || (s.port.shelf && a == s.cfgU 0x1000 0x08))

/-- The module answers on an IPv6 address, on a VLAN. -/
def State.answers6 (s : State) (a vlan : Nat) : Bool :=
  a != 0 && ((decide (s.hw.phase = .firmware) && (a == s.addr6 0x07 || (s.port.shelf && a == s.addr6 0x09))) ||
    (s.onLinkLocal && a == s.eui64 && vlan == 0))

/-- A VLAN ID, 0 untagged, matches an enabled session or the PTP configuration. -/
def State.vlanKnown (s : State) (v : Nat) : Bool :=
  ((List.range Config.sessions).any fun n => s.cfgU (0x1100 + n) 0x01 == 1 && s.cfgU (0x1100 + n) 0x04 == v) ||
    v == s.cfgU 0x1200 0x0A || (s.cfgU 0x1200 0x01 == 2 && v == s.cfgU 0x1200 0x0B)

/-! ### Parsing -/

/-- An Ethernet frame. -/
structure EthFrame where
  dst : Nat
  src : Nat
  /-- VLAN ID; 0 untagged. -/
  vlan : Nat
  etype : Nat
  body : Bytes
deriving DecidableEq, Repr

/-- The frame with its VLAN tag taken off. -/
def parseEth (f : Bytes) : EthFrame :=
  let tagged := decide (ofBe (slice f 12 2) = 0x8100)
  { dst := ofBe (slice f 0 6), src := ofBe (slice f 6 6), vlan := if tagged then ofBe (slice f 14 2) % 4096 else 0
    etype := if tagged then ofBe (slice f 16 2) else ofBe (slice f 12 2), body := f.drop (if tagged then 18 else 14) }

/-- A UDP datagram in its IP packet; an IPv4 address is IPv4-mapped. -/
structure Datagram where
  v6 : Bool
  src : Nat
  dst : Nat
  udp : Bytes
deriving DecidableEq, Repr

/-- Unfragmented IPv4 without options, or IPv6 without extension headers, that carries UDP. -/
def parseIp (e : EthFrame) : Option Datagram :=
  let b := e.body
  let n4 := ofBe (slice b 2 2)
  let n6 := ofBe (slice b 4 2)
  if e.etype = 0x0800 ∧ u8At b 0 = 0x45 ∧ 28 ≤ n4 ∧ n4 ≤ b.length ∧ ofBe (slice b 6 2) % 16384 = 0 ∧ u8At b 9 = 17 then
    some { v6 := false, src := ofBe (slice b 12 4), dst := ofBe (slice b 16 4), udp := slice b 20 (n4 - 20) }
  else if e.etype = 0x86DD ∧ u8At b 0 / 16 = 6 ∧ u8At b 6 = 17 ∧ 8 ≤ n6 ∧ 40 + n6 ≤ b.length then
    some { v6 := true, src := ofBe (slice b 8 16), dst := ofBe (slice b 24 16), udp := slice b 40 n6 }
  else none

/-- Sum of the big-endian 16-bit words of a byte string. -/
def sum16 : Bytes → Nat
  | [] => 0
  | [a] => 256 * a.toNat
  | a :: b :: r => 256 * a.toNat + b.toNat + sum16 r

/-- The UDP checksum holds; zero over IPv4 is accepted (R387). -/
def Datagram.sumOk (d : Datagram) : Bool :=
  let n := if d.v6 then 16 else 4
  let len := ofBe (slice d.udp 4 2)
  let total := sum16 (be n d.src) + sum16 (be n d.dst) + 17 + len + sum16 (d.udp.take len)
  let field := ofBe (slice d.udp 6 2)
  if field = 0 then !d.v6 else total % 65535 == 0

/-- ARP and Neighbour Discovery frames: a row of their own acts on them. -/
def EthFrame.auxiliary (e : EthFrame) : Bool :=
  let nd := decide (e.etype = 0x86DD) && u8At e.body 6 == 58 && decide (133 ≤ u8At e.body 40) &&
    decide (u8At e.body 40 ≤ 137)
  decide (e.etype = 0x0806) || nd

/-- The PTP message a frame carries, with its transport ([1200.03]). -/
def EthFrame.ptp (e : EthFrame) : Option (Nat × Bytes) :=
  if e.etype = 0x88F7 then some (2, e.body)
  else match parseIp e with
    | some d =>
      let p := ofBe (slice d.udp 2 2)
      if p = 319 ∨ p = 320 then some (b2n d.v6, slice d.udp 8 (ofBe (slice d.udp 4 2) - 8)) else none
    | none => none

/-- Session n takes frames from a source on a VLAN (R387, R398). -/
def State.sessionTakes (s : State) (n vlan : Nat) (d : Datagram) : Bool :=
  let peer := le 16 (s.cfgU (0x1100 + n) 0x02)
  let from_ := be 16 (if d.v6 then d.src else 0xFFFF * 2 ^ 32 + d.src)
  let port := s.cfgU (0x1100 + n) 0x03
  decide (n < Config.sessions) && s.cfgU (0x1100 + n) 0x01 == 1 && s.cfgU (0x1100 + n) 0x04 == vlan &&
    (peer == List.replicate 16 0 || peer == from_) && (port == 0 || port == ofBe (slice d.udp 0 2))

/-- What becomes of a received frame. -/
inductive Rx where
  /-- It is not for this row. -/
  | other
  | ptp (vlan transport : Nat) (message : Bytes)
  | dropped
  | crcFailed
  | accepted (frame : Bytes)
deriving DecidableEq, Repr

/-- A UDP datagram judged (R387). -/
def judgeUdp (s : State) (vlan : Nat) (d : Datagram) : Rx :=
  let len := ofBe (slice d.udp 4 2)
  let f := slice d.udp 8 (len - 8)
  let here := if d.v6 then s.answers6 d.dst vlan else s.answers4 d.dst
  if here = false ∨ ofBe (slice d.udp 2 2) ≠ s.cfgU 0x1000 0x05 ∨ d.udp.length < len ∨ f.length < 16 then .dropped
  else if d.sumOk = false ∨ u32At f 12 ≠ trasiaCrc f then .crcFailed
  else if u8At f 0 = 1 ∧ s.sessionTakes (u8At f 2) vlan d then .accepted f
  else .dropped

/-- A frame judged (R387). -/
def judgeFrame (s : State) (raw : Bytes) : Rx :=
  let e := parseEth raw
  if e.etype = 0x8808 then .other
  else if s.vlanKnown e.vlan = false then .dropped
  else if e.dst ≠ s.mac ∧ bit e.dst 40 = false then .dropped
  else if e.auxiliary then .other
  else match e.ptp with
    | some m => .ptp e.vlan m.1 m.2
    | none =>
      if e.dst ≠ s.mac then .dropped
      else match parseIp e with
        | none => .dropped
        | some d => judgeUdp s e.vlan d

/-! ### The basin (R403 to R406) -/

/-- Bytes of the basin. -/
def basinSize : Nat := 8388608

/-- Times within the last second, the newest first, at most 101. -/
def lastSecond (now : Nat) (l : List Nat) : List Nat := ((now :: l).filter fun a => decide (now < a + sec)).take 101

/-- A PFC pause frame of the report priority leaves. -/
def sendPause (quanta : Nat) (s : State) : State :=
  State.sendJ1 { s with port := { s.port with pfcSent := sat32 (s.port.pfcSent + 1) } } (.pfc (s.cfgU 0x1300 0x01) quanta)

/-- Occupancy has risen: its highest value, and the pause above the high watermark (R404). -/
def noteOccupancy (s : State) : State :=
  let n := s.basin
  let s := { s with port := { s.port with highest := max s.port.highest n } }
  if s.cfgU 0x1300 0x02 = 1 ∧ s.cfgU 0x1300 0x03 < n ∧ s.port.pauseSince = none then
    sendPause 65535 { s with port := { s.port with pauseSince := some s.now, pauseAt := s.now, countFrom := s.now } }
  else s

/-- A REPORT enters its queue, or is dropped where the basin is full and flow control is off (R255, R406). -/
def reportArrives (f : Bytes) (s : State) : State :=
  if basinSize < s.basin + f.length ∧ s.cfgU 0x1300 0x02 = 0 then
    State.raise { s with
      port := { s.port with reportDropAt := some s.now }
      gov := { s.gov with dropped := sat32 (s.gov.dropped + 1) } } 0x0705 noInst
  else noteOccupancy { s with port := { s.port with reports := s.port.reports ++ [(s.now, f)] } }

/-- A frame finds the keeper queue at its share (R403). -/
def keeperDrop (s : State) : State :=
  let l := lastSecond s.now s.port.dropTimes
  let up := decide (100 < l.length)
  let was := s.port.up1204
  let s := { s with port := { s.port with keeperDrops := sat32 (s.port.keeperDrops + 1), dropTimes := l, up1204 := up } }
  when_ (up && !was) (fun s => s.raise 0x1204 noInst) s

/-- How a sequence stands to the last one (R395). -/
inductive SeqJudge where
  | new | duplicate | stale
deriving DecidableEq, Repr

/-- The sequence rule (R395). -/
def judgeSeq (last : Option Nat) (seq : Nat) : SeqJudge :=
  match last with
  | none => .new
  | some l =>
    let d := (seq + 4294967296 - l % 4294967296) % 4294967296
    if d = 0 then .duplicate else if d ≤ 2147483648 then .new else .stale

/-- Bytes an operation's payload has at least (Table 14.4). -/
def Trasia.least (m : Trasia) : Nat :=
  match m.op with
  | 1 => 4 * m.count
  | 2 => 12 * m.count
  | 3 | 4 => 12
  | 5 => 20
  | 7 => 32 * m.count
  | 8 => 8
  | 9 => 32
  | _ => 0

/-- A READ or WRITE whose count is 0 or above 64 is no request (R392); neither is a frame whose payload is cut short
(log entry 63). -/
def Trasia.malformed (m : Trasia) : Bool :=
  ((m.op == 1 || m.op == 2) && (m.count == 0 || decide (64 < m.count))) || decide (m.payload.length < m.least)

/-- Sequence of the last request of a session that waits in the keeper queue. -/
def State.queuedSeq (s : State) (ses : Nat) : Option Nat :=
  ((s.port.keeper.filterMap fun (e : Nat × Bytes) => parseTrasia e.2).filter fun m =>
    m.ses == ses && !m.malformed).getLast?.map (·.seq)

/-- The kept reply of a duplicate is sent again, unless no reply is wanted (R395, R396). -/
def resendKept (m : Trasia) (s : State) : State :=
  match (s.session m.ses).kept with
  | some f => if bit m.flags 1 then s else sendTrasia m.ses none f s
  | none => s

/-- A stale request is counted (R395). -/
def countStale (ses : Nat) (s : State) : State := s.updSess ses fun x => { x with stale := sat32 (x.stale + 1) }

/-- A request enters the keeper queue; a duplicate or a stale one does not (R395, R403). -/
def requestArrives (m : Trasia) (f : Bytes) (s : State) : State :=
  let enter := noteOccupancy { s with port := { s.port with keeper := s.port.keeper ++ [(s.now, f)] } }
  if s.cfgU 0x1300 0x05 ≤ queueBytes s.port.keeper ∨ basinSize < s.basin + f.length then keeperDrop s
  else if m.malformed then enter
  else match s.queuedSeq m.ses with
    | some q => match judgeSeq (some q) m.seq with
      | .new => enter
      | .duplicate => s
      | .stale => countStale m.ses s
    | none => match judgeSeq (s.session m.ses).lastSeq m.seq with
      | .new => enter
      | .duplicate => resendKept m s
      | .stale => countStale m.ses s

/-- An accepted frame (R391, R392). -/
def frameArrives (f : Bytes) (s : State) : State :=
  match parseTrasia f with
  | none => s
  | some m =>
    let s := { s with port := { s.port with framesIn := s.port.framesIn + 1 } }
    let s := s.updSess m.ses fun x => { x with framesIn := x.framesIn + 1 }
    if m.op = 0 ∨ 9 < m.op then s.violateOp m.ses m.op
    else if m.op = 6 then (if s.passive ∨ s.hw.phase ≠ .firmware then s.violateOp m.ses m.op else reportArrives f s)
    else requestArrives m f s

/-- A frame whose CRC fails (R387, Table 14.7). -/
def crcFailure (s : State) : State :=
  let l := lastSecond s.now s.port.crcTimes
  let up := decide (100 < l.length)
  let was := s.port.up1205
  let s := { s with port := { s.port with crcFails := sat32 (s.port.crcFails + 1), crcTimes := l, up1205 := up } }
  when_ (up && !was) (fun s => s.raise 0x1205 noInst) s

/-- ETHERNET_FRAME (R387): a frame arrives only while the link is up. -/
def ethernetEff (raw : Bytes) (s : State) : State :=
  if s.port.link ≠ 2 then s else
    match judgeFrame s raw with
    | .other => s
    | .ptp vlan transport m => if transport = s.cfgU 0x1200 0x03 then ptpArrives vlan m s else s
    | .dropped => { s with port := { s.port with parseDrops := sat32 (s.port.parseDrops + 1) } }
    | .crcFailed => crcFailure s
    | .accepted f => frameArrives f s

/-- PFC_PAUSE_REPEAT: every 20 µs above the low watermark. -/
def pauseRepeatEff (s : State) : State :=
  if s.port.pauseSince.isSome ∧ s.cfgU 0x1300 0x04 < s.basin ∧ s.port.pauseAt + 20000 ≤ s.now then
    sendPause 65535 { s with port := { s.port with pauseAt := s.now } }
  else s

/-- PFC_PAUSE_RELEASE: at or below the low watermark. -/
def pauseReleaseEff (s : State) : State :=
  if s.port.pauseSince.isSome ∧ s.basin ≤ s.cfgU 0x1300 0x04 then
    sendPause 0 { s with port := { s.port with
      pauseSince := none, paused := s.port.paused + (s.now - s.port.countFrom), up1203 := false } }
  else s

/-- PFC_PAUSE_LONG: longer than 1 ms. -/
def pauseLongEff (s : State) : State :=
  match s.port.pauseSince with
  | some a =>
    if a + ms < s.now ∧ s.port.up1203 = false then
      State.raise { s with port := { s.port with up1203 := true } } 0x1203 noInst
    else s
  | none => s

/-! ### Received pauses (R407) -/

/-- Nanoseconds of a number of quanta of 512 bit times on the lanes in use, 100 Gbit/s each, rounded up. -/
def quantaTime (lanes quanta : Nat) : Nat := (512 * quanta + 100 * lanes - 1) / (100 * lanes)

/-- The pause of one priority. -/
def pausePriority (p quanta : Nat) (s : State) : State :=
  let was := s.paused p
  let x := s.port
  { s with port := { x with
    pfcGot := upd x.pfcGot p (fun n => sat32 (n + 1))
    pauseUntil := upd x.pauseUntil p (fun _ => s.now + quantaTime x.lanes quanta)
    pauseFrom := upd x.pauseFrom p (fun a => if quanta = 0 then none else if was then a else some s.now) } }

/-- A session streams the grants, [5000.18] (R229). -/
def Session.streamsGrants (x : Session) : Bool := x.streams.any fun y => y.index == 0x5000 && y.sub == 0x18

/-- A priority of the grant streams has been paused for longer than 100 µs. -/
def State.grantPaused (s : State) : Bool :=
  (List.range Config.sessions).any fun n =>
    let p := s.cfgU (0x1100 + n) 0x05
    (s.session n).streamsGrants && s.paused p &&
      match get none s.port.pauseFrom p with
      | some a => decide (a + 100000 < s.now)
      | none => false

/-- A long pause that has ended may be followed by another (R407). -/
def endGrantPause (s : State) : State := { s with port := { s.port with up1206 := s.port.up1206 && s.grantPaused } }

/-- PFC_RECEIVED: a MAC control frame with opcode 0101h. -/
def pfcReceivedEff (raw : Bytes) (s : State) : State :=
  let b := raw.drop 14
  if s.port.link = 2 ∧ ofBe (slice raw 12 2) = 0x8808 ∧ ofBe (slice b 0 2) = 0x0101 ∧ 20 ≤ b.length then
    flushJ1 (endGrantPause ((List.range 8).foldl (fun s p =>
      if bit (ofBe (slice b 2 2)) p then pausePriority p (ofBe (slice b (4 + 2 * p) 2)) s else s) (endGrantPause s)))
  else s

/-- GRANT_PAUSE_LONG: once a pause. -/
def grantPauseEff (s : State) : State :=
  let was := s.port.up1206
  let s' := { s with port := { s.port with up1206 := s.grantPaused } }
  when_ (s.grantPaused && !was) (fun s => s.raise 0x1206 noInst) s'

/-! ### The link (R386) -/

/-- The mode training uses: [1000.01], or 200G in the loader (R520). -/
def State.portMode (s : State) : Nat := if s.hw.phase = .loader then 2 else s.cfgU 0x1000 0x01

/-- J1 lanes of a mode (Table 14.1). -/
def modeLanes (m : Nat) : Nat := 8 / 2 ^ m

/-- The link is not up: no pause holds, nothing waits; 1201h. Training takes the mode selected as it starts (R386). -/
def portDown (st : Nat) (s : State) : State :=
  let was := s.port.link
  let s := { s with port := { s.port with
    link := st, lanes := 0, held := [], heldPtp := [], heldNear := [], pauseUntil := List.replicate 8 0
    pauseFrom := List.replicate 8 none, up1206 := false, mode := if st = 1 then s.portMode else s.port.mode } }
  when_ (was == 2) (fun s => s.raise 0x1201 noInst) s

/-- ETHERNET_LINK_CHANGE: training ended on 8, 4 or 2 lanes (R8), or the link lost. -/
def linkChangeEff (up_ : Bool) (lanes : Nat) (s : State) : State :=
  let m := if s.port.link = 1 then s.port.mode else s.portMode
  if up_ then
    if s.port.link = 2 ∨ lanes ∉ [8, 4, 2] ∨ modeLanes m < lanes then s else
      let s := { s with port := { s.port with
        link := 2, lanes := lanes, mode := m, linkUps := sat32 (s.port.linkUps + 1) } }
      when_ (decide (lanes < modeLanes m)) (fun s => s.raise 0x1202 noInst) s
  else portDown 0 s

/-- PORT_RETRAIN: training starts; PTP restarts acquisition (Table 14.6). -/
def portRetrainEff (s : State) : State :=
  let s := portDown 1 s
  if s.clk.st = .locked ∨ s.clk.st = .acquiring then toAcquiring false s else s

/-- PORT_CLEAR_COUNTERS: the counters that are not since power-up. -/
def portClearEff (s : State) : State :=
  { s with port := { s.port with framesIn := 0, parseDrops := 0, crcFails := 0 } }

/-- FLOW_CLEAR_COUNTERS; a pause in force counts from now on. -/
def flowClearEff (s : State) : State :=
  { s with port := { s.port with
    pfcSent := 0, paused := 0, pfcGot := List.replicate 8 0, keeperDrops := 0
    countFrom := s.now } }

/-! ### Neighbours (R388) -/

/-- ARP_ND_REQUEST: an ARP request or a Neighbour Solicitation for an address the module answers on. -/
def neighbourEff (raw : Bytes) (s : State) : State :=
  let e := parseEth raw
  let b := e.body
  let a4 := ofBe (slice b 24 4)
  let a6 := ofBe (slice b 48 16)
  if s.port.link ≠ 2 ∨ s.vlanKnown e.vlan = false then s
  else if e.etype = 0x0806 ∧ slice b 0 8 = [0x00, 0x01, 0x08, 0x00, 0x06, 0x04, 0x00, 0x01] ∧ s.answers4 a4 then
    s.sendNear ⟨false, false, a4⟩
  else if e.etype = 0x86DD ∧ u8At b 6 = 58 ∧ u8At b 40 = 135 ∧ s.answers6 a6 e.vlan then
    s.sendNear ⟨true, false, a6⟩
  else s

/-! ### Sessions (R395) -/

/-- A reset by [1100+s.07]. -/
def sessionResetEff (n : Nat) (s : State) : State :=
  s.updSess n fun x => { x with
    lastSeq := none, kept := none, viol := 0, violObj := 0, stale := 0, outSeq := 0, streams := [] }

/-! ### Meanings -/

/-- ETHERNET_FRAME (R387). -/
def execEthernetFrame (frame : Bytes) (s : State) : Host.Outcome State Fault Refusal :=
  runServed true 0 s (ethernetEff frame)

/-- PFC_PAUSE_REPEAT (R404). -/
def execPfcPauseRepeat (s : State) : Host.Outcome State Fault Refusal := run true s pauseRepeatEff

/-- PFC_PAUSE_RELEASE (R404). -/
def execPfcPauseRelease (s : State) : Host.Outcome State Fault Refusal := run true s pauseReleaseEff

/-- PFC_PAUSE_LONG (R404). -/
def execPfcPauseLong (s : State) : Host.Outcome State Fault Refusal := run true s pauseLongEff

/-- PFC_RECEIVED (R407). -/
def execPfcReceived (frame : Bytes) (s : State) : Host.Outcome State Fault Refusal := run true s (pfcReceivedEff frame)

/-- GRANT_PAUSE_LONG (R407). -/
def execGrantPauseLong (s : State) : Host.Outcome State Fault Refusal := run true s grantPauseEff

/-- ETHERNET_LINK_CHANGE (R386): in the loader too. -/
def execEthernetLinkChange (up_ : Bool) (lanes : Nat) (s : State) : Host.Outcome State Fault Refusal :=
  runServed true 0 s (linkChangeEff up_ lanes)

/-- ARP_ND_REQUEST (R388): in the loader too. -/
def execArpNdRequest (frame : Bytes) (s : State) : Host.Outcome State Fault Refusal :=
  runServed true 0 s (neighbourEff frame)

/-- PORT_RETRAIN (R386). -/
def execPortRetrain (ses : Nat) (s : State) : Host.Outcome State Fault Refusal :=
  run (decide (ses < Config.sessions)) s portRetrainEff

/-- PORT_CLEAR_COUNTERS (R411). -/
def execPortClearCounters (ses : Nat) (s : State) : Host.Outcome State Fault Refusal :=
  run (decide (ses < Config.sessions)) s portClearEff

/-- FLOW_CLEAR_COUNTERS (R411). -/
def execFlowClearCounters (ses : Nat) (s : State) : Host.Outcome State Fault Refusal :=
  run (decide (ses < Config.sessions)) s flowClearEff

/-- SESSION_RESET (R395). -/
def execSessionReset (ses target : Nat) (s : State) : Host.Outcome State Fault Refusal :=
  runObj ses (0x1100 + target) 0x07 (decide (target < Config.sessions)) s (sessionResetEff target)

end Sys2Proof.Machine
end

