-- ==== Sys2Proof/Machine/Dictionary.lean ====
section
/-! DEFINITION. Writes of objects (chapter 15): the commands, the objects with rules of their own, the stored and the
plain ones, and the block objects. -/

namespace Sys2Proof.Machine

/-- What a verified signed write brings (Table 20.5): rights and signer key; none for a plain write. -/
abbrev Signed := Option (Nat × Bytes)

/-! ### Commands -/

/-- A free natural number (log entry 2): what a frame does not say of an outcome. -/
def State.drawNat (s : State) : Nat × State :=
  (Config.freeNat s.freeCount, { s with freeCount := s.freeCount + 1 })

/-- A save commanded by a frame: whether flash takes it is not stated (log entry 62). -/
def savedNow (f : Bool → State → State) (s : State) : State := f (s.drawNat.1 % 2 == 0) s.drawNat.2

/-- Commands of trays, rings, estimators and phases. -/
def trayCommand (ses index sub v : Nat) (s : State) : State :=
  let t := index % 256
  match index / 256, sub, v with
  | 0x30, 0x02, 1 => trayInsertEff ses t s
  | 0x30, 0x02, 2 => trayDrainEff ses t s
  | 0x30, 0x02, 3 => traySlackBeginEff ses t s
  | 0x30, 0x02, 4 => traySlackEndEff ses t s
  | 0x30, 0x02, 5 => trayResetEff ses t s
  | 0x31, 0x23, 1 => openNowEff ses t s
  | 0x31, 0x23, 2 => reenumerateEff ses t s
  | 0x31, 0x23, 3 => clearMarksEff ses t s
  | 0x31, 0x23, 4 => weirTestCmdEff ses t s
  | 0x32, 0x28, 1 => savedNow (stateSaveNowEff t) s
  | 0x33, 0x0B, 1 => resetSeeds t s
  | 0x33, 0x0B, 2 => savedNow (impedanceSaveNowEff t) s
  | 0x21, _, 0 => phaseOutEff ses t ((sub - 0x11) / 8) s
  | 0x21, _, 1 => phaseInEff ses t ((sub - 0x11) / 8) s
  | _, _, _ => s.violate ses index sub

/-- Commands of slots, sessions, gates and the rest by index. -/
def otherCommand (ses index sub v : Nat) (s : State) : State :=
  let n := index % 256
  match index / 256, sub, v with
  | 0x11, 0x07, 1 => sessionResetEff n s
  | 0x61, 0x02, 1 => slotCheckEff ses n s
  | 0x61, 0x02, 2 => slotBindEff ses n s
  | 0x61, 0x02, 3 => slotUnbindEff ses n s
  | 0x61, 0x02, 4 => slotRestartEff ses n s
  | 0x61, 0x02, 5 => slotClearEff ses n s
  | 0x68, 0x06, v => gateAllocateEff ses v s
  | 0x68, 0x08, v => gateFreeEff ses v s
  | 0x70, 0x0F, v => acknowledgeEff ses v s
  | _, _, _ => trayCommand ses index sub v s

/-- A write of a command object. -/
def command (ses index sub v : Nat) (s : State) : State :=
  match okey index sub, v with
  | 0x200002, 1 => loopStartEff ses s
  | 0x200002, 2 => loopBlackStartEff ses s
  | 0x200002, 3 => loopStopEff ses s
  | 0x200002, 4 => loopResetEff ses s
  | 0x400002, 1 => forecasterStartEff ses s
  | 0x400002, 2 => forecasterStopEff ses s
  | 0x400002, 3 => modelSwitchEff ses s
  | 0x400002, 4 => forecasterClearEff s
  | 0x500002, 1 => governorStartEff ses s
  | 0x500002, 2 => governorStopEff ses s
  | 0x500002, 3 => commitBordersEff ses s
  | 0x500002, 4 => governorClearEff s
  | 0x340001, 1 => feedClearEff s
  | 0x340001, 2 => rereadEff s
  | 0x600014, 1 => gridClearEff s
  | 0x600014, 2 => gridSelfTestEff s.drawNat.1 s.drawNat.2
  | 0x68000F, 1 => gatesClearEff s
  | 0x69000B, 1 => eventsClearEff s
  | 0x6A0002, 1 => dockStartEff ses s
  | 0x6A0002, 2 => dockStopEff ses s
  | 0x6A0002, 3 => dockClearEff ses s
  | 0x230002, 1 => captureStartEff ses s
  | 0x230002, 2 => captureFreezeEff ses s
  | 0x230002, 3 => captureReleaseEff ses s
  | 0x230002, 4 => captureStopEff ses s
  | 0x100003, 1 => portRetrainEff s
  | 0x100003, 2 => portClearEff s
  | 0x13000C, 1 => flowClearEff s
  | 0x000102, 1 => storeAllEff s
  | 0x000102, 2 => markEff true s
  | 0x000102, 3 => markEff false s
  | 0x000102, 4 => moduleResetEff ses s
  | 0x700012, 1 => faultsClearEff s
  | 0x800002, 1 => takeNowEff ses s
  | 0x800002, 2 => drillEff ses s
  | 0x800002, 3 => pairClearEff s
  | 0x810004, 1 => layoutCommitEff ses (s.seqOf ses) s
  | 0x810004, 2 => layoutDiscardEff s
  | 0x720010, 1 => recorderClearCountersEff s
  | 0x900002, 1 => calStoreLive s
  | 0x900002, 2 => calLockEff true s
  | 0x900002, 3 => calLockEff false s
  | 0x900002, 4 => calClearEff s
  | 0xA00002, 1 => markInstallEff ses s
  | 0xA00002, 2 => discardStagedEff s
  | 0xA00002, 3 => securityClearEff s
  | _, _ => otherCommand ses index sub v s

/-! ### What follows a write -/

/-- Registers of the monitors of a ring that follow an object of [3100+t] (R132, Table 5.5). -/
def ringRegs (sub : Nat) : List Nat :=
  match sub with
  | 0x12 => [8]
  | 0x14 => [1, 3]
  | 0x15 => [2, 4]
  | 0x1C => [7]
  | 0x1D => [9]
  | _ => []

/-- A session is enabled: it starts afresh (R395), its bias as a schedule source at 0 (R208); or closed: its gates are freed (R329), its streams end. -/
def sessionEnable (n : Nat) (on : Bool) (s : State) : State :=
  if on then
    let s := (sessionResetEff n s).updSess n fun x => { x with transfer := none, verify := none }
    { s with tide := { s.tide with bias := s.tide.bias.set n 0 } }
  else (freeOwner 4 n s).updSess n fun x => { x with streams := [], transfer := none, verify := none }

/-- The firmware slots whose programs use an object's value (R295). -/
def programsOf (index : Nat) : List Nat :=
  match index / 256 with
  | 0x20 => [0]
  | 0x21 => [2 + index % 256]
  | 0x22 => (List.range Config.trays).map (2 + ·)
  | 0x30 => [1]
  | 0x32 | 0x33 => [18]
  | 0x50 | 0x51 => [19]
  | 0x34 => [20]
  | _ => []

/-- The converted value of an F32 object enters its program at the start of the next period of that program, and the
capture ring when it is written, on a channel of the object's subindex: [2000.03] at the exponent of the volt stages, any
other in normalised mode (R295, R356, log entries 12 and 50). -/
def convertedRecord (index sub v : Nat) (s : State) : State :=
  match s.objectAt index sub with
  | some r =>
    if r.typ = .f32 then
      let input : Bool := index == 0x2000 && sub == 0x03
      let data := blockBytes (renorm 3 (!input) (if input then expV else 0) [f32Val v])
      (programsOf index).foldl (fun s n =>
        let step := if n = 19 then 1000 else 1
        inputRecord n sub ((s.now / (1000 * step) + 1) * step % 4294967296) data s) s
    else s
  | none => s

/-- What a written setting starts beyond its own value: stage configurations (R45, R51, R69), monitor registers (R132),
the tray-sum test (R78), the group enables (R261), a session (R395). -/
def afterWrite (index sub old v : Nat) (s : State) : State :=
  let t := index % 256
  let s := convertedRecord index sub v s
  match index / 256 with
  | 0x10 => { s with port := { s.port with linkLocal := s.port.linkLocal || s.unaddressed } }
  | 0x11 => if sub = 0x01 ∧ old ≠ v then sessionEnable t (v == 1) s else s
  | 0x20 => if sub = 0x21 then forTrays sendStageConfig s else s
  | 0x21 =>
    let stored : Bool := match s.objectAt index sub with | some r => decide (r.acc = .rws ∨ r.acc = .rwl) | none => false
    let s := if old ≠ v ∧ stored = true then s.updTp t (fun x => { x with sumOff := false }) else s
    if sub = 0x0D then sendStageConfig t s else s
  | 0x22 => if sub = 0x01 ∨ sub = 0x03 ∨ sub = 0x04 then forTrays sendStageConfig s else s
  | 0x31 =>
    let s := if sub = 0x02 then ringLength t s else s
    if (s.tow t).ring = .down ∨ ringRegs sub = [] then s else queueConfig t (ringRegs sub) false s
  | 0x34 => if sub = 0x02 then groupEnables s else s
  | _ => s

/-- Apply a value in range to an object that is written (R414, R423). -/
def putValue (ses index sub : Nat) (r : ObjRow) (v : Nat) (s : State) : State :=
  if windowed index sub then s.setWin ses index sub v
  else
    let old := s.cfgU index sub
    let v := v % 2 ^ (8 * r.len)
    let s := if r.acc = .rw then s.setCfg index sub v else s.storeCfg index sub v
    afterWrite index sub old v s

/-- PAIR_STORE (R470): a value of the active module becomes the standby's own, with what a write of it starts. -/
def pairStoreEff (frame : Bytes) (s : State) : State :=
  recvPair 5 frame (fun m s =>
    let index := u16At m.payload 0
    let sub := u8At m.payload 2
    let len := u32At m.payload 4
    match objRow index sub with
    | some r =>
      if (s.pair.role = .standby ∨ s.pair.role = .unsynced) ∧ (r.acc = .rws ∨ r.acc = .rwl) ∧ r.len = len ∧
          restorable (okey index sub) = true then
        let v := ofLe (slice m.payload 8 len)
        afterWrite index sub (s.cfgU index sub) v (s.storeCfg index sub v)
      else s
    | none => s) s

/-- A highest-value object: 0 clears it, any other value is ignored (R416). -/
def highestClear (index sub v : Nat) (s : State) : State :=
  if v ≠ 0 then s else
    match okey index sub with
    | 0x200027 => { s with loop := { s.loop with delayHigh := 0 } }
    | 0x400019 => { s with tide := { s.tide with evalHigh := 0 } }
    | 0x130007 => { s with port := { s.port with highest := 0 } }
    | _ => s

/-- The highest-value objects. -/
def isHighest (index sub : Nat) : Bool :=
  okey index sub == 0x200027 || okey index sub == 0x400019 || okey index sub == 0x130007

/-- Objects with rules of their own for a value in range. -/
def ownRule (ses index sub v : Nat) (s : State) : Option State :=
  if isHighest index sub then some (highestClear index sub v s)
  else if index = 0x4000 ∧ sub = 0x04 then some (stagedSlotEff ses v s)
  else if 0x5100 ≤ index ∧ index ≤ 0x513F ∧ sub = 0x17 then some (flightSourcesEff ses (index - 0x5100) v s)
  else if index = 0x9000 ∧ sub = 0x03 then some (liveRoutinesEff ses v s)
  else if 0x9100 ≤ index ∧ index ≤ 0x910F then some (calScalarEff ses (index - 0x9100) sub v s)
  else none

/-- A value signed for a SEC object (R496, R528). -/
def signedValue (ses index sub v : Nat) (key : Bytes) (s : State) : State :=
  match okey index sub with
  | 0x72000F => recorderClearEff ses v key s
  | 0xA00013 => raiseMinEff ses v s
  | 0xA00014 => revokeEff ses v s
  | _ => s.violate ses index sub

/-- One word of a WRITE, or a write by OBJECT_WRITE: judged, then applied (R413 to R418). -/
def writeWord (g : Signed) (ses index sub v : Nat) (s : State) : State :=
  match s.objectAt index sub with
  | none => s.violate ses index sub
  | some r =>
    if r.acc = .ro ∨ s.inRange index sub r v = false then s.violate ses index sub
    else match r.acc, g with
      | .sec, some k => signedValue ses index sub v k.2 s
      | .sec, none => s.violate ses index sub
      | .wo, _ => command ses index sub v s
      | .rwl, _ => if s.ownerIdle index then putValue ses index sub r v s else s.violate ses index sub
      | _, _ => match ownRule ses index sub v s with
        | some s' => s'
        | none => putValue ses index sub r v s

/-! ### Block objects -/

/-- Entry size of a writable window (R418). -/
def entrySize (index : Nat) : Nat := if index = 0x8100 ∨ 0x6100 ≤ index ∧ index ≤ 0x613F then 8 else 1

/-- Bytes of a plain block object (Table 15.2). -/
def putBlob (ses index sub offset : Nat) (r : ObjRow) (data : Bytes) (s : State) : State :=
  let n := entrySize index
  let b := patch (le r.len (s.cfgU index sub)) offset data
  if r.len < offset + data.length ∨ data.length % n ≠ 0 ∨ offset % n ≠ 0 ∨ blobInRange index sub b = false ∨
    (r.acc = .rwl ∧ s.ownerIdle index = false) then s.violate ses index sub
  else putValue ses index sub r (ofLe b) s

/-- Gate operations of a session (R315). -/
def sessionGateWords (ses offset : Nat) (data : Bytes) (s : State) : State :=
  if data.length % 8 ≠ 0 ∨ offset % 8 ≠ 0 ∨ 8192 < offset + data.length then s.violate ses 0x6800 0x05
  else applyWords (.session ses) 1024 data s

/-- Reference digest records from the record that the session's index names (R358, R420). -/
def referenceBlock (ses offset : Nat) (data : Bytes) (s : State) : State :=
  if data.length % 16 ≠ 0 ∨ offset % 16 ≠ 0 ∨ 8192 < offset + data.length then s.violate ses 0x6A00 0x09
  else
    let first := s.win ses 0x6A00 0x08 + offset / 16
    let l := (List.range (data.length / 16)).foldl (fun l i =>
      Store.ins (first + i) (slice data (16 * i) 16) (Store.del l (first + i))) s.dock.reference
    { s with dock := { s.dock with reference := l } }

/-- A signed write of the owner root key, whole (R527). -/
def signedRootKey (ses offset : Nat) (data : Bytes) (s : State) : State :=
  if offset = 0 ∧ data.length = 48 then putRootKey data s else s.violate ses 0xA000 0x0A

/-- Bytes of a scalar: the value with those bytes replaced, as a WRITE of it. -/
def scalarBlock (g : Signed) (ses index sub offset : Nat) (r : ObjRow) (data : Bytes) (s : State) : State :=
  if r.len < offset + data.length then s.violate ses index sub
  else
    let old := if r.acc = .wo ∨ r.acc = .sec then 0 else ofLe (s.objBytes ses index sub r)
    writeWord g ses index sub (wideValue r.typ (ofLe (patch (le r.len old) offset data))) s

/-- The data of a WRITE_BLOCK, not empty, its sequence that of the session (R418). -/
def writeBytes (g : Signed) (ses index sub offset : Nat) (data : Bytes) (s : State) : State :=
  let seq := s.seqOf ses
  match s.objectAt index sub with
  | none => s.violate ses index sub
  | some r =>
    if r.acc = .ro then s.violate ses index sub
    else if r.typ.bits ≠ 0 then scalarBlock g ses index sub offset r data s
    else match index / 256, sub with
      | 0x33, 0x04 => impedanceBlockEff ses seq (index % 256) offset data s
      | 0x58, 0x04 => opTableEff ses seq offset data s
      | 0x69, 0x03 => sourceConfigEff ses offset data s
      | 0x61, 0x05 => slotBlockEff ses seq (index % 256) offset data s
      | 0x68, 0x05 => sessionGateWords ses offset data s
      | 0x6A, 0x09 => referenceBlock ses offset data s
      | 0x90, 0x0A => calBlockEff ses seq offset data s
      | 0xA0, 0x10 => imageBlockEff ses offset data s
      | 0xA0, 0x0A =>
        if g.isSome then signedRootKey ses offset data s
        else if offset = 0 then rootKeySetEff ses data s else s.violate ses 0xA000 0x0A
      | _, _ => putBlob ses index sub offset r data s

/-! ### Meanings -/

/-- PAIR_STORE (R470). -/
def execPairStore (frame : Bytes) (s : State) : Host.Outcome State Fault Refusal := run true s (pairStoreEff frame)

/-- OBJECT_WRITE (R414). -/
def execObjectWrite (ses index sub value : Nat) (s : State) : Host.Outcome State Fault Refusal :=
  run (decide (ses < Config.sessions) && decide (index < 65536) && decide (sub < 256) && decide (value < 2 ^ 64)) s
    (writeWord none ses index sub value)

/-- HIGHEST_VALUE_CLEAR (R416): a write of an object that is no highest value is a violation. -/
def execHighestValueClear (ses index sub value : Nat) (s : State) : Host.Outcome State Fault Refusal :=
  run (decide (ses < Config.sessions) && decide (index < 65536) && decide (sub < 256) && decide (value < 2 ^ 64)) s
    (fun s => if isHighest index sub then highestClear index sub value s else s.violate ses index sub)

end Sys2Proof.Machine
end

