-- ==== Sys2Proof/Machine/Trasia.lean ====
section
/-! DEFINITION. The Trasia operations (chapter 14), signed writes and quotes (chapter 20): what the lock-keeper does
with a frame of the keeper queue. -/

namespace Sys2Proof.Machine

/-! ### Requests -/

/-- The frame leaves the keeper queue. -/
def dequeue (f : Bytes) (s : State) : State :=
  match s.port.keeper.findIdx? fun (e : Nat × Bytes) => e.2 == f with
  | some i => { s with port := { s.port with keeper := s.port.keeper.eraseIdx i } }
  | none => s

/-- A frame of an operation is taken: a new request becomes the session's last and is executed, a duplicate gets the
kept reply, a stale one is counted (R395). -/
def request (op : Nat) (f : Bytes) (g : Trasia → State → State) (s : State) : State :=
  match parseTrasia f with
  | none => s
  | some m =>
    if m.op ≠ op ∨ s.serving m.ses = false then s else
      let s := dequeue f s
      if Config.sessions ≤ m.ses ∨ s.cfgU (0x1100 + m.ses) 0x01 ≠ 1 then s
      else if m.malformed then s.violateOp m.ses op
      else match judgeSeq (s.session m.ses).lastSeq m.seq with
        | .duplicate => resendKept m s
        | .stale => countStale m.ses s
        | .new => g m (s.updSess m.ses fun x => { x with lastSeq := some m.seq, kept := none })

/-- The right an operation needs, a bit of [1100+s.06] (R398); none for the others. -/
def opRight (op : Nat) : Option Nat :=
  match op with
  | 2 => some 0
  | 4 => some 1
  | 5 => some 2
  | 8 => some 3
  | _ => none

/-- The module and the session may execute an operation: in standby only READ, READ_BLOCK, SUBSCRIBE and QUOTE (R388);
in the loader READ, WRITE, WRITE_BLOCK and QUOTE (R520); with its right (R398); SCHEDULE from a source (R203). -/
def State.permits (s : State) (m : Trasia) : Bool :=
  let reads := m.op == 1 || m.op == 3 || m.op == 5 || m.op == 9
  let served := m.op == 1 || m.op == 2 || m.op == 4 || m.op == 9
  (!s.passive || reads) && (decide (s.hw.phase = .firmware) || served) &&
    (match opRight m.op with
     | some b => bit (s.cfgU (0x1100 + m.ses) 0x06) b
     | none => true) &&
    (m.op != 7 || bit (s.cfgU 0x4100 0x01) m.ses)

/-- The reply, kept for a duplicate; none when none is wanted, or when the module has reset (R395, R396). -/
def reply (m : Trasia) (payload : Bytes) (s : State) : State :=
  if bit m.flags 1 ∨ s.serving m.ses = false then s else
    let f := trasiaFrame 1 m.ses m.op m.seq m.count payload
    sendTrasia m.ses none f (s.updSess m.ses fun x => { x with kept := some f })

/-- The effect of a permitted request; one not permitted is ignored, a violation that names no object (R398, R417). -/
def ifPermitted (m : Trasia) (g : State → State) (s : State) : State :=
  if s.permits m then g s else s.violateOp m.ses m.op

/-! ### READ and WRITE (R393) -/

/-- The objects the loader serves: READ of [0000] and [A000] (R520). -/
def State.mayRead (s : State) (index : Nat) : Bool :=
  decide (s.hw.phase = .firmware) || index == 0x0000 || index == 0xA000

/-- The objects the loader takes a WRITE_BLOCK or a WRITE of (R520). -/
def State.mayWrite (s : State) (block : Bool) (index sub : Nat) : Bool :=
  decide (s.hw.phase = .firmware) || (index == 0xA000 && (if block then sub == 0x10 else sub == 0x02 || sub == 0x0F))

/-- One word of a READ: its 8 bytes, its violation counted. -/
def readOne (ses index sub : Nat) (s : State) : Bytes × State :=
  let w := if s.mayRead index then s.readWord ses index sub else (0, true)
  (le 8 w.1, if w.2 then s.violate ses index sub else s)

/-- The words of a READ, in order. -/
def readWords (ses : Nat) (payload : Bytes) : Nat → State → Bytes × State
  | 0, s => ([], s)
  | n + 1, s =>
    let a := readOne ses (u16At payload 0) (u8At payload 2) s
    let r := readWords ses (payload.drop 4) n a.2
    (a.1 ++ r.1, r.2)

/-- READ. -/
def readEff (m : Trasia) (s : State) : State :=
  if s.permits m then
    let r := readWords m.ses m.payload m.count s
    reply m r.1 r.2
  else s.violateOp m.ses m.op

/-- The words of a WRITE, in order; none follows a reset. -/
def writeWords (g : Signed) (ses : Nat) (payload : Bytes) : Nat → State → State
  | 0, s => s
  | n + 1, s =>
    let index := u16At payload 0
    let sub := u8At payload 2
    let s := if s.serving ses = false then s
      else if s.mayWrite false index sub then writeWord g ses index sub (u64At payload 4) s
      else s.violate ses index sub
    writeWords g ses (payload.drop 12) n s

/-- WRITE. -/
def writeEff (m : Trasia) (s : State) : State :=
  reply m [] (ifPermitted m (writeWords none m.ses m.payload m.count) s)

/-! ### READ_BLOCK and WRITE_BLOCK (R394, R418) -/

/-- The bytes of a READ_BLOCK of allowed length; a read of [7200.06] advances the session's sequence (R494). -/
def blockRead (ses index sub offset length : Nat) (s : State) : Bytes × State :=
  if index = 0x7200 ∧ sub = 0x06 then readRecords ses offset length s
  else
    let s := when_ (index == 0x7200 && sub == 0x07) (fun s => warnTouched s.latestList offset length s) s
    let r := s.readBlock ses index sub offset length
    (r.1, if r.2 then s.violate ses index sub else s)

/-- READ_BLOCK. -/
def readBlockEff (m : Trasia) (s : State) : State :=
  let index := u16At m.payload 0
  let sub := u8At m.payload 2
  let n := u32At m.payload 8
  if s.permits m = false then s.violateOp m.ses m.op
  else if n = 0 ∨ s.blockLimit < n then
    reply m (m.payload.take 12 ++ List.replicate (min n s.blockLimit) 0) (s.violate m.ses index sub)
  else
    let r := blockRead m.ses index sub (u32At m.payload 4) n s
    reply m (m.payload.take 12 ++ r.1) r.2

/-- The block a WRITE_BLOCK names, its length that of its data. -/
def writeBlockBody (g : Signed) (ses : Nat) (payload : Bytes) (s : State) : State :=
  let index := u16At payload 0
  let sub := u8At payload 2
  let data := payload.drop 12
  if data = [] ∨ u32At payload 8 ≠ data.length ∨ s.blockLimit < data.length ∨ s.mayWrite true index sub = false then
    s.violate ses index sub
  else writeBytes g ses index sub (u32At payload 4) data s

/-- The frame has opened an impedance write that is still open: its entries wait for the tray's next update (R190). -/
def opensLate (s s' : State) : Bool :=
  s.txn.highest != s'.txn.highest && match s'.txnById s'.txn.highest with
    | some r => r.kind == 2 && r.st == 0
    | none => false

/-- WRITE_BLOCK: an impedance write is answered when its transaction has closed (R433). -/
def writeBlockEff (m : Trasia) (s : State) : State :=
  let s' := ifPermitted m (writeBlockBody none m.ses m.payload) s
  if opensLate s s' then
    if bit m.flags 1 then s' else
      let r : LateReply := { id := s'.txn.highest, ses := m.ses, seq := m.seq, frame := trasiaFrame 1 m.ses m.op m.seq m.count [] }
      { s' with port := { s'.port with late := s'.port.late ++ [r] } }
  else reply m [] s'

/-- A late reply leaves; it is kept while its request is the session's last (R395). -/
def sendLate (r : LateReply) (s : State) : State :=
  if s.serving r.ses = false then s else
    let s := if (s.session r.ses).lastSeq = some r.seq then s.updSess r.ses fun x => { x with kept := some r.frame } else s
    sendTrasia r.ses none r.frame s

/-- The late replies whose transactions have closed leave (R433). -/
def flushLate (s : State) : State :=
  let waits := fun (r : LateReply) => match s.txnById r.id with
    | some x => x.st == 0
    | none => false
  (s.port.late.filter fun r => !waits r).foldl (fun s r => sendLate r s)
    { s with port := { s.port with late := s.port.late.filter waits } }

/-! ### SCHEDULE (R202, R392) -/

/-- When a frame of the keeper queue arrived (Table 13.4); now, of one that never waited. -/
def State.arrivalOf (s : State) (f : Bytes) : Nat :=
  match s.port.keeper.find? fun (e : Nat × Bytes) => e.2 == f with
  | some e => e.1
  | none => s.now

/-- SCHEDULE: 1 to 256 entries, 32 at an MTU of 1500; notice and lead count from its arrival (R204). -/
def scheduleBody (arr : Nat) (m : Trasia) (s : State) : State :=
  let most := if s.cfgU 0x1000 0x0A = 1500 then 32 else 256
  if m.count = 0 ∨ most < m.count then s.violateOp m.ses m.op else schedAll arr m.ses m.count m.payload s

/-- SCHEDULE. -/
def scheduleEff (arr : Nat) (m : Trasia) (s : State) : State := reply m [] (ifPermitted m (scheduleBody arr m) s)

/-! ### Streams (R400) -/

/-- Streams the module holds. -/
def State.streamCount (s : State) : Nat := s.sess.foldl (fun n x => n + x.streams.length) 0

/-- A range that a stream may snapshot: its object is present and readable. -/
def readableObject (s : State) (index sub : Nat) : Bool :=
  match s.objectAt index sub with
  | some r => decide (r.acc ≠ .wo)
  | none => false

/-- SUBSCRIBE: period 0 cancels. A grant stream waits for the next cut (R229). -/
def subscribeBody (m : Trasia) (s : State) : State :=
  let p := m.payload
  let index := u16At p 0
  let sub := u8At p 2
  let len := u32At p 8
  let period := u32At p 12
  let others := (s.session m.ses).streams.filter fun y => y.i != m.count
  if 16 ≤ m.count then s.violateOp m.ses m.op
  else if period = 0 then s.updSess m.ses fun x => { x with streams := others }
  else if len = 0 ∨ 65536 < len ∨ period < 100 ∨ 3600000000 < period ∨ readableObject s index sub = false then
    s.violate m.ses index sub
  else if 256 ≤ s.streamCount + others.length - (s.session m.ses).streams.length then s.violateOp m.ses m.op
  else
    let y : Stream :=
      { i := m.count, index := index, sub := sub, offset := u32At p 4, length := len, period := period
        phase := u32At p 16, last := if index = 0x5000 ∧ sub = 0x18 ∧ period = 1000 then some s.now else none }
    s.updSess m.ses fun x => { x with streams := others ++ [y] }

/-- SUBSCRIBE. -/
def subscribeEff (m : Trasia) (s : State) : State := reply m [] (ifPermitted m (subscribeBody m) s)

/-- An instance is due: at the stream's instants, or for a grant stream of one epoch at the cut (R229). -/
def State.streamDue (s : State) (y : Stream) : Bool :=
  if y.index = 0x5000 ∧ y.sub = 0x18 ∧ y.period = 1000 then
    match s.gov.cutAt, y.last with
    | some c, some l => decide (l < c)
    | some _, none => true
    | none, _ => false
  else s.now % 1000 == 0 && (s.now / 1000 + y.period - y.phase % y.period) % y.period == 0 && y.last != some s.now

/-- A snapshot of a range. -/
def State.snapshot (s : State) (ses : Nat) (y : Stream) : Bytes :=
  if y.index = 0x7200 ∧ y.sub = 0x06 then (readRecords ses y.offset y.length s).1
  else (s.readBlock ses y.index y.sub y.offset y.length).1

/-- The session's next outgoing sequence (R396). -/
def nextOut (ses : Nat) (s : State) : State :=
  s.updSess ses fun x => { x with outSeq := (x.outSeq + 1) % 4294967296 }

/-- Frames k on of an instance. -/
def sendInstance (ses i frames at_ : Nat) (data : Bytes) (limit : Nat) : Nat → Nat → State → State
  | 0, _, s => s
  | n + 1, k, s =>
    let body := le 2 k ++ le 2 frames ++ le 4 (k * limit) ++ le 8 at_ ++ slice data (k * limit) limit
    let f := trasiaFrame 4 ses 5 (s.session ses).outSeq i body
    sendInstance ses i frames at_ data limit n (k + 1) (nextOut ses (sendTrasia ses (some i) f s))

/-- STREAM_INSTANCE: an unsent earlier instance is replaced (Table 14.6). -/
def streamInstanceEff (ses i : Nat) (s : State) : State :=
  match (s.session ses).streams.find? fun y => y.i == i with
  | none => s
  | some y =>
    if s.streamDue y = false then s else
      let data := s.snapshot ses y
      let s := when_ (y.index == 0x7200 && y.sub == 0x06) (fun s => warnTouched (s.recordsFrom ses) y.offset y.length s) s
      let s := when_ (y.index == 0x7200 && y.sub == 0x07) (fun s => warnTouched s.latestList y.offset y.length s) s
      let s := s.updSess ses fun x => { x with
        streams := x.streams.map fun z => if z.i = i then { z with last := some s.now } else z }
      if s.port.link ≠ 2 then s else
        let s := { s with port := { s.port with
          held := s.port.held.filter fun h => !(h.ses == ses && h.stream == some i) } }
        let n := (data.length + s.blockLimit - 1) / s.blockLimit
        sendInstance ses i n s.now data s.blockLimit n 0 s

/-! ### Transfers and signed writes (R401, R525, R526) -/

/-- The parts of a transfer, put together in order. -/
def Transfer.assemble (x : Transfer) : Bytes :=
  (List.range x.parts).flatMap fun i => Store.get [] x.got i

/-- A part joins the session's transfer; a new id discards the one in progress. -/
def joinPart (m : Trasia) (s : State) : Transfer :=
  let p := m.payload
  let fresh : Transfer := { id := u16At p 0, parts := u16At p 2, total := u32At p 4, since := s.now, got := [] }
  let x := match (s.session m.ses).transfer with
    | some x => if x.id = fresh.id ∧ x.parts = fresh.parts ∧ x.total = fresh.total then x else fresh
    | none => fresh
  { x with got := Store.ins m.count (p.drop 8) (Store.del x.got m.count) }

/-- SIGNED_WRITE: the part that completes the transfer is answered. A transfer that comes while one is being verified
is discarded (Table 20.7); a whole one of another length than it states is a violation. -/
def signedPart (m : Trasia) (s : State) : State :=
  let parts := u16At m.payload 2
  if bit m.flags 3 = false ∨ parts = 0 ∨ 64 < parts ∨ parts ≤ m.count ∨ s.partLimit < m.payload.length - 8 then
    s.violateOp m.ses m.op
  else if (s.session m.ses).verify.isSome then s
  else
    let x := joinPart m s
    if x.got.length < parts then s.updSess m.ses fun y => { y with transfer := some x }
    else
      let s := s.updSess m.ses fun y => { y with transfer := none }
      if x.assemble.length ≠ x.total then s.violateOp m.ses m.op
      else reply { m with count := parts } [] (s.updSess m.ses fun y => { y with verify := some x.assemble })

/-- SIGNED_WRITE. -/
def signedWriteEff (m : Trasia) (s : State) : State := ifPermitted m (signedPart m) s

/-- SIGNED_TRANSFER_TIMEOUT: 1 s from the first part. -/
def transferTimeoutEff (ses : Nat) (s : State) : State :=
  match (s.session ses).transfer with
  | some x =>
    if x.since + sec ≤ s.now then (s.updSess ses fun y => { y with transfer := none }).violateOp ses 8 else s
  | none => s

/-- An object is covered by a certificate's rights: those of SEC access need one (Table 20.5). -/
def rightsCover (rights index sub : Nat) : Bool :=
  match objectOf index sub with
  | some r => decide (r.acc ≠ .sec) || bit rights (if index = 0x7200 then 0 else 1)
  | none => true

/-- Every object an inner request names is covered. -/
def innerCovered (rights : Nat) (m : Trasia) : Bool :=
  if m.op = 2 then
    (List.range m.count).all fun i => rightsCover rights (u16At m.payload (12 * i)) (u8At m.payload (12 * i + 2))
  else rightsCover rights (u16At m.payload 0) (u8At m.payload 2)

/-- The inner request of a session: a WRITE or WRITE_BLOCK frame whose CRC holds. -/
def innerRequest (ses : Nat) (f : Bytes) : Option Trasia :=
  match parseTrasia f with
  | some m => if m.ses = ses ∧ (m.op = 2 ∨ m.op = 4) then some m else none
  | none => none

/-- The result of the checks of R526, in order: 1 applied, else the first that fails ([A000.0C]). -/
def signedResult (ses : Nat) (b : Bytes) (s : State) : Nat :=
  let n := u32At b 0
  let sb := b.drop (4 + n)
  let notAfter := u64At sb 16
  let key := slice sb 24 48
  if s.noRootKey then 2
  else if !Config.slhVerify s.sec.rootKey ctxCert (slice sb 8 128) (slice sb 136 16224) ||
      slice sb 72 64 != List.replicate 64 0 then 3
  else if notAfter ≠ 0 ∧ (s.clk.ever = false ∨ (notAfter : Int) < (s.now : Int) + s.clk.off) then 4
  else if !Config.slhVerify key ctxSigned (s.deviceId ++ slice sb 0 8 ++ b.take (4 + n)) (slice sb 16360 16224) then 5
  else if u64At sb 0 ≤ s.sec.counter then 6
  else match innerRequest ses (slice b 4 n) with
    | none => 7
    | some m =>
      if b.length ≠ 4 + n + 32584 then 7 else if innerCovered (u32At sb 12) m then 1 else 8

/-- The inner request, applied with the certificate's rights (Table 15.2). -/
def applyInner (g : Signed) (m : Trasia) (s : State) : State :=
  if m.malformed then s.violateOp m.ses m.op
  else if m.op = 2 then writeWords g m.ses m.payload m.count s
  else writeBlockBody g m.ses m.payload s

/-- A verified transfer b is applied (R526). -/
def signedApply (ses : Nat) (b : Bytes) (s : State) : State :=
  let n := u32At b 0
  let sb := b.drop (4 + n)
  let s := { s with sec := { s.sec with
    counter := u64At sb 0, lastResult := 1, applied := sat32 (s.sec.applied + 1) } }
  match innerRequest ses (slice b 4 n) with
  | some m => applyInner (some (u32At sb 12, slice sb 24 48)) m s
  | none => s

/-- A refusal: 0E02h and a violation of the session. -/
def signedRefuse (ses result : Nat) (s : State) : State :=
  (State.raise { s with sec := { s.sec with
    lastResult := result, refused := sat32 (s.sec.refused + 1) } } 0x0E02 noInst).violateOp ses 8

/-- SIGNED_WRITE_VERIFY: the complete transfer of a session. -/
def signedVerifyEff (ses : Nat) (s : State) : State :=
  match (s.session ses).verify with
  | none => s
  | some b =>
    let s := s.updSess ses fun y => { y with verify := none }
    if s.passive then s else
    let r := signedResult ses b s
    if r = 1 then signedApply ses b s else signedRefuse ses r s

/-! ### Quotes (R402, R524) -/

/-- Requests that wait behind the one being signed (R524). -/
def State.quotesWaiting (s : State) : Nat := s.sec.quotes.length - 1

/-- QUOTE: signed in its turn, or dropped when four wait. -/
def quoteBody (m : Trasia) (s : State) : State :=
  if 4 ≤ s.quotesWaiting then
    State.raise { s with sec := { s.sec with quoteDrops := sat32 (s.sec.quoteDrops + 1) } } 0x0E03 noInst
  else { s with sec := { s.sec with quotes := s.sec.quotes ++ [(m.ses, m.seq, m.payload.take 32, s.now)] } }

/-- QUOTE; one that wants no reply asks for nothing. -/
def quoteEff (m : Trasia) (s : State) : State :=
  if s.permits m = false then s.violateOp m.ses m.op else if bit m.flags 1 then s else quoteBody m s

/-- The quote of Table 20.4 over a nonce. -/
def State.quoteOf (s : State) (nonce : Bytes) : Bytes :=
  let x := s.sec
  let b := [0x51, 0x55, 0x4F, 0x54] ++ le 2 1 ++ le 2 x.log.length ++ le 8 s.now ++ le 4 x.image.version ++
    le 4 s.od.powerCycles ++ le 1 (codeIn clockStates s.clk.st) ++
    le 1 (b2n x.overflow + 2 * b2n (decide (s.hw.phase = .loader))) ++ le 6 0 ++ s.deviceId ++ nonce ++ x.agg ++
    x.log.flatten ++ x.idKey
  b ++ padTo 17088 (Config.slhSign ctxQuote b)

/-- Parts k on of a quote. -/
def sendParts (ses id parts : Nat) (data : Bytes) (limit : Nat) : Nat → Nat → State → State
  | 0, _, s => s
  | n + 1, k, s =>
    let body := le 2 id ++ le 2 parts ++ le 4 data.length ++ slice data (k * limit) limit
    let f := trasiaFrame 9 ses 9 (s.session ses).outSeq k body
    sendParts ses id parts data limit n (k + 1) (nextOut ses (sendTrasia ses none f s))

/-- QUOTE_SIGNED: the oldest request is answered. -/
def quoteSignedEff (s : State) : State :=
  match s.sec.quotes with
  | [] => s
  | q :: rest =>
    let b := s.quoteOf q.2.2.1
    let s := { s with sec := { s.sec with quotes := rest, signed := sat32 (s.sec.signed + 1) } }
    let n := (b.length + s.partLimit - 1) / s.partLimit
    sendParts q.1 (q.2.1 % 65536) n b s.partLimit n 0 s

/-! ### Meanings -/

/-- READ (R393). -/
def execRead (frame : Bytes) (s : State) : Host.Outcome State Fault Refusal := runIf true true s (request 1 frame readEff)

/-- WRITE (R393). -/
def execWrite (frame : Bytes) (s : State) : Host.Outcome State Fault Refusal := runIf true true s (request 2 frame writeEff)

/-- READ_BLOCK (R394). -/
def execReadBlock (frame : Bytes) (s : State) : Host.Outcome State Fault Refusal :=
  runIf true true s (request 3 frame readBlockEff)

/-- WRITE_BLOCK (R418). -/
def execWriteBlock (frame : Bytes) (s : State) : Host.Outcome State Fault Refusal :=
  runIf true true s (request 4 frame writeBlockEff)

/-- SUBSCRIBE (R400). -/
def execSubscribe (frame : Bytes) (s : State) : Host.Outcome State Fault Refusal :=
  runIf true true s (request 5 frame subscribeEff)

/-- SCHEDULE (R204). -/
def execSchedule (frame : Bytes) (s : State) : Host.Outcome State Fault Refusal :=
  runIf true true s (request 7 frame (scheduleEff (s.arrivalOf frame)))

/-- SIGNED_WRITE (R401). -/
def execSignedWrite (frame : Bytes) (s : State) : Host.Outcome State Fault Refusal :=
  runIf true true s (request 8 frame signedWriteEff)

/-- QUOTE (R524). -/
def execQuote (frame : Bytes) (s : State) : Host.Outcome State Fault Refusal := runIf true true s (request 9 frame quoteEff)

/-- STREAM_INSTANCE (R400). -/
def execStreamInstance (ses stream : Nat) (s : State) : Host.Outcome State Fault Refusal :=
  run (decide (ses < Config.sessions) && decide (stream < 16)) s (streamInstanceEff ses stream)

/-- SIGNED_TRANSFER_TIMEOUT (R401). -/
def execSignedTransferTimeout (ses : Nat) (s : State) : Host.Outcome State Fault Refusal :=
  run (decide (ses < Config.sessions)) s (transferTimeoutEff ses)

/-- SIGNED_WRITE_VERIFY (R526). -/
def execSignedWriteVerify (ses : Nat) (s : State) : Host.Outcome State Fault Refusal :=
  run (decide (ses < Config.sessions)) s (signedVerifyEff ses)

/-- QUOTE_SIGNED (R524): in the loader too. -/
def execQuoteSigned (s : State) : Host.Outcome State Fault Refusal := runServed true 0 s quoteSignedEff

end Sys2Proof.Machine
end

