-- ==== Sys2Proof/Machine/ControlPeriod.lean ====
section
/-! DEFINITION. CONTROL_PERIOD: one control period, from the bus-voltage sample to the edge commands (R16, R17), with
what runs beside it every microsecond: the waveform frame, the taps, the records, the pair link's TIME. -/

namespace Sys2Proof.Machine

/-! ### The waveform frame (R378, Table 13.5) -/

/-- A value in an unsigned 16-bit field. -/
def fieldU16 (x : Rat) : Nat := (clampI 0 65535 (roundEven x)).toNat

/-- A value in a signed 16-bit field. -/
def fieldI16 (x : Rat) : Nat := unsigned 16 (clampI (-32768) 32767 (roundEven x))

/-- The samples of tray t at the four instants of the half that begins at a. -/
def halfSamples (s : State) (t a : Nat) : List Sample :=
  (List.range 4).filterMap fun k => (s.link t).samples.find? fun x => x.at_ == a + 125 * k

/-- Current and switch node of one phase over one half: means of its four samples, free values where one of the four
never arrived (log entry 55). -/
def halfEntry (l : List Sample) (free p : Nat) : Bytes :=
  if l.length = 4 then
    le 2 (fieldI16 (meanQ (l.map fun x => get 0 x.i p) * 256)) ++ le 2 (fieldU16 (meanQ (l.map fun x => get 0 x.vSw p) * 64))
  else le 2 (Config.freeNat free % 65536) ++ le 2 (Config.freeNat (free + 1) % 65536)

/-- All phases over the half that begins at a. -/
def halfBytes (s : State) (a free : Nat) : Bytes :=
  (List.range Config.trays).flatMap fun t =>
    let l := halfSamples s t a
    (List.range Config.phases).flatMap fun p => halfEntry l (free + 16 * t + 2 * p) p

/-- Phase p of tray t has all eight samples of the microsecond, all valid. -/
def frameValid (s : State) (t a p : Nat) : Bool :=
  let l := halfSamples s t a ++ halfSamples s t (a + 500)
  l.length == 8 && l.all fun x => get false x.ok p

/-- The frame of the microsecond that began at a. -/
def waveFrame (s : State) (a : Nat) : Bytes :=
  let trays := List.range Config.trays
  let noTime := !(decide (s.clk.st = .locked) || decide (s.clk.st = .following))
  let step := match s.clk.stepAt with
    | some x => decide (a ≤ x) && decide (x < a + 1000)
    | none => false
  let valid := trays.map fun t => ((List.range Config.phases).map fun p => b2n (frameValid s t a p) * 2 ^ p).sum
  le 8 a ++ le 2 (fieldU16 (s.loop.vBus * 64)) ++ le 2 (fieldI16 (s.loop.iSt * 8)) ++ le 1 (unsigned 8 s.loop.sat) ++
    le 1 (b2n (decide (s.loop.st = .run)) + 2 * b2n noTime + 4 * b2n step) ++
    le 2 (trays.map fun t => b2n (s.link t).up * 2 ^ t).sum ++
    (trays.flatMap fun t => le 2 (fieldU16 ((s.link t).vLink * 64))) ++ valid.flatMap (le 1) ++
    halfBytes s a s.freeCount ++ halfBytes s (a + 500) (s.freeCount + 256)

/-- The frame of the microsecond that ends enters the ring. -/
def capPeriod (a : Nat) (s : State) : State :=
  if s.capOn then capFrame a (waveFrame s a) { s with freeCount := s.freeCount + 512 } else s

/-! ### Void periods of the firmware's slots (R303, R306, R307) -/

/-- The firmware slot of an absent tray's phase manager: its core is in the user region (R309). -/
def State.noManager (s : State) (n : Nat) : Bool :=
  decide (2 ≤ n) && decide (n ≤ 17) && decide ((s.tray (n - 2)).st = .absent)

/-- The stages of the firmware slots of a microsecond that are void in the present period, slot and stage: a void runs down
from the bus loop, and from S7, over allocation to the phase managers (R303, Table 2.1). The governor's are its epochs'. -/
def State.voidStages (s : State) : List (Nat × Nat) :=
  let loop := s.fwStageVoid 0 5 || s.fwStageVoid 0 6
  let alloc := loop || s.fwStageVoid 1 0
  ((List.range 19) ++ [20, 21]).flatMap fun n =>
    if s.noManager n then [] else
      ((List.range (fwStages n)).filter fun k =>
        s.fwStageVoid n k || (n == 1 && loop) || (decide (2 ≤ n) && decide (n ≤ 17) && alloc)).map fun k => (n, k)

/-- They are counted ([6000.0B], [6100+n.0F]); the marks of the period end with it, the governor's with its epoch. -/
def countVoids (v : List (Nat × Nat)) (s : State) : State :=
  { s with
    grid := { s.grid with voids := s.grid.voids + v.length, fwVoid := s.grid.fwVoid.filter fun e => e.1 == 19 }
    slots := if v = [] then s.slots else s.slots.mapIdx fun n x =>
      { x with voids := x.voids + (v.filter fun e => e.1 == n).length } }

/-! ### Records of the firmware's slots (R355, R356, log entry 50) -/

/-- Stage k of a firmware slot saturated in the last period (R293). -/
def State.fwSat (s : State) (n k : Nat) : Bool :=
  (n == 0 && bit s.loop.satFlags (k + 1)) || (n == 1 && s.alloc.sat)

/-- A checkpoint of a firmware slot after a period. Its state regions are not in the spec: a free value. -/
def fwCheckpoint (n us : Nat) (s : State) : State :=
  if s.captured n then
    capRecord 3 n (le 4 (us % 4294967296) ++ le 4 0 ++ le 8 (Config.freeNat s.freeCount))
      { s with freeCount := s.freeCount + 1 }
  else s

/-- A period of a firmware slot: its input record, the digests of its stages, its firings, and its checkpoints (Table
12.9): at its binding, which is before its first period, then every 1,024 periods. The blocks that the inputs hold
and the digests hash are not in the spec: free values. -/
def fwSlotPeriod (n us : Nat) (v : List (Nat × Nat)) (s : State) : State :=
  if s.noManager n ∨ (n = 19 ∧ us % 1000 ≠ 0) then s else
    let tag := us % 4294967296
    let step := if n = 19 then 1000 else 1
    let stages := List.range (fwStages n)
    let isVoid := fun (k : Nat) => v.contains (n, k)
    let s := if (s.slot n).digests = [] then fwCheckpoint n (us + 4294967296 - step) s else s
    let s := inputRecord n 0 tag (le 8 (Config.freeNat s.freeCount)) { s with freeCount := s.freeCount + 1 }
    let first := s.freeCount
    let digest := fun (k : Nat) => if isVoid k then 0 else Config.freeNat (first + k) % 18446744073709551616
    let s := { s with freeCount := first + stages.length }
    let s := stages.foldl (fun s k => digestRecord (digest k) tag n k (isVoid k) (s.fwSat n k && !isVoid k) s) s
    let s := s.updSlot n (fun x => { x with
      digests := stages.map digest, firings := x.firings + (stages.filter fun k => !isVoid k).length })
    if us % (1024 * step) = 0 then fwCheckpoint n us s else s

/-- The firmware slots of the period that begins at a whole microsecond. -/
def fwRecords (us : Nat) (v : List (Nat × Nat)) (s : State) : State :=
  let v := v ++ ((List.range (fwStages 19)).filter (s.fwStageVoid 19)).map fun k => (19, k)
  (List.range 22).foldl (fun s n => fwSlotPeriod n us v s) s

/-! ### Taps (R354, Table 12.8) -/

/-- Source core and firmware stage of a tap. -/
def tapFrom (tap : Nat) : Nat × (Nat × Nat) :=
  match tap with
  | 1 => (0, (0, 0))
  | 2 => (5, (0, 5))
  | 3 => (6, (0, 6))
  | 4 => (7, (1, 0))
  | _ => (32, (64, 0))

/-- Exponent and values of a tap. -/
def tapValues (s : State) (tap : Nat) : Int × List Rat :=
  match tap with
  | 1 => (expV, [s.loop.vBus])
  | 2 => (expA, [s.loop.iSt, (s.loop.sat : Rat)])
  | 3 => (expM, (List.range Config.trays).map fun t => get 0 s.loop.m t)
  | 4 => (expA, (List.range Config.trays).map fun t => (s.tray t).iT)
  | 5 => (expA, [(s.tide.il.headD (0, 0)).2])
  | _ => (expA, [(s.loop.slopes.head?.map (·.s)).getD 0])

/-- The tap sends this period. -/
def tapDue (t0 tap : Nat) : Bool := decide (1 ≤ tap) && decide (tap ≤ 4) || (tap == 5 || tap == 6) && t0 % 10000 == 0

/-- One tap to one consumer. -/
def sendTap (n t0 : Nat) (v : List (Nat × Nat)) (b : Binding) (s : State) : State :=
  match (s.slot n).program.chan b.chan with
  | some c =>
    if b.kind = 0 ∧ tapDue t0 b.peer = true then
      let x := tapValues s b.peer
      let f := tapFrom b.peer
      let dst := s.stageCore n c.consumer
      let tag := t0 / 1000 % 4294967296
      if v.contains f.2 then sendBarge f.1 dst 2 n b.chan tag [] s
      else sendBarge f.1 dst 0 n b.chan tag (blockBytes (renorm 3 false x.1 x.2)) s
    else s
  | none => s

/-- The taps of the period, to every bound free slot. -/
def sendTaps (t0 : Nat) (v : List (Nat × Nat)) (s : State) : State :=
  freeSlots.foldl (fun s n =>
    if (s.slot n).st = .bound then (s.bindings n).foldl (fun s b => sendTap n t0 v b s) s else s) s

/-! ### The chain -/

/-- Phase manager and edge engine of tray t. -/
def phaseChain (t0 t : Nat) (s : State) : State := edgeFrame t0 t (phasePeriod t0 t s)

/-- The sample-to-command delay of the period: within R17, else free (log entry 17). -/
def delayPeriod (s : State) : State :=
  let d := Config.freeNat s.freeCount % 901
  { s with
    freeCount := s.freeCount + 1
    loop := { s.loop with delayLast := d, delayHigh := max s.loop.delayHigh d } }

/-- Loop, allocation, phases, trays, charge counting, feed interface and forecaster's estimate of the period that
begins at t0, but for the void ones (R303). -/
def chain (t0 : Nat) (v : List (Nat × Nat)) (s : State) : State :=
  let go := fun (n : Nat) (f : State → State) (s : State) => if v.contains (n, fwStages n - 1) then s else f s
  let f := s.loop.ff
  let s := if t0 % 10000 = 0 ∧ v.contains (64, 0) = false then cutEntries t0 { s with tide := { s.tide with cutF := f } } else s
  let s := match (List.range 6).find? fun k => v.contains (0, k) with
    | some k => { s with loop := flagM (loopUpTo k s t0) }
    | none => loopPeriod t0 s
  let s := go 1 (allocPeriod t0) s
  let s := forTrays (fun t => go (t + 2) (phaseChain t0 t)) s
  let s := urgentPeriod t0 (forTrays (trayPeriod t0) (delayPeriod s))
  let s := go 18 (fun s => forTrays (chargePeriod t0) s) s
  go 64 (fun s => switchAtCut t0 (tidePeriod t0 s)) (go 20 (feedPeriod t0) s)

/-- The running second of the bus-voltage equalisation (Table 19.3): only in RUN. -/
def equalisePeriod (t0 : Nat) (s : State) : State :=
  if s.shelfRun = false then { s with cal := { s.cal with eqSince := none } } else
    let s := if s.cal.eqSince = none then startSecond s else s
    if s.loop.vOk = false ∨ s.loop.vBus = 0 then s else
      let r := fun (t : Nat) => s.reading t0 t
      { s with cal := { s.cal with
        eqSum := s.cal.eqSum.mapIdx fun t x => match r t with
          | some v => x + (v - s.loop.vBus) / s.loop.vBus
          | none => x
        eqN := s.cal.eqN.mapIdx fun t n => n + b2n (r t).isSome } }

/-! ### Beside the chain -/

/-- TIME of the active module every period, HELLO every 10 ms (Table 17.4). -/
def pairPeriod (t0 : Nat) (s : State) : State :=
  let s := if s.pair.role = .active then s.sendPair 2 false (le 4 0 ++ le 4 0) else s
  if t0 % 10000000 = 0 then sendHello s else s

/-- Shelf time goes on to t0; the keeper cores write their watchdogs. -/
def clockPeriod (t0 : Nat) (s : State) : State :=
  let s := s.advance t0
  { s with fm := { s.fm with watchdog := if t0 % 10000000 = 0 then List.replicate 4 t0 else s.fm.watchdog } }

/-- The voltage ratios are stage S7's: kept while it is void (R37, R303), and its saturation is not reported. -/
def ingestPeriod (t0 : Nat) (v : List (Nat × Nat)) (s : State) : State :=
  let l := s.loop
  let s := ingest t0 s
  if v.contains (0, 6) then { s with loop := { s.loop with m := l.m, satM := false } } else s

/-- The next whole microsecond of shelf time. -/
def nextPeriod (s : State) : Nat := (s.now / 1000 + 1) * 1000

/-- Every stage of the firmware's slots, and the forecaster's cores as (64, 0). -/
def allStages : List (Nat × Nat) :=
  (64, 0) :: (List.range 22).flatMap fun n => (List.range (fwStages n)).map fun k => (n, k)

/-- A period of a module that does not drive: a standby runs its live routines from the upstream frames (R512). -/
def followPeriod (t0 : Nat) (s : State) : State :=
  if s.follows then forTrays (chargePeriod t0) (equalisePeriod t0 s) else s

/-- A driving module's period: chain, equalisation, taps, records. In the millisecond of a step no program runs (R369). -/
def drivePeriod (t0 : Nat) (v : List (Nat × Nat)) (s : State) : State :=
  if s.drives = false then followPeriod t0 s
  else if s.withheld t0 then equalisePeriod t0 (chain t0 v s)
  else fwRecords (t0 / 1000) v (sendTaps t0 v (equalisePeriod t0 (chain t0 v s)))

/-- The state as the next period begins: the waveform frame taken, shelf time there, the loop's due instants settled. -/
def periodBegun (s : State) : State := settleLoop (clockPeriod (nextPeriod s) (capPeriod (nextPeriod s - 1000) s))

/-- CONTROL_PERIOD. -/
def controlEff (s : State) : State :=
  let t0 := nextPeriod s
  let s := periodBegun s
  let still := s.withheld t0
  let v := if still then allStages else s.voidStages
  let s := drivePeriod t0 v (clampPeriod t0 (ingestPeriod t0 v s))
  let s := countVoids (if still then [] else v) s
  flushJ1 (flushLate (pairPeriod t0 s))

/-- CONTROL_PERIOD (R16, R17). -/
def execControlPeriod (s : State) : Host.Outcome State Fault Refusal := run true s controlEff

end Sys2Proof.Machine
end

