-- ==== Sys2Proof/Machine/Dispatch.lean ====
section
/-! DEFINITION. Every command and its meaning. -/

namespace Sys2Proof.Machine

/-- The effect of a command on everything but the queue. -/
def exec (i : Instr) (s : State) : Host.Outcome State Fault Refusal :=
  match i with
  | .controlPeriod => Sys2Proof.Machine.execControlPeriod s
  | .trayReadingExcluded t => Sys2Proof.Machine.execTrayReadingExcluded t s
  | .trayReadingReadmitted t => Sys2Proof.Machine.execTrayReadingReadmitted t s
  | .loopHoldTimeout => Sys2Proof.Machine.execLoopHoldTimeout s
  | .clampPersistent => Sys2Proof.Machine.execClampPersistent s
  | .windowTimeout => Sys2Proof.Machine.execWindowTimeout s
  | .farWindowTimeout => Sys2Proof.Machine.execFarWindowTimeout s
  | .softStartComplete => Sys2Proof.Machine.execSoftStartComplete s
  | .stoppingComplete => Sys2Proof.Machine.execStoppingComplete s
  | .loopStart ses => Sys2Proof.Machine.execLoopStart ses s
  | .loopBlackStart ses => Sys2Proof.Machine.execLoopBlackStart ses s
  | .loopStop ses => Sys2Proof.Machine.execLoopStop ses s
  | .loopReset ses => Sys2Proof.Machine.execLoopReset ses s
  | .halfPeriodUpdate t p => Sys2Proof.Machine.execHalfPeriodUpdate t p s
  | .deEntry t p => Sys2Proof.Machine.execDeEntry t p s
  | .balanceTrimAtLimit t p => Sys2Proof.Machine.execBalanceTrimAtLimit t p s
  | .phaseOpenDetected t p => Sys2Proof.Machine.execPhaseOpenDetected t p s
  | .phaseSenseFailed t p => Sys2Proof.Machine.execPhaseSenseFailed t p s
  | .traySumMismatch t => Sys2Proof.Machine.execTraySumMismatch t s
  | .identificationComplete t => Sys2Proof.Machine.execIdentificationComplete t s
  | .phaseHandoffComplete t p => Sys2Proof.Machine.execPhaseHandoffComplete t p s
  | .phaseOutOfService ses t p => Sys2Proof.Machine.execPhaseOutOfService ses t p s
  | .phaseIntoService ses t p => Sys2Proof.Machine.execPhaseIntoService ses t p s
  | .phaseDrawStart t => Sys2Proof.Machine.execPhaseDrawStart t s
  | .phaseDrawingComplete t p => Sys2Proof.Machine.execPhaseDrawingComplete t p s
  | .phaseRestoreComplete t p => Sys2Proof.Machine.execPhaseRestoreComplete t p s
  | .drawingLockoutExpiry => Sys2Proof.Machine.execDrawingLockoutExpiry s
  | .phaseOvercurrent t frame => Sys2Proof.Machine.execPhaseOvercurrent t frame s
  | .busOvervoltage t frame => Sys2Proof.Machine.execBusOvervoltage t frame s
  | .sampleFrame t frame => Sys2Proof.Machine.execSampleFrame t frame s
  | .statusFrame t frame => Sys2Proof.Machine.execStatusFrame t frame s
  | .stageConfigReply t frame => Sys2Proof.Machine.execStageConfigReply t frame s
  | .timeFrameSend t => Sys2Proof.Machine.execTimeFrameSend t s
  | .linkDelayMeasure t roundTrip => Sys2Proof.Machine.execLinkDelayMeasure t roundTrip s
  | .linkLaneLost t => Sys2Proof.Machine.execLinkLaneLost t s
  | .paddleLinkLost t => Sys2Proof.Machine.execPaddleLinkLost t s
  | .heldCurrentExpiry t => Sys2Proof.Machine.execHeldCurrentExpiry t s
  | .paddleLinkRestored t fallback => Sys2Proof.Machine.execPaddleLinkRestored t fallback s
  | .lateCommandDiscard t p period => Sys2Proof.Machine.execLateCommandDiscard t p period s
  | .latePeriod delay => Sys2Proof.Machine.execLatePeriod delay s
  | .prestartCheckStart t => Sys2Proof.Machine.execPrestartCheckStart t s
  | .prestartPhaseProbe t => Sys2Proof.Machine.execPrestartPhaseProbe t s
  | .probeRetry t => Sys2Proof.Machine.execProbeRetry t s
  | .trayInsert ses t => Sys2Proof.Machine.execTrayInsert ses t s
  | .trayDrain ses t => Sys2Proof.Machine.execTrayDrain ses t s
  | .traySlackBegin ses t => Sys2Proof.Machine.execTraySlackBegin ses t s
  | .traySlackEnd ses t => Sys2Proof.Machine.execTraySlackEnd ses t s
  | .trayReset ses t => Sys2Proof.Machine.execTrayReset ses t s
  | .traySeated t => Sys2Proof.Machine.execTraySeated t s
  | .prechargeTrackCheck t => Sys2Proof.Machine.execPrechargeTrackCheck t s
  | .prechargeClosure t => Sys2Proof.Machine.execPrechargeClosure t s
  | .contactorTestStart t => Sys2Proof.Machine.execContactorTestStart t s
  | .containedTestPass t => Sys2Proof.Machine.execContainedTestPass t s
  | .trayAdmitComplete t => Sys2Proof.Machine.execTrayAdmitComplete t s
  | .drainLimitsZero t => Sys2Proof.Machine.execDrainLimitsZero t s
  | .drainOpenTimeout t => Sys2Proof.Machine.execDrainOpenTimeout t s
  | .openingTimeout t => Sys2Proof.Machine.execOpeningTimeout t s
  | .slackAutoBegin => Sys2Proof.Machine.execSlackAutoBegin s
  | .slackRestEnd => Sys2Proof.Machine.execSlackRestEnd s
  | .slackUrgentDemand => Sys2Proof.Machine.execSlackUrgentDemand s
  | .earlyBreakBroken t => Sys2Proof.Machine.execEarlyBreakBroken t s
  | .earlyBreakMade t => Sys2Proof.Machine.execEarlyBreakMade t s
  | .seatedLinkLossTimeout t => Sys2Proof.Machine.execSeatedLinkLossTimeout t s
  | .towpathCycle southMissed => Sys2Proof.Machine.execTowpathCycle southMissed s
  | .towpathReply t frame => Sys2Proof.Machine.execTowpathReply t frame s
  | .towpathPlausSend t => Sys2Proof.Machine.execTowpathPlausSend t s
  | .plausComparison t => Sys2Proof.Machine.execPlausComparison t s
  | .commandWindow t => Sys2Proof.Machine.execCommandWindow t s
  | .southRecoverySweep t => Sys2Proof.Machine.execSouthRecoverySweep t s
  | .breakClassify t => Sys2Proof.Machine.execBreakClassify t s
  | .ringWhole t => Sys2Proof.Machine.execRingWhole t s
  | .senseSuspicion t m => Sys2Proof.Machine.execSenseSuspicion t m s
  | .openWireScheduled t => Sys2Proof.Machine.execOpenWireScheduled t s
  | .openWireEvaluate t => Sys2Proof.Machine.execOpenWireEvaluate t s
  | .cellUnreadable t c => Sys2Proof.Machine.execCellUnreadable t c s
  | .weirAsserted t => Sys2Proof.Machine.execWeirAsserted t s
  | .openWireTestNow ses t => Sys2Proof.Machine.execOpenWireTestNow ses t s
  | .towReenumerate ses t => Sys2Proof.Machine.execTowReenumerate ses t s
  | .clearMarks ses t => Sys2Proof.Machine.execClearMarks ses t s
  | .weirTestCmd ses t => Sys2Proof.Machine.execWeirTestCmd ses t s
  | .weirTestTimeout t => Sys2Proof.Machine.execWeirTestTimeout t s
  | .balanceResend t => Sys2Proof.Machine.execBalanceResend t s
  | .estimatorUpdate t => Sys2Proof.Machine.execEstimatorUpdate t s
  | .noRestNotice t => Sys2Proof.Machine.execNoRestNotice t s
  | .stepQualified t ta tb => Sys2Proof.Machine.execStepQualified t ta tb s
  | .impedanceFit t => Sys2Proof.Machine.execImpedanceFit t s
  | .impedanceTableSave ok => Sys2Proof.Machine.execImpedanceTableSave ok s
  | .estimatorStateSave ok => Sys2Proof.Machine.execEstimatorStateSave ok s
  | .stateSaveNow ses t ok => Sys2Proof.Machine.execStateSaveNow ses t ok s
  | .impedanceResetSeeds ses t => Sys2Proof.Machine.execImpedanceResetSeeds ses t s
  | .impedanceSaveNow ses t ok => Sys2Proof.Machine.execImpedanceSaveNow ses t ok s
  | .impedanceBlockWrite ses seq t offset data => Sys2Proof.Machine.execImpedanceBlockWrite ses seq t offset data s
  | .forecastEvaluation stages shadow time => Sys2Proof.Machine.execForecastEvaluation stages shadow time s
  | .evaluationDeadlineMiss complete => Sys2Proof.Machine.execEvaluationDeadlineMiss complete s
  | .gateUpdate => Sys2Proof.Machine.execGateUpdate s
  | .schedule frame => Sys2Proof.Machine.execSchedule frame s
  | .groupWindowClose g => Sys2Proof.Machine.execGroupWindowClose g s
  | .sourceSuspensionEnd src => Sys2Proof.Machine.execSourceSuspensionEnd src s
  | .hintHoldoverLimit => Sys2Proof.Machine.execHintHoldoverLimit s
  | .forecasterStart ses => Sys2Proof.Machine.execForecasterStart ses s
  | .forecasterStop ses => Sys2Proof.Machine.execForecasterStop ses s
  | .modelSwitch ses => Sys2Proof.Machine.execModelSwitch ses s
  | .modelSwitchForced => Sys2Proof.Machine.execModelSwitchForced s
  | .forecasterClearCounters ses => Sys2Proof.Machine.execForecasterClearCounters ses s
  | .warmingComplete => Sys2Proof.Machine.execWarmingComplete s
  | .stagedSlotWrite ses slot => Sys2Proof.Machine.execStagedSlotWrite ses slot s
  | .epochCut => Sys2Proof.Machine.execEpochCut s
  | .report frame => Sys2Proof.Machine.execReport frame s
  | .chipSilent chip => Sys2Proof.Machine.execChipSilent chip s
  | .flightClose k => Sys2Proof.Machine.execFlightClose k s
  | .flightTimeout k => Sys2Proof.Machine.execFlightTimeout k s
  | .opTableWrite ses seq offset data => Sys2Proof.Machine.execOpTableWrite ses seq offset data s
  | .governorStart ses => Sys2Proof.Machine.execGovernorStart ses s
  | .governorStop ses => Sys2Proof.Machine.execGovernorStop ses s
  | .commitBorders ses => Sys2Proof.Machine.execCommitBorders ses s
  | .governorClearCounters ses => Sys2Proof.Machine.execGovernorClearCounters ses s
  | .flightSourcesWrite ses k v => Sys2Proof.Machine.execFlightSourcesWrite ses k v s
  | .feedRefresh => Sys2Proof.Machine.execFeedRefresh s
  | .rectAlert port node data => Sys2Proof.Machine.execRectAlert port node data s
  | .rectStatus port node data => Sys2Proof.Machine.execRectStatus port node data s
  | .rectConfigReply port node data => Sys2Proof.Machine.execRectConfigReply port node data s
  | .rectSilent r => Sys2Proof.Machine.execRectSilent r s
  | .dipHoldExpiry g => Sys2Proof.Machine.execDipHoldExpiry g s
  | .returnDelayExpiry g => Sys2Proof.Machine.execReturnDelayExpiry g s
  | .returnComplete g => Sys2Proof.Machine.execReturnComplete g s
  | .canPortError port => Sys2Proof.Machine.execCanPortError port s
  | .feedClearCounters ses => Sys2Proof.Machine.execFeedClearCounters ses s
  | .rereadRectModes ses => Sys2Proof.Machine.execRereadRectModes ses s
  | .auxFeedMeasure a b => Sys2Proof.Machine.execAuxFeedMeasure a b s
  | .periodTick => Sys2Proof.Machine.execPeriodTick s
  | .stageFire slot stage => Sys2Proof.Machine.execStageFire slot stage s
  | .bargeData barge => Sys2Proof.Machine.execBargeData barge s
  | .bargeVoid barge => Sys2Proof.Machine.execBargeVoid barge s
  | .bargeAck barge => Sys2Proof.Machine.execBargeAck barge s
  | .bargeNak barge => Sys2Proof.Machine.execBargeNak barge s
  | .memRead barge => Sys2Proof.Machine.execMemRead barge s
  | .memWrite barge => Sys2Proof.Machine.execMemWrite barge s
  | .bargeAckTimeout src dst seq => Sys2Proof.Machine.execBargeAckTimeout src dst seq s
  | .keeperCall slot channel gate payload => Sys2Proof.Machine.execKeeperCall slot channel gate payload s
  | .sramUncorrectable core addr => Sys2Proof.Machine.execSramUncorrectable core addr s
  | .sramScrub core corrected => Sys2Proof.Machine.execSramScrub core corrected s
  | .memUncorrectable channel addr slot stage => Sys2Proof.Machine.execMemUncorrectable channel addr slot stage s
  | .memPatrolScrub channel corrected => Sys2Proof.Machine.execMemPatrolScrub channel corrected s
  | .slotRestartComplete slot => Sys2Proof.Machine.execSlotRestartComplete slot s
  | .coreFailed core => Sys2Proof.Machine.execCoreFailed core s
  | .gridClearCounters ses => Sys2Proof.Machine.execGridClearCounters ses s
  | .gridSelfTest ses failed => Sys2Proof.Machine.execGridSelfTest ses failed s
  | .gateSignal who g n => Sys2Proof.Machine.execGateSignal who g n s
  | .gateWait who g v slot channel tag => Sys2Proof.Machine.execGateWait who g v slot channel tag s
  | .gateArm who g target => Sys2Proof.Machine.execGateArm who g target s
  | .gateAdjust who g delta => Sys2Proof.Machine.execGateAdjust who g delta s
  | .gateClear who g => Sys2Proof.Machine.execGateClear who g s
  | .gateCancel who g => Sys2Proof.Machine.execGateCancel who g s
  | .gateRoute who g src => Sys2Proof.Machine.execGateRoute who g src s
  | .gateAllocate ses v => Sys2Proof.Machine.execGateAllocate ses v s
  | .gateFree ses base => Sys2Proof.Machine.execGateFree ses base s
  | .gateStateUncorrectable g => Sys2Proof.Machine.execGateStateUncorrectable g s
  | .gatesClearCounters ses => Sys2Proof.Machine.execGatesClearCounters ses s
  | .sourceChange src => Sys2Proof.Machine.execSourceChange src s
  | .eventTake core => Sys2Proof.Machine.execEventTake core s
  | .eventAck core src => Sys2Proof.Machine.execEventAck core src s
  | .maskSet core src => Sys2Proof.Machine.execMaskSet core src s
  | .maskClear core src => Sys2Proof.Machine.execMaskClear core src s
  | .fastPop core => Sys2Proof.Machine.execFastPop core s
  | .sourceConfigWrite ses offset data => Sys2Proof.Machine.execSourceConfigWrite ses offset data s
  | .eventsClearCounters ses => Sys2Proof.Machine.execEventsClearCounters ses s
  | .slotBlockWrite ses seq n offset data => Sys2Proof.Machine.execSlotBlockWrite ses seq n offset data s
  | .slotCheck ses n => Sys2Proof.Machine.execSlotCheck ses n s
  | .slotBind ses n => Sys2Proof.Machine.execSlotBind ses n s
  | .slotUnbind ses n => Sys2Proof.Machine.execSlotUnbind ses n s
  | .slotRestart ses n => Sys2Proof.Machine.execSlotRestart ses n s
  | .slotClear ses n => Sys2Proof.Machine.execSlotClear ses n s
  | .slotFault n => Sys2Proof.Machine.execSlotFault n s
  | .drydockStart ses => Sys2Proof.Machine.execDrydockStart ses s
  | .drydockReplayPeriod => Sys2Proof.Machine.execDrydockReplayPeriod s
  | .drydockStop ses => Sys2Proof.Machine.execDrydockStop ses s
  | .drydockClear ses => Sys2Proof.Machine.execDrydockClear ses s
  | .ptpOffsetAccepted theta exchange => Sys2Proof.Machine.execPtpOffsetAccepted theta exchange s
  | .ptpMeasurementDiscard exchange => Sys2Proof.Machine.execPtpMeasurementDiscard exchange s
  | .holdoverEntry => Sys2Proof.Machine.execHoldoverEntry s
  | .shelfTimeStep => Sys2Proof.Machine.execShelfTimeStep s
  | .pairTimeFrame frame => Sys2Proof.Machine.execPairTimeFrame frame s
  | .crystalCheck deviation => Sys2Proof.Machine.execCrystalCheck deviation s
  | .pllUnlock island => Sys2Proof.Machine.execPllUnlock island s
  | .capturePostExpiry => Sys2Proof.Machine.execCapturePostExpiry s
  | .captureStart ses => Sys2Proof.Machine.execCaptureStart ses s
  | .captureFreeze ses => Sys2Proof.Machine.execCaptureFreeze ses s
  | .captureRelease ses => Sys2Proof.Machine.execCaptureRelease ses s
  | .captureStop ses => Sys2Proof.Machine.execCaptureStop ses s
  | .ethernetFrame frame => Sys2Proof.Machine.execEthernetFrame frame s
  | .read frame => Sys2Proof.Machine.execRead frame s
  | .write frame => Sys2Proof.Machine.execWrite frame s
  | .readBlock frame => Sys2Proof.Machine.execReadBlock frame s
  | .writeBlock frame => Sys2Proof.Machine.execWriteBlock frame s
  | .subscribe frame => Sys2Proof.Machine.execSubscribe frame s
  | .signedWrite frame => Sys2Proof.Machine.execSignedWrite frame s
  | .quote frame => Sys2Proof.Machine.execQuote frame s
  | .streamInstance ses stream => Sys2Proof.Machine.execStreamInstance ses stream s
  | .signedTransferTimeout ses => Sys2Proof.Machine.execSignedTransferTimeout ses s
  | .signedWriteVerify ses => Sys2Proof.Machine.execSignedWriteVerify ses s
  | .quoteSigned => Sys2Proof.Machine.execQuoteSigned s
  | .pfcPauseRepeat => Sys2Proof.Machine.execPfcPauseRepeat s
  | .pfcPauseRelease => Sys2Proof.Machine.execPfcPauseRelease s
  | .pfcPauseLong => Sys2Proof.Machine.execPfcPauseLong s
  | .pfcReceived frame => Sys2Proof.Machine.execPfcReceived frame s
  | .grantPauseLong => Sys2Proof.Machine.execGrantPauseLong s
  | .ethernetLinkChange up lanes => Sys2Proof.Machine.execEthernetLinkChange up lanes s
  | .arpNdRequest frame => Sys2Proof.Machine.execArpNdRequest frame s
  | .portRetrain ses => Sys2Proof.Machine.execPortRetrain ses s
  | .portClearCounters ses => Sys2Proof.Machine.execPortClearCounters ses s
  | .sessionReset ses target => Sys2Proof.Machine.execSessionReset ses target s
  | .flowClearCounters ses => Sys2Proof.Machine.execFlowClearCounters ses s
  | .objectWrite ses index sub value => Sys2Proof.Machine.execObjectWrite ses index sub value s
  | .highestValueClear ses index sub value => Sys2Proof.Machine.execHighestValueClear ses index sub value s
  | .storeToFlash key ok => Sys2Proof.Machine.execStoreToFlash key ok s
  | .storeRetry key ok => Sys2Proof.Machine.execStoreRetry key ok s
  | .storePendingNow ses => Sys2Proof.Machine.execStorePendingNow ses s
  | .markRestore ses => Sys2Proof.Machine.execMarkRestore ses s
  | .withdrawRestore ses => Sys2Proof.Machine.execWithdrawRestore ses s
  | .moduleReset ses => Sys2Proof.Machine.execModuleReset ses s
  | .moduleStart lost => Sys2Proof.Machine.execModuleStart lost s
  | .transactionCopy => Sys2Proof.Machine.execTransactionCopy s
  | .faultRaise code inst => Sys2Proof.Machine.execFaultRaise code inst s
  | .handlerEnd => Sys2Proof.Machine.execHandlerEnd s
  | .handlerOverrun => Sys2Proof.Machine.execHandlerOverrun s
  | .faultConditionGone code inst => Sys2Proof.Machine.execFaultConditionGone code inst s
  | .faultAcknowledge ses v => Sys2Proof.Machine.execFaultAcknowledge ses v s
  | .faultsClearCounters ses => Sys2Proof.Machine.execFaultsClearCounters ses s
  | .watchdogExpiry core => Sys2Proof.Machine.execWatchdogExpiry core s
  | .pairDecideTimeout => Sys2Proof.Machine.execPairDecideTimeout s
  | .pairHello frame => Sys2Proof.Machine.execPairHello frame s
  | .manifestSend => Sys2Proof.Machine.execManifestSend s
  | .manifestPart frame => Sys2Proof.Machine.execManifestPart frame s
  | .pairAck frame => Sys2Proof.Machine.execPairAck frame s
  | .pairStore frame => Sys2Proof.Machine.execPairStore frame s
  | .pairHandover frame => Sys2Proof.Machine.execPairHandover frame s
  | .manifestMissed => Sys2Proof.Machine.execManifestMissed s
  | .pairFaultInTrigger => Sys2Proof.Machine.execPairFaultInTrigger s
  | .pairRoleInFall => Sys2Proof.Machine.execPairRoleInFall s
  | .pairLinkLost => Sys2Proof.Machine.execPairLinkLost s
  | .takeOverNow ses => Sys2Proof.Machine.execTakeOverNow ses s
  | .takeover => Sys2Proof.Machine.execTakeover s
  | .takeoverComplete => Sys2Proof.Machine.execTakeoverComplete s
  | .handoverDrill ses => Sys2Proof.Machine.execHandoverDrill ses s
  | .drillHandoverStart => Sys2Proof.Machine.execDrillHandoverStart s
  | .drillFailed => Sys2Proof.Machine.execDrillFailed s
  | .drillAbandon => Sys2Proof.Machine.execDrillAbandon s
  | .pairClearCounters ses => Sys2Proof.Machine.execPairClearCounters ses s
  | .standbySelfTest failed => Sys2Proof.Machine.execStandbySelfTest failed s
  | .layoutCommit ses seq => Sys2Proof.Machine.execLayoutCommit ses seq s
  | .layoutDiscard ses => Sys2Proof.Machine.execLayoutDiscard ses s
  | .recordFlashWrite ok => Sys2Proof.Machine.execRecordFlashWrite ok s
  | .recordFlashRetry ok => Sys2Proof.Machine.execRecordFlashRetry ok s
  | .rateWindowClose code inst => Sys2Proof.Machine.execRateWindowClose code inst s
  | .recordBlockRead ses offset length => Sys2Proof.Machine.execRecordBlockRead ses offset length s
  | .recorderClear ses v key => Sys2Proof.Machine.execRecorderClear ses v key s
  | .recorderClearCounters ses => Sys2Proof.Machine.execRecorderClearCounters ses s
  | .calBlockWrite ses seq offset data => Sys2Proof.Machine.execCalBlockWrite ses seq offset data s
  | .calEntryWrite ses t sub value => Sys2Proof.Machine.execCalEntryWrite ses t sub value s
  | .liveRoutinesWrite ses v => Sys2Proof.Machine.execLiveRoutinesWrite ses v s
  | .phaseOffsetMeasure t p => Sys2Proof.Machine.execPhaseOffsetMeasure t p s
  | .dcLinkOffsetMeasure t => Sys2Proof.Machine.execDcLinkOffsetMeasure t s
  | .busVoltageEqualise => Sys2Proof.Machine.execBusVoltageEqualise s
  | .calLiveStore => Sys2Proof.Machine.execCalLiveStore s
  | .calStoreNow ses => Sys2Proof.Machine.execCalStoreNow ses s
  | .calLockAll ses => Sys2Proof.Machine.execCalLockAll ses s
  | .calUnlockAll ses => Sys2Proof.Machine.execCalUnlockAll ses s
  | .calClearCounters ses => Sys2Proof.Machine.execCalClearCounters ses s
  | .boot pins => Sys2Proof.Machine.execBoot pins s
  | .networkLoader => Sys2Proof.Machine.execNetworkLoader s
  | .imageBlockWrite ses data => Sys2Proof.Machine.execImageBlockWrite ses data s
  | .markInstall ses => Sys2Proof.Machine.execMarkInstall ses s
  | .discardStagedImage ses => Sys2Proof.Machine.execDiscardStagedImage ses s
  | .securityClearCounters ses => Sys2Proof.Machine.execSecurityClearCounters ses s
  | .firmwareInstall => Sys2Proof.Machine.execFirmwareInstall s
  | .rootKeySet ses data => Sys2Proof.Machine.execRootKeySet ses data s
  | .raiseMinVersion ses v => Sys2Proof.Machine.execRaiseMinVersion ses v s
  | .revokeKeySlot ses slot => Sys2Proof.Machine.execRevokeKeySlot ses slot s
  | .powerFailStart => Sys2Proof.Machine.execPowerFailStart s
  | .powerRestore => Sys2Proof.Machine.execPowerRestore s
  | .thermalCheck junction inlet => Sys2Proof.Machine.execThermalCheck junction inlet s
  | .thermalShutdown => Sys2Proof.Machine.execThermalShutdown s
  | .thermalRestart => Sys2Proof.Machine.execThermalRestart s
  | .j2Withdrawn => Sys2Proof.Machine.execJ2Withdrawn s
  | .weirLineCleared t => Sys2Proof.Machine.execWeirLineCleared t s
  | .paddleLaneRestored t => Sys2Proof.Machine.execPaddleLaneRestored t s
  | .pairLinkUp => Sys2Proof.Machine.execPairLinkUp s
  | .pairLinkLaneLost => Sys2Proof.Machine.execPairLinkLaneLost s
  | .ptpPortStateChange slave master => Sys2Proof.Machine.execPtpPortStateChange slave master s
  | .ptpMessageSend kind => Sys2Proof.Machine.execPtpMessageSend kind s

end Sys2Proof.Machine
end

