-- ==== Sys2Proof/WellFormed.lean ====
section
/-! DEFINITION. Which commands name things that exist on a K16 (Tables 0.1, 0.3, 0.4, R345, Table 14.3):
an operand that names no tray, phase, session, slot, gate or other instance makes the command ill-formed. -/

namespace Sys2Proof

/-- Every operand that is a number of a tray, phase, cell, session, slot, gate, source, core or other instance
names one that exists, and an object's index, subindex and 8-byte value fit their fields. -/
def Instr.wf : Instr → Bool
  | .controlPeriod => true
  | .trayReadingExcluded t => decide (t < Config.trays)
  | .trayReadingReadmitted t => decide (t < Config.trays)
  | .loopHoldTimeout => true
  | .clampPersistent => true
  | .windowTimeout => true
  | .farWindowTimeout => true
  | .softStartComplete => true
  | .stoppingComplete => true
  | .loopStart ses => decide (ses < Config.sessions)
  | .loopBlackStart ses => decide (ses < Config.sessions)
  | .loopStop ses => decide (ses < Config.sessions)
  | .loopReset ses => decide (ses < Config.sessions)
  | .halfPeriodUpdate t p => decide (t < Config.trays) && decide (p < Config.phases)
  | .deEntry t p => decide (t < Config.trays) && decide (p < Config.phases)
  | .balanceTrimAtLimit t p => decide (t < Config.trays) && decide (p < Config.phases)
  | .phaseOpenDetected t p => decide (t < Config.trays) && decide (p < Config.phases)
  | .phaseSenseFailed t p => decide (t < Config.trays) && decide (p < Config.phases)
  | .traySumMismatch t => decide (t < Config.trays)
  | .identificationComplete t => decide (t < Config.trays)
  | .phaseHandoffComplete t p => decide (t < Config.trays) && decide (p < Config.phases)
  | .phaseOutOfService ses t p => decide (ses < Config.sessions) && decide (t < Config.trays) && decide (p < Config.phases)
  | .phaseIntoService ses t p => decide (ses < Config.sessions) && decide (t < Config.trays) && decide (p < Config.phases)
  | .phaseDrawStart t => decide (t < Config.trays)
  | .phaseDrawingComplete t p => decide (t < Config.trays) && decide (p < Config.phases)
  | .phaseRestoreComplete t p => decide (t < Config.trays) && decide (p < Config.phases)
  | .drawingLockoutExpiry => true
  | .phaseOvercurrent t _ => decide (t < Config.trays)
  | .busOvervoltage t _ => decide (t < Config.trays)
  | .sampleFrame t _ => decide (t < Config.trays)
  | .statusFrame t _ => decide (t < Config.trays)
  | .stageConfigReply t _ => decide (t < Config.trays)
  | .timeFrameSend t => decide (t < Config.trays)
  | .linkDelayMeasure t _ => decide (t < Config.trays)
  | .linkLaneLost t => decide (t < Config.trays)
  | .paddleLinkLost t => decide (t < Config.trays)
  | .heldCurrentExpiry t => decide (t < Config.trays)
  | .paddleLinkRestored t _ => decide (t < Config.trays)
  | .lateCommandDiscard t p _ => decide (t < Config.trays) && decide (p < Config.phases)
  | .latePeriod _ => true
  | .prestartCheckStart t => decide (t < Config.trays)
  | .prestartPhaseProbe t => decide (t < Config.trays)
  | .probeRetry t => decide (t < Config.trays)
  | .trayInsert ses t => decide (ses < Config.sessions) && decide (t < Config.trays)
  | .trayDrain ses t => decide (ses < Config.sessions) && decide (t < Config.trays)
  | .traySlackBegin ses t => decide (ses < Config.sessions) && decide (t < Config.trays)
  | .traySlackEnd ses t => decide (ses < Config.sessions) && decide (t < Config.trays)
  | .trayReset ses t => decide (ses < Config.sessions) && decide (t < Config.trays)
  | .traySeated t => decide (t < Config.trays)
  | .prechargeTrackCheck t => decide (t < Config.trays)
  | .prechargeClosure t => decide (t < Config.trays)
  | .contactorTestStart t => decide (t < Config.trays)
  | .containedTestPass t => decide (t < Config.trays)
  | .trayAdmitComplete t => decide (t < Config.trays)
  | .drainLimitsZero t => decide (t < Config.trays)
  | .drainOpenTimeout t => decide (t < Config.trays)
  | .openingTimeout t => decide (t < Config.trays)
  | .slackAutoBegin => true
  | .slackRestEnd => true
  | .slackUrgentDemand => true
  | .earlyBreakBroken t => decide (t < Config.trays)
  | .earlyBreakMade t => decide (t < Config.trays)
  | .seatedLinkLossTimeout t => decide (t < Config.trays)
  | .towpathCycle _ => true
  | .towpathReply t _ => decide (t < Config.trays)
  | .towpathPlausSend t => decide (t < Config.trays)
  | .plausComparison t => decide (t < Config.trays)
  | .commandWindow t => decide (t < Config.trays)
  | .southRecoverySweep t => decide (t < Config.trays)
  | .breakClassify t => decide (t < Config.trays)
  | .ringWhole t => decide (t < Config.trays)
  | .senseSuspicion t m => decide (t < Config.trays) && decide (m < Config.monitors)
  | .openWireScheduled t => decide (t < Config.trays)
  | .openWireEvaluate t => decide (t < Config.trays)
  | .cellUnreadable t c => decide (t < Config.trays) && decide (c < Config.cells)
  | .weirAsserted t => decide (t < Config.trays)
  | .openWireTestNow ses t => decide (ses < Config.sessions) && decide (t < Config.trays)
  | .towReenumerate ses t => decide (ses < Config.sessions) && decide (t < Config.trays)
  | .clearMarks ses t => decide (ses < Config.sessions) && decide (t < Config.trays)
  | .weirTestCmd ses t => decide (ses < Config.sessions) && decide (t < Config.trays)
  | .weirTestTimeout t => decide (t < Config.trays)
  | .balanceResend t => decide (t < Config.trays)
  | .estimatorUpdate t => decide (t < Config.trays)
  | .noRestNotice t => decide (t < Config.trays)
  | .stepQualified t _ _ => decide (t < Config.trays)
  | .impedanceFit t => decide (t < Config.trays)
  | .impedanceTableSave _ => true
  | .estimatorStateSave _ => true
  | .stateSaveNow ses t _ => decide (ses < Config.sessions) && decide (t < Config.trays)
  | .impedanceResetSeeds ses t => decide (ses < Config.sessions) && decide (t < Config.trays)
  | .impedanceSaveNow ses t _ => decide (ses < Config.sessions) && decide (t < Config.trays)
  | .impedanceBlockWrite ses _ t _ _ => decide (ses < Config.sessions) && decide (t < Config.trays)
  | .forecastEvaluation _ _ _ => true
  | .evaluationDeadlineMiss _ => true
  | .gateUpdate => true
  | .schedule _ => true
  | .groupWindowClose _ => true
  | .sourceSuspensionEnd src => decide (src < 33)
  | .hintHoldoverLimit => true
  | .forecasterStart ses => decide (ses < Config.sessions)
  | .forecasterStop ses => decide (ses < Config.sessions)
  | .modelSwitch ses => decide (ses < Config.sessions)
  | .modelSwitchForced => true
  | .forecasterClearCounters ses => decide (ses < Config.sessions)
  | .warmingComplete => true
  | .stagedSlotWrite ses slot => decide (ses < Config.sessions) && decide (slot < 256)
  | .epochCut => true
  | .report _ => true
  | .chipSilent chip => decide (chip < Config.chips)
  | .flightClose k => decide (k < Config.partitions)
  | .flightTimeout k => decide (k < Config.partitions)
  | .opTableWrite ses _ _ _ => decide (ses < Config.sessions)
  | .governorStart ses => decide (ses < Config.sessions)
  | .governorStop ses => decide (ses < Config.sessions)
  | .commitBorders ses => decide (ses < Config.sessions)
  | .governorClearCounters ses => decide (ses < Config.sessions)
  | .flightSourcesWrite ses k _ => decide (ses < Config.sessions) && decide (k < Config.partitions)
  | .feedRefresh => true
  | .rectAlert port node _ => decide (port < 2) && decide (1 ≤ node) && decide (node ≤ 24)
  | .rectStatus port node _ => decide (port < 2) && decide (1 ≤ node) && decide (node ≤ 24)
  | .rectConfigReply port node _ => decide (port < 2) && decide (1 ≤ node) && decide (node ≤ 24)
  | .rectSilent r => decide (r < Config.rectifiers)
  | .dipHoldExpiry g => decide (g < 2)
  | .returnDelayExpiry g => decide (g < 2)
  | .returnComplete g => decide (g < 2)
  | .canPortError port => decide (port < 2)
  | .feedClearCounters ses => decide (ses < Config.sessions)
  | .rereadRectModes ses => decide (ses < Config.sessions)
  | .auxFeedMeasure _ _ => true
  | .periodTick => true
  | .stageFire slot stage => decide (slot < Config.slots) && decide (stage < 256)
  | .bargeData _ => true
  | .bargeVoid _ => true
  | .bargeAck _ => true
  | .bargeNak _ => true
  | .memRead _ => true
  | .memWrite _ => true
  | .bargeAckTimeout src dst _ => decide (src < 256) && decide (dst < 256)
  | .keeperCall slot channel gate _ => decide (slot < Config.slots) && decide (channel < 256) && decide (gate < 65536)
  | .sramUncorrectable core _ => decide (core < Config.cores)
  | .sramScrub core _ => decide (core < Config.cores)
  | .memUncorrectable channel _ slot stage => decide (channel < 4) && decide (slot < Config.slots) && decide (stage < 256)
  | .memPatrolScrub channel _ => decide (channel < 4)
  | .slotRestartComplete slot => decide (slot < Config.slots)
  | .coreFailed core => decide (core < Config.cores)
  | .gridClearCounters ses => decide (ses < Config.sessions)
  | .gridSelfTest ses _ => decide (ses < Config.sessions)
  | .gateSignal _ g n => decide (g < 65536) && decide (n < 2 ^ 32)
  | .gateWait _ g v _ _ _ => decide (g < 65536) && decide (v < 2 ^ 32)
  | .gateArm _ g target => decide (g < 65536) && decide (target < 2 ^ 32)
  | .gateAdjust _ g _ => decide (g < 65536)
  | .gateClear _ g => decide (g < 65536)
  | .gateCancel _ g => decide (g < 65536)
  | .gateRoute _ g src => decide (g < 65536) && decide (src < 1024)
  | .gateAllocate ses _ => decide (ses < Config.sessions)
  | .gateFree ses _ => decide (ses < Config.sessions)
  | .gateStateUncorrectable g => decide (g < 65536)
  | .gatesClearCounters ses => decide (ses < Config.sessions)
  | .sourceChange src => decide (src < 1024)
  | .eventTake core => decide (core < 68)
  | .eventAck core src => decide (core < 68) && decide (src < 1024)
  | .maskSet core src => decide (core < 68) && decide (src < 1024)
  | .maskClear core src => decide (core < 68) && decide (src < 1024)
  | .fastPop core => decide (core < 68)
  | .sourceConfigWrite ses _ _ => decide (ses < Config.sessions)
  | .eventsClearCounters ses => decide (ses < Config.sessions)
  | .slotBlockWrite ses _ n _ _ => decide (ses < Config.sessions) && decide (n < Config.slots)
  | .slotCheck ses n => decide (ses < Config.sessions) && decide (n < Config.slots)
  | .slotBind ses n => decide (ses < Config.sessions) && decide (n < Config.slots)
  | .slotUnbind ses n => decide (ses < Config.sessions) && decide (n < Config.slots)
  | .slotRestart ses n => decide (ses < Config.sessions) && decide (n < Config.slots)
  | .slotClear ses n => decide (ses < Config.sessions) && decide (n < Config.slots)
  | .slotFault n => decide (n < Config.slots)
  | .drydockStart ses => decide (ses < Config.sessions)
  | .drydockReplayPeriod => true
  | .drydockStop ses => decide (ses < Config.sessions)
  | .drydockClear ses => decide (ses < Config.sessions)
  | .ptpOffsetAccepted _ _ => true
  | .ptpMeasurementDiscard _ => true
  | .holdoverEntry => true
  | .shelfTimeStep => true
  | .pairTimeFrame _ => true
  | .crystalCheck _ => true
  | .pllUnlock _ => true
  | .capturePostExpiry => true
  | .captureStart ses => decide (ses < Config.sessions)
  | .captureFreeze ses => decide (ses < Config.sessions)
  | .captureRelease ses => decide (ses < Config.sessions)
  | .captureStop ses => decide (ses < Config.sessions)
  | .ethernetFrame _ => true
  | .read _ => true
  | .write _ => true
  | .readBlock _ => true
  | .writeBlock _ => true
  | .subscribe _ => true
  | .signedWrite _ => true
  | .quote _ => true
  | .streamInstance ses stream => decide (ses < Config.sessions) && decide (stream < 16)
  | .signedTransferTimeout ses => decide (ses < Config.sessions)
  | .signedWriteVerify ses => decide (ses < Config.sessions)
  | .quoteSigned => true
  | .pfcPauseRepeat => true
  | .pfcPauseRelease => true
  | .pfcPauseLong => true
  | .pfcReceived _ => true
  | .grantPauseLong => true
  | .ethernetLinkChange _ _ => true
  | .arpNdRequest _ => true
  | .portRetrain ses => decide (ses < Config.sessions)
  | .portClearCounters ses => decide (ses < Config.sessions)
  | .sessionReset ses target => decide (ses < Config.sessions) && decide (target < Config.sessions)
  | .flowClearCounters ses => decide (ses < Config.sessions)
  | .objectWrite ses index sub value => decide (ses < Config.sessions) && decide (index < 65536) && decide (sub < 256) && decide (value < 2 ^ 64)
  | .highestValueClear ses index sub value => decide (ses < Config.sessions) && decide (index < 65536) && decide (sub < 256) && decide (value < 2 ^ 64)
  | .storeToFlash _ _ => true
  | .storeRetry _ _ => true
  | .storePendingNow ses => decide (ses < Config.sessions)
  | .markRestore ses => decide (ses < Config.sessions)
  | .withdrawRestore ses => decide (ses < Config.sessions)
  | .moduleReset ses => decide (ses < Config.sessions)
  | .moduleStart _ => true
  | .transactionCopy => true
  | .faultRaise code inst => decide (code < 65536) && decide (inst < 65536)
  | .handlerEnd => true
  | .handlerOverrun => true
  | .faultConditionGone code inst => decide (code < 65536) && decide (inst < 65536)
  | .faultAcknowledge ses _ => decide (ses < Config.sessions)
  | .faultsClearCounters ses => decide (ses < Config.sessions)
  | .watchdogExpiry core => decide (core < 4)
  | .pairDecideTimeout => true
  | .pairHello _ => true
  | .manifestSend => true
  | .manifestPart _ => true
  | .pairAck _ => true
  | .pairStore _ => true
  | .pairHandover _ => true
  | .manifestMissed => true
  | .pairFaultInTrigger => true
  | .pairRoleInFall => true
  | .pairLinkLost => true
  | .takeOverNow ses => decide (ses < Config.sessions)
  | .takeover => true
  | .takeoverComplete => true
  | .handoverDrill ses => decide (ses < Config.sessions)
  | .drillHandoverStart => true
  | .drillFailed => true
  | .drillAbandon => true
  | .pairClearCounters ses => decide (ses < Config.sessions)
  | .standbySelfTest _ => true
  | .layoutCommit ses _ => decide (ses < Config.sessions)
  | .layoutDiscard ses => decide (ses < Config.sessions)
  | .recordFlashWrite _ => true
  | .recordFlashRetry _ => true
  | .rateWindowClose code inst => decide (code < 65536) && decide (inst < 65536)
  | .recordBlockRead ses _ _ => decide (ses < Config.sessions)
  | .recorderClear ses _ _ => decide (ses < Config.sessions)
  | .recorderClearCounters ses => decide (ses < Config.sessions)
  | .calBlockWrite ses _ _ _ => decide (ses < Config.sessions)
  | .calEntryWrite ses t sub value => decide (ses < Config.sessions) && decide (t < Config.trays) && decide (sub < 256) && decide (value < 2 ^ 64)
  | .liveRoutinesWrite ses _ => decide (ses < Config.sessions)
  | .phaseOffsetMeasure t p => decide (t < Config.trays) && decide (p < Config.phases)
  | .dcLinkOffsetMeasure t => decide (t < Config.trays)
  | .busVoltageEqualise => true
  | .calLiveStore => true
  | .calStoreNow ses => decide (ses < Config.sessions)
  | .calLockAll ses => decide (ses < Config.sessions)
  | .calUnlockAll ses => decide (ses < Config.sessions)
  | .calClearCounters ses => decide (ses < Config.sessions)
  | .boot _ => true
  | .networkLoader => true
  | .imageBlockWrite ses _ => decide (ses < Config.sessions)
  | .markInstall ses => decide (ses < Config.sessions)
  | .discardStagedImage ses => decide (ses < Config.sessions)
  | .securityClearCounters ses => decide (ses < Config.sessions)
  | .firmwareInstall => true
  | .rootKeySet ses _ => decide (ses < Config.sessions)
  | .raiseMinVersion ses _ => decide (ses < Config.sessions)
  | .revokeKeySlot ses slot => decide (ses < Config.sessions) && decide (slot < 4)
  | .powerFailStart => true
  | .powerRestore => true
  | .thermalCheck _ _ => true
  | .thermalShutdown => true
  | .thermalRestart => true
  | .j2Withdrawn => true
  | .weirLineCleared t => decide (t < Config.trays)
  | .paddleLaneRestored t => decide (t < Config.trays)
  | .pairLinkUp => true
  | .pairLinkLaneLost => true
  | .ptpPortStateChange _ _ => true
  | .ptpMessageSend _ => true

end Sys2Proof
end

