-- ==== Sys2Proof/Safety.lean ====
section
/-! DEFINITION. What counts as a safe state and a safe run, in the terms the statements use: commands that name things
that exist, memories in canonical form, raises on their way to the fault manager, and the family of each command. -/

namespace Sys2Proof

/-- The part of the module whose chapter gives a command. -/
inductive Family
  | controlPeriod
  | busLoop
  | phases
  | links
  | trays
  | towpath
  | estimator
  | tide
  | governor
  | feeds
  | grid
  | gates
  | events
  | programs
  | clock
  | pair
  | capture
  | port
  | trasia
  | security
  | dictionary
  | start
  | faults
  | takeover
  | recorder
  | calibration
  | hardware
  deriving DecidableEq, Repr

/-- The family of each command: the chapter whose part it acts on. -/
def Instr.family : Instr → Family
  | .controlPeriod => .controlPeriod
  | .trayReadingExcluded .. | .trayReadingReadmitted .. | .loopHoldTimeout | .clampPersistent | .windowTimeout
  | .farWindowTimeout | .softStartComplete | .stoppingComplete | .loopStart .. | .loopBlackStart .. | .loopStop ..
  | .loopReset .. => .busLoop
  | .halfPeriodUpdate .. | .deEntry .. | .balanceTrimAtLimit .. | .phaseOpenDetected .. | .phaseSenseFailed ..
  | .traySumMismatch .. | .identificationComplete .. | .phaseHandoffComplete .. | .phaseOutOfService ..
  | .phaseIntoService .. | .phaseDrawStart .. | .phaseDrawingComplete .. | .phaseRestoreComplete ..
  | .drawingLockoutExpiry | .lateCommandDiscard .. | .latePeriod .. | .prestartCheckStart ..
  | .prestartPhaseProbe .. | .probeRetry .. => .phases
  | .phaseOvercurrent .. | .busOvervoltage .. | .sampleFrame .. | .statusFrame .. | .stageConfigReply ..
  | .timeFrameSend .. | .linkDelayMeasure .. | .linkLaneLost .. | .paddleLinkLost .. | .heldCurrentExpiry ..
  | .paddleLinkRestored .. | .paddleLaneRestored .. => .links
  | .trayInsert .. | .trayDrain .. | .traySlackBegin .. | .traySlackEnd .. | .trayReset .. | .traySeated ..
  | .prechargeTrackCheck .. | .prechargeClosure .. | .contactorTestStart .. | .containedTestPass ..
  | .trayAdmitComplete .. | .drainLimitsZero .. | .drainOpenTimeout .. | .openingTimeout .. | .slackAutoBegin
  | .slackRestEnd | .slackUrgentDemand | .earlyBreakBroken .. | .earlyBreakMade ..
  | .seatedLinkLossTimeout .. => .trays
  | .towpathCycle .. | .towpathReply .. | .towpathPlausSend .. | .plausComparison .. | .commandWindow ..
  | .southRecoverySweep .. | .breakClassify .. | .ringWhole .. | .senseSuspicion .. | .openWireScheduled ..
  | .openWireEvaluate .. | .cellUnreadable .. | .weirAsserted .. | .openWireTestNow .. | .towReenumerate ..
  | .clearMarks .. | .weirTestCmd .. | .weirTestTimeout .. | .balanceResend .. | .weirLineCleared .. => .towpath
  | .estimatorUpdate .. | .noRestNotice .. | .stepQualified .. | .impedanceFit .. | .impedanceTableSave ..
  | .estimatorStateSave .. | .stateSaveNow .. | .impedanceResetSeeds .. | .impedanceSaveNow ..
  | .impedanceBlockWrite .. => .estimator
  | .forecastEvaluation .. | .evaluationDeadlineMiss .. | .gateUpdate | .schedule .. | .groupWindowClose ..
  | .sourceSuspensionEnd .. | .hintHoldoverLimit | .forecasterStart .. | .forecasterStop .. | .modelSwitch ..
  | .modelSwitchForced | .forecasterClearCounters .. | .warmingComplete | .stagedSlotWrite .. => .tide
  | .epochCut | .report .. | .chipSilent .. | .flightClose .. | .flightTimeout .. | .opTableWrite ..
  | .governorStart .. | .governorStop .. | .commitBorders .. | .governorClearCounters ..
  | .flightSourcesWrite .. => .governor
  | .feedRefresh | .rectAlert .. | .rectStatus .. | .rectConfigReply .. | .rectSilent .. | .dipHoldExpiry ..
  | .returnDelayExpiry .. | .returnComplete .. | .canPortError .. | .feedClearCounters .. | .rereadRectModes ..
  | .auxFeedMeasure .. => .feeds
  | .periodTick | .stageFire .. | .bargeData .. | .bargeVoid .. | .bargeAck .. | .bargeNak .. | .memRead ..
  | .memWrite .. | .bargeAckTimeout .. | .keeperCall .. | .sramUncorrectable .. | .sramScrub ..
  | .memUncorrectable .. | .memPatrolScrub .. | .slotRestartComplete .. | .coreFailed .. | .gridClearCounters ..
  | .gridSelfTest .. => .grid
  | .gateSignal .. | .gateWait .. | .gateArm .. | .gateAdjust .. | .gateClear .. | .gateCancel .. | .gateRoute ..
  | .gateAllocate .. | .gateFree .. | .gateStateUncorrectable .. | .gatesClearCounters .. => .gates
  | .sourceChange .. | .eventTake .. | .eventAck .. | .maskSet .. | .maskClear .. | .fastPop ..
  | .sourceConfigWrite .. | .eventsClearCounters .. => .events
  | .slotBlockWrite .. | .slotCheck .. | .slotBind .. | .slotUnbind .. | .slotRestart .. | .slotClear ..
  | .slotFault .. | .drydockStart .. | .drydockReplayPeriod | .drydockStop .. | .drydockClear .. => .programs
  | .ptpOffsetAccepted .. | .ptpMeasurementDiscard .. | .holdoverEntry | .shelfTimeStep | .crystalCheck ..
  | .pllUnlock .. | .ptpPortStateChange .. | .ptpMessageSend .. => .clock
  | .pairTimeFrame .. | .pairDecideTimeout | .pairHello .. | .manifestSend | .manifestPart .. | .pairAck ..
  | .pairStore .. | .pairHandover .. | .manifestMissed | .pairFaultInTrigger | .pairRoleInFall | .pairLinkLost
  | .takeOverNow .. | .handoverDrill .. | .drillAbandon | .pairClearCounters .. | .standbySelfTest ..
  | .layoutCommit .. | .layoutDiscard .. | .pairLinkUp | .pairLinkLaneLost => .pair
  | .capturePostExpiry | .captureStart .. | .captureFreeze .. | .captureRelease .. | .captureStop .. => .capture
  | .ethernetFrame .. | .pfcPauseRepeat | .pfcPauseRelease | .pfcPauseLong | .pfcReceived .. | .grantPauseLong
  | .ethernetLinkChange .. | .arpNdRequest .. | .portRetrain .. | .portClearCounters .. | .sessionReset ..
  | .flowClearCounters .. => .port
  | .read .. | .write .. | .readBlock .. | .writeBlock .. | .subscribe .. | .signedWrite .. | .streamInstance ..
  | .signedTransferTimeout .. | .signedWriteVerify .. => .trasia
  | .quote .. | .quoteSigned | .networkLoader | .imageBlockWrite .. | .markInstall .. | .discardStagedImage ..
  | .securityClearCounters .. | .firmwareInstall | .rootKeySet .. | .raiseMinVersion ..
  | .revokeKeySlot .. => .security
  | .objectWrite .. | .highestValueClear .. | .storeToFlash .. | .storeRetry .. | .storePendingNow ..
  | .markRestore .. | .withdrawRestore .. | .moduleReset .. | .transactionCopy => .dictionary
  | .moduleStart .. => .start
  | .faultRaise .. | .handlerEnd | .handlerOverrun | .faultConditionGone .. | .faultAcknowledge ..
  | .faultsClearCounters .. | .watchdogExpiry .. => .faults
  | .takeover | .takeoverComplete | .drillHandoverStart | .drillFailed => .takeover
  | .recordFlashWrite .. | .recordFlashRetry .. | .rateWindowClose .. | .recordBlockRead .. | .recorderClear ..
  | .recorderClearCounters .. => .recorder
  | .calBlockWrite .. | .calEntryWrite .. | .liveRoutinesWrite .. | .phaseOffsetMeasure ..
  | .dcLinkOffsetMeasure .. | .busVoltageEqualise | .calLiveStore | .calStoreNow .. | .calLockAll ..
  | .calUnlockAll .. | .calClearCounters .. => .calibration
  | .boot .. | .powerFailStart | .powerRestore | .thermalCheck .. | .thermalShutdown | .thermalRestart
  | .j2Withdrawn => .hardware

end Sys2Proof

namespace Sys2Proof.Machine

/-- Every waiting command names things that exist. -/
def State.queueOk (s : State) : Bool := s.pending.all Instr.wf

/-- The canonical form of an addressed memory: addresses strictly rising, no byte equal to what an unlisted address
reads as (0, log entry 5). -/
def Memory.wf (m : List (Nat × Byte)) : Bool := Store.wf 0 m

/-- Core SRAM and LPDDR4X are in canonical form. -/
def State.memoryOk (s : State) : Bool := Memory.wf s.grid.sram && Memory.wf s.grid.ddr

/-- A fault of this code and instance has been raised and is on its way to the fault manager. -/
def State.raised (s : State) (code inst : Nat) : Prop := ∃ r ∈ s.fm.inFlight, r.code = code ∧ r.inst = inst

/-- The one-time area has lost nothing: keys, identity and slots programmed are as they were, no slot revoked is taken
back, and neither the minimum version nor the signed-write counter is lower (R522, R526, R528). -/
structure OneTimeKept (s t : State) : Prop where
  keys : t.sec.keyHashes = s.sec.keyHashes
  identity : t.sec.idKey = s.sec.idKey
  programmed : t.sec.programmed = s.sec.programmed
  revoked : ∀ k, bit s.sec.revoked k = true → bit t.sec.revoked k = true
  version : s.sec.minVer ≤ t.sec.minVer
  counter : s.sec.counter ≤ t.sec.counter

end Sys2Proof.Machine
end

