-- ==== Sys2Proof/Certificates/Slice0/Obligations.lean ====
section
/-! DEFINITION. The statements. Each docstring names the chapter or rule of spec/ it rests on; `s.running` says that
firmware runs. `exec c s = .next t` says that the command completes, in t. -/

open Sys2Proof Sys2Proof.Machine

/-- Commands 1 to 4 of the bus loop. With firmware running and a session that exists: command 1 in OFF, with a V_bus
to judge by, takes the loop to SOFT where V_bus is at or above [2000.2B] and a tray carries current, else to
CHARGE, its coefficients converted, V_ref, I_st, the trays, the phases and the links as they were. Command 2 in
OFF at or above [2000.2B] with a tray carrying current does the same, to SOFT; below [2000.2B] with both feeds
absent and the tray of [2000.29] IDLE it takes the loop to CHARGE and puts that tray into PRECHARGE, a phase of
it in FAULT or not (where one stands there, its contactors stay open: log entry 69, DESIGN CHOICE). Command 3
takes CHARGE, SOFT, RUN and HOLD to STOPPING, command 4 takes TRIPPED to OFF, and neither changes anything else.
In every other state, without a V_bus to judge by, or where a condition of command 2 does not hold, the command
is a violation of [2000.02] and nothing else. Which trays carry current is log entry 10 (DEDUCED).
(02_bus_voltage_loop.md: Loop states and starting, 02_bus_voltage_loop.md: Objects) -/
def Obligations.LoopCommands : Prop :=
  (∀ s ses v, s.running = true → ses < Config.sessions → s.loop.st = .off → vBusForCommand s = some v →
    ∃ t, exec (.loopStart ses) s = .next t ∧
      t.loop.st = (if s.cfgF 0x2000 0x2B ≤ v ∧ s.anyCarrying = true then .soft else .charge) ∧
      t.loop.coef = convertCoef s ∧ t.loop.vRef = s.loop.vRef ∧ t.loop.iSt = s.loop.iSt ∧ t.trays = s.trays ∧
      t.phases = s.phases ∧ t.links = s.links ∧ t.sess = s.sess ∧ t.od = s.od ∧ t.tx = s.tx ∧
      (s.clk.pendingStep = none → t.fm = s.fm ∧ t.clk = s.clk)) ∧
  (∀ s ses, s.running = true → ses < Config.sessions → s.loop.st = .off → vBusForCommand s = none →
    exec (.loopStart ses) s = .next (s.violate ses 0x2000 0x02)) ∧
  (∀ s ses, s.running = true → ses < Config.sessions → s.loop.st ≠ .off →
    exec (.loopStart ses) s = .next (s.violate ses 0x2000 0x02)) ∧
  (∀ s ses v, s.running = true → ses < Config.sessions → s.loop.st = .off → vBusForCommand s = some v →
    s.cfgF 0x2000 0x2B ≤ v → s.anyCarrying = true →
    ∃ t, exec (.loopBlackStart ses) s = .next t ∧ t.loop.st = .soft ∧ t.loop.coef = convertCoef s ∧
      t.loop.vRef = s.loop.vRef ∧ t.loop.iSt = s.loop.iSt ∧ t.trays = s.trays ∧ t.phases = s.phases ∧
      t.links = s.links ∧ t.sess = s.sess ∧ t.od = s.od ∧ t.tx = s.tx ∧
      (s.clk.pendingStep = none → t.fm = s.fm ∧ t.clk = s.clk)) ∧
  (∀ s ses v, s.running = true → ses < Config.sessions → s.loop.st = .off → vBusForCommand s = some v →
    v < s.cfgF 0x2000 0x2B → s.bothAbsent = true → s.cfgU 0x2000 0x29 < Config.trays →
    (s.tray (s.cfgU 0x2000 0x29)).st = .idle →
    ∃ t, exec (.loopBlackStart ses) s = .next t ∧ t.loop.st = .charge ∧ t.loop.coef = convertCoef s ∧
      (t.tray (s.cfgU 0x2000 0x29)).st = .precharge ∧ (t.tray (s.cfgU 0x2000 0x29)).blackStart = true ∧
      t.sess = s.sess ∧ t.od = s.od ∧ t.feed = s.feed) ∧
  (∀ s ses v, s.running = true → ses < Config.sessions → s.loop.st = .off → vBusForCommand s = some v →
    s.cfgF 0x2000 0x2B ≤ v → s.anyCarrying = false →
    exec (.loopBlackStart ses) s = .next (s.violate ses 0x2000 0x02)) ∧
  (∀ s ses v, s.running = true → ses < Config.sessions → s.loop.st = .off → vBusForCommand s = some v →
    v < s.cfgF 0x2000 0x2B → s.bothAbsent = false ∨ Config.trays ≤ s.cfgU 0x2000 0x29 ∨
      (s.tray (s.cfgU 0x2000 0x29)).st ≠ .idle →
    exec (.loopBlackStart ses) s = .next (s.violate ses 0x2000 0x02)) ∧
  (∀ s ses, s.running = true → ses < Config.sessions → s.loop.st = .off → vBusForCommand s = none →
    exec (.loopBlackStart ses) s = .next (s.violate ses 0x2000 0x02)) ∧
  (∀ s ses, s.running = true → ses < Config.sessions → s.loop.st ≠ .off →
    exec (.loopBlackStart ses) s = .next (s.violate ses 0x2000 0x02)) ∧
  (∀ s ses, s.running = true → ses < Config.sessions →
    s.loop.st = .charge ∨ s.loop.st = .soft ∨ s.loop.st = .run ∨ s.loop.st = .hold →
    exec (.loopStop ses) s = .next { s with loop := { s.loop with st := .stopping, entry := false } }) ∧
  (∀ s ses, s.running = true → ses < Config.sessions →
    s.loop.st = .off ∨ s.loop.st = .stopping ∨ s.loop.st = .tripped →
    exec (.loopStop ses) s = .next (s.violate ses 0x2000 0x02)) ∧
  (∀ s ses, s.running = true → ses < Config.sessions → s.loop.st = .tripped →
    exec (.loopReset ses) s = .next { s with loop := { s.loop with st := .off } }) ∧
  (∀ s ses, s.running = true → ses < Config.sessions → s.loop.st ≠ .tripped →
    exec (.loopReset ses) s = .next (s.violate ses 0x2000 0x02))

/-- Exclusion, hold, windows and clamp of the bus loop. A reading out for 16 counted periods with three readings is
excluded with 0103h and returns after 1,000 within; five periods in HOLD raise 0104h and trip the loop; a clamp
of more than 100 periods raises 0105h, V_bus out of the window or the far window for longer than its time in RUN
raises 0101h or 0102h; SOFT becomes RUN when V_ref reaches V_set, and STOPPING becomes OFF at zero current. The
next state is given whole, so nothing else changes, but for the end of a HOLD that trips, which also commands
the rectifiers to zero and is given field by field. (02_bus_voltage_loop.md: Supervision,
02_bus_voltage_loop.md: The measured bus voltage, 02_bus_voltage_loop.md: Loop states and starting) -/
def Obligations.LoopSupervision : Prop :=
  (∀ s t, s.running = true → t < Config.trays → 3 ≤ s.loop.nLeft → get false s.loop.readOk t = true →
    16 ≤ get 0 s.loop.outRun t → s.isExcluded t = false →
    exec (.trayReadingExcluded t) s = .next (State.raise { s with loop := { s.loop with
      excluded := s.loop.excluded.set t true, outRun := s.loop.outRun.set t 0, inRun := s.loop.inRun.set t 0
      nLeft := s.loop.nLeft - 1 } } 0x0103 t)) ∧
  (∀ s t, s.running = true → t < Config.trays → s.isExcluded t = true → 1000 ≤ get 0 s.loop.inRun t →
    exec (.trayReadingReadmitted t) s = .next { s with loop := { s.loop with
      excluded := s.loop.excluded.set t false, outRun := s.loop.outRun.set t 0 } }) ∧
  (∀ s, s.running = true → s.loop.st = .hold → 5 ≤ s.loop.holdCount →
    ∃ t, exec .loopHoldTimeout s = .next t ∧ t.loop.st = .tripped ∧ t.loop.iSt = 0 ∧ t.raised 0x0104 noInst ∧
      t.phases = s.phases ∧ t.trays = s.trays) ∧
  (∀ s, s.running = true → 100 < s.loop.clampRun → s.loop.up105 = false →
    exec .clampPersistent s = .next (State.raise { s with loop := { s.loop with up105 := true } } 0x0105 noInst)) ∧
  (∀ s, s.running = true → s.loop.st = .run → s.cfgU 0x2000 0x1D < s.loop.windowRun → s.loop.up101 = false →
    exec .windowTimeout s = .next (State.raise { s with loop := { s.loop with up101 := true } } 0x0101 noInst)) ∧
  (∀ s, s.running = true → s.loop.st = .run → s.cfgU 0x2000 0x1F < s.loop.farRun → s.loop.up102 = false →
    exec .farWindowTimeout s = .next (State.raise { s with loop := { s.loop with up102 := true } } 0x0102 noInst)) ∧
  (∀ s, s.running = true → s.loop.st = .soft → s.loop.entry = false → s.loop.vRef = vSet s →
    exec .softStartComplete s = .next { s with loop := { s.loop with st := .run, windowRun := 0, farRun := 0 } }) ∧
  (∀ s, s.running = true → s.loop.st = .stopping → s.loop.iSt = 0 →
    exec .stoppingComplete s = .next { s with loop := { s.loop with
      st := .off, iSt := 0, sat := 0, satFlags := 0, slopeUsed := 0 } })

/-- Changes of a phase's state at the instants the law names. Two half periods below the entry level take a phase of
RUN to DE; a phase in DRAWING at weight 0 goes to DE as drawn, or OFF when commanded out of service meanwhile; a
phase in RESTORING at weight 1 goes to RUN; a handoff at weight 0 ends in FAULT for an open phase and in a snub
for the others; an allowed drawing takes the next phase of the order to DRAWING; the lockout ends when its time
has come; a trim held at its limit for more than 1 ms raises 0202h, but for a phase frozen by a trip snub; a
phase whose current sensor is being identified completes neither a drawing nor a restore. The next state is
given whole. (03_phases_and_edges.md: Drawing and restoring paddles, 03_phases_and_edges.md: Snubbing,
03_phases_and_edges.md: Phase faults and handoff) -/
def Obligations.PhaseStates : Prop :=
  (∀ s t p, s.running = true → t < Config.trays → p < Config.phases → (s.ph t p).st = .run → 2 ≤ (s.ph t p).deCnt →
    exec (.deEntry t p) s = .next (s.updPh t p (s.enterDe t p false))) ∧
  (∀ s t p, s.running = true → t < Config.trays → p < Config.phases → (s.ph t p).st = .drawing → (s.ph t p).w ≤ 0 →
    s.underTest t p = false →
    exec (.phaseDrawingComplete t p) s = .next (s.updPh t p (fun x =>
      if x.oos then { x.go .off false with oos := false }
      else { s.enterDe t p true x with w := 0, drawn := true }))) ∧
  (∀ s t p, s.running = true → t < Config.trays → p < Config.phases → (s.ph t p).st = .restoring → 1 ≤ (s.ph t p).w →
    s.underTest t p = false →
    exec (.phaseRestoreComplete t p) s = .next (s.updPh t p (fun x => x.go .run false))) ∧
  (∀ s t p, s.running = true → t < Config.trays → p < Config.phases → (s.ph t p).st = .handoff → (s.ph t p).w ≤ 0 →
    exec (.phaseHandoffComplete t p) s = .next (s.updPh t p (fun x => match x.cause with
      | .opened => x.go .fault false
      | .sense => s.sees t p (x.snub .toFault)
      | .service => s.sees t p (x.snub .toOff)))) ∧
  (∀ s t p, s.running = true → t < Config.trays → drawAllowed s t = true → drawNext s t = some p →
    exec (.phaseDrawStart t) s = .next (s.updPh t p (fun x => { x.go .drawing true with w := 1, rate := -(1 / 8) }))) ∧
  (∀ s, s.running = true → s.edge.lockUntil ≠ 0 → s.edge.lockUntil ≤ s.now →
    exec .drawingLockoutExpiry s = .next { s with edge := { s.edge with lockUntil := 0 } }) ∧
  (∀ s t p a, s.running = true → t < Config.trays → p < Config.phases → (s.ph t p).trimSince = some a →
    a + ms < s.now → (s.ph t p).up202 = false → (s.ph t p).frozen = false →
    exec (.balanceTrimAtLimit t p) s =
      .next ((s.updPh t p (fun x => { x with up202 := true })).raise 0x0202 (phIdx t p)))

/-- The half-period instants, failed phases and their handoff. Eight evaluations in a row of a phase that can hand
off raise 0203h or, on the observer, 0204h: the phase is in HANDOFF, its weight falling to 0 over 16 half
periods, the tray's capacity is published without it, and a capacity below the present reference raises 0207h
where it does not stand; a tray-sum mismatch of 4 periods begins identification at phase 0; identification past
the last phase ends, with 0205h and the test suspended where nothing was found and nothing passed over; a half-
period update leaves the weight between 0 and 1, with a trim limit of 0 a trim of 0, and on a lost link changes
nothing; none of these touches the bus loop, the trays' states, the dictionary or the recorder. For a phase in
RUN of a tray in the set, with no failure due and not under test, the update takes the current interpolated at
the instant (R52), moves the trim toward the mean of the mean set within its limit (R54, R55), the weight by its
ramp, and counts the half periods below the DE entry level (R63); the instant of phase 0, in RUN or OFF, adds
the mean error to the tray's integrator (R54). In DE the DE integrator takes Ki/Kp of the error, and a reference
above the exit level brings the phase back to RUN (R63, R64). (03_phases_and_edges.md: Phase faults and handoff,
03_phases_and_edges.md: Paddle links, 03_phases_and_edges.md: Phase current and the phase law) -/
def Obligations.PhaseFaults : Prop :=
  (∀ s t p, s.running = true → t < Config.trays → p < Config.phases → 8 ≤ (s.ph t p).openCnt →
    (s.ph t p).canHandOff = true →
    ∃ u, exec (.phaseOpenDetected t p) s = .next u ∧ u.raised 0x0203 (phIdx t p) ∧ u.loop = s.loop ∧ u.trays = s.trays ∧
      u.od = s.od ∧ u.rcd = s.rcd ∧ (u.ph t p).st = .handoff ∧ (u.ph t p).cause = .opened ∧
        (u.ph t p).w = (s.ph t p).w ∧
      (u.ph t p).rate = -(if (s.ph t p).w = 0 then 1 else (s.ph t p).w) / 16 ∧
      (u.tp t).capacity = (if (u.link t).up then capacityOf u t else 0) ∧
      ((u.tp t).capacity < absQ (s.tp t).rTray → (u.tp t).up207 = true)) ∧
  (∀ s t p, s.running = true → t < Config.trays → p < Config.phases → 8 ≤ (s.ph t p).senseCnt →
    (s.ph t p).st.carry = true →
    ∃ u, exec (.phaseSenseFailed t p) s = .next u ∧ u.raised 0x0204 (phIdx t p) ∧ u.loop = s.loop ∧ u.trays = s.trays ∧
      u.od = s.od ∧ u.rcd = s.rcd ∧ (u.ph t p).st = .handoff ∧ (u.ph t p).cause = .sense ∧ (u.ph t p).w = (s.ph t p).w ∧
      (u.ph t p).rate = -(if (s.ph t p).w = 0 then 1 else (s.ph t p).w) / 16 ∧
      (u.tp t).capacity = (if (u.link t).up then capacityOf u t else 0) ∧
      ((u.tp t).capacity < absQ (s.tp t).rTray → (u.tp t).up207 = true)) ∧
  (∀ s t, s.running = true → t < Config.trays → 8 ≤ (s.tp t).mismatch → (s.tp t).ident = none →
    (s.tp t).sumOff = false →
    exec (.traySumMismatch t) s = .next (publishCapacity t (s.updTp t (fun y => { y with
      mismatch := 0, ident := some { p := 0, step := 0, w0 := 1, found := false, passed := false } })))) ∧
  (∀ s t d, s.running = true → t < Config.trays → (s.tp t).ident = some d → s.nPh t ≤ d.p → d.found = false →
    d.passed = false →
    exec (.identificationComplete t) s =
      .next ((s.updTp t (fun y => { y with ident := none, sumOff := true })).raise 0x0205 t)) ∧
  (∀ s t d, s.running = true → t < Config.trays → (s.tp t).ident = some d → s.nPh t ≤ d.p →
    d.found = true ∨ d.passed = true →
    exec (.identificationComplete t) s = .next (s.updTp t (fun y => { y with ident := none }))) ∧
  (∀ s t p, s.running = true → t < Config.trays → p < Config.phases → (s.link t).up = true →
    ∃ u, exec (.halfPeriodUpdate t p) s = .next u ∧ 0 ≤ (u.ph t p).w ∧ (u.ph t p).w ≤ 1 ∧
      (s.cfgF (0x2100 + t) 0x0C = 0 → (u.ph t p).b = 0) ∧ u.loop = s.loop ∧ u.trays = s.trays ∧ u.od = s.od ∧
        u.rcd = s.rcd) ∧
  (∀ s t p, s.running = true → t < Config.trays → p < Config.phases → (s.link t).up = false →
    exec (.halfPeriodUpdate t p) s = .next s) ∧
  (∀ s t p, s.running = true → t < Config.trays → p < Config.phases → 0 < p → (s.link t).up = true →
    (s.tp t).testRef = none → (s.tp t).testEnd = false → s.inSet t = true → s.underTest t p = false →
    (s.ph t p).st = .run → (s.ph t p).deCnt < 2 → (s.ph t p).openCnt < 8 → (s.ph t p).senseCnt < 8 →
    ∃ u, exec (.halfPeriodUpdate t p) s = .next u ∧ (u.ph t p).st = .run ∧ (u.ph t p).r = (s.ph t p).r ∧
      (u.ph t p).i =
        (bracketI p (halfInstant s.kDiv t p ((s.link t).sampleAt : Rat)) (s.link t).samples).getD (s.ph t p).i ∧
      (u.ph t p).b = (if s.cfgB (0x2100 + t) 0x0C = 0 then 0 else
        clampQ (-s.cfgB (0x2100 + t) 0x0C) (s.cfgB (0x2100 + t) 0x0C) ((s.ph t p).b + s.cfgB (0x2100 + t) 0x0B *
          (meanQ ((meanSet (s.updPh t p (s.sees t p)) t).map (·.i)) - (u.ph t p).i))) ∧
      (u.ph t p).w = clampQ 0 1 ((s.ph t p).w + (s.ph t p).rate) ∧ (u.tp t).x = (s.tp t).x ∧
      (u.ph t p).deCnt =
        (if absQ (s.ph t p).r < s.cfgB 0x2200 0x09 * s.iPhR t then (s.ph t p).deCnt + 1 else 0)) ∧
  (∀ s t, s.running = true → t < Config.trays → (s.link t).up = true →
    (s.tp t).testRef = none → (s.tp t).testEnd = false → s.inSet t = true →
    (s.ph t 0).st = .off ∨ (s.ph t 0).st = .run ∧ (s.ph t 0).deCnt < 2 ∧ (s.ph t 0).openCnt < 8 ∧
      (s.ph t 0).senseCnt < 8 →
    meanSet (s.updPh t 0 (s.sees t 0)) t ≠ [] →
    ∃ u, exec (.halfPeriodUpdate t 0) s = .next u ∧ (u.tp t).x = (s.tp t).x +
      s.cfgB (0x2100 + t) 0x0A * meanQ ((meanSet (s.updPh t 0 (s.sees t 0)) t).map fun x => x.r - x.i)) ∧
  (∀ s t p, s.running = true → t < Config.trays → p < Config.phases → 0 < p → (s.link t).up = true →
    (s.tp t).testRef = none → (s.tp t).testEnd = false → s.inSet t = true → (s.ph t p).st = .de →
      (s.ph t p).drawn = false →
    (s.ph t p).openCnt < 8 →
    ∃ u, exec (.halfPeriodUpdate t p) s = .next u ∧ (u.ph t p).r = (s.ph t p).r ∧ (u.tp t).x = (s.tp t).x ∧
      (s.cfgB 0x2200 0x0A * s.iPhR t < absQ (s.ph t p).r → (u.ph t p).st = .run) ∧
      (absQ (s.ph t p).r ≤ s.cfgB 0x2200 0x0A * s.iPhR t → (u.ph t p).st = .de ∧
        (u.ph t p).i = (periodMean s.kDiv p (s.link t).sampleAt (s.link t).samples).getD (s.ph t p).i ∧
        (u.ph t p).ei = (s.ph t p).ei + s.cfgB (0x2100 + t) 0x0A / s.cfgB (0x2100 + t) 0x09 *
          ((s.ph t p).r - (u.ph t p).i)))

/-- Taking phases out of and into service, and the pre-start check. For a phase the tray has: command 0 on a phase
out of service is a violation; else the phase leaves the running check, if one covers it, and a SHED, OFF, CHECK
or FAULT phase goes to OFF, a DRAWING phase is marked to end in OFF, a phase in HANDOFF stays as it is, one of a
lost link returns as OFF, and a phase that runs is handed off for service. Command 1 is a violation on a phase
in service that is neither OFF nor in FAULT, and else puts it in service, requests the check (of a black-start
tray in PRECHARGE the one of R99), and joins one that runs. A requested check starts when it may and a phase is
covered; the next phase of a running check is probed when due, or judged at once where its switch node stands
above half of the bus; a retry that is due sends its probe again; at a tray whose first-break pin is open, or
that is PULLED, no probe leaves (R118). (03_phases_and_edges.md: Phase faults and handoff,
03_phases_and_edges.md: The pre-start check) -/
def Obligations.PhaseService : Prop :=
  (∀ s ses t p, s.running = true → ses < Config.sessions → t < Config.trays → p < Config.phases →
    (s.ph t p).svc = false → exec (.phaseOutOfService ses t p) s = .next (s.violate ses (0x2100 + t) (0x11 + 8 * p))) ∧
  (∀ s ses t p, s.running = true → ses < Config.sessions → t < Config.trays → p < Config.phases → p < s.nPh t →
    (s.ph t p).svc = true →
    (s.ph t p).st = .off ∨ (s.ph t p).st = .shed ∨ (s.ph t p).st = .check ∨ (s.ph t p).st = .fault →
    exec (.phaseOutOfService ses t p) s = .next
      ((leaveCheck t p (s.updPh t p (fun x => { x with svc := false, want := false }))).updPh t p
        (fun x => x.go .off false))) ∧
  (∀ s ses t p, s.running = true → ses < Config.sessions → t < Config.trays → p < Config.phases → p < s.nPh t →
    (s.ph t p).svc = true → (s.ph t p).st = .drawing →
    exec (.phaseOutOfService ses t p) s = .next
      ((leaveCheck t p (s.updPh t p (fun x => { x with svc := false, want := false }))).updPh t p
        (fun x => { x with oos := true }))) ∧
  (∀ s ses t p, s.running = true → ses < Config.sessions → t < Config.trays → p < Config.phases → p < s.nPh t →
    (s.ph t p).svc = true → (s.ph t p).st = .handoff →
    exec (.phaseOutOfService ses t p) s = .next
      (leaveCheck t p (s.updPh t p (fun x => { x with svc := false, want := false })))) ∧
  (∀ s ses t p, s.running = true → ses < Config.sessions → t < Config.trays → p < Config.phases → p < s.nPh t →
    (s.ph t p).svc = true → (s.ph t p).st = .linkLost →
    exec (.phaseOutOfService ses t p) s = .next
      ((leaveCheck t p (s.updPh t p (fun x => { x with svc := false, want := false }))).updPh t p
        (fun x => { x with prev := .off }))) ∧
  (∀ s ses t p, s.running = true → ses < Config.sessions → t < Config.trays → p < Config.phases → p < s.nPh t →
    (s.ph t p).svc = true →
    (s.ph t p).st = .run ∨ (s.ph t p).st = .de ∨ (s.ph t p).st = .restoring ∨ (s.ph t p).st = .snub →
    exec (.phaseOutOfService ses t p) s = .next
      (handOffEff t p .service (leaveCheck t p (s.updPh t p (fun x => { x with svc := false, want := false }))))) ∧
  (∀ s ses t p, s.running = true → ses < Config.sessions → t < Config.trays → p < Config.phases →
    (s.ph t p).svc = true → (s.ph t p).st ≠ .off → (s.ph t p).st ≠ .fault →
    exec (.phaseIntoService ses t p) s = .next (s.violate ses (0x2100 + t) (0x11 + 8 * p))) ∧
  (∀ s ses t p, s.running = true → ses < Config.sessions → t < Config.trays → p < Config.phases → p < s.nPh t →
    (s.ph t p).svc = false ∨ (s.ph t p).st = .off ∨ (s.ph t p).st = .fault →
    exec (.phaseIntoService ses t p) s = .next (joinCheck t p (requestCheck t (some p) (s.bsChecks t) (s.bsChecks t)
      ((s.updPh t p (fun x => { x with svc := true, want := true, oos := false })).updTray t
        (fun x => { x with bsPassed := false }))))) ∧
  (∀ s t c, s.running = true → t < Config.trays → (s.tp t).check = some c → c.started = false →
    checkAllowed s t c = true → coveredPhases s t ≠ [] →
    exec (.prestartCheckStart t) s = .next (s.updTp t (fun y => { y with check := some { c with
      started := true, told := coveredPhases s t ++ c.told, todo := coveredPhases s t, tries := 0, due := s.now
      retry := false, tb := none, anyFailed := false } }))) ∧
  (∀ s t c p rest, s.running = true → t < Config.trays → (s.tp t).check = some c → c.todo = p :: rest →
    c.started = true → c.tb = none → c.retry = false → c.due ≤ s.now → kindAllowed s t .probe = true →
    c.blackStart = true ∨ (s.ph t p).vSw ≤ (s.link t).vBus / 2 →
    exec (.prestartPhaseProbe t) s =
      .next (sendProbe t p c (s.updPh t p (fun x => { x.go .check false with prev := x.st })))) ∧
  (∀ s t c p rest, s.running = true → t < Config.trays → (s.tp t).check = some c → c.todo = p :: rest →
    c.started = true → c.tb = none → c.retry = false → c.due ≤ s.now → kindAllowed s t .probe = true →
    c.blackStart = false → (s.link t).vBus / 2 < (s.ph t p).vSw →
    exec (.prestartPhaseProbe t) s = .next (judge t p c false s)) ∧
  (∀ s t c p rest, s.running = true → t < Config.trays → (s.tp t).check = some c → c.todo = p :: rest →
    c.started = true → c.retry = true → c.due ≤ s.now → kindAllowed s t .probe = true →
    exec (.probeRetry t) s = .next (sendProbe t p c s)) ∧
  (∀ s t, s.running = true → t < Config.trays → kindAllowed s t .probe = false →
    exec (.prestartPhaseProbe t) s = .next s ∧ exec (.probeRetry t) s = .next s)

/-- An older edge command is discarded and counted. A command of a period before the one of the phase's newest
command adds one to the late-command counter (which stays at its largest value) and changes nothing else: the
phase keeps the newer command. The newest command of a phase is the last one sent for it (log entry 69, DESIGN
CHOICE). (R18) -/
def Obligations.LateCommands : Prop :=
  ∀ s t p n, s.running = true → t < Config.trays → p < Config.phases → n < (s.ph t p).cmdAt →
    exec (.lateCommandDiscard t p n) s = .next { s with edge := { s.edge with late := sat32 (s.edge.late + 1) } }

/-- Late periods are noticed and warned of. Edge commands at most 900 ns after t0 only record the delay; later ones
count, raise notice 020Bh, and with ten others within the last second raise warning 020Ch; the phases, their
commands and the loop's state are as they were. (01_shelf_and_signal_flow.md: One control period, sample to
edge) -/
def Obligations.LatePeriods : Prop :=
  (∀ s d, s.running = true → d ≤ 900 → exec (.latePeriod d) s =
    .next { s with loop := { s.loop with delayLast := d, delayHigh := max s.loop.delayHigh d } }) ∧
  (∀ s d, s.running = true → 900 < d →
    ∃ u, exec (.latePeriod d) s = .next u ∧ u.raised 0x020B noInst ∧ u.loop.delayLast = d ∧
      u.edge.latePeriods = sat32 (s.edge.latePeriods + 1) ∧ u.edge.late = s.edge.late ∧ u.phases = s.phases ∧
      u.loop.st = s.loop.st ∧
      ((s.edge.lateTimes.filter (fun a => decide (s.now < a + sec))).length = 10 → u.raised 0x020C noInst))

/-- What arrives on a paddle link. A SAMPLE, STATUS, CONFIG_REPLY or EVENT frame whose CRC fails counts one frame
error; a frame of a type that no stage sends is a frame error too; a STATUS with a good CRC leaves the loop, the
edge counters and the dictionary as they were where no phase of the tray is being checked; a CONFIG_REPLY with
reason 0 ends the wait for its register and a reason marks it refused; an EVENT with the overvoltage flag raises
0107h and puts a loop that is not OFF into TRIPPED with I_st zero, one without it does nothing there; an EVENT
with an overcurrent flag of a phase the tray has raises 020Ah for that phase, and with no check of the tray
leaves the loop and the trays as they were. (03_phases_and_edges.md: Paddle links, 16_faults.md: Hardwired
trips) -/
def Obligations.LinkFrames : Prop :=
  (∀ s t f d, s.running = true → t < Config.trays → parsePaddle t f = some (0x81, d) →
    ∃ u, exec (.sampleFrame t f) s = .next u ∧ u.loop = s.loop ∧ u.edge.frameErrors = s.edge.frameErrors ∧
      u.od = s.od) ∧
  (∀ s t f, s.running = true → t < Config.trays → parsePaddle t f = none →
    (∃ u, exec (.sampleFrame t f) s = .next u ∧ u.edge.frameErrors = sat32 (s.edge.frameErrors + 1) ∧ u.loop = s.loop) ∧
    (∃ u, exec (.statusFrame t f) s = .next u ∧ u.edge.frameErrors = sat32 (s.edge.frameErrors + 1) ∧ u.loop = s.loop) ∧
    exec (.stageConfigReply t f) s = .next (frameError t s) ∧ exec (.phaseOvercurrent t f) s = .next (frameError t s) ∧
    exec (.busOvervoltage t f) s = .next (frameError t s)) ∧
  (∀ s t f k d, s.running = true → t < Config.trays → parsePaddle t f = some (k, d) → k < 0x81 ∨ 0x84 < k →
    exec (.sampleFrame t f) s = .next (frameError t s) ∧ exec (.statusFrame t f) s = .next (frameError t s) ∧
    exec (.stageConfigReply t f) s = .next (frameError t s) ∧ exec (.phaseOvercurrent t f) s = .next (frameError t s) ∧
    exec (.busOvervoltage t f) s = .next (frameError t s)) ∧
  (∀ s t, (frameError t s).edge.frameErrors = sat32 (s.edge.frameErrors + 1) ∧ (frameError t s).loop = s.loop ∧
    (frameError t s).phases = s.phases ∧ (frameError t s).trays = s.trays) ∧
  (∀ s t f d, s.running = true → t < Config.trays → parsePaddle t f = some (0x82, d) → (s.tp t).check = none →
    ∃ u, exec (.statusFrame t f) s = .next u ∧ u.loop = s.loop ∧ u.edge = s.edge ∧ u.od = s.od) ∧
  (∀ s t f d, s.running = true → t < Config.trays → parsePaddle t f = some (0x83, d) → u16At d 2 = 0 →
    exec (.stageConfigReply t f) s = .next (s.updLink t (fun l => { l with
      cfgSent := l.cfgSent.filter (fun x => x.1 != u16At d 0), cfgRefused := l.cfgRefused.filter (· != u16At d 0) }))) ∧
  (∀ s t f d, s.running = true → t < Config.trays → parsePaddle t f = some (0x83, d) → u16At d 2 ≠ 0 →
    exec (.stageConfigReply t f) s = .next (s.updLink t (fun l => { l with
      cfgRefused := l.cfgRefused.filter (· != u16At d 0) ++ [u16At d 0] }))) ∧
  (∀ s t f d, s.running = true → t < Config.trays → parsePaddle t f = some (0x84, d) → u8At d 10 ≠ 0 →
    s.loop.st ≠ .off →
    ∃ u, exec (.busOvervoltage t f) s = .next u ∧ u.loop.st = .tripped ∧ u.loop.iSt = 0 ∧ u.raised 0x0107 noInst) ∧
  (∀ s t f d, s.running = true → t < Config.trays → parsePaddle t f = some (0x84, d) → u8At d 10 = 0 →
    exec (.busOvervoltage t f) s = .next s) ∧
  (∀ s t f d p, s.running = true → t < Config.trays → p < s.nPh t → parsePaddle t f = some (0x84, d) →
    bit (u8At d 8) p = true →
    ∃ u, exec (.phaseOvercurrent t f) s = .next u ∧ u.raised 0x020A (phIdx t p) ∧
      ((s.tp t).check = none → u.loop = s.loop ∧ u.trays = s.trays))

/-- Loss, return and timing of a paddle link. TIME goes to a linked tray and nowhere else; the measured delay is
half of the round trip less the stage's turnaround; the loss of one lane raises 0208h once; PADDLE_LINK_LOST,
whose row is the instant of the fourth missing frame, raises 0209h and loses a link that is up; five
milliseconds later the held current begins to fall; a returning link is up with no frame missing, its phases
back as R91 says (the states of a stage not in fallback, of HANDOFF and of SNUB as log entry 69 chooses), and
the stage's configuration is sent again; a regained lane clears the one-lane mark. (03_phases_and_edges.md:
Paddle links, 04_storage_trays.md: Link loss on a seated tray) -/
def Obligations.LinkStates : Prop :=
  (∀ s t, s.running = true → t < Config.trays → (s.link t).up = true →
    exec (.timeFrameSend t) s = .next ((s.sendPaddle t 0x02
      (le 8 s.now ++ le 4 (s.link t).delay ++ le 1 1 ++ le 3 0)).updLink
      t (fun l => { l with timeSeq := (s.link t).txSeq }))) ∧
  (∀ s t, s.running = true → t < Config.trays → (s.link t).up = false → exec (.timeFrameSend t) s = .next s) ∧
  (∀ s t r, s.running = true → t < Config.trays →
    exec (.linkDelayMeasure t r) s = .next (s.updLink t (fun l => { l with delay := (r - l.echoTurn) / 2 }))) ∧
  (∀ s t, s.running = true → t < Config.trays → (s.link t).up = true → (s.link t).oneLane = false →
    exec (.linkLaneLost t) s = .next ((s.updLink t (fun l => { l with oneLane := true })).raise 0x0208 t)) ∧
  (∀ s t, s.running = true → t < Config.trays →
    exec (.paddleLaneRestored t) s = .next (s.updLink t (fun l => { l with oneLane := false }))) ∧
  (∀ s t, s.running = true → t < Config.trays → (s.link t).up = true →
    ∃ u, exec (.paddleLinkLost t) s = .next u ∧ u.raised 0x0209 t ∧ u.loop.st = s.loop.st ∧ u.feed = s.feed) ∧
  (∀ s t a, s.running = true → t < Config.trays → (s.link t).lostAt = some a → (s.link t).fallAt = none →
    a + 5 * ms ≤ s.now →
    ∃ u, exec (.heldCurrentExpiry t) s = .next u ∧ (u.link t).fallAt = some (a + 5 * ms) ∧ u.loop = s.loop ∧
      u.phases = s.phases ∧ u.trays = s.trays) ∧
  (∀ s t fb, s.running = true → t < Config.trays → (s.link t).up = false →
    exec (.paddleLinkRestored t fb) s = .next (sendStageConfig t ((((s.updLink t (fun l => { l with
        up := true, everUp := true, missing := 0, lostAt := none, held := 0, fallAt := none, fallback := fb
        samples := [], oneLane := false })).updPhs t (fun x => x.regain fb)).updTp t (fun y => { y with
        x := 0, blend := if fb then 16 else 0, mismatch := 0 })).updTray t (fun x => { x with
        seatLostAt := none, lostInSet := false }))))

/-- Commands 1 to 5 of a tray. Each command of [3000+t.02] that Table 4.1 does not allow in the tray's state is a
violation and nothing else; allowed, command 1 begins the check, 2 the drain with its transaction, 3 slack
water, 4 the urgent end of slack water, 5 takes FAULT to IDLE where the cause has gone. The next state is given
whole, but for slack water's begin and end, of which only the tray, the loop and what is named are given.
(04_storage_trays.md: States, 04_storage_trays.md: Slack water, 04_storage_trays.md: Drain and commanded
removal) -/
def Obligations.TrayCommands : Prop :=
  (∀ s ses t, s.running = true → ses < Config.sessions → t < Config.trays → insertAllowed s t = true →
    exec (.trayInsert ses t) s = .next (enterCheck t s)) ∧
  (∀ s ses t, s.running = true → ses < Config.sessions → t < Config.trays → insertAllowed s t = false →
    exec (.trayInsert ses t) s = .next (s.violate ses (0x3000 + t) 0x02)) ∧
  (∀ s ses t, s.running = true → ses < Config.sessions → t < Config.trays → drainAllowed s t = true →
    exec (.trayDrain ses t) s = .next (drainWith ses (s.seqOf ses) t s)) ∧
  (∀ s ses t, s.running = true → ses < Config.sessions → t < Config.trays → drainAllowed s t = false →
    exec (.trayDrain ses t) s = .next (s.violate ses (0x3000 + t) 0x02)) ∧
  (∀ s ses t, s.running = true → ses < Config.sessions → t < Config.trays → slackConditions s t = true →
    ∃ u, exec (.traySlackBegin ses t) s = .next u ∧ u.alloc.slackTray = some t ∧ (u.tray t).st = .slack ∧
      (u.tray t).slack = .rampDown ∧ u.sess = s.sess ∧ u.loop = s.loop ∧ u.phases = s.phases) ∧
  (∀ s ses t, s.running = true → ses < Config.sessions → t < Config.trays → slackConditions s t = false →
    exec (.traySlackBegin ses t) s = .next (s.violate ses (0x3000 + t) 0x02)) ∧
  (∀ s ses t, s.running = true → ses < Config.sessions → t < Config.trays → (s.tray t).st = .slack →
    s.alloc.slackTray = some t →
    ∃ u, exec (.traySlackEnd ses t) s = .next u ∧ u.raised 0x0307 t ∧ (u.tray t).st = .admitting ∧ u.sess = s.sess ∧
      u.loop = s.loop ∧ u.phases = s.phases) ∧
  (∀ s ses t, s.running = true → ses < Config.sessions → t < Config.trays → (s.tray t).st ≠ .slack →
    exec (.traySlackEnd ses t) s = .next (s.violate ses (0x3000 + t) 0x02)) ∧
  (∀ s ses t, s.running = true → ses < Config.sessions → t < Config.trays → (s.tray t).st = .fault →
    causeGone s t = true →
    exec (.trayReset ses t) s = .next (s.updTray t (fun x => { x with
      st := .idle, since := s.now, trayEn := x.pin && !x.pinBlocked, cause := 0, weirFault := false
      linkFault := false }))) ∧
  (∀ s ses t, s.running = true → ses < Config.sessions → t < Config.trays →
    (s.tray t).st ≠ .fault ∨ causeGone s t = false →
    exec (.trayReset ses t) s = .next (s.violate ses (0x3000 + t) 0x02))

/-- From ABSENT to ONLINE. A tray seated for 100 ms with its link up becomes IDLE and its ring is started; on a link
that has reported, a precharge off its curve raises 0301h and a criterion held for 1 ms drives K_P closed; after
the close time the test begins; a rise below the threshold confirms the contactor and the tray is admitted, a
larger one raises 0302h; an admission factor of 1 makes it ONLINE. (04_storage_trays.md: Insertion,
04_storage_trays.md: States) -/
def Obligations.TrayEntry : Prop :=
  (∀ s t, s.running = true → t < Config.trays → (s.tray t).st = .absent → (s.link t).up = true → (s.tray t).pin = true →
    (s.tray t).pinSince + 100 * ms ≤ s.now →
    exec (.traySeated t) s = .next (towStart t (s.updTray t (fun x => { x with
      st := .idle, since := s.now, trayEn := true, pinBlocked := false
      autoPending := decide (s.cfgU (0x3000 + t) 0x03 = 1), cause := 0, safe := false })))) ∧
  (∀ s t, s.running = true → t < Config.trays → (s.tray t).st = .precharge → (s.tray t).kN = true →
    s.linkFresh t = true → trackingFails s t = true →
    ∃ u, exec (.prechargeTrackCheck t) s = .next u ∧ u.raised 0x0301 t ∧ u.phases = s.phases ∧ u.links = s.links ∧
      u.od = s.od) ∧
  (∀ s t a, s.running = true → t < Config.trays → (s.tray t).st = .precharge → (s.tray t).critSince = some a →
    (s.tray t).kN = true → s.linkFresh t = true → a + ms ≤ s.now → (s.tray t).blackStart = false →
    exec (.prechargeClosure t) s = .next (s.updTray t (fun x => { x with
      st := .closing, since := s.now, kP := true, closeAt := s.now, test := none }))) ∧
  (∀ s t, s.running = true → t < Config.trays → (s.tray t).test = none → (s.link t).up = true →
    (s.tray t).st = .closing → (s.tray t).closeAt + s.cfgU (0x3000 + t) 0x15 * ms ≤ s.now →
    exec (.contactorTestStart t) s = .next (testBegin t .closing s)) ∧
  (∀ s t, s.running = true → t < Config.trays → (s.tray t).test = some .closing → (s.tray t).testAt + ms ≤ s.now →
    (s.link t).vLink - (s.tray t).testV < s.cfgF (0x3000 + t) 0x18 →
    exec (.containedTestPass t) s = .next (closingPassed t s)) ∧
  (∀ s t, s.running = true → t < Config.trays → (s.tray t).test = some .closing → (s.tray t).testAt + ms ≤ s.now →
    s.cfgF (0x3000 + t) 0x18 ≤ (s.link t).vLink - (s.tray t).testV →
    ∃ u, exec (.containedTestPass t) s = .next u ∧ u.raised 0x0302 t) ∧
  (∀ s t, s.running = true → t < Config.trays → (s.tray t).st = .admitting → (s.tray t).a = 1 →
    exec (.trayAdmitComplete t) s = .next (setTray t .online s))

/-- Draining, opening and resting trays, pins broken and made. Limits ramped to zero take a tray that begins slack
water, and one that drains, out of the set; a drained tray not at zero current after 100 ms raises 0303h; at its
open time an opening without a test ends in FAULT where it has a cause and in IDLE where it has none (log entry
20, DEDUCED); slack water begins by itself on the candidate when enabled and allowed, ends after its duration
over the admission time, and urgently after 1 ms of demand. A pin that breaks on an ABSENT or PULLED tray is
noted and ends a check that runs there; on a seated tray with its link up that holds a drive high or is in
PRECHARGE or CLOSING it raises critical fault 0305h and the tray is PULLED with TRAY_EN low, on any other seated
tray it raises 0309h; within 10 ms of the link's loss, on a tray that was in the set, it raises 0306h and the
tray is PULLED. A pin made again is noted with its time, starts the ring of its tray over where it is not down,
and ends its block after 100 ms; a seated tray without its link for 1 s raises 030Ah. (04_storage_trays.md:
Drain and commanded removal, 04_storage_trays.md: Slack water, 04_storage_trays.md: Hot pull,
04_storage_trays.md: Link loss on a seated tray) -/
def Obligations.TrayExit : Prop :=
  (∀ s t, s.running = true → t < Config.trays → (s.tray t).ramp = some (0, 0) → (s.tray t).st = .slack →
    (s.tray t).slack = .rampDown →
    exec (.drainLimitsZero t) s =
      .next (State.updTray { s with alloc := { s.alloc with set := s.alloc.set.set t false } } t
      (fun x => { x with slack := .resting s.now }))) ∧
  (∀ s t, s.running = true → t < Config.trays → (s.tray t).ramp = some (0, 0) → (s.tray t).st = .drain →
    (s.tray t).leftAt = none →
    ∃ u, exec (.drainLimitsZero t) s = .next u ∧ u.alloc.set = s.alloc.set.set t false ∧ u.loop = s.loop ∧
      u.od = s.od) ∧
  (∀ s t a, s.running = true → t < Config.trays → (s.tray t).st = .drain → (s.tray t).leftAt = some a →
    a + 100 * ms ≤ s.now → atZero s t = false →
    ∃ u, exec (.drainOpenTimeout t) s = .next u ∧ u.raised 0x0303 t ∧ u.od = s.od) ∧
  (∀ s t a, s.running = true → t < Config.trays → (s.tray t).st = .opening → (s.tray t).openSince = some a →
    a + s.cfgU (0x3000 + t) 0x16 * 1000 ≤ s.now → (s.tray t).cause ≠ 0 →
    exec (.openingTimeout t) s = .next (trayFault t (s.tray t).cause s)) ∧
  (∀ s t a, s.running = true → t < Config.trays → (s.tray t).st = .opening → (s.tray t).openSince = some a →
    a + s.cfgU (0x3000 + t) 0x16 * 1000 ≤ s.now → (s.tray t).cause = 0 →
    ∃ u, exec (.openingTimeout t) s = .next u ∧ (u.tray t).st = .idle ∧ (u.tray t).openSince = none ∧ u.fm = s.fm ∧
      u.alloc = s.alloc ∧ u.loop = s.loop ∧ u.phases = s.phases) ∧
  (∀ s t, s.running = true → slackCandidate s = some t → s.cfgU 0x3010 0x06 = 1 → slackConditions s t = true →
    ∃ u, exec .slackAutoBegin s = .next u ∧ u.alloc.slackTray = some t ∧ u.loop = s.loop) ∧
  (∀ s t a, s.running = true → s.alloc.slackTray = some t → (s.tray t).slack = .resting a →
    a + s.cfgU 0x3010 0x07 * sec ≤ s.now →
    exec .slackRestEnd s = .next (slackReturn t (s.cfgU (0x3000 + t) 0x19 * ms) s)) ∧
  (∀ s a, s.running = true → s.alloc.urgentSince = some a → a + ms ≤ s.now →
    exec .slackUrgentDemand s = .next (slackUrgent s)) ∧
  (∀ s t, s.running = true → t < Config.trays → (s.tray t).pin = true → (s.tray t).st = .absent ∨
      (s.tray t).st = .pulled →
    exec (.earlyBreakBroken t) s =
      .next (abandonCheck t (s.updTray t (fun x => { x with pin := false, pinSince := s.now })))) ∧
  (∀ s t, s.running = true → t < Config.trays → (s.tray t).pin = true → (s.tray t).st ≠ .absent →
    (s.tray t).st ≠ .pulled → (s.tray t).seatLostAt = none → (s.tray t).pulls = true →
    ∃ u, exec (.earlyBreakBroken t) s = .next u ∧ u.raised 0x0305 t ∧ (u.tray t).st = .pulled ∧
      (u.tray t).trayEn = false ∧ u.od = s.od ∧ u.est = s.est) ∧
  (∀ s t, s.running = true → t < Config.trays → (s.tray t).pin = true → (s.tray t).st ≠ .absent →
    (s.tray t).st ≠ .pulled → (s.tray t).seatLostAt = none → (s.tray t).pulls = false →
    ∃ u, exec (.earlyBreakBroken t) s = .next u ∧ u.raised 0x0309 t ∧ (u.tray t).trayEn = false ∧ u.od = s.od) ∧
  (∀ s t a, s.running = true → t < Config.trays → (s.tray t).pin = true → (s.tray t).st ≠ .absent →
    (s.tray t).st ≠ .pulled → (s.tray t).seatLostAt = some a → (s.tray t).lostInSet = true → s.now ≤ a + 10 * ms →
    ∃ u, exec (.earlyBreakBroken t) s = .next u ∧ u.raised 0x0306 t ∧ (u.tray t).st = .pulled ∧ u.od = s.od) ∧
  (∀ s t, s.running = true → t < Config.trays → (s.tray t).pin = false → (s.tow t).ring = .down →
    exec (.earlyBreakMade t) s = .next (s.updTray t (fun x => { x with pin := true, pinSince := s.now }))) ∧
  (∀ s t, s.running = true → t < Config.trays → (s.tray t).pin = false → (s.tow t).ring ≠ .down →
    exec (.earlyBreakMade t) s =
      .next (ringRestart t (s.updTray t (fun x => { x with pin := true, pinSince := s.now })))) ∧
  (∀ s t, s.running = true → t < Config.trays → (s.tray t).pin = true → (s.tray t).pinBlocked = true →
    (s.tray t).pinSince + 100 * ms ≤ s.now →
    exec (.earlyBreakMade t) s = .next (s.updTray t (fun x => { x with
      pinBlocked := false, trayEn := x.trayEn || decide (x.st = .idle) }))) ∧
  (∀ s t a, s.running = true → t < Config.trays → (s.tray t).seatLostAt = some a → (s.link t).up = false →
    (s.tray t).pin = true → a + sec ≤ s.now → (s.tray t).st ≠ .absent → (s.tray t).st ≠ .pulled →
    ∃ u, exec (.seatedLinkLossTimeout t) s = .next u ∧ u.raised 0x030A t ∧ u.od = s.od)

/-- The cycle of a ring from SWEEP to the command window. A cycle starts only on a whole millisecond; replies of a
SWEEP that reached the end are published and PLAUS leaves when its time has come, where the SWEEP was no probe
of a ring that is not whole, whose cycle ends with it; after the plausibility replies the comparison closes; the
command window ends with the ring idle; replies that stop lead to a SWEEP from the south; a classified break
ends with the ring idle; three probes make the ring whole with 040Ah. None touches the phases or the dictionary.
(05_cell_chain.md: The ring cycle, 05_cell_chain.md: When the ring breaks, 05_cell_chain.md: The plausibility
path) -/
def Obligations.TowCycle : Prop :=
  (∀ s n, s.running = true → s.now % ms = 0 →
    exec (.towpathCycle n) s = .next (forTrays (ringCycle n) s)) ∧
  (∀ s n, s.running = true → s.now % ms ≠ 0 → exec (.towpathCycle n) s = .next s) ∧
  (∀ s t f south hop status d, s.running = true → t < Config.trays → parseReply f = some (0, south, hop, status, d) →
    hop ≠ 0 → hop ≤ s.nMon t → (s.tow t).cyc = .sweep → (s.tow t).ring ≠ .down →
    exec (.towpathReply t f) s = .next (s.updTow t (fun w => { w with
      replies := w.replies.filter (fun e => e.1 ≠ northHop s t south hop) ++
        [(northHop s t south hop, south, le 1 status ++ d)] }))) ∧
  (∀ s t, s.running = true → t < Config.trays → (s.tow t).cyc = .sweep → sweepReached s t = true →
    (s.tow t).full = true → (s.tow t).ring = .whole → (s.tow t).cycleAt + sweepEnd (s.nMon t) ≤ s.now →
    ∃ u, exec (.towpathPlausSend t) s = .next u ∧ (u.tow t).cyc = .plaus ∧ u.links = s.links ∧ u.phases = s.phases ∧
      u.od = s.od) ∧
  (∀ s t, s.running = true → t < Config.trays → (s.tow t).cyc = .sweep → sweepReached s t = true →
    (s.tow t).full = true → (s.tow t).ring ≠ .whole → (s.tow t).cycleAt + sweepEnd (s.nMon t) ≤ s.now →
    ∃ u, exec (.towpathPlausSend t) s = .next u ∧ (u.tow t).cyc = .idle ∧ u.links = s.links ∧ u.phases = s.phases ∧
      u.od = s.od) ∧
  (∀ s t, s.running = true → t < Config.trays → (s.tow t).cyc = .plaus → (s.tow t).full = true →
    (s.tow t).cycleAt + plausEnd (s.nMon t) ≤ s.now →
    ∃ u, exec (.plausComparison t) s = .next u ∧ (u.tow t).cyc = .compared ∧ u.loop = s.loop ∧ u.phases = s.phases ∧
      u.od = s.od ∧ u.fm = s.fm) ∧
  (∀ s t, s.running = true → t < Config.trays → (s.tow t).cyc = .compared → (s.tow t).cycleAt + 860000 ≤ s.now →
    ∃ u, exec (.commandWindow t) s = .next u ∧ (u.tow t).cyc = .idle ∧ u.links = s.links ∧ u.phases = s.phases ∧
      u.od = s.od) ∧
  (∀ s t, s.running = true → t < Config.trays → (s.tow t).cyc = .sweep → sweepReached s t = false →
    (s.tow t).full = true → (s.tow t).cycleAt + sweepEnd (s.nMon t) - 1000 + 40000 ≤ s.now →
    ∃ u, exec (.southRecoverySweep t) s = .next u ∧ (u.tow t).cyc = .recovery ∧
      (u.tow t).recoveries = sat32 ((s.tow t).recoveries + 1) ∧ u.loop = s.loop ∧ u.phases = s.phases ∧ u.od = s.od) ∧
  (∀ s t, s.running = true → t < Config.trays → (s.tow t).cyc = .recovery →
    (s.tow t).sampleS + 20000 + (s.nMon t - farthestNorth (s.tow t) - 1) * 26000 + 25000 ≤ s.now →
    ∃ u, exec (.breakClassify t) s = .next u ∧ (u.tow t).cyc = .idle ∧ u.links = s.links ∧ u.phases = s.phases ∧
      u.od = s.od) ∧
  (∀ s t, s.running = true → t < Config.trays → 3 ≤ (s.tow t).probeCount → (s.tow t).ring ≠ .down →
    exec (.ringWhole t) s = .next ((s.updTow t (fun w => { w with
      ring := .whole, brk := 0xFF, brkSource := false, unreach := 0, hN := s.nMon t, hS := 0
      probeCount := 0 })).raise 0x040A t))

/-- Suspicion, open-wire tests, unreadable cells, balancing. A cell in disagreement for 5 cycles gives its monitor a
suspicion and puts an open-wire test first in the queue; a scheduled test waits in the queue, or is deferred in
slack water; the sweep two cycles after a test ends its evaluation; a cell without a valid reading for 10 cycles
on a ring in service is marked and raises critical fault 0403h with its shelf cell index, or, where all cells of
its monitor are newly so, one with the monitor's; bleeding monitors whose 500 ms have passed get BALANCE again.
(05_cell_chain.md: Open-wire test, 05_cell_chain.md: Telling a broken sense wire from a cell fault,
05_cell_chain.md: Balancing) -/
def Obligations.TowCells : Prop :=
  (∀ s t m, s.running = true → t < Config.trays → m < Config.monitors →
    suspectCells (s.tow t) m ≠ 0 ∨ 5 ≤ get 0 (s.tow t).monRun m → (s.tow t).suspicions.any (fun x => x.m == m) = false →
    ∃ u, exec (.senseSuspicion t m) s = .next u ∧ (u.tow t).suspicions.any (fun x => x.m == m) = true ∧
      (u.tow t).queue.head? = some (.openTest (2 ^ m)) ∧ u.loop = s.loop ∧ u.fm = s.fm ∧ u.od = s.od) ∧
  (∀ s t, s.running = true → t < Config.trays → (s.tow t).ring ≠ .down → (s.tow t).cyc ≠ .idle →
    (s.tow t).cycleAt / ms % 10000 = 625 * t → (s.tow t).lastTest ≠ (s.tow t).cycleAt → (s.tray t).st = .slack →
    exec (.openWireScheduled t) s = .next (s.updTow t (fun w => { w with testDeferred := true }))) ∧
  (∀ s t, s.running = true → t < Config.trays → (s.tow t).ring ≠ .down → (s.tow t).cyc ≠ .idle →
    (s.tow t).cycleAt / ms % 10000 = 625 * t → (s.tow t).lastTest ≠ (s.tow t).cycleAt → (s.tray t).st ≠ .slack →
    exec (.openWireScheduled t) s = .next (s.updTow t (fun w => { w with
      queue := w.queue.filter (fun q => q ≠ .openTest (2 ^ s.nMon t - 1)) ++ [.openTest (2 ^ s.nMon t - 1)] }))) ∧
  (∀ s t x, s.running = true → t < Config.trays → (s.tow t).test = some x → (s.tow t).cycle = x.cycle + 2 →
    (s.tow t).cyc ≠ .sweep → (s.tow t).cyc ≠ .recovery → x.monitors ≠ 0 →
    ∃ u, exec (.openWireEvaluate t) s = .next u ∧ (u.tow t).test = some { x with monitors := 0 } ∧ u.phases = s.phases ∧
      u.od = s.od) ∧
  (∀ s t c, s.running = true → t < Config.trays → c < Config.cells → 10 ≤ get 0 (s.tow t).missRun c →
    bit (s.tow t).unreadable c = false → c < s.nCell t → towQuiet s t = false →
    ∃ u, exec (.cellUnreadable t c) s = .next u ∧ bit (u.tow t).unreadable c = true ∧
      u.raised 0x0403 (if ∀ i, i < 12 → 10 ≤ get 0 (s.tow t).missRun (12 * (c / 12) + i) ∧
        bit (s.tow t).unreadable (12 * (c / 12) + i) = false then 16 * t + c / 12 else 192 * t + c) ∧
      u.phases = s.phases ∧ u.od = s.od) ∧
  (∀ s t, s.running = true → t < Config.trays →
    exec (.balanceResend t) s = .next (s.updTow t (fun w => { w with queue := w.queue ++
      ((List.range (s.nMon t)).filter fun m =>
        decide ((s.tow t).bleeding &&& monMask m ≠ 0) && decide (get 0 (s.tow t).balAt m + 500 * ms ≤ s.now) &&
          decide (hopOf s t m ≤ (s.tow t).hN) && !(s.tow t).queue.contains (.balance m)).map TowCmd.balance })))

/-- Commands 1 to 4 of a towpath. On a ring that is down commands 1, 2 and 4 (log entry 75, DESIGN CHOICE: no rule
speaks of it), and in a tray state that does not allow them commands 2, 3 and 4, are violations and nothing
else; else command 1 queues an open-wire test, 2 makes the next cycle an ENUM and the configuration due again, 3
clears the marks, and 4 queues a weir test of each monitor. (05_cell_chain.md: Objects, 05_cell_chain.md: Open-
wire test) -/
def Obligations.TowCommands : Prop :=
  (∀ s ses t, s.running = true → ses < Config.sessions → t < Config.trays → (s.tow t).ring = .down →
    exec (.openWireTestNow ses t) s = .next (s.violate ses (0x3100 + t) 0x23) ∧
    exec (.towReenumerate ses t) s = .next (s.violate ses (0x3100 + t) 0x23) ∧
    exec (.weirTestCmd ses t) s = .next (s.violate ses (0x3100 + t) 0x23)) ∧
  (∀ s ses t, s.running = true → ses < Config.sessions → t < Config.trays → (s.tow t).ring ≠ .down →
    exec (.openWireTestNow ses t) s = .next (s.updTow t (fun w => { w with
      queue := w.queue ++ [.openTest (2 ^ s.nMon t - 1)] }))) ∧
  (∀ s ses t, s.running = true → ses < Config.sessions → t < Config.trays → (s.tow t).ring ≠ .down →
    s.inSet t = false →
    exec (.towReenumerate ses t) s = .next (s.updTow t (fun w => { w with enumDue := true, cfgDone := false }))) ∧
  (∀ s ses t, s.running = true → ses < Config.sessions → t < Config.trays → s.inSet t = true →
    exec (.towReenumerate ses t) s = .next (s.violate ses (0x3100 + t) 0x23)) ∧
  (∀ s ses t, s.running = true → ses < Config.sessions → t < Config.trays → (s.tray t).st ≠ .idle →
    (s.tray t).st ≠ .fault → (s.tray t).st ≠ .absent →
    exec (.clearMarks ses t) s = .next (s.violate ses (0x3100 + t) 0x23)) ∧
  (∀ s ses t, s.running = true → ses < Config.sessions → t < Config.trays →
    (s.tray t).st = .idle ∨ (s.tray t).st = .fault ∨ (s.tray t).st = .absent →
    ∃ u, exec (.clearMarks ses t) s = .next u ∧ (u.tow t).suspect = 0 ∧ (u.tow t).checkLost = 0 ∧
      (u.tow t).unreadable = 0 ∧ u.sess = s.sess ∧ u.loop = s.loop) ∧
  (∀ s ses t, s.running = true → ses < Config.sessions → t < Config.trays → (s.tray t).st ≠ .idle →
    (s.tray t).st ≠ .fault → exec (.weirTestCmd ses t) s = .next (s.violate ses (0x3100 + t) 0x23)) ∧
  (∀ s ses t, s.running = true → ses < Config.sessions → t < Config.trays →
    (s.tray t).st = .idle ∨ (s.tray t).st = .fault → (s.tow t).ring ≠ .down →
    exec (.weirTestCmd ses t) s = .next (s.updTow t (fun w => { w with
      weirRun := some { todo := List.range (s.nMon t), live := [], failed := false
                        entry := (w.weirRun.map (·.entry)).getD false }
      queue := w.queue.filter (fun q => match q with | .weirTest _ => false | _ => true) ++
        (List.range (s.nMon t)).map TowCmd.weirTest })))

/-- The weir line asserts, is tested and clears. A weir line that asserts outside a test snubs every phase of the
tray that is not OFF, SHED, in FAULT or on a lost link, and on a seated tray raises trip 0401h; a tray in the
set leaves it for OPENING, its drives low once its current is at zero, one in CHECK, PRECHARGE or CLOSING has
its drives low at once and enters OPENING. One that asserts in its test is noted as the test's and raises
nothing, one that stands already changes nothing; a line of a seated tray that stays silent past its test's time
raises 040Dh; a line that clears is noted, and the drives that waited for it may start. (05_cell_chain.md: Weir
lines) -/
def Obligations.WeirLine : Prop :=
  (∀ s t, s.running = true → t < Config.trays → (s.tow t).weir = false → liveTest s t = none → towQuiet s t = false →
    ∃ u, exec (.weirAsserted t) s = .next u ∧ u.raised 0x0401 t ∧ u.est = s.est ∧ u.od = s.od) ∧
  (∀ s t p, s.running = true → t < Config.trays → p < Config.phases → (s.tow t).weir = false → liveTest s t = none →
    (s.ph t p).st ≠ .off → (s.ph t p).st ≠ .shed → (s.ph t p).st ≠ .fault → (s.ph t p).st ≠ .linkLost →
    (s.tray t).st ≠ .check →
    ∃ u, exec (.weirAsserted t) s = .next u ∧ (u.ph t p).st = .snub ∧ (u.ph t p).snubKind = .trip) ∧
  (∀ s t, s.running = true → t < Config.trays → (s.tow t).weir = false → liveTest s t = none → towQuiet s t = false →
    s.inSet t = true →
    (s.tray t).st = .admitting ∨ (s.tray t).st = .online ∨ (s.tray t).st = .drain ∨ (s.tray t).st = .slack →
    ∃ u, exec (.weirAsserted t) s = .next u ∧ u.inSet t = false ∧ (u.tray t).st = .opening ∧
      (u.tray t).openAtZero = true ∧
      (u.tray t).cause = 0x0401 ∧ (u.tray t).kP = (s.tray t).kP ∧ (u.tray t).kN = (s.tray t).kN) ∧
  (∀ s t, s.running = true → t < Config.trays → (s.tow t).weir = false → liveTest s t = none → towQuiet s t = false →
    (s.tray t).st = .check ∨ (s.tray t).st = .precharge ∨ (s.tray t).st = .closing →
    ∃ u, exec (.weirAsserted t) s = .next u ∧ (u.tray t).st = .opening ∧ (u.tray t).openSince = some s.now ∧
      (u.tray t).cause = 0x0401 ∧ (u.tray t).kP = false ∧ (u.tray t).kN = false ∧ (u.tray t).kPre = false) ∧
  (∀ s t, s.running = true → t < Config.trays → (s.tow t).weir = false → liveTest s t = none → towQuiet s t = true →
    ∃ u, exec (.weirAsserted t) s = .next u ∧ u.fm = s.fm ∧ (u.tray t).st = (s.tray t).st) ∧
  (∀ s t, s.running = true → t < Config.trays → (s.tow t).weir = true → exec (.weirAsserted t) s = .next s) ∧
  (∀ s t x, s.running = true → t < Config.trays → t < s.tows.length → (s.tow t).weir = false → liveTest s t = some x →
    ∃ u, exec (.weirAsserted t) s = .next u ∧ (u.tow t).weir = true ∧ (u.tow t).weirByTest = true ∧ u.tx = s.tx ∧
      u.fm = s.fm ∧ u.alloc = s.alloc ∧ u.phases = s.phases) ∧
  (∀ s t r, s.running = true → t < Config.trays → (s.tow t).weirRun = some r →
    r.live.filter (fun x => decide (x.until_ < s.now)) ≠ [] → towQuiet s t = false →
    ∃ u, exec (.weirTestTimeout t) s = .next u ∧ u.raised 0x040D t ∧ u.loop = s.loop ∧ u.od = s.od) ∧
  (∀ s t, s.running = true → t < Config.trays → (s.tow t).weir = true →
    exec (.weirLineCleared t) s = .next (startDrives t (s.updTow t (fun w => { w with
      weir := false, weirSince := s.now
      weirFaultEnd := if w.weirByTest then w.weirFaultEnd else some s.now }))))

/-- The estimator's update, steps, fits and saves. An update takes the fresh sweep; above the rest level it counts
each readable cell's charge by the string's less the cell's bleed charge, clamped to 0 and 1, and widens its
bound by offset, gain and pad (R166), where the tray does not rest, and publishes limits between 0 and
[3200+t.20] that each cell's voltage and resistance bound (R177); a tray of the set without a rest point for 6 h
gets notice 0501h once; a qualified step waits for its fit, and the fit ends it; a save that fails raises 0506h
(its instance: log entry 32) and a good one stores the tables or states; seeds replace every impedance entry; a
block write of wrong shape is a violation, one that starts within an entry (log entry 69, DESIGN CHOICE) or
reaches past the last entry of the table is a violation, one with 32 open transactions meets the limit, and a
good one opens its transaction and leaves the table as it is, its entries waiting for the next update. Where a
clause gives the next state whole nothing else changes; an update and a fit leave the bus loop, the trays and
the dictionary as they were. (06_estimator.md: Counting charge and its bound, 06_estimator.md: The impedance
table, 06_estimator.md: Starting and new trays, 06_estimator.md: When the load never rests) -/
def Obligations.EstimatorSteps : Prop :=
  (∀ s t, s.running = true → t < Config.trays → (s.tow t).fresh = true →
    ∃ u, exec (.estimatorUpdate t) s = .next u ∧ (u.tow t).fresh = false ∧ u.loop = s.loop ∧ u.trays = s.trays ∧
      u.od = s.od) ∧
  (∀ s t c y, s.running = true → t < Config.trays → c < s.nCell t → (s.tow t).fresh = true → s.fwStopped 18 = false →
    estSlow s (s.estOf t) = false → restedFor s t (s.estOf t) = false → bit (s.tow t).unreadable c = false →
    y = get EstCell.reset ((bleedAccount t s).estOf t).cells c → y.known = true →
      (s.estOf t).cells.length = Config.cells →
    ∃ u dt, exec (.estimatorUpdate t) s = .next u ∧
      dt = (match (s.estOf t).lastAt with | some a => ((s.now - a : Nat) : Rat) / 1000000000 | none => 0) ∧
      (get EstCell.reset (u.estOf t).cells c).q = clampQ 0 1 (y.q -
        ((s.estOf t).dQ - s.cfgB (0x3200 + t) 0x24 * (y.bled : Rat) / 1000000000) / (3600 * y.cap)) ∧
      (get EstCell.reset (u.estOf t).cells c).uq = min 1 (y.uq + (s.cfgB (0x3200 + t) 0x1B * dt +
        s.cfgB (0x3200 + t) 0x1C * absQ (s.estOf t).dQ + (s.estOf t).pad) / (3600 * y.cap)) ∧
      (u.estOf t).dQ = 0 ∧ (u.estOf t).pad = 0 ∧ (u.estOf t).lastAt = some s.now) ∧
  (∀ s t, s.running = true → t < Config.trays → (s.tow t).fresh = true → s.fwStopped 18 = false →
    estSlow s (s.estOf t) = false →
    ∃ u, exec (.estimatorUpdate t) s = .next u ∧ 0 ≤ (u.estOf t).eD ∧ 0 ≤ (u.estOf t).eC ∧
      (u.estOf t).eD ≤ max 0 (s.cfgB (0x3200 + t) 0x20) ∧ (u.estOf t).eC ≤ max 0 (s.cfgB (0x3200 + t) 0x20) ∧
      (∀ c y, c < s.nCell t → y = get EstCell.reset (u.estOf t).cells c → y.rSum ≠ 0 →
        (u.estOf t).eD ≤ max 0 ((y.vo - (if bit (s.tow t).suspect c then s.cfgB (0x3100 + t) 0x16 else 0) -
          s.cfgB (0x3200 + t) 0x21) / y.rSum) ∧
        (u.estOf t).eC ≤ max 0 ((s.cfgB (0x3200 + t) 0x22 -
          (y.vo + (if bit (s.tow t).suspect c then s.cfgB (0x3100 + t) 0x16 else 0))) / y.rSum))) ∧
  (∀ s t, s.running = true → t < Config.trays → s.inSet t = true → (s.estOf t).noRest = false →
    (s.estOf t).restFrom + 21600 * sec ≤ s.now →
    exec (.noRestNotice t) s = .next ((s.updEst t (fun x => { x with noRest := true })).raise 0x0501 t)) ∧
  (∀ s t a b d, s.running = true → t < Config.trays → stepOk s t a b = some d →
    exec (.stepQualified t a b) s = .next (s.updEst t (fun x => { x with
      step := some ⟨a, b, d⟩, qualified := sat32 (x.qualified + 1) }))) ∧
  (∀ s t x, s.running = true → t < Config.trays → (s.estOf t).step = some x →
    ∃ u, exec (.impedanceFit t) s = .next u ∧ (u.estOf t).step = none ∧ u.tows = s.tows ∧ u.fm = s.fm ∧
      u.loop = s.loop ∧
      u.trays = s.trays ∧ u.od = s.od) ∧
  (∀ s, s.running = true → exec (.impedanceTableSave true) s = .next (impSaveAll s) ∧
    exec (.impedanceTableSave false) s = .next (s.raise 0x0506 noInst) ∧
    exec (.estimatorStateSave true) s = .next (forTrays estSave s) ∧
    exec (.estimatorStateSave false) s = .next (s.raise 0x0506 noInst)) ∧
  (∀ s ses t, s.running = true → ses < Config.sessions → t < Config.trays →
    exec (.stateSaveNow ses t true) s = .next (estSave t s) ∧
    exec (.stateSaveNow ses t false) s = .next (s.raise 0x0506 t) ∧
    exec (.impedanceSaveNow ses t true) s = .next (impSaveAll s) ∧
    exec (.impedanceSaveNow ses t false) s = .next (s.raise 0x0506 t) ∧
    exec (.impedanceResetSeeds ses t) s =
      .next (s.updEst t (fun x => { x with seed := seedsOf s t, imp := [] }))) ∧
  (∀ s ses seq t off d, s.running = true → ses < Config.sessions → t < Config.trays →
    d = [] ∨ d.length % 8 ≠ 0 ∨ off % 8 ≠ 0 ∨ 8192 < off + d.length →
    exec (.impedanceBlockWrite ses seq t off d) s = .next (s.violate ses (0x3300 + t) 0x04)) ∧
  (∀ s ses seq t off d, s.running = true → ses < Config.sessions → t < Config.trays → d ≠ [] → d.length % 8 = 0 →
    48 * s.nCell t < s.win ses (0x3300 + t) 0x03 + off / 8 + d.length / 8 →
    exec (.impedanceBlockWrite ses seq t off d) s = .next (s.violate ses (0x3300 + t) 0x04)) ∧
  (∀ s ses seq t off d, s.running = true → ses < Config.sessions → t < Config.trays → d ≠ [] → d.length % 8 = 0 →
    off % 8 = 0 → off + d.length ≤ 8192 →
    s.win ses (0x3300 + t) 0x03 + off / 8 + d.length / 8 ≤ 48 * s.nCell t → s.openTxns < 32 →
    ∃ u, exec (.impedanceBlockWrite ses seq t off d) s = .next u ∧ u.txn.highest = s.txn.highest + 1 ∧ u.sess = s.sess ∧
      (u.estOf t).imp = (s.estOf t).imp ∧ u.loop = s.loop ∧ u.tows = s.tows) ∧
  (∀ s ses seq t off d, s.running = true → ses < Config.sessions → t < Config.trays → d ≠ [] → d.length % 8 = 0 →
    off % 8 = 0 → off + d.length ≤ 8192 →
    s.win ses (0x3300 + t) 0x03 + off / 8 + d.length / 8 ≤ 48 * s.nCell t → 32 ≤ s.openTxns →
    exec (.impedanceBlockWrite ses seq t off d) s = .next (txnLimit ses (0x3300 + t) 0x04 s))

/-- Evaluations, gate, groups, sources. An evaluation that is due counts once for its cut: in time (the operand that
says so, and which models run: log entry 34, DEDUCED), without saturation and with the active model's slot bound
it publishes the active model's 200 values on the channels of the cut and their horizon, else it counts as
carried and publishes nothing; a deadline miss carries the evaluation of the last cut whose delivery deadline of
9.5 µs has passed; where none is due neither command does anything. The gate is recomputed once in a millisecond
and none of its inputs moves: in RUN, with an error ratio to judge by, it moves by at most 0.1 toward 1 for a
ratio at or below [4000.0A], 0 at or above [4000.0B] and linear between, and 0603h is raised when it reaches 0;
without one, and in every other state, it stands; a group whose window has closed leaves the entries; a
suspension that is over ends with an empty history; a hint limit reached raises 0607h once; warming ends in RUN
with gate 0. None of these touches the feeds or the dictionary, nor the state of the loop.
(07_tide_forecaster.md: Slopes and the horizon, 07_tide_forecaster.md: Gating and clamps, 07_tide_forecaster.md:
When hints and measurement disagree) -/
def Obligations.TideEvaluation : Prop :=
  (∀ s k m n, s.running = true → evalDue s (cutOf s.now) = true → s.modelRuns s.tide.active = true → n ≤ 9500 →
    ∃ u, exec (.forecastEvaluation k m n) s = .next u ∧ u.tide.evals = s.tide.evals + 1 ∧
      u.tide.evalCut = some (cutOf s.now) ∧
      ((modelRun s (channels s (cutOf s.now)) s.tide.active).1 = false →
        u.tide.consec = 0 ∧ u.tide.carried = s.tide.carried ∧
        u.tide.predicted = (modelRun s (channels s (cutOf s.now)) s.tide.active).2.map
          (fun v => clampI (-32768) 32767 (roundEven (v * 8)))) ∧
      ((modelRun s (channels s (cutOf s.now)) s.tide.active).1 = true →
        u.tide.carried = sat32 (s.tide.carried + 1) ∧ u.tide.predicted = s.tide.predicted) ∧
      u.loop.st = s.loop.st ∧ u.feed = s.feed ∧ u.od = s.od) ∧
  (∀ s k m n, s.running = true → evalDue s (cutOf s.now) = true →
    s.modelRuns s.tide.active = false ∨ 9500 < n →
    ∃ u, exec (.forecastEvaluation k m n) s = .next u ∧ u.tide.evals = s.tide.evals + 1 ∧
      u.tide.evalCut = some (cutOf s.now) ∧ u.tide.carried = sat32 (s.tide.carried + 1) ∧
      u.tide.predicted = s.tide.predicted ∧ u.loop.st = s.loop.st ∧ u.feed = s.feed ∧ u.od = s.od) ∧
  (∀ s b cut, s.running = true → cut = cutOf (s.now - 9500) → cut + 9500 ≤ s.now → evalDue s cut = true →
    ∃ u, exec (.evaluationDeadlineMiss b) s = .next u ∧ u.tide.evals = s.tide.evals + 1 ∧
      u.tide.evalCut = some cut ∧ u.tide.carried = sat32 (s.tide.carried + 1) ∧
      u.tide.predicted = s.tide.predicted ∧ u.loop.st = s.loop.st ∧ u.feed = s.feed ∧ u.od = s.od) ∧
  (∀ s k m n, s.running = true → evalDue s (cutOf s.now) = false →
    exec (.forecastEvaluation k m n) s = .next s) ∧
  (∀ s b cut, s.running = true → cut = cutOf (s.now - 9500) → s.now < cut + 9500 ∨ evalDue s cut = false →
    exec (.evaluationDeadlineMiss b) s = .next s) ∧
  (∀ s, s.running = true → s.now / ms ≠ s.tide.gateMs →
    ∃ u, exec .gateUpdate s = .next u ∧ u.tide.gateMs = s.now / ms ∧ u.tide.st = s.tide.st ∧
      (s.tide.st ≠ .run ∨ errRatio s (·.act) = none → u.tide.gate = s.tide.gate) ∧
      (∀ r, s.tide.st = .run → errRatio s (·.act) = some r → u.tide.rho = r ∧
        u.tide.gate = stepToward s.tide.gate (if r ≤ s.cfgB 0x4000 0x0A then 1 else if s.cfgB 0x4000 0x0B ≤ r then 0
          else (s.cfgB 0x4000 0x0B - r) / (s.cfgB 0x4000 0x0B - s.cfgB 0x4000 0x0A)) (1 / 10) ∧
        s.tide.gate - 1 / 10 ≤ u.tide.gate ∧ u.tide.gate ≤ s.tide.gate + 1 / 10 ∧
        (u.tide.gate = 0 → s.tide.gate ≠ 0 → u.raised 0x0603 noInst)) ∧
      u.tide.entries = s.tide.entries ∧ u.tide.errs = s.tide.errs ∧
      u.loop = s.loop ∧ u.feed = s.feed ∧ u.od = s.od) ∧
  (∀ s, s.running = true → s.now / ms = s.tide.gateMs → exec .gateUpdate s = .next s) ∧
  (∀ s g grp, s.running = true → (groupsOf (tolNow s) s.tide.entries)[g]? = some grp →
    grp.foldl (fun a e => max a (e.tc + e.ramp + tolNow s)) 0 ≤ (s.now : Rat) →
    ∃ u, exec (.groupWindowClose g) s = .next u ∧ u.tide.entries = s.tide.entries.filter (fun e => !grp.contains e) ∧
      u.tide.st = s.tide.st ∧ u.tide.gate = s.tide.gate ∧ u.loop = s.loop ∧ u.feed = s.feed ∧ u.od = s.od) ∧
  (∀ s i a, s.running = true → i < 33 → get none s.tide.suspended i = some a → a ≤ s.now →
    exec (.sourceSuspensionEnd i) s = .next { s with tide := { s.tide with
      suspended := s.tide.suspended.set i none, history := s.tide.history.set i [] } }) ∧
  (∀ s, s.running = true → hintsDropped s = true → s.tide.holdNoticed = false →
    exec .hintHoldoverLimit s =
      .next (State.raise { s with tide := { s.tide with holdNoticed := true } } 0x0607 noInst)) ∧
  (∀ s, s.running = true → s.tide.st = .warming → 2000 ≤ s.tide.warmSteps →
    s.cfgU 0x4000 0x0C * 100 ≤ s.tide.warmPreds →
    exec .warmingComplete s = .next { s with tide := { s.tide with st := .run, gate := 0 } })

/-- Commands of the forecaster and its models. Command 1 warms a forecaster that is OFF with an active model or in
FAULT and is else a violation; command 2 stops one that is not OFF, the slope already delivered standing, and is
a violation in OFF; command 3 without a staged model is a violation and with one waits for a cut from now on; a
switch that has waited 100 ms is forced; command 4 clears the seven counters; a slot whose descriptor passes is
staged, one that does not unstages and raises 0606h, FFh unstages, and a slot that the module lacks is a
violation. The next state is given whole. (07_tide_forecaster.md: States, 07_tide_forecaster.md: Training and
loading a model) -/
def Obligations.TideCommands : Prop :=
  (∀ s ses, s.running = true → ses < Config.sessions →
    s.tide.st = .off ∧ s.tide.active ≠ 0xFF ∨ s.tide.st = .fault →
    exec (.forecasterStart ses) s = .next { s with tide := { s.tide with
      st := .warming, gate := 0, warmSteps := 0, warmPreds := 0, consec := 0, errs := [], preds := [] } }) ∧
  (∀ s ses, s.running = true → ses < Config.sessions →
    s.tide.st = .off ∧ s.tide.active = 0xFF ∨ s.tide.st = .warming ∨ s.tide.st = .run →
    exec (.forecasterStart ses) s = .next (s.violate ses 0x4000 0x02)) ∧
  (∀ s ses, s.running = true → ses < Config.sessions → s.tide.st ≠ .off →
    exec (.forecasterStop ses) s = .next { s with tide := { s.tide with
      st := .off, gate := 0, stepAt := none, horizon := List.replicate 200 0, lastSlope := 0 } }) ∧
  (∀ s ses, s.running = true → ses < Config.sessions → s.tide.st = .off →
    exec (.forecasterStop ses) s = .next (s.violate ses 0x4000 0x02)) ∧
  (∀ s ses, s.running = true → ses < Config.sessions → s.tide.staged = 0xFF →
    exec (.modelSwitch ses) s = .next (s.violate ses 0x4000 0x02)) ∧
  (∀ s ses, s.running = true → ses < Config.sessions → s.tide.staged ≠ 0xFF →
    exec (.modelSwitch ses) s =
      .next { s with tide := { s.tide with switchAt := some s.now, switchForced := false } }) ∧
  (∀ s a, s.running = true → s.tide.switchAt = some a → a + 100 * ms ≤ s.now →
    exec .modelSwitchForced s = .next { s with tide := { s.tide with switchForced := true } }) ∧
  (∀ s ses, s.running = true → ses < Config.sessions →
    exec (.forecasterClearCounters ses) s = .next { s with tide := { s.tide with
      carried := 0, saturated := 0, clamps := 0, met := 0, missed := 0, early := 0, unannounced := 0 } }) ∧
  (∀ s ses n, s.running = true → ses < Config.sessions → n < Config.slots →
    s.descOk (s.slot n).program = true →
    exec (.stagedSlotWrite ses n) s = .next { s with tide := { s.tide with staged := n } }) ∧
  (∀ s ses n, s.running = true → ses < Config.sessions → n < Config.slots →
    s.descOk (s.slot n).program = false →
    exec (.stagedSlotWrite ses n) s =
      .next (State.raise { s with tide := { s.tide with staged := 0xFF } } 0x0606 noInst)) ∧
  (∀ s ses, s.running = true → ses < Config.sessions →
    exec (.stagedSlotWrite ses 0xFF) s = .next { s with tide := { s.tide with staged := 0xFF } }) ∧
  (∀ s ses n, s.running = true → ses < Config.sessions → Config.slots ≤ n → n ≠ 0xFF →
    exec (.stagedSlotWrite ses n) s = .next (s.violate ses 0x4000 0x04))

/-- The refresh, and what rectifiers send. The refresh runs once on a whole millisecond while the module drives and
the feed interface's slot runs, and never twice at one instant: with no group RETURNING, in SOFT, RUN and HOLD
it forms the target as the mean load and P_soc within the groups' capacity, moves P_ref toward it by its ramp
(with the clamp in at most a tenth of the periods, nothing departed and no group in DIP), divides it over the
rectifiers by available power (R265, R268), and in OFF, STOPPING and TRIPPED commands zero (R270); each group
gets its COMMAND frame with the next sequence number (Table 9.2). An alert of a lost or failing input takes the
rectifier out and judges its group, one of a returned input puts it in, one of an internal fault raises 0807h,
and one of another length or number does nothing; a STATUS of 16 bytes with the internal-fault flag newly set
raises 0807h, and one of another length does nothing; a mode register read as 1 is kept and the group judged,
one that is not 1 raises 0806h, and any other reply does nothing; a rectifier without STATUS for 12 ms is silent
with 0805h; a CAN port that fails is down, with 080Bh the first time. (09_feeds_and_rectifiers.md: Groups, ports
and frames, 09_feeds_and_rectifiers.md: Dips, outages and returns) -/
def Obligations.FeedFrames : Prop :=
  (∀ s, s.running = true → s.now % ms = 0 → s.feed.refreshAt ≠ some s.now → s.drives = true →
    s.fwStopped 20 = false →
    ∃ u, exec .feedRefresh s = .next u ∧ u.feed.refreshAt = some s.now ∧ u.feed.periods = 0 ∧ u.loop = s.loop ∧
      u.trays = s.trays ∧ u.od = s.od ∧
      u.feed.sumC = sumQ ((List.range Config.rectifiers).map fun r => (u.rect r).cmd) ∧
      u.feed.slope = (u.feed.sumC - s.feed.sumC) / 1000 ∧
      (s.loop.st = .off ∨ s.loop.st = .stopping ∨ s.loop.st = .tripped →
        u.feed.pRef = 0 ∧ ∀ r, r < Config.rectifiers → (u.rect r).cmd = 0) ∧
      (s.loop.st = .soft ∨ s.loop.st = .run ∨ s.loop.st = .hold → s.groupSt 0 ≠ .returning → s.groupSt 1 ≠ .returning →
        u.feed.pSoc = s.formPsoc ∧
        u.feed.pTgt = clampQ 0 s.sumK (s.loadMean (s.cfgU 0x3400 0x05 * sec) + u.feed.pSoc) ∧
        (10 * s.feed.satPos ≤ s.feed.periods → 10 * s.feed.satNeg ≤ s.feed.periods → departed s 0 + departed s 1 = 0 →
          s.groupSt 0 ≠ .dip → s.groupSt 1 ≠ .dip →
          u.feed.pRef = if s.feed.pRef < u.feed.pTgt then min u.feed.pTgt (s.feed.pRef + s.cfgStep 0x3400 0x06 1000)
            else max u.feed.pTgt (s.feed.pRef - s.cfgStep 0x3400 0x07 1000)) ∧
        ∀ r, r < Config.rectifiers → (u.rect r).cmd =
          if s.rectIn r = true ∧ 0 < s.groupK (r / 24) ∧ 0 < s.groupAvail (r / 24) ∧ 0 < s.loop.vBus then
            u.feed.pRef * s.groupK (r / 24) / s.sumK * (s.rect r).avail / s.groupAvail (r / 24) * 1000 / s.loop.vBus
          else 0) ∧
      (s.hw.released = false → s.fm.faultOut = false → ∀ g, g < 2 → ∃ d, Tx.can g 128 d ∈ u.tx ∧ d.length = 64 ∧
        u8At d 0 = (s.group g).seq % 256 ∧ u8At d 1 = 0 ∧ ∀ n, n < 24 →
          u16At d (2 + 2 * n) = (clampI 0 65535 (roundEven ((u.rect (24 * g + n)).cmd * 100))).toNat)) ∧
  (∀ s, s.running = true → s.fwStopped 20 = true → exec .feedRefresh s = .next s) ∧
  (∀ s, s.running = true → s.feed.refreshAt = some s.now → exec .feedRefresh s = .next s) ∧
  (∀ s g n d, s.running = true → g < 2 → 1 ≤ n → n ≤ 24 → d.length = 8 → u8At d 0 = 3 →
    exec (.rectAlert g n d) s = .next (s.raise 0x0807 (rectOf g n))) ∧
  (∀ s g n d, s.running = true → g < 2 → 1 ≤ n → n ≤ 24 → d.length = 8 → u8At d 0 = 1 ∨ u8At d 0 = 2 →
    exec (.rectAlert g n d) s = .next (groupEval g (s.updRect (rectOf g n) (fun x => { x with ok := false })))) ∧
  (∀ s g n d, s.running = true → g < 2 → 1 ≤ n → n ≤ 24 → d.length = 8 → u8At d 0 = 4 →
    exec (.rectAlert g n d) s = .next (groupEval g (s.updRect (rectOf g n) (fun x => { x with ok := true })))) ∧
  (∀ s g n d, s.running = true → g < 2 → 1 ≤ n → n ≤ 24 → d.length ≠ 8 ∨ u8At d 0 = 0 ∨ 4 < u8At d 0 →
    exec (.rectAlert g n d) s = .next s) ∧
  (∀ s g n d, s.running = true → g < 2 → 1 ≤ n → n ≤ 24 → d.length = 16 →
    ∃ u, exec (.rectStatus g n d) s = .next u ∧
      (bit (u8At d 11) 4 = true → bit (s.rect (rectOf g n)).flags 4 = false → u.raised 0x0807 (rectOf g n)) ∧
      u.loop = s.loop ∧ u.od = s.od ∧ u.phases = s.phases) ∧
  (∀ s g n d, s.running = true → g < 2 → 1 ≤ n → n ≤ 24 → d.length ≠ 16 → exec (.rectStatus g n d) s = .next s) ∧
  (∀ s g n d, s.running = true → g < 2 → 1 ≤ n → n ≤ 24 → d.length = 8 → u16At d 0 = 1 → u16At d 2 = 0 →
    u32At d 4 = 1 →
    exec (.rectConfigReply g n d) s =
      .next (groupEval g (s.updRect (rectOf g n) (fun x => { x with mode := some true })))) ∧
  (∀ s g n d, s.running = true → g < 2 → 1 ≤ n → n ≤ 24 → d.length ≠ 8 ∨ u16At d 0 ≠ 1 ∨ u16At d 2 ≠ 0 →
    exec (.rectConfigReply g n d) s = .next s) ∧
  (∀ s g n d, s.running = true → g < 2 → 1 ≤ n → n ≤ 24 → d.length = 8 → u16At d 0 = 1 → u16At d 2 = 0 →
    u32At d 4 ≠ 1 →
    ∃ u, exec (.rectConfigReply g n d) s = .next u ∧ u.raised 0x0806 (rectOf g n) ∧ u.loop = s.loop ∧ u.od = s.od) ∧
  (∀ s r, s.running = true → r < Config.rectifiers → (s.rect r).seen = true → (s.rect r).silent = false →
    (s.rect r).statusAt + 12 * ms ≤ s.now →
    ∃ u, exec (.rectSilent r) s = .next u ∧ u.raised 0x0805 r ∧ u.loop = s.loop ∧ u.od = s.od) ∧
  (∀ s g, s.running = true → g < 2 → (s.group g).portDown = false →
    exec (.canPortError g) s =
      .next ((s.updGroup g (fun x => { x with portDown := true, good := 0, back := none })).raise 0x080B (0x200 + g))) ∧
  (∀ s g, s.running = true → g < 2 → (s.group g).portDown = true →
    exec (.canPortError g) s = .next (s.updGroup g (fun x => { x with portDown := true, good := 0, back := none })))

/-- Groups in time, commands, auxiliary feeds. A group in DIP past its hold goes to ABSENT and is judged again; an
ABSENT group whose input is back for the return delay is RETURNING; a ceiling at the available power makes it
PRESENT; command 1 clears the counters and command 2 asks every rectifier heard for its mode again, while the
module drives the shelf; a measure of the auxiliary feeds, made whether or not firmware runs, is kept, a feed
out of 40 to 60 V counts for its warning while firmware runs, and both below 40 V count for the loss of power.
(09_feeds_and_rectifiers.md: Groups, ports and frames, 09_feeds_and_rectifiers.md: The draw reference,
09_feeds_and_rectifiers.md: Auxiliary feeds) -/
def Obligations.FeedGroups : Prop :=
  (∀ s g, s.running = true → g < 2 → s.groupSt g = .dip → (s.group g).since + s.cfgU 0x3400 0x0A * ms ≤ s.now →
    exec (.dipHoldExpiry g) s = .next (groupEval g (groupGo g .absent s))) ∧
  (∀ s g a, s.running = true → g < 2 → s.groupSt g = .absent → (s.group g).back = some a →
    a + s.cfgU 0x3400 0x0B * sec ≤ s.now →
    ∃ u, exec (.returnDelayExpiry g) s = .next u ∧ u.groupSt g = .returning ∧ u.loop = s.loop ∧ u.trays = s.trays) ∧
  (∀ s g, s.running = true → g < 2 → s.groupSt g = .returning → 0 < s.groupAvail g →
    s.groupAvail g ≤ (s.group g).ceiling →
    ∃ u, exec (.returnComplete g) s = .next u ∧ u.groupSt g = .present ∧ u.loop = s.loop ∧ u.od = s.od) ∧
  (∀ s ses, s.running = true → ses < Config.sessions →
    exec (.feedClearCounters ses) s = .next { s with feed := { s.feed with overrides := 0 } }) ∧
  (∀ s ses, s.running = true → ses < Config.sessions → s.drives = true → s.hw.released = false →
    ∃ u, exec (.rereadRectModes ses) s = .next u ∧
      u.tx = s.tx ++ (((List.range Config.rectifiers).filter fun r => (s.rect r).seen).map fun r =>
        Tx.can (r / 24) (32 * 0x10 + r % 24 + 1) (le 2 1 ++ le 2 0 ++ le 4 0)) ∧
      u.loop = s.loop ∧ u.od = s.od ∧ u.fm = s.fm ∧ u.feed = s.feed) ∧
  (∀ s ses, s.running = true → ses < Config.sessions → s.drives = false →
    exec (.rereadRectModes ses) s = .next s) ∧
  (∀ s a b, ∃ u, exec (.auxFeedMeasure a b) s = .next u ∧ u.feed.aux = [a, b] ∧ u.loop = s.loop ∧ u.trays = s.trays ∧
    u.feed.auxRun = [if s.running = true ∧ (a < 4000 ∨ 6000 < a) then get 0 s.feed.auxRun 0 + 1 else 0,
      if s.running = true ∧ (b < 4000 ∨ 6000 < b) then get 0 s.feed.auxRun 1 + 1 else 0] ∧
    u.hw.lowCount = if a < 4000 ∧ b < 4000 then s.hw.lowCount + 1 else 0)

/-- Cuts, reports, silence, flights. The cut runs once on a whole millisecond while the module drives and numbers
its epoch, and not twice at one instant or in the millisecond of a step of shelf time; where the governor's slot
stands still it voids the epoch. It forms the rack cap as the least of R238's terms, the governed budget as what
the ungoverned load leaves of it, and the grants of the epoch: in OFF, and where the budget is below the floor
demand, floor grants only, with flag 1, the highest point 0 and κ times the power of point 0; else, outside
BLIND, the points that the passes of R246 raise, first of the fixed and then of the bounded partitions, and for
a chip at a point of its partition r times κ times that point's power with r from 1 to 1.10 (R254). A report at
the front of its queue is taken, as of its arrival, unless the drain is held, and then nothing happens, as for
one that is not at the front; one that fails its checks counts as stray; with no report waiting the command is a
report that arrives now, which a module without a drain counts as a violation (log entry 63, DESIGN CHOICE). An
admitted chip silent for its limit is SILENT with 0706h; of a partition's two flights the first whose barrier is
met closes, and the first past its timeout closes by time with 0704h (log entry 40). (08_rack_governor.md:
Epochs and grants, 08_rack_governor.md: Reports, 08_rack_governor.md: Flights and the critical path) -/
def Obligations.GovernorEpoch : Prop :=
  (∀ s, s.running = true → s.now % ms = 0 → s.gov.cutAt ≠ some s.now → s.drives = true →
    s.withheld s.now = false → s.fwStopped 19 = false →
    ∃ u m, exec .epochCut s = .next u ∧ u.gov.epoch = s.now / ms ∧ u.gov.cutAt = some s.now ∧ u.loop = s.loop ∧
      u.phases = s.phases ∧ u.rcd = s.rcd ∧ m = (cutBudget s).1 ∧ u.feed.pFd = s.sumK ∧
      u.gov.bGov = max 0 (u.gov.pCap - u.gov.pUng) ∧
      (s.bothAbsent = false → u.gov.pCap =
        if 0 < u.gov.trim then min (min (s.sumK + s.alloc.disLim * vSet s / 1000) (formLim s)) (u.gov.pPk - u.gov.trim)
        else min (s.sumK + s.alloc.disLim * vSet s / 1000) (formLim s)) ∧
      (s.bothAbsent = true → u.gov.trim = 0 ∧ u.gov.pCap = min (min (s.alloc.disLim * vSet s / 1000) (formLim s))
        (s.shelfEu * 3600 / ((s.cfgU 0x5000 0x11 % 65536 : Nat) : Rat))) ∧
      u.gov.up703 = decide (u.gov.bGov < sumQ ((List.range 65).map m.floorDemand)) ∧
      (∀ g ∈ u.gov.grants, g.epoch = s.now / ms % 65536 ∧
        (bit g.flags 1 = true → g.point = 0 ∧
          g.cap = (m.kappaOf g.chip * m.pointP g.chip 0 * 1000000).floor.toNat) ∧
        (u.gov.st = .off ∨ u.gov.up703 = true ∧ u.gov.st ≠ .blind → bit g.flags 1 = true) ∧
        (u.gov.st ≠ .off → u.gov.st ≠ .blind → bit g.flags 1 = false →
          ∃ r, 1 ≤ r ∧ r ≤ 11 / 10 ∧
            g.cap = (r * (m.part g.part).kappa * m.pointP g.chip g.point * 1000000).floor.toNat)) ∧
      (u.gov.st ≠ .off → u.gov.st ≠ .blind → u.gov.up703 = false →
        ∃ cool f b, cool = (List.range Config.partitions).map (formCool (startPoints m)) ∧
          f = raiseAll 1 cool 2000 (startPoints m) (sumQ ((List.range 65).map m.floorDemand)) ∧
          b = raiseAll 0 cool 2000 f.1 f.2 ∧ b.2 ≤ u.gov.bGov ∧
          ∀ k, k < Config.partitions → (u.part k).point = (b.1.part k).point)) ∧
  (∀ s, s.running = true → s.gov.cutAt = some s.now ∨ s.withheld s.now = true → exec .epochCut s = .next s) ∧
  (∀ s, s.running = true → s.now % ms = 0 → s.gov.cutAt ≠ some s.now → s.drives = true → s.withheld s.now = false →
    s.fwStopped 19 = true → exec .epochCut s = .next (voidEpoch s)) ∧
  (∀ s f, s.running = true → s.port.drainHeld = true → exec (.report f) s = .next s) ∧
  (∀ s f, s.running = true → s.port.drainHeld = false →
    ∃ u, exec (.report f) s = .next u ∧ u.loop = s.loop ∧ u.phases = s.phases ∧ u.rcd = s.rcd ∧ u.hw = s.hw) ∧
  (∀ s f, s.running = true → s.port.drainHeld = false → s.port.reports = [] → s.passive = true →
    exec (.report f) s = .next (s.violateOp (u8At f 2) 6)) ∧
  (∀ s f, s.running = true → s.port.drainHeld = false → s.port.reports = [] → s.passive = false → reportOk f s = false →
    exec (.report f) s = .next (strayReport s)) ∧
  (∀ s f, s.running = true → s.port.drainHeld = false → s.port.reports = [] → s.passive = false → reportOk f s = true →
    exec (.report f) s = .next (acceptReport f s.now s)) ∧
  (∀ s f a l, s.running = true → s.port.drainHeld = false → s.port.reports = (a, f) :: l → reportOk f s = false →
    exec (.report f) s = .next (strayReport { s with port := { s.port with reports := l } })) ∧
  (∀ s f a l, s.running = true → s.port.drainHeld = false → s.port.reports = (a, f) :: l → reportOk f s = true →
    exec (.report f) s = .next (acceptReport f a { s with port := { s.port with reports := l } })) ∧
  (∀ s f a g l, s.running = true → s.port.reports = (a, g) :: l → g ≠ f → exec (.report f) s = .next s) ∧
  (∀ s c, s.running = true → c < Config.chips → (s.chip c).st = .admitted →
    (s.chip c).lastAt + s.cfgU 0x5000 0x15 * ms ≤ s.now →
    exec (.chipSilent c) s = .next ((s.updChip c (fun x => { x with st := .silent })).raise 0x0706 c)) ∧
  (∀ s k n m, s.running = true → k < Config.partitions → n = (s.part k).flight → m = (n + 1) % 65536 →
    (s.flightFull k n = true → exec (.flightClose k) s = .next (closeFlight k n false s)) ∧
    (s.flightFull k n = false → s.flightFull k m = true → exec (.flightClose k) s = .next (closeFlight k m false s)) ∧
    (s.flightFull k n = false → s.flightFull k m = false → exec (.flightClose k) s = .next s) ∧
    (s.flightLate k n = true → exec (.flightTimeout k) s = .next ((closeFlight k n true s).raise 0x0704 k)) ∧
    (s.flightLate k n = false → s.flightLate k m = true →
      exec (.flightTimeout k) s = .next ((closeFlight k m true s).raise 0x0704 k)) ∧
    (s.flightLate k n = false → s.flightLate k m = false → exec (.flightTimeout k) s = .next s))

/-- Commands and tables of the governor. Command 1 starts a governor that is OFF, 2 stops one that is not, each else
a violation; 3 commits pending borders unless they overlap; 4 clears its counters; a flight-source word whose
two sources are each 0 or 384 to 1023 is stored and routed, another is a violation; a table block of wrong shape
(off the start of an entry: log entry 69, DESIGN CHOICE) or past the end of the table is a violation, one with
32 open transactions meets the limit, a good one opens a transaction. (08_rack_governor.md: Objects,
08_rack_governor.md: The operating-point table, 08_rack_governor.md: Partitions and moving borders) -/
def Obligations.GovernorCommands : Prop :=
  (∀ s ses, s.running = true → ses < Config.sessions → s.gov.st = .off →
    exec (.governorStart ses) s = .next { s with gov := { s.gov with st := .run } } ∧
    exec (.governorStop ses) s = .next (s.violate ses 0x5000 0x02)) ∧
  (∀ s ses, s.running = true → ses < Config.sessions → s.gov.st ≠ .off →
    exec (.governorStart ses) s = .next (s.violate ses 0x5000 0x02) ∧
    exec (.governorStop ses) s = .next { s with gov := { s.gov with st := .off } }) ∧
  (∀ s ses, s.running = true → ses < Config.sessions → bordersOverlap s = false →
    exec (.commitBorders ses) s = .next { s with gov := { s.gov with commit := some ses } }) ∧
  (∀ s ses, s.running = true → ses < Config.sessions → bordersOverlap s = true →
    exec (.commitBorders ses) s = .next (s.violate ses 0x5000 0x02)) ∧
  (∀ s ses, s.running = true → ses < Config.sessions →
    exec (.governorClearCounters ses) s = .next { s with gov := { s.gov with
      stray := 0, dropped := 0, parts := s.gov.parts.map fun p => { p with timedOut := 0 } } }) ∧
  (∀ s ses k a b, s.running = true → ses < Config.sessions → k < Config.partitions → a = 0 ∨ 384 ≤ a ∧ a < 1024 →
    b = 0 ∨ 384 ≤ b ∧ b < 1024 → exec (.flightSourcesWrite ses k (a + 65536 * b)) s = .next
      (routeFlight ses k 1 b (routeFlight ses k 0 a (s.setCfg (0x5100 + k) 0x17 (a + 65536 * b))))) ∧
  (∀ s ses k a b, s.running = true → ses < Config.sessions → k < Config.partitions → a < 65536 →
    0 < a ∧ a < 384 ∨ 1024 ≤ a ∨ 0 < b ∧ b < 384 ∨ 1024 ≤ b →
    exec (.flightSourcesWrite ses k (a + 65536 * b)) s = .next (s.violate ses (0x5100 + k) 0x17)) ∧
  (∀ s ses seq off d, s.running = true → ses < Config.sessions →
    d = [] ∨ d.length % 8 ≠ 0 ∨ off % 8 ≠ 0 ∨ 8192 < off + d.length ∨
      131072 < s.win ses 0x5800 0x03 + off / 8 + d.length / 8 →
    exec (.opTableWrite ses seq off d) s = .next (s.violate ses 0x5800 0x04)) ∧
  (∀ s ses seq off d, s.running = true → ses < Config.sessions → d ≠ [] → d.length % 8 = 0 → off % 8 = 0 →
    off + d.length ≤ 8192 → s.win ses 0x5800 0x03 + off / 8 + d.length / 8 ≤ 131072 → s.openTxns < 32 →
    ∃ u, exec (.opTableWrite ses seq off d) s = .next u ∧ u.txn.highest = s.txn.highest + 1 ∧ u.loop = s.loop ∧
      u.phases = s.phases) ∧
  (∀ s ses seq off d, s.running = true → ses < Config.sessions → d ≠ [] → d.length % 8 = 0 → off % 8 = 0 →
    off + d.length ≤ 8192 → s.win ses 0x5800 0x03 + off / 8 + d.length / 8 ≤ 131072 → 32 ≤ s.openTxns →
    exec (.opTableWrite ses seq off d) s = .next (txnLimit ses 0x5800 0x04 s))

/-- Ticks and firings. A tick is given once for a whole microsecond, and none in the millisecond of a step of shelf
time; a stage of a bound slot whose inputs are complete and which nothing holds back fires: the core memory
afterwards is that of the stage's operators, and the loop, the trays and the dictionary are as they were; on a
failed core, or while event records wait for another stage of its core, it does not fire. (10_control_grid.md:
Firing and determinism, 12_grid_programs.md: Operators) -/
def Obligations.GridFiring : Prop :=
  (∀ s, s.running = true → s.now % 1000 = 0 → s.grid.tickAt ≠ some s.now → s.withheld s.now = false →
    ∃ u, exec .periodTick s = .next u ∧ u.grid.tickAt = some s.now ∧ u.grid.sram = s.grid.sram ∧ u.loop = s.loop ∧
      u.od = s.od) ∧
  (∀ s, s.running = true → s.grid.tickAt = some s.now ∨ s.withheld s.now = true → exec .periodTick s = .next s) ∧
  (∀ s n k r st tag, s.running = true → n < Config.slots → k < 256 → (s.slot n).st = .bound → (s.slot n).rt = some r →
    (s.slot n).program.stages[k]? = some st → nextTag (s.slot n).program r k = some tag →
    s.holdFire n k tag (s.slot n).program r st = false →
    ∃ u, exec (.stageFire n k) s = .next u ∧ u.loop = s.loop ∧ u.trays = s.trays ∧ u.od = s.od ∧
      u.grid.sram = (fireStage { base := 262144 * r.core st.core, slot := n, tag := tag, prog := (s.slot n).program
                                 gates := r.gates, inputs := r.inputs.filter fun i => i.stage == k && i.tag == tag }
        s.grid.sram st).mem) ∧
  (∀ s n k r st tag, s.running = true → n < Config.slots → k < 256 → (s.slot n).st = .bound → (s.slot n).rt = some r →
    (s.slot n).program.stages[k]? = some st → nextTag (s.slot n).program r k = some tag →
    s.grid.failed.contains (r.core st.core) = true ∨ bit st.flags 1 = false ∧ s.recordsWait (r.core st.core) = true →
    exec (.stageFire n k) s = .next s)

/-- Barges that arrive. A barge whose CRC fails is answered with a NAK and has no other effect, whichever of the
commands carries it; one of a reserved kind is counted as discarded, as is one to an endpoint that does not
exist, whatever its CRC; a NAK or an expired wait resends an unacknowledged barge sent fewer than 8 times, and
an ACK frees it. (10_control_grid.md: Barges, 10_control_grid.md: The mesh) -/
def Obligations.GridBarges : Prop :=
  (∀ s b x, s.running = true → parseBarge b = some x → x.dst < 74 → bargeCrcOk b = false →
    exec (.bargeData b) s = .next (ackBarge 4 x s) ∧ exec (.bargeVoid b) s = .next (ackBarge 4 x s) ∧
    exec (.bargeAck b) s = .next (ackBarge 4 x s) ∧ exec (.bargeNak b) s = .next (ackBarge 4 x s) ∧
    exec (.memRead b) s = .next (ackBarge 4 x s) ∧ exec (.memWrite b) s = .next (ackBarge 4 x s)) ∧
  (∀ s b x, s.running = true → parseBarge b = some x → 74 ≤ x.dst ∨ bargeCrcOk b = true ∧ 8 ≤ x.kind →
    exec (.bargeData b) s = .next (discardBarge s) ∧ exec (.bargeVoid b) s = .next (discardBarge s) ∧
    exec (.bargeAck b) s = .next (discardBarge s) ∧ exec (.bargeNak b) s = .next (discardBarge s) ∧
    exec (.memRead b) s = .next (discardBarge s) ∧ exec (.memWrite b) s = .next (discardBarge s)) ∧
  (∀ s b x, s.running = true → parseBarge b = some x → bargeCrcOk b = true → x.kind = 0 → x.dst < 74 →
    x.seq = (s.pairSeq x.src x.dst).expect →
    ∃ u, exec (.bargeData b) s = .next u ∧ u.loop = s.loop ∧ u.trays = s.trays ∧ u.od = s.od ∧ u.hw = s.hw ∧
      u.port = s.port) ∧
  (∀ s b x, s.running = true → parseBarge b = some x → bargeCrcOk b = true → x.kind = 2 → x.dst < 74 →
    ∃ u, exec (.bargeVoid b) s = .next u ∧ u.loop = s.loop ∧ u.trays = s.trays ∧ u.od = s.od ∧
      u.grid.sram = s.grid.sram) ∧
  (∀ s b x, s.running = true → parseBarge b = some x → bargeCrcOk b = true → x.kind = 3 → x.dst < 74 →
    exec (.bargeAck b) s = .next (ackArrived x s)) ∧
  (∀ s b x u, s.running = true → parseBarge b = some x → bargeCrcOk b = true → x.kind = 4 → x.dst < 74 →
    s.findUnacked x.dst x.src x.seq = some u → u.sends < 8 →
    exec (.bargeNak b) s = .next (resend u s)) ∧
  (∀ s a b q u, s.running = true → a < 256 → b < 256 → s.findUnacked a b q = some u → u.at_ + 171 ≤ s.now →
      u.sends < 8 →
    exec (.bargeAckTimeout a b q) s = .next (resend u s)) ∧
  (∀ s b x, s.running = true → parseBarge b = some x → bargeCrcOk b = true → x.kind = 5 → x.dst < 74 →
    x.seq = (s.pairSeq x.src x.dst).expect → (s.pairSeq x.src x.dst).held = [] →
    ∃ u, exec (.memRead b) s = .next u ∧ u.grid.ddr = s.grid.ddr ∧ u.grid.sram = s.grid.sram ∧ u.loop = s.loop)

/-- A MEM_WRITE in its order stores its bytes and nothing else. A MEM_WRITE barge with a good CRC, next in its
sequence and with nothing held behind it, to a memory endpoint and within its 4 GiB: each byte it carries reads
back at its address, every other byte of LPDDR4X reads as before, and core SRAM is as it was. That the payload
begins with the address as a U64 and that a channel holds 4 GiB is log entry 45 (DEDUCED). (10_control_grid.md:
Barges, 10_control_grid.md: Cores) -/
def Obligations.MemoryWrite : Prop :=
  ∀ s b x, s.running = true → parseBarge b = some x → bargeCrcOk b = true → x.kind = 6 → 66 ≤ x.dst → x.dst ≤ 69 →
    x.seq = (s.pairSeq x.src x.dst).expect → (s.pairSeq x.src x.dst).held = [] →
    u64At x.payload 0 + (x.payload.drop 8).length ≤ 4294967296 →
    ∃ u, exec (.memWrite b) s = .next u ∧ u.grid.sram = s.grid.sram ∧ u.loop = s.loop ∧
      (∀ i, i < (x.payload.drop 8).length →
        Store.get 0 u.grid.ddr (4294967296 * (x.dst - 66) + u64At x.payload 0 + i) = (x.payload.drop 8).getD i 0) ∧
      (∀ a, a < 4294967296 * (x.dst - 66) + u64At x.payload 0 ∨
          4294967296 * (x.dst - 66) + u64At x.payload 0 + (x.payload.drop 8).length ≤ a →
        Store.get 0 u.grid.ddr a = Store.get 0 s.grid.ddr a)

/-- Memory errors, failed cores, restarts, calls. Corrected words count, from a core or from the patrol; an
uncorrectable word counts and its place is kept, and on LPDDR4X raises 0903h and voids the period of the
firmware stage that read it; a core that fails for the first time raises 0907h and is marked, and one that has
failed already changes nothing; a slot that was restarting ends its restart, with 0906h unless the restart was a
quiet one; command 1 clears the counters; a self-test marks every idle core of the user region that fails it,
and changes nothing where none does; a call from a firmware slot sends its block to the slot's core, records it
as an input, is answered with one value the spec does not state (log entry 2), and then signals the gate named
in the call by 1, as the slot's core, or below 2048 as the keeper; a call to a bound free slot's channel of kind
keeper call queues its gate under the call's number and sends the block to the channel's stage.
(10_control_grid.md: Memory errors and void periods, 10_control_grid.md: Co-processor to the lock-keeper,
10_control_grid.md: Objects) -/
def Obligations.GridErrors : Prop :=
  (∀ s c n, s.running = true → c < Config.cores →
    ∃ u, exec (.sramScrub c n) s = .next u ∧ u.grid.corrected = s.grid.corrected + n ∧ u.grid.sram = s.grid.sram ∧
      u.loop = s.loop ∧ u.slots = s.slots) ∧
  (∀ s c n, s.running = true → c < 4 →
    ∃ u, exec (.memPatrolScrub c n) s = .next u ∧ u.grid.corrected = s.grid.corrected + n ∧ u.grid.ddr = s.grid.ddr ∧
      u.loop = s.loop ∧ u.slots = s.slots) ∧
  (∀ s c a, s.running = true → c < Config.cores →
    ∃ u, exec (.sramUncorrectable c a) s = .next u ∧ u.grid.uncorrected = sat32 (s.grid.uncorrected + 1) ∧
      u.grid.lastBad = c * 72057594037927936 + a ∧ u.phases = s.phases ∧ u.od = s.od) ∧
  (∀ s ch a n k, s.running = true → ch < 4 → n < Config.slots → k < 256 →
    ∃ u, exec (.memUncorrectable ch a n k) s = .next u ∧ u.raised 0x0903 n ∧
      u.grid.uncorrected = sat32 (s.grid.uncorrected + 1) ∧
      u.grid.lastBad = (66 + ch) * 72057594037927936 + a ∧ (n < 24 → k < fwStages n → (n, k) ∈ u.grid.fwVoid) ∧
      u.loop = s.loop ∧ u.phases = s.phases ∧ u.od = s.od) ∧
  (∀ s n, s.running = true → n < Config.slots → s.grid.restarting.contains n = true →
    ∃ u, exec (.slotRestartComplete n) s = .next u ∧ (s.grid.quiet.contains n = false → u.raised 0x0906 n) ∧
      u.grid.restarting.contains n = false ∧ u.grid.restarts = sat32 (s.grid.restarts + 1) ∧ u.tx = s.tx ∧
      u.od = s.od) ∧
  (∀ s c, s.running = true → c < Config.cores → s.grid.failed.contains c = false →
    ∃ u, exec (.coreFailed c) s = .next u ∧ u.raised 0x0907 c ∧ u.grid.failed = s.grid.failed ++ [c] ∧
      u.phases = s.phases ∧ u.od = s.od) ∧
  (∀ s c, s.running = true → c < Config.cores → s.grid.failed.contains c = true → exec (.coreFailed c) s = .next s) ∧
  (∀ s ses, s.running = true → ses < Config.sessions →
    exec (.gridClearCounters ses) s = .next { s with grid := { s.grid with
      retries := 0, voids := 0, overruns := 0, discarded := 0, corrected := 0, uncorrected := 0, restarts := 0 } }) ∧
  (∀ s ses, s.running = true → ses < Config.sessions → exec (.gridSelfTest ses 0) s = .next s) ∧
  (∀ s ses m, s.running = true → ses < Config.sessions →
    ∃ u, exec (.gridSelfTest ses m) s = .next u ∧
      (∀ c, c ∈ s.userCores → s.coreFree c = true → bit m c = true → u.grid.failed.contains c = true) ∧
      u.phases = s.phases ∧ u.loop = s.loop ∧ u.od = s.od) ∧
  (∀ s n ch g d, s.running = true → n < 24 → ch < 65536 → g < 65536 →
    ∃ u m core, exec (.keeperCall n ch g d) s = .next u ∧ u.freeCount = s.freeCount + 1 ∧ u.loop = s.loop ∧
      u.od = s.od ∧
      u.grid.sram = s.grid.sram ∧ core = (if fwFirst n = 0xFF then 0 else fwFirst n) ∧
      m = inputRecord n ch 0 d (sendBlock 65 core 1 n ch 0 d { s with freeCount := s.freeCount + 1 }) ∧
      u = gateSignalEff (if g < 2048 then .keeper 64 else .grid core n) g 1
        (sendBarge core 65 1 0xFF ch 0 (le 8 (Config.freeNat s.freeCount)) m)) ∧
  (∀ s n ch g d r c, s.running = true → 24 ≤ n → n < Config.slots → ch < 65536 → g < 65536 → (s.slot n).st = .bound →
    (s.slot n).rt = some r → (s.slot n).program.chan ch = some c → c.kind = 5 →
      c.consumer < (s.slot n).program.stages.length →
    ∃ u m, exec (.keeperCall n ch g d) s = .next u ∧
      m = s.updSlot n (fun x => { x with
        rt := some { r with calls := r.calls ++ [(r.callN, g)], callN := r.callN + 1 } }) ∧
      u = sendBlock 65 (m.stageCore n c.consumer) 1 n ch r.callN d m)

/-- The seven operations of a gate. An operation by a sender that may not make it, a SIGNAL of 0 (log entry 57,
DEDUCED) and a SIGNAL of a barrier that is not armed are refused. A SIGNAL else gives the gate the count of its
mode, counts what found no room, and raises 0A01h where it saturates; a WAIT takes a free register of the
sender's core and is refused without one, of a party without a core (log entry 57), and below gate 2048 of any
party but firmware (Table 11.3); ARM sets count 0, the target, the next generation and in barrier mode an armed
barrier, released at once at target 0; ADJUST within 32 bits moves the target, and outside them completes with a
target the spec does not state; CLEAR zeroes the count and idles a barrier; CANCEL ends the sender's waits, and
is refused without any; ROUTE binds a free source and is refused on another. Waits are then released as they are
met. (11_gates_and_events.md: The gate array) -/
def Obligations.GateOperations : Prop :=
  (∀ s who g n, s.running = true → g < 65536 → n < 4294967296 →
    (s.gate g).maySignal who = false ∨ n = 0 ∨ (s.gate g).mode = 1 ∧ (s.gate g).barrier ≠ 1 →
    exec (.gateSignal who g n) s = .next (refuseOp who s)) ∧
  (∀ s who g n y, s.running = true → g < 65536 → 0 < n → n < 4294967296 → (s.gate g).maySignal who = true →
    (s.gate g).signal n = some y →
    exec (.gateSignal who g n) s = .next (settleGate g (when_ (y.sat && !(s.gate g).sat) (fun s => s.raise 0x0A01 g)
      { s.setGate g y with gates := { (s.setGate g y).gates with
        excess := sat32 (s.gates.excess + (s.gate g).excess n)
        drains := if who = .drain then s.gates.drains + 1 else s.gates.drains } }))) ∧
  (∀ s who core g v a b c reg, s.running = true → g < 65536 → v < 4294967296 → (s.gate g).kind ≠ 0 →
    coreOf who = some core → 2048 ≤ g ∨ fromFirmware who = true → s.freeReg core = some reg →
    exec (.gateWait who g v a b c) s = .next (settleGate g { s with gates := { s.gates with
      waits := s.gates.waits ++ [{ who := who, core := core, reg := reg, g := g, v := v, slot := a
                                   channel := b, tag := c }] } })) ∧
  (∀ s who g v a b c, s.running = true → g < 65536 → v < 4294967296 →
    coreOf who = none ∨ (s.gate g).kind = 0 ∨ (∃ core, coreOf who = some core ∧ s.freeReg core = none) →
    exec (.gateWait who g v a b c) s = .next (refuseOp who s)) ∧
  (∀ s who g v a b c, s.running = true → g < 2048 → v < 4294967296 → fromFirmware who = false →
    exec (.gateWait who g v a b c) s = .next (refuseOp who s)) ∧
  (∀ s who g target d src, s.running = true → g < 65536 → target < 4294967296 → src < 65536 →
    (s.gate g).ownedBy who = false →
    exec (.gateArm who g target) s = .next (refuseOp who s) ∧ exec (.gateAdjust who g d) s = .next (refuseOp who s) ∧
    exec (.gateClear who g) s = .next (refuseOp who s) ∧ exec (.gateRoute who g src) s = .next (refuseOp who s)) ∧
  (∀ s who g target, s.running = true → g < 65536 → target < 4294967296 → (s.gate g).ownedBy who = true →
    exec (.gateArm who g target) s = .next (settleGate g (s.setGate g ({ s.gate g with
      count := 0, target := target, sat := false, gen := ((s.gate g).gen + 1) % 65536
      barrier := if (s.gate g).mode = 1 then 1 else (s.gate g).barrier } : Gate).tryRelease))) ∧
  (∀ s who g d, s.running = true → g < 65536 → (s.gate g).ownedBy who = true → 0 ≤ ((s.gate g).target : Int) + d →
    ((s.gate g).target : Int) + d < 4294967296 →
    exec (.gateAdjust who g d) s = .next (settleGate g (s.setGate g
      ({ s.gate g with target := (((s.gate g).target : Int) + d).toNat } : Gate).tryRelease))) ∧
  (∀ s who g d, s.running = true → g < 65536 → (s.gate g).ownedBy who = true →
    ((s.gate g).target : Int) + d < 0 ∨ 4294967296 ≤ ((s.gate g).target : Int) + d →
    ∃ v, v < 4294967296 ∧ exec (.gateAdjust who g d) s = .next (settleGate g
      (({ s with freeCount := s.freeCount + 1 } : State).setGate g
        ({ s.gate g with target := v } : Gate).tryRelease))) ∧
  (∀ s who g, s.running = true → g < 65536 → (s.gate g).ownedBy who = true →
    exec (.gateClear who g) s = .next (settleGate g (s.setGate g { s.gate g with
      count := 0, sat := false, barrier := if (s.gate g).mode = 1 then 0 else (s.gate g).barrier }))) ∧
  (∀ s who g, s.running = true → g < 65536 → (s.gate g).kind ≠ 0 →
    s.gates.waits.filter (fun w => w.g == g && w.who == who) ≠ [] →
    exec (.gateCancel who g) s = .next ((s.gates.waits.filter fun w => w.g == g && w.who == who).foldl
      (fun s w => releaseWait w (-1) s) s)) ∧
  (∀ s who g, s.running = true → g < 65536 →
    (s.gate g).kind = 0 ∨ s.gates.waits.filter (fun w => w.g == g && w.who == who) = [] →
    exec (.gateCancel who g) s = .next (refuseOp who s)) ∧
  (∀ s who g src, s.running = true → g < 65536 → src < 65536 → (s.gate g).ownedBy who = true →
    exec (.gateRoute who g src) s =
      .next (if s.routeFree g src = true then s.setGate g { s.gate g with route := src } else refuseOp who s))

/-- Blocks, bad gate words, counters. A session that asks for no gate, for more than 1,024, or with a bit above the
mode, is refused as a violation; asking for what no gap holds raises 0A03h and answers base 0, and what fits
takes its block at the first gap; a session frees its own block and no other; a bad word of a firmware gate
raises 0A06h and holds the drain, of another gate 0A04h; command 1 clears the two counters.
(11_gates_and_events.md: The gate array, 11_gates_and_events.md: Faults) -/
def Obligations.GateBlocks : Prop :=
  (∀ s ses v, s.running = true → ses < Config.sessions →
    v % 65536 = 0 ∨ 1024 < v % 65536 ∨ 262144 ≤ v →
    exec (.gateAllocate ses v) s = .next (s.violate ses 0x6800 0x06)) ∧
  (∀ s ses v, s.running = true → ses < Config.sessions → 0 < v % 65536 → v % 65536 ≤ 1024 → v < 262144 →
    s.gates.free.find? (fun e => decide (v % 65536 ≤ e.2)) = none →
    ∃ u, exec (.gateAllocate ses v) s = .next u ∧ u.raised 0x0A03 noInst ∧
      u.gates.lastBase = s.gates.lastBase.set ses 0 ∧ u.gates.blocks = s.gates.blocks) ∧
  (∀ s ses v e, s.running = true → ses < Config.sessions → 0 < v % 65536 → v % 65536 ≤ 1024 → v < 262144 →
    s.gates.free.find? (fun e => decide (v % 65536 ≤ e.2)) = some e →
    ∃ u, exec (.gateAllocate ses v) s = .next u ∧ u.gates.lastBase = s.gates.lastBase.set ses e.1 ∧ u.fm = s.fm ∧
      u.gates.blocks = insertBlock { base := e.1, n := v % 65536, mode := v / 65536 % 4, kind := 4, owner := ses
                                     holes := [] } s.gates.blocks) ∧
  (∀ s ses base b, s.running = true → ses < Config.sessions →
    s.gates.blocks.find? (fun b => b.base == base && b.kind == 4 && b.owner == ses) = some b →
    exec (.gateFree ses base) s = .next (freeBlock b s)) ∧
  (∀ s ses base, s.running = true → ses < Config.sessions →
    s.gates.blocks.find? (fun b => b.base == base && b.kind == 4 && b.owner == ses) = none →
    exec (.gateFree ses base) s = .next (s.violate ses 0x6800 0x08)) ∧
  (∀ s g, s.running = true → g < 2048 →
    ∃ u, exec (.gateStateUncorrectable g) s = .next u ∧ u.raised 0x0A06 g ∧ u.port.drainHeld = true ∧ u.loop = s.loop) ∧
  (∀ s g, s.running = true → 2048 ≤ g → g < 65536 →
    ∃ u, exec (.gateStateUncorrectable g) s = .next u ∧ u.raised 0x0A04 g ∧ u.port = s.port ∧ u.loop = s.loop) ∧
  (∀ s ses, s.running = true → ses < Config.sessions →
    exec (.gatesClearCounters ses) s = .next { s with gates := { s.gates with refused := 0, excess := 0 } })

/-- Sources, delivery, masks. A source whose level is as it was sensed gives nothing, and one whose level has
changed, up or down, is sensed anew; TAKE puts the lowest pending source of a core in service, sends its number,
takes it off and leaves its record in the core's RECORD register, answers FFFFh where none is pending, and waits
behind a fast queue that is not empty (for a keeper core: log entry 52, DEDUCED); ACK ends a service and only
one that runs; MASK_SET masks an unmasked source once and MASK_CLEAR clears the bit; POP of an empty queue does
nothing, and of another, where nothing is held or delivered again, takes its head; a block of source words of
wrong shape is a violation (an offset within a word: log entry 75, DESIGN CHOICE), and so is one with a word
that is ignored, the others taking effect (which are ignored: log entry 52); command 1 clears the counters.
(11_gates_and_events.md: The event controller) -/
def Obligations.EventSources : Prop :=
  (∀ s n, s.running = true → n < 1024 → s.sourceLevel n = s.ev.high.contains n →
    exec (.sourceChange n) s = .next s) ∧
  (∀ s n, s.running = true → n < 1024 → s.sourceLevel n = false → s.ev.high.contains n = true →
    ∃ u, exec (.sourceChange n) s = .next u ∧ u.ev.high = s.ev.high.filter (· != n) ∧ u.loop = s.loop ∧ u.od = s.od) ∧
  (∀ s n, s.running = true → n < 1024 → s.sourceLevel n = true → s.ev.high.contains n = false →
    ∃ u, exec (.sourceChange n) s = .next u ∧ u.ev.high.contains n = true ∧ u.loop = s.loop ∧ u.od = s.od) ∧
  (∀ s c, s.running = true → c < 68 → get [] s.ev.fast c ≠ [] → exec (.eventTake c) s = .next s) ∧
  (∀ s c, s.running = true → c < 68 → get [] s.ev.fast c = [] → s.ev.pending.find? (fun e => e.1 / 1024 == c) = none →
    exec (.eventTake c) s = .next { s with tx := s.tx ++ [.eventWord c 0xFFFF] }) ∧
  (∀ s c e, s.running = true → c < 68 → 64 ≤ c → get [] s.ev.fast c = [] →
      s.ev.pending.find? (fun e => e.1 / 1024 == c) = some e →
    exec (.eventTake c) s = .next { s with
      tx := s.tx ++ [.eventWord c e.2.src]
      ev := { s.ev with
        pending := Store.del s.ev.pending e.1, service := s.ev.service ++ [e.1]
        taken := upd s.ev.taken c (fun _ => e.2) } }) ∧
  (∀ s c e, s.running = true → c < 64 → get [] s.ev.fast c = [] →
      s.ev.pending.find? (fun e => e.1 / 1024 == c) = some e →
    ∃ u, exec (.eventTake c) s = .next u ∧ u.ev.pending = Store.del s.ev.pending e.1 ∧
      u.ev.service = s.ev.service ++ [e.1] ∧ u.ev.taken = upd s.ev.taken c (fun _ => e.2) ∧ u.loop = s.loop ∧
      u.od = s.od) ∧
  (∀ s c n, s.running = true → c < 68 → n < 1024 → s.ev.service.contains (ekey c n) = true →
    ∃ u, exec (.eventAck c n) s = .next u ∧ u.ev.service = s.ev.service.filter (· != ekey c n) ∧ u.loop = s.loop ∧
      u.od = s.od) ∧
  (∀ s c n, s.running = true → c < 68 → n < 1024 → s.ev.service.contains (ekey c n) = false →
    exec (.eventAck c n) s = .next s) ∧
  (∀ s c n, s.running = true → c < 68 → n < 1024 → bit (s.srcWord n) 4 = false →
    exec (.maskSet c n) s = .next { s.setSrcWord n (setBit (s.srcWord n) 4 true) with
      ev := { (s.setSrcWord n (setBit (s.srcWord n) 4 true)).ev with masks := s.ev.masks ++ [(n, s.now)] } }) ∧
  (∀ s c n, s.running = true → c < 68 → n < 1024 → bit (s.srcWord n) 4 = true →
    exec (.maskSet c n) s = .next s) ∧
  (∀ s c n, s.running = true → c < 68 → n < 1024 →
    ∃ u, exec (.maskClear c n) s = .next u ∧ u.ev.cfg = (s.setSrcWord n (setBit (s.srcWord n) 4 false)).ev.cfg ∧
      u.loop = s.loop ∧ u.gates = s.gates ∧ u.od = s.od ∧ u.slots = s.slots) ∧
  (∀ s c, s.running = true → c < 68 → get [] s.ev.fast c = [] → exec (.fastPop c) s = .next s) ∧
  (∀ s c r rest, s.running = true → c < 68 → get [] s.ev.fast c = r :: rest →
    ∃ u, exec (.fastPop c) s = .next u ∧ u.loop = s.loop ∧ u.od = s.od ∧ u.gates = s.gates ∧
      (s.ev.held.find? (fun e => e.1 / 1024 == c) = none → s.srcWord r.src % 8 ≠ 1 → s.srcWord r.src % 8 ≠ 2 →
        u.ev.fast = upd s.ev.fast c (fun _ => rest))) ∧
  (∀ s ses off d, s.running = true → ses < 32 →
    d = [] ∨ d.length % 4 ≠ 0 ∨ off % 4 ≠ 0 ∨ 1024 < s.win ses 0x6900 0x02 + off / 4 + d.length / 4 →
    exec (.sourceConfigWrite ses off d) s = .next (s.violate ses 0x6900 0x03)) ∧
  (∀ s ses off d, s.running = true → ses < 32 → d ≠ [] → d.length % 4 = 0 → off % 4 = 0 →
    s.win ses 0x6900 0x02 + off / 4 + d.length / 4 ≤ 1024 → (srcWords (s.win ses 0x6900 0x02 + off / 4) d s).2 = true →
    exec (.sourceConfigWrite ses off d) s =
      .next (srcWords (s.win ses 0x6900 0x02 + off / 4) d s).1) ∧
  (∀ s ses off d, s.running = true → ses < 32 → d ≠ [] → d.length % 4 = 0 → off % 4 = 0 →
    s.win ses 0x6900 0x02 + off / 4 + d.length / 4 ≤ 1024 →
    (srcWords (s.win ses 0x6900 0x02 + off / 4) d s).2 = false →
    exec (.sourceConfigWrite ses off d) s =
      .next ((srcWords (s.win ses 0x6900 0x02 + off / 4) d s).1.violate ses 0x6900 0x03)) ∧
  (∀ s ses, s.running = true → ses < 32 →
    exec (.eventsClearCounters ses) s =
      .next { s with ev := { s.ev with coalesced := 0, maskWin := 0, routesCleared := 0, refusals := 0 } })

/-- Blocks and commands of a program slot. A block for a firmware slot, of wrong shape or past the container's last
is a violation, and one for a free slot puts it in LOADING; command 1 judges a LOADING slot: a good container is
LOADED, a bad one REFUSED with 0909h, and where the forecaster names the slot 0606h is raised for a descriptor
it does not accept, and a tide container refused with it; command 2 binds only a LOADED slot and raises 090Bh
where no place is free or a binding cannot be made; 3 unbinds a bound or faulted slot; 4 restarts a faulted slot
on sound cores; 5 empties one that is LOADING, LOADED or REFUSED (log entry 57, DEDUCED, as for the block
numbers and the writes to firmware slots); a stage void for 16 periods raises 090Ah. What a command does not
allow is a violation. (12_grid_programs.md: Slots, 12_grid_programs.md: The container, 12_grid_programs.md:
Loading and binding) -/
def Obligations.SlotCommands : Prop :=
  (∀ s ses seq n off d, s.running = true → ses < Config.sessions → n < 24 →
    exec (.slotBlockWrite ses seq n off d) s = .next (s.violate ses (0x6100 + n) 0x05)) ∧
  (∀ s ses seq n off d, s.running = true → ses < Config.sessions → 24 ≤ n → n < Config.slots →
    d ≠ [] → off + d.length ≤ 8192 → s.win ses (0x6100 + n) 0x04 < 524288 → s.loadOpen n = true ∨ s.openTxns < 32 →
    n < s.slots.length → (∀ c, s.loadCount n = some c → s.win ses (0x6100 + n) 0x04 = 0 ∨
      s.win ses (0x6100 + n) 0x04 < c) →
    ∃ u, exec (.slotBlockWrite ses seq n off d) s = .next u ∧ (u.slot n).st = .loading ∧ u.loop = s.loop ∧
      u.phases = s.phases) ∧
  (∀ s ses seq n off d, s.running = true → ses < Config.sessions → 24 ≤ n → n < Config.slots →
    d = [] ∨ 8192 < off + d.length ∨ 524288 ≤ s.win ses (0x6100 + n) 0x04 ∨
      (∃ c, s.loadCount n = some c ∧ 0 < s.win ses (0x6100 + n) 0x04 ∧ c ≤ s.win ses (0x6100 + n) 0x04) →
    exec (.slotBlockWrite ses seq n off d) s = .next (s.violate ses (0x6100 + n) 0x05)) ∧
  (∀ s ses n, s.running = true → ses < Config.sessions → n < Config.slots → n < 24 ∨ (s.slot n).st ≠ .loading →
    exec (.slotCheck ses n) s = .next (s.violate ses (0x6100 + n) 0x02)) ∧
  (∀ s ses n, s.running = true → ses < Config.sessions → 24 ≤ n → n < Config.slots → (s.slot n).st = .loading →
    containerOk (s.slot n).image = false →
    ∃ u, exec (.slotCheck ses n) s = .next u ∧ (u.slot n).st = .refused ∧ u.raised 0x0909 n) ∧
  (∀ s ses n, s.running = true → ses < Config.sessions → 24 ≤ n → n < Config.slots → (s.slot n).st = .loading →
    containerOk (s.slot n).image = true →
    s.tide.active ≠ n ∧ s.tide.staged ≠ n ∨ s.descOk (s.slot n).program = true →
    ∃ u, exec (.slotCheck ses n) s = .next u ∧ (u.slot n).st = .loaded ∧ u.fm = s.fm) ∧
  (∀ s ses n, s.running = true → ses < Config.sessions → 24 ≤ n → n < Config.slots → (s.slot n).st = .loading →
    containerOk (s.slot n).image = true → s.tide.active = n ∨ s.tide.staged = n → s.descOk (s.slot n).program = false →
    ∃ u, exec (.slotCheck ses n) s = .next u ∧ u.raised 0x0606 noInst ∧
      (u.slot n).st = (if tideContainer (s.slot n).image = true then .refused else .loaded)) ∧
  (∀ s ses n, s.running = true → ses < Config.sessions → n < Config.slots → n < 24 ∨ (s.slot n).st ≠ .loaded →
    exec (.slotBind ses n) s = .next (s.violate ses (0x6100 + n) 0x02)) ∧
  (∀ s ses n, s.running = true → ses < Config.sessions → 24 ≤ n → n < Config.slots → (s.slot n).st = .loaded →
    s.place (s.region (s.slot n).program) (s.slot n).program.width (s.slot n).program.height = none ∨
      (s.writtenBinds n).all (bindingOk (s.slot n).program n) = false →
    exec (.slotBind ses n) s = .next (s.raise 0x090B n)) ∧
  (∀ s ses n first, s.running = true → ses < Config.sessions → 24 ≤ n → n < Config.slots → (s.slot n).st = .loaded →
    s.place (s.region (s.slot n).program) (s.slot n).program.width (s.slot n).program.height = some first →
    ((List.range ((s.slot n).program.width * (s.slot n).program.height)).all
      fun j => decide (coreWaits (s.slot n).program j ≤ 8)) = true →
    (s.writtenBinds n).all (bindingOk (s.slot n).program n) = true →
    (allocBlocks n (s.slot n).program.gates s).1.any (fun b => b.1 == 0) = false →
    ∃ u, exec (.slotBind ses n) s = .next u ∧ (u.slot n).st = .bound ∧ u.loop = s.loop ∧ u.phases = s.phases) ∧
  (∀ s ses n, s.running = true → ses < Config.sessions → 24 ≤ n → n < Config.slots →
    (s.slot n).st = .bound ∨ (s.slot n).st = .fault →
    ∃ u, exec (.slotUnbind ses n) s = .next u ∧ (u.slot n).st = .loaded ∧ u.loop.st = s.loop.st ∧
      u.phases = s.phases) ∧
  (∀ s ses n, s.running = true → ses < Config.sessions → n < Config.slots →
    n < 24 ∨ (s.slot n).st ≠ .bound ∧ (s.slot n).st ≠ .fault →
    exec (.slotUnbind ses n) s = .next (s.violate ses (0x6100 + n) 0x02)) ∧
  (∀ s ses n, s.running = true → ses < Config.sessions → n < Config.slots → (s.slot n).st ≠ .fault →
    exec (.slotRestart ses n) s = .next (s.violate ses (0x6100 + n) 0x02)) ∧
  (∀ s ses n r, s.running = true → ses < Config.sessions → n < Config.slots → (s.slot n).st = .fault →
    (s.slot n).rt = some r → r.cores.any (fun c => s.grid.failed.contains c) = false →
    exec (.slotRestart ses n) s = .next (restartSlot n s)) ∧
  (∀ s ses n, s.running = true → ses < Config.sessions → 24 ≤ n → n < Config.slots →
    (s.slot n).st = .loading ∨ (s.slot n).st = .loaded ∨ (s.slot n).st = .refused →
    ∃ u, exec (.slotClear ses n) s = .next u ∧ (u.slot n).st = .empty ∧ (u.slot n).blocks = [] ∧ u.loop = s.loop) ∧
  (∀ s ses n, s.running = true → ses < Config.sessions → n < Config.slots →
    n < 24 ∨ (s.slot n).st = .empty ∨ (s.slot n).st = .bound ∨ (s.slot n).st = .fault →
    exec (.slotClear ses n) s = .next (s.violate ses (0x6100 + n) 0x02)) ∧
  (∀ s n r, s.running = true → 24 ≤ n → n < Config.slots → (s.slot n).st = .bound → (s.slot n).rt = some r →
    r.stages.any (fun y => decide (16 ≤ y.run)) = true →
    ∃ u, exec (.slotFault n) s = .next u ∧ (u.slot n).st = .fault ∧ u.raised 0x090A n)

/-- Dry dock starts, replays, stops and clears. While dry dock runs, command 1 and command 3 are violations and
command 2 stops it; while it does not, command 2 is a violation, command 3 clears the results and keeps the
reference, a replay period changes nothing, and a start without its checkpoint raises 0F03h; a period past the
end completes the run. (12_grid_programs.md: Dry dock) -/
def Obligations.DryDock : Prop :=
  (∀ s ses, s.running = true → ses < Config.sessions → s.dock.st = .placing ∨ s.dock.st = .running →
    exec (.drydockStart ses) s = .next (s.violate ses 0x6A00 0x02) ∧
    exec (.drydockStop ses) s = .next { s with dock := { s.dock with st := .stopped } } ∧
    exec (.drydockClear ses) s = .next (s.violate ses 0x6A00 0x02)) ∧
  (∀ s ses, s.running = true → ses < Config.sessions → s.dock.st ≠ .placing → s.dock.st ≠ .running →
    exec (.drydockStop ses) s = .next (s.violate ses 0x6A00 0x02) ∧
    exec (.drydockClear ses) s = .next { s with dock := { Dock.reset with reference := s.dock.reference } } ∧
    exec .drydockReplayPeriod s = .next s) ∧
  (∀ s ses, s.running = true → ses < Config.sessions → s.dock.st ≠ .placing → s.dock.st ≠ .running →
    s.checkpointAt (s.cfgU 0x6A00 0x03) (s.cfgU 0x6A00 0x05) = none →
    exec (.drydockStart ses) s = .next (s.raise 0x0F03 noInst)) ∧
  (∀ s ses u w h ck first, s.running = true → ses < Config.sessions → s.dock.st ≠ .placing → s.dock.st ≠ .running →
    u = s.cfgU 0x6A00 0x03 → s.cfgU 0x6A00 0x04 = 0xFF → freeSlot u = false → fwRect u = some (w, h) →
    s.checkpointAt u (s.cfgU 0x6A00 0x05) = some ck → s.place s.userCores w h = some first →
    ∃ t, exec (.drydockStart ses) s = .next t ∧ t.dock.st = .placing ∧ t.dock.slot = u ∧
      t.dock.cores = rectCores first w h ∧ t.grid = s.grid ∧ t.loop = s.loop ∧ t.slots = s.slots) ∧
  (∀ s, s.running = true → s.dock.st = .running → tagGe s.dock.tag ((s.dock.end_ + 1) % 4294967296) = true →
    exec .drydockReplayPeriod s = .next { s with dock := { s.dock with st := .complete } })

/-- Offsets, holdover, steps, port states. An offset that both its events' hardware timestamps and the domain of
[1200.02] make a measurement, and whose path delay is within the limit, is a slave's latest measurement and ends
the run of discards; one that is not accepted, and a discard that is none, change nothing (log entry 74: a
measurement dropped for its timestamp or domain is neither); a discard short of the eighth in a row is only
counted, the eighth raises 1107h; a slave without an offset for the entry time is in HOLDOVER with 1102h, a port
that is no slave then in LOCAL (log entry 69), and before the entry time nothing changes; a step between whole
milliseconds waits, one that is due and allowed moves shelf time, one not allowed any longer is added to O; port
states that the best master decision does not give change nothing (log entry 74), a port that is no slave turns
HOLDOVER into LOCAL, and in every other state a change keeps the state; a port whose role sends a message, its
interval having passed, sends it with its sequence, a two-step Sync with its Follow_Up, one that is not due is
not sent, and one due in a pause of priority 7 waits. How a step below zero ends and what the servo does with
the offset is log entry 59. (13_clocks_and_time.md: Shelf time and its states, 14_network_port.md: PTP) -/
def Obligations.ClockServo : Prop :=
  (∀ s th dom d, s.running = true → s.ptpSlave = true → s.clk.st ≠ .following → dom = s.cfgU 0x1200 0x02 →
    d ≤ s.cfgU 0x1200 0x0C →
    ∃ u, exec (.ptpOffsetAccepted th ⟨true, dom, d⟩) s = .next u ∧ u.clk.theta = th ∧ u.clk.lastMeas = s.now ∧
      u.clk.pathDelay = d ∧ u.clk.discards = 0 ∧ u.now = s.now ∧ u.loop = s.loop) ∧
  (∀ s th st dom d, s.running = true → s.ptpSlave = false ∨ st = false ∨ dom ≠ s.cfgU 0x1200 0x02 →
    exec (.ptpOffsetAccepted th ⟨st, dom, d⟩) s = .next s ∧ exec (.ptpMeasurementDiscard ⟨st, dom, d⟩) s = .next s) ∧
  (∀ s th st dom d, s.running = true → s.clk.st = .following ∨ s.cfgU 0x1200 0x0C < d →
    exec (.ptpOffsetAccepted th ⟨st, dom, d⟩) s = .next s) ∧
  (∀ s st dom d, s.running = true → d ≤ s.cfgU 0x1200 0x0C → exec (.ptpMeasurementDiscard ⟨st, dom, d⟩) s = .next s) ∧
  (∀ s dom d, s.running = true → s.ptpSlave = true → dom = s.cfgU 0x1200 0x02 → s.cfgU 0x1200 0x0C < d →
    s.clk.discards < 7 →
    exec (.ptpMeasurementDiscard ⟨true, dom, d⟩) s =
      .next { s with clk := { s.clk with discards := s.clk.discards + 1 } }) ∧
  (∀ s dom d, s.running = true → s.ptpSlave = true → dom = s.cfgU 0x1200 0x02 → s.cfgU 0x1200 0x0C < d →
    s.clk.discards = 7 → s.clk.up1107 = false →
    exec (.ptpMeasurementDiscard ⟨true, dom, d⟩) s =
      .next (State.raise { s with clk := { s.clk with discards := 8, up1107 := true } } 0x1107 noInst)) ∧
  (∀ s, s.running = true → s.clk.st = .locked ∨ s.clk.st = .acquiring →
    s.clk.lastMeas + s.cfgU 0x0010 0x0A * ms ≤ s.now →
    exec .holdoverEntry s = .next (State.raise { s with clk := { s.clk with
      st := if s.ptpSlave then .holdover else .local_, freeAt := s.now
      bound := some (s.clk.bound.getD s.clk.theta.natAbs), bad := 0, good := 0 } } 0x1102 noInst)) ∧
  (∀ s, s.running = true → (s.clk.st ≠ .locked ∧ s.clk.st ≠ .acquiring) ∨
    s.now < s.clk.lastMeas + s.cfgU 0x0010 0x0A * ms → exec .holdoverEntry s = .next s) ∧
  (∀ s, s.running = true → s.now % ms ≠ 0 ∨ s.clk.st = .following → exec .shelfTimeStep s = .next s) ∧
  (∀ s, s.running = true → s.now % ms = 0 → s.clk.st ≠ .following → s.stepAllowed = false →
    exec .shelfTimeStep s = .next s.dropStep) ∧
  (∀ s d, s.running = true → s.now % ms = 0 → s.clk.st ≠ .following → s.stepAllowed = true →
    s.clk.pendingStep = some d →
    ∃ u, exec .shelfTimeStep s = .next u ∧ u.now = ((s.now : Int) + d).toNat ∧ u.clk.pendingStep = none ∧
      u.clk.steps = sat32 (s.clk.steps + 1) ∧ u.loop = s.loop ∧ u.od = s.od) ∧
  (∀ s a b, s.running = true → s.decides a b = false → exec (.ptpPortStateChange a b) s = .next s) ∧
  (∀ s a b, s.running = true → s.decides a b = true → s.clk.st = .holdover → a ≠ 9 →
    exec (.ptpPortStateChange a b) s = .next { s with clk := { s.clk with
      slaveState := a, masterState := b, st := .local_, bound := s.driftBound, freeAt := s.now } }) ∧
  (∀ s a b, s.running = true → s.decides a b = true → s.clk.st ≠ .holdover ∨ a = 9 →
    ∃ u, exec (.ptpPortStateChange a b) s = .next u ∧ u.clk.slaveState = a ∧ u.clk.masterState = b ∧
      u.clk.st = s.clk.st ∧ u.clk.bound = s.clk.bound ∧ u.loop = s.loop) ∧
  (∀ s, s.running = true → s.port.link = 2 → s.paused 7 = false → s.ptpDue .sync = true → s.hw.released = false →
    ∃ u, exec (.ptpMessageSend .sync) s = .next u ∧ u.clk.syncSeq = (s.clk.syncSeq + 1) % 65536 ∧
      u.clk.syncAt = some s.now ∧ u.tx.length = s.tx.length + (if s.cfgU 0x1200 0x04 = 1 then 2 else 1) ∧
      u.loop = s.loop) ∧
  (∀ s, s.running = true → s.port.link = 2 → s.paused 7 = false → s.ptpDue .announce = true →
    s.hw.released = false →
    ∃ u, exec (.ptpMessageSend .announce) s = .next u ∧ u.clk.announceSeq = (s.clk.announceSeq + 1) % 65536 ∧
      u.clk.announceAt = some s.now ∧ u.tx.length = s.tx.length + 1 ∧ u.loop = s.loop) ∧
  (∀ s, s.running = true → s.port.link = 2 → s.paused 7 = false → s.ptpDue .delayReq = true →
    s.hw.released = false →
    ∃ u, exec (.ptpMessageSend .delayReq) s = .next u ∧ u.clk.delaySeq = (s.clk.delaySeq + 1) % 65536 ∧
      u.clk.delayAt = some s.now ∧ u.tx.length = s.tx.length + 1 ∧ u.loop = s.loop) ∧
  (∀ s k, s.running = true → s.port.link ≠ 2 ∨ s.ptpDue k = false → exec (.ptpMessageSend k) s = .next s) ∧
  (∀ s k, s.running = true → s.port.link = 2 → s.ptpDue k = true → s.paused 7 = true →
    exec (.ptpMessageSend k) s = .next { s with
      clk := s.clk.setDue k s.now, port := { s.port with heldPtp := s.port.heldPtp ++ [.own k] } })

/-- Crystals, PLLs, the pair's TIME. A third second in a row beyond 200 ppm raises 1104h, any other one is only
counted, and a good one ends the run; a PLL of KEEPER, NET, MEM or TOW that loses lock raises 1105h, that of AON
nothing, one of EDGE or GRID asserts FAULT_OUT, raises trip 1106h and takes the loop out of every state but OFF
to TRIPPED; a standby, or a module that is UNSYNCED, takes shelf time within 2 ns of a TIME frame's and follows,
any other role keeps its own, and a frame with no link or another type changes nothing. The 2 ns are a free
value within R372's bound (log entry 59), and the frame's flags give PAIR_ROLE_IN and PAIR_FAULT_IN (log entry
47, DEDUCED). (13_clocks_and_time.md: Clock faults, 13_clocks_and_time.md: Shelf time and its states) -/
def Obligations.ClockFaults : Prop :=
  (∀ s x, s.running = true → 200 < absQ x → s.clk.crystalRun = 2 →
    exec (.crystalCheck x) s = .next (State.raise { s with clk := { s.clk with
      crystalDev := x, crystalRun := 3, crystalBad := true } } 0x1104 noInst)) ∧
  (∀ s x, s.running = true → 200 < absQ x → s.clk.crystalRun ≠ 2 →
    exec (.crystalCheck x) s = .next { s with clk := { s.clk with
      crystalDev := x, crystalRun := s.clk.crystalRun + 1 } }) ∧
  (∀ s x, s.running = true → absQ x ≤ 200 →
    exec (.crystalCheck x) s = .next { s with clk := { s.clk with crystalDev := x, crystalRun := 0 } }) ∧
  (∀ s i, s.running = true → i = .keeper ∨ i = .net ∨ i = .mem ∨ i = .tow →
    exec (.pllUnlock i) s = .next (State.raise { s with clk := { s.clk with
      pllLock := setBit s.clk.pllLock (islandNo i) false } } 0x1105 noInst)) ∧
  (∀ s i, s.running = true → i = .edge ∨ i = .grid →
    ∃ u, exec (.pllUnlock i) s = .next u ∧ u.fm.faultOut = true ∧ u.raised 0x1106 noInst ∧
      u.clk.pllLock = setBit s.clk.pllLock (islandNo i) false ∧
      (s.loop.st = .off → u.loop = s.loop) ∧ (s.loop.st ≠ .off → u.loop.st = .tripped)) ∧
  (∀ s, s.running = true → exec (.pllUnlock .aon) s = .next { s with clk := { s.clk with
      pllLock := setBit s.clk.pllLock (islandNo .aon) false } }) ∧
  (∀ s f m, s.running = true → 2 ≤ s.pair.link → parsePair f = some m → m.typ = 2 →
    s.pair.role = .standby ∨ s.pair.role = .unsynced → 2 ≤ m.time →
    ∃ u, exec (.pairTimeFrame f) s = .next u ∧ m.time ≤ u.now + 2 ∧ u.now ≤ m.time + 2 ∧ u.clk.st = .following ∧
      u.loop = s.loop) ∧
  (∀ s f m, s.running = true → 2 ≤ s.pair.link → parsePair f = some m → m.typ = 2 →
    s.pair.role ≠ .standby → s.pair.role ≠ .unsynced →
    exec (.pairTimeFrame f) s = .next { s with pair := { s.pair with
      roleIn := bit m.flags 0, faultIn := bit m.flags 1 } }) ∧
  (∀ s f m, s.running = true → parsePair f = some m → s.pair.link < 2 ∨ m.typ ≠ 2 →
    exec (.pairTimeFrame f) s = .next s)

/-- Frames of the pair link and the manifest. A frame on the link whose CRC fails is counted as missed and has no
other effect, and a frame without a link has none; a HELLO is the partner's role and version; the active module
sends a manifest with the next number, in 8 frames where a link is up, on a whole 100 µs, and none between, a
second time or in another role; a part of a manifest of a standby is collected, the eighth commits it when its
layout version is the module's own, and is refused when it is not: a standby is UNSYNCED with 0B0Bh; a frame of
a type in a role it does not serve leaves only PAIR_ROLE_IN and PAIR_FAULT_IN as its flags say (log entry 47,
DEDUCED); an ACK of an active module is its acknowledged number; a STORE of a storable value, of access RWS or
RWL, is the own one of a standby or an UNSYNCED module; a HANDOVER takes a standby to TAKING.
(17_redundant_pair.md: The pair link, 17_redundant_pair.md: The manifest) -/
def Obligations.PairFrames : Prop :=
  (∀ s f, s.running = true → 2 ≤ s.pair.link → parsePair f = none →
    exec (.pairHello f) s = .next { s with pair := { s.pair with missed := sat32 (s.pair.missed + 1) } } ∧
    exec (.manifestPart f) s = .next { s with pair := { s.pair with missed := sat32 (s.pair.missed + 1) } } ∧
    exec (.pairAck f) s = .next { s with pair := { s.pair with missed := sat32 (s.pair.missed + 1) } } ∧
    exec (.pairStore f) s = .next { s with pair := { s.pair with missed := sat32 (s.pair.missed + 1) } } ∧
    exec (.pairHandover f) s = .next { s with pair := { s.pair with missed := sat32 (s.pair.missed + 1) } }) ∧
  (∀ s f, s.running = true → s.pair.link < 2 → exec (.pairHello f) s = .next s ∧
    exec (.manifestPart f) s = .next s ∧ exec (.pairAck f) s = .next s ∧ exec (.pairStore f) s = .next s ∧
    exec (.pairHandover f) s = .next s) ∧
  (∀ s f m, s.running = true → 2 ≤ s.pair.link → parsePair f = some m → m.typ = 1 → s.pair.role ≠ .deciding →
    exec (.pairHello f) s = .next { s with pair := { s.pair with
      roleIn := bit m.flags 0, faultIn := bit m.flags 1, partnerRole := u8At m.payload 1
      partnerVer := u32At m.payload 4, partnerId := slice m.payload 16 32 } }) ∧
  (∀ s, s.running = true → s.pair.role = .active → s.now % 100000 = 0 → s.pair.number = 0 ∨ s.pair.lastAt ≠ s.now →
    ∃ u, exec .manifestSend s = .next u ∧ u.pair.number = (s.pair.number + 1) % 4294967296 ∧
      u.pair.sent = s.pair.sent + 1 ∧ u.pair.lastAt = s.now ∧ u.pair.lastNo = u.pair.number ∧
      (s.pair.link < 2 → u.tx = s.tx) ∧
      (2 ≤ s.pair.link → s.hw.released = false → u.tx.length = s.tx.length + 8 ∧
        ∀ i, i < 8 → ∃ data, Tx.pair (pairFrame 3 (b2n s.drives + 2 * b2n s.fm.faultOut)
          ((s.pair.txSeq + i) % 4294967296) s.now
          (wholeWords (le 4 u.pair.number ++ le 1 i ++ le 1 8 ++ le 2 0 ++ data))) ∈ u.tx) ∧
      u.loop = s.loop) ∧
  (∀ s, s.running = true → s.now % 100000 ≠ 0 ∨ s.pair.role ≠ .active ∨ (s.pair.number ≠ 0 ∧ s.pair.lastAt = s.now) →
    exec .manifestSend s = .next s) ∧
  (∀ s f m, s.running = true → 2 ≤ s.pair.link → parsePair f = some m → m.typ = 3 → s.pair.role = .standby →
    m.payload.length = 4104 → u8At m.payload 4 < 8 → u8At m.payload 5 = 8 → s.pair.parts = [] →
    ∃ u, exec (.manifestPart f) s = .next u ∧ u.pair.partsOf = u32At m.payload 0 ∧
      u.pair.parts = [(u8At m.payload 4, m.payload.drop 8)] ∧ u.loop = s.loop ∧ u.clk = s.clk) ∧
  (∀ s f m ps, s.running = true → 2 ≤ s.pair.link → parsePair f = some m → m.typ = 3 → s.pair.role = .standby →
    m.payload.length = 4104 → u8At m.payload 4 < 8 → u8At m.payload 5 = 8 → s.pair.partsOf = u32At m.payload 0 →
    Store.ins (u8At m.payload 4) (m.payload.drop 8) (Store.del s.pair.parts (u8At m.payload 4)) = ps → ps.length = 8 →
    u16At (ps.flatMap fun (e : Nat × Bytes) => e.2) 4 = s.sec.image.layout →
    ∃ u, exec (.manifestPart f) s = .next u ∧ u.pair.manifest = (ps.flatMap fun (e : Nat × Bytes) => e.2) ∧
      u.pair.lastNo = u32At m.payload 0 ∧ u.pair.committed = s.pair.committed + 1 ∧ u.pair.lastAt = s.now ∧
      (s.now ≤ manBoundary u.pair.manifest + 50000 → u.pair.missRun = 0) ∧
      (manBoundary u.pair.manifest + 50000 < s.now → u.pair.missRun = s.pair.missRun) ∧
      u.pair.parts = [] ∧ u.pair.role = .standby) ∧
  (∀ s f m ps, s.running = true → 2 ≤ s.pair.link → parsePair f = some m → m.typ = 3 → s.pair.role = .standby →
    m.payload.length = 4104 → u8At m.payload 4 < 8 → u8At m.payload 5 = 8 → s.pair.partsOf = u32At m.payload 0 →
    Store.ins (u8At m.payload 4) (m.payload.drop 8) (Store.del s.pair.parts (u8At m.payload 4)) = ps → ps.length = 8 →
    u16At (ps.flatMap fun (e : Nat × Bytes) => e.2) 4 ≠ s.sec.image.layout →
    ∃ u, exec (.manifestPart f) s = .next u ∧ u.pair.role = .unsynced ∧ u.pair.manifest = s.pair.manifest ∧
      u.pair.committed = s.pair.committed ∧ u.pair.parts = [] ∧ u.raised 0x0B0B noInst ∧ u.tx = s.tx) ∧
  (∀ s f m, s.running = true → 2 ≤ s.pair.link → parsePair f = some m →
    (m.typ = 3 → s.pair.role ≠ .standby ∧ s.pair.role ≠ .unsynced →
      exec (.manifestPart f) s = .next { s with pair := { s.pair with
        roleIn := bit m.flags 0, faultIn := bit m.flags 1 } }) ∧
    (m.typ = 4 → s.pair.role ≠ .active → exec (.pairAck f) s = .next { s with pair := { s.pair with
      roleIn := bit m.flags 0, faultIn := bit m.flags 1 } }) ∧
    (m.typ = 5 → s.pair.role ≠ .standby ∧ s.pair.role ≠ .unsynced →
      exec (.pairStore f) s = .next { s with pair := { s.pair with
        roleIn := bit m.flags 0, faultIn := bit m.flags 1 } }) ∧
    (m.typ = 6 → s.pair.role ≠ .standby → exec (.pairHandover f) s = .next { s with pair := { s.pair with
      roleIn := bit m.flags 0, faultIn := bit m.flags 1 } })) ∧
  (∀ s f m, s.running = true → 2 ≤ s.pair.link → parsePair f = some m → m.typ = 4 → s.pair.role = .active →
    ∃ u, exec (.pairAck f) s = .next u ∧ u.pair.acked = u32At m.payload 0 ∧ u.loop = s.loop ∧ u.clk = s.clk) ∧
  (∀ s f m r, s.running = true → 2 ≤ s.pair.link → parsePair f = some m → m.typ = 5 →
    s.pair.role = .standby ∨ s.pair.role = .unsynced →
    objRow (u16At m.payload 0) (u8At m.payload 2) = some r → r.acc = .rws ∨ r.acc = .rwl → r.len = u32At m.payload 4 →
    restorable (okey (u16At m.payload 0) (u8At m.payload 2)) = true →
    ∃ u, exec (.pairStore f) s = .next u ∧
      u.cfgU (u16At m.payload 0) (u8At m.payload 2) = ofLe (slice m.payload 8 (u32At m.payload 4)) ∧ u.loop = s.loop) ∧
  (∀ s f m, s.running = true → 2 ≤ s.pair.link → parsePair f = some m → m.typ = 6 → s.pair.role = .standby →
    ∃ u, exec (.pairHandover f) s = .next u ∧ u.pair.role = .taking ∧ u.pair.takeCause = 4 ∧ u.loop = s.loop)

/-- Roles of the pair, and accepting and discarding a layout. Without a pair link after 200 ms and with PAIR_ROLE_IN
low a deciding module is ACTIVE; the third manifest missed in a row with PAIR_ROLE_IN low, an asserted
PAIR_FAULT_IN, PAIR_ROLE_IN falling after three, and command 1 each take a standby to TAKING with their cause;
fewer missed manifests are only counted, and three with PAIR_ROLE_IN high raise 0B05h once; an UNSYNCED module
raises 0B09h at PAIR_FAULT_IN; commands 1 and 2 in another role are violations; a drill waits from command 2 of
an active module and ends unstarted after 10 s; a link that comes up raises 0B01h, that loses a lane 0B04h, that
goes down 0B02h; a self-test that finds nothing raises nothing. A pending layout that does not hold is a
violation with 0B06h; one that does waits as the next layout under a new transaction of kind 6; discarding it
leaves none written. A layout replaced while it waits, the counters that command clears and the self-test's
marks are log entry 58 (DEDUCED). (17_redundant_pair.md: Roles, 17_redundant_pair.md: The pair link,
17_redundant_pair.md: Hidden faults and the drill, 17_redundant_pair.md: The manifest, 17_redundant_pair.md:
Objects) -/
def Obligations.PairRoles : Prop :=
  (∀ s, s.running = true → s.pair.role = .deciding → s.pair.conflict = false → s.pair.since + 200 * ms ≤ s.now →
    s.pair.roleIn = false → s.pair.link < 2 →
    ∃ u, exec .pairDecideTimeout s = .next u ∧ u.pair.role = .active ∧ u.loop = s.loop) ∧
  (∀ s k, s.running = true → s.pair.role = .standby → s.pair.handover = none → s.pair.roleIn = false →
    s.pair.missRun = 2 → k = (s.now - 50000) / 100000 * 100000 → 50000 ≤ s.now → s.pair.since ≤ k → s.onTime k = false →
    s.pair.missAt ≠ some (k + 50000) →
    ∃ u, exec .manifestMissed s = .next u ∧ u.pair.role = .taking ∧ u.pair.takeCause = 3 ∧ u.pair.missRun = 3) ∧
  (∀ s k, s.running = true → s.pair.role = .standby → s.pair.handover = none →
    k = (s.now - 50000) / 100000 * 100000 → 50000 ≤ s.now → s.pair.since ≤ k → s.onTime k = false →
    s.pair.missAt ≠ some (k + 50000) → s.pair.missRun < 2 →
    exec .manifestMissed s = .next { s with pair := { s.pair with
      missed := sat32 (s.pair.missed + 1), missRun := s.pair.missRun + 1, missAt := some (k + 50000) } }) ∧
  (∀ s k, s.running = true → s.pair.role = .standby → s.pair.handover = none → s.pair.roleIn = true →
    k = (s.now - 50000) / 100000 * 100000 → 50000 ≤ s.now → s.pair.since ≤ k → s.onTime k = false →
    s.pair.missAt ≠ some (k + 50000) → 2 ≤ s.pair.missRun → s.pair.up5 = false →
    ∃ u, exec .manifestMissed s = .next u ∧ u.pair.role = .standby ∧ u.pair.up5 = true ∧ u.raised 0x0B05 noInst) ∧
  (∀ s, s.running = true → s.pair.role ≠ .standby → exec .manifestMissed s = .next s ∧
    exec .pairRoleInFall s = .next { s with pair := { s.pair with roleIn := false } }) ∧
  (∀ s, s.running = true → s.pair.role = .unsynced →
    ∃ u, exec .pairFaultInTrigger s = .next u ∧ u.pair.role = .unsynced ∧ u.pair.faultIn = true ∧
      u.raised 0x0B09 noInst) ∧
  (∀ s, s.running = true → s.pair.role = .standby →
    ∃ u, exec .pairFaultInTrigger s = .next u ∧ u.pair.role = .taking ∧ u.pair.takeCause = 1 ∧ u.pair.faultIn = true) ∧
  (∀ s, s.running = true → s.pair.role = .standby → s.pair.handover = none → 3 ≤ s.pair.missRun →
    ∃ u, exec .pairRoleInFall s = .next u ∧ u.pair.role = .taking ∧ u.pair.takeCause = 3 ∧ u.pair.roleIn = false) ∧
  (∀ s ses, s.running = true → ses < Config.sessions → s.pair.role = .standby →
    ∃ u, exec (.takeOverNow ses) s = .next u ∧ u.pair.role = .taking ∧ u.pair.takeCause = 2 ∧ u.sess = s.sess) ∧
  (∀ s ses, s.running = true → ses < Config.sessions → s.pair.role ≠ .standby →
    exec (.takeOverNow ses) s = .next (s.violate ses 0x8000 0x02)) ∧
  (∀ s ses, s.running = true → ses < Config.sessions → s.pair.role = .active → s.pair.drill = none →
    exec (.handoverDrill ses) s = .next { s with pair := { s.pair with drill := some s.now } }) ∧
  (∀ s ses, s.running = true → ses < Config.sessions → s.pair.role ≠ .active →
    exec (.handoverDrill ses) s = .next (s.violate ses 0x8000 0x02)) ∧
  (∀ s a, s.running = true → s.pair.drill = some a → s.now < a + 10 * sec → exec .drillAbandon s = .next s) ∧
  (∀ s a, s.running = true → s.pair.drill = some a → a + 10 * sec ≤ s.now →
    exec .drillAbandon s = .next { s with pair := { s.pair with drill := none } }) ∧
  (∀ s ses, s.running = true → ses < Config.sessions →
    exec (.pairClearCounters ses) s = .next { s with pair := { s.pair with committed := 0, missed := 0 } }) ∧
  (∀ s, s.running = true → s.pair.link = 0 →
    ∃ u, exec .pairLinkUp s = .next u ∧ u.pair.link = 3 ∧ u.raised 0x0B01 noInst ∧ u.loop = s.loop) ∧
  (∀ s, s.running = true → s.pair.link = 3 →
    exec .pairLinkLaneLost s = .next (State.raise { s with pair := { s.pair with link := 2 } } 0x0B04 noInst)) ∧
  (∀ s, s.running = true → s.pair.link ≠ 0 →
    ∃ u, exec .pairLinkLost s = .next u ∧ u.pair.link = 0 ∧ u.raised 0x0B02 noInst ∧ u.loop = s.loop) ∧
  (∀ s, s.running = true → s.pair.role = .standby →
      max s.pair.since s.pair.selfTestAt + s.cfgU 0x8000 0x11 * sec ≤ s.now →
    exec (.standbySelfTest 0) s = .next { s with pair := { s.pair with selfTestAt := s.now } }) ∧
  (∀ s ses q, s.running = true → ses < Config.sessions → layoutOk (pendingLayout s) = false →
    exec (.layoutCommit ses q) s = .next ((s.violate ses 0x8100 0x04).raise 0x0B06 noInst)) ∧
  (∀ s ses q, s.running = true → ses < Config.sessions → layoutOk (pendingLayout s) = true → s.openTxns < 32 →
    s.pair.layoutTxn = 0 →
    ∃ u, exec (.layoutCommit ses q) s = .next u ∧ u.pair.next = some (pendingLayout s) ∧
      u.pair.layoutTxn = s.txn.highest + 1 ∧ u.loop = s.loop) ∧
  (∀ s ses, s.running = true → ses < Config.sessions →
    exec (.layoutDiscard ses) s = .next (s.setCfg 0x8100 0x02 0))

/-- A takeover is carried out once, and completed; a drill. In TAKING a takeover that has not been carried out is,
with 0B03h, and in any other role or again it is not: from the committed manifest it takes the excluded
readings, the layout, the governor's epoch with the governor in BLIND, P_ref, and an empty active list and
queue, sets the forecaster WARMING, leaves FOLLOWING, starts the loop in SOFT, presets the phase integrators of
every linked tray with every EDGE command due, and sends both COMMAND frames (R476); once EDGE has gone to every
linked tray the module is ACTIVE, and not before; a drill whose conditions hold starts at a whole 100 µs and
leaves a STANDBY that is no shelf, and waits otherwise; a partner silent for 3 ms makes it TAKING again with
0B07h, one that has asserted its role ends the drill in STANDBY, and before 3 ms nothing changes. The takeover
without a manifest and the resumption only with PAIR_ROLE_IN low are log entry 58 (DEDUCED).
(17_redundant_pair.md: Takeover, 17_redundant_pair.md: Hidden faults and the drill) -/
def Obligations.Takeovers : Prop :=
  (∀ s, s.running = true → s.pair.role ≠ .taking ∨ s.pair.loaded = true → exec .takeover s = .next s) ∧
  (∀ s, s.running = true → s.pair.role = .taking → s.pair.loaded = false → s.pair.manifest = [] →
    ∃ u, exec .takeover s = .next u ∧ u.raised 0x0B03 noInst ∧ u.pair.loaded = true ∧ u.loop.st = .soft ∧
      u.hw = s.hw ∧ u.od = s.od) ∧
  (∀ s m, s.running = true → s.pair.role = .taking → s.pair.loaded = false → s.pair.manifest = m → m ≠ [] →
    ∃ u, exec .takeover s = .next u ∧ u.raised 0x0B03 noInst ∧ u.pair.loaded = true ∧ u.pair.role = .taking ∧
      u.pair.layout = manLayout m ∧ u.loop.st = .soft ∧ u.loop.entry = true ∧ u.loop.excluded = bitsOf 16 (u16At m 66) ∧
      u.gov.st = .blind ∧ u.gov.epoch = u32At m 4928 ∧ u.feed.pRef = f32At m 2240 ∧ u.tide.st = .warming ∧
      u.clk.st ≠ .following ∧ u.fm.active = [] ∧ u.fm.queue = [] ∧ u.hw = s.hw ∧ u.od.values = s.od.values ∧
      (∀ t, t < Config.trays → t < s.links.length → (s.link t).up = true → (u.tp t).x = 0 ∧ (u.tp t).blend = 16 ∧
        ∀ x ∈ u.phs t, x.cmd = none ∧ x.b = 0 ∧ x.held = x.i) ∧
      (s.fm.faultOut = false → s.hw.released = false → ∀ g, g < 2 → ∃ d, Tx.can g 128 d ∈ u.tx)) ∧
  (∀ s, s.running = true → s.pair.role = .taking → s.pair.loaded = true →
    ((List.range Config.trays).all fun t => !(s.link t).up || s.pair.edged.contains t) = true →
    ∃ u, exec .takeoverComplete s = .next u ∧ u.pair.role = .active ∧ u.pair.missRun = 0 ∧ u.loop = s.loop ∧
      u.phases = s.phases) ∧
  (∀ s, s.running = true → s.pair.role ≠ .taking ∨ s.pair.loaded = false ∨
    ((List.range Config.trays).all fun t => !(s.link t).up || s.pair.edged.contains t) = false →
    exec .takeoverComplete s = .next s) ∧
  (∀ s, s.running = true → s.pair.role ≠ .active ∨ s.pair.drill = none ∨ s.now % 100000 ≠ 0 ∨ drillReady s = false →
    exec .drillHandoverStart s = .next s) ∧
  (∀ s, s.running = true → s.pair.role = .active → s.pair.drill.isSome = true → s.now % 100000 = 0 →
    drillReady s = true →
    ∃ u, exec .drillHandoverStart s = .next u ∧ u.pair.role = .standby ∧ u.pair.handover = some s.now ∧
      u.port.shelf = false ∧ u.loop = s.loop) ∧
  (∀ s a, s.running = true → s.pair.handover = some a → s.pair.role = .standby → a + 3 * ms ≤ s.now →
    s.pair.roleIn = false →
    ∃ u, exec .drillFailed s = .next u ∧ u.pair.role = .taking ∧ u.raised 0x0B07 noInst ∧ u.trays = s.trays) ∧
  (∀ s a, s.running = true → s.pair.handover = some a → s.pair.role = .standby → a + 3 * ms ≤ s.now →
    s.pair.roleIn = true →
    ∃ u, exec .drillFailed s = .next u ∧ u.pair.role = .standby ∧ u.pair.handover = none ∧ u.loop.st = .off ∧
      u.clk.st = .following ∧ u.trays = s.trays) ∧
  (∀ s a, s.running = true → s.pair.handover = some a → s.pair.role ≠ .standby ∨ s.now < a + 3 * ms →
    exec .drillFailed s = .next s) ∧
  (∀ s, s.running = true → s.pair.handover = none → exec .drillFailed s = .next s)

/-- The capture ring. Command 1 starts a capture that is OFF with empty regions, 2 triggers one that captures and
counts as ignored in POST and FROZEN, 3 releases a frozen one with its marker, 4 stops it; each elsewhere is a
violation; POST past its time ends FROZEN with 1001h, and before it goes on. (13_clocks_and_time.md: The capture
ring) -/
def Obligations.CaptureCommands : Prop :=
  (∀ s ses, s.running = true → ses < Config.sessions → s.cap.st = .off →
    exec (.captureStart ses) s =
      .next { s with cap := { s.cap with st := .capturing, frames := [], records := [], recPos := 0 } } ∧
    exec (.captureFreeze ses) s = .next (s.violate ses 0x2300 0x02) ∧
    exec (.captureRelease ses) s = .next (s.violate ses 0x2300 0x02) ∧
    exec (.captureStop ses) s = .next (s.violate ses 0x2300 0x02)) ∧
  (∀ s ses, s.running = true → ses < Config.sessions → s.cap.st = .capturing →
    exec (.captureStart ses) s = .next (s.violate ses 0x2300 0x02) ∧
    exec (.captureFreeze ses) s = .next { s with cap := { s.cap with
      st := .post, postUntil := s.now + s.cfgU 0x2300 0x06 * ms, trigAt := s.now, trigCode := 0 } } ∧
    exec (.captureRelease ses) s = .next (s.violate ses 0x2300 0x02) ∧
    exec (.captureStop ses) s = .next { s with cap := { s.cap with st := .off } }) ∧
  (∀ s ses, s.running = true → ses < Config.sessions → s.cap.st = .post ∨ s.cap.st = .frozen →
    exec (.captureStart ses) s = .next (s.violate ses 0x2300 0x02) ∧
    exec (.captureFreeze ses) s = .next { s with cap := { s.cap with ignored := sat32 (s.cap.ignored + 1) } } ∧
    (s.cap.st = .post → exec (.captureRelease ses) s = .next (s.violate ses 0x2300 0x02)) ∧
    exec (.captureStop ses) s = .next { s with cap := { s.cap with st := .off } }) ∧
  (∀ s ses, s.running = true → ses < Config.sessions → s.cap.st = .frozen →
    ∃ u, exec (.captureRelease ses) s = .next u ∧ u.cap.st = .capturing ∧ u.cap.frames = s.cap.frames ∧
      u.cap.recPos = s.cap.recPos + (markerBytes s.now 3).length ∧ u.loop = s.loop ∧ u.fm = s.fm) ∧
  (∀ s, s.running = true → s.cap.st ≠ .post ∨ s.now < s.cap.postUntil → exec .capturePostExpiry s = .next s) ∧
  (∀ s, s.running = true → s.cap.st = .post → s.cap.postUntil ≤ s.now →
    ∃ u, exec .capturePostExpiry s = .next u ∧ u.cap.st = .frozen ∧ u.raised 0x1001 noInst ∧ u.loop = s.loop)

/-- Frames at the port, neighbours. With the link not up nothing arrives; a frame that fails its parsing counts, one
whose CRC fails counts there, one for other rows is left alone, and an accepted one counts as received and
touches no part of the power chain; an ARP request or a Neighbour Solicitation for an address of the module or
the shelf on a known VLAN is answered, while priority 0 is paused after the pause (the priority is the model's
choice: log entry 69), and a frame on another VLAN is not; a PTP message in another transport than the port's
does nothing, and none moves shelf time by itself. (14_network_port.md: Port modes, 14_network_port.md: Trasia
frames, 14_network_port.md: The basin) -/
def Obligations.PortFrames : Prop :=
  (∀ s f, s.serving 0 = true → s.port.link ≠ 2 →
    exec (.ethernetFrame f) s = .next s ∧ exec (.arpNdRequest f) s = .next s) ∧
  (∀ s f, s.serving 0 = true → s.port.link = 2 → judgeFrame s f = .dropped →
    exec (.ethernetFrame f) s = .next { s with port := { s.port with parseDrops := sat32 (s.port.parseDrops + 1) } }) ∧
  (∀ s f, s.serving 0 = true → s.port.link = 2 → judgeFrame s f = .crcFailed →
    ∃ u, exec (.ethernetFrame f) s = .next u ∧ u.port.crcFails = sat32 (s.port.crcFails + 1) ∧
      u.port.parseDrops = s.port.parseDrops ∧ u.loop = s.loop ∧ u.sess = s.sess) ∧
  (∀ s f, s.serving 0 = true → s.port.link = 2 → judgeFrame s f = .other → exec (.ethernetFrame f) s = .next s) ∧
  (∀ s f, s.serving 0 = true → s.vlanKnown (parseEth f).vlan = false → exec (.arpNdRequest f) s = .next s) ∧
  (∀ s f, s.serving 0 = true → s.port.link = 2 → s.vlanKnown (parseEth f).vlan = true → (parseEth f).etype = 0x86DD →
    u8At (parseEth f).body 6 = 58 → u8At (parseEth f).body 40 = 135 →
    s.answers6 (ofBe (slice (parseEth f).body 48 16)) (parseEth f).vlan = true → s.paused 0 = false →
    exec (.arpNdRequest f) s = .next (s.sendJ1 (.neighbour true false (ofBe (slice (parseEth f).body 48 16))))) ∧
  (∀ s f g, s.serving 0 = true → s.port.link = 2 → judgeFrame s f = .accepted g →
    ∃ u, exec (.ethernetFrame f) s = .next u ∧ u.port.framesIn = s.port.framesIn + 1 ∧ u.loop = s.loop ∧
      u.phases = s.phases ∧ u.trays = s.trays ∧
      u.od = s.od ∧ u.sec = s.sec) ∧
  (∀ s f, s.serving 0 = true → s.port.link = 2 → s.vlanKnown (parseEth f).vlan = true → (parseEth f).etype = 0x0806 →
    slice (parseEth f).body 0 8 = [0x00, 0x01, 0x08, 0x00, 0x06, 0x04, 0x00, 0x01] →
    s.answers4 (ofBe (slice (parseEth f).body 24 4)) = true → s.paused 0 = false →
    exec (.arpNdRequest f) s =
      .next (s.sendJ1 (.neighbour false false (ofBe (slice (parseEth f).body 24 4))))) ∧
  (∀ s f, s.serving 0 = true → s.port.link = 2 → s.vlanKnown (parseEth f).vlan = true → (parseEth f).etype = 0x0806 →
    slice (parseEth f).body 0 8 = [0x00, 0x01, 0x08, 0x00, 0x06, 0x04, 0x00, 0x01] →
    s.answers4 (ofBe (slice (parseEth f).body 24 4)) = true → s.paused 0 = true →
    exec (.arpNdRequest f) s = .next { s with port := { s.port with
      heldNear := s.port.heldNear ++ [⟨false, false, ofBe (slice (parseEth f).body 24 4)⟩] } }) ∧
  (∀ s f v t p, s.serving 0 = true → s.port.link = 2 → judgeFrame s f = .ptp v t p →
    ∃ u, exec (.ethernetFrame f) s = .next u ∧ (t ≠ s.cfgU 0x1200 0x03 → u = s) ∧ u.loop = s.loop ∧
      u.phases = s.phases ∧ u.trays = s.trays ∧ u.od = s.od ∧ u.sess = s.sess ∧ u.clk.theta = s.clk.theta)

/-- Link, pauses, counters, sessions. A link that comes up with the lanes the mode of its training has is up and
counted, with fewer (8, 4 and 2 are the lane counts) raises 1202h, and one that is lost ends what waits and
every pause and raises 1201h; a pause is repeated after 20 µs above the low mark, ends at it, raises 1203h once
past 1 ms, and a grant priority paused too long raises 1206h; a PFC frame is taken only while the link is up,
and pauses each priority it names for the quanta it states; a retrain takes the link to training in the mode
selected then, and PTP that was LOCKED or ACQUIRING begins acquisition; the clear commands clear their counters
and a session reset its session, that of a session the module has not is a violation. That a retrain takes only
LOCKED back to ACQUIRING, that held frames go with the link and how quanta round is log entry 61 (DEDUCED).
(14_network_port.md: Port modes, 14_network_port.md: The basin, 14_network_port.md: Objects) -/
def Obligations.PortState : Prop :=
  (∀ s n k, s.serving 0 = true → s.port.link ≠ 2 → k = (if s.port.link = 1 then s.port.mode else s.portMode) →
    n = modeLanes k → n = 8 ∨ n = 4 ∨ n = 2 →
    exec (.ethernetLinkChange true n) s = .next { s with port := { s.port with
      link := 2, lanes := n, mode := k, linkUps := sat32 (s.port.linkUps + 1) } }) ∧
  (∀ s n, s.serving 0 = true → s.port.link ≠ 2 →
    n < modeLanes (if s.port.link = 1 then s.port.mode else s.portMode) → n = 4 ∨ n = 2 →
    ∃ u, exec (.ethernetLinkChange true n) s = .next u ∧ u.port.link = 2 ∧ u.port.lanes = n ∧
      u.raised 0x1202 noInst) ∧
  (∀ s n, s.serving 0 = true → s.port.link = 2 →
    ∃ u, exec (.ethernetLinkChange false n) s = .next u ∧ u.port.link = 0 ∧ u.port.held = [] ∧ u.port.heldPtp = [] ∧
      u.port.heldNear = [] ∧ u.port.up1206 = false ∧
      (∀ p, u.paused p = false) ∧ u.raised 0x1201 noInst ∧ u.loop = s.loop) ∧
  (∀ s a, s.running = true → s.port.pauseSince = some a → s.cfgU 0x1300 0x04 < s.basin →
      s.port.pauseAt + 20000 ≤ s.now →
    ∃ u, exec .pfcPauseRepeat s = .next u ∧ u.port.pauseAt = s.now ∧ u.port.pauseSince = some a ∧ u.loop = s.loop) ∧
  (∀ s a, s.running = true → s.port.pauseSince = some a → s.basin ≤ s.cfgU 0x1300 0x04 →
    ∃ u, exec .pfcPauseRelease s = .next u ∧ u.port.pauseSince = none ∧
      u.port.paused = s.port.paused + (s.now - s.port.countFrom) ∧ u.loop = s.loop) ∧
  (∀ s a, s.running = true → s.port.pauseSince = some a → a + ms < s.now → s.port.up1203 = false →
    exec .pfcPauseLong s = .next (State.raise { s with port := { s.port with up1203 := true } } 0x1203 noInst)) ∧
  (∀ s, s.running = true → s.grantPaused = true → s.port.up1206 = false →
    exec .grantPauseLong s = .next (State.raise { s with port := { s.port with up1206 := true } } 0x1206 noInst)) ∧
  (∀ s f, s.running = true → s.port.link ≠ 2 → exec (.pfcReceived f) s = .next s) ∧
  (∀ s f, s.running = true → s.port.link = 2 → ofBe (slice f 12 2) = 0x8808 →
    ofBe (slice (f.drop 14) 0 2) = 0x0101 → 20 ≤ (f.drop 14).length →
    s.port.pfcGot.length = 8 → s.port.pauseUntil.length = 8 →
    ∃ u, exec (.pfcReceived f) s = .next u ∧ (∀ p, p < 8 →
      (bit (ofBe (slice (f.drop 14) 2 2)) p = true →
        get 0 u.port.pfcGot p = sat32 (get 0 s.port.pfcGot p + 1) ∧
        get 0 u.port.pauseUntil p =
          s.now + quantaTime s.port.lanes (ofBe (slice (f.drop 14) (4 + 2 * p) 2))) ∧
      (bit (ofBe (slice (f.drop 14) 2 2)) p = false → get 0 u.port.pfcGot p = get 0 s.port.pfcGot p ∧
        get 0 u.port.pauseUntil p = get 0 s.port.pauseUntil p)) ∧ u.loop = s.loop ∧ u.od = s.od ∧ u.phases = s.phases) ∧
  (∀ s ses, s.running = true → ses < Config.sessions → s.clk.st ≠ .locked → s.clk.st ≠ .acquiring → s.port.link = 2 →
    ∃ u, exec (.portRetrain ses) s = .next u ∧ u.port.link = 1 ∧ u.port.mode = s.portMode ∧ u.clk = s.clk ∧
      u.loop = s.loop) ∧
  (∀ s ses, s.running = true → ses < Config.sessions → s.clk.st = .locked ∨ s.clk.st = .acquiring → s.port.link = 2 →
    ∃ u, exec (.portRetrain ses) s = .next u ∧ u.port.link = 1 ∧ u.port.mode = s.portMode ∧ u.clk.st = .acquiring ∧
      u.clk.good = 0 ∧ u.raised 0x1201 noInst ∧
      u.loop = s.loop) ∧
  (∀ s ses n, s.running = true → ses < Config.sessions → Config.sessions ≤ n →
    exec (.sessionReset ses n) s = .next (s.violate ses (0x1100 + n) 0x07)) ∧
  (∀ s ses, s.running = true → ses < Config.sessions →
    exec (.portClearCounters ses) s =
      .next { s with port := { s.port with framesIn := 0, parseDrops := 0, crcFails := 0 } } ∧
    exec (.flowClearCounters ses) s = .next { s with port := { s.port with
      pfcSent := 0, paused := 0, pfcGot := List.replicate 8 0, keeperDrops := 0, countFrom := s.now } }) ∧
  (∀ s ses n, s.running = true → ses < Config.sessions → n < Config.sessions →
    exec (.sessionReset ses n) s = .next (s.updSess n fun x => { x with
      lastSeq := none, kept := none, viol := 0, violObj := 0, stale := 0, outSeq := 0, streams := [] }))

/-- Trasia requests: new, repeated, old, malformed, of a closed session. A frame that parses as an operation of an
enabled session, well formed and with a new sequence number, is carried out with the session's last number noted
and no reply kept: a READ with the right replies with the words read, a WRITE writes its words in order and
replies, and READ_BLOCK, WRITE_BLOCK, SUBSCRIBE, SCHEDULE, SIGNED_WRITE and QUOTE have their effects (a write of
impedance entries is answered when its transaction has closed, SCHEDULE counts from the frame's arrival, a QUOTE
that wants no reply has none, and one beyond four that wait is dropped with 0E03h); one that is not permitted is
a violation naming the operation; a READ_BLOCK of no bytes or beyond the limit is a violation answered with
zeros; a repeated number has the kept reply sent again, an older one is counted, a malformed body is a violation
naming the operation, and a session that is not enabled takes nothing. Every frame leaves the waiting commands
as they were. What a malformed body is, the limits of quotes, a SUBSCRIBE that is invalid, a scalar WRITE_BLOCK
and the late answer of an impedance write are log entry 63 (DEDUCED). (14_network_port.md: Trasia frames,
15_object_dictionary.md: Access, 15_object_dictionary.md: Range and violations) -/
def Obligations.RequestsTaken : Prop :=
  (∀ s f m, parseTrasia f = some m → s.serving m.ses = true → m.ses < Config.sessions →
    s.cfgU (0x1100 + m.ses) 0x01 = 1 → m.malformed = false →
      judgeSeq ((dequeue f s).session m.ses).lastSeq m.seq = .new →
    let w := (dequeue f s).updSess m.ses (fun x => { x with lastSeq := some m.seq, kept := none })
    (m.op = 1 → w.permits m = true → exec (.read f) s = .next (reply m (readWords m.ses m.payload m.count w).1
      (readWords m.ses m.payload m.count w).2)) ∧
    (m.op = 2 → w.permits m = true → exec (.write f) s =
      .next { reply m [] (writeWords none m.ses m.payload m.count w) with pending := s.pending }) ∧
    (m.op = 2 → w.permits m = false → exec (.write f) s =
      .next (reply m [] (w.violateOp m.ses 2))) ∧
    (m.op = 3 → w.permits m = true → 0 < u32At m.payload 8 → u32At m.payload 8 ≤ w.blockLimit →
      exec (.readBlock f) s = .next (reply m (m.payload.take 12 ++
        (blockRead m.ses (u16At m.payload 0) (u8At m.payload 2) (u32At m.payload 4) (u32At m.payload 8) w).1)
        (blockRead m.ses (u16At m.payload 0) (u8At m.payload 2) (u32At m.payload 4) (u32At m.payload 8) w).2)) ∧
    (m.op = 3 → w.permits m = true → u32At m.payload 8 = 0 ∨ w.blockLimit < u32At m.payload 8 →
      exec (.readBlock f) s = .next (reply m (m.payload.take 12 ++
        List.replicate (min (u32At m.payload 8) w.blockLimit) 0)
        (w.violate m.ses (u16At m.payload 0) (u8At m.payload 2)))) ∧
    (m.op = 4 → w.permits m = true → opensLate w (writeBlockBody none m.ses m.payload w) = false →
      exec (.writeBlock f) s =
      .next { reply m [] (writeBlockBody none m.ses m.payload w) with pending := s.pending }) ∧
    (m.op = 4 → w.permits m = true → opensLate w (writeBlockBody none m.ses m.payload w) = true →
      ∃ u, exec (.writeBlock f) s = .next u ∧ u.txn = (writeBlockBody none m.ses m.payload w).txn ∧
        u.tx = (writeBlockBody none m.ses m.payload w).tx) ∧
    (m.op = 7 → w.permits m = true →
      exec (.schedule f) s = .next (reply m [] (scheduleBody (s.arrivalOf f) m w))) ∧
    (w.permits m = false → (m.op = 1 → exec (.read f) s = .next (w.violateOp m.ses 1)) ∧
      (m.op = 3 → exec (.readBlock f) s = .next (w.violateOp m.ses 3)) ∧
      (m.op = 4 → exec (.writeBlock f) s = .next (reply m [] (w.violateOp m.ses 4))) ∧
      (m.op = 5 → exec (.subscribe f) s = .next (reply m [] (w.violateOp m.ses 5))) ∧
      (m.op = 7 → exec (.schedule f) s = .next (reply m [] (w.violateOp m.ses 7))) ∧
      (m.op = 8 → exec (.signedWrite f) s = .next (w.violateOp m.ses 8)) ∧
      (m.op = 9 → exec (.quote f) s = .next (w.violateOp m.ses 9))) ∧
    (m.op = 9 → w.permits m = true → bit m.flags 1 = true → exec (.quote f) s = .next w) ∧
    (m.op = 9 → w.permits m = true → bit m.flags 1 = false → 4 ≤ w.quotesWaiting → exec (.quote f) s =
      .next (State.raise { w with sec := { w.sec with quoteDrops := sat32 (w.sec.quoteDrops + 1) } } 0x0E03 noInst)) ∧
    (m.op = 5 → w.permits m = true → exec (.subscribe f) s =
      .next (reply m [] (subscribeBody m w))) ∧
    (m.op = 8 → w.permits m = true → exec (.signedWrite f) s = .next (signedPart m w)) ∧
    (m.op = 9 → w.permits m = true → bit m.flags 1 = false → w.quotesWaiting < 4 →
      exec (.quote f) s = .next { w with
        sec := { w.sec with quotes := w.sec.quotes ++ [(m.ses, m.seq, m.payload.take 32, s.now)] } })) ∧
  (∀ s f m, parseTrasia f = some m → m.op = 1 → s.serving m.ses = true → m.ses < Config.sessions →
    s.cfgU (0x1100 + m.ses) 0x01 = 1 → m.malformed = false →
    judgeSeq ((dequeue f s).session m.ses).lastSeq m.seq = .duplicate →
    exec (.read f) s = .next (resendKept m (dequeue f s))) ∧
  (∀ s f m, parseTrasia f = some m → m.op = 2 → s.serving m.ses = true → m.ses < Config.sessions →
    s.cfgU (0x1100 + m.ses) 0x01 = 1 → m.malformed = false →
    judgeSeq ((dequeue f s).session m.ses).lastSeq m.seq = .stale →
    ∃ u, exec (.write f) s = .next u ∧ u.od = s.od ∧ u.loop = s.loop ∧ u.trays = s.trays ∧ u.tx = s.tx ∧
      u.sess = upd s.sess m.ses (fun x => { x with stale := sat32 (x.stale + 1) })) ∧
  (∀ s f m, parseTrasia f = some m → m.op = 1 → s.serving m.ses = true → m.ses < Config.sessions →
    s.cfgU (0x1100 + m.ses) 0x01 = 1 → m.malformed = true →
    exec (.read f) s = .next ((dequeue f s).violateOp m.ses 1)) ∧
  (∀ s f m, parseTrasia f = some m → m.op = 2 → s.cfgU (0x1100 + m.ses) 0x01 ≠ 1 →
    ∃ u, exec (.write f) s = .next u ∧ u.od = s.od ∧ u.sess = s.sess ∧ u.loop = s.loop ∧ u.tx = s.tx) ∧
  (∀ s f, parseTrasia f = none → exec (.schedule f) s = .next s)

/-- Streams, signed transfers, SCHEDULE. A stream whose instant has not come is not sent; one whose instant has come
notes it, with the link up or not; a number without a stream sends nothing; a transfer 1 s old is discarded as a
violation, a younger one kept; a complete transfer is verified: one that passes is applied, another is refused
with what the check found, and in a module that is no shelf it is dropped; with none complete nothing is done; a
SCHEDULE frame leaves the phases and the links as they were. (14_network_port.md: Trasia frames,
20_security_and_firmware.md: Signed writes, 07_tide_forecaster.md: SCHEDULE entries) -/
def Obligations.SessionClauses : Prop :=
  (∀ s ses i y, s.running = true → ses < Config.sessions → i < 16 →
    (s.session ses).streams.find? (fun y => y.i == i) = some y → s.streamDue y = false →
    exec (.streamInstance ses i) s = .next s) ∧
  (∀ s ses i y, s.running = true → ses < Config.sessions → i < 16 → s.port.link ≠ 2 →
    (s.session ses).streams.find? (fun y => y.i == i) = some y → s.streamDue y = true →
    exec (.streamInstance ses i) s = .next (s.updSess ses fun x => { x with
      streams := x.streams.map fun z => if z.i = i then { z with last := some s.now } else z })) ∧
  (∀ s ses i y, s.running = true → ses < Config.sessions → i < 16 → s.port.link = 2 →
    (s.session ses).streams.find? (fun y => y.i == i) = some y → s.streamDue y = true →
    ∃ u, exec (.streamInstance ses i) s = .next u ∧ (u.session ses).streams = (s.session ses).streams.map (fun z =>
      if z.i = i then { z with last := some s.now } else z) ∧ u.loop = s.loop ∧ u.od = s.od ∧ u.trays = s.trays) ∧
  (∀ s ses i, s.running = true → ses < Config.sessions → i < 16 →
    (s.session ses).streams.find? (fun y => y.i == i) = none → exec (.streamInstance ses i) s = .next s) ∧
  (∀ s ses, s.running = true → ses < Config.sessions → (s.session ses).transfer = none →
    exec (.signedTransferTimeout ses) s = .next s) ∧
  (∀ s ses x, s.running = true → ses < Config.sessions → (s.session ses).transfer = some x → x.since + sec ≤ s.now →
    exec (.signedTransferTimeout ses) s =
      .next ((s.updSess ses fun y => { y with transfer := none }).violateOp ses 8)) ∧
  (∀ s ses x, s.running = true → ses < Config.sessions → (s.session ses).transfer = some x → s.now < x.since + sec →
    exec (.signedTransferTimeout ses) s = .next s) ∧
  (∀ s ses b, s.running = true → ses < Config.sessions → (s.session ses).verify = some b →
    s.passive = false →
    let w := s.updSess ses fun y => { y with verify := none }
    ∃ u, exec (.signedWriteVerify ses) s = .next u ∧
      (signedResult ses b w = 1 → u = { signedApply ses b w with pending := s.pending }) ∧
      (signedResult ses b w ≠ 1 → u.raised 0x0E02 noInst ∧ u.sec.lastResult = signedResult ses b w ∧ u.od = s.od ∧
        u.loop = s.loop ∧ u.trays = s.trays ∧ u.sec.counter = s.sec.counter)) ∧
  (∀ s ses b, s.running = true → ses < Config.sessions → (s.session ses).verify = some b → s.passive = true →
    exec (.signedWriteVerify ses) s = .next (s.updSess ses fun y => { y with verify := none })) ∧
  (∀ s ses, s.running = true → ses < Config.sessions → (s.session ses).verify = none →
    exec (.signedWriteVerify ses) s = .next s) ∧
  (∀ s f, ∃ u, exec (.schedule f) s = .next u ∧ u.phases = s.phases ∧ u.links = s.links ∧ u.trays = s.trays ∧
    u.loop = s.loop ∧ u.od = s.od ∧ u.sec = s.sec)

/-- Staged images, keys, quotes. Command 1 marks a verified staged image and is a violation otherwise, command 2
discards the staged image, command 3 clears the count of dropped quotes; a block of no bytes or past the window
is a violation, and the first byte begins a new image; the root key is set once, by a session that may, with
0E06h, and by another, or again, or of another length not; a quote waiting is signed and leaves the queue; a
marked image begins to be written in STANDBY or where stepping is allowed, and waits otherwise, the image in
flash is invalid while it is, and when it is written the module resets; the network loader does the same, but
only where the ROM left it in charge of a marked valid image. The two steps of an installation, a first write
that begins an image anew and a length limit of a body are log entry 60 (DEDUCED). (20_security_and_firmware.md:
The firmware image, 20_security_and_firmware.md: Identity and measurements, 20_security_and_firmware.md: Signed
writes, 20_security_and_firmware.md: Updating the firmware) -/
def Obligations.SecurityCommands : Prop :=
  (∀ s ses, s.serving ses = true → ses < Config.sessions → s.sec.stagedSt = 2 →
    exec (.markInstall ses) s = .next { s with sec := { s.sec with stagedSt := 4 } }) ∧
  (∀ s ses, s.serving ses = true → ses < Config.sessions → s.sec.stagedSt ≠ 2 →
    exec (.markInstall ses) s = .next (s.violate ses 0xA000 0x02)) ∧
  (∀ s ses, s.running = true → ses < Config.sessions →
    exec (.discardStagedImage ses) s =
      .next { s with sec := { s.sec with stagedSt := 0, staged := [], stagedVer := 0 } } ∧
    exec (.securityClearCounters ses) s = .next { s with sec := { s.sec with quoteDrops := 0 } }) ∧
  (∀ s ses, s.serving ses = true → ses < Config.sessions →
    exec (.imageBlockWrite ses []) s = .next (s.violate ses 0xA000 0x10)) ∧
  (∀ s ses b, s.serving ses = true → ses < Config.sessions → s.cfgU 0xA000 0x0F = 0 → 0 < b.length → b.length < 8 →
    exec (.imageBlockWrite ses b) s =
      .next { s with sec := { s.sec with stagedSt := 1, staged := [(0, b)], stagedVer := 0 } }) ∧
  (∀ s ses k, s.running = true → ses < Config.sessions → k.length = 48 → s.noRootKey = true →
    bit (s.cfgU (0x1100 + ses) 0x06) 1 = true →
    ∃ u, exec (.rootKeySet ses k) s = .next u ∧ u.sec.rootKey = k ∧ u.raised 0x0E06 noInst ∧ u.loop = s.loop ∧
      u.phases = s.phases) ∧
  (∀ s ses k, s.running = true → ses < Config.sessions → s.noRootKey = false →
    exec (.rootKeySet ses k) s = .next (s.violate ses 0xA000 0x0A)) ∧
  (∀ s ses k, s.running = true → ses < Config.sessions →
    k.length ≠ 48 ∨ bit (s.cfgU (0x1100 + ses) 0x06) 1 = false →
    exec (.rootKeySet ses k) s = .next (s.violate ses 0xA000 0x0A)) ∧
  (∀ s q rest, s.serving 0 = true → s.sec.quotes = q :: rest →
    ∃ u, exec .quoteSigned s = .next u ∧ u.sec.quotes = rest ∧ u.sec.signed = sat32 (s.sec.signed + 1) ∧
      u.loop = s.loop ∧ u.od = s.od) ∧
  (∀ s, s.serving 0 = true → s.sec.quotes = [] → exec .quoteSigned s = .next s) ∧
  (∀ s ses b, s.serving ses = true → ses < Config.sessions → b ≠ [] → b.length ≤ 8192 → s.cfgU 0xA000 0x0F = 0 →
    ∃ u, exec (.imageBlockWrite ses b) s = .next u ∧ u.sec.staged = [(0, b)] ∧ u.sec.image = s.sec.image ∧
      u.loop = s.loop ∧ u.od = s.od ∧ u.phases = s.phases) ∧
  (∀ s, s.running = true → s.sec.installing = none →
    s.sec.stagedSt ≠ 4 ∨ (s.pair.role ≠ .standby ∧ s.stepAllowed = false) →
    exec .firmwareInstall s = .next s) ∧
  (∀ s, s.running = true → s.sec.installing = none → s.sec.stagedSt = 4 → s.pair.role = .standby ∨
      s.stepAllowed = true →
    exec .firmwareInstall s = .next { s with sec := { s.sec with
      image := { s.sec.image with magicOk := false }, installing := some (imageOf (joinPieces s.sec.staged)) } }) ∧
  (∀ s x, s.running = true → s.sec.installing = some x →
    ∃ u, exec .firmwareInstall s = .next u ∧ u.hw.phase = .rom ∧ u.od.resetCause = 4 ∧ u.sec.installed = true ∧
      u.sec.image = x ∧ u.sec.installing = none ∧ u.sec.minVer = s.sec.minVer ∧ u.loop = State.reset.loop) ∧
  (∀ s, s.hw.phase = .loader → s.sec.installing = none → s.sec.stagedSt = 4 →
    exec .networkLoader s = .next (if s.imageValid (imageOf (joinPieces s.sec.staged)) = true then
      { s with sec := { s.sec with
        image := { s.sec.image with magicOk := false }
        installing := some (imageOf (joinPieces s.sec.staged)) } } else s)) ∧
  (∀ s, s.hw.phase = .loader → s.sec.installing = none → s.sec.stagedSt ≠ 4 → exec .networkLoader s = .next s) ∧
  (∀ s x, s.hw.phase = .loader → s.sec.installing = some x →
    ∃ u, exec .networkLoader s = .next u ∧ u.hw.phase = .rom ∧ u.od.resetCause = 5 ∧ u.sec.loaderRan = true ∧
      u.sec.image = x ∧ u.sec.installing = none) ∧
  (∀ s, s.hw.phase ≠ .loader → exec .networkLoader s = .next s)

/-- Objects written, values stored, the module reset. A write to what is no object, to a read-only one, or out of
its range is a violation and nothing else; a plain object takes the value, an object with a rule of its own
follows it, a command object carries out its command, and a SEC object takes no plain write; 0 clears a highest
value; a pending value is stored, or its failure raises 0001h and is noted; one whose store has failed waits 10
s for its retry, and a retry of another does nothing; one that is not pending is left; commands 1 to 4 of
[0001.02] store what is pending, what fails waiting for its retry, mark and withdraw a restore, and reset the
module where the loop is OFF or the module stands by, the records that wait for flash written first and the
counters since power-up kept, else a violation; the copy of the one open transaction is the newest in flash, and
the copies of several touch the transactions alone. (15_object_dictionary.md: Access, 15_object_dictionary.md:
Range and violations, 15_object_dictionary.md: Defaults and stored values, 15_object_dictionary.md:
Transactions) -/
def Obligations.DictionaryCommands : Prop :=
  (∀ s ses i sub v, s.running = true → ses < Config.sessions → i < 65536 → sub < 256 → v < 2 ^ 64 →
    s.objectAt i sub = none → exec (.objectWrite ses i sub v) s = .next (s.violate ses i sub)) ∧
  (∀ s ses i sub v r, s.running = true → ses < Config.sessions → i < 65536 → sub < 256 → v < 2 ^ 64 →
    s.objectAt i sub = some r → r.acc = .ro ∨ s.inRange i sub r v = false →
    exec (.objectWrite ses i sub v) s = .next (s.violate ses i sub)) ∧
  (∀ s ses i sub v r, s.running = true → ses < Config.sessions → i < 65536 → sub < 256 → v < 2 ^ 64 →
    s.objectAt i sub = some r → r.acc = .rwl → s.inRange i sub r v = true → s.ownerIdle i = true →
    exec (.objectWrite ses i sub v) s = .next { putValue ses i sub r v s with pending := s.pending }) ∧
  (∀ s ses i sub v r, s.running = true → ses < Config.sessions → i < 65536 → sub < 256 → v < 2 ^ 64 →
    s.objectAt i sub = some r → s.inRange i sub r v = true →
    (r.acc = .rw ∨ r.acc = .rws → ownRule ses i sub v s = none →
      exec (.objectWrite ses i sub v) s = .next { putValue ses i sub r v s with pending := s.pending }) ∧
    (∀ w, r.acc = .rw ∨ r.acc = .rws → ownRule ses i sub v s = some w →
      exec (.objectWrite ses i sub v) s = .next { w with pending := s.pending }) ∧
    (r.acc = .wo → exec (.objectWrite ses i sub v) s = .next { command ses i sub v s with pending := s.pending }) ∧
    (r.acc = .sec → exec (.objectWrite ses i sub v) s = .next (s.violate ses i sub))) ∧
  (∀ s ses i sub v r, s.running = true → ses < Config.sessions → i < 65536 → sub < 256 → v < 2 ^ 64 →
    s.objectAt i sub = some r → r.acc = .rwl → s.ownerIdle i = false →
    exec (.objectWrite ses i sub v) s = .next (s.violate ses i sub)) ∧
  (∀ s ses, s.running = true → ses < Config.sessions →
    exec (.highestValueClear ses 0x2000 0x27 0) s = .next { s with loop := { s.loop with delayHigh := 0 } } ∧
    exec (.highestValueClear ses 0x4000 0x19 0) s = .next { s with tide := { s.tide with evalHigh := 0 } } ∧
    exec (.highestValueClear ses 0x1300 0x07 0) s = .next { s with port := { s.port with highest := 0 } }) ∧
  (∀ s ses i sub v, s.running = true → ses < Config.sessions → i < 65536 → sub < 256 → v < 2 ^ 64 →
    (isHighest i sub = true → v ≠ 0 → exec (.highestValueClear ses i sub v) s = .next s) ∧
    (isHighest i sub = false → exec (.highestValueClear ses i sub v) s = .next (s.violate ses i sub))) ∧
  (∀ s k e, s.running = true → s.od.stores.find? (fun e => e.1 == k) = some e →
    (∀ a, s.storeFailedAt k = some a → a < e.2) →
    exec (.storeToFlash k true) s = .next (storeKey k s) ∧
    exec (.storeToFlash k false) s = .next (State.raise { s with od := { s.od with
      storeFails := sat32 (s.od.storeFails + 1)
      storeFailed := (k, s.now) :: s.od.storeFailed.filter fun e => e.1 != k } } 0x0001 noInst)) ∧
  (∀ s k e a b, s.running = true → s.od.stores.find? (fun e => e.1 == k) = some e → s.storeFailedAt k = some a →
    e.2 ≤ a → exec (.storeToFlash k b) s = .next s) ∧
  (∀ s k a, s.running = true → s.od.stores.any (fun e => e.1 == k) = true → s.storeFailedAt k = some a →
    a + 10 * sec ≤ s.now →
    exec (.storeRetry k true) s = .next (storeKey k s) ∧
    exec (.storeRetry k false) s = .next (State.raise { s with od := { s.od with
      storeFails := sat32 (s.od.storeFails + 1)
      storeFailed := (k, s.now) :: s.od.storeFailed.filter fun e => e.1 != k } } 0x0001 noInst)) ∧
  (∀ s k b, s.running = true → (∀ a, s.storeFailedAt k = some a → s.now < a + 10 * sec) →
    exec (.storeRetry k b) s = .next s) ∧
  (∀ s k b, s.running = true → s.od.stores.any (fun e => e.1 == k) = false →
    exec (.storeToFlash k b) s = .next s ∧ exec (.storeRetry k b) s = .next s) ∧
  (∀ s ses, s.running = true → ses < Config.sessions →
    (∃ u, exec (.storePendingNow ses) s = .next u ∧ (∀ e ∈ u.od.stores, u.storeFailedAt e.1 = some s.now) ∧
      u.loop = s.loop ∧
      u.trays = s.trays ∧ u.sess = s.sess ∧ u.hw = s.hw) ∧
    exec (.markRestore ses) s = .next { s with od := { s.od with restoreMark := true } } ∧
    exec (.withdrawRestore ses) s = .next { s with od := { s.od with restoreMark := false } }) ∧
  (∀ s ses, s.running = true → ses < Config.sessions → s.loop.st = .off ∨ s.pair.role = .standby →
    ∃ u, exec (.moduleReset ses) s = .next u ∧ u.hw.phase = .rom ∧ u.od.resetCause = 1 ∧ u.od.flash = s.od.flash ∧
      u.sec.minVer = s.sec.minVer ∧ u.sec.revoked = s.sec.revoked ∧ (s.rcd.staged = [] → u.rcd.segs = s.rcd.segs) ∧
      u.rcd.staged = [] ∧ u.sec.refused = s.sec.refused ∧ u.sec.signed = s.sec.signed ∧ u.fm.raised = s.fm.raised ∧
      u.cal.flash = s.cal.flash ∧ u.loop = State.reset.loop) ∧
  (∀ s ses, s.running = true → ses < Config.sessions → s.loop.st ≠ .off → s.pair.role ≠ .standby →
    exec (.moduleReset ses) s = .next (s.violate ses 0x0001 0x02)) ∧
  (∀ s r, s.running = true → (s.txn.recs.filter fun x => x.st == 0) = [r] → s.txnById r.id = some r →
    exec .transactionCopy s = .next { s with txn := { s.txn with
      flash := dropOldest (s.txn.flash.filter fun x => x.id != r.id) ++ [r] } }) ∧
  (∀ s, s.running = true → ∃ u, exec .transactionCopy s = .next u ∧ u.od = s.od ∧ u.loop = s.loop ∧
    u.trays = s.trays ∧ u.sess = s.sess)

/-- From the boot ROM to firmware. In the boot ROM a valid image is started unless the pin holds it, and an image
that is not valid leaves the network loader in charge; after a loss of power PAIR_SLOT is read, low (A) or high
or open (B), and after another reset the position stays; out of the ROM BOOT does nothing. Starting, the
module's firmware runs, the count of cold starts goes up when the last reset was power, the values lost are not
among those held, nor, when a restore is marked, those it covers, no store is pending, with PAIR_ROLE_IN high it
is a STANDBY that follows; the one-time area and the key counters are as they were. Elsewhere MODULE_START does
nothing. (20_security_and_firmware.md: Boot, 15_object_dictionary.md: Defaults and stored values,
21_module_hardware.md: Auxiliary feeds and power) -/
def Obligations.ColdStart : Prop :=
  (∀ s, s.hw.phase = .rom → s.imageValid s.sec.image = true →
    ∀ slot, ∃ u, exec (.boot ⟨false, slot⟩) s = .next u ∧ u.hw.phase = .starting ∧ u.od = s.od ∧ u.loop = s.loop) ∧
  (∀ s b slot, s.hw.phase = .rom → s.imageValid s.sec.image = false →
    ∃ u, exec (.boot ⟨b, slot⟩) s = .next u ∧ u.hw.phase = .loader ∧ u.od = s.od ∧ u.sec.minVer = s.sec.minVer) ∧
  (∀ s slot, s.hw.phase = .rom → ∃ u, exec (.boot ⟨true, slot⟩) s = .next u ∧ u.hw.phase = .loader) ∧
  (∀ s b slot, s.hw.phase = .rom → ∃ u, exec (.boot ⟨b, slot⟩) s = .next u ∧ u.hw.released = s.hw.released ∧
    u.pair.position = (if s.od.resetCause = 0 then (if slot then 1 else 0) else s.pair.position)) ∧
  (∀ s b slot, s.hw.phase ≠ .rom → exec (.boot ⟨b, slot⟩) s = .next s) ∧
  (∀ s lost, s.hw.phase = .starting → s.od.restoreMark = false →
    ∃ u, exec (.moduleStart lost) s = .next u ∧ u.running = true ∧ u.od.restoreMark = false ∧ u.od.stores = [] ∧
      u.od.flash = s.od.flash.filter (fun e => !lost.contains e.1) ∧
      u.sec.minVer = s.sec.minVer ∧ u.sec.revoked = s.sec.revoked ∧ u.sec.counter = s.sec.counter ∧
      u.loop = s.loop ∧ u.phases = s.phases) ∧
  (∀ s lost, s.hw.phase = .starting →
    ∃ u, exec (.moduleStart lost) s = .next u ∧ u.running = true ∧ u.od.restoreMark = false ∧
      u.od.powerCycles = (s.od.powerCycles + (if s.od.resetCause = 0 then 1 else 0)) % 4294967296 ∧
      (∀ e ∈ u.od.values, lost.contains e.1 = false ∧ (s.od.restoreMark = true → restorable e.1 = false)) ∧
      (s.pair.roleIn = true → u.pair.role = .standby ∧ u.clk.st = .following) ∧
      (s.pair.roleIn = false → u.pair.role = s.pair.role)) ∧
  (∀ s lost, s.hw.phase ≠ .starting → exec (.moduleStart lost) s = .next s)

/-- Raises delivered, handlers ended, faults acknowledged. A code of no fault table is no raise (log entry 66); with
nothing running, queued or waiting, a raise starts its handler; one of a higher severity runs at once above the
one that runs, another joins the queue; one that the manager holds already is coalesced; a handler that ends
hands on to the stack's top or the queue's head; a handler that has taken more than 200 µs of processing is
counted once with 0007h; a condition that has gone takes a warning out of the active list and marks a fault that
is not acknowledged, and one that still holds changes nothing (0009h and 000Ah, whose conditions the
temperatures give); an acknowledgement marks its fault and, of one whose condition has gone, takes it out, and
an acknowledgement of what is not there is a violation; command 1 clears the counters; a watchdog not written
for 50 ms resets the module with cause 2, and one written since does not. (16_faults.md: The handling order,
16_faults.md: The active list, 16_faults.md: Fault-out) -/
def Obligations.FaultHandling : Prop :=
  (∀ s c i, s.running = true → c < 65536 → i < 65536 → sevTable.any (fun e => e.1 == c) = false →
    exec (.faultRaise c i) s = .next s) ∧
  (∀ s c i, s.running = true → c < 65536 → i < 65536 → sevTable.any (fun e => e.1 == c) = true →
    s.fm.running = none → s.fm.stack = [] → s.fm.queue = [] → s.fm.reserved = none →
    ∃ u r, exec (.faultRaise c i) s = .next u ∧ u.fm.running = some r ∧ r.code = c ∧ r.inst = i ∧ u.fm.queue = [] ∧
      u.fm.stack = [] ∧ u.loop = s.loop ∧ u.trays = s.trays ∧ u.phases = s.phases ∧ u.od = s.od) ∧
  (∀ s c i h, s.running = true → c < 65536 → i < 65536 → sevTable.any (fun e => e.1 == c) = true →
    s.fm.running = some h → h.sev < severity c → s.fm.stack = [] → s.fm.queue = [] → s.fm.reserved = none →
    ∃ u r, exec (.faultRaise c i) s = .next u ∧ u.fm.running = some r ∧ r.code = c ∧ r.inst = i ∧
      u.fm.stack = [{ h with used := s.handled h }] ∧ u.trays = s.trays) ∧
  (∀ s c i h, s.running = true → c < 65536 → i < 65536 → sevTable.any (fun e => e.1 == c) = true →
    s.fm.running = some h → severity c ≤ h.sev → h.code ≠ c ∨ h.inst ≠ i → s.fm.stack = [] → s.fm.queue = [] →
    s.fm.reserved = none →
    ∃ u r, exec (.faultRaise c i) s = .next u ∧ u.fm.running = some h ∧ u.fm.queue = [r] ∧ r.code = c ∧ r.inst = i ∧
      u.rcd = s.rcd ∧ u.fm.active = s.fm.active ∧ u.trays = s.trays) ∧
  (∀ s c i h, s.running = true → c < 65536 → i < 65536 → sevTable.any (fun e => e.1 == c) = true →
    s.fm.running = some h → h.code = c → h.inst = i →
    ∃ u h', exec (.faultRaise c i) s = .next u ∧ u.fm.running = some h' ∧ h'.code = c ∧ h'.inst = i ∧
      u.fm.coalesced = sat32 (s.fm.coalesced + 1) ∧ u.rcd = s.rcd ∧ u.trays = s.trays) ∧
  (∀ s, s.running = true → s.fm.running = none → exec .handlerEnd s = .next s ∧ exec .handlerOverrun s = .next s) ∧
  (∀ s r t rest, s.running = true → s.fm.running = some r → s.fm.stack = t :: rest → s.fm.queue = [] →
    s.fm.reserved = none →
    ∃ u, exec .handlerEnd s = .next u ∧ u.fm.running = some t ∧ u.fm.stack = rest ∧ u.fm.active = s.fm.active ∧
      u.rcd = s.rcd) ∧
  (∀ s r h rest, s.running = true → s.fm.running = some r → s.fm.stack = [] → s.fm.queue = h :: rest →
    s.fm.reserved = none →
    ∃ u, exec .handlerEnd s = .next u ∧ u.fm.running = some h ∧ u.fm.queue = rest ∧ u.fm.stack = []) ∧
  (∀ s r, s.running = true → s.fm.running = some r → r.overran = false → 200000 < s.handled r →
    exec .handlerOverrun s = .next (State.raise { s with fm := { s.fm with
      running := some { r with overran := true }, overruns := sat32 (s.fm.overruns + 1) } } 0x0007 noInst)) ∧
  (∀ s r, s.running = true → s.fm.running = some r → r.overran = true ∨ s.handled r ≤ 200000 →
    exec .handlerOverrun s = .next s) ∧
  (∀ s c i, s.running = true → s.conditionHolds c = true → exec (.faultConditionGone c i) s = .next s) ∧
  (∀ s c i, s.running = true → c < 65536 → i < 65536 → s.conditionHolds c = false →
    (∀ e ∈ s.fm.active, e.code = c → e.inst = i → e.sev = 2) →
    ∃ u, exec (.faultConditionGone c i) s = .next u ∧ u.activeOf c i = none ∧ u.fm.running = s.fm.running ∧
      u.fm.queue = s.fm.queue ∧ u.loop = s.loop) ∧
  (∀ s c i e, s.running = true → c < 65536 → i < 65536 → s.conditionHolds c = false → s.activeOf c i = some e →
    e.sev ≠ 2 → e.acked = false →
    ∃ u, exec (.faultConditionGone c i) s = .next u ∧ u.activeOf c i = some { e with gone := true } ∧
      u.fm.running = s.fm.running ∧ u.loop = s.loop) ∧
  (∀ s ses v e, s.running = true → ses < Config.sessions → v ≠ 0xFFFFFFFF →
    s.activeOf (v % 65536) (v / 65536) = some e → e.gone = false →
    ∃ u, exec (.faultAcknowledge ses v) s = .next u ∧
      u.activeOf (v % 65536) (v / 65536) = some { e with acked := true } ∧ u.sess = s.sess ∧ u.loop = s.loop) ∧
  (∀ s ses v, s.running = true → ses < Config.sessions → v ≠ 0xFFFFFFFF →
    s.activeOf (v % 65536) (v / 65536) ≠ none →
    (∀ e ∈ s.fm.active, e.code = v % 65536 → e.inst = v / 65536 → e.gone = true) →
    ∃ u, exec (.faultAcknowledge ses v) s = .next u ∧ u.activeOf (v % 65536) (v / 65536) = none ∧ u.sess = s.sess) ∧
  (∀ s ses v, s.running = true → ses < Config.sessions → v ≠ 0xFFFFFFFF → s.activeOf (v % 65536) (v / 65536) = none →
    exec (.faultAcknowledge ses v) s = .next (s.violate ses 0x7000 0x0F)) ∧
  (∀ s ses, s.running = true → ses < Config.sessions → (∀ e ∈ s.fm.active, e.gone = true) →
    exec (.faultAcknowledge ses 0xFFFFFFFF) s = .next { s with fm := { s.fm with active := [] } }) ∧
  (∀ s ses, s.running = true → ses < Config.sessions →
    exec (.faultsClearCounters ses) s = .next { s with fm := { s.fm with
      discards := 0, coalesced := 0, refusals := 0, overruns := 0, bySev := List.replicate 6 0 } }) ∧
  (∀ s c, s.running = true → s.now < get 0 s.fm.watchdog c + 50 * ms → exec (.watchdogExpiry c) s = .next s) ∧
  (∀ s c, s.running = true → c < 4 → get 0 s.fm.watchdog c + 50 * ms ≤ s.now →
    ∃ u, exec (.watchdogExpiry c) s = .next u ∧ u.hw.phase = .rom ∧ u.od.resetCause = 2 ∧ u.od.flash = s.od.flash ∧
      u.hw.recordWatchdog = some (c, get 0 s.fm.watchdog c) ∧ u.loop = State.reset.loop)

/-- Records staged, written, read and cleared. The oldest staged record is the next to reach flash, and one that
fails stays with 0C02h, to be tried again 10 ms later and not before; with none staged nothing is done; a rate
window that is over and suppressed nothing goes without a record; a window that is not over stays; a block read
of no bytes or beyond the limit is a violation answered with zeros, and one of bytes is answered, where the
outputs are not released, with as many bytes; clearing to a number below the last clear or above the newest
record is a violation, and any other (FFFFFFFFh is the newest) leaves no record at or below it to be read,
erases every segment but the one being filled that held nothing above it, and raises 0C01h; command 1 clears two
counters. (18_event_recorder.md: Writing, 18_event_recorder.md: Rate limiting, 18_event_recorder.md: Reading,
18_event_recorder.md: Clearing) -/
def Obligations.RecorderCommands : Prop :=
  (∀ s b rest, s.running = true → s.rcd.staged = b :: rest → s.rcd.segs.length < 511 →
    (s.rcd.failedAt = none → exec (.recordFlashWrite true) s =
      .next { s with rcd := { s.rcd with staged := rest, segs := appendRecord b s.rcd.segs } }) ∧
    (∀ a, s.rcd.failedAt = some a → a + 10 * ms ≤ s.now → exec (.recordFlashRetry true) s =
      .next { s with rcd := { s.rcd with staged := rest, segs := appendRecord b s.rcd.segs, failedAt := none } })) ∧
  (∀ s b rest, s.running = true → s.rcd.staged = b :: rest →
    (s.rcd.failedAt = none → exec (.recordFlashWrite false) s =
      .next (State.raise { s with rcd := { s.rcd with failedAt := some s.now } } 0x0C02 noInst)) ∧
    (∀ a, s.rcd.failedAt = some a → a + 10 * ms ≤ s.now → exec (.recordFlashRetry false) s =
      .next (State.raise { s with rcd := { s.rcd with failedAt := some s.now } } 0x0C02 noInst))) ∧
  (∀ s ok a, s.running = true → s.rcd.failedAt = some a →
    exec (.recordFlashWrite ok) s = .next s ∧ (s.now < a + 10 * ms → exec (.recordFlashRetry ok) s = .next s)) ∧
  (∀ s ok, s.running = true → s.rcd.failedAt = none → exec (.recordFlashRetry ok) s = .next s) ∧
  (∀ s ok, s.running = true → s.rcd.staged = [] →
    exec (.recordFlashWrite ok) s = .next s ∧ exec (.recordFlashRetry ok) s = .next s) ∧
  (∀ s c i w, s.running = true → c < 65536 → i < 65536 → s.rateWindow c i = some w → s.windowOver w = true →
    w.suppressed = 0 →
    exec (.rateWindowClose c i) s =
      .next { s with rcd := { s.rcd with windows := s.rcd.windows.filter fun v => v != w } }) ∧
  (∀ s c i w, s.running = true → s.rateWindow c i = some w → s.windowOver w = false →
    exec (.rateWindowClose c i) s = .next s) ∧
  (∀ s ses off n, s.running = true → ses < Config.sessions → s.blockLimit < n →
    exec (.recordBlockRead ses off n) s = .next ((s.violate ses 0x7200 0x06).send
      (.blockData ses 0x7200 0x06 (List.replicate s.blockLimit 0)))) ∧
  (∀ s ses off, s.running = true → ses < Config.sessions →
    exec (.recordBlockRead ses off 0) s = .next ((s.violate ses 0x7200 0x06).send (.blockData ses 0x7200 0x06 []))) ∧
  (∀ s ses off n, s.running = true → s.hw.released = false → ses < Config.sessions → 0 < n → n ≤ s.blockLimit →
    ∃ u, exec (.recordBlockRead ses off n) s = .next u ∧ u.rcd.segs = s.rcd.segs ∧ u.rcd.staged = s.rcd.staged ∧
      (∃ b, u.tx.getLast? = some (.blockData ses 0x7200 0x06 b) ∧ b.length = n) ∧ u.trays = s.trays) ∧
  (∀ s ses v w k, s.running = true → ses < Config.sessions →
    w = (if v = 0xFFFFFFFF then s.rcd.nextSeq - 1 else v) → w < s.rcd.clearMark ∨ s.rcd.nextSeq - 1 < w →
    exec (.recorderClear ses v k) s = .next (s.violate ses 0x7200 0x0F)) ∧
  (∀ s ses v w k, s.running = true → ses < Config.sessions →
    w = (if v = 0xFFFFFFFF then s.rcd.nextSeq - 1 else v) → s.rcd.clearMark ≤ w → w ≤ s.rcd.nextSeq - 1 →
    ∃ u, exec (.recorderClear ses v k) s = .next u ∧ u.rcd.clearMark = w ∧ u.raised 0x0C01 noInst ∧
      (∀ b ∈ u.heldRecords, w < u32At b 0) ∧ (∀ l ∈ u.rcd.segs.dropLast, ∃ b ∈ l, w < u32At b 0) ∧
          u.rcd.staged = s.rcd.staged ∧ u.loop = s.loop) ∧
  (∀ s ses, s.running = true → ses < Config.sessions →
    exec (.recorderClearCounters ses) s = .next { s with rcd := { s.rcd with suppressed := 0, lost := 0 } })

/-- Calibration entries written, measured, stored, locked. A block of no bytes or off its entries is a violation; a
scalar entry out of its range or place is one too, and a good one holds the value written, by hand, within no
band; the live routines take 0 to 3; a measurement of fewer than 1,024 samples waits, one of as many is used up,
one too noisy with no other effect and one whose window is over with its samples dropped, and a measurement
never touches the loop; equalising waits for its second and for RUN, its own loop's or, on a standby, that of
the manifest, and begins the next; live values are stored when asked, at the hour or in OFF, and not between;
command 4 clears the count of rejections. (19_calibration.md: Entries and their use, 19_calibration.md: Writing
the set, 19_calibration.md: Live routines) -/
def Obligations.CalibrationCommands : Prop :=
  (∀ s ses q o, s.running = true → ses < Config.sessions →
    exec (.calBlockWrite ses q o []) s = .next (s.violate ses 0x9000 0x0A)) ∧
  (∀ s ses q o d, s.running = true → ses < Config.sessions → d.length = 8 → o % 8 = 0 → o + 8 ≤ 8 * Config.calEntries →
    s.openTxns < 32 → ∃ u, exec (.calBlockWrite ses q o d) s = .next u ∧ u.sess = s.sess ∧ u.loop = s.loop ∧
      u.trays = s.trays ∧ u.txn.highest = u.cal.lastTxn) ∧
  (∀ s ses t sub v, s.running = true → ses < Config.sessions → t < Config.trays → 4 ≤ sub → sub ≤ 7 → v < 2 ^ 64 →
    calInRange (12 + sub) v = true →
    ∃ u, exec (.calEntryWrite ses t sub v) s = .next u ∧ (u.calEntry (68 * t + 12 + sub)).bits = v ∧
      (u.calEntry (68 * t + 12 + sub)).src = 1 ∧
      (u.calEntry (68 * t + 12 + sub)).locked = (s.calEntry (68 * t + 12 + sub)).locked ∧ u.sess = s.sess ∧
      u.loop = s.loop) ∧
  (∀ s ses t sub v, s.running = true → ses < Config.sessions → t < Config.trays → sub < 256 → v < 2 ^ 64 →
    sub < 4 ∨ 7 < sub ∨ calInRange (12 + sub) v = false →
    exec (.calEntryWrite ses t sub v) s = .next (s.violate ses (0x9100 + t) sub)) ∧
  (∀ s ses v, s.running = true → ses < Config.sessions → 3 < v →
    exec (.liveRoutinesWrite ses v) s = .next (s.violate ses 0x9000 0x03)) ∧
  (∀ s ses v, s.running = true → ses < Config.sessions → v ≤ 3 →
    ∃ u, exec (.liveRoutinesWrite ses v) s = .next u ∧ u.cfgU 0x9000 0x03 = v ∧ u.loop = s.loop ∧ u.phases = s.phases) ∧
  (∀ s t p, s.running = true → t < Config.trays → p < Config.phases → (s.ph t p).calN < 1024 →
    exec (.phaseOffsetMeasure t p) s = .next s) ∧
  (∀ s t p, s.running = true → t < Config.trays → p < Config.phases → 1024 ≤ (s.ph t p).calN →
    s.offsetOpen t p = false → ∃ u, exec (.phaseOffsetMeasure t p) s = .next u ∧ u.cal = s.cal ∧
      (u.ph t p).calN = 0 ∧ (u.ph t p).calSince = none) ∧
  (∀ s t, s.running = true → t < Config.trays → 1024 ≤ (s.link t).calN → dcWindow s t = false →
    ∃ u, exec (.dcLinkOffsetMeasure t) s = .next u ∧ u.cal = s.cal ∧ (u.link t).calN = 0 ∧
      (u.link t).calSince = none) ∧
  (∀ s t p, s.running = true → t < Config.trays → p < Config.phases → 1024 ≤ (s.ph t p).calN →
    s.offsetOpen t p = true → calAccepted (s.ph t p).calSum (s.ph t p).calSq = false →
    exec (.phaseOffsetMeasure t p) s =
      .next (s.updPh t p (fun x => { x with calN := 0, calSum := 0, calSq := 0 }))) ∧
  (∀ s t p, s.running = true → t < Config.trays → p < Config.phases → 1024 ≤ (s.ph t p).calN →
    ∃ u, exec (.phaseOffsetMeasure t p) s = .next u ∧ (u.ph t p).calN = 0 ∧ u.loop = s.loop ∧ u.trays = s.trays) ∧
  (∀ s t, s.running = true → t < Config.trays → (s.link t).calN < 1024 → exec (.dcLinkOffsetMeasure t) s = .next s) ∧
  (∀ s t, s.running = true → t < Config.trays → 1024 ≤ (s.link t).calN →
    ∃ u, exec (.dcLinkOffsetMeasure t) s = .next u ∧ (u.link t).calN = 0 ∧ u.phases = s.phases ∧ u.loop = s.loop) ∧
  (∀ s a, s.running = true → s.cal.eqSince = some a → s.now < a + sec → exec .busVoltageEqualise s = .next s) ∧
  (∀ s a, s.running = true → s.cal.eqSince = some a → a + sec ≤ s.now → s.shelfRun = true → s.loop.nValid < 4 →
    exec .busVoltageEqualise s = .next (startSecond s)) ∧
  (∀ s, s.running = true → s.cal.eqSince = none ∨ s.shelfRun = false → exec .busVoltageEqualise s = .next s) ∧
  (∀ s a, s.running = true → s.cal.eqSince = some a → a + sec ≤ s.now → s.shelfRun = true →
    ∃ u, exec .busVoltageEqualise s = .next u ∧ u.cal.eqSince = some s.now ∧ u.loop = s.loop ∧ u.trays = s.trays) ∧
  (∀ s ses, s.running = true → ses < Config.sessions → s.cal.dirty = false → exec (.calStoreNow ses) s = .next s) ∧
  (∀ s, s.running = true → s.loop.st ≠ .off → s.now / hour ≤ s.cal.storeFrom / hour →
    exec .calLiveStore s = .next s) ∧
  (∀ s ses, s.running = true → ses < Config.sessions → s.cal.dirty = true →
    ∃ u, exec (.calStoreNow ses) s = .next u ∧ u.cal.dirty = false ∧ u.cal.lastStore = s.now ∧
      u.cal.entries = s.cal.entries ∧ u.loop = s.loop) ∧
  (∀ s, s.running = true → s.loop.st = .off ∨ s.cal.storeFrom / hour < s.now / hour →
      exec .calLiveStore s = .next (calStoreLive s)) ∧
  (∀ s ses e, s.running = true → ses < Config.sessions → e < Config.calEntries →
    (∃ u, exec (.calLockAll ses) s = .next u ∧ (u.calEntry e).locked = true ∧
      (u.calEntry e).bits = (s.calEntry e).bits ∧ u.loop = s.loop) ∧
    (∃ u, exec (.calUnlockAll ses) s = .next u ∧ (u.calEntry e).locked = false ∧
      (u.calEntry e).bits = (s.calEntry e).bits ∧ u.loop = s.loop)) ∧
  (∀ s ses, s.running = true → ses < Config.sessions →
    exec (.calClearCounters ses) s = .next { s with cal := { s.cal with rejected := 0 } })

/-- Power fail and restore, temperatures, J2. Two low readings of both auxiliary feeds run the power-fail sequence
and leave the module off with its flash as it was; fewer change nothing; a feed good for 100 ms by itself brings
an off module back to its boot ROM; above 95 °C junction 0009h is raised once, whatever the inlet holds; above
115 °C the module is shut down, and 60 s below 85 °C bring it back; J2 withdrawn makes boundary scan operable
and, while firmware runs, releases the outputs with 000Ch; an insertion is a start. (21_module_hardware.md:
Auxiliary feeds and power, 21_module_hardware.md: Thermal and environmental limits, 21_module_hardware.md:
Connectors) -/
def Obligations.PowerAndHeat : Prop :=
  (∀ s, 2 ≤ s.hw.lowCount → s.hw.phase ≠ .off →
    ∃ u, exec .powerFailStart s = .next u ∧ u.hw.phase = .off ∧ u.od.flash = s.od.flash ∧ u.rcd.staged = [] ∧
      u.cal.flash = s.cal.flash ∧ u.sec.minVer = s.sec.minVer ∧ u.hw.powerFail = some s.now) ∧
  (∀ s, s.hw.lowCount < 2 ∨ s.hw.phase = .off → exec .powerFailStart s = .next s) ∧
  (∀ s a, some a ∈ s.hw.feedGood → s.hw.phase = .off → s.hw.thermalOff = false → a + 100 * ms ≤ s.now →
    ∃ u, exec .powerRestore s = .next u ∧ u.hw.phase = .rom ∧ u.od.resetCause = 0 ∧ u.od.flash = s.od.flash ∧
      u.hw.withdrawn = false ∧ u.loop = State.reset.loop) ∧
  (∀ s, (∀ x ∈ s.hw.feedGood, s.now < x.getD s.now + 100 * ms) → exec .powerRestore s = .next s) ∧
  (∀ s j i, s.running = true → 95 < j → j ≤ 110 → s.hw.warnJ = false → s.hw.over110 = none →
    ∃ u, exec (.thermalCheck j i) s = .next u ∧ u.hw.junction = j ∧ u.hw.inlet = i ∧ u.hw.warnJ = true ∧
      u.raised 0x0009 noInst ∧ u.loop = s.loop ∧ u.trays = s.trays) ∧
  (∀ s j i, s.running = true → 110 < j → s.hw.over110 = none →
    ∃ u, exec (.thermalCheck j i) s = .next u ∧ u.hw.over110 = some s.now ∧ u.raised 0x000A noInst ∧ u.loop = s.loop) ∧
  (∀ s, 115 < s.hw.junction → s.hw.phase ≠ .off →
    ∃ u, exec .thermalShutdown s = .next u ∧ u.hw.phase = .off ∧ u.hw.thermalOff = true ∧ u.od.flash = s.od.flash) ∧
  (∀ s a, s.hw.coolSince = some a → s.hw.thermalOff = false ∨ s.now < a + 60 * sec →
    exec .thermalRestart s = .next s) ∧
  (∀ s, s.hw.coolSince = none → exec .thermalRestart s = .next s) ∧
  (∀ s j i, s.running = false → ∃ u, exec (.thermalCheck j i) s = .next u ∧ u.hw.junction = j ∧ u.hw.inlet = i ∧
    u.fm = s.fm ∧ u.loop = s.loop) ∧
  (∀ s, s.hw.junction ≤ 115 ∨ s.hw.phase = .off → exec .thermalShutdown s = .next s) ∧
  (∀ s a, s.hw.coolSince = some a → s.hw.thermalOff = true → a + 60 * sec ≤ s.now →
    ∃ u, exec .thermalRestart s = .next u ∧ u.hw.phase = .rom ∧ u.hw.thermalOff = false ∧ u.od.flash = s.od.flash) ∧
  (∀ s, s.running = true → s.hw.withdrawn = false →
    exec .j2Withdrawn s =
      .next (State.raise { s with hw := { s.hw with
        released := true, withdrawn := true, scan := .operable } } 0x000C noInst)) ∧
  (∀ s, s.running = false → s.dying = true → ∃ u, exec .j2Withdrawn s = .next u ∧ u.hw.withdrawn = true ∧
    u.hw.phase = .off ∧ u.hw.scan = .operable ∧ u.rcd.staged.length ≤ s.rcd.staged.length ∧
    (s.hw.withdrawn = false → u.rcd.nextSeq ≠ s.rcd.nextSeq)) ∧
  (∀ s, s.running = false → s.dying = false →
    exec .j2Withdrawn s = .next { s with hw := { s.hw with withdrawn := true, scan := .operable } })

/-- What one control period computes. CONTROL_PERIOD completes in every state in which firmware runs: shelf time
goes to the next whole microsecond, V_bus is formed of the usable readings of that instant (R23: one as it is,
the mean of two, of three or more the mean without the highest and the lowest; none: the value kept, marked
invalid), and the objects, the governor, the gates, the events, the free slots, the one-time area, the records
and the state of shelf time stay; in a module that does not drive the shelf so do the phases, the shares and the
ring. In one that drives, in a period without void stages or a step of time, from the state in which the period
begins and after ingest: a loop in OFF or TRIPPED stays, I_st zero; in SOFT and RUN with a reading V_ref moves
to V_set by at most its slew (R28), the integrator takes its increment but where the clamp and the sign of e_s
stop it, which [2000.24] counts (R42), the feedforward bleeds and takes the slope but where the clamp stops it
(R39), I_st is the sum within the limits of the period before, and the saturation says at which (R40, R41);
without a reading it enters HOLD, I_st as it was, and in HOLD the count goes on (R25, log entry 69). The shares
lie on the trays of the set within their limits (R108), other trays have none, and the published limits are the
sums of R109. A phase that stays in RUN in a tray with a share takes its part by weight within its limit (R53),
the duty of R54 within the clamp of R59, and the command of R58, whose bytes (R61) are in an EDGE frame where it
is a new one (R60); one that stays in DE has the on-time of R64 where it reaches the minimum, else pulses of the
minimum flagged once, one in the first such slot (R65). Rounding is log entries 12 and 69.
(01_shelf_and_signal_flow.md: One control period, sample to edge, 02_bus_voltage_loop.md: Stage structure,
02_bus_voltage_loop.md: The measured bus voltage, 02_bus_voltage_loop.md: The clamp and integration stop,
04_storage_trays.md: Shares and limits, 03_phases_and_edges.md: Phase current and the phase law,
03_phases_and_edges.md: Edge generation) -/
def Obligations.ControlPeriods : Prop :=
  (∀ s, s.running = true → ∃ u, exec .controlPeriod s = .next u ∧ u.now = nextPeriod s ∧ u.now % 1000 = 0 ∧
      s.now < u.now ∧
    u.hw = s.hw ∧ u.od.values = s.od.values ∧ u.od.flash = s.od.flash ∧
    u.rcd = s.rcd ∧ u.gov = s.gov ∧ u.gates = s.gates ∧ u.ev = s.ev ∧
    u.sec = s.sec ∧ (∀ n, 24 ≤ n → n < Config.slots → u.slot n = s.slot n) ∧ u.dock = s.dock ∧ u.clk.st = s.clk.st ∧
      u.clk.freq = s.clk.freq ∧
    u.grid.ddr = s.grid.ddr ∧ (s.drives = false → u.phases = s.phases ∧ u.alloc = s.alloc ∧ u.tows = s.tows ∧
      u.txn = s.txn ∧ (s.follows = false → u.est = s.est)) ∧
    ((periodBegun s).usable (nextPeriod s) = [] → u.loop.vOk = false ∧ u.loop.vBus = (periodBegun s).loop.vBus) ∧
    (∀ x, (periodBegun s).usable (nextPeriod s) = [x] → u.loop.vOk = true ∧ u.loop.vBus = x) ∧
    (∀ x y, (periodBegun s).usable (nextPeriod s) = [x, y] → u.loop.vOk = true ∧ u.loop.vBus = (x + y) / 2) ∧
    (∀ l, (periodBegun s).usable (nextPeriod s) = l → 3 ≤ l.length →
      u.loop.vOk = true ∧ u.loop.vAt = some (nextPeriod s) ∧ ∃ hi ∈ l, ∃ lo ∈ l, (∀ x ∈ l, lo ≤ x ∧ x ≤ hi) ∧
        u.loop.vBus * ((l.length - 2 : Nat) : Rat) = sumQ l - hi - lo)) ∧
  (∀ s, s.running = true → (periodBegun s).drives = true → (periodBegun s).withheld (nextPeriod s) = false →
    (periodBegun s).voidStages = [] → ∃ u b, exec .controlPeriod s = .next u ∧
      b = ingestPeriod (nextPeriod s) [] (periodBegun s) ∧
      (b.loop.st = .off ∨ b.loop.st = .tripped → u.loop.st = b.loop.st ∧ u.loop.iSt = 0 ∧ u.loop.sat = 0) ∧
      (b.loop.st = .soft ∨ b.loop.st = .run → b.loop.vOk = false →
        u.loop.st = .hold ∧ u.loop.holdFrom = b.loop.st ∧ u.loop.holdCount = 1 ∧ u.loop.iSt = b.loop.iSt) ∧
      (b.loop.st = .hold → b.loop.vOk = false →
        u.loop.st = .hold ∧ u.loop.holdCount = b.loop.holdCount + 1 ∧ u.loop.iSt = b.loop.iSt) ∧
      (b.loop.st = .soft ∨ b.loop.st = .run → b.loop.vOk = true → b.loop.entry = false →
        u.loop.st = b.loop.st ∧
        u.loop.vRef =
          bfp24 expV (stepToward b.loop.vRef (vSet b) (slewOf b (if b.loop.st = .soft then 0x05 else 0x04))) ∧
        u.loop.fx1 = bfp24 expV (u.loop.vRef - u.loop.vBus) ∧
        u.loop.ff = bfp24 expA (b.loop.ff - bfp24 expA (b.loop.coef.kh * b.loop.ff) +
          (if b.loop.sat ≠ 0 ∧ sgn (slopeNow b (nextPeriod s)) = b.loop.sat then 0 else slopeNow b (nextPeriod s))) ∧
        (b.loop.sat = 1 ∧ 0 < u.loop.sy1 ∨ b.loop.sat = -1 ∧ u.loop.sy1 < 0 →
          u.loop.stops = sat32 (b.loop.stops + 1) ∧
          u.loop.integ = bfp24 expA (bfp24 expA b.loop.integ + bfp24 expA (b.loop.coef.kh * b.loop.ff))) ∧
        (¬ (b.loop.sat = 1 ∧ 0 < u.loop.sy1 ∨ b.loop.sat = -1 ∧ u.loop.sy1 < 0) →
          u.loop.stops = b.loop.stops ∧
          u.loop.integ = bfp24 expA (bfp24 expA (sumTerms [fixTerm expA b.loop.integ,
            (coefTerm b.loop.coef.ki).mul (fixTerm expV u.loop.sy1)]) + bfp24 expA (b.loop.coef.kh * b.loop.ff))) ∧
        ∃ i, i = bfp24 expA (bfp24 expA (b.loop.coef.kp * u.loop.sy1) + u.loop.integ + u.loop.ff) ∧
          u.loop.iSt = bfp24 expA (min (max i (-b.alloc.chgLim)) b.alloc.disLim) ∧
          u.loop.sat = if b.alloc.disLim < i then 1 else if i < -b.alloc.chgLim then -1 else 0)) ∧
  (∀ s, s.running = true → (periodBegun s).drives = true → (periodBegun s).withheld (nextPeriod s) = false →
    (periodBegun s).voidStages = [] → ∃ u, exec .controlPeriod s = .next u ∧
      (∀ t, t < Config.trays → u.inSet t = false → (u.tray t).iT = 0 ∧ (u.tray t).lD = 0 ∧ (u.tray t).lC = 0) ∧
      (∀ t, t < Config.trays → u.inSet t = true →
        (u.tray t).iT = bfp24 expA (placedOn (place 17 (u.loop.iSt - u.alloc.held) (sharesOf u) []).2 t)) ∧
      u.alloc.disLim = u.alloc.held + sumQ ((sharesOf u).map (·.lD)) ∧
      u.alloc.chgLim = sumQ ((sharesOf u).map (·.lC)) - u.alloc.held) ∧
  (∀ s t p, s.running = true → (periodBegun s).drives = true → (periodBegun s).withheld (nextPeriod s) = false →
    (periodBegun s).voidStages = [] → t < Config.trays → p < Config.phases → (s.link t).up = true →
    (s.ph t p).st = .run → (s.ph t p).fresh = false → (s.tp t).share = true → (s.tp t).blend = 0 →
    ∃ u, exec .controlPeriod s = .next u ∧ (s.cfgU 0x2200 0x07 ≠ 1 → (u.ph t p).st = .run) ∧
      ((u.ph t p).st = .run → 0 < u.loop.vBus →
        (u.ph t p).r = (if sumQ ((u.phs t).map (·.w)) = 0 then 0 else
          clampQ (-u.iLim t) (u.iLim t) ((u.tp t).rTray * (u.ph t p).w / sumQ ((u.phs t).map (·.w)))) ∧
        (u.ph t p).d = clampQ (dutyLo s) (1 - dutyLo s) (get 0 u.loop.m t -
          (s.cfgB (0x2100 + t) 0x09 * ((u.ph t p).r - (u.ph t p).i) + (u.tp t).x + (u.ph t p).b) / u.loop.vBus) ∧
        (s.fm.faultOut = false → s.hw.released = false → s.pair.handover = none → (s.tray t).pin = true →
          (s.tray t).st ≠ .pulled →
          ∃ c, (u.ph t p).cmd = some c ∧ c.kind = .sync ∧ c.once = false ∧
            c.ta = roundEven ((slotSteps s.kDiv t p : Rat) - (1 - (u.ph t p).d) * 64 * (s.kDiv : Rat)) -
              slotSteps s.kDiv t p ∧
            c.tb = roundEven ((slotSteps s.kDiv t p : Rat) + (1 - (u.ph t p).d) * 64 * (s.kDiv : Rat)) -
              slotSteps s.kDiv t p ∧
            ((s.ph t p).cmd ≠ some c → (u.ph t p).cmdAt = u.now / 1000 ∧
              ∃ seq before after, Tx.paddle t (paddleFrame 1 t seq (before ++
                edgeBytes s.kDiv t p (u.now / 1000) (u.now + 900) (u.ph t p).r c ++ after)) ∈ u.tx)))) ∧
  (∀ s t p, s.running = true → (periodBegun s).drives = true → (periodBegun s).withheld (nextPeriod s) = false →
    (periodBegun s).voidStages = [] → t < Config.trays → p < Config.phases → (s.link t).up = true →
    (s.ph t p).st = .de → (s.tp t).share = true →
    ∃ u on, exec .controlPeriod s = .next u ∧
      on = deOnTime (s.cfgB (0x2100 + t) (0x17 + 8 * p)) (2 * s.kDiv : Nat) ((u.ph t p).r + (u.ph t p).ei)
        (u.ph t p).lowSide (u.link t).vLink u.loop.vBus ∧
      ((u.ph t p).st = .de → 0 < u.loop.vBus →
        ((s.cfgU 0x2200 0x04 : Rat) ≤ on → (u.ph t p).deOn = on ∧ (u.ph t p).onceOn = false) ∧
        (on < (s.cfgU 0x2200 0x04 : Rat) → (u.ph t p).onceOn = true ∧
          ((u.ph t p).deOn = 0 ∨ (u.ph t p).deOn = (s.cfgU 0x2200 0x04 : Rat)) ∧
          ((s.ph t p).onceOn = false → slotIn s.kDiv t p u.now = true →
            (u.ph t p).deOn = (s.cfgU 0x2200 0x04 : Rat)))))

/-- A step carries out the command at the front of the queue. With a command waiting, a step is that command's
effect on the state without it; with none waiting, shelf time goes on by one nanosecond, where the module has
power with its count of seconds of operation, and nothing else changes. The queue and the empty step are the
model's choice (log entries 3 and 64), not the spec's. (00_scope.md: Conventions of notation) -/
def Obligations.StepTakesFront : Prop :=
  (∀ s c rest, s.pending = c :: rest → step s = exec c { s with pending := rest }) ∧
  (∀ s, s.pending = [] → s.hw.phase ≠ .off → step s = .next (s.advance (s.now + 1))) ∧
  (∀ s, s.pending = [] → s.hw.phase = .off → step s = .next { s with now := s.now + 1 }) ∧
  (∀ s t, s.pending = [] → step s = .next t → t.pending = [])

/-- The module right after reset. Reset leaves the boot ROM in charge with the discrete outputs released, the loop
OFF, every phase OFF, every tray ABSENT with no drive high, every link down, the forecaster and the governor
OFF, no gate allocated, every slot empty, no transaction open, no fault active, nothing waiting; the objects
read their defaults (V_set and its slew stand for them); both memories are in canonical form. What the spec
gives no reset value for is the model's choice (log entry 4). (02_bus_voltage_loop.md: Loop states and starting,
03_phases_and_edges.md: Phase faults and handoff, 04_storage_trays.md: States, 20_security_and_firmware.md:
Boot, 15_object_dictionary.md: Defaults and stored values) -/
def Obligations.ResetState : Prop :=
  State.reset.hw.phase = .rom ∧ State.reset.hw.released = true ∧ State.reset.loop.st = .off ∧
  (∀ t p, t < Config.trays → p < Config.phases → (State.reset.ph t p).st = .off) ∧
  (∀ t, t < Config.trays → (State.reset.tray t).st = .absent ∧ (State.reset.tray t).anyDrive = false ∧
    (State.reset.link t).up = false) ∧
  State.reset.tide.st = .off ∧ State.reset.gov.st = .off ∧ State.reset.gates.blocks = [] ∧ State.reset.pending = [] ∧
  State.reset.fm.active = [] ∧ State.reset.fm.running = none ∧ State.reset.openTxns = 0 ∧
  (∀ n, n < Config.slots → 24 ≤ n → (State.reset.slot n).st = .empty) ∧
  State.reset.cfgF 0x2000 0x03 = 800 ∧ State.reset.cfgF 0x2000 0x04 = 10 ∧
  State.reset.queueOk = true ∧ State.reset.memoryOk = true

/-- Every command completes; one that names what does not exist has no effect. Every command ends in a next state
with the waiting commands as they were, whatever the state; none is refused and none is a fault. One that names
what a K16 does not have leaves the state as it was or, where it writes an object, counts a violation (log entry
1). While no firmware runs, a command of the control loop, the phases, the links or the trays changes nothing.
(00_scope.md: The shelf in its largest configuration, 15_object_dictionary.md: Range and violations) -/
def Obligations.CommandsComplete : Prop :=
  (∀ c s, ∃ t, exec c s = .next t ∧ t.pending = s.pending) ∧
  (∀ c s, c.wf = false → exec c s = .next s ∨ ∃ ses index sub, exec c s = .next (s.violate ses index sub)) ∧
  (∀ c s, s.running = false →
    c.family = .busLoop ∨ c.family = .phases ∨ c.family = .links ∨ c.family = .trays → exec c s = .next s)

/-- A queue of commands never stops the machine. From every state the machine runs on for ever: there is a run of
next states, one for each step, in which k steps leave waiting exactly the commands after the first k; and where
the waiting commands all name what exists, those that wait after any number of steps do so too. The queue is the
model's (log entry 64). (00_scope.md: The shelf in its largest configuration) -/
def Obligations.StepsGoOn : Prop :=
  ∀ s, ∃ f : Nat → State, f 0 = s ∧ (∀ k, step (f k) = .next (f (k + 1))) ∧
    (∀ k, (f k).pending = s.pending.drop k) ∧ (s.queueOk = true → ∀ k, (f k).queueOk = true)

/-- The memories keep their canonical form. From every state in which core SRAM and LPDDR4X are in canonical form, a
step that ends in a next state leaves them so: firings, barges, binding, restarts, dry docks, takeovers, resets
and uncorrectable words included. The form is the model's (log entry 5). (10_control_grid.md: Cores,
10_control_grid.md: Barges, 10_control_grid.md: Memory errors and void periods) -/
def Obligations.MemoryStaysCanonical : Prop :=
  ∀ s t, s.memoryOk = true → step s = .next t → t.memoryOk = true

/-- The one-time area: raised, revoked, never undone. A signed write of v not below the minimum makes it v, and one
of a slot other than the running image's sets its revoked bit, each with 0E07h; one that would lower the
minimum, or revoke the slot of the running image, or names a version of more than 32 bits or a slot above 3, is
a violation; and no step of any kind, a reset or a loss of power included, lowers the minimum or takes a revoked
bit back. That an equal version is accepted and what a wrong shape does are log entries 60 and 1 (DEDUCED). Nor
does one change the keys, the identity or the slots programmed, or lower the counter of signed writes. (R528) -/
def Obligations.OneTimeArea : Prop :=
  (∀ s ses v, s.running = true → ses < Config.sessions → s.sec.minVer ≤ v → v < 4294967296 →
    exec (.raiseMinVersion ses v) s = .next (State.raise { s with sec := { s.sec with minVer := v } } 0x0E07 noInst)) ∧
  (∀ s ses v, s.running = true → ses < Config.sessions → v < s.sec.minVer →
    exec (.raiseMinVersion ses v) s = .next (s.violate ses 0xA000 0x13)) ∧
  (∀ s ses v k, s.running = true → ses < Config.sessions →
    (4294967295 < v → exec (.raiseMinVersion ses v) s = .next (s.violate ses 0xA000 0x13)) ∧
    (3 < k → exec (.revokeKeySlot ses k) s = .next (s.violate ses 0xA000 0x14))) ∧
  (∀ s ses k, s.running = true → ses < Config.sessions → k < 4 → k ≠ s.sec.image.slot →
    ∃ u, exec (.revokeKeySlot ses k) s = .next u ∧ bit u.sec.revoked k = true ∧ u.raised 0x0E07 noInst ∧
      u.sec.minVer = s.sec.minVer ∧ u.loop = s.loop) ∧
  (∀ s ses k, s.running = true → ses < Config.sessions → k < 4 → k = s.sec.image.slot →
    exec (.revokeKeySlot ses k) s = .next (s.violate ses 0xA000 0x14)) ∧
  (∀ s t, step s = .next t → OneTimeKept s t)

/-- What the rows of the power chain leave as it was. Whatever the command, where it completes: those of the loop,
the phases, the links and the trays leave shelf time, the pins of power, the dictionary, the records, the
governor, the gates, the events, the forecaster, the pair, the security area, the calibration, both memories,
the slots, the dry dock, the port and the capture ring as they were, and those of the loop and the phases the
estimator too; those of the towpath and the estimator leave all but the power chain's own cells, the trays,
links, phases, faults and sessions so; those of the forecaster, the feeds and the governor leave the phases, the
links, the rings, the records, the events, the pair, the security area, the calibration and the clock so, those
of the forecaster and the feeds the memories and the slots too, and those of the feeds and the governor the
capture ring. (01_shelf_and_signal_flow.md: From bus voltage to edges, 01_shelf_and_signal_flow.md: Where the
slower policies enter) -/
def Obligations.PowerRowsFrame : Prop :=
  ∀ c s t, exec c s = .next t →
    (c.family = .busLoop ∨ c.family = .phases ∨ c.family = .links ∨ c.family = .trays →
      t.now = s.now ∧ t.hw = s.hw ∧ t.od = s.od ∧ t.rcd = s.rcd ∧ t.gov = s.gov ∧ t.gates = s.gates ∧
      t.ev = s.ev ∧ t.tide = s.tide ∧ t.pair = s.pair ∧ t.sec = s.sec ∧ t.cal = s.cal ∧ t.grid = s.grid ∧
      t.slots = s.slots ∧ t.dock = s.dock ∧ t.port = s.port ∧ t.cap = s.cap) ∧
    (c.family = .busLoop ∨ c.family = .phases → t.est = s.est) ∧
    (c.family = .towpath ∨ c.family = .estimator →
      t.now = s.now ∧ t.hw = s.hw ∧ t.od = s.od ∧ t.rcd = s.rcd ∧ t.edge = s.edge ∧ t.feed = s.feed ∧ t.gov = s.gov ∧
      t.gates = s.gates ∧ t.ev = s.ev ∧ t.tide = s.tide ∧ t.pair = s.pair ∧ t.sec = s.sec ∧ t.grid = s.grid ∧
      t.slots = s.slots ∧ t.dock = s.dock ∧ t.port = s.port ∧ t.clk = s.clk ∧ t.cap = s.cap) ∧
    (c.family = .tide ∨ c.family = .feeds ∨ c.family = .governor →
      t.now = s.now ∧ t.rcd = s.rcd ∧ t.phases = s.phases ∧ t.links = s.links ∧ t.tows = s.tows ∧ t.est = s.est ∧
      t.ev = s.ev ∧ t.pair = s.pair ∧ t.sec = s.sec ∧ t.cal = s.cal ∧ t.dock = s.dock ∧ t.clk = s.clk) ∧
    (c.family = .tide ∨ c.family = .feeds → t.grid = s.grid ∧ t.slots = s.slots) ∧
    (c.family = .feeds ∨ c.family = .governor → t.cap = s.cap)

/-- What the rows of the grid, the recorder and the port leave as it was. Whatever the command, where it completes:
those of the gates, the events, the grid and its programs leave shelf time, the pins of power, the dictionary,
the records, the links, the trays, the rings, the pair, the calibration and the clock as they were; those of the
capture ring, the recorder and the calibration leave the loop, the trays, the rings, the estimator, the feeds,
the governor, the gates, the events, the forecaster, the pair, the security area, the memories, the slots, the
dry dock, the port and the clock so; those of the port leave the dictionary, the transactions, the records and
the whole power chain so; those of shelf time and of the pair leave the pins of power, the records, the phases,
the links, the trays, the rings, the calibration and the dry dock so, but that a step of shelf time or a TIME
frame moves the time stamps kept in them with it (the model's choice: log entry 73) and leaves the loop, the
transactions, the objects, the records held and the calibration values as they were, and that a STORE of the
partner is a write and leaves the phases, the estimator, the records and the calibration as they were.
(10_control_grid.md: Co-processor to the lock-keeper, 11_gates_and_events.md: The gate array,
13_clocks_and_time.md: The capture ring, 14_network_port.md: The basin) -/
def Obligations.GridRowsFrame : Prop :=
  ∀ c s t, exec c s = .next t →
    (c.family = .gates ∨ c.family = .events ∨ c.family = .grid ∨ c.family = .programs →
      t.now = s.now ∧ t.hw = s.hw ∧ t.od = s.od ∧ t.rcd = s.rcd ∧ t.links = s.links ∧ t.edge = s.edge ∧
      t.trays = s.trays ∧ t.alloc = s.alloc ∧ t.tows = s.tows ∧ t.pair = s.pair ∧ t.cal = s.cal ∧ t.clk = s.clk) ∧
    (c.family = .capture ∨ c.family = .recorder ∨ c.family = .calibration →
      t.now = s.now ∧ t.hw = s.hw ∧ t.loop = s.loop ∧ t.tph = s.tph ∧ t.edge = s.edge ∧ t.trays = s.trays ∧
      t.alloc = s.alloc ∧ t.tows = s.tows ∧ t.est = s.est ∧ t.feed = s.feed ∧ t.gov = s.gov ∧ t.gates = s.gates ∧
      t.ev = s.ev ∧ t.tide = s.tide ∧ t.pair = s.pair ∧ t.sec = s.sec ∧ t.grid = s.grid ∧ t.slots = s.slots ∧
      t.dock = s.dock ∧ t.port = s.port ∧ t.clk = s.clk) ∧
    (c.family = .port →
      t.now = s.now ∧ t.hw = s.hw ∧ t.od = s.od ∧ t.txn = s.txn ∧ t.rcd = s.rcd ∧ t.loop = s.loop ∧
      t.phases = s.phases ∧ t.links = s.links ∧ t.edge = s.edge ∧ t.trays = s.trays ∧ t.alloc = s.alloc ∧
      t.tows = s.tows ∧ t.est = s.est ∧ t.feed = s.feed ∧ t.gates = s.gates ∧ t.ev = s.ev ∧ t.tide = s.tide ∧
      t.pair = s.pair ∧ t.sec = s.sec ∧ t.cal = s.cal ∧ t.grid = s.grid ∧ t.slots = s.slots ∧ t.dock = s.dock ∧
      t.cap = s.cap) ∧
    (c.family = .clock ∨ c.family = .pair → c ≠ .shelfTimeStep → (∀ f, c ≠ .pairTimeFrame f) →
      (∀ f, c ≠ .pairStore f) →
      t.hw = s.hw ∧ t.rcd = s.rcd ∧ t.phases = s.phases ∧ t.tph = s.tph ∧ t.links = s.links ∧ t.edge = s.edge ∧
      t.trays = s.trays ∧ t.alloc = s.alloc ∧ t.tows = s.tows ∧ t.cal = s.cal ∧ t.dock = s.dock) ∧
    (c = .shelfTimeStep ∨ (∃ f, c = .pairTimeFrame f) →
      t.loop = s.loop ∧ t.txn = s.txn ∧ t.dock = s.dock ∧ t.od.values = s.od.values ∧ t.od.flash = s.od.flash ∧
      t.rcd.staged = s.rcd.staged ∧ t.rcd.segs = s.rcd.segs ∧ (∀ e, (t.calEntry e).bits = (s.calEntry e).bits) ∧
      t.hw.phase = s.hw.phase ∧ t.hw.released = s.hw.released) ∧
    (∀ f, c = .pairStore f →
      t.hw = s.hw ∧ t.rcd = s.rcd ∧ t.phases = s.phases ∧ t.est = s.est ∧ t.cal = s.cal ∧ t.dock = s.dock ∧
      t.now = s.now)

/-- A raise that the manager holds already. A raise of code c and instance i, delivered while an entry of them is
queued, on the stack or running: every such entry's occurrence count is one more, at most FFFFh; the queue, the
stack and the running entry are otherwise as they were, so there is no new entry; and the counter of [7000.10]
is one more, at its largest value at most. (R448) -/
def Obligations.RepeatedRaise : Prop :=
  ∀ s c i, s.running = true → c < 65536 → i < 65536 → sevTable.any (fun e => e.1 == c) = true →
    (∃ x ∈ s.fm.queue ++ s.fm.stack ++ s.fm.running.toList, x.code = c ∧ x.inst = i) →
    let again := fun (x : Raise) => if x.code = c ∧ x.inst = i then { x with count := min (x.count + 1) 0xFFFF } else x
    ∃ u, exec (.faultRaise c i) s = .next u ∧ u.fm.queue = s.fm.queue.map again ∧ u.fm.stack = s.fm.stack.map again ∧
      u.fm.running = s.fm.running.map again ∧ u.fm.coalesced = min (s.fm.coalesced + 1) 4294967295 ∧
      (u.activeOf c i).isSome = (s.activeOf c i).isSome ∧ u.fm.active.length = s.fm.active.length

/-- The 16 bytes of a delivery record. A delivery record is 16 bytes with its source, kind, sequence and shelf time
at their places, low byte first, and four zero bytes; a sensed change of a source moves its sequence on by one,
modulo 256, and stamps it with the shelf time; a delivery takes the sequence and the time so noted, with kind 0
for a level, 1 for a rising and 2 for a falling edge. (R335) -/
def Obligations.DeliveryRecords : Prop :=
  (∀ r : EvRec, r.src < 65536 → r.kind < 256 → r.seq < 256 → r.at_ < 2 ^ 64 →
    r.bytes.length = 16 ∧ u16At r.bytes 0 = r.src ∧ u8At r.bytes 2 = r.kind ∧ u8At r.bytes 3 = r.seq ∧
      u64At r.bytes 4 = r.at_ ∧ r.bytes.drop 12 = [0, 0, 0, 0]) ∧
  (∀ s src core, s.running = true → src < 1024 → s.evStopped src = false →
    targetsOf src (s.srcWord src) = [(core, false)] → s.evBusy core src = false →
    let mk := fun k => ({ src := src, kind := k, seq := (Store.get 0 s.ev.seq src + 1) % 256, at_ := s.now } : EvRec)
    (s.srcWord src % 8 = 1 → s.sourceLevel src = true → s.ev.high.contains src = false →
      ∃ u, exec (.sourceChange src) s = .next u ∧ Store.get (mk 9) u.ev.pending (ekey core src) = mk 0) ∧
    (s.srcWord src % 8 = 3 → s.sourceLevel src = true → s.ev.high.contains src = false →
      ∃ u, exec (.sourceChange src) s = .next u ∧ Store.get (mk 9) u.ev.pending (ekey core src) = mk 1) ∧
    (s.srcWord src % 8 = 4 → s.sourceLevel src = false → s.ev.high.contains src = true →
      ∃ u, exec (.sourceChange src) s = .next u ∧ Store.get (mk 9) u.ev.pending (ekey core src) = mk 2))
end

