-- ==== Sys2Proof/Laws/Bytes.lean ====
section
/-! SUPPORT. Laws of the byte strings: what was laid out is read back; a frame built is a frame parsed. -/

namespace Sys2Proof.Machine

/-! ### Numbers as bytes -/

@[simp] theorem le_length (n v : Nat) : (le n v).length = n := by
  induction n generalizing v with
  | zero => rfl
  | succ n ih => simp [le, ih]

@[simp] theorem be_length (n v : Nat) : (be n v).length = n := by simp [be]

/-- Reading a number's bytes gives its low bits. -/
theorem ofLe_le (n v : Nat) : ofLe (le n v) = v % 256 ^ n := by
  induction n generalizing v with
  | zero => simp [le, ofLe, Nat.mod_one]
  | succ n ih =>
    have h : v % 256 ^ (n + 1) = v % 256 + 256 * (v / 256 % 256 ^ n) := by
      rw [Nat.pow_succ, Nat.mul_comm (256 ^ n) 256, Nat.mod_mul]
    simp [le, ofLe, ih, h]

theorem ofLe_le_of_lt (n v : Nat) (h : v < 256 ^ n) : ofLe (le n v) = v := by
  rw [ofLe_le, Nat.mod_eq_of_lt h]

theorem ofBe_be_of_lt (n v : Nat) (h : v < 256 ^ n) : ofBe (be n v) = v := by
  simp [ofBe, be, ofLe_le_of_lt n v h]

/-- A byte string reads as a number that fits it. -/
theorem ofLe_lt (bs : Bytes) : ofLe bs < 256 ^ bs.length := by
  induction bs with
  | nil => simp [ofLe]
  | cons b bs ih =>
    have hb : b.toNat < 256 := b.isLt
    rw [ofLe, List.length_cons, Nat.pow_succ]
    omega

/-- The bytes of what a byte string reads as are that string. -/
theorem le_ofLe (bs : Bytes) : le bs.length (ofLe bs) = bs := by
  induction bs with
  | nil => rfl
  | cons b bs ih =>
    have hb : b.toNat < 256 := b.isLt
    have h2 : (b.toNat + 256 * ofLe bs) / 256 = ofLe bs := by omega
    have h1 : BitVec.ofNat 8 (b.toNat + 256 * ofLe bs) = b := by
      apply BitVec.eq_of_toNat_eq
      rw [BitVec.toNat_ofNat]; omega
    simp only [ofLe, List.length_cons, le, h1, h2, ih]

/-! ### Parts of a byte string -/

theorem slice_append_left (a b : Bytes) (off len : Nat) (h : off + len ≤ a.length) :
    slice (a ++ b) off len = slice a off len := by
  unfold slice
  rw [List.drop_append_of_le_length (by omega), List.take_append_of_le_length (by simp; omega)]

theorem slice_append_right (a b : Bytes) (off len : Nat) (h : a.length ≤ off) :
    slice (a ++ b) off len = slice b (off - a.length) len := by
  unfold slice
  rw [List.drop_append, List.drop_eq_nil_of_le h, List.nil_append]

theorem slice_all (a : Bytes) : slice a 0 a.length = a := by simp [slice]

/-! ### CRC-32C -/

theorem crcBit_lt (c : Nat) (h : c < 2 ^ 32) : crcBit c < 2 ^ 32 := by
  unfold crcBit
  split
  · exact Nat.xor_lt_two_pow (by omega) (by decide)
  · omega

theorem crcBits_lt (n c : Nat) (h : c < 2 ^ 32) : crcBits n c < 2 ^ 32 := by
  induction n generalizing c with
  | zero => exact h
  | succ n ih => exact ih _ (crcBit_lt c h)

theorem crc32c_lt (bs : Bytes) : crc32c bs < 2 ^ 32 := by
  unfold crc32c
  refine Nat.xor_lt_two_pow ?_ (by decide)
  have key : ∀ (l : Bytes) (c : Nat), c < 2 ^ 32 → l.foldl (fun c b => crcBits 8 (c ^^^ b.toNat)) c < 2 ^ 32 := by
    intro l
    induction l with
    | nil => exact fun _ h => h
    | cons b l ih =>
      intro c hc
      refine ih _ (crcBits_lt _ _ (Nat.xor_lt_two_pow hc ?_))
      exact Nat.lt_trans b.isLt (by decide)
  exact key bs _ (by decide)

/-! ### Frames -/

/-- A field of a frame is what was laid out there. -/
theorem slice_mid (f a x b : Bytes) (off len : Nat) (hf : f = a ++ (x ++ b)) (ha : a.length = off)
    (hx : x.length = len) : slice f off len = x := by
  subst hf ha hx
  simp [slice]

/-- A numeric field of a frame. -/
theorem field_mid (f a b : Bytes) (off len v : Nat) (hf : f = a ++ (le len v ++ b)) (ha : a.length = off)
    (hv : v < 256 ^ len) : ofLe (slice f off len) = v := by
  rw [slice_mid f a (le len v) b off len hf ha (le_length _ _), ofLe_le_of_lt _ _ hv]

theorem pairFrame_length (typ flags seq time : Nat) (p : Bytes) :
    (pairFrame typ flags seq time p).length = p.length + 24 := by
  simp [pairFrame]; omega

/-- A pair-link frame built of fields that fit it is parsed to those fields (R463). -/
theorem parsePair_pairFrame (typ flags seq time : Nat) (p : Bytes) (h8 : p.length % 8 = 0)
    (hn : p.length / 8 < 65536) (ht : typ < 256) (hf : flags < 256) (hs : seq < 2 ^ 32) (hc : time < 2 ^ 64) :
    parsePair (pairFrame typ flags seq time p) =
      some { typ := typ, flags := flags, seq := seq, time := time, payload := p } := by
  have hl := pairFrame_length typ flags seq time p
  have hh : (le 1 typ ++ le 1 flags ++ le 2 (p.length / 8) ++ le 4 seq ++ le 8 time ++ p).length = 16 + p.length := by
    simp; omega
  have hcrc := crc32c_lt (le 1 typ ++ le 1 flags ++ le 2 (p.length / 8) ++ le 4 seq ++ le 8 time ++ p)
  revert hl
  unfold pairFrame
  dsimp only
  generalize hk : crc32c (le 1 typ ++ le 1 flags ++ le 2 (p.length / 8) ++ le 4 seq ++ le 8 time ++ p) = k at hcrc ⊢
  generalize hF : le 1 typ ++ le 1 flags ++ le 2 (p.length / 8) ++ le 4 seq ++ le 8 time ++ p ++ le 4 k ++ le 4 0 = F
  intro hl
  have h2 : u16At F 2 = p.length / 8 := field_mid F (le 1 typ ++ le 1 flags) _ 2 2 _
    (by rw [← hF]; simp only [List.append_assoc]; rfl) (by simp) (by omega)
  have e8 : 8 * (p.length / 8) = p.length := by omega
  have h16 : u32At F (16 + p.length) = k := field_mid F _ (le 4 0) _ 4 _
    (by rw [← hF, List.append_assoc]) hh (by omega)
  have htake : F.take (16 + p.length) =
      le 1 typ ++ le 1 flags ++ le 2 (p.length / 8) ++ le 4 seq ++ le 8 time ++ p := by
    rw [← hF, List.append_assoc, ← hh, List.take_left]
  have f0 : u8At F 0 = typ := field_mid F [] _ 0 1 _ (by rw [← hF]; simp only [List.append_assoc]; rfl) rfl (by omega)
  have f1 : u8At F 1 = flags := field_mid F (le 1 typ) _ 1 1 _
    (by rw [← hF]; simp only [List.append_assoc]; rfl) (by simp) (by omega)
  have f4 : u32At F 4 = seq := field_mid F (le 1 typ ++ le 1 flags ++ le 2 (p.length / 8)) _ 4 4 _
    (by rw [← hF]; simp only [List.append_assoc]; rfl) (by simp) (by omega)
  have f8 : u64At F 8 = time := field_mid F (le 1 typ ++ le 1 flags ++ le 2 (p.length / 8) ++ le 4 seq) _ 8 8 _
    (by rw [← hF]; simp only [List.append_assoc]; rfl) (by simp) (by omega)
  have fp : slice F 16 p.length = p :=
    slice_mid F (le 1 typ ++ le 1 flags ++ le 2 (p.length / 8) ++ le 4 seq ++ le 8 time) p _ 16 _
      (by rw [← hF]; simp only [List.append_assoc]; rfl) (by simp) rfl
  unfold parsePair
  dsimp only
  rw [h2, e8, if_pos ⟨hl, by rw [h16, htake, hk]⟩, f0, f1, f4, f8, fp]

/-- A paddle-link frame built of fields that fit it is parsed to its type and payload (R86). -/
theorem parsePaddle_paddleFrame (typ t seq : Nat) (p : Bytes) (h8 : p.length % 8 = 0)
    (hn : p.length / 8 < 65536) (ht : typ < 256) (hf : t < 256) :
    parsePaddle t (paddleFrame typ t seq p) = some (typ, p) := by
  have hh : (le 1 typ ++ le 1 t ++ le 2 (p.length / 8) ++ le 4 seq ++ p).length = 8 + p.length := by simp; omega
  have hcrc := crc32c_lt (le 1 typ ++ le 1 t ++ le 2 (p.length / 8) ++ le 4 seq ++ p)
  unfold paddleFrame
  dsimp only
  generalize hk : crc32c (le 1 typ ++ le 1 t ++ le 2 (p.length / 8) ++ le 4 seq ++ p) = k at hcrc ⊢
  generalize hF : le 1 typ ++ le 1 t ++ le 2 (p.length / 8) ++ le 4 seq ++ p ++ le 4 k ++ le 4 0 = F
  have hl : F.length = p.length + 16 := by rw [← hF]; simp; omega
  have h2 : u16At F 2 = p.length / 8 := field_mid F (le 1 typ ++ le 1 t) _ 2 2 _
    (by rw [← hF]; simp only [List.append_assoc]; rfl) (by simp) (by omega)
  have e8 : 8 * (p.length / 8) = p.length := by omega
  have h16 : u32At F (8 + p.length) = k := field_mid F _ (le 4 0) _ 4 _
    (by rw [← hF, List.append_assoc]) hh (by omega)
  have htake : F.take (8 + p.length) = le 1 typ ++ le 1 t ++ le 2 (p.length / 8) ++ le 4 seq ++ p := by
    rw [← hF, List.append_assoc, ← hh, List.take_left]
  have f0 : u8At F 0 = typ := field_mid F [] _ 0 1 _ (by rw [← hF]; simp only [List.append_assoc]; rfl) rfl (by omega)
  have f1 : u8At F 1 = t := field_mid F (le 1 typ) _ 1 1 _
    (by rw [← hF]; simp only [List.append_assoc]; rfl) (by simp) (by omega)
  have fp : slice F 8 p.length = p :=
    slice_mid F (le 1 typ ++ le 1 t ++ le 2 (p.length / 8) ++ le 4 seq) p _ 8 _
      (by rw [← hF]; simp only [List.append_assoc]; rfl) (by simp) rfl
  unfold parsePaddle
  dsimp only
  rw [h2, e8, if_pos ⟨hl, f1, by rw [h16, htake, hk]⟩, f0, fp]

end Sys2Proof.Machine
end

