-- ==== Sys2Proof/Laws/Store.lean ====
section
/-! SUPPORT. Laws of the sparse stores and of arrays: canonical form, read after write. -/

namespace Sys2Proof.Machine

variable {α : Type}

/-! ### Arrays -/

@[simp] theorem upd_length (l : List α) (i : Nat) (f : α → α) : (upd l i f).length = l.length := by
  simp [upd]

/-- An entry that exists reads as what was made of it. -/
theorem get_upd_same (d : α) (l : List α) (i : Nat) (f : α → α) (h : i < l.length) :
    get d (upd l i f) i = f (get d l i) := by
  simp [get, upd, h]

/-- Every other entry reads as before. -/
theorem get_upd_other (d : α) (l : List α) (i j : Nat) (f : α → α) (h : i ≠ j) :
    get d (upd l i f) j = get d l j := by
  simp [get, upd, h]

/-- An entry that does not exist is not written. -/
theorem upd_absent (l : List α) (i : Nat) (f : α → α) (h : l.length ≤ i) : upd l i f = l := by
  apply List.ext_getElem?
  intro j
  rw [upd, List.getElem?_modify]
  by_cases hj : i = j
  · subst hj; simp [h]
  · simp [hj]

theorem get_range (d : α) (l : List α) (i : Nat) (h : l.length ≤ i) : get d l i = d := by
  simp [get, h]

/-! ### Sparse stores: what the canonical form says -/

section
variable [DecidableEq α] (d : α)

/-- The canonical form as one sentence on order and one on values. -/
theorem Store.wf_iff (l : List (Nat × α)) :
    Store.wf d l = true ↔ l.Pairwise (fun a b => a.1 < b.1) ∧ ∀ e ∈ l, e.2 ≠ d := by
  induction l with
  | nil => simp [Store.wf]
  | cons a l ih =>
    cases l with
    | nil => simp [Store.wf]
    | cons b l =>
      obtain ⟨ka, va⟩ := a
      obtain ⟨kb, vb⟩ := b
      simp only [Store.wf, Bool.and_eq_true, decide_eq_true_eq, ih]
      constructor
      · rintro ⟨⟨h1, h2⟩, h3, h4⟩
        refine ⟨List.pairwise_cons.2 ⟨?_, h3⟩, ?_⟩
        · intro e he
          rcases List.mem_cons.1 he with rfl | he
          · exact h2
          · exact Nat.lt_trans h2 ((List.pairwise_cons.1 h3).1 e he)
        · intro e he
          rcases List.mem_cons.1 he with rfl | he
          · exact h1
          · exact h4 e he
      · rintro ⟨h1, h2⟩
        have h := List.pairwise_cons.1 h1
        exact ⟨⟨h2 _ (List.mem_cons_self ..), h.1 _ (List.mem_cons_self ..)⟩, h.2,
          fun e he => h2 e (List.mem_cons_of_mem _ he)⟩

end

/-! ### Deleting and inserting -/

theorem Store.del_pairwise (l : List (Nat × α)) (k : Nat) (h : l.Pairwise (fun a b => a.1 < b.1)) :
    (Store.del l k).Pairwise (fun a b => a.1 < b.1) := h.filter _

theorem Store.mem_del (l : List (Nat × α)) (k : Nat) (e : Nat × α) : e ∈ Store.del l k ↔ e ∈ l ∧ e.1 ≠ k := by
  simp [Store.del]

theorem Store.mem_ins (l : List (Nat × α)) (k : Nat) (v : α) (e : Nat × α) :
    e ∈ Store.ins k v l ↔ e = (k, v) ∨ e ∈ l := by
  induction l with
  | nil => simp [Store.ins]
  | cons a l ih =>
    obtain ⟨k', w⟩ := a
    unfold Store.ins
    split
    · simp
    · simp only [List.mem_cons, ih]; tauto

/-- Inserting a key that is not there keeps the keys rising. -/
theorem Store.ins_pairwise (l : List (Nat × α)) (k : Nat) (v : α) (h : l.Pairwise (fun a b => a.1 < b.1))
    (hk : ∀ e ∈ l, e.1 ≠ k) : (Store.ins k v l).Pairwise (fun a b => a.1 < b.1) := by
  induction l with
  | nil => simp [Store.ins]
  | cons a l ih =>
    obtain ⟨k', w⟩ := a
    have h' := List.pairwise_cons.1 h
    have hne : k' ≠ k := hk (k', w) (List.mem_cons_self ..)
    unfold Store.ins
    split
    · rename_i hlt
      refine List.pairwise_cons.2 ⟨?_, h⟩
      intro e he
      rcases List.mem_cons.1 he with rfl | he
      · exact hlt
      · exact Nat.lt_trans hlt (h'.1 e he)
    · rename_i hlt
      refine List.pairwise_cons.2 ⟨?_, ih h'.2 fun e he => hk e (List.mem_cons_of_mem _ he)⟩
      intro e he
      rcases (Store.mem_ins l k v e).1 he with rfl | he
      · show k' < k; omega
      · exact h'.1 e he

/-! ### The canonical form is kept -/

/-- Keeping part of a store keeps its form. -/
theorem Store.wf_filter [DecidableEq α] (d : α) (l : List (Nat × α)) (p : Nat × α → Bool) (h : Store.wf d l = true) :
    Store.wf d (l.filter p) = true := by
  rw [Store.wf_iff] at *
  exact ⟨h.1.filter _, fun e he => h.2 e (List.mem_filter.1 he).1⟩

theorem Store.wf_del [DecidableEq α] (d : α) (l : List (Nat × α)) (k : Nat) (h : Store.wf d l = true) :
    Store.wf d (Store.del l k) = true := Store.wf_filter d l _ h

theorem Store.wf_ins [DecidableEq α] (d : α) (l : List (Nat × α)) (k : Nat) (v : α) (h : Store.wf d l = true)
    (hk : ∀ e ∈ l, e.1 ≠ k) (hv : v ≠ d) : Store.wf d (Store.ins k v l) = true := by
  rw [Store.wf_iff] at *
  refine ⟨Store.ins_pairwise l k v h.1 hk, fun e he => ?_⟩
  rcases (Store.mem_ins l k v e).1 he with rfl | he
  · exact hv
  · exact h.2 e he

/-- A write keeps the canonical form. -/
theorem Store.wf_set [DecidableEq α] (d : α) (l : List (Nat × α)) (k : Nat) (v : α) (h : Store.wf d l = true) :
    Store.wf d (Store.set d l k v) = true := by
  unfold Store.set
  split
  · exact Store.wf_del d l k h
  · rename_i hv
    exact Store.wf_ins d _ k v (Store.wf_del d l k h) (fun e he => ((Store.mem_del l k e).1 he).2) hv

/-! ### Read after write -/

theorem Store.get_del_other (d : α) (l : List (Nat × α)) (k j : Nat) (h : j ≠ k) :
    Store.get d (Store.del l k) j = Store.get d l j := by
  induction l with
  | nil => rfl
  | cons a l ih =>
    obtain ⟨k', w⟩ := a
    simp only [Store.del, List.filter_cons, bne_iff_ne] at ih ⊢
    by_cases h1 : k' = k
    · have h2 : k' ≠ j := fun h3 => h (h3 ▸ h1)
      simp [h1] at ih ⊢
      rw [ih, Store.get, if_neg (h1 ▸ h2)]
    · simp only [h1, ne_eq, not_false_eq_true, if_true, Store.get, ih]

theorem Store.get_absent (d : α) (l : List (Nat × α)) (k : Nat) (h : ∀ e ∈ l, e.1 ≠ k) : Store.get d l k = d := by
  induction l with
  | nil => rfl
  | cons a l ih =>
    obtain ⟨k', w⟩ := a
    rw [Store.get, if_neg (h (k', w) (List.mem_cons_self ..)), ih fun e he => h e (List.mem_cons_of_mem _ he)]

theorem Store.get_del_same (d : α) (l : List (Nat × α)) (k : Nat) : Store.get d (Store.del l k) k = d :=
  Store.get_absent d _ k fun e he => ((Store.mem_del l k e).1 he).2

theorem Store.get_ins_same (d : α) (l : List (Nat × α)) (k : Nat) (v : α) (hk : ∀ e ∈ l, e.1 ≠ k) :
    Store.get d (Store.ins k v l) k = v := by
  induction l with
  | nil => simp [Store.ins, Store.get]
  | cons a l ih =>
    obtain ⟨k', w⟩ := a
    unfold Store.ins
    split
    · simp [Store.get]
    · rw [Store.get, if_neg (hk (k', w) (List.mem_cons_self ..)), ih fun e he => hk e (List.mem_cons_of_mem _ he)]

theorem Store.get_ins_other (d : α) (l : List (Nat × α)) (k j : Nat) (v : α) (h : j ≠ k) :
    Store.get d (Store.ins k v l) j = Store.get d l j := by
  induction l with
  | nil => simp [Store.ins, Store.get, Ne.symm h]
  | cons a l ih =>
    obtain ⟨k', w⟩ := a
    unfold Store.ins
    split
    · simp [Store.get, Ne.symm h]
    · simp [Store.get, ih]

/-- A key reads as what was written to it. -/
theorem Store.get_set_same [DecidableEq α] (d : α) (l : List (Nat × α)) (k : Nat) (v : α) :
    Store.get d (Store.set d l k v) k = v := by
  unfold Store.set
  split
  · rename_i h; rw [Store.get_del_same, h]
  · exact Store.get_ins_same d _ k v fun e he => ((Store.mem_del l k e).1 he).2

/-- Every other key reads as before. -/
theorem Store.get_set_other [DecidableEq α] (d : α) (l : List (Nat × α)) (k j : Nat) (v : α) (h : j ≠ k) :
    Store.get d (Store.set d l k v) j = Store.get d l j := by
  unfold Store.set
  split
  · exact Store.get_del_other d l k j h
  · rw [Store.get_ins_other d _ k j v h, Store.get_del_other d l k j h]

/-- One write, read anywhere. -/
theorem Store.get_set [DecidableEq α] (d : α) (l : List (Nat × α)) (k j : Nat) (v : α) :
    Store.get d (Store.set d l k v) j = if j = k then v else Store.get d l j := by
  split
  · rename_i h; rw [h]; exact Store.get_set_same d l k v
  · rename_i h; exact Store.get_set_other d l k j v h

/-- Two canonical stores that read alike are one list. -/
theorem Store.ext [DecidableEq α] (d : α) (l m : List (Nat × α)) (hl : Store.wf d l = true) (hm : Store.wf d m = true)
    (h : ∀ k, Store.get d l k = Store.get d m k) : l = m := by
  induction l generalizing m with
  | nil =>
    cases m with
    | nil => rfl
    | cons b m =>
      have := ((Store.wf_iff d _).1 hm).2 b (List.mem_cons_self ..)
      have hb := h b.1
      simp only [Store.get, if_true] at hb
      exact absurd hb.symm this
  | cons a l ih =>
    cases m with
    | nil =>
      have := ((Store.wf_iff d _).1 hl).2 a (List.mem_cons_self ..)
      have ha := h a.1
      simp only [Store.get, if_true] at ha
      exact absurd ha this
    | cons b m =>
      obtain ⟨ka, va⟩ := a
      obtain ⟨kb, vb⟩ := b
      have hl' := (Store.wf_iff d _).1 hl
      have hm' := (Store.wf_iff d _).1 hm
      have pl := List.pairwise_cons.1 hl'.1
      have pm := List.pairwise_cons.1 hm'.1
      have low : ∀ (k : Nat) (r : List (Nat × α)) (k0 : Nat), (∀ e ∈ r, k0 < e.1) → k ≤ k0 → Store.get d r k = d :=
        fun k r k0 hr hk => Store.get_absent d r k fun e he => Nat.ne_of_gt (Nat.lt_of_le_of_lt hk (hr e he))
      have hkk : ka = kb := by
        rcases Nat.lt_trichotomy ka kb with hlt | heq | hlt
        · have := h ka
          simp only [Store.get, if_true, if_neg (Nat.ne_of_gt hlt)] at this
          rw [low ka m kb pm.1 (Nat.le_of_lt hlt)] at this
          exact absurd this (hl'.2 _ (List.mem_cons_self ..))
        · exact heq
        · have := h kb
          simp only [Store.get, if_true, if_neg (Nat.ne_of_gt hlt)] at this
          rw [low kb l ka pl.1 (Nat.le_of_lt hlt)] at this
          exact absurd this.symm (hm'.2 _ (List.mem_cons_self ..))
      subst hkk
      have hv := h ka
      simp only [Store.get, if_true] at hv
      subst hv
      congr 1
      refine ih m ((Store.wf_iff d _).2 ⟨pl.2, fun e he => hl'.2 e (List.mem_cons_of_mem _ he)⟩)
        ((Store.wf_iff d _).2 ⟨pm.2, fun e he => hm'.2 e (List.mem_cons_of_mem _ he)⟩) ?_
      intro k
      by_cases hk : ka = k
      · rw [low k l ka pl.1 (Nat.le_of_eq hk.symm), low k m ka pm.1 (Nat.le_of_eq hk.symm)]
      · have := h k
        simpa only [Store.get, if_neg hk] using this

end Sys2Proof.Machine
end

