-- ==== Sys2Proof/Laws/State.lean ====
section
/-! SUPPORT. Laws of State: each update, field by field, and what the operations of Ops can do. -/

namespace Sys2Proof.Machine

/-! ### Updates of Ops, field by field -/

section
variable (s : State) (index sub v : Nat)

@[simp] theorem State.setCfg_pending : (s.setCfg index sub v).pending = s.pending := rfl
@[simp] theorem State.setCfg_freeCount : (s.setCfg index sub v).freeCount = s.freeCount := rfl
@[simp] theorem State.setCfg_now : (s.setCfg index sub v).now = s.now := rfl
@[simp] theorem State.setCfg_tx : (s.setCfg index sub v).tx = s.tx := rfl
@[simp] theorem State.setCfg_hw : (s.setCfg index sub v).hw = s.hw := rfl
@[simp] theorem State.setCfg_txn : (s.setCfg index sub v).txn = s.txn := rfl
@[simp] theorem State.setCfg_fm : (s.setCfg index sub v).fm = s.fm := rfl
@[simp] theorem State.setCfg_rcd : (s.setCfg index sub v).rcd = s.rcd := rfl
@[simp] theorem State.setCfg_loop : (s.setCfg index sub v).loop = s.loop := rfl
@[simp] theorem State.setCfg_phases : (s.setCfg index sub v).phases = s.phases := rfl
@[simp] theorem State.setCfg_tph : (s.setCfg index sub v).tph = s.tph := rfl
@[simp] theorem State.setCfg_links : (s.setCfg index sub v).links = s.links := rfl
@[simp] theorem State.setCfg_edge : (s.setCfg index sub v).edge = s.edge := rfl
@[simp] theorem State.setCfg_trays : (s.setCfg index sub v).trays = s.trays := rfl
@[simp] theorem State.setCfg_alloc : (s.setCfg index sub v).alloc = s.alloc := rfl
@[simp] theorem State.setCfg_tows : (s.setCfg index sub v).tows = s.tows := rfl
@[simp] theorem State.setCfg_est : (s.setCfg index sub v).est = s.est := rfl
@[simp] theorem State.setCfg_feed : (s.setCfg index sub v).feed = s.feed := rfl
@[simp] theorem State.setCfg_gov : (s.setCfg index sub v).gov = s.gov := rfl
@[simp] theorem State.setCfg_gates : (s.setCfg index sub v).gates = s.gates := rfl
@[simp] theorem State.setCfg_ev : (s.setCfg index sub v).ev = s.ev := rfl
@[simp] theorem State.setCfg_tide : (s.setCfg index sub v).tide = s.tide := rfl
@[simp] theorem State.setCfg_pair : (s.setCfg index sub v).pair = s.pair := rfl
@[simp] theorem State.setCfg_sec : (s.setCfg index sub v).sec = s.sec := rfl
@[simp] theorem State.setCfg_cal : (s.setCfg index sub v).cal = s.cal := rfl
@[simp] theorem State.setCfg_grid : (s.setCfg index sub v).grid = s.grid := rfl
@[simp] theorem State.setCfg_slots : (s.setCfg index sub v).slots = s.slots := rfl
@[simp] theorem State.setCfg_dock : (s.setCfg index sub v).dock = s.dock := rfl
@[simp] theorem State.setCfg_port : (s.setCfg index sub v).port = s.port := rfl
@[simp] theorem State.setCfg_sess : (s.setCfg index sub v).sess = s.sess := rfl
@[simp] theorem State.setCfg_clk : (s.setCfg index sub v).clk = s.clk := rfl
@[simp] theorem State.setCfg_cap : (s.setCfg index sub v).cap = s.cap := rfl
@[simp] theorem State.setCfg_running : (s.setCfg index sub v).running = s.running := rfl

end

section
variable (s : State) (ses index sub v : Nat)

@[simp] theorem State.setWin_pending : (s.setWin ses index sub v).pending = s.pending := rfl
@[simp] theorem State.setWin_freeCount : (s.setWin ses index sub v).freeCount = s.freeCount := rfl
@[simp] theorem State.setWin_now : (s.setWin ses index sub v).now = s.now := rfl
@[simp] theorem State.setWin_tx : (s.setWin ses index sub v).tx = s.tx := rfl
@[simp] theorem State.setWin_hw : (s.setWin ses index sub v).hw = s.hw := rfl
@[simp] theorem State.setWin_txn : (s.setWin ses index sub v).txn = s.txn := rfl
@[simp] theorem State.setWin_fm : (s.setWin ses index sub v).fm = s.fm := rfl
@[simp] theorem State.setWin_rcd : (s.setWin ses index sub v).rcd = s.rcd := rfl
@[simp] theorem State.setWin_loop : (s.setWin ses index sub v).loop = s.loop := rfl
@[simp] theorem State.setWin_phases : (s.setWin ses index sub v).phases = s.phases := rfl
@[simp] theorem State.setWin_tph : (s.setWin ses index sub v).tph = s.tph := rfl
@[simp] theorem State.setWin_links : (s.setWin ses index sub v).links = s.links := rfl
@[simp] theorem State.setWin_edge : (s.setWin ses index sub v).edge = s.edge := rfl
@[simp] theorem State.setWin_trays : (s.setWin ses index sub v).trays = s.trays := rfl
@[simp] theorem State.setWin_alloc : (s.setWin ses index sub v).alloc = s.alloc := rfl
@[simp] theorem State.setWin_tows : (s.setWin ses index sub v).tows = s.tows := rfl
@[simp] theorem State.setWin_est : (s.setWin ses index sub v).est = s.est := rfl
@[simp] theorem State.setWin_feed : (s.setWin ses index sub v).feed = s.feed := rfl
@[simp] theorem State.setWin_gov : (s.setWin ses index sub v).gov = s.gov := rfl
@[simp] theorem State.setWin_gates : (s.setWin ses index sub v).gates = s.gates := rfl
@[simp] theorem State.setWin_ev : (s.setWin ses index sub v).ev = s.ev := rfl
@[simp] theorem State.setWin_tide : (s.setWin ses index sub v).tide = s.tide := rfl
@[simp] theorem State.setWin_pair : (s.setWin ses index sub v).pair = s.pair := rfl
@[simp] theorem State.setWin_sec : (s.setWin ses index sub v).sec = s.sec := rfl
@[simp] theorem State.setWin_cal : (s.setWin ses index sub v).cal = s.cal := rfl
@[simp] theorem State.setWin_grid : (s.setWin ses index sub v).grid = s.grid := rfl
@[simp] theorem State.setWin_slots : (s.setWin ses index sub v).slots = s.slots := rfl
@[simp] theorem State.setWin_dock : (s.setWin ses index sub v).dock = s.dock := rfl
@[simp] theorem State.setWin_port : (s.setWin ses index sub v).port = s.port := rfl
@[simp] theorem State.setWin_sess : (s.setWin ses index sub v).sess = s.sess := rfl
@[simp] theorem State.setWin_clk : (s.setWin ses index sub v).clk = s.clk := rfl
@[simp] theorem State.setWin_cap : (s.setWin ses index sub v).cap = s.cap := rfl
@[simp] theorem State.setWin_running : (s.setWin ses index sub v).running = s.running := rfl
@[simp] theorem State.setWin_cfgU (i j : Nat) : (s.setWin ses index sub v).cfgU i j = s.cfgU i j := rfl

end

section
variable (s : State) (t : Nat)

@[simp] theorem State.advance_pending : (s.advance t).pending = s.pending := rfl
@[simp] theorem State.advance_freeCount : (s.advance t).freeCount = s.freeCount := rfl
@[simp] theorem State.advance_tx : (s.advance t).tx = s.tx := rfl
@[simp] theorem State.advance_hw : (s.advance t).hw = s.hw := rfl
@[simp] theorem State.advance_txn : (s.advance t).txn = s.txn := rfl
@[simp] theorem State.advance_fm : (s.advance t).fm = s.fm := rfl
@[simp] theorem State.advance_rcd : (s.advance t).rcd = s.rcd := rfl
@[simp] theorem State.advance_loop : (s.advance t).loop = s.loop := rfl
@[simp] theorem State.advance_phases : (s.advance t).phases = s.phases := rfl
@[simp] theorem State.advance_tph : (s.advance t).tph = s.tph := rfl
@[simp] theorem State.advance_links : (s.advance t).links = s.links := rfl
@[simp] theorem State.advance_edge : (s.advance t).edge = s.edge := rfl
@[simp] theorem State.advance_trays : (s.advance t).trays = s.trays := rfl
@[simp] theorem State.advance_alloc : (s.advance t).alloc = s.alloc := rfl
@[simp] theorem State.advance_tows : (s.advance t).tows = s.tows := rfl
@[simp] theorem State.advance_est : (s.advance t).est = s.est := rfl
@[simp] theorem State.advance_feed : (s.advance t).feed = s.feed := rfl
@[simp] theorem State.advance_gov : (s.advance t).gov = s.gov := rfl
@[simp] theorem State.advance_gates : (s.advance t).gates = s.gates := rfl
@[simp] theorem State.advance_ev : (s.advance t).ev = s.ev := rfl
@[simp] theorem State.advance_tide : (s.advance t).tide = s.tide := rfl
@[simp] theorem State.advance_pair : (s.advance t).pair = s.pair := rfl
@[simp] theorem State.advance_sec : (s.advance t).sec = s.sec := rfl
@[simp] theorem State.advance_cal : (s.advance t).cal = s.cal := rfl
@[simp] theorem State.advance_grid : (s.advance t).grid = s.grid := rfl
@[simp] theorem State.advance_slots : (s.advance t).slots = s.slots := rfl
@[simp] theorem State.advance_dock : (s.advance t).dock = s.dock := rfl
@[simp] theorem State.advance_port : (s.advance t).port = s.port := rfl
@[simp] theorem State.advance_sess : (s.advance t).sess = s.sess := rfl
@[simp] theorem State.advance_clk : (s.advance t).clk = s.clk := rfl
@[simp] theorem State.advance_cap : (s.advance t).cap = s.cap := rfl
@[simp] theorem State.advance_now : (s.advance t).now = t := rfl
@[simp] theorem State.advance_running : (s.advance t).running = s.running := rfl
@[simp] theorem State.advance_cfgU (i j : Nat) : (s.advance t).cfgU i j = s.cfgU i j := rfl

end

section
variable (s : State) (t p : Nat) (f : Phase → Phase)

@[simp] theorem State.updPh_pending : (s.updPh t p f).pending = s.pending := rfl
@[simp] theorem State.updPh_freeCount : (s.updPh t p f).freeCount = s.freeCount := rfl
@[simp] theorem State.updPh_now : (s.updPh t p f).now = s.now := rfl
@[simp] theorem State.updPh_tx : (s.updPh t p f).tx = s.tx := rfl
@[simp] theorem State.updPh_hw : (s.updPh t p f).hw = s.hw := rfl
@[simp] theorem State.updPh_od : (s.updPh t p f).od = s.od := rfl
@[simp] theorem State.updPh_txn : (s.updPh t p f).txn = s.txn := rfl
@[simp] theorem State.updPh_fm : (s.updPh t p f).fm = s.fm := rfl
@[simp] theorem State.updPh_rcd : (s.updPh t p f).rcd = s.rcd := rfl
@[simp] theorem State.updPh_loop : (s.updPh t p f).loop = s.loop := rfl
@[simp] theorem State.updPh_tph : (s.updPh t p f).tph = s.tph := rfl
@[simp] theorem State.updPh_links : (s.updPh t p f).links = s.links := rfl
@[simp] theorem State.updPh_edge : (s.updPh t p f).edge = s.edge := rfl
@[simp] theorem State.updPh_trays : (s.updPh t p f).trays = s.trays := rfl
@[simp] theorem State.updPh_alloc : (s.updPh t p f).alloc = s.alloc := rfl
@[simp] theorem State.updPh_tows : (s.updPh t p f).tows = s.tows := rfl
@[simp] theorem State.updPh_est : (s.updPh t p f).est = s.est := rfl
@[simp] theorem State.updPh_feed : (s.updPh t p f).feed = s.feed := rfl
@[simp] theorem State.updPh_gov : (s.updPh t p f).gov = s.gov := rfl
@[simp] theorem State.updPh_gates : (s.updPh t p f).gates = s.gates := rfl
@[simp] theorem State.updPh_ev : (s.updPh t p f).ev = s.ev := rfl
@[simp] theorem State.updPh_tide : (s.updPh t p f).tide = s.tide := rfl
@[simp] theorem State.updPh_pair : (s.updPh t p f).pair = s.pair := rfl
@[simp] theorem State.updPh_sec : (s.updPh t p f).sec = s.sec := rfl
@[simp] theorem State.updPh_cal : (s.updPh t p f).cal = s.cal := rfl
@[simp] theorem State.updPh_grid : (s.updPh t p f).grid = s.grid := rfl
@[simp] theorem State.updPh_slots : (s.updPh t p f).slots = s.slots := rfl
@[simp] theorem State.updPh_dock : (s.updPh t p f).dock = s.dock := rfl
@[simp] theorem State.updPh_port : (s.updPh t p f).port = s.port := rfl
@[simp] theorem State.updPh_sess : (s.updPh t p f).sess = s.sess := rfl
@[simp] theorem State.updPh_clk : (s.updPh t p f).clk = s.clk := rfl
@[simp] theorem State.updPh_cap : (s.updPh t p f).cap = s.cap := rfl
@[simp] theorem State.updPh_phases : (s.updPh t p f).phases = upd s.phases t (fun l => upd l p f) := rfl
@[simp] theorem State.updPh_running : (s.updPh t p f).running = s.running := rfl
@[simp] theorem State.updPh_cfgU (i j : Nat) : (s.updPh t p f).cfgU i j = s.cfgU i j := rfl

end

section
variable (s : State) (t : Nat) (f : Phase → Phase)

@[simp] theorem State.updPhs_pending : (s.updPhs t f).pending = s.pending := rfl
@[simp] theorem State.updPhs_freeCount : (s.updPhs t f).freeCount = s.freeCount := rfl
@[simp] theorem State.updPhs_now : (s.updPhs t f).now = s.now := rfl
@[simp] theorem State.updPhs_tx : (s.updPhs t f).tx = s.tx := rfl
@[simp] theorem State.updPhs_hw : (s.updPhs t f).hw = s.hw := rfl
@[simp] theorem State.updPhs_od : (s.updPhs t f).od = s.od := rfl
@[simp] theorem State.updPhs_txn : (s.updPhs t f).txn = s.txn := rfl
@[simp] theorem State.updPhs_fm : (s.updPhs t f).fm = s.fm := rfl
@[simp] theorem State.updPhs_rcd : (s.updPhs t f).rcd = s.rcd := rfl
@[simp] theorem State.updPhs_loop : (s.updPhs t f).loop = s.loop := rfl
@[simp] theorem State.updPhs_tph : (s.updPhs t f).tph = s.tph := rfl
@[simp] theorem State.updPhs_links : (s.updPhs t f).links = s.links := rfl
@[simp] theorem State.updPhs_edge : (s.updPhs t f).edge = s.edge := rfl
@[simp] theorem State.updPhs_trays : (s.updPhs t f).trays = s.trays := rfl
@[simp] theorem State.updPhs_alloc : (s.updPhs t f).alloc = s.alloc := rfl
@[simp] theorem State.updPhs_tows : (s.updPhs t f).tows = s.tows := rfl
@[simp] theorem State.updPhs_est : (s.updPhs t f).est = s.est := rfl
@[simp] theorem State.updPhs_feed : (s.updPhs t f).feed = s.feed := rfl
@[simp] theorem State.updPhs_gov : (s.updPhs t f).gov = s.gov := rfl
@[simp] theorem State.updPhs_gates : (s.updPhs t f).gates = s.gates := rfl
@[simp] theorem State.updPhs_ev : (s.updPhs t f).ev = s.ev := rfl
@[simp] theorem State.updPhs_tide : (s.updPhs t f).tide = s.tide := rfl
@[simp] theorem State.updPhs_pair : (s.updPhs t f).pair = s.pair := rfl
@[simp] theorem State.updPhs_sec : (s.updPhs t f).sec = s.sec := rfl
@[simp] theorem State.updPhs_cal : (s.updPhs t f).cal = s.cal := rfl
@[simp] theorem State.updPhs_grid : (s.updPhs t f).grid = s.grid := rfl
@[simp] theorem State.updPhs_slots : (s.updPhs t f).slots = s.slots := rfl
@[simp] theorem State.updPhs_dock : (s.updPhs t f).dock = s.dock := rfl
@[simp] theorem State.updPhs_port : (s.updPhs t f).port = s.port := rfl
@[simp] theorem State.updPhs_sess : (s.updPhs t f).sess = s.sess := rfl
@[simp] theorem State.updPhs_clk : (s.updPhs t f).clk = s.clk := rfl
@[simp] theorem State.updPhs_cap : (s.updPhs t f).cap = s.cap := rfl
@[simp] theorem State.updPhs_phases : (s.updPhs t f).phases = upd s.phases t (fun l => l.map f) := rfl
@[simp] theorem State.updPhs_running : (s.updPhs t f).running = s.running := rfl
@[simp] theorem State.updPhs_cfgU (i j : Nat) : (s.updPhs t f).cfgU i j = s.cfgU i j := rfl

end

section
variable (s : State) (t : Nat) (f : TrayPh → TrayPh)

@[simp] theorem State.updTp_pending : (s.updTp t f).pending = s.pending := rfl
@[simp] theorem State.updTp_freeCount : (s.updTp t f).freeCount = s.freeCount := rfl
@[simp] theorem State.updTp_now : (s.updTp t f).now = s.now := rfl
@[simp] theorem State.updTp_tx : (s.updTp t f).tx = s.tx := rfl
@[simp] theorem State.updTp_hw : (s.updTp t f).hw = s.hw := rfl
@[simp] theorem State.updTp_od : (s.updTp t f).od = s.od := rfl
@[simp] theorem State.updTp_txn : (s.updTp t f).txn = s.txn := rfl
@[simp] theorem State.updTp_fm : (s.updTp t f).fm = s.fm := rfl
@[simp] theorem State.updTp_rcd : (s.updTp t f).rcd = s.rcd := rfl
@[simp] theorem State.updTp_loop : (s.updTp t f).loop = s.loop := rfl
@[simp] theorem State.updTp_phases : (s.updTp t f).phases = s.phases := rfl
@[simp] theorem State.updTp_links : (s.updTp t f).links = s.links := rfl
@[simp] theorem State.updTp_edge : (s.updTp t f).edge = s.edge := rfl
@[simp] theorem State.updTp_trays : (s.updTp t f).trays = s.trays := rfl
@[simp] theorem State.updTp_alloc : (s.updTp t f).alloc = s.alloc := rfl
@[simp] theorem State.updTp_tows : (s.updTp t f).tows = s.tows := rfl
@[simp] theorem State.updTp_est : (s.updTp t f).est = s.est := rfl
@[simp] theorem State.updTp_feed : (s.updTp t f).feed = s.feed := rfl
@[simp] theorem State.updTp_gov : (s.updTp t f).gov = s.gov := rfl
@[simp] theorem State.updTp_gates : (s.updTp t f).gates = s.gates := rfl
@[simp] theorem State.updTp_ev : (s.updTp t f).ev = s.ev := rfl
@[simp] theorem State.updTp_tide : (s.updTp t f).tide = s.tide := rfl
@[simp] theorem State.updTp_pair : (s.updTp t f).pair = s.pair := rfl
@[simp] theorem State.updTp_sec : (s.updTp t f).sec = s.sec := rfl
@[simp] theorem State.updTp_cal : (s.updTp t f).cal = s.cal := rfl
@[simp] theorem State.updTp_grid : (s.updTp t f).grid = s.grid := rfl
@[simp] theorem State.updTp_slots : (s.updTp t f).slots = s.slots := rfl
@[simp] theorem State.updTp_dock : (s.updTp t f).dock = s.dock := rfl
@[simp] theorem State.updTp_port : (s.updTp t f).port = s.port := rfl
@[simp] theorem State.updTp_sess : (s.updTp t f).sess = s.sess := rfl
@[simp] theorem State.updTp_clk : (s.updTp t f).clk = s.clk := rfl
@[simp] theorem State.updTp_cap : (s.updTp t f).cap = s.cap := rfl
@[simp] theorem State.updTp_tph : (s.updTp t f).tph = upd s.tph t f := rfl
@[simp] theorem State.updTp_running : (s.updTp t f).running = s.running := rfl
@[simp] theorem State.updTp_cfgU (i j : Nat) : (s.updTp t f).cfgU i j = s.cfgU i j := rfl

end

section
variable (s : State) (t : Nat) (f : Link → Link)

@[simp] theorem State.updLink_pending : (s.updLink t f).pending = s.pending := rfl
@[simp] theorem State.updLink_freeCount : (s.updLink t f).freeCount = s.freeCount := rfl
@[simp] theorem State.updLink_now : (s.updLink t f).now = s.now := rfl
@[simp] theorem State.updLink_tx : (s.updLink t f).tx = s.tx := rfl
@[simp] theorem State.updLink_hw : (s.updLink t f).hw = s.hw := rfl
@[simp] theorem State.updLink_od : (s.updLink t f).od = s.od := rfl
@[simp] theorem State.updLink_txn : (s.updLink t f).txn = s.txn := rfl
@[simp] theorem State.updLink_fm : (s.updLink t f).fm = s.fm := rfl
@[simp] theorem State.updLink_rcd : (s.updLink t f).rcd = s.rcd := rfl
@[simp] theorem State.updLink_loop : (s.updLink t f).loop = s.loop := rfl
@[simp] theorem State.updLink_phases : (s.updLink t f).phases = s.phases := rfl
@[simp] theorem State.updLink_tph : (s.updLink t f).tph = s.tph := rfl
@[simp] theorem State.updLink_edge : (s.updLink t f).edge = s.edge := rfl
@[simp] theorem State.updLink_trays : (s.updLink t f).trays = s.trays := rfl
@[simp] theorem State.updLink_alloc : (s.updLink t f).alloc = s.alloc := rfl
@[simp] theorem State.updLink_tows : (s.updLink t f).tows = s.tows := rfl
@[simp] theorem State.updLink_est : (s.updLink t f).est = s.est := rfl
@[simp] theorem State.updLink_feed : (s.updLink t f).feed = s.feed := rfl
@[simp] theorem State.updLink_gov : (s.updLink t f).gov = s.gov := rfl
@[simp] theorem State.updLink_gates : (s.updLink t f).gates = s.gates := rfl
@[simp] theorem State.updLink_ev : (s.updLink t f).ev = s.ev := rfl
@[simp] theorem State.updLink_tide : (s.updLink t f).tide = s.tide := rfl
@[simp] theorem State.updLink_pair : (s.updLink t f).pair = s.pair := rfl
@[simp] theorem State.updLink_sec : (s.updLink t f).sec = s.sec := rfl
@[simp] theorem State.updLink_cal : (s.updLink t f).cal = s.cal := rfl
@[simp] theorem State.updLink_grid : (s.updLink t f).grid = s.grid := rfl
@[simp] theorem State.updLink_slots : (s.updLink t f).slots = s.slots := rfl
@[simp] theorem State.updLink_dock : (s.updLink t f).dock = s.dock := rfl
@[simp] theorem State.updLink_port : (s.updLink t f).port = s.port := rfl
@[simp] theorem State.updLink_sess : (s.updLink t f).sess = s.sess := rfl
@[simp] theorem State.updLink_clk : (s.updLink t f).clk = s.clk := rfl
@[simp] theorem State.updLink_cap : (s.updLink t f).cap = s.cap := rfl
@[simp] theorem State.updLink_links : (s.updLink t f).links = upd s.links t f := rfl
@[simp] theorem State.updLink_running : (s.updLink t f).running = s.running := rfl
@[simp] theorem State.updLink_cfgU (i j : Nat) : (s.updLink t f).cfgU i j = s.cfgU i j := rfl

end

section
variable (s : State) (t : Nat) (f : Tray → Tray)

@[simp] theorem State.updTray_pending : (s.updTray t f).pending = s.pending := rfl
@[simp] theorem State.updTray_freeCount : (s.updTray t f).freeCount = s.freeCount := rfl
@[simp] theorem State.updTray_now : (s.updTray t f).now = s.now := rfl
@[simp] theorem State.updTray_tx : (s.updTray t f).tx = s.tx := rfl
@[simp] theorem State.updTray_hw : (s.updTray t f).hw = s.hw := rfl
@[simp] theorem State.updTray_od : (s.updTray t f).od = s.od := rfl
@[simp] theorem State.updTray_txn : (s.updTray t f).txn = s.txn := rfl
@[simp] theorem State.updTray_fm : (s.updTray t f).fm = s.fm := rfl
@[simp] theorem State.updTray_rcd : (s.updTray t f).rcd = s.rcd := rfl
@[simp] theorem State.updTray_loop : (s.updTray t f).loop = s.loop := rfl
@[simp] theorem State.updTray_phases : (s.updTray t f).phases = s.phases := rfl
@[simp] theorem State.updTray_tph : (s.updTray t f).tph = s.tph := rfl
@[simp] theorem State.updTray_links : (s.updTray t f).links = s.links := rfl
@[simp] theorem State.updTray_edge : (s.updTray t f).edge = s.edge := rfl
@[simp] theorem State.updTray_alloc : (s.updTray t f).alloc = s.alloc := rfl
@[simp] theorem State.updTray_tows : (s.updTray t f).tows = s.tows := rfl
@[simp] theorem State.updTray_est : (s.updTray t f).est = s.est := rfl
@[simp] theorem State.updTray_feed : (s.updTray t f).feed = s.feed := rfl
@[simp] theorem State.updTray_gov : (s.updTray t f).gov = s.gov := rfl
@[simp] theorem State.updTray_gates : (s.updTray t f).gates = s.gates := rfl
@[simp] theorem State.updTray_ev : (s.updTray t f).ev = s.ev := rfl
@[simp] theorem State.updTray_tide : (s.updTray t f).tide = s.tide := rfl
@[simp] theorem State.updTray_pair : (s.updTray t f).pair = s.pair := rfl
@[simp] theorem State.updTray_sec : (s.updTray t f).sec = s.sec := rfl
@[simp] theorem State.updTray_cal : (s.updTray t f).cal = s.cal := rfl
@[simp] theorem State.updTray_grid : (s.updTray t f).grid = s.grid := rfl
@[simp] theorem State.updTray_slots : (s.updTray t f).slots = s.slots := rfl
@[simp] theorem State.updTray_dock : (s.updTray t f).dock = s.dock := rfl
@[simp] theorem State.updTray_port : (s.updTray t f).port = s.port := rfl
@[simp] theorem State.updTray_sess : (s.updTray t f).sess = s.sess := rfl
@[simp] theorem State.updTray_clk : (s.updTray t f).clk = s.clk := rfl
@[simp] theorem State.updTray_cap : (s.updTray t f).cap = s.cap := rfl
@[simp] theorem State.updTray_trays : (s.updTray t f).trays = upd s.trays t f := rfl
@[simp] theorem State.updTray_running : (s.updTray t f).running = s.running := rfl
@[simp] theorem State.updTray_cfgU (i j : Nat) : (s.updTray t f).cfgU i j = s.cfgU i j := rfl

end

section
variable (s : State) (t : Nat) (f : Tow → Tow)

@[simp] theorem State.updTow_pending : (s.updTow t f).pending = s.pending := rfl
@[simp] theorem State.updTow_freeCount : (s.updTow t f).freeCount = s.freeCount := rfl
@[simp] theorem State.updTow_now : (s.updTow t f).now = s.now := rfl
@[simp] theorem State.updTow_tx : (s.updTow t f).tx = s.tx := rfl
@[simp] theorem State.updTow_hw : (s.updTow t f).hw = s.hw := rfl
@[simp] theorem State.updTow_od : (s.updTow t f).od = s.od := rfl
@[simp] theorem State.updTow_txn : (s.updTow t f).txn = s.txn := rfl
@[simp] theorem State.updTow_fm : (s.updTow t f).fm = s.fm := rfl
@[simp] theorem State.updTow_rcd : (s.updTow t f).rcd = s.rcd := rfl
@[simp] theorem State.updTow_loop : (s.updTow t f).loop = s.loop := rfl
@[simp] theorem State.updTow_phases : (s.updTow t f).phases = s.phases := rfl
@[simp] theorem State.updTow_tph : (s.updTow t f).tph = s.tph := rfl
@[simp] theorem State.updTow_links : (s.updTow t f).links = s.links := rfl
@[simp] theorem State.updTow_edge : (s.updTow t f).edge = s.edge := rfl
@[simp] theorem State.updTow_trays : (s.updTow t f).trays = s.trays := rfl
@[simp] theorem State.updTow_alloc : (s.updTow t f).alloc = s.alloc := rfl
@[simp] theorem State.updTow_est : (s.updTow t f).est = s.est := rfl
@[simp] theorem State.updTow_feed : (s.updTow t f).feed = s.feed := rfl
@[simp] theorem State.updTow_gov : (s.updTow t f).gov = s.gov := rfl
@[simp] theorem State.updTow_gates : (s.updTow t f).gates = s.gates := rfl
@[simp] theorem State.updTow_ev : (s.updTow t f).ev = s.ev := rfl
@[simp] theorem State.updTow_tide : (s.updTow t f).tide = s.tide := rfl
@[simp] theorem State.updTow_pair : (s.updTow t f).pair = s.pair := rfl
@[simp] theorem State.updTow_sec : (s.updTow t f).sec = s.sec := rfl
@[simp] theorem State.updTow_cal : (s.updTow t f).cal = s.cal := rfl
@[simp] theorem State.updTow_grid : (s.updTow t f).grid = s.grid := rfl
@[simp] theorem State.updTow_slots : (s.updTow t f).slots = s.slots := rfl
@[simp] theorem State.updTow_dock : (s.updTow t f).dock = s.dock := rfl
@[simp] theorem State.updTow_port : (s.updTow t f).port = s.port := rfl
@[simp] theorem State.updTow_sess : (s.updTow t f).sess = s.sess := rfl
@[simp] theorem State.updTow_clk : (s.updTow t f).clk = s.clk := rfl
@[simp] theorem State.updTow_cap : (s.updTow t f).cap = s.cap := rfl
@[simp] theorem State.updTow_tows : (s.updTow t f).tows = upd s.tows t f := rfl
@[simp] theorem State.updTow_running : (s.updTow t f).running = s.running := rfl
@[simp] theorem State.updTow_cfgU (i j : Nat) : (s.updTow t f).cfgU i j = s.cfgU i j := rfl

end

section
variable (s : State) (t : Nat) (f : Est → Est)

@[simp] theorem State.updEst_pending : (s.updEst t f).pending = s.pending := rfl
@[simp] theorem State.updEst_freeCount : (s.updEst t f).freeCount = s.freeCount := rfl
@[simp] theorem State.updEst_now : (s.updEst t f).now = s.now := rfl
@[simp] theorem State.updEst_tx : (s.updEst t f).tx = s.tx := rfl
@[simp] theorem State.updEst_hw : (s.updEst t f).hw = s.hw := rfl
@[simp] theorem State.updEst_od : (s.updEst t f).od = s.od := rfl
@[simp] theorem State.updEst_txn : (s.updEst t f).txn = s.txn := rfl
@[simp] theorem State.updEst_fm : (s.updEst t f).fm = s.fm := rfl
@[simp] theorem State.updEst_rcd : (s.updEst t f).rcd = s.rcd := rfl
@[simp] theorem State.updEst_loop : (s.updEst t f).loop = s.loop := rfl
@[simp] theorem State.updEst_phases : (s.updEst t f).phases = s.phases := rfl
@[simp] theorem State.updEst_tph : (s.updEst t f).tph = s.tph := rfl
@[simp] theorem State.updEst_links : (s.updEst t f).links = s.links := rfl
@[simp] theorem State.updEst_edge : (s.updEst t f).edge = s.edge := rfl
@[simp] theorem State.updEst_trays : (s.updEst t f).trays = s.trays := rfl
@[simp] theorem State.updEst_alloc : (s.updEst t f).alloc = s.alloc := rfl
@[simp] theorem State.updEst_tows : (s.updEst t f).tows = s.tows := rfl
@[simp] theorem State.updEst_feed : (s.updEst t f).feed = s.feed := rfl
@[simp] theorem State.updEst_gov : (s.updEst t f).gov = s.gov := rfl
@[simp] theorem State.updEst_gates : (s.updEst t f).gates = s.gates := rfl
@[simp] theorem State.updEst_ev : (s.updEst t f).ev = s.ev := rfl
@[simp] theorem State.updEst_tide : (s.updEst t f).tide = s.tide := rfl
@[simp] theorem State.updEst_pair : (s.updEst t f).pair = s.pair := rfl
@[simp] theorem State.updEst_sec : (s.updEst t f).sec = s.sec := rfl
@[simp] theorem State.updEst_cal : (s.updEst t f).cal = s.cal := rfl
@[simp] theorem State.updEst_grid : (s.updEst t f).grid = s.grid := rfl
@[simp] theorem State.updEst_slots : (s.updEst t f).slots = s.slots := rfl
@[simp] theorem State.updEst_dock : (s.updEst t f).dock = s.dock := rfl
@[simp] theorem State.updEst_port : (s.updEst t f).port = s.port := rfl
@[simp] theorem State.updEst_sess : (s.updEst t f).sess = s.sess := rfl
@[simp] theorem State.updEst_clk : (s.updEst t f).clk = s.clk := rfl
@[simp] theorem State.updEst_cap : (s.updEst t f).cap = s.cap := rfl
@[simp] theorem State.updEst_est : (s.updEst t f).est = upd s.est t f := rfl
@[simp] theorem State.updEst_running : (s.updEst t f).running = s.running := rfl
@[simp] theorem State.updEst_cfgU (i j : Nat) : (s.updEst t f).cfgU i j = s.cfgU i j := rfl

end

section
variable (s : State) (ses index sub : Nat)

@[simp] theorem State.violate_pending : (s.violate ses index sub).pending = s.pending := rfl
@[simp] theorem State.violate_freeCount : (s.violate ses index sub).freeCount = s.freeCount := rfl
@[simp] theorem State.violate_now : (s.violate ses index sub).now = s.now := rfl
@[simp] theorem State.violate_tx : (s.violate ses index sub).tx = s.tx := rfl
@[simp] theorem State.violate_hw : (s.violate ses index sub).hw = s.hw := rfl
@[simp] theorem State.violate_od : (s.violate ses index sub).od = s.od := rfl
@[simp] theorem State.violate_txn : (s.violate ses index sub).txn = s.txn := rfl
@[simp] theorem State.violate_fm : (s.violate ses index sub).fm = s.fm := rfl
@[simp] theorem State.violate_rcd : (s.violate ses index sub).rcd = s.rcd := rfl
@[simp] theorem State.violate_loop : (s.violate ses index sub).loop = s.loop := rfl
@[simp] theorem State.violate_phases : (s.violate ses index sub).phases = s.phases := rfl
@[simp] theorem State.violate_tph : (s.violate ses index sub).tph = s.tph := rfl
@[simp] theorem State.violate_links : (s.violate ses index sub).links = s.links := rfl
@[simp] theorem State.violate_edge : (s.violate ses index sub).edge = s.edge := rfl
@[simp] theorem State.violate_trays : (s.violate ses index sub).trays = s.trays := rfl
@[simp] theorem State.violate_alloc : (s.violate ses index sub).alloc = s.alloc := rfl
@[simp] theorem State.violate_tows : (s.violate ses index sub).tows = s.tows := rfl
@[simp] theorem State.violate_est : (s.violate ses index sub).est = s.est := rfl
@[simp] theorem State.violate_feed : (s.violate ses index sub).feed = s.feed := rfl
@[simp] theorem State.violate_gov : (s.violate ses index sub).gov = s.gov := rfl
@[simp] theorem State.violate_gates : (s.violate ses index sub).gates = s.gates := rfl
@[simp] theorem State.violate_ev : (s.violate ses index sub).ev = s.ev := rfl
@[simp] theorem State.violate_tide : (s.violate ses index sub).tide = s.tide := rfl
@[simp] theorem State.violate_pair : (s.violate ses index sub).pair = s.pair := rfl
@[simp] theorem State.violate_sec : (s.violate ses index sub).sec = s.sec := rfl
@[simp] theorem State.violate_cal : (s.violate ses index sub).cal = s.cal := rfl
@[simp] theorem State.violate_grid : (s.violate ses index sub).grid = s.grid := rfl
@[simp] theorem State.violate_slots : (s.violate ses index sub).slots = s.slots := rfl
@[simp] theorem State.violate_dock : (s.violate ses index sub).dock = s.dock := rfl
@[simp] theorem State.violate_port : (s.violate ses index sub).port = s.port := rfl
@[simp] theorem State.violate_clk : (s.violate ses index sub).clk = s.clk := rfl
@[simp] theorem State.violate_cap : (s.violate ses index sub).cap = s.cap := rfl
@[simp] theorem State.violate_sess : (s.violate ses index sub).sess = upd s.sess ses fun x => { x with viol := sat32 (x.viol + 1), violObj := index + 65536 * sub } := rfl
@[simp] theorem State.violate_running : (s.violate ses index sub).running = s.running := rfl
@[simp] theorem State.violate_cfgU (i j : Nat) : (s.violate ses index sub).cfgU i j = s.cfgU i j := rfl

end

section
variable (s : State) (code inst : Nat) (data : Bytes)

@[simp] theorem State.raiseWith_pending : (s.raiseWith code inst data).pending = s.pending := rfl
@[simp] theorem State.raiseWith_freeCount : (s.raiseWith code inst data).freeCount = s.freeCount := rfl
@[simp] theorem State.raiseWith_now : (s.raiseWith code inst data).now = s.now := rfl
@[simp] theorem State.raiseWith_tx : (s.raiseWith code inst data).tx = s.tx := rfl
@[simp] theorem State.raiseWith_hw : (s.raiseWith code inst data).hw = s.hw := rfl
@[simp] theorem State.raiseWith_od : (s.raiseWith code inst data).od = s.od := rfl
@[simp] theorem State.raiseWith_txn : (s.raiseWith code inst data).txn = s.txn := rfl
@[simp] theorem State.raiseWith_rcd : (s.raiseWith code inst data).rcd = s.rcd := rfl
@[simp] theorem State.raiseWith_loop : (s.raiseWith code inst data).loop = s.loop := rfl
@[simp] theorem State.raiseWith_phases : (s.raiseWith code inst data).phases = s.phases := rfl
@[simp] theorem State.raiseWith_tph : (s.raiseWith code inst data).tph = s.tph := rfl
@[simp] theorem State.raiseWith_links : (s.raiseWith code inst data).links = s.links := rfl
@[simp] theorem State.raiseWith_edge : (s.raiseWith code inst data).edge = s.edge := rfl
@[simp] theorem State.raiseWith_trays : (s.raiseWith code inst data).trays = s.trays := rfl
@[simp] theorem State.raiseWith_alloc : (s.raiseWith code inst data).alloc = s.alloc := rfl
@[simp] theorem State.raiseWith_tows : (s.raiseWith code inst data).tows = s.tows := rfl
@[simp] theorem State.raiseWith_est : (s.raiseWith code inst data).est = s.est := rfl
@[simp] theorem State.raiseWith_feed : (s.raiseWith code inst data).feed = s.feed := rfl
@[simp] theorem State.raiseWith_gov : (s.raiseWith code inst data).gov = s.gov := rfl
@[simp] theorem State.raiseWith_gates : (s.raiseWith code inst data).gates = s.gates := rfl
@[simp] theorem State.raiseWith_ev : (s.raiseWith code inst data).ev = s.ev := rfl
@[simp] theorem State.raiseWith_tide : (s.raiseWith code inst data).tide = s.tide := rfl
@[simp] theorem State.raiseWith_pair : (s.raiseWith code inst data).pair = s.pair := rfl
@[simp] theorem State.raiseWith_sec : (s.raiseWith code inst data).sec = s.sec := rfl
@[simp] theorem State.raiseWith_cal : (s.raiseWith code inst data).cal = s.cal := rfl
@[simp] theorem State.raiseWith_grid : (s.raiseWith code inst data).grid = s.grid := rfl
@[simp] theorem State.raiseWith_slots : (s.raiseWith code inst data).slots = s.slots := rfl
@[simp] theorem State.raiseWith_dock : (s.raiseWith code inst data).dock = s.dock := rfl
@[simp] theorem State.raiseWith_port : (s.raiseWith code inst data).port = s.port := rfl
@[simp] theorem State.raiseWith_sess : (s.raiseWith code inst data).sess = s.sess := rfl
@[simp] theorem State.raiseWith_clk : (s.raiseWith code inst data).clk = s.clk := rfl
@[simp] theorem State.raiseWith_cap : (s.raiseWith code inst data).cap = s.cap := rfl
@[simp] theorem State.raiseWith_fm_inFlight : (s.raiseWith code inst data).fm.inFlight = s.fm.inFlight ++ [⟨code, inst, s.context, s.now, data, 1, 0, false⟩] := rfl
@[simp] theorem State.raiseWith_running : (s.raiseWith code inst data).running = s.running := rfl
@[simp] theorem State.raiseWith_cfgU (i j : Nat) : (s.raiseWith code inst data).cfgU i j = s.cfgU i j := rfl
@[simp] theorem State.raiseWith_fm_running : (s.raiseWith code inst data).fm.running = s.fm.running := rfl
@[simp] theorem State.raiseWith_fm_stack : (s.raiseWith code inst data).fm.stack = s.fm.stack := rfl
@[simp] theorem State.raiseWith_fm_queue : (s.raiseWith code inst data).fm.queue = s.fm.queue := rfl
@[simp] theorem State.raiseWith_fm_active : (s.raiseWith code inst data).fm.active = s.fm.active := rfl
@[simp] theorem State.raiseWith_fm_faultOut : (s.raiseWith code inst data).fm.faultOut = s.fm.faultOut := rfl
@[simp] theorem State.raiseWith_fm_watchdog : (s.raiseWith code inst data).fm.watchdog = s.fm.watchdog := rfl

end

section
variable (s : State) (code inst : Nat)

@[simp] theorem State.raise_pending : (s.raise code inst).pending = s.pending := rfl
@[simp] theorem State.raise_freeCount : (s.raise code inst).freeCount = s.freeCount := rfl
@[simp] theorem State.raise_now : (s.raise code inst).now = s.now := rfl
@[simp] theorem State.raise_tx : (s.raise code inst).tx = s.tx := rfl
@[simp] theorem State.raise_hw : (s.raise code inst).hw = s.hw := rfl
@[simp] theorem State.raise_od : (s.raise code inst).od = s.od := rfl
@[simp] theorem State.raise_txn : (s.raise code inst).txn = s.txn := rfl
@[simp] theorem State.raise_rcd : (s.raise code inst).rcd = s.rcd := rfl
@[simp] theorem State.raise_loop : (s.raise code inst).loop = s.loop := rfl
@[simp] theorem State.raise_phases : (s.raise code inst).phases = s.phases := rfl
@[simp] theorem State.raise_tph : (s.raise code inst).tph = s.tph := rfl
@[simp] theorem State.raise_links : (s.raise code inst).links = s.links := rfl
@[simp] theorem State.raise_edge : (s.raise code inst).edge = s.edge := rfl
@[simp] theorem State.raise_trays : (s.raise code inst).trays = s.trays := rfl
@[simp] theorem State.raise_alloc : (s.raise code inst).alloc = s.alloc := rfl
@[simp] theorem State.raise_tows : (s.raise code inst).tows = s.tows := rfl
@[simp] theorem State.raise_est : (s.raise code inst).est = s.est := rfl
@[simp] theorem State.raise_feed : (s.raise code inst).feed = s.feed := rfl
@[simp] theorem State.raise_gov : (s.raise code inst).gov = s.gov := rfl
@[simp] theorem State.raise_gates : (s.raise code inst).gates = s.gates := rfl
@[simp] theorem State.raise_ev : (s.raise code inst).ev = s.ev := rfl
@[simp] theorem State.raise_tide : (s.raise code inst).tide = s.tide := rfl
@[simp] theorem State.raise_pair : (s.raise code inst).pair = s.pair := rfl
@[simp] theorem State.raise_sec : (s.raise code inst).sec = s.sec := rfl
@[simp] theorem State.raise_cal : (s.raise code inst).cal = s.cal := rfl
@[simp] theorem State.raise_grid : (s.raise code inst).grid = s.grid := rfl
@[simp] theorem State.raise_slots : (s.raise code inst).slots = s.slots := rfl
@[simp] theorem State.raise_dock : (s.raise code inst).dock = s.dock := rfl
@[simp] theorem State.raise_port : (s.raise code inst).port = s.port := rfl
@[simp] theorem State.raise_sess : (s.raise code inst).sess = s.sess := rfl
@[simp] theorem State.raise_clk : (s.raise code inst).clk = s.clk := rfl
@[simp] theorem State.raise_cap : (s.raise code inst).cap = s.cap := rfl
@[simp] theorem State.raise_fm_inFlight : (s.raise code inst).fm.inFlight = s.fm.inFlight ++ [⟨code, inst, s.context, s.now, le 8 s.now, 1, 0, false⟩] := rfl
@[simp] theorem State.raise_running : (s.raise code inst).running = s.running := rfl
@[simp] theorem State.raise_cfgU (i j : Nat) : (s.raise code inst).cfgU i j = s.cfgU i j := rfl
@[simp] theorem State.raise_fm_running : (s.raise code inst).fm.running = s.fm.running := rfl
@[simp] theorem State.raise_fm_stack : (s.raise code inst).fm.stack = s.fm.stack := rfl
@[simp] theorem State.raise_fm_queue : (s.raise code inst).fm.queue = s.fm.queue := rfl
@[simp] theorem State.raise_fm_active : (s.raise code inst).fm.active = s.fm.active := rfl
@[simp] theorem State.raise_fm_faultOut : (s.raise code inst).fm.faultOut = s.fm.faultOut := rfl
@[simp] theorem State.raise_fm_watchdog : (s.raise code inst).fm.watchdog = s.fm.watchdog := rfl

end

/-! ### Sending and asserting FAULT_OUT, field by field -/

section
variable (s : State) (x : Tx)

@[simp] theorem State.send_pending : (s.send x).pending = s.pending := by unfold State.send; split <;> rfl
@[simp] theorem State.send_freeCount : (s.send x).freeCount = s.freeCount := by unfold State.send; split <;> rfl
@[simp] theorem State.send_now : (s.send x).now = s.now := by unfold State.send; split <;> rfl
@[simp] theorem State.send_hw : (s.send x).hw = s.hw := by unfold State.send; split <;> rfl
@[simp] theorem State.send_od : (s.send x).od = s.od := by unfold State.send; split <;> rfl
@[simp] theorem State.send_txn : (s.send x).txn = s.txn := by unfold State.send; split <;> rfl
@[simp] theorem State.send_fm : (s.send x).fm = s.fm := by unfold State.send; split <;> rfl
@[simp] theorem State.send_rcd : (s.send x).rcd = s.rcd := by unfold State.send; split <;> rfl
@[simp] theorem State.send_loop : (s.send x).loop = s.loop := by unfold State.send; split <;> rfl
@[simp] theorem State.send_phases : (s.send x).phases = s.phases := by unfold State.send; split <;> rfl
@[simp] theorem State.send_tph : (s.send x).tph = s.tph := by unfold State.send; split <;> rfl
@[simp] theorem State.send_links : (s.send x).links = s.links := by unfold State.send; split <;> rfl
@[simp] theorem State.send_edge : (s.send x).edge = s.edge := by unfold State.send; split <;> rfl
@[simp] theorem State.send_trays : (s.send x).trays = s.trays := by unfold State.send; split <;> rfl
@[simp] theorem State.send_alloc : (s.send x).alloc = s.alloc := by unfold State.send; split <;> rfl
@[simp] theorem State.send_tows : (s.send x).tows = s.tows := by unfold State.send; split <;> rfl
@[simp] theorem State.send_est : (s.send x).est = s.est := by unfold State.send; split <;> rfl
@[simp] theorem State.send_feed : (s.send x).feed = s.feed := by unfold State.send; split <;> rfl
@[simp] theorem State.send_gov : (s.send x).gov = s.gov := by unfold State.send; split <;> rfl
@[simp] theorem State.send_gates : (s.send x).gates = s.gates := by unfold State.send; split <;> rfl
@[simp] theorem State.send_ev : (s.send x).ev = s.ev := by unfold State.send; split <;> rfl
@[simp] theorem State.send_tide : (s.send x).tide = s.tide := by unfold State.send; split <;> rfl
@[simp] theorem State.send_pair : (s.send x).pair = s.pair := by unfold State.send; split <;> rfl
@[simp] theorem State.send_sec : (s.send x).sec = s.sec := by unfold State.send; split <;> rfl
@[simp] theorem State.send_cal : (s.send x).cal = s.cal := by unfold State.send; split <;> rfl
@[simp] theorem State.send_grid : (s.send x).grid = s.grid := by unfold State.send; split <;> rfl
@[simp] theorem State.send_slots : (s.send x).slots = s.slots := by unfold State.send; split <;> rfl
@[simp] theorem State.send_dock : (s.send x).dock = s.dock := by unfold State.send; split <;> rfl
@[simp] theorem State.send_port : (s.send x).port = s.port := by unfold State.send; split <;> rfl
@[simp] theorem State.send_sess : (s.send x).sess = s.sess := by unfold State.send; split <;> rfl
@[simp] theorem State.send_clk : (s.send x).clk = s.clk := by unfold State.send; split <;> rfl
@[simp] theorem State.send_cap : (s.send x).cap = s.cap := by unfold State.send; split <;> rfl
@[simp] theorem State.sendJ1_pending : (s.sendJ1 x).pending = s.pending := by unfold State.sendJ1; split <;> rfl
@[simp] theorem State.sendJ1_freeCount : (s.sendJ1 x).freeCount = s.freeCount := by unfold State.sendJ1; split <;> rfl
@[simp] theorem State.sendJ1_now : (s.sendJ1 x).now = s.now := by unfold State.sendJ1; split <;> rfl
@[simp] theorem State.sendJ1_hw : (s.sendJ1 x).hw = s.hw := by unfold State.sendJ1; split <;> rfl
@[simp] theorem State.sendJ1_od : (s.sendJ1 x).od = s.od := by unfold State.sendJ1; split <;> rfl
@[simp] theorem State.sendJ1_txn : (s.sendJ1 x).txn = s.txn := by unfold State.sendJ1; split <;> rfl
@[simp] theorem State.sendJ1_fm : (s.sendJ1 x).fm = s.fm := by unfold State.sendJ1; split <;> rfl
@[simp] theorem State.sendJ1_rcd : (s.sendJ1 x).rcd = s.rcd := by unfold State.sendJ1; split <;> rfl
@[simp] theorem State.sendJ1_loop : (s.sendJ1 x).loop = s.loop := by unfold State.sendJ1; split <;> rfl
@[simp] theorem State.sendJ1_phases : (s.sendJ1 x).phases = s.phases := by unfold State.sendJ1; split <;> rfl
@[simp] theorem State.sendJ1_tph : (s.sendJ1 x).tph = s.tph := by unfold State.sendJ1; split <;> rfl
@[simp] theorem State.sendJ1_links : (s.sendJ1 x).links = s.links := by unfold State.sendJ1; split <;> rfl
@[simp] theorem State.sendJ1_edge : (s.sendJ1 x).edge = s.edge := by unfold State.sendJ1; split <;> rfl
@[simp] theorem State.sendJ1_trays : (s.sendJ1 x).trays = s.trays := by unfold State.sendJ1; split <;> rfl
@[simp] theorem State.sendJ1_alloc : (s.sendJ1 x).alloc = s.alloc := by unfold State.sendJ1; split <;> rfl
@[simp] theorem State.sendJ1_tows : (s.sendJ1 x).tows = s.tows := by unfold State.sendJ1; split <;> rfl
@[simp] theorem State.sendJ1_est : (s.sendJ1 x).est = s.est := by unfold State.sendJ1; split <;> rfl
@[simp] theorem State.sendJ1_feed : (s.sendJ1 x).feed = s.feed := by unfold State.sendJ1; split <;> rfl
@[simp] theorem State.sendJ1_gov : (s.sendJ1 x).gov = s.gov := by unfold State.sendJ1; split <;> rfl
@[simp] theorem State.sendJ1_gates : (s.sendJ1 x).gates = s.gates := by unfold State.sendJ1; split <;> rfl
@[simp] theorem State.sendJ1_ev : (s.sendJ1 x).ev = s.ev := by unfold State.sendJ1; split <;> rfl
@[simp] theorem State.sendJ1_tide : (s.sendJ1 x).tide = s.tide := by unfold State.sendJ1; split <;> rfl
@[simp] theorem State.sendJ1_pair : (s.sendJ1 x).pair = s.pair := by unfold State.sendJ1; split <;> rfl
@[simp] theorem State.sendJ1_sec : (s.sendJ1 x).sec = s.sec := by unfold State.sendJ1; split <;> rfl
@[simp] theorem State.sendJ1_cal : (s.sendJ1 x).cal = s.cal := by unfold State.sendJ1; split <;> rfl
@[simp] theorem State.sendJ1_grid : (s.sendJ1 x).grid = s.grid := by unfold State.sendJ1; split <;> rfl
@[simp] theorem State.sendJ1_slots : (s.sendJ1 x).slots = s.slots := by unfold State.sendJ1; split <;> rfl
@[simp] theorem State.sendJ1_dock : (s.sendJ1 x).dock = s.dock := by unfold State.sendJ1; split <;> rfl
@[simp] theorem State.sendJ1_sess : (s.sendJ1 x).sess = s.sess := by unfold State.sendJ1; split <;> rfl
@[simp] theorem State.sendJ1_clk : (s.sendJ1 x).clk = s.clk := by unfold State.sendJ1; split <;> rfl
@[simp] theorem State.sendJ1_cap : (s.sendJ1 x).cap = s.cap := by unfold State.sendJ1; split <;> rfl

end

section
variable (s : State) (t typ : Nat) (p : Bytes)

@[simp] theorem State.sendPaddle_pending : (s.sendPaddle t typ p).pending = s.pending := by unfold State.sendPaddle; split <;> simp
@[simp] theorem State.sendPaddle_freeCount : (s.sendPaddle t typ p).freeCount = s.freeCount := by unfold State.sendPaddle; split <;> simp
@[simp] theorem State.sendPaddle_now : (s.sendPaddle t typ p).now = s.now := by unfold State.sendPaddle; split <;> simp
@[simp] theorem State.sendPaddle_hw : (s.sendPaddle t typ p).hw = s.hw := by unfold State.sendPaddle; split <;> simp
@[simp] theorem State.sendPaddle_od : (s.sendPaddle t typ p).od = s.od := by unfold State.sendPaddle; split <;> simp
@[simp] theorem State.sendPaddle_txn : (s.sendPaddle t typ p).txn = s.txn := by unfold State.sendPaddle; split <;> simp
@[simp] theorem State.sendPaddle_fm : (s.sendPaddle t typ p).fm = s.fm := by unfold State.sendPaddle; split <;> simp
@[simp] theorem State.sendPaddle_rcd : (s.sendPaddle t typ p).rcd = s.rcd := by unfold State.sendPaddle; split <;> simp
@[simp] theorem State.sendPaddle_loop : (s.sendPaddle t typ p).loop = s.loop := by unfold State.sendPaddle; split <;> simp
@[simp] theorem State.sendPaddle_phases : (s.sendPaddle t typ p).phases = s.phases := by unfold State.sendPaddle; split <;> simp
@[simp] theorem State.sendPaddle_tph : (s.sendPaddle t typ p).tph = s.tph := by unfold State.sendPaddle; split <;> simp
@[simp] theorem State.sendPaddle_edge : (s.sendPaddle t typ p).edge = s.edge := by unfold State.sendPaddle; split <;> simp
@[simp] theorem State.sendPaddle_trays : (s.sendPaddle t typ p).trays = s.trays := by unfold State.sendPaddle; split <;> simp
@[simp] theorem State.sendPaddle_alloc : (s.sendPaddle t typ p).alloc = s.alloc := by unfold State.sendPaddle; split <;> simp
@[simp] theorem State.sendPaddle_tows : (s.sendPaddle t typ p).tows = s.tows := by unfold State.sendPaddle; split <;> simp
@[simp] theorem State.sendPaddle_est : (s.sendPaddle t typ p).est = s.est := by unfold State.sendPaddle; split <;> simp
@[simp] theorem State.sendPaddle_feed : (s.sendPaddle t typ p).feed = s.feed := by unfold State.sendPaddle; split <;> simp
@[simp] theorem State.sendPaddle_gov : (s.sendPaddle t typ p).gov = s.gov := by unfold State.sendPaddle; split <;> simp
@[simp] theorem State.sendPaddle_gates : (s.sendPaddle t typ p).gates = s.gates := by unfold State.sendPaddle; split <;> simp
@[simp] theorem State.sendPaddle_ev : (s.sendPaddle t typ p).ev = s.ev := by unfold State.sendPaddle; split <;> simp
@[simp] theorem State.sendPaddle_tide : (s.sendPaddle t typ p).tide = s.tide := by unfold State.sendPaddle; split <;> simp
@[simp] theorem State.sendPaddle_pair : (s.sendPaddle t typ p).pair = s.pair := by unfold State.sendPaddle; split <;> simp
@[simp] theorem State.sendPaddle_sec : (s.sendPaddle t typ p).sec = s.sec := by unfold State.sendPaddle; split <;> simp
@[simp] theorem State.sendPaddle_cal : (s.sendPaddle t typ p).cal = s.cal := by unfold State.sendPaddle; split <;> simp
@[simp] theorem State.sendPaddle_grid : (s.sendPaddle t typ p).grid = s.grid := by unfold State.sendPaddle; split <;> simp
@[simp] theorem State.sendPaddle_slots : (s.sendPaddle t typ p).slots = s.slots := by unfold State.sendPaddle; split <;> simp
@[simp] theorem State.sendPaddle_dock : (s.sendPaddle t typ p).dock = s.dock := by unfold State.sendPaddle; split <;> simp
@[simp] theorem State.sendPaddle_port : (s.sendPaddle t typ p).port = s.port := by unfold State.sendPaddle; split <;> simp
@[simp] theorem State.sendPaddle_sess : (s.sendPaddle t typ p).sess = s.sess := by unfold State.sendPaddle; split <;> simp
@[simp] theorem State.sendPaddle_clk : (s.sendPaddle t typ p).clk = s.clk := by unfold State.sendPaddle; split <;> simp
@[simp] theorem State.sendPaddle_cap : (s.sendPaddle t typ p).cap = s.cap := by unfold State.sendPaddle; split <;> simp

end

section
variable (s : State) (code : Nat)

@[simp] theorem State.assertFaultOut_pending : (s.assertFaultOut code).pending = s.pending := by unfold State.assertFaultOut; split <;> rfl
@[simp] theorem State.assertFaultOut_freeCount : (s.assertFaultOut code).freeCount = s.freeCount := by unfold State.assertFaultOut; split <;> rfl
@[simp] theorem State.assertFaultOut_now : (s.assertFaultOut code).now = s.now := by unfold State.assertFaultOut; split <;> rfl
@[simp] theorem State.assertFaultOut_tx : (s.assertFaultOut code).tx = s.tx := by unfold State.assertFaultOut; split <;> rfl
@[simp] theorem State.assertFaultOut_hw : (s.assertFaultOut code).hw = s.hw := by unfold State.assertFaultOut; split <;> rfl
@[simp] theorem State.assertFaultOut_od : (s.assertFaultOut code).od = s.od := by unfold State.assertFaultOut; split <;> rfl
@[simp] theorem State.assertFaultOut_txn : (s.assertFaultOut code).txn = s.txn := by unfold State.assertFaultOut; split <;> rfl
@[simp] theorem State.assertFaultOut_rcd : (s.assertFaultOut code).rcd = s.rcd := by unfold State.assertFaultOut; split <;> rfl
@[simp] theorem State.assertFaultOut_loop : (s.assertFaultOut code).loop = s.loop := by unfold State.assertFaultOut; split <;> rfl
@[simp] theorem State.assertFaultOut_phases : (s.assertFaultOut code).phases = s.phases := by unfold State.assertFaultOut; split <;> rfl
@[simp] theorem State.assertFaultOut_tph : (s.assertFaultOut code).tph = s.tph := by unfold State.assertFaultOut; split <;> rfl
@[simp] theorem State.assertFaultOut_links : (s.assertFaultOut code).links = s.links := by unfold State.assertFaultOut; split <;> rfl
@[simp] theorem State.assertFaultOut_edge : (s.assertFaultOut code).edge = s.edge := by unfold State.assertFaultOut; split <;> rfl
@[simp] theorem State.assertFaultOut_trays : (s.assertFaultOut code).trays = s.trays := by unfold State.assertFaultOut; split <;> rfl
@[simp] theorem State.assertFaultOut_alloc : (s.assertFaultOut code).alloc = s.alloc := by unfold State.assertFaultOut; split <;> rfl
@[simp] theorem State.assertFaultOut_tows : (s.assertFaultOut code).tows = s.tows := by unfold State.assertFaultOut; split <;> rfl
@[simp] theorem State.assertFaultOut_est : (s.assertFaultOut code).est = s.est := by unfold State.assertFaultOut; split <;> rfl
@[simp] theorem State.assertFaultOut_feed : (s.assertFaultOut code).feed = s.feed := by unfold State.assertFaultOut; split <;> rfl
@[simp] theorem State.assertFaultOut_gov : (s.assertFaultOut code).gov = s.gov := by unfold State.assertFaultOut; split <;> rfl
@[simp] theorem State.assertFaultOut_gates : (s.assertFaultOut code).gates = s.gates := by unfold State.assertFaultOut; split <;> rfl
@[simp] theorem State.assertFaultOut_ev : (s.assertFaultOut code).ev = s.ev := by unfold State.assertFaultOut; split <;> rfl
@[simp] theorem State.assertFaultOut_tide : (s.assertFaultOut code).tide = s.tide := by unfold State.assertFaultOut; split <;> rfl
@[simp] theorem State.assertFaultOut_sec : (s.assertFaultOut code).sec = s.sec := by unfold State.assertFaultOut; split <;> rfl
@[simp] theorem State.assertFaultOut_cal : (s.assertFaultOut code).cal = s.cal := by unfold State.assertFaultOut; split <;> rfl
@[simp] theorem State.assertFaultOut_grid : (s.assertFaultOut code).grid = s.grid := by unfold State.assertFaultOut; split <;> rfl
@[simp] theorem State.assertFaultOut_slots : (s.assertFaultOut code).slots = s.slots := by unfold State.assertFaultOut; split <;> rfl
@[simp] theorem State.assertFaultOut_dock : (s.assertFaultOut code).dock = s.dock := by unfold State.assertFaultOut; split <;> rfl
@[simp] theorem State.assertFaultOut_sess : (s.assertFaultOut code).sess = s.sess := by unfold State.assertFaultOut; split <;> rfl
@[simp] theorem State.assertFaultOut_clk : (s.assertFaultOut code).clk = s.clk := by unfold State.assertFaultOut; split <;> rfl
@[simp] theorem State.assertFaultOut_cap : (s.assertFaultOut code).cap = s.cap := by unfold State.assertFaultOut; split <;> rfl

end

/-! ### Instances: read after write -/

theorem State.tray_updTray_same (s : State) (t : Nat) (f : Tray → Tray) (h : t < s.trays.length) :
    (s.updTray t f).tray t = f (s.tray t) := get_upd_same _ _ _ _ h

theorem State.tray_updTray_other (s : State) (t u : Nat) (f : Tray → Tray) (h : t ≠ u) :
    (s.updTray t f).tray u = s.tray u := get_upd_other _ _ _ _ _ h

theorem State.tow_updTow_same (s : State) (t : Nat) (f : Tow → Tow) (h : t < s.tows.length) :
    (s.updTow t f).tow t = f (s.tow t) := get_upd_same _ _ _ _ h

theorem State.tow_updTow_other (s : State) (t u : Nat) (f : Tow → Tow) (h : t ≠ u) :
    (s.updTow t f).tow u = s.tow u := get_upd_other _ _ _ _ _ h

theorem State.link_updLink_same (s : State) (t : Nat) (f : Link → Link) (h : t < s.links.length) :
    (s.updLink t f).link t = f (s.link t) := get_upd_same _ _ _ _ h

theorem State.link_updLink_other (s : State) (t u : Nat) (f : Link → Link) (h : t ≠ u) :
    (s.updLink t f).link u = s.link u := get_upd_other _ _ _ _ _ h

theorem State.tp_updTp_same (s : State) (t : Nat) (f : TrayPh → TrayPh) (h : t < s.tph.length) :
    (s.updTp t f).tp t = f (s.tp t) := get_upd_same _ _ _ _ h

theorem State.tp_updTp_other (s : State) (t u : Nat) (f : TrayPh → TrayPh) (h : t ≠ u) :
    (s.updTp t f).tp u = s.tp u := get_upd_other _ _ _ _ _ h

theorem State.estOf_updEst_same (s : State) (t : Nat) (f : Est → Est) (h : t < s.est.length) :
    (s.updEst t f).estOf t = f (s.estOf t) := get_upd_same _ _ _ _ h

theorem State.estOf_updEst_other (s : State) (t u : Nat) (f : Est → Est) (h : t ≠ u) :
    (s.updEst t f).estOf u = s.estOf u := get_upd_other _ _ _ _ _ h

theorem State.ph_updPh_same (s : State) (t p : Nat) (f : Phase → Phase) (h : t < s.phases.length)
    (hp : p < (s.phs t).length) : (s.updPh t p f).ph t p = f (s.ph t p) := by
  unfold State.ph State.phs at *
  rw [State.updPh_phases, get_upd_same _ _ _ _ h, get_upd_same _ _ _ _ hp]

theorem State.ph_updPh_other (s : State) (t p u q : Nat) (f : Phase → Phase) (h : t ≠ u ∨ p ≠ q) :
    (s.updPh t p f).ph u q = s.ph u q := by
  unfold State.ph
  rw [State.updPh_phases]
  by_cases ht : t = u
  · subst ht
    have hp : p ≠ q := h.resolve_left (fun h => h rfl)
    by_cases hl : t < s.phases.length
    · rw [get_upd_same _ _ _ _ hl, get_upd_other _ _ _ _ _ hp]
    · rw [upd_absent _ _ _ (by omega)]
  · rw [get_upd_other _ _ _ _ _ ht]

/-! ### Settings: read after write -/

/-- The entry found for a key after it was inserted. -/
theorem find_ins_same {α : Type} (l : List (Nat × α)) (k : Nat) (v : α) (hk : ∀ e ∈ l, e.1 ≠ k) :
    (Store.ins k v l).find? (fun e => e.1 == k) = some (k, v) := by
  induction l with
  | nil => simp [Store.ins]
  | cons a l ih =>
    obtain ⟨k', w⟩ := a
    have hne : k' ≠ k := hk (k', w) (List.mem_cons_self ..)
    unfold Store.ins
    split
    · simp
    · simp [hne, ih fun e he => hk e (List.mem_cons_of_mem _ he)]

theorem find_ins_other {α : Type} (l : List (Nat × α)) (k j : Nat) (v : α) (h : j ≠ k) :
    (Store.ins k v l).find? (fun e => e.1 == j) = l.find? (fun e => e.1 == j) := by
  induction l with
  | nil => simp [Store.ins, Ne.symm h]
  | cons a l ih =>
    obtain ⟨k', w⟩ := a
    unfold Store.ins
    split
    · simp [Ne.symm h]
    · simp only [List.find?_cons, ih]

theorem find_del_same {α : Type} (l : List (Nat × α)) (k : Nat) :
    (Store.del l k).find? (fun e => e.1 == k) = none := by
  simp [Store.del, List.find?_eq_none]

theorem find_del_other {α : Type} (l : List (Nat × α)) (k j : Nat) (h : j ≠ k) :
    (Store.del l k).find? (fun e => e.1 == j) = l.find? (fun e => e.1 == j) := by
  induction l with
  | nil => rfl
  | cons a l ih =>
    by_cases hk : a.1 = k
    · have hj : ¬ a.1 = j := fun e => h (e.symm.trans hk)
      have : Store.del (a :: l) k = Store.del l k := by simp [Store.del, hk]
      rw [this, ih, List.find?_cons_of_neg (by simpa using hj)]
    · have : Store.del (a :: l) k = a :: Store.del l k := by simp [Store.del, hk]
      rw [this, List.find?_cons, List.find?_cons, ih]

/-- A setting reads as what was written (R422). -/
@[simp] theorem State.cfgU_setCfg_same (s : State) (i j v : Nat) : (s.setCfg i j v).cfgU i j = v := by
  unfold State.cfgU State.setCfg
  dsimp only
  split
  · rename_i h
    split at h
    · rw [find_del_same] at h; cases h
    · rw [find_ins_same _ _ _ fun e he => ((Store.mem_del _ _ e).1 he).2] at h
      cases h; rfl
  · rename_i h
    split at h
    · rename_i hv; exact hv.symm
    · rw [find_ins_same _ _ _ fun e he => ((Store.mem_del _ _ e).1 he).2] at h
      cases h

/-- Every other setting reads as before. -/
theorem State.cfgU_setCfg_other (s : State) (i j v a b : Nat) (h : okey a b ≠ okey i j) :
    (s.setCfg i j v).cfgU a b = s.cfgU a b := by
  unfold State.cfgU State.setCfg
  dsimp only
  split_ifs
  · rw [find_del_other _ _ _ h]
  · rw [find_ins_other _ _ _ _ h, find_del_other _ _ _ h]

/-- A session's window object reads as what the session wrote (R420). -/
@[simp] theorem State.win_setWin_same (s : State) (ses i j v : Nat) : (s.setWin ses i j v).win ses i j = v :=
  Store.get_set_same _ _ _ _

/-! ### What sending and raising can do -/

/-- A frame leaves, or its transmitter is silent and nothing changes. -/
theorem State.send_cases (s : State) (x : Tx) : s.send x = s ∨ s.send x = { s with tx := s.tx ++ [x] } := by
  unfold State.send
  split
  · exact .inl rfl
  · exact .inr rfl

/-- A frame leaves J1 and is counted, or its transmitter is silent and nothing changes. -/
theorem State.sendJ1_cases (s : State) (x : Tx) : s.sendJ1 x = s ∨
    s.sendJ1 x = { s with tx := s.tx ++ [x], port := { s.port with sent := s.port.sent + 1 } } := by
  unfold State.sendJ1
  split
  · exact .inl rfl
  · exact .inr rfl

/-- With no transmitter silenced the frame leaves. -/
theorem State.send_free (s : State) (x : Tx) (h : s.hw.released = false) :
    s.send x = { s with tx := s.tx ++ [x] } := by
  simp [State.send, State.silent, h]

/-- With no transmitter silenced the frame leaves J1. -/
theorem State.sendJ1_free (s : State) (x : Tx) (h : s.hw.released = false) :
    s.sendJ1 x = { s with tx := s.tx ++ [x], port := { s.port with sent := s.port.sent + 1 } } := by
  simp [State.sendJ1, State.silent, h]

@[simp] theorem State.send_running (s : State) (x : Tx) : (s.send x).running = s.running := by simp [State.running]
@[simp] theorem State.send_cfgU (s : State) (x : Tx) (i j : Nat) : (s.send x).cfgU i j = s.cfgU i j := by
  simp [State.cfgU]
@[simp] theorem State.sendPaddle_running (s : State) (t n : Nat) (p : Bytes) :
    (s.sendPaddle t n p).running = s.running := by simp [State.running]
@[simp] theorem State.sendPaddle_cfgU (s : State) (t n : Nat) (p : Bytes) (i j : Nat) :
    (s.sendPaddle t n p).cfgU i j = s.cfgU i j := by simp [State.cfgU]

/-- Once asserted, FAULT_OUT stays with its first cause. -/
theorem State.assertFaultOut_again (s : State) (code : Nat) (h : s.fm.faultOut = true) : s.assertFaultOut code = s := by
  simp [State.assertFaultOut, h]

/-! ### Outcomes -/

/-- A command whose operands name no thing of the module has no effect. -/
@[simp] theorem run_bad (s : State) (f : State → State) : run false s f = .next s := rfl

/-- A command while firmware runs. -/
theorem run_ok (s : State) (f : State → State) (h : s.running = true) :
    run true s f = .next { f s with pending := s.pending } := by
  simp [run, runIf, h]

/-- A command while firmware does not run. -/
theorem run_idle (ok : Bool) (s : State) (f : State → State) (h : s.running = false) : run ok s f = .next s := by
  simp [run, runIf, h]

/-- `runIf` always answers a next state, and this is it. -/
theorem runIf_next {ok go : Bool} {s t : State} {f : State → State} (h : runIf ok go s f = .next t) :
    t = { (if ok && go then f s else s) with pending := s.pending } := by
  cases h; rfl

theorem runIf_never_refuses (ok go : Bool) (s : State) (f : State → State) (r : Refusal) :
    runIf ok go s f ≠ .refused r := by
  intro h; cases h

/-- Everything `run` can do: the effect while firmware runs and the operands name things of the module, nothing
otherwise; the queue stands. -/
theorem run_next {ok : Bool} {s t : State} {f : State → State} (h : run ok s f = .next t) :
    t.pending = s.pending ∧
      (ok = true ∧ s.running = true ∧ t = { f s with pending := s.pending } ∨
        (ok = false ∨ s.running = false) ∧ t = s) := by
  cases runIf_next h
  refine ⟨rfl, ?_⟩
  cases ok <;> cases hr : s.running <;> simp

/-- An effect that keeps the queue of its own accord needs no restoring. -/
theorem run_next_of_pending {s t : State} {f : State → State} (h : run true s f = .next t)
    (hr : s.running = true) (hp : (f s).pending = s.pending) : t = f s := by
  obtain ⟨-, ⟨-, -, ht⟩ | ⟨h0 | h0, -⟩⟩ := run_next h
  · rw [ht, ← hp]
  · cases h0
  · rw [hr] at h0; cases h0

/-- A session's command to an instance that is there. -/
theorem runObj_here (ses index sub : Nat) (s : State) (f : State → State) (hs : ses < Config.sessions)
    (h : s.running = true) : runObj ses index sub true s f = .next { f s with pending := s.pending } := by
  simp [runObj, run, runIf, hs, h]

/-- A session's command to an instance that is absent: a violation (R417). -/
theorem runObj_absent (ses index sub : Nat) (s : State) (f : State → State) (hs : ses < Config.sessions)
    (h : s.running = true) : runObj ses index sub false s f = .next (s.violate ses index sub) := by
  simp [runObj, run, runIf, hs, h, State.violate]

@[simp] theorem when_true (f : State → State) (s : State) : when_ true f s = f s := rfl
@[simp] theorem when_false (f : State → State) (s : State) : when_ false f s = s := rfl

/-! ### Folds over the trays -/

/-- What each tray's effect keeps, the effect on all of them keeps. -/
theorem forTrays_keeps (P : State → Prop) (f : Nat → State → State) (hf : ∀ t s, P s → P (f t s)) (s : State)
    (h : P s) : P (forTrays f s) := by
  unfold forTrays
  generalize List.range Config.trays = l
  induction l generalizing s with
  | nil => exact h
  | cons t l ih => exact ih _ (hf t s h)

/-- The same of any fold. -/
theorem foldl_keeps {β : Type} (P : State → Prop) (f : State → β → State) (l : List β)
    (hf : ∀ s b, P s → P (f s b)) (s : State) (h : P s) : P (l.foldl f s) := by
  induction l generalizing s with
  | nil => exact h
  | cons b l ih => exact ih _ (hf s b h)

end Sys2Proof.Machine
end

