-- ==== Sys2Proof/Laws/Updates.lean ====
section
/-! SUPPORT. Laws of State: the updates of the later families, field by field. -/

namespace Sys2Proof.Machine

section
variable (s : State) (r : Nat) (f : Rect → Rect)

@[simp] theorem State.updRect_pending : (s.updRect r f).pending = s.pending := rfl
@[simp] theorem State.updRect_freeCount : (s.updRect r f).freeCount = s.freeCount := rfl
@[simp] theorem State.updRect_now : (s.updRect r f).now = s.now := rfl
@[simp] theorem State.updRect_tx : (s.updRect r f).tx = s.tx := rfl
@[simp] theorem State.updRect_hw : (s.updRect r f).hw = s.hw := rfl
@[simp] theorem State.updRect_od : (s.updRect r f).od = s.od := rfl
@[simp] theorem State.updRect_txn : (s.updRect r f).txn = s.txn := rfl
@[simp] theorem State.updRect_fm : (s.updRect r f).fm = s.fm := rfl
@[simp] theorem State.updRect_rcd : (s.updRect r f).rcd = s.rcd := rfl
@[simp] theorem State.updRect_loop : (s.updRect r f).loop = s.loop := rfl
@[simp] theorem State.updRect_phases : (s.updRect r f).phases = s.phases := rfl
@[simp] theorem State.updRect_tph : (s.updRect r f).tph = s.tph := rfl
@[simp] theorem State.updRect_links : (s.updRect r f).links = s.links := rfl
@[simp] theorem State.updRect_edge : (s.updRect r f).edge = s.edge := rfl
@[simp] theorem State.updRect_trays : (s.updRect r f).trays = s.trays := rfl
@[simp] theorem State.updRect_alloc : (s.updRect r f).alloc = s.alloc := rfl
@[simp] theorem State.updRect_tows : (s.updRect r f).tows = s.tows := rfl
@[simp] theorem State.updRect_est : (s.updRect r f).est = s.est := rfl
@[simp] theorem State.updRect_gov : (s.updRect r f).gov = s.gov := rfl
@[simp] theorem State.updRect_gates : (s.updRect r f).gates = s.gates := rfl
@[simp] theorem State.updRect_ev : (s.updRect r f).ev = s.ev := rfl
@[simp] theorem State.updRect_tide : (s.updRect r f).tide = s.tide := rfl
@[simp] theorem State.updRect_pair : (s.updRect r f).pair = s.pair := rfl
@[simp] theorem State.updRect_sec : (s.updRect r f).sec = s.sec := rfl
@[simp] theorem State.updRect_cal : (s.updRect r f).cal = s.cal := rfl
@[simp] theorem State.updRect_grid : (s.updRect r f).grid = s.grid := rfl
@[simp] theorem State.updRect_slots : (s.updRect r f).slots = s.slots := rfl
@[simp] theorem State.updRect_dock : (s.updRect r f).dock = s.dock := rfl
@[simp] theorem State.updRect_port : (s.updRect r f).port = s.port := rfl
@[simp] theorem State.updRect_sess : (s.updRect r f).sess = s.sess := rfl
@[simp] theorem State.updRect_clk : (s.updRect r f).clk = s.clk := rfl
@[simp] theorem State.updRect_cap : (s.updRect r f).cap = s.cap := rfl
@[simp] theorem State.updRect_feed : (s.updRect r f).feed = { s.feed with rects := upd s.feed.rects r f } := rfl
@[simp] theorem State.updRect_running : (s.updRect r f).running = s.running := rfl
@[simp] theorem State.updRect_cfgU (i j : Nat) : (s.updRect r f).cfgU i j = s.cfgU i j := rfl

end

section
variable (s : State) (g : Nat) (f : Group → Group)

@[simp] theorem State.updGroup_pending : (s.updGroup g f).pending = s.pending := rfl
@[simp] theorem State.updGroup_freeCount : (s.updGroup g f).freeCount = s.freeCount := rfl
@[simp] theorem State.updGroup_now : (s.updGroup g f).now = s.now := rfl
@[simp] theorem State.updGroup_tx : (s.updGroup g f).tx = s.tx := rfl
@[simp] theorem State.updGroup_hw : (s.updGroup g f).hw = s.hw := rfl
@[simp] theorem State.updGroup_od : (s.updGroup g f).od = s.od := rfl
@[simp] theorem State.updGroup_txn : (s.updGroup g f).txn = s.txn := rfl
@[simp] theorem State.updGroup_fm : (s.updGroup g f).fm = s.fm := rfl
@[simp] theorem State.updGroup_rcd : (s.updGroup g f).rcd = s.rcd := rfl
@[simp] theorem State.updGroup_loop : (s.updGroup g f).loop = s.loop := rfl
@[simp] theorem State.updGroup_phases : (s.updGroup g f).phases = s.phases := rfl
@[simp] theorem State.updGroup_tph : (s.updGroup g f).tph = s.tph := rfl
@[simp] theorem State.updGroup_links : (s.updGroup g f).links = s.links := rfl
@[simp] theorem State.updGroup_edge : (s.updGroup g f).edge = s.edge := rfl
@[simp] theorem State.updGroup_trays : (s.updGroup g f).trays = s.trays := rfl
@[simp] theorem State.updGroup_alloc : (s.updGroup g f).alloc = s.alloc := rfl
@[simp] theorem State.updGroup_tows : (s.updGroup g f).tows = s.tows := rfl
@[simp] theorem State.updGroup_est : (s.updGroup g f).est = s.est := rfl
@[simp] theorem State.updGroup_gov : (s.updGroup g f).gov = s.gov := rfl
@[simp] theorem State.updGroup_gates : (s.updGroup g f).gates = s.gates := rfl
@[simp] theorem State.updGroup_ev : (s.updGroup g f).ev = s.ev := rfl
@[simp] theorem State.updGroup_tide : (s.updGroup g f).tide = s.tide := rfl
@[simp] theorem State.updGroup_pair : (s.updGroup g f).pair = s.pair := rfl
@[simp] theorem State.updGroup_sec : (s.updGroup g f).sec = s.sec := rfl
@[simp] theorem State.updGroup_cal : (s.updGroup g f).cal = s.cal := rfl
@[simp] theorem State.updGroup_grid : (s.updGroup g f).grid = s.grid := rfl
@[simp] theorem State.updGroup_slots : (s.updGroup g f).slots = s.slots := rfl
@[simp] theorem State.updGroup_dock : (s.updGroup g f).dock = s.dock := rfl
@[simp] theorem State.updGroup_port : (s.updGroup g f).port = s.port := rfl
@[simp] theorem State.updGroup_sess : (s.updGroup g f).sess = s.sess := rfl
@[simp] theorem State.updGroup_clk : (s.updGroup g f).clk = s.clk := rfl
@[simp] theorem State.updGroup_cap : (s.updGroup g f).cap = s.cap := rfl
@[simp] theorem State.updGroup_feed : (s.updGroup g f).feed = { s.feed with groups := upd s.feed.groups g f } := rfl
@[simp] theorem State.updGroup_running : (s.updGroup g f).running = s.running := rfl
@[simp] theorem State.updGroup_cfgU (i j : Nat) : (s.updGroup g f).cfgU i j = s.cfgU i j := rfl

end

section
variable (s : State) (c : Nat) (f : Chip → Chip)

@[simp] theorem State.updChip_pending : (s.updChip c f).pending = s.pending := rfl
@[simp] theorem State.updChip_freeCount : (s.updChip c f).freeCount = s.freeCount := rfl
@[simp] theorem State.updChip_now : (s.updChip c f).now = s.now := rfl
@[simp] theorem State.updChip_tx : (s.updChip c f).tx = s.tx := rfl
@[simp] theorem State.updChip_hw : (s.updChip c f).hw = s.hw := rfl
@[simp] theorem State.updChip_od : (s.updChip c f).od = s.od := rfl
@[simp] theorem State.updChip_txn : (s.updChip c f).txn = s.txn := rfl
@[simp] theorem State.updChip_fm : (s.updChip c f).fm = s.fm := rfl
@[simp] theorem State.updChip_rcd : (s.updChip c f).rcd = s.rcd := rfl
@[simp] theorem State.updChip_loop : (s.updChip c f).loop = s.loop := rfl
@[simp] theorem State.updChip_phases : (s.updChip c f).phases = s.phases := rfl
@[simp] theorem State.updChip_tph : (s.updChip c f).tph = s.tph := rfl
@[simp] theorem State.updChip_links : (s.updChip c f).links = s.links := rfl
@[simp] theorem State.updChip_edge : (s.updChip c f).edge = s.edge := rfl
@[simp] theorem State.updChip_trays : (s.updChip c f).trays = s.trays := rfl
@[simp] theorem State.updChip_alloc : (s.updChip c f).alloc = s.alloc := rfl
@[simp] theorem State.updChip_tows : (s.updChip c f).tows = s.tows := rfl
@[simp] theorem State.updChip_est : (s.updChip c f).est = s.est := rfl
@[simp] theorem State.updChip_feed : (s.updChip c f).feed = s.feed := rfl
@[simp] theorem State.updChip_gates : (s.updChip c f).gates = s.gates := rfl
@[simp] theorem State.updChip_ev : (s.updChip c f).ev = s.ev := rfl
@[simp] theorem State.updChip_tide : (s.updChip c f).tide = s.tide := rfl
@[simp] theorem State.updChip_pair : (s.updChip c f).pair = s.pair := rfl
@[simp] theorem State.updChip_sec : (s.updChip c f).sec = s.sec := rfl
@[simp] theorem State.updChip_cal : (s.updChip c f).cal = s.cal := rfl
@[simp] theorem State.updChip_grid : (s.updChip c f).grid = s.grid := rfl
@[simp] theorem State.updChip_slots : (s.updChip c f).slots = s.slots := rfl
@[simp] theorem State.updChip_dock : (s.updChip c f).dock = s.dock := rfl
@[simp] theorem State.updChip_port : (s.updChip c f).port = s.port := rfl
@[simp] theorem State.updChip_sess : (s.updChip c f).sess = s.sess := rfl
@[simp] theorem State.updChip_clk : (s.updChip c f).clk = s.clk := rfl
@[simp] theorem State.updChip_cap : (s.updChip c f).cap = s.cap := rfl
@[simp] theorem State.updChip_gov : (s.updChip c f).gov = { s.gov with chips := Store.set Chip.reset s.gov.chips c (f (s.chip c)) } := rfl
@[simp] theorem State.updChip_running : (s.updChip c f).running = s.running := rfl
@[simp] theorem State.updChip_cfgU (i j : Nat) : (s.updChip c f).cfgU i j = s.cfgU i j := rfl

end

section
variable (s : State) (k : Nat) (f : Partition → Partition)

@[simp] theorem State.updPart_pending : (s.updPart k f).pending = s.pending := rfl
@[simp] theorem State.updPart_freeCount : (s.updPart k f).freeCount = s.freeCount := rfl
@[simp] theorem State.updPart_now : (s.updPart k f).now = s.now := rfl
@[simp] theorem State.updPart_tx : (s.updPart k f).tx = s.tx := rfl
@[simp] theorem State.updPart_hw : (s.updPart k f).hw = s.hw := rfl
@[simp] theorem State.updPart_od : (s.updPart k f).od = s.od := rfl
@[simp] theorem State.updPart_txn : (s.updPart k f).txn = s.txn := rfl
@[simp] theorem State.updPart_fm : (s.updPart k f).fm = s.fm := rfl
@[simp] theorem State.updPart_rcd : (s.updPart k f).rcd = s.rcd := rfl
@[simp] theorem State.updPart_loop : (s.updPart k f).loop = s.loop := rfl
@[simp] theorem State.updPart_phases : (s.updPart k f).phases = s.phases := rfl
@[simp] theorem State.updPart_tph : (s.updPart k f).tph = s.tph := rfl
@[simp] theorem State.updPart_links : (s.updPart k f).links = s.links := rfl
@[simp] theorem State.updPart_edge : (s.updPart k f).edge = s.edge := rfl
@[simp] theorem State.updPart_trays : (s.updPart k f).trays = s.trays := rfl
@[simp] theorem State.updPart_alloc : (s.updPart k f).alloc = s.alloc := rfl
@[simp] theorem State.updPart_tows : (s.updPart k f).tows = s.tows := rfl
@[simp] theorem State.updPart_est : (s.updPart k f).est = s.est := rfl
@[simp] theorem State.updPart_feed : (s.updPart k f).feed = s.feed := rfl
@[simp] theorem State.updPart_gates : (s.updPart k f).gates = s.gates := rfl
@[simp] theorem State.updPart_ev : (s.updPart k f).ev = s.ev := rfl
@[simp] theorem State.updPart_tide : (s.updPart k f).tide = s.tide := rfl
@[simp] theorem State.updPart_pair : (s.updPart k f).pair = s.pair := rfl
@[simp] theorem State.updPart_sec : (s.updPart k f).sec = s.sec := rfl
@[simp] theorem State.updPart_cal : (s.updPart k f).cal = s.cal := rfl
@[simp] theorem State.updPart_grid : (s.updPart k f).grid = s.grid := rfl
@[simp] theorem State.updPart_slots : (s.updPart k f).slots = s.slots := rfl
@[simp] theorem State.updPart_dock : (s.updPart k f).dock = s.dock := rfl
@[simp] theorem State.updPart_port : (s.updPart k f).port = s.port := rfl
@[simp] theorem State.updPart_sess : (s.updPart k f).sess = s.sess := rfl
@[simp] theorem State.updPart_clk : (s.updPart k f).clk = s.clk := rfl
@[simp] theorem State.updPart_cap : (s.updPart k f).cap = s.cap := rfl
@[simp] theorem State.updPart_gov : (s.updPart k f).gov = { s.gov with parts := upd s.gov.parts k f } := rfl
@[simp] theorem State.updPart_running : (s.updPart k f).running = s.running := rfl
@[simp] theorem State.updPart_cfgU (i j : Nat) : (s.updPart k f).cfgU i j = s.cfgU i j := rfl

end

section
variable (s : State) (g : Nat) (x : Gate)

@[simp] theorem State.setGate_pending : (s.setGate g x).pending = s.pending := rfl
@[simp] theorem State.setGate_freeCount : (s.setGate g x).freeCount = s.freeCount := rfl
@[simp] theorem State.setGate_now : (s.setGate g x).now = s.now := rfl
@[simp] theorem State.setGate_tx : (s.setGate g x).tx = s.tx := rfl
@[simp] theorem State.setGate_hw : (s.setGate g x).hw = s.hw := rfl
@[simp] theorem State.setGate_od : (s.setGate g x).od = s.od := rfl
@[simp] theorem State.setGate_txn : (s.setGate g x).txn = s.txn := rfl
@[simp] theorem State.setGate_fm : (s.setGate g x).fm = s.fm := rfl
@[simp] theorem State.setGate_rcd : (s.setGate g x).rcd = s.rcd := rfl
@[simp] theorem State.setGate_loop : (s.setGate g x).loop = s.loop := rfl
@[simp] theorem State.setGate_phases : (s.setGate g x).phases = s.phases := rfl
@[simp] theorem State.setGate_tph : (s.setGate g x).tph = s.tph := rfl
@[simp] theorem State.setGate_links : (s.setGate g x).links = s.links := rfl
@[simp] theorem State.setGate_edge : (s.setGate g x).edge = s.edge := rfl
@[simp] theorem State.setGate_trays : (s.setGate g x).trays = s.trays := rfl
@[simp] theorem State.setGate_alloc : (s.setGate g x).alloc = s.alloc := rfl
@[simp] theorem State.setGate_tows : (s.setGate g x).tows = s.tows := rfl
@[simp] theorem State.setGate_est : (s.setGate g x).est = s.est := rfl
@[simp] theorem State.setGate_feed : (s.setGate g x).feed = s.feed := rfl
@[simp] theorem State.setGate_gov : (s.setGate g x).gov = s.gov := rfl
@[simp] theorem State.setGate_ev : (s.setGate g x).ev = s.ev := rfl
@[simp] theorem State.setGate_tide : (s.setGate g x).tide = s.tide := rfl
@[simp] theorem State.setGate_pair : (s.setGate g x).pair = s.pair := rfl
@[simp] theorem State.setGate_sec : (s.setGate g x).sec = s.sec := rfl
@[simp] theorem State.setGate_cal : (s.setGate g x).cal = s.cal := rfl
@[simp] theorem State.setGate_grid : (s.setGate g x).grid = s.grid := rfl
@[simp] theorem State.setGate_slots : (s.setGate g x).slots = s.slots := rfl
@[simp] theorem State.setGate_dock : (s.setGate g x).dock = s.dock := rfl
@[simp] theorem State.setGate_port : (s.setGate g x).port = s.port := rfl
@[simp] theorem State.setGate_sess : (s.setGate g x).sess = s.sess := rfl
@[simp] theorem State.setGate_clk : (s.setGate g x).clk = s.clk := rfl
@[simp] theorem State.setGate_cap : (s.setGate g x).cap = s.cap := rfl
@[simp] theorem State.setGate_running : (s.setGate g x).running = s.running := rfl
@[simp] theorem State.setGate_cfgU (i j : Nat) : (s.setGate g x).cfgU i j = s.cfgU i j := rfl

end

section
variable (s : State) (n : Nat) (f : Slot → Slot)

@[simp] theorem State.updSlot_pending : (s.updSlot n f).pending = s.pending := rfl
@[simp] theorem State.updSlot_freeCount : (s.updSlot n f).freeCount = s.freeCount := rfl
@[simp] theorem State.updSlot_now : (s.updSlot n f).now = s.now := rfl
@[simp] theorem State.updSlot_tx : (s.updSlot n f).tx = s.tx := rfl
@[simp] theorem State.updSlot_hw : (s.updSlot n f).hw = s.hw := rfl
@[simp] theorem State.updSlot_od : (s.updSlot n f).od = s.od := rfl
@[simp] theorem State.updSlot_txn : (s.updSlot n f).txn = s.txn := rfl
@[simp] theorem State.updSlot_fm : (s.updSlot n f).fm = s.fm := rfl
@[simp] theorem State.updSlot_rcd : (s.updSlot n f).rcd = s.rcd := rfl
@[simp] theorem State.updSlot_loop : (s.updSlot n f).loop = s.loop := rfl
@[simp] theorem State.updSlot_phases : (s.updSlot n f).phases = s.phases := rfl
@[simp] theorem State.updSlot_tph : (s.updSlot n f).tph = s.tph := rfl
@[simp] theorem State.updSlot_links : (s.updSlot n f).links = s.links := rfl
@[simp] theorem State.updSlot_edge : (s.updSlot n f).edge = s.edge := rfl
@[simp] theorem State.updSlot_trays : (s.updSlot n f).trays = s.trays := rfl
@[simp] theorem State.updSlot_alloc : (s.updSlot n f).alloc = s.alloc := rfl
@[simp] theorem State.updSlot_tows : (s.updSlot n f).tows = s.tows := rfl
@[simp] theorem State.updSlot_est : (s.updSlot n f).est = s.est := rfl
@[simp] theorem State.updSlot_feed : (s.updSlot n f).feed = s.feed := rfl
@[simp] theorem State.updSlot_gov : (s.updSlot n f).gov = s.gov := rfl
@[simp] theorem State.updSlot_gates : (s.updSlot n f).gates = s.gates := rfl
@[simp] theorem State.updSlot_ev : (s.updSlot n f).ev = s.ev := rfl
@[simp] theorem State.updSlot_tide : (s.updSlot n f).tide = s.tide := rfl
@[simp] theorem State.updSlot_pair : (s.updSlot n f).pair = s.pair := rfl
@[simp] theorem State.updSlot_sec : (s.updSlot n f).sec = s.sec := rfl
@[simp] theorem State.updSlot_cal : (s.updSlot n f).cal = s.cal := rfl
@[simp] theorem State.updSlot_grid : (s.updSlot n f).grid = s.grid := rfl
@[simp] theorem State.updSlot_dock : (s.updSlot n f).dock = s.dock := rfl
@[simp] theorem State.updSlot_port : (s.updSlot n f).port = s.port := rfl
@[simp] theorem State.updSlot_sess : (s.updSlot n f).sess = s.sess := rfl
@[simp] theorem State.updSlot_clk : (s.updSlot n f).clk = s.clk := rfl
@[simp] theorem State.updSlot_cap : (s.updSlot n f).cap = s.cap := rfl
@[simp] theorem State.updSlot_slots : (s.updSlot n f).slots = upd s.slots n f := rfl
@[simp] theorem State.updSlot_running : (s.updSlot n f).running = s.running := rfl
@[simp] theorem State.updSlot_cfgU (i j : Nat) : (s.updSlot n f).cfgU i j = s.cfgU i j := rfl

end

section
variable (s : State) (n : Nat) (f : Session → Session)

@[simp] theorem State.updSess_pending : (s.updSess n f).pending = s.pending := rfl
@[simp] theorem State.updSess_freeCount : (s.updSess n f).freeCount = s.freeCount := rfl
@[simp] theorem State.updSess_now : (s.updSess n f).now = s.now := rfl
@[simp] theorem State.updSess_tx : (s.updSess n f).tx = s.tx := rfl
@[simp] theorem State.updSess_hw : (s.updSess n f).hw = s.hw := rfl
@[simp] theorem State.updSess_od : (s.updSess n f).od = s.od := rfl
@[simp] theorem State.updSess_txn : (s.updSess n f).txn = s.txn := rfl
@[simp] theorem State.updSess_fm : (s.updSess n f).fm = s.fm := rfl
@[simp] theorem State.updSess_rcd : (s.updSess n f).rcd = s.rcd := rfl
@[simp] theorem State.updSess_loop : (s.updSess n f).loop = s.loop := rfl
@[simp] theorem State.updSess_phases : (s.updSess n f).phases = s.phases := rfl
@[simp] theorem State.updSess_tph : (s.updSess n f).tph = s.tph := rfl
@[simp] theorem State.updSess_links : (s.updSess n f).links = s.links := rfl
@[simp] theorem State.updSess_edge : (s.updSess n f).edge = s.edge := rfl
@[simp] theorem State.updSess_trays : (s.updSess n f).trays = s.trays := rfl
@[simp] theorem State.updSess_alloc : (s.updSess n f).alloc = s.alloc := rfl
@[simp] theorem State.updSess_tows : (s.updSess n f).tows = s.tows := rfl
@[simp] theorem State.updSess_est : (s.updSess n f).est = s.est := rfl
@[simp] theorem State.updSess_feed : (s.updSess n f).feed = s.feed := rfl
@[simp] theorem State.updSess_gov : (s.updSess n f).gov = s.gov := rfl
@[simp] theorem State.updSess_gates : (s.updSess n f).gates = s.gates := rfl
@[simp] theorem State.updSess_ev : (s.updSess n f).ev = s.ev := rfl
@[simp] theorem State.updSess_tide : (s.updSess n f).tide = s.tide := rfl
@[simp] theorem State.updSess_pair : (s.updSess n f).pair = s.pair := rfl
@[simp] theorem State.updSess_sec : (s.updSess n f).sec = s.sec := rfl
@[simp] theorem State.updSess_cal : (s.updSess n f).cal = s.cal := rfl
@[simp] theorem State.updSess_grid : (s.updSess n f).grid = s.grid := rfl
@[simp] theorem State.updSess_slots : (s.updSess n f).slots = s.slots := rfl
@[simp] theorem State.updSess_dock : (s.updSess n f).dock = s.dock := rfl
@[simp] theorem State.updSess_port : (s.updSess n f).port = s.port := rfl
@[simp] theorem State.updSess_clk : (s.updSess n f).clk = s.clk := rfl
@[simp] theorem State.updSess_cap : (s.updSess n f).cap = s.cap := rfl
@[simp] theorem State.updSess_sess : (s.updSess n f).sess = upd s.sess n f := rfl
@[simp] theorem State.updSess_running : (s.updSess n f).running = s.running := rfl
@[simp] theorem State.updSess_cfgU (i j : Nat) : (s.updSess n f).cfgU i j = s.cfgU i j := rfl

end

section
variable (s : State) (f : Pair → Pair)

@[simp] theorem State.updPair_pending : (s.updPair f).pending = s.pending := rfl
@[simp] theorem State.updPair_freeCount : (s.updPair f).freeCount = s.freeCount := rfl
@[simp] theorem State.updPair_now : (s.updPair f).now = s.now := rfl
@[simp] theorem State.updPair_tx : (s.updPair f).tx = s.tx := rfl
@[simp] theorem State.updPair_hw : (s.updPair f).hw = s.hw := rfl
@[simp] theorem State.updPair_od : (s.updPair f).od = s.od := rfl
@[simp] theorem State.updPair_txn : (s.updPair f).txn = s.txn := rfl
@[simp] theorem State.updPair_fm : (s.updPair f).fm = s.fm := rfl
@[simp] theorem State.updPair_rcd : (s.updPair f).rcd = s.rcd := rfl
@[simp] theorem State.updPair_loop : (s.updPair f).loop = s.loop := rfl
@[simp] theorem State.updPair_phases : (s.updPair f).phases = s.phases := rfl
@[simp] theorem State.updPair_tph : (s.updPair f).tph = s.tph := rfl
@[simp] theorem State.updPair_links : (s.updPair f).links = s.links := rfl
@[simp] theorem State.updPair_edge : (s.updPair f).edge = s.edge := rfl
@[simp] theorem State.updPair_trays : (s.updPair f).trays = s.trays := rfl
@[simp] theorem State.updPair_alloc : (s.updPair f).alloc = s.alloc := rfl
@[simp] theorem State.updPair_tows : (s.updPair f).tows = s.tows := rfl
@[simp] theorem State.updPair_est : (s.updPair f).est = s.est := rfl
@[simp] theorem State.updPair_feed : (s.updPair f).feed = s.feed := rfl
@[simp] theorem State.updPair_gov : (s.updPair f).gov = s.gov := rfl
@[simp] theorem State.updPair_gates : (s.updPair f).gates = s.gates := rfl
@[simp] theorem State.updPair_ev : (s.updPair f).ev = s.ev := rfl
@[simp] theorem State.updPair_tide : (s.updPair f).tide = s.tide := rfl
@[simp] theorem State.updPair_sec : (s.updPair f).sec = s.sec := rfl
@[simp] theorem State.updPair_cal : (s.updPair f).cal = s.cal := rfl
@[simp] theorem State.updPair_grid : (s.updPair f).grid = s.grid := rfl
@[simp] theorem State.updPair_slots : (s.updPair f).slots = s.slots := rfl
@[simp] theorem State.updPair_dock : (s.updPair f).dock = s.dock := rfl
@[simp] theorem State.updPair_port : (s.updPair f).port = s.port := rfl
@[simp] theorem State.updPair_sess : (s.updPair f).sess = s.sess := rfl
@[simp] theorem State.updPair_clk : (s.updPair f).clk = s.clk := rfl
@[simp] theorem State.updPair_cap : (s.updPair f).cap = s.cap := rfl
@[simp] theorem State.updPair_pair : (s.updPair f).pair = f s.pair := rfl
@[simp] theorem State.updPair_running : (s.updPair f).running = s.running := rfl
@[simp] theorem State.updPair_cfgU (i j : Nat) : (s.updPair f).cfgU i j = s.cfgU i j := rfl

end

section
variable (s : State) (e : Nat) (x : CalEntry)

@[simp] theorem State.setCal_pending : (s.setCal e x).pending = s.pending := rfl
@[simp] theorem State.setCal_freeCount : (s.setCal e x).freeCount = s.freeCount := rfl
@[simp] theorem State.setCal_now : (s.setCal e x).now = s.now := rfl
@[simp] theorem State.setCal_tx : (s.setCal e x).tx = s.tx := rfl
@[simp] theorem State.setCal_hw : (s.setCal e x).hw = s.hw := rfl
@[simp] theorem State.setCal_od : (s.setCal e x).od = s.od := rfl
@[simp] theorem State.setCal_txn : (s.setCal e x).txn = s.txn := rfl
@[simp] theorem State.setCal_fm : (s.setCal e x).fm = s.fm := rfl
@[simp] theorem State.setCal_rcd : (s.setCal e x).rcd = s.rcd := rfl
@[simp] theorem State.setCal_loop : (s.setCal e x).loop = s.loop := rfl
@[simp] theorem State.setCal_phases : (s.setCal e x).phases = s.phases := rfl
@[simp] theorem State.setCal_tph : (s.setCal e x).tph = s.tph := rfl
@[simp] theorem State.setCal_links : (s.setCal e x).links = s.links := rfl
@[simp] theorem State.setCal_edge : (s.setCal e x).edge = s.edge := rfl
@[simp] theorem State.setCal_trays : (s.setCal e x).trays = s.trays := rfl
@[simp] theorem State.setCal_alloc : (s.setCal e x).alloc = s.alloc := rfl
@[simp] theorem State.setCal_tows : (s.setCal e x).tows = s.tows := rfl
@[simp] theorem State.setCal_est : (s.setCal e x).est = s.est := rfl
@[simp] theorem State.setCal_feed : (s.setCal e x).feed = s.feed := rfl
@[simp] theorem State.setCal_gov : (s.setCal e x).gov = s.gov := rfl
@[simp] theorem State.setCal_gates : (s.setCal e x).gates = s.gates := rfl
@[simp] theorem State.setCal_ev : (s.setCal e x).ev = s.ev := rfl
@[simp] theorem State.setCal_tide : (s.setCal e x).tide = s.tide := rfl
@[simp] theorem State.setCal_pair : (s.setCal e x).pair = s.pair := rfl
@[simp] theorem State.setCal_sec : (s.setCal e x).sec = s.sec := rfl
@[simp] theorem State.setCal_grid : (s.setCal e x).grid = s.grid := rfl
@[simp] theorem State.setCal_slots : (s.setCal e x).slots = s.slots := rfl
@[simp] theorem State.setCal_dock : (s.setCal e x).dock = s.dock := rfl
@[simp] theorem State.setCal_port : (s.setCal e x).port = s.port := rfl
@[simp] theorem State.setCal_sess : (s.setCal e x).sess = s.sess := rfl
@[simp] theorem State.setCal_clk : (s.setCal e x).clk = s.clk := rfl
@[simp] theorem State.setCal_cap : (s.setCal e x).cap = s.cap := rfl
@[simp] theorem State.setCal_running : (s.setCal e x).running = s.running := rfl
@[simp] theorem State.setCal_cfgU (i j : Nat) : (s.setCal e x).cfgU i j = s.cfgU i j := rfl

end

theorem State.slot_updSlot_same (s : State) (n : Nat) (f : Slot → Slot) (h : n < s.slots.length) :
    (s.updSlot n f).slot n = f (s.slot n) := get_upd_same _ _ _ _ h

theorem State.slot_updSlot_other (s : State) (n m : Nat) (f : Slot → Slot) (h : n ≠ m) :
    (s.updSlot n f).slot m = s.slot m := get_upd_other _ _ _ _ _ h

theorem State.part_updPart_same (s : State) (k : Nat) (f : Partition → Partition) (h : k < s.gov.parts.length) :
    (s.updPart k f).part k = f (s.part k) := get_upd_same _ _ _ _ h

theorem State.chip_updChip_same (s : State) (c : Nat) (f : Chip → Chip) : (s.updChip c f).chip c = f (s.chip c) :=
  Store.get_set_same _ _ _ _

theorem State.chip_updChip_other (s : State) (c d : Nat) (f : Chip → Chip) (h : d ≠ c) :
    (s.updChip c f).chip d = s.chip d := Store.get_set_other _ _ _ _ _ h

/-- Everything `runServed` can do: the effect where the module serves the session, nothing otherwise. -/
theorem runServed_next {ok : Bool} {ses : Nat} {s t : State} {f : State → State}
    (h : runServed ok ses s f = .next t) :
    t.pending = s.pending ∧ (t = { f s with pending := s.pending } ∨ t = s) := by
  cases runIf_next h
  refine ⟨rfl, ?_⟩
  split
  · exact .inl rfl
  · exact .inr rfl

end Sys2Proof.Machine
end

