-- ==== Sys2Proof/Laws/Frame.lean ====
section
/-! SUPPORT. Laws of State: a field that no branch and no turn of a loop changes is unchanged. -/

namespace Sys2Proof.Machine

/-! ### A field of a choice -/

@[simp] theorem ite_pending (c : Prop) [Decidable c] (s t : State) :
    (if c then s else t).pending = if c then s.pending else t.pending := apply_ite _ c s t
@[simp] theorem ite_freeCount (c : Prop) [Decidable c] (s t : State) :
    (if c then s else t).freeCount = if c then s.freeCount else t.freeCount := apply_ite _ c s t
@[simp] theorem ite_now (c : Prop) [Decidable c] (s t : State) :
    (if c then s else t).now = if c then s.now else t.now := apply_ite _ c s t
@[simp] theorem ite_tx (c : Prop) [Decidable c] (s t : State) :
    (if c then s else t).tx = if c then s.tx else t.tx := apply_ite _ c s t
@[simp] theorem ite_hw (c : Prop) [Decidable c] (s t : State) :
    (if c then s else t).hw = if c then s.hw else t.hw := apply_ite _ c s t
@[simp] theorem ite_od (c : Prop) [Decidable c] (s t : State) :
    (if c then s else t).od = if c then s.od else t.od := apply_ite _ c s t
@[simp] theorem ite_txn (c : Prop) [Decidable c] (s t : State) :
    (if c then s else t).txn = if c then s.txn else t.txn := apply_ite _ c s t
@[simp] theorem ite_fm (c : Prop) [Decidable c] (s t : State) :
    (if c then s else t).fm = if c then s.fm else t.fm := apply_ite _ c s t
@[simp] theorem ite_rcd (c : Prop) [Decidable c] (s t : State) :
    (if c then s else t).rcd = if c then s.rcd else t.rcd := apply_ite _ c s t
@[simp] theorem ite_loop (c : Prop) [Decidable c] (s t : State) :
    (if c then s else t).loop = if c then s.loop else t.loop := apply_ite _ c s t
@[simp] theorem ite_phases (c : Prop) [Decidable c] (s t : State) :
    (if c then s else t).phases = if c then s.phases else t.phases := apply_ite _ c s t
@[simp] theorem ite_tph (c : Prop) [Decidable c] (s t : State) :
    (if c then s else t).tph = if c then s.tph else t.tph := apply_ite _ c s t
@[simp] theorem ite_links (c : Prop) [Decidable c] (s t : State) :
    (if c then s else t).links = if c then s.links else t.links := apply_ite _ c s t
@[simp] theorem ite_edge (c : Prop) [Decidable c] (s t : State) :
    (if c then s else t).edge = if c then s.edge else t.edge := apply_ite _ c s t
@[simp] theorem ite_trays (c : Prop) [Decidable c] (s t : State) :
    (if c then s else t).trays = if c then s.trays else t.trays := apply_ite _ c s t
@[simp] theorem ite_alloc (c : Prop) [Decidable c] (s t : State) :
    (if c then s else t).alloc = if c then s.alloc else t.alloc := apply_ite _ c s t
@[simp] theorem ite_tows (c : Prop) [Decidable c] (s t : State) :
    (if c then s else t).tows = if c then s.tows else t.tows := apply_ite _ c s t
@[simp] theorem ite_est (c : Prop) [Decidable c] (s t : State) :
    (if c then s else t).est = if c then s.est else t.est := apply_ite _ c s t
@[simp] theorem ite_feed (c : Prop) [Decidable c] (s t : State) :
    (if c then s else t).feed = if c then s.feed else t.feed := apply_ite _ c s t
@[simp] theorem ite_gov (c : Prop) [Decidable c] (s t : State) :
    (if c then s else t).gov = if c then s.gov else t.gov := apply_ite _ c s t
@[simp] theorem ite_gates (c : Prop) [Decidable c] (s t : State) :
    (if c then s else t).gates = if c then s.gates else t.gates := apply_ite _ c s t
@[simp] theorem ite_ev (c : Prop) [Decidable c] (s t : State) :
    (if c then s else t).ev = if c then s.ev else t.ev := apply_ite _ c s t
@[simp] theorem ite_tide (c : Prop) [Decidable c] (s t : State) :
    (if c then s else t).tide = if c then s.tide else t.tide := apply_ite _ c s t
@[simp] theorem ite_pair (c : Prop) [Decidable c] (s t : State) :
    (if c then s else t).pair = if c then s.pair else t.pair := apply_ite _ c s t
@[simp] theorem ite_sec (c : Prop) [Decidable c] (s t : State) :
    (if c then s else t).sec = if c then s.sec else t.sec := apply_ite _ c s t
@[simp] theorem ite_cal (c : Prop) [Decidable c] (s t : State) :
    (if c then s else t).cal = if c then s.cal else t.cal := apply_ite _ c s t
@[simp] theorem ite_grid (c : Prop) [Decidable c] (s t : State) :
    (if c then s else t).grid = if c then s.grid else t.grid := apply_ite _ c s t
@[simp] theorem ite_slots (c : Prop) [Decidable c] (s t : State) :
    (if c then s else t).slots = if c then s.slots else t.slots := apply_ite _ c s t
@[simp] theorem ite_dock (c : Prop) [Decidable c] (s t : State) :
    (if c then s else t).dock = if c then s.dock else t.dock := apply_ite _ c s t
@[simp] theorem ite_port (c : Prop) [Decidable c] (s t : State) :
    (if c then s else t).port = if c then s.port else t.port := apply_ite _ c s t
@[simp] theorem ite_sess (c : Prop) [Decidable c] (s t : State) :
    (if c then s else t).sess = if c then s.sess else t.sess := apply_ite _ c s t
@[simp] theorem ite_clk (c : Prop) [Decidable c] (s t : State) :
    (if c then s else t).clk = if c then s.clk else t.clk := apply_ite _ c s t
@[simp] theorem ite_cap (c : Prop) [Decidable c] (s t : State) :
    (if c then s else t).cap = if c then s.cap else t.cap := apply_ite _ c s t

/-! ### A field over a fold -/

@[simp] theorem foldl_pending {β : Type} (g : State → β → State) (l : List β) (s : State)
    (h : ∀ s b, (g s b).pending = s.pending) : (l.foldl g s).pending = s.pending :=
  foldl_keeps (fun t => t.pending = s.pending) g l (fun t b ht => (h t b).trans ht) s rfl
@[simp] theorem foldl_freeCount {β : Type} (g : State → β → State) (l : List β) (s : State)
    (h : ∀ s b, (g s b).freeCount = s.freeCount) : (l.foldl g s).freeCount = s.freeCount :=
  foldl_keeps (fun t => t.freeCount = s.freeCount) g l (fun t b ht => (h t b).trans ht) s rfl
@[simp] theorem foldl_now {β : Type} (g : State → β → State) (l : List β) (s : State)
    (h : ∀ s b, (g s b).now = s.now) : (l.foldl g s).now = s.now :=
  foldl_keeps (fun t => t.now = s.now) g l (fun t b ht => (h t b).trans ht) s rfl
@[simp] theorem foldl_tx {β : Type} (g : State → β → State) (l : List β) (s : State)
    (h : ∀ s b, (g s b).tx = s.tx) : (l.foldl g s).tx = s.tx :=
  foldl_keeps (fun t => t.tx = s.tx) g l (fun t b ht => (h t b).trans ht) s rfl
@[simp] theorem foldl_hw {β : Type} (g : State → β → State) (l : List β) (s : State)
    (h : ∀ s b, (g s b).hw = s.hw) : (l.foldl g s).hw = s.hw :=
  foldl_keeps (fun t => t.hw = s.hw) g l (fun t b ht => (h t b).trans ht) s rfl
@[simp] theorem foldl_od {β : Type} (g : State → β → State) (l : List β) (s : State)
    (h : ∀ s b, (g s b).od = s.od) : (l.foldl g s).od = s.od :=
  foldl_keeps (fun t => t.od = s.od) g l (fun t b ht => (h t b).trans ht) s rfl
@[simp] theorem foldl_txn {β : Type} (g : State → β → State) (l : List β) (s : State)
    (h : ∀ s b, (g s b).txn = s.txn) : (l.foldl g s).txn = s.txn :=
  foldl_keeps (fun t => t.txn = s.txn) g l (fun t b ht => (h t b).trans ht) s rfl
@[simp] theorem foldl_fm {β : Type} (g : State → β → State) (l : List β) (s : State)
    (h : ∀ s b, (g s b).fm = s.fm) : (l.foldl g s).fm = s.fm :=
  foldl_keeps (fun t => t.fm = s.fm) g l (fun t b ht => (h t b).trans ht) s rfl
@[simp] theorem foldl_rcd {β : Type} (g : State → β → State) (l : List β) (s : State)
    (h : ∀ s b, (g s b).rcd = s.rcd) : (l.foldl g s).rcd = s.rcd :=
  foldl_keeps (fun t => t.rcd = s.rcd) g l (fun t b ht => (h t b).trans ht) s rfl
@[simp] theorem foldl_loop {β : Type} (g : State → β → State) (l : List β) (s : State)
    (h : ∀ s b, (g s b).loop = s.loop) : (l.foldl g s).loop = s.loop :=
  foldl_keeps (fun t => t.loop = s.loop) g l (fun t b ht => (h t b).trans ht) s rfl
@[simp] theorem foldl_phases {β : Type} (g : State → β → State) (l : List β) (s : State)
    (h : ∀ s b, (g s b).phases = s.phases) : (l.foldl g s).phases = s.phases :=
  foldl_keeps (fun t => t.phases = s.phases) g l (fun t b ht => (h t b).trans ht) s rfl
@[simp] theorem foldl_tph {β : Type} (g : State → β → State) (l : List β) (s : State)
    (h : ∀ s b, (g s b).tph = s.tph) : (l.foldl g s).tph = s.tph :=
  foldl_keeps (fun t => t.tph = s.tph) g l (fun t b ht => (h t b).trans ht) s rfl
@[simp] theorem foldl_links {β : Type} (g : State → β → State) (l : List β) (s : State)
    (h : ∀ s b, (g s b).links = s.links) : (l.foldl g s).links = s.links :=
  foldl_keeps (fun t => t.links = s.links) g l (fun t b ht => (h t b).trans ht) s rfl
@[simp] theorem foldl_edge {β : Type} (g : State → β → State) (l : List β) (s : State)
    (h : ∀ s b, (g s b).edge = s.edge) : (l.foldl g s).edge = s.edge :=
  foldl_keeps (fun t => t.edge = s.edge) g l (fun t b ht => (h t b).trans ht) s rfl
@[simp] theorem foldl_trays {β : Type} (g : State → β → State) (l : List β) (s : State)
    (h : ∀ s b, (g s b).trays = s.trays) : (l.foldl g s).trays = s.trays :=
  foldl_keeps (fun t => t.trays = s.trays) g l (fun t b ht => (h t b).trans ht) s rfl
@[simp] theorem foldl_alloc {β : Type} (g : State → β → State) (l : List β) (s : State)
    (h : ∀ s b, (g s b).alloc = s.alloc) : (l.foldl g s).alloc = s.alloc :=
  foldl_keeps (fun t => t.alloc = s.alloc) g l (fun t b ht => (h t b).trans ht) s rfl
@[simp] theorem foldl_tows {β : Type} (g : State → β → State) (l : List β) (s : State)
    (h : ∀ s b, (g s b).tows = s.tows) : (l.foldl g s).tows = s.tows :=
  foldl_keeps (fun t => t.tows = s.tows) g l (fun t b ht => (h t b).trans ht) s rfl
@[simp] theorem foldl_est {β : Type} (g : State → β → State) (l : List β) (s : State)
    (h : ∀ s b, (g s b).est = s.est) : (l.foldl g s).est = s.est :=
  foldl_keeps (fun t => t.est = s.est) g l (fun t b ht => (h t b).trans ht) s rfl
@[simp] theorem foldl_feed {β : Type} (g : State → β → State) (l : List β) (s : State)
    (h : ∀ s b, (g s b).feed = s.feed) : (l.foldl g s).feed = s.feed :=
  foldl_keeps (fun t => t.feed = s.feed) g l (fun t b ht => (h t b).trans ht) s rfl
@[simp] theorem foldl_gov {β : Type} (g : State → β → State) (l : List β) (s : State)
    (h : ∀ s b, (g s b).gov = s.gov) : (l.foldl g s).gov = s.gov :=
  foldl_keeps (fun t => t.gov = s.gov) g l (fun t b ht => (h t b).trans ht) s rfl
@[simp] theorem foldl_gates {β : Type} (g : State → β → State) (l : List β) (s : State)
    (h : ∀ s b, (g s b).gates = s.gates) : (l.foldl g s).gates = s.gates :=
  foldl_keeps (fun t => t.gates = s.gates) g l (fun t b ht => (h t b).trans ht) s rfl
@[simp] theorem foldl_ev {β : Type} (g : State → β → State) (l : List β) (s : State)
    (h : ∀ s b, (g s b).ev = s.ev) : (l.foldl g s).ev = s.ev :=
  foldl_keeps (fun t => t.ev = s.ev) g l (fun t b ht => (h t b).trans ht) s rfl
@[simp] theorem foldl_tide {β : Type} (g : State → β → State) (l : List β) (s : State)
    (h : ∀ s b, (g s b).tide = s.tide) : (l.foldl g s).tide = s.tide :=
  foldl_keeps (fun t => t.tide = s.tide) g l (fun t b ht => (h t b).trans ht) s rfl
@[simp] theorem foldl_pair {β : Type} (g : State → β → State) (l : List β) (s : State)
    (h : ∀ s b, (g s b).pair = s.pair) : (l.foldl g s).pair = s.pair :=
  foldl_keeps (fun t => t.pair = s.pair) g l (fun t b ht => (h t b).trans ht) s rfl
@[simp] theorem foldl_sec {β : Type} (g : State → β → State) (l : List β) (s : State)
    (h : ∀ s b, (g s b).sec = s.sec) : (l.foldl g s).sec = s.sec :=
  foldl_keeps (fun t => t.sec = s.sec) g l (fun t b ht => (h t b).trans ht) s rfl
@[simp] theorem foldl_cal {β : Type} (g : State → β → State) (l : List β) (s : State)
    (h : ∀ s b, (g s b).cal = s.cal) : (l.foldl g s).cal = s.cal :=
  foldl_keeps (fun t => t.cal = s.cal) g l (fun t b ht => (h t b).trans ht) s rfl
@[simp] theorem foldl_grid {β : Type} (g : State → β → State) (l : List β) (s : State)
    (h : ∀ s b, (g s b).grid = s.grid) : (l.foldl g s).grid = s.grid :=
  foldl_keeps (fun t => t.grid = s.grid) g l (fun t b ht => (h t b).trans ht) s rfl
@[simp] theorem foldl_slots {β : Type} (g : State → β → State) (l : List β) (s : State)
    (h : ∀ s b, (g s b).slots = s.slots) : (l.foldl g s).slots = s.slots :=
  foldl_keeps (fun t => t.slots = s.slots) g l (fun t b ht => (h t b).trans ht) s rfl
@[simp] theorem foldl_dock {β : Type} (g : State → β → State) (l : List β) (s : State)
    (h : ∀ s b, (g s b).dock = s.dock) : (l.foldl g s).dock = s.dock :=
  foldl_keeps (fun t => t.dock = s.dock) g l (fun t b ht => (h t b).trans ht) s rfl
@[simp] theorem foldl_port {β : Type} (g : State → β → State) (l : List β) (s : State)
    (h : ∀ s b, (g s b).port = s.port) : (l.foldl g s).port = s.port :=
  foldl_keeps (fun t => t.port = s.port) g l (fun t b ht => (h t b).trans ht) s rfl
@[simp] theorem foldl_sess {β : Type} (g : State → β → State) (l : List β) (s : State)
    (h : ∀ s b, (g s b).sess = s.sess) : (l.foldl g s).sess = s.sess :=
  foldl_keeps (fun t => t.sess = s.sess) g l (fun t b ht => (h t b).trans ht) s rfl
@[simp] theorem foldl_clk {β : Type} (g : State → β → State) (l : List β) (s : State)
    (h : ∀ s b, (g s b).clk = s.clk) : (l.foldl g s).clk = s.clk :=
  foldl_keeps (fun t => t.clk = s.clk) g l (fun t b ht => (h t b).trans ht) s rfl
@[simp] theorem foldl_cap {β : Type} (g : State → β → State) (l : List β) (s : State)
    (h : ∀ s b, (g s b).cap = s.cap) : (l.foldl g s).cap = s.cap :=
  foldl_keeps (fun t => t.cap = s.cap) g l (fun t b ht => (h t b).trans ht) s rfl

/-! ### A field over the trays -/

@[simp] theorem forTrays_pending (g : Nat → State → State) (s : State)
    (h : ∀ t s, (g t s).pending = s.pending) : (forTrays g s).pending = s.pending :=
  forTrays_keeps (fun t => t.pending = s.pending) g (fun t u hu => (h t u).trans hu) s rfl
@[simp] theorem forTrays_freeCount (g : Nat → State → State) (s : State)
    (h : ∀ t s, (g t s).freeCount = s.freeCount) : (forTrays g s).freeCount = s.freeCount :=
  forTrays_keeps (fun t => t.freeCount = s.freeCount) g (fun t u hu => (h t u).trans hu) s rfl
@[simp] theorem forTrays_now (g : Nat → State → State) (s : State)
    (h : ∀ t s, (g t s).now = s.now) : (forTrays g s).now = s.now :=
  forTrays_keeps (fun t => t.now = s.now) g (fun t u hu => (h t u).trans hu) s rfl
@[simp] theorem forTrays_tx (g : Nat → State → State) (s : State)
    (h : ∀ t s, (g t s).tx = s.tx) : (forTrays g s).tx = s.tx :=
  forTrays_keeps (fun t => t.tx = s.tx) g (fun t u hu => (h t u).trans hu) s rfl
@[simp] theorem forTrays_hw (g : Nat → State → State) (s : State)
    (h : ∀ t s, (g t s).hw = s.hw) : (forTrays g s).hw = s.hw :=
  forTrays_keeps (fun t => t.hw = s.hw) g (fun t u hu => (h t u).trans hu) s rfl
@[simp] theorem forTrays_od (g : Nat → State → State) (s : State)
    (h : ∀ t s, (g t s).od = s.od) : (forTrays g s).od = s.od :=
  forTrays_keeps (fun t => t.od = s.od) g (fun t u hu => (h t u).trans hu) s rfl
@[simp] theorem forTrays_txn (g : Nat → State → State) (s : State)
    (h : ∀ t s, (g t s).txn = s.txn) : (forTrays g s).txn = s.txn :=
  forTrays_keeps (fun t => t.txn = s.txn) g (fun t u hu => (h t u).trans hu) s rfl
@[simp] theorem forTrays_fm (g : Nat → State → State) (s : State)
    (h : ∀ t s, (g t s).fm = s.fm) : (forTrays g s).fm = s.fm :=
  forTrays_keeps (fun t => t.fm = s.fm) g (fun t u hu => (h t u).trans hu) s rfl
@[simp] theorem forTrays_rcd (g : Nat → State → State) (s : State)
    (h : ∀ t s, (g t s).rcd = s.rcd) : (forTrays g s).rcd = s.rcd :=
  forTrays_keeps (fun t => t.rcd = s.rcd) g (fun t u hu => (h t u).trans hu) s rfl
@[simp] theorem forTrays_loop (g : Nat → State → State) (s : State)
    (h : ∀ t s, (g t s).loop = s.loop) : (forTrays g s).loop = s.loop :=
  forTrays_keeps (fun t => t.loop = s.loop) g (fun t u hu => (h t u).trans hu) s rfl
@[simp] theorem forTrays_phases (g : Nat → State → State) (s : State)
    (h : ∀ t s, (g t s).phases = s.phases) : (forTrays g s).phases = s.phases :=
  forTrays_keeps (fun t => t.phases = s.phases) g (fun t u hu => (h t u).trans hu) s rfl
@[simp] theorem forTrays_tph (g : Nat → State → State) (s : State)
    (h : ∀ t s, (g t s).tph = s.tph) : (forTrays g s).tph = s.tph :=
  forTrays_keeps (fun t => t.tph = s.tph) g (fun t u hu => (h t u).trans hu) s rfl
@[simp] theorem forTrays_links (g : Nat → State → State) (s : State)
    (h : ∀ t s, (g t s).links = s.links) : (forTrays g s).links = s.links :=
  forTrays_keeps (fun t => t.links = s.links) g (fun t u hu => (h t u).trans hu) s rfl
@[simp] theorem forTrays_edge (g : Nat → State → State) (s : State)
    (h : ∀ t s, (g t s).edge = s.edge) : (forTrays g s).edge = s.edge :=
  forTrays_keeps (fun t => t.edge = s.edge) g (fun t u hu => (h t u).trans hu) s rfl
@[simp] theorem forTrays_trays (g : Nat → State → State) (s : State)
    (h : ∀ t s, (g t s).trays = s.trays) : (forTrays g s).trays = s.trays :=
  forTrays_keeps (fun t => t.trays = s.trays) g (fun t u hu => (h t u).trans hu) s rfl
@[simp] theorem forTrays_alloc (g : Nat → State → State) (s : State)
    (h : ∀ t s, (g t s).alloc = s.alloc) : (forTrays g s).alloc = s.alloc :=
  forTrays_keeps (fun t => t.alloc = s.alloc) g (fun t u hu => (h t u).trans hu) s rfl
@[simp] theorem forTrays_tows (g : Nat → State → State) (s : State)
    (h : ∀ t s, (g t s).tows = s.tows) : (forTrays g s).tows = s.tows :=
  forTrays_keeps (fun t => t.tows = s.tows) g (fun t u hu => (h t u).trans hu) s rfl
@[simp] theorem forTrays_est (g : Nat → State → State) (s : State)
    (h : ∀ t s, (g t s).est = s.est) : (forTrays g s).est = s.est :=
  forTrays_keeps (fun t => t.est = s.est) g (fun t u hu => (h t u).trans hu) s rfl
@[simp] theorem forTrays_feed (g : Nat → State → State) (s : State)
    (h : ∀ t s, (g t s).feed = s.feed) : (forTrays g s).feed = s.feed :=
  forTrays_keeps (fun t => t.feed = s.feed) g (fun t u hu => (h t u).trans hu) s rfl
@[simp] theorem forTrays_gov (g : Nat → State → State) (s : State)
    (h : ∀ t s, (g t s).gov = s.gov) : (forTrays g s).gov = s.gov :=
  forTrays_keeps (fun t => t.gov = s.gov) g (fun t u hu => (h t u).trans hu) s rfl
@[simp] theorem forTrays_gates (g : Nat → State → State) (s : State)
    (h : ∀ t s, (g t s).gates = s.gates) : (forTrays g s).gates = s.gates :=
  forTrays_keeps (fun t => t.gates = s.gates) g (fun t u hu => (h t u).trans hu) s rfl
@[simp] theorem forTrays_ev (g : Nat → State → State) (s : State)
    (h : ∀ t s, (g t s).ev = s.ev) : (forTrays g s).ev = s.ev :=
  forTrays_keeps (fun t => t.ev = s.ev) g (fun t u hu => (h t u).trans hu) s rfl
@[simp] theorem forTrays_tide (g : Nat → State → State) (s : State)
    (h : ∀ t s, (g t s).tide = s.tide) : (forTrays g s).tide = s.tide :=
  forTrays_keeps (fun t => t.tide = s.tide) g (fun t u hu => (h t u).trans hu) s rfl
@[simp] theorem forTrays_pair (g : Nat → State → State) (s : State)
    (h : ∀ t s, (g t s).pair = s.pair) : (forTrays g s).pair = s.pair :=
  forTrays_keeps (fun t => t.pair = s.pair) g (fun t u hu => (h t u).trans hu) s rfl
@[simp] theorem forTrays_sec (g : Nat → State → State) (s : State)
    (h : ∀ t s, (g t s).sec = s.sec) : (forTrays g s).sec = s.sec :=
  forTrays_keeps (fun t => t.sec = s.sec) g (fun t u hu => (h t u).trans hu) s rfl
@[simp] theorem forTrays_cal (g : Nat → State → State) (s : State)
    (h : ∀ t s, (g t s).cal = s.cal) : (forTrays g s).cal = s.cal :=
  forTrays_keeps (fun t => t.cal = s.cal) g (fun t u hu => (h t u).trans hu) s rfl
@[simp] theorem forTrays_grid (g : Nat → State → State) (s : State)
    (h : ∀ t s, (g t s).grid = s.grid) : (forTrays g s).grid = s.grid :=
  forTrays_keeps (fun t => t.grid = s.grid) g (fun t u hu => (h t u).trans hu) s rfl
@[simp] theorem forTrays_slots (g : Nat → State → State) (s : State)
    (h : ∀ t s, (g t s).slots = s.slots) : (forTrays g s).slots = s.slots :=
  forTrays_keeps (fun t => t.slots = s.slots) g (fun t u hu => (h t u).trans hu) s rfl
@[simp] theorem forTrays_dock (g : Nat → State → State) (s : State)
    (h : ∀ t s, (g t s).dock = s.dock) : (forTrays g s).dock = s.dock :=
  forTrays_keeps (fun t => t.dock = s.dock) g (fun t u hu => (h t u).trans hu) s rfl
@[simp] theorem forTrays_port (g : Nat → State → State) (s : State)
    (h : ∀ t s, (g t s).port = s.port) : (forTrays g s).port = s.port :=
  forTrays_keeps (fun t => t.port = s.port) g (fun t u hu => (h t u).trans hu) s rfl
@[simp] theorem forTrays_sess (g : Nat → State → State) (s : State)
    (h : ∀ t s, (g t s).sess = s.sess) : (forTrays g s).sess = s.sess :=
  forTrays_keeps (fun t => t.sess = s.sess) g (fun t u hu => (h t u).trans hu) s rfl
@[simp] theorem forTrays_clk (g : Nat → State → State) (s : State)
    (h : ∀ t s, (g t s).clk = s.clk) : (forTrays g s).clk = s.clk :=
  forTrays_keeps (fun t => t.clk = s.clk) g (fun t u hu => (h t u).trans hu) s rfl
@[simp] theorem forTrays_cap (g : Nat → State → State) (s : State)
    (h : ∀ t s, (g t s).cap = s.cap) : (forTrays g s).cap = s.cap :=
  forTrays_keeps (fun t => t.cap = s.cap) g (fun t u hu => (h t u).trans hu) s rfl

/-! ### A field of a guarded effect -/

@[simp] theorem when_pending (c : Bool) (g : State → State) (s : State) (h : (g s).pending = s.pending) :
    (when_ c g s).pending = s.pending := by
  unfold when_; split
  · exact h
  · rfl
@[simp] theorem when_freeCount (c : Bool) (g : State → State) (s : State) (h : (g s).freeCount = s.freeCount) :
    (when_ c g s).freeCount = s.freeCount := by
  unfold when_; split
  · exact h
  · rfl
@[simp] theorem when_now (c : Bool) (g : State → State) (s : State) (h : (g s).now = s.now) :
    (when_ c g s).now = s.now := by
  unfold when_; split
  · exact h
  · rfl
@[simp] theorem when_tx (c : Bool) (g : State → State) (s : State) (h : (g s).tx = s.tx) :
    (when_ c g s).tx = s.tx := by
  unfold when_; split
  · exact h
  · rfl
@[simp] theorem when_hw (c : Bool) (g : State → State) (s : State) (h : (g s).hw = s.hw) :
    (when_ c g s).hw = s.hw := by
  unfold when_; split
  · exact h
  · rfl
@[simp] theorem when_od (c : Bool) (g : State → State) (s : State) (h : (g s).od = s.od) :
    (when_ c g s).od = s.od := by
  unfold when_; split
  · exact h
  · rfl
@[simp] theorem when_txn (c : Bool) (g : State → State) (s : State) (h : (g s).txn = s.txn) :
    (when_ c g s).txn = s.txn := by
  unfold when_; split
  · exact h
  · rfl
@[simp] theorem when_fm (c : Bool) (g : State → State) (s : State) (h : (g s).fm = s.fm) :
    (when_ c g s).fm = s.fm := by
  unfold when_; split
  · exact h
  · rfl
@[simp] theorem when_rcd (c : Bool) (g : State → State) (s : State) (h : (g s).rcd = s.rcd) :
    (when_ c g s).rcd = s.rcd := by
  unfold when_; split
  · exact h
  · rfl
@[simp] theorem when_loop (c : Bool) (g : State → State) (s : State) (h : (g s).loop = s.loop) :
    (when_ c g s).loop = s.loop := by
  unfold when_; split
  · exact h
  · rfl
@[simp] theorem when_phases (c : Bool) (g : State → State) (s : State) (h : (g s).phases = s.phases) :
    (when_ c g s).phases = s.phases := by
  unfold when_; split
  · exact h
  · rfl
@[simp] theorem when_tph (c : Bool) (g : State → State) (s : State) (h : (g s).tph = s.tph) :
    (when_ c g s).tph = s.tph := by
  unfold when_; split
  · exact h
  · rfl
@[simp] theorem when_links (c : Bool) (g : State → State) (s : State) (h : (g s).links = s.links) :
    (when_ c g s).links = s.links := by
  unfold when_; split
  · exact h
  · rfl
@[simp] theorem when_edge (c : Bool) (g : State → State) (s : State) (h : (g s).edge = s.edge) :
    (when_ c g s).edge = s.edge := by
  unfold when_; split
  · exact h
  · rfl
@[simp] theorem when_trays (c : Bool) (g : State → State) (s : State) (h : (g s).trays = s.trays) :
    (when_ c g s).trays = s.trays := by
  unfold when_; split
  · exact h
  · rfl
@[simp] theorem when_alloc (c : Bool) (g : State → State) (s : State) (h : (g s).alloc = s.alloc) :
    (when_ c g s).alloc = s.alloc := by
  unfold when_; split
  · exact h
  · rfl
@[simp] theorem when_tows (c : Bool) (g : State → State) (s : State) (h : (g s).tows = s.tows) :
    (when_ c g s).tows = s.tows := by
  unfold when_; split
  · exact h
  · rfl
@[simp] theorem when_est (c : Bool) (g : State → State) (s : State) (h : (g s).est = s.est) :
    (when_ c g s).est = s.est := by
  unfold when_; split
  · exact h
  · rfl
@[simp] theorem when_feed (c : Bool) (g : State → State) (s : State) (h : (g s).feed = s.feed) :
    (when_ c g s).feed = s.feed := by
  unfold when_; split
  · exact h
  · rfl
@[simp] theorem when_gov (c : Bool) (g : State → State) (s : State) (h : (g s).gov = s.gov) :
    (when_ c g s).gov = s.gov := by
  unfold when_; split
  · exact h
  · rfl
@[simp] theorem when_gates (c : Bool) (g : State → State) (s : State) (h : (g s).gates = s.gates) :
    (when_ c g s).gates = s.gates := by
  unfold when_; split
  · exact h
  · rfl
@[simp] theorem when_ev (c : Bool) (g : State → State) (s : State) (h : (g s).ev = s.ev) :
    (when_ c g s).ev = s.ev := by
  unfold when_; split
  · exact h
  · rfl
@[simp] theorem when_tide (c : Bool) (g : State → State) (s : State) (h : (g s).tide = s.tide) :
    (when_ c g s).tide = s.tide := by
  unfold when_; split
  · exact h
  · rfl
@[simp] theorem when_pair (c : Bool) (g : State → State) (s : State) (h : (g s).pair = s.pair) :
    (when_ c g s).pair = s.pair := by
  unfold when_; split
  · exact h
  · rfl
@[simp] theorem when_sec (c : Bool) (g : State → State) (s : State) (h : (g s).sec = s.sec) :
    (when_ c g s).sec = s.sec := by
  unfold when_; split
  · exact h
  · rfl
@[simp] theorem when_cal (c : Bool) (g : State → State) (s : State) (h : (g s).cal = s.cal) :
    (when_ c g s).cal = s.cal := by
  unfold when_; split
  · exact h
  · rfl
@[simp] theorem when_grid (c : Bool) (g : State → State) (s : State) (h : (g s).grid = s.grid) :
    (when_ c g s).grid = s.grid := by
  unfold when_; split
  · exact h
  · rfl
@[simp] theorem when_slots (c : Bool) (g : State → State) (s : State) (h : (g s).slots = s.slots) :
    (when_ c g s).slots = s.slots := by
  unfold when_; split
  · exact h
  · rfl
@[simp] theorem when_dock (c : Bool) (g : State → State) (s : State) (h : (g s).dock = s.dock) :
    (when_ c g s).dock = s.dock := by
  unfold when_; split
  · exact h
  · rfl
@[simp] theorem when_port (c : Bool) (g : State → State) (s : State) (h : (g s).port = s.port) :
    (when_ c g s).port = s.port := by
  unfold when_; split
  · exact h
  · rfl
@[simp] theorem when_sess (c : Bool) (g : State → State) (s : State) (h : (g s).sess = s.sess) :
    (when_ c g s).sess = s.sess := by
  unfold when_; split
  · exact h
  · rfl
@[simp] theorem when_clk (c : Bool) (g : State → State) (s : State) (h : (g s).clk = s.clk) :
    (when_ c g s).clk = s.clk := by
  unfold when_; split
  · exact h
  · rfl
@[simp] theorem when_cap (c : Bool) (g : State → State) (s : State) (h : (g s).cap = s.cap) :
    (when_ c g s).cap = s.cap := by
  unfold when_; split
  · exact h
  · rfl

end Sys2Proof.Machine
end

