-- ==== Sys2Proof/Laws/Memory.lean ====
section
/-! SUPPORT. Laws of core SRAM and LPDDR4X: every operation on them keeps the canonical form; a byte reads as what
was last written to it. -/

namespace Sys2Proof.Machine

/-! ### Writing and forgetting bytes -/

theorem memWrite_wf (m : List (Nat × Byte)) (base : Nat) (bs : Bytes) (h : Memory.wf m = true) :
    Memory.wf (memWrite m base bs) = true := by
  induction bs generalizing m base with
  | nil => exact h
  | cons b bs ih => exact ih _ _ (Store.wf_set 0 m base b h)

theorem memClear_wf (m : List (Nat × Byte)) (base len : Nat) (h : Memory.wf m = true) :
    Memory.wf (memClear m base len) = true := Store.wf_filter 0 m _ h

/-- Everything a write does, read at any address. -/
theorem memWrite_get (m : List (Nat × Byte)) (base : Nat) (bs : Bytes) (a : Nat) :
    Store.get 0 (memWrite m base bs) a =
      if base ≤ a ∧ a < base + bs.length then bs.getD (a - base) 0 else Store.get 0 m a := by
  induction bs generalizing m base with
  | nil => simp only [memWrite, List.length_nil]; rw [if_neg (by omega)]
  | cons b bs ih =>
    rw [memWrite, ih, Store.get_set]
    by_cases h0 : a = base
    · subst h0; simp
    · by_cases h1 : base + 1 ≤ a ∧ a < base + 1 + bs.length
      · rw [if_pos h1, if_pos (by simp only [List.length_cons]; omega)]
        have : a - base = (a - (base + 1)) + 1 := by omega
        rw [this, List.getD_cons_succ]
      · rw [if_neg h1, if_neg h0, if_neg (by simp only [List.length_cons]; omega)]

theorem memRead_length (m : List (Nat × Byte)) (base len : Nat) : (memRead m base len).length = len := by
  simp [memRead]

/-- What was written is read back. -/
theorem memRead_memWrite (m : List (Nat × Byte)) (base : Nat) (bs : Bytes) :
    memRead (memWrite m base bs) base bs.length = bs := by
  apply List.ext_getElem
  · simp [memRead]
  · intro i h1 h2
    simp only [memRead, List.getElem_map, List.getElem_range, memWrite_get]
    rw [if_pos (by omega)]
    simp [h2]

/-- A read that does not meet the bytes written is unchanged. -/
theorem memRead_memWrite_apart (m : List (Nat × Byte)) (base : Nat) (bs : Bytes) (a len : Nat)
    (h : a + len ≤ base ∨ base + bs.length ≤ a) : memRead (memWrite m base bs) a len = memRead m a len := by
  apply List.map_congr_left
  intro i hi
  have := List.mem_range.1 hi
  rw [memWrite_get, if_neg (by omega)]

/-! ### Loading images and state -/

theorem foldl_wf {β : Type} (f : List (Nat × Byte) → β → List (Nat × Byte)) (l : List β)
    (hf : ∀ m b, Memory.wf m = true → Memory.wf (f m b) = true) (m : List (Nat × Byte)) (h : Memory.wf m = true) :
    Memory.wf (l.foldl f m) = true := by
  induction l generalizing m with
  | nil => exact h
  | cons b l ih => exact ih _ (hf m b h)

theorem loadImages_wf (p : Program) (r : Running) (all : Bool) (m : List (Nat × Byte)) (h : Memory.wf m = true) :
    Memory.wf (loadImages p r all m) = true := by
  unfold loadImages
  refine foldl_wf _ _ (fun m b hm => ?_) m h
  dsimp only
  split
  · exact memWrite_wf _ _ _ (memClear_wf _ _ _ hm)
  · exact memWrite_wf _ _ _ (memWrite_wf _ _ _ hm)

theorem loadState_wf (p : Program) (r : Running) (data : Bytes) (m : List (Nat × Byte)) (h : Memory.wf m = true) :
    Memory.wf (loadState p r data m) = true := by
  unfold loadState
  have key : ∀ (l : List (CoreDef × Nat)) (acc : List (Nat × Byte) × Bytes), Memory.wf acc.1 = true →
      Memory.wf (l.foldl (fun acc q =>
        (memWrite acc.1 (262144 * r.core q.2 + q.1.stateAt) (acc.2.take q.1.stateLen), acc.2.drop q.1.stateLen))
        acc).1 = true := by
    intro l
    induction l with
    | nil => exact fun _ h => h
    | cons q l ih => exact fun acc hacc => ih _ (memWrite_wf _ _ _ hacc)
  exact key _ (m, data) h

/-! ### Operators -/

theorem putBlock_wf (c : FireCtx) (a : Nat) (b : Bytes) (f : Firing) (h : Memory.wf f.mem = true) :
    Memory.wf (putBlock c a b f).mem = true := memWrite_wf _ _ _ h

theorem putOut_wf (c : FireCtx) (o : Op) (vs : List Rat) (f : Firing) (h : Memory.wf f.mem = true) :
    Memory.wf (putOut c o vs f).mem = true := putBlock_wf _ _ _ _ h

theorem opFir_wf (c : FireCtx) (o : Op) (f : Firing) (h : Memory.wf f.mem = true) :
    Memory.wf (opFir c o f).mem = true := by
  unfold opFir
  have key : ∀ (l : List (Bytes × Nat)) (g : Firing), Memory.wf g.mem = true →
      Memory.wf (l.foldl (fun f q => putBlock c (o.s + stateStride * q.2) q.1 f) g).mem = true := by
    intro l
    induction l with
    | nil => exact fun _ h => h
    | cons q l ih => exact fun g hg => ih _ (putBlock_wf _ _ _ _ hg)
  exact key _ _ (putOut_wf _ _ _ _ h)

theorem opSat_wf (c : FireCtx) (o : Op) (f : Firing) (h : Memory.wf f.mem = true) :
    Memory.wf (opSat c o f).mem = true := by
  unfold opSat
  dsimp only
  split
  · exact putOut_wf _ _ _ _ h
  · exact putBlock_wf _ _ _ _ (putOut_wf _ _ _ _ h)

theorem opRecv_wf (c : FireCtx) (o : Op) (f : Firing) (h : Memory.wf f.mem = true) :
    Memory.wf (opRecv c o f).mem = true := by
  unfold opRecv
  split
  · split
    · exact h
    · exact putBlock_wf _ _ _ _ h
  · split
    · exact putBlock_wf _ _ _ _ h
    · exact h

/-- An operator keeps the canonical form of its core's memory. -/
theorem runOp_wf (c : FireCtx) (f : Firing) (o : Op) (h : Memory.wf f.mem = true) :
    Memory.wf (runOp c f o).mem = true := by
  unfold runOp
  split
  · exact putBlock_wf _ _ _ _ (putBlock_wf _ _ _ _ (putBlock_wf _ _ _ _ (putBlock_wf _ _ _ _ (putOut_wf _ _ _ _ h))))
  · exact putBlock_wf _ _ _ _ (putBlock_wf _ _ _ _ (putBlock_wf _ _ _ _ (putOut_wf _ _ _ _ h)))
  · exact opFir_wf _ _ _ h
  · exact putOut_wf _ _ _ _ h
  · exact putOut_wf _ _ _ _ h
  · exact putOut_wf _ _ _ _ h
  · exact opSat_wf _ _ _ h
  · exact putOut_wf _ _ _ _ h
  · exact h
  · exact opRecv_wf _ _ _ h
  · exact h
  · exact h
  · exact h
  · exact h

/-- So does a firing. -/
theorem fireStage_wf (c : FireCtx) (m : List (Nat × Byte)) (st : StageDef) (h : Memory.wf m = true) :
    Memory.wf (fireStage c m st).mem = true := by
  unfold fireStage
  have key : ∀ (l : List Op) (g : Firing), Memory.wf g.mem = true → Memory.wf (l.foldl (runOp c) g).mem = true := by
    intro l
    induction l with
    | nil => exact fun _ h => h
    | cons q l ih => exact fun g hg => ih _ (runOp_wf _ _ _ hg)
  exact key _ _ h

end Sys2Proof.Machine
end

