-- ==== Sys2Proof/Laws/Shared.lean ====
section
/-! SUPPORT. What each shared operation leaves alone, said once: the groups of State it keeps. -/

set_option maxRecDepth 4000

namespace Sys2Proof.Machine
set_option Elab.async false

@[simp] theorem resetSeeds_keeps (t : Nat) (s : State) :
    (resetSeeds t s).pending = s.pending ∧ (resetSeeds t s).freeCount = s.freeCount ∧
    (resetSeeds t s).now = s.now ∧ (resetSeeds t s).tx = s.tx ∧ (resetSeeds t s).hw = s.hw ∧
    (resetSeeds t s).od = s.od ∧ (resetSeeds t s).txn = s.txn ∧ (resetSeeds t s).fm = s.fm ∧
    (resetSeeds t s).rcd = s.rcd ∧ (resetSeeds t s).loop = s.loop ∧
    (resetSeeds t s).phases = s.phases ∧ (resetSeeds t s).tph = s.tph ∧
    (resetSeeds t s).links = s.links ∧ (resetSeeds t s).edge = s.edge ∧
    (resetSeeds t s).trays = s.trays ∧ (resetSeeds t s).alloc = s.alloc ∧
    (resetSeeds t s).tows = s.tows ∧ (resetSeeds t s).feed = s.feed ∧ (resetSeeds t s).gov = s.gov ∧
    (resetSeeds t s).gates = s.gates ∧ (resetSeeds t s).ev = s.ev ∧ (resetSeeds t s).tide = s.tide ∧
    (resetSeeds t s).pair = s.pair ∧ (resetSeeds t s).sec = s.sec ∧ (resetSeeds t s).cal = s.cal ∧
    (resetSeeds t s).grid = s.grid ∧ (resetSeeds t s).slots = s.slots ∧
    (resetSeeds t s).dock = s.dock ∧ (resetSeeds t s).port = s.port ∧ (resetSeeds t s).sess = s.sess
    ∧ (resetSeeds t s).clk = s.clk ∧ (resetSeeds t s).cap = s.cap := by
   simp [resetSeeds]

@[simp] theorem towSend_keeps (t : Nat) (south : Bool) (code f l : Nat) (payload : Bytes) (s : State) :
    (towSend t south code f l payload s).pending = s.pending ∧
    (towSend t south code f l payload s).freeCount = s.freeCount ∧
    (towSend t south code f l payload s).now = s.now ∧
    (towSend t south code f l payload s).hw = s.hw ∧ (towSend t south code f l payload s).od = s.od
    ∧ (towSend t south code f l payload s).txn = s.txn ∧
    (towSend t south code f l payload s).fm = s.fm ∧
    (towSend t south code f l payload s).rcd = s.rcd ∧
    (towSend t south code f l payload s).loop = s.loop ∧
    (towSend t south code f l payload s).phases = s.phases ∧
    (towSend t south code f l payload s).tph = s.tph ∧
    (towSend t south code f l payload s).links = s.links ∧
    (towSend t south code f l payload s).edge = s.edge ∧
    (towSend t south code f l payload s).trays = s.trays ∧
    (towSend t south code f l payload s).alloc = s.alloc ∧
    (towSend t south code f l payload s).tows = s.tows ∧
    (towSend t south code f l payload s).est = s.est ∧
    (towSend t south code f l payload s).feed = s.feed ∧
    (towSend t south code f l payload s).gov = s.gov ∧
    (towSend t south code f l payload s).gates = s.gates ∧
    (towSend t south code f l payload s).ev = s.ev ∧
    (towSend t south code f l payload s).tide = s.tide ∧
    (towSend t south code f l payload s).pair = s.pair ∧
    (towSend t south code f l payload s).sec = s.sec ∧
    (towSend t south code f l payload s).cal = s.cal ∧
    (towSend t south code f l payload s).grid = s.grid ∧
    (towSend t south code f l payload s).slots = s.slots ∧
    (towSend t south code f l payload s).dock = s.dock ∧
    (towSend t south code f l payload s).port = s.port ∧
    (towSend t south code f l payload s).sess = s.sess ∧
    (towSend t south code f l payload s).clk = s.clk ∧
    (towSend t south code f l payload s).cap = s.cap := by
   simp [towSend]

@[simp] theorem queueConfig_keeps (t : Nat) (regs : List Nat) (enum : Bool) (s : State) :
    (queueConfig t regs enum s).pending = s.pending ∧
    (queueConfig t regs enum s).freeCount = s.freeCount ∧ (queueConfig t regs enum s).now = s.now ∧
    (queueConfig t regs enum s).tx = s.tx ∧ (queueConfig t regs enum s).hw = s.hw ∧
    (queueConfig t regs enum s).od = s.od ∧ (queueConfig t regs enum s).txn = s.txn ∧
    (queueConfig t regs enum s).fm = s.fm ∧ (queueConfig t regs enum s).rcd = s.rcd ∧
    (queueConfig t regs enum s).loop = s.loop ∧ (queueConfig t regs enum s).phases = s.phases ∧
    (queueConfig t regs enum s).tph = s.tph ∧ (queueConfig t regs enum s).links = s.links ∧
    (queueConfig t regs enum s).edge = s.edge ∧ (queueConfig t regs enum s).trays = s.trays ∧
    (queueConfig t regs enum s).alloc = s.alloc ∧ (queueConfig t regs enum s).est = s.est ∧
    (queueConfig t regs enum s).feed = s.feed ∧ (queueConfig t regs enum s).gov = s.gov ∧
    (queueConfig t regs enum s).gates = s.gates ∧ (queueConfig t regs enum s).ev = s.ev ∧
    (queueConfig t regs enum s).tide = s.tide ∧ (queueConfig t regs enum s).pair = s.pair ∧
    (queueConfig t regs enum s).sec = s.sec ∧ (queueConfig t regs enum s).cal = s.cal ∧
    (queueConfig t regs enum s).grid = s.grid ∧ (queueConfig t regs enum s).slots = s.slots ∧
    (queueConfig t regs enum s).dock = s.dock ∧ (queueConfig t regs enum s).port = s.port ∧
    (queueConfig t regs enum s).sess = s.sess ∧ (queueConfig t regs enum s).clk = s.clk ∧
    (queueConfig t regs enum s).cap = s.cap := by
   simp [queueConfig]

@[simp] theorem queueEnables_keeps (t m : Nat) (s : State) :
    (queueEnables t m s).pending = s.pending ∧ (queueEnables t m s).freeCount = s.freeCount ∧
    (queueEnables t m s).now = s.now ∧ (queueEnables t m s).tx = s.tx ∧
    (queueEnables t m s).hw = s.hw ∧ (queueEnables t m s).od = s.od ∧
    (queueEnables t m s).txn = s.txn ∧ (queueEnables t m s).fm = s.fm ∧
    (queueEnables t m s).rcd = s.rcd ∧ (queueEnables t m s).loop = s.loop ∧
    (queueEnables t m s).phases = s.phases ∧ (queueEnables t m s).tph = s.tph ∧
    (queueEnables t m s).links = s.links ∧ (queueEnables t m s).edge = s.edge ∧
    (queueEnables t m s).trays = s.trays ∧ (queueEnables t m s).alloc = s.alloc ∧
    (queueEnables t m s).est = s.est ∧ (queueEnables t m s).feed = s.feed ∧
    (queueEnables t m s).gov = s.gov ∧ (queueEnables t m s).gates = s.gates ∧
    (queueEnables t m s).ev = s.ev ∧ (queueEnables t m s).tide = s.tide ∧
    (queueEnables t m s).pair = s.pair ∧ (queueEnables t m s).sec = s.sec ∧
    (queueEnables t m s).cal = s.cal ∧ (queueEnables t m s).grid = s.grid ∧
    (queueEnables t m s).slots = s.slots ∧ (queueEnables t m s).dock = s.dock ∧
    (queueEnables t m s).port = s.port ∧ (queueEnables t m s).sess = s.sess ∧
    (queueEnables t m s).clk = s.clk ∧ (queueEnables t m s).cap = s.cap := by
   simp [queueEnables]

@[simp] theorem derate_keeps (t : Nat) (s : State) :
    (derate t s).pending = s.pending ∧ (derate t s).freeCount = s.freeCount ∧
    (derate t s).now = s.now ∧ (derate t s).tx = s.tx ∧ (derate t s).hw = s.hw ∧
    (derate t s).od = s.od ∧ (derate t s).txn = s.txn ∧ (derate t s).fm = s.fm ∧
    (derate t s).rcd = s.rcd ∧ (derate t s).loop = s.loop ∧ (derate t s).phases = s.phases ∧
    (derate t s).tph = s.tph ∧ (derate t s).links = s.links ∧ (derate t s).edge = s.edge ∧
    (derate t s).alloc = s.alloc ∧ (derate t s).tows = s.tows ∧ (derate t s).est = s.est ∧
    (derate t s).feed = s.feed ∧ (derate t s).gov = s.gov ∧ (derate t s).gates = s.gates ∧
    (derate t s).ev = s.ev ∧ (derate t s).tide = s.tide ∧ (derate t s).pair = s.pair ∧
    (derate t s).sec = s.sec ∧ (derate t s).cal = s.cal ∧ (derate t s).grid = s.grid ∧
    (derate t s).slots = s.slots ∧ (derate t s).dock = s.dock ∧ (derate t s).port = s.port ∧
    (derate t s).sess = s.sess ∧ (derate t s).clk = s.clk ∧ (derate t s).cap = s.cap := by
   simp [derate]

@[simp] theorem publishSweep_keeps (t : Nat) (s : State) :
    (publishSweep t s).pending = s.pending ∧ (publishSweep t s).freeCount = s.freeCount ∧
    (publishSweep t s).now = s.now ∧ (publishSweep t s).tx = s.tx ∧ (publishSweep t s).hw = s.hw ∧
    (publishSweep t s).od = s.od ∧ (publishSweep t s).txn = s.txn ∧ (publishSweep t s).fm = s.fm ∧
    (publishSweep t s).rcd = s.rcd ∧ (publishSweep t s).loop = s.loop ∧
    (publishSweep t s).phases = s.phases ∧ (publishSweep t s).tph = s.tph ∧
    (publishSweep t s).links = s.links ∧ (publishSweep t s).edge = s.edge ∧
    (publishSweep t s).alloc = s.alloc ∧ (publishSweep t s).feed = s.feed ∧
    (publishSweep t s).gov = s.gov ∧ (publishSweep t s).gates = s.gates ∧
    (publishSweep t s).ev = s.ev ∧ (publishSweep t s).tide = s.tide ∧
    (publishSweep t s).pair = s.pair ∧ (publishSweep t s).sec = s.sec ∧
    (publishSweep t s).cal = s.cal ∧ (publishSweep t s).grid = s.grid ∧
    (publishSweep t s).slots = s.slots ∧ (publishSweep t s).dock = s.dock ∧
    (publishSweep t s).port = s.port ∧ (publishSweep t s).sess = s.sess ∧
    (publishSweep t s).clk = s.clk ∧ (publishSweep t s).cap = s.cap := by
   simp [publishSweep]

@[simp] theorem tideFault_keeps (s : State) :
    (tideFault s).pending = s.pending ∧ (tideFault s).freeCount = s.freeCount ∧
    (tideFault s).now = s.now ∧ (tideFault s).tx = s.tx ∧ (tideFault s).hw = s.hw ∧
    (tideFault s).od = s.od ∧ (tideFault s).txn = s.txn ∧ (tideFault s).rcd = s.rcd ∧
    (tideFault s).loop = s.loop ∧ (tideFault s).phases = s.phases ∧ (tideFault s).tph = s.tph ∧
    (tideFault s).links = s.links ∧ (tideFault s).edge = s.edge ∧ (tideFault s).trays = s.trays ∧
    (tideFault s).alloc = s.alloc ∧ (tideFault s).tows = s.tows ∧ (tideFault s).est = s.est ∧
    (tideFault s).feed = s.feed ∧ (tideFault s).gov = s.gov ∧ (tideFault s).gates = s.gates ∧
    (tideFault s).ev = s.ev ∧ (tideFault s).pair = s.pair ∧ (tideFault s).sec = s.sec ∧
    (tideFault s).cal = s.cal ∧ (tideFault s).grid = s.grid ∧ (tideFault s).slots = s.slots ∧
    (tideFault s).dock = s.dock ∧ (tideFault s).port = s.port ∧ (tideFault s).sess = s.sess ∧
    (tideFault s).clk = s.clk ∧ (tideFault s).cap = s.cap := by
   simp [tideFault]

@[simp] theorem tideSlotLost_keeps (n : Nat) (s : State) :
    (tideSlotLost n s).pending = s.pending ∧ (tideSlotLost n s).freeCount = s.freeCount ∧
    (tideSlotLost n s).now = s.now ∧ (tideSlotLost n s).tx = s.tx ∧ (tideSlotLost n s).hw = s.hw ∧
    (tideSlotLost n s).od = s.od ∧ (tideSlotLost n s).txn = s.txn ∧ (tideSlotLost n s).rcd = s.rcd ∧
    (tideSlotLost n s).loop = s.loop ∧ (tideSlotLost n s).phases = s.phases ∧
    (tideSlotLost n s).tph = s.tph ∧ (tideSlotLost n s).links = s.links ∧
    (tideSlotLost n s).edge = s.edge ∧ (tideSlotLost n s).trays = s.trays ∧
    (tideSlotLost n s).alloc = s.alloc ∧ (tideSlotLost n s).tows = s.tows ∧
    (tideSlotLost n s).est = s.est ∧ (tideSlotLost n s).feed = s.feed ∧
    (tideSlotLost n s).gov = s.gov ∧ (tideSlotLost n s).gates = s.gates ∧
    (tideSlotLost n s).ev = s.ev ∧ (tideSlotLost n s).pair = s.pair ∧ (tideSlotLost n s).sec = s.sec
    ∧ (tideSlotLost n s).cal = s.cal ∧ (tideSlotLost n s).grid = s.grid ∧
    (tideSlotLost n s).slots = s.slots ∧ (tideSlotLost n s).dock = s.dock ∧
    (tideSlotLost n s).port = s.port ∧ (tideSlotLost n s).sess = s.sess ∧
    (tideSlotLost n s).clk = s.clk ∧ (tideSlotLost n s).cap = s.cap := by
   simp [tideSlotLost]

@[simp] theorem schedReject_keeps (s : State) :
    (schedReject s).pending = s.pending ∧ (schedReject s).freeCount = s.freeCount ∧
    (schedReject s).now = s.now ∧ (schedReject s).tx = s.tx ∧ (schedReject s).hw = s.hw ∧
    (schedReject s).od = s.od ∧ (schedReject s).txn = s.txn ∧ (schedReject s).fm = s.fm ∧
    (schedReject s).rcd = s.rcd ∧ (schedReject s).loop = s.loop ∧ (schedReject s).phases = s.phases
    ∧ (schedReject s).tph = s.tph ∧ (schedReject s).links = s.links ∧ (schedReject s).edge = s.edge
    ∧ (schedReject s).trays = s.trays ∧ (schedReject s).alloc = s.alloc ∧
    (schedReject s).tows = s.tows ∧ (schedReject s).est = s.est ∧ (schedReject s).feed = s.feed ∧
    (schedReject s).gov = s.gov ∧ (schedReject s).gates = s.gates ∧ (schedReject s).ev = s.ev ∧
    (schedReject s).pair = s.pair ∧ (schedReject s).sec = s.sec ∧ (schedReject s).cal = s.cal ∧
    (schedReject s).grid = s.grid ∧ (schedReject s).slots = s.slots ∧ (schedReject s).dock = s.dock
    ∧ (schedReject s).port = s.port ∧ (schedReject s).sess = s.sess ∧ (schedReject s).clk = s.clk ∧
    (schedReject s).cap = s.cap := by
   simp [schedReject]

@[simp] theorem tideWarm_keeps (s : State) :
    (tideWarm s).pending = s.pending ∧ (tideWarm s).freeCount = s.freeCount ∧
    (tideWarm s).now = s.now ∧ (tideWarm s).tx = s.tx ∧ (tideWarm s).hw = s.hw ∧
    (tideWarm s).od = s.od ∧ (tideWarm s).txn = s.txn ∧ (tideWarm s).fm = s.fm ∧
    (tideWarm s).rcd = s.rcd ∧ (tideWarm s).loop = s.loop ∧ (tideWarm s).phases = s.phases ∧
    (tideWarm s).tph = s.tph ∧ (tideWarm s).links = s.links ∧ (tideWarm s).edge = s.edge ∧
    (tideWarm s).trays = s.trays ∧ (tideWarm s).alloc = s.alloc ∧ (tideWarm s).tows = s.tows ∧
    (tideWarm s).est = s.est ∧ (tideWarm s).feed = s.feed ∧ (tideWarm s).gov = s.gov ∧
    (tideWarm s).gates = s.gates ∧ (tideWarm s).ev = s.ev ∧ (tideWarm s).pair = s.pair ∧
    (tideWarm s).sec = s.sec ∧ (tideWarm s).cal = s.cal ∧ (tideWarm s).grid = s.grid ∧
    (tideWarm s).slots = s.slots ∧ (tideWarm s).dock = s.dock ∧ (tideWarm s).port = s.port ∧
    (tideWarm s).sess = s.sess ∧ (tideWarm s).clk = s.clk ∧ (tideWarm s).cap = s.cap := by
   simp [tideWarm]

@[simp] theorem dropWaits_keeps (p : GateWait → Bool) (s : State) :
    (dropWaits p s).pending = s.pending ∧ (dropWaits p s).freeCount = s.freeCount ∧
    (dropWaits p s).now = s.now ∧ (dropWaits p s).tx = s.tx ∧ (dropWaits p s).hw = s.hw ∧
    (dropWaits p s).od = s.od ∧ (dropWaits p s).txn = s.txn ∧ (dropWaits p s).fm = s.fm ∧
    (dropWaits p s).rcd = s.rcd ∧ (dropWaits p s).loop = s.loop ∧ (dropWaits p s).phases = s.phases
    ∧ (dropWaits p s).tph = s.tph ∧ (dropWaits p s).links = s.links ∧ (dropWaits p s).edge = s.edge
    ∧ (dropWaits p s).trays = s.trays ∧ (dropWaits p s).alloc = s.alloc ∧
    (dropWaits p s).tows = s.tows ∧ (dropWaits p s).est = s.est ∧ (dropWaits p s).feed = s.feed ∧
    (dropWaits p s).gov = s.gov ∧ (dropWaits p s).ev = s.ev ∧ (dropWaits p s).tide = s.tide ∧
    (dropWaits p s).pair = s.pair ∧ (dropWaits p s).sec = s.sec ∧ (dropWaits p s).cal = s.cal ∧
    (dropWaits p s).grid = s.grid ∧ (dropWaits p s).slots = s.slots ∧ (dropWaits p s).dock = s.dock
    ∧ (dropWaits p s).port = s.port ∧ (dropWaits p s).sess = s.sess ∧ (dropWaits p s).clk = s.clk ∧
    (dropWaits p s).cap = s.cap := by
   simp [dropWaits]

@[simp] theorem State.updFlight_keeps (s : State) (k n : Nat) (f : Flight → Flight) :
    (State.updFlight s k n f).pending = s.pending ∧
    (State.updFlight s k n f).freeCount = s.freeCount ∧ (State.updFlight s k n f).now = s.now ∧
    (State.updFlight s k n f).tx = s.tx ∧ (State.updFlight s k n f).hw = s.hw ∧
    (State.updFlight s k n f).od = s.od ∧ (State.updFlight s k n f).txn = s.txn ∧
    (State.updFlight s k n f).fm = s.fm ∧ (State.updFlight s k n f).rcd = s.rcd ∧
    (State.updFlight s k n f).loop = s.loop ∧ (State.updFlight s k n f).phases = s.phases ∧
    (State.updFlight s k n f).tph = s.tph ∧ (State.updFlight s k n f).links = s.links ∧
    (State.updFlight s k n f).edge = s.edge ∧ (State.updFlight s k n f).trays = s.trays ∧
    (State.updFlight s k n f).alloc = s.alloc ∧ (State.updFlight s k n f).tows = s.tows ∧
    (State.updFlight s k n f).est = s.est ∧ (State.updFlight s k n f).feed = s.feed ∧
    (State.updFlight s k n f).gates = s.gates ∧ (State.updFlight s k n f).ev = s.ev ∧
    (State.updFlight s k n f).tide = s.tide ∧ (State.updFlight s k n f).pair = s.pair ∧
    (State.updFlight s k n f).sec = s.sec ∧ (State.updFlight s k n f).cal = s.cal ∧
    (State.updFlight s k n f).grid = s.grid ∧ (State.updFlight s k n f).slots = s.slots ∧
    (State.updFlight s k n f).dock = s.dock ∧ (State.updFlight s k n f).port = s.port ∧
    (State.updFlight s k n f).sess = s.sess ∧ (State.updFlight s k n f).clk = s.clk ∧
    (State.updFlight s k n f).cap = s.cap := by
   simp [State.updFlight]

@[simp] theorem State.setPair_keeps (s : State) (p : PairSeq) :
    (State.setPair s p).pending = s.pending ∧ (State.setPair s p).freeCount = s.freeCount ∧
    (State.setPair s p).now = s.now ∧ (State.setPair s p).tx = s.tx ∧ (State.setPair s p).hw = s.hw
    ∧ (State.setPair s p).od = s.od ∧ (State.setPair s p).txn = s.txn ∧
    (State.setPair s p).fm = s.fm ∧ (State.setPair s p).rcd = s.rcd ∧
    (State.setPair s p).loop = s.loop ∧ (State.setPair s p).phases = s.phases ∧
    (State.setPair s p).tph = s.tph ∧ (State.setPair s p).links = s.links ∧
    (State.setPair s p).edge = s.edge ∧ (State.setPair s p).trays = s.trays ∧
    (State.setPair s p).alloc = s.alloc ∧ (State.setPair s p).tows = s.tows ∧
    (State.setPair s p).est = s.est ∧ (State.setPair s p).feed = s.feed ∧
    (State.setPair s p).gov = s.gov ∧ (State.setPair s p).gates = s.gates ∧
    (State.setPair s p).ev = s.ev ∧ (State.setPair s p).tide = s.tide ∧
    (State.setPair s p).pair = s.pair ∧ (State.setPair s p).sec = s.sec ∧
    (State.setPair s p).cal = s.cal ∧ (State.setPair s p).slots = s.slots ∧
    (State.setPair s p).dock = s.dock ∧ (State.setPair s p).port = s.port ∧
    (State.setPair s p).sess = s.sess ∧ (State.setPair s p).clk = s.clk ∧
    (State.setPair s p).cap = s.cap := by
   simp [State.setPair]

@[simp] theorem sendBarge_keeps (src dst kind slot channel tag : Nat) (payload : Bytes) (s : State) :
    (sendBarge src dst kind slot channel tag payload s).pending = s.pending ∧
    (sendBarge src dst kind slot channel tag payload s).freeCount = s.freeCount ∧
    (sendBarge src dst kind slot channel tag payload s).now = s.now ∧
    (sendBarge src dst kind slot channel tag payload s).hw = s.hw ∧
    (sendBarge src dst kind slot channel tag payload s).od = s.od ∧
    (sendBarge src dst kind slot channel tag payload s).txn = s.txn ∧
    (sendBarge src dst kind slot channel tag payload s).fm = s.fm ∧
    (sendBarge src dst kind slot channel tag payload s).rcd = s.rcd ∧
    (sendBarge src dst kind slot channel tag payload s).loop = s.loop ∧
    (sendBarge src dst kind slot channel tag payload s).phases = s.phases ∧
    (sendBarge src dst kind slot channel tag payload s).tph = s.tph ∧
    (sendBarge src dst kind slot channel tag payload s).links = s.links ∧
    (sendBarge src dst kind slot channel tag payload s).edge = s.edge ∧
    (sendBarge src dst kind slot channel tag payload s).trays = s.trays ∧
    (sendBarge src dst kind slot channel tag payload s).alloc = s.alloc ∧
    (sendBarge src dst kind slot channel tag payload s).tows = s.tows ∧
    (sendBarge src dst kind slot channel tag payload s).est = s.est ∧
    (sendBarge src dst kind slot channel tag payload s).feed = s.feed ∧
    (sendBarge src dst kind slot channel tag payload s).gov = s.gov ∧
    (sendBarge src dst kind slot channel tag payload s).gates = s.gates ∧
    (sendBarge src dst kind slot channel tag payload s).ev = s.ev ∧
    (sendBarge src dst kind slot channel tag payload s).tide = s.tide ∧
    (sendBarge src dst kind slot channel tag payload s).pair = s.pair ∧
    (sendBarge src dst kind slot channel tag payload s).sec = s.sec ∧
    (sendBarge src dst kind slot channel tag payload s).cal = s.cal ∧
    (sendBarge src dst kind slot channel tag payload s).slots = s.slots ∧
    (sendBarge src dst kind slot channel tag payload s).dock = s.dock ∧
    (sendBarge src dst kind slot channel tag payload s).port = s.port ∧
    (sendBarge src dst kind slot channel tag payload s).sess = s.sess ∧
    (sendBarge src dst kind slot channel tag payload s).clk = s.clk ∧
    (sendBarge src dst kind slot channel tag payload s).cap = s.cap := by
   unfold sendBarge
   dsimp only
   split <;> simp [countSent]

/-- Bytes in RAW barges change the mesh and what has left alone. -/
@[simp] theorem sendRaw_keeps (src dst slot channel tag n : Nat) (b : Bytes) (s : State) :
    (sendRaw src dst slot channel tag n b s).pending = s.pending ∧
    (sendRaw src dst slot channel tag n b s).freeCount = s.freeCount ∧
    (sendRaw src dst slot channel tag n b s).now = s.now ∧
    (sendRaw src dst slot channel tag n b s).hw = s.hw ∧
    (sendRaw src dst slot channel tag n b s).od = s.od ∧
    (sendRaw src dst slot channel tag n b s).txn = s.txn ∧
    (sendRaw src dst slot channel tag n b s).fm = s.fm ∧
    (sendRaw src dst slot channel tag n b s).rcd = s.rcd ∧
    (sendRaw src dst slot channel tag n b s).loop = s.loop ∧
    (sendRaw src dst slot channel tag n b s).phases = s.phases ∧
    (sendRaw src dst slot channel tag n b s).tph = s.tph ∧
    (sendRaw src dst slot channel tag n b s).links = s.links ∧
    (sendRaw src dst slot channel tag n b s).edge = s.edge ∧
    (sendRaw src dst slot channel tag n b s).trays = s.trays ∧
    (sendRaw src dst slot channel tag n b s).alloc = s.alloc ∧
    (sendRaw src dst slot channel tag n b s).tows = s.tows ∧
    (sendRaw src dst slot channel tag n b s).est = s.est ∧
    (sendRaw src dst slot channel tag n b s).feed = s.feed ∧
    (sendRaw src dst slot channel tag n b s).gov = s.gov ∧
    (sendRaw src dst slot channel tag n b s).gates = s.gates ∧
    (sendRaw src dst slot channel tag n b s).ev = s.ev ∧
    (sendRaw src dst slot channel tag n b s).tide = s.tide ∧
    (sendRaw src dst slot channel tag n b s).pair = s.pair ∧
    (sendRaw src dst slot channel tag n b s).sec = s.sec ∧
    (sendRaw src dst slot channel tag n b s).cal = s.cal ∧
    (sendRaw src dst slot channel tag n b s).slots = s.slots ∧
    (sendRaw src dst slot channel tag n b s).dock = s.dock ∧
    (sendRaw src dst slot channel tag n b s).port = s.port ∧
    (sendRaw src dst slot channel tag n b s).sess = s.sess ∧
    (sendRaw src dst slot channel tag n b s).clk = s.clk ∧
    (sendRaw src dst slot channel tag n b s).cap = s.cap := by
   induction n generalizing b s with
   | zero => simp [sendRaw]
   | succ n ih =>
     unfold sendRaw
     dsimp only
     split
     · simp
     · simp [ih]

/-- A block or bytes of a channel change the mesh and what has left alone. -/
@[simp] theorem sendBlock_keeps (src dst kind slot channel tag : Nat) (b : Bytes) (s : State) :
    (sendBlock src dst kind slot channel tag b s).pending = s.pending ∧
    (sendBlock src dst kind slot channel tag b s).freeCount = s.freeCount ∧
    (sendBlock src dst kind slot channel tag b s).now = s.now ∧
    (sendBlock src dst kind slot channel tag b s).hw = s.hw ∧
    (sendBlock src dst kind slot channel tag b s).od = s.od ∧
    (sendBlock src dst kind slot channel tag b s).txn = s.txn ∧
    (sendBlock src dst kind slot channel tag b s).fm = s.fm ∧
    (sendBlock src dst kind slot channel tag b s).rcd = s.rcd ∧
    (sendBlock src dst kind slot channel tag b s).loop = s.loop ∧
    (sendBlock src dst kind slot channel tag b s).phases = s.phases ∧
    (sendBlock src dst kind slot channel tag b s).tph = s.tph ∧
    (sendBlock src dst kind slot channel tag b s).links = s.links ∧
    (sendBlock src dst kind slot channel tag b s).edge = s.edge ∧
    (sendBlock src dst kind slot channel tag b s).trays = s.trays ∧
    (sendBlock src dst kind slot channel tag b s).alloc = s.alloc ∧
    (sendBlock src dst kind slot channel tag b s).tows = s.tows ∧
    (sendBlock src dst kind slot channel tag b s).est = s.est ∧
    (sendBlock src dst kind slot channel tag b s).feed = s.feed ∧
    (sendBlock src dst kind slot channel tag b s).gov = s.gov ∧
    (sendBlock src dst kind slot channel tag b s).gates = s.gates ∧
    (sendBlock src dst kind slot channel tag b s).ev = s.ev ∧
    (sendBlock src dst kind slot channel tag b s).tide = s.tide ∧
    (sendBlock src dst kind slot channel tag b s).pair = s.pair ∧
    (sendBlock src dst kind slot channel tag b s).sec = s.sec ∧
    (sendBlock src dst kind slot channel tag b s).cal = s.cal ∧
    (sendBlock src dst kind slot channel tag b s).slots = s.slots ∧
    (sendBlock src dst kind slot channel tag b s).dock = s.dock ∧
    (sendBlock src dst kind slot channel tag b s).port = s.port ∧
    (sendBlock src dst kind slot channel tag b s).sess = s.sess ∧
    (sendBlock src dst kind slot channel tag b s).clk = s.clk ∧
    (sendBlock src dst kind slot channel tag b s).cap = s.cap := by
   unfold sendBlock
   split <;> simp

@[simp] theorem uncorrected_keeps (endpoint addr : Nat) (s : State) :
    (uncorrected endpoint addr s).pending = s.pending ∧
    (uncorrected endpoint addr s).freeCount = s.freeCount ∧
    (uncorrected endpoint addr s).now = s.now ∧ (uncorrected endpoint addr s).tx = s.tx ∧
    (uncorrected endpoint addr s).hw = s.hw ∧ (uncorrected endpoint addr s).od = s.od ∧
    (uncorrected endpoint addr s).txn = s.txn ∧ (uncorrected endpoint addr s).fm = s.fm ∧
    (uncorrected endpoint addr s).rcd = s.rcd ∧ (uncorrected endpoint addr s).loop = s.loop ∧
    (uncorrected endpoint addr s).phases = s.phases ∧ (uncorrected endpoint addr s).tph = s.tph ∧
    (uncorrected endpoint addr s).links = s.links ∧ (uncorrected endpoint addr s).edge = s.edge ∧
    (uncorrected endpoint addr s).trays = s.trays ∧ (uncorrected endpoint addr s).alloc = s.alloc ∧
    (uncorrected endpoint addr s).tows = s.tows ∧ (uncorrected endpoint addr s).est = s.est ∧
    (uncorrected endpoint addr s).feed = s.feed ∧ (uncorrected endpoint addr s).gov = s.gov ∧
    (uncorrected endpoint addr s).gates = s.gates ∧ (uncorrected endpoint addr s).ev = s.ev ∧
    (uncorrected endpoint addr s).tide = s.tide ∧ (uncorrected endpoint addr s).pair = s.pair ∧
    (uncorrected endpoint addr s).sec = s.sec ∧ (uncorrected endpoint addr s).cal = s.cal ∧
    (uncorrected endpoint addr s).slots = s.slots ∧ (uncorrected endpoint addr s).dock = s.dock ∧
    (uncorrected endpoint addr s).port = s.port ∧ (uncorrected endpoint addr s).sess = s.sess ∧
    (uncorrected endpoint addr s).clk = s.clk ∧ (uncorrected endpoint addr s).cap = s.cap := by
   simp [uncorrected]

@[simp] theorem slotToFault_keeps (n cause : Nat) (s : State) :
    (slotToFault n cause s).pending = s.pending ∧ (slotToFault n cause s).freeCount = s.freeCount ∧
    (slotToFault n cause s).now = s.now ∧ (slotToFault n cause s).tx = s.tx ∧
    (slotToFault n cause s).hw = s.hw ∧ (slotToFault n cause s).od = s.od ∧
    (slotToFault n cause s).txn = s.txn ∧ (slotToFault n cause s).rcd = s.rcd ∧
    (slotToFault n cause s).loop = s.loop ∧ (slotToFault n cause s).phases = s.phases ∧
    (slotToFault n cause s).tph = s.tph ∧ (slotToFault n cause s).links = s.links ∧
    (slotToFault n cause s).edge = s.edge ∧ (slotToFault n cause s).trays = s.trays ∧
    (slotToFault n cause s).alloc = s.alloc ∧ (slotToFault n cause s).tows = s.tows ∧
    (slotToFault n cause s).est = s.est ∧ (slotToFault n cause s).feed = s.feed ∧
    (slotToFault n cause s).gov = s.gov ∧ (slotToFault n cause s).ev = s.ev ∧
    (slotToFault n cause s).pair = s.pair ∧ (slotToFault n cause s).sec = s.sec ∧
    (slotToFault n cause s).cal = s.cal ∧ (slotToFault n cause s).grid = s.grid ∧
    (slotToFault n cause s).dock = s.dock ∧ (slotToFault n cause s).port = s.port ∧
    (slotToFault n cause s).sess = s.sess ∧ (slotToFault n cause s).clk = s.clk ∧
    (slotToFault n cause s).cap = s.cap := by
   simp [slotToFault]

@[simp] theorem voidFirmware_keeps (n k : Nat) (s : State) :
    (voidFirmware n k s).pending = s.pending ∧ (voidFirmware n k s).freeCount = s.freeCount ∧
    (voidFirmware n k s).now = s.now ∧ (voidFirmware n k s).tx = s.tx ∧ (voidFirmware n k s).hw = s.hw ∧
    (voidFirmware n k s).od = s.od ∧ (voidFirmware n k s).txn = s.txn ∧ (voidFirmware n k s).fm = s.fm ∧
    (voidFirmware n k s).rcd = s.rcd ∧ (voidFirmware n k s).loop = s.loop ∧
    (voidFirmware n k s).phases = s.phases ∧ (voidFirmware n k s).tph = s.tph ∧
    (voidFirmware n k s).links = s.links ∧ (voidFirmware n k s).edge = s.edge ∧
    (voidFirmware n k s).trays = s.trays ∧ (voidFirmware n k s).alloc = s.alloc ∧
    (voidFirmware n k s).tows = s.tows ∧ (voidFirmware n k s).est = s.est ∧
    (voidFirmware n k s).feed = s.feed ∧ (voidFirmware n k s).gov = s.gov ∧
    (voidFirmware n k s).gates = s.gates ∧ (voidFirmware n k s).ev = s.ev ∧
    (voidFirmware n k s).tide = s.tide ∧ (voidFirmware n k s).pair = s.pair ∧
    (voidFirmware n k s).sec = s.sec ∧ (voidFirmware n k s).cal = s.cal ∧
    (voidFirmware n k s).slots = s.slots ∧ (voidFirmware n k s).dock = s.dock ∧
    (voidFirmware n k s).port = s.port ∧ (voidFirmware n k s).sess = s.sess ∧
    (voidFirmware n k s).clk = s.clk ∧ (voidFirmware n k s).cap = s.cap := by
   unfold voidFirmware
   split <;> simp

@[simp] theorem State.setSrcWord_keeps (s : State) (src w : Nat) :
    (State.setSrcWord s src w).pending = s.pending ∧
    (State.setSrcWord s src w).freeCount = s.freeCount ∧ (State.setSrcWord s src w).now = s.now ∧
    (State.setSrcWord s src w).tx = s.tx ∧ (State.setSrcWord s src w).hw = s.hw ∧
    (State.setSrcWord s src w).od = s.od ∧ (State.setSrcWord s src w).txn = s.txn ∧
    (State.setSrcWord s src w).fm = s.fm ∧ (State.setSrcWord s src w).rcd = s.rcd ∧
    (State.setSrcWord s src w).loop = s.loop ∧ (State.setSrcWord s src w).phases = s.phases ∧
    (State.setSrcWord s src w).tph = s.tph ∧ (State.setSrcWord s src w).links = s.links ∧
    (State.setSrcWord s src w).edge = s.edge ∧ (State.setSrcWord s src w).trays = s.trays ∧
    (State.setSrcWord s src w).alloc = s.alloc ∧ (State.setSrcWord s src w).tows = s.tows ∧
    (State.setSrcWord s src w).est = s.est ∧ (State.setSrcWord s src w).feed = s.feed ∧
    (State.setSrcWord s src w).gov = s.gov ∧ (State.setSrcWord s src w).gates = s.gates ∧
    (State.setSrcWord s src w).tide = s.tide ∧ (State.setSrcWord s src w).pair = s.pair ∧
    (State.setSrcWord s src w).sec = s.sec ∧ (State.setSrcWord s src w).cal = s.cal ∧
    (State.setSrcWord s src w).grid = s.grid ∧ (State.setSrcWord s src w).slots = s.slots ∧
    (State.setSrcWord s src w).dock = s.dock ∧ (State.setSrcWord s src w).port = s.port ∧
    (State.setSrcWord s src w).sess = s.sess ∧ (State.setSrcWord s src w).clk = s.clk ∧
    (State.setSrcWord s src w).cap = s.cap := by
   simp [State.setSrcWord]

@[simp] theorem failedRoutes_keeps (core : Nat) (s : State) :
    (failedRoutes core s).pending = s.pending ∧ (failedRoutes core s).freeCount = s.freeCount ∧
    (failedRoutes core s).now = s.now ∧ (failedRoutes core s).tx = s.tx ∧
    (failedRoutes core s).hw = s.hw ∧ (failedRoutes core s).od = s.od ∧
    (failedRoutes core s).txn = s.txn ∧ (failedRoutes core s).fm = s.fm ∧
    (failedRoutes core s).rcd = s.rcd ∧ (failedRoutes core s).loop = s.loop ∧
    (failedRoutes core s).phases = s.phases ∧ (failedRoutes core s).tph = s.tph ∧
    (failedRoutes core s).links = s.links ∧ (failedRoutes core s).edge = s.edge ∧
    (failedRoutes core s).trays = s.trays ∧ (failedRoutes core s).alloc = s.alloc ∧
    (failedRoutes core s).tows = s.tows ∧ (failedRoutes core s).est = s.est ∧
    (failedRoutes core s).feed = s.feed ∧ (failedRoutes core s).gov = s.gov ∧
    (failedRoutes core s).gates = s.gates ∧ (failedRoutes core s).tide = s.tide ∧
    (failedRoutes core s).pair = s.pair ∧ (failedRoutes core s).sec = s.sec ∧
    (failedRoutes core s).cal = s.cal ∧ (failedRoutes core s).grid = s.grid ∧
    (failedRoutes core s).slots = s.slots ∧ (failedRoutes core s).dock = s.dock ∧
    (failedRoutes core s).port = s.port ∧ (failedRoutes core s).sess = s.sess ∧
    (failedRoutes core s).clk = s.clk ∧ (failedRoutes core s).cap = s.cap := by
   simp [failedRoutes]

@[simp] theorem diverge_keeps (kind k : Nat) (e g : DigestRec) (out : List (Nat × Bytes)) (s : State) :
    (diverge kind k e g out s).pending = s.pending ∧
    (diverge kind k e g out s).freeCount = s.freeCount ∧ (diverge kind k e g out s).now = s.now ∧
    (diverge kind k e g out s).tx = s.tx ∧ (diverge kind k e g out s).hw = s.hw ∧
    (diverge kind k e g out s).od = s.od ∧ (diverge kind k e g out s).txn = s.txn ∧
    (diverge kind k e g out s).rcd = s.rcd ∧ (diverge kind k e g out s).loop = s.loop ∧
    (diverge kind k e g out s).phases = s.phases ∧ (diverge kind k e g out s).tph = s.tph ∧
    (diverge kind k e g out s).links = s.links ∧ (diverge kind k e g out s).edge = s.edge ∧
    (diverge kind k e g out s).trays = s.trays ∧ (diverge kind k e g out s).alloc = s.alloc ∧
    (diverge kind k e g out s).tows = s.tows ∧ (diverge kind k e g out s).est = s.est ∧
    (diverge kind k e g out s).feed = s.feed ∧ (diverge kind k e g out s).gov = s.gov ∧
    (diverge kind k e g out s).gates = s.gates ∧ (diverge kind k e g out s).ev = s.ev ∧
    (diverge kind k e g out s).tide = s.tide ∧ (diverge kind k e g out s).pair = s.pair ∧
    (diverge kind k e g out s).sec = s.sec ∧ (diverge kind k e g out s).cal = s.cal ∧
    (diverge kind k e g out s).grid = s.grid ∧ (diverge kind k e g out s).slots = s.slots ∧
    (diverge kind k e g out s).port = s.port ∧ (diverge kind k e g out s).sess = s.sess ∧
    (diverge kind k e g out s).clk = s.clk ∧ (diverge kind k e g out s).cap = s.cap := by
   simp [diverge]

@[simp] theorem dockNext_keeps (s : State) :
    (dockNext s).pending = s.pending ∧ (dockNext s).freeCount = s.freeCount ∧
    (dockNext s).now = s.now ∧ (dockNext s).tx = s.tx ∧ (dockNext s).hw = s.hw ∧
    (dockNext s).od = s.od ∧ (dockNext s).txn = s.txn ∧ (dockNext s).fm = s.fm ∧
    (dockNext s).rcd = s.rcd ∧ (dockNext s).loop = s.loop ∧ (dockNext s).phases = s.phases ∧
    (dockNext s).tph = s.tph ∧ (dockNext s).links = s.links ∧ (dockNext s).edge = s.edge ∧
    (dockNext s).trays = s.trays ∧ (dockNext s).alloc = s.alloc ∧ (dockNext s).tows = s.tows ∧
    (dockNext s).est = s.est ∧ (dockNext s).feed = s.feed ∧ (dockNext s).gov = s.gov ∧
    (dockNext s).gates = s.gates ∧ (dockNext s).ev = s.ev ∧ (dockNext s).tide = s.tide ∧
    (dockNext s).pair = s.pair ∧ (dockNext s).sec = s.sec ∧ (dockNext s).cal = s.cal ∧
    (dockNext s).grid = s.grid ∧ (dockNext s).slots = s.slots ∧ (dockNext s).port = s.port ∧
    (dockNext s).sess = s.sess ∧ (dockNext s).clk = s.clk ∧ (dockNext s).cap = s.cap := by
   simp [dockNext]

@[simp] theorem toAcquiring_keeps (within : Bool) (s : State) :
    (toAcquiring within s).pending = s.pending ∧ (toAcquiring within s).freeCount = s.freeCount ∧
    (toAcquiring within s).now = s.now ∧ (toAcquiring within s).tx = s.tx ∧
    (toAcquiring within s).hw = s.hw ∧ (toAcquiring within s).od = s.od ∧
    (toAcquiring within s).txn = s.txn ∧ (toAcquiring within s).fm = s.fm ∧
    (toAcquiring within s).rcd = s.rcd ∧ (toAcquiring within s).loop = s.loop ∧
    (toAcquiring within s).phases = s.phases ∧ (toAcquiring within s).tph = s.tph ∧
    (toAcquiring within s).links = s.links ∧ (toAcquiring within s).edge = s.edge ∧
    (toAcquiring within s).trays = s.trays ∧ (toAcquiring within s).alloc = s.alloc ∧
    (toAcquiring within s).tows = s.tows ∧ (toAcquiring within s).est = s.est ∧
    (toAcquiring within s).feed = s.feed ∧ (toAcquiring within s).gov = s.gov ∧
    (toAcquiring within s).gates = s.gates ∧ (toAcquiring within s).ev = s.ev ∧
    (toAcquiring within s).tide = s.tide ∧ (toAcquiring within s).pair = s.pair ∧
    (toAcquiring within s).sec = s.sec ∧ (toAcquiring within s).cal = s.cal ∧
    (toAcquiring within s).grid = s.grid ∧ (toAcquiring within s).slots = s.slots ∧
    (toAcquiring within s).dock = s.dock ∧ (toAcquiring within s).port = s.port ∧
    (toAcquiring within s).sess = s.sess ∧ (toAcquiring within s).cap = s.cap := by
   simp [toAcquiring]

@[simp] theorem State.setUnrecorded_keeps (s : State) (code inst n : Nat) :
    (State.setUnrecorded s code inst n).pending = s.pending ∧
    (State.setUnrecorded s code inst n).freeCount = s.freeCount ∧
    (State.setUnrecorded s code inst n).now = s.now ∧ (State.setUnrecorded s code inst n).tx = s.tx
    ∧ (State.setUnrecorded s code inst n).hw = s.hw ∧ (State.setUnrecorded s code inst n).od = s.od
    ∧ (State.setUnrecorded s code inst n).txn = s.txn ∧
    (State.setUnrecorded s code inst n).fm = s.fm ∧
    (State.setUnrecorded s code inst n).loop = s.loop ∧
    (State.setUnrecorded s code inst n).phases = s.phases ∧
    (State.setUnrecorded s code inst n).tph = s.tph ∧
    (State.setUnrecorded s code inst n).links = s.links ∧
    (State.setUnrecorded s code inst n).edge = s.edge ∧
    (State.setUnrecorded s code inst n).trays = s.trays ∧
    (State.setUnrecorded s code inst n).alloc = s.alloc ∧
    (State.setUnrecorded s code inst n).tows = s.tows ∧
    (State.setUnrecorded s code inst n).est = s.est ∧
    (State.setUnrecorded s code inst n).feed = s.feed ∧
    (State.setUnrecorded s code inst n).gov = s.gov ∧
    (State.setUnrecorded s code inst n).gates = s.gates ∧
    (State.setUnrecorded s code inst n).ev = s.ev ∧
    (State.setUnrecorded s code inst n).tide = s.tide ∧
    (State.setUnrecorded s code inst n).pair = s.pair ∧
    (State.setUnrecorded s code inst n).sec = s.sec ∧
    (State.setUnrecorded s code inst n).cal = s.cal ∧
    (State.setUnrecorded s code inst n).grid = s.grid ∧
    (State.setUnrecorded s code inst n).slots = s.slots ∧
    (State.setUnrecorded s code inst n).dock = s.dock ∧
    (State.setUnrecorded s code inst n).port = s.port ∧
    (State.setUnrecorded s code inst n).sess = s.sess ∧
    (State.setUnrecorded s code inst n).clk = s.clk ∧
    (State.setUnrecorded s code inst n).cap = s.cap := by
   simp [State.setUnrecorded]

@[simp] theorem stageRecord_keeps (x : RecordOf) (s : State) :
    (stageRecord x s).pending = s.pending ∧ (stageRecord x s).freeCount = s.freeCount ∧
    (stageRecord x s).now = s.now ∧ (stageRecord x s).hw = s.hw ∧ (stageRecord x s).od = s.od ∧
    (stageRecord x s).txn = s.txn ∧ (stageRecord x s).loop = s.loop ∧
    (stageRecord x s).phases = s.phases ∧ (stageRecord x s).tph = s.tph ∧
    (stageRecord x s).links = s.links ∧ (stageRecord x s).edge = s.edge ∧
    (stageRecord x s).trays = s.trays ∧ (stageRecord x s).alloc = s.alloc ∧
    (stageRecord x s).tows = s.tows ∧ (stageRecord x s).est = s.est ∧
    (stageRecord x s).feed = s.feed ∧ (stageRecord x s).gov = s.gov ∧
    (stageRecord x s).gates = s.gates ∧ (stageRecord x s).ev = s.ev ∧
    (stageRecord x s).tide = s.tide ∧ (stageRecord x s).pair = s.pair ∧
    (stageRecord x s).sec = s.sec ∧ (stageRecord x s).cal = s.cal ∧ (stageRecord x s).grid = s.grid
    ∧ (stageRecord x s).slots = s.slots ∧ (stageRecord x s).dock = s.dock ∧
    (stageRecord x s).port = s.port ∧ (stageRecord x s).sess = s.sess ∧
    (stageRecord x s).clk = s.clk ∧ (stageRecord x s).cap = s.cap := by
   simp [stageRecord]

@[simp] theorem State.updWindow_keeps (s : State) (code inst : Nat) (f : RateWindow → RateWindow) :
    (State.updWindow s code inst f).pending = s.pending ∧
    (State.updWindow s code inst f).freeCount = s.freeCount ∧
    (State.updWindow s code inst f).now = s.now ∧ (State.updWindow s code inst f).tx = s.tx ∧
    (State.updWindow s code inst f).hw = s.hw ∧ (State.updWindow s code inst f).od = s.od ∧
    (State.updWindow s code inst f).txn = s.txn ∧ (State.updWindow s code inst f).fm = s.fm ∧
    (State.updWindow s code inst f).loop = s.loop ∧
    (State.updWindow s code inst f).phases = s.phases ∧ (State.updWindow s code inst f).tph = s.tph
    ∧ (State.updWindow s code inst f).links = s.links ∧
    (State.updWindow s code inst f).edge = s.edge ∧ (State.updWindow s code inst f).trays = s.trays
    ∧ (State.updWindow s code inst f).alloc = s.alloc ∧
    (State.updWindow s code inst f).tows = s.tows ∧ (State.updWindow s code inst f).est = s.est ∧
    (State.updWindow s code inst f).feed = s.feed ∧ (State.updWindow s code inst f).gov = s.gov ∧
    (State.updWindow s code inst f).gates = s.gates ∧ (State.updWindow s code inst f).ev = s.ev ∧
    (State.updWindow s code inst f).tide = s.tide ∧ (State.updWindow s code inst f).pair = s.pair ∧
    (State.updWindow s code inst f).sec = s.sec ∧ (State.updWindow s code inst f).cal = s.cal ∧
    (State.updWindow s code inst f).grid = s.grid ∧ (State.updWindow s code inst f).slots = s.slots
    ∧ (State.updWindow s code inst f).dock = s.dock ∧ (State.updWindow s code inst f).port = s.port
    ∧ (State.updWindow s code inst f).sess = s.sess ∧ (State.updWindow s code inst f).clk = s.clk ∧
    (State.updWindow s code inst f).cap = s.cap := by
   simp [State.updWindow]

@[simp] theorem closeWindow_keeps (w : RateWindow) (s : State) :
    (closeWindow w s).pending = s.pending ∧ (closeWindow w s).freeCount = s.freeCount ∧
    (closeWindow w s).now = s.now ∧ (closeWindow w s).hw = s.hw ∧ (closeWindow w s).od = s.od ∧
    (closeWindow w s).txn = s.txn ∧ (closeWindow w s).loop = s.loop ∧
    (closeWindow w s).phases = s.phases ∧ (closeWindow w s).tph = s.tph ∧
    (closeWindow w s).links = s.links ∧ (closeWindow w s).edge = s.edge ∧
    (closeWindow w s).trays = s.trays ∧ (closeWindow w s).alloc = s.alloc ∧
    (closeWindow w s).tows = s.tows ∧ (closeWindow w s).est = s.est ∧
    (closeWindow w s).feed = s.feed ∧ (closeWindow w s).gov = s.gov ∧
    (closeWindow w s).gates = s.gates ∧ (closeWindow w s).ev = s.ev ∧
    (closeWindow w s).tide = s.tide ∧ (closeWindow w s).pair = s.pair ∧
    (closeWindow w s).sec = s.sec ∧ (closeWindow w s).cal = s.cal ∧ (closeWindow w s).grid = s.grid
    ∧ (closeWindow w s).slots = s.slots ∧ (closeWindow w s).dock = s.dock ∧
    (closeWindow w s).port = s.port ∧ (closeWindow w s).sess = s.sess ∧
    (closeWindow w s).clk = s.clk ∧ (closeWindow w s).cap = s.cap := by
   simp [closeWindow]

@[simp] theorem recordAlways_keeps (r : Raise) (flags : Nat) (s : State) :
    (recordAlways r flags s).pending = s.pending ∧ (recordAlways r flags s).freeCount = s.freeCount
    ∧ (recordAlways r flags s).now = s.now ∧ (recordAlways r flags s).hw = s.hw ∧
    (recordAlways r flags s).od = s.od ∧ (recordAlways r flags s).txn = s.txn ∧
    (recordAlways r flags s).loop = s.loop ∧ (recordAlways r flags s).phases = s.phases ∧
    (recordAlways r flags s).tph = s.tph ∧ (recordAlways r flags s).links = s.links ∧
    (recordAlways r flags s).edge = s.edge ∧ (recordAlways r flags s).trays = s.trays ∧
    (recordAlways r flags s).alloc = s.alloc ∧ (recordAlways r flags s).tows = s.tows ∧
    (recordAlways r flags s).est = s.est ∧ (recordAlways r flags s).feed = s.feed ∧
    (recordAlways r flags s).gov = s.gov ∧ (recordAlways r flags s).gates = s.gates ∧
    (recordAlways r flags s).ev = s.ev ∧ (recordAlways r flags s).tide = s.tide ∧
    (recordAlways r flags s).pair = s.pair ∧ (recordAlways r flags s).sec = s.sec ∧
    (recordAlways r flags s).cal = s.cal ∧ (recordAlways r flags s).grid = s.grid ∧
    (recordAlways r flags s).slots = s.slots ∧ (recordAlways r flags s).dock = s.dock ∧
    (recordAlways r flags s).port = s.port ∧ (recordAlways r flags s).sess = s.sess ∧
    (recordAlways r flags s).clk = s.clk ∧ (recordAlways r flags s).cap = s.cap := by
   simp [recordAlways]

@[simp] theorem openWindow_keeps (r : Raise) (flags : Nat) (s : State) :
    (openWindow r flags s).pending = s.pending ∧ (openWindow r flags s).freeCount = s.freeCount ∧
    (openWindow r flags s).now = s.now ∧ (openWindow r flags s).hw = s.hw ∧
    (openWindow r flags s).od = s.od ∧ (openWindow r flags s).txn = s.txn ∧
    (openWindow r flags s).loop = s.loop ∧ (openWindow r flags s).phases = s.phases ∧
    (openWindow r flags s).tph = s.tph ∧ (openWindow r flags s).links = s.links ∧
    (openWindow r flags s).edge = s.edge ∧ (openWindow r flags s).trays = s.trays ∧
    (openWindow r flags s).alloc = s.alloc ∧ (openWindow r flags s).tows = s.tows ∧
    (openWindow r flags s).est = s.est ∧ (openWindow r flags s).feed = s.feed ∧
    (openWindow r flags s).gov = s.gov ∧ (openWindow r flags s).gates = s.gates ∧
    (openWindow r flags s).ev = s.ev ∧ (openWindow r flags s).tide = s.tide ∧
    (openWindow r flags s).pair = s.pair ∧ (openWindow r flags s).sec = s.sec ∧
    (openWindow r flags s).cal = s.cal ∧ (openWindow r flags s).grid = s.grid ∧
    (openWindow r flags s).slots = s.slots ∧ (openWindow r flags s).dock = s.dock ∧
    (openWindow r flags s).port = s.port ∧ (openWindow r flags s).sess = s.sess ∧
    (openWindow r flags s).clk = s.clk ∧ (openWindow r flags s).cap = s.cap := by
   simp [openWindow]

@[simp] theorem recordInWindow_keeps (r : Raise) (flags : Nat) (w : RateWindow) (s : State) :
    (recordInWindow r flags w s).pending = s.pending ∧
    (recordInWindow r flags w s).freeCount = s.freeCount ∧ (recordInWindow r flags w s).now = s.now
    ∧ (recordInWindow r flags w s).hw = s.hw ∧ (recordInWindow r flags w s).od = s.od ∧
    (recordInWindow r flags w s).txn = s.txn ∧ (recordInWindow r flags w s).loop = s.loop ∧
    (recordInWindow r flags w s).phases = s.phases ∧ (recordInWindow r flags w s).tph = s.tph ∧
    (recordInWindow r flags w s).links = s.links ∧ (recordInWindow r flags w s).edge = s.edge ∧
    (recordInWindow r flags w s).trays = s.trays ∧ (recordInWindow r flags w s).alloc = s.alloc ∧
    (recordInWindow r flags w s).tows = s.tows ∧ (recordInWindow r flags w s).est = s.est ∧
    (recordInWindow r flags w s).feed = s.feed ∧ (recordInWindow r flags w s).gov = s.gov ∧
    (recordInWindow r flags w s).gates = s.gates ∧ (recordInWindow r flags w s).ev = s.ev ∧
    (recordInWindow r flags w s).tide = s.tide ∧ (recordInWindow r flags w s).pair = s.pair ∧
    (recordInWindow r flags w s).sec = s.sec ∧ (recordInWindow r flags w s).cal = s.cal ∧
    (recordInWindow r flags w s).grid = s.grid ∧ (recordInWindow r flags w s).slots = s.slots ∧
    (recordInWindow r flags w s).dock = s.dock ∧ (recordInWindow r flags w s).port = s.port ∧
    (recordInWindow r flags w s).sess = s.sess ∧ (recordInWindow r flags w s).clk = s.clk ∧
    (recordInWindow r flags w s).cap = s.cap := by
   simp [recordInWindow]

@[simp] theorem recordRun_keeps (r : Raise) (flags : Nat) (s : State) :
    (recordRun r flags s).pending = s.pending ∧ (recordRun r flags s).freeCount = s.freeCount ∧
    (recordRun r flags s).now = s.now ∧ (recordRun r flags s).hw = s.hw ∧
    (recordRun r flags s).od = s.od ∧ (recordRun r flags s).txn = s.txn ∧
    (recordRun r flags s).loop = s.loop ∧ (recordRun r flags s).phases = s.phases ∧
    (recordRun r flags s).tph = s.tph ∧ (recordRun r flags s).links = s.links ∧
    (recordRun r flags s).edge = s.edge ∧ (recordRun r flags s).trays = s.trays ∧
    (recordRun r flags s).alloc = s.alloc ∧ (recordRun r flags s).tows = s.tows ∧
    (recordRun r flags s).est = s.est ∧ (recordRun r flags s).feed = s.feed ∧
    (recordRun r flags s).gov = s.gov ∧ (recordRun r flags s).gates = s.gates ∧
    (recordRun r flags s).ev = s.ev ∧ (recordRun r flags s).tide = s.tide ∧
    (recordRun r flags s).pair = s.pair ∧ (recordRun r flags s).sec = s.sec ∧
    (recordRun r flags s).cal = s.cal ∧ (recordRun r flags s).grid = s.grid ∧
    (recordRun r flags s).slots = s.slots ∧ (recordRun r flags s).dock = s.dock ∧
    (recordRun r flags s).port = s.port ∧ (recordRun r flags s).sess = s.sess ∧
    (recordRun r flags s).clk = s.clk ∧ (recordRun r flags s).cap = s.cap := by
   unfold recordRun; (split <;> try split) <;> simp

@[simp] theorem State.updActive_keeps (s : State) (code inst : Nat) (f : Active → Active) :
    (State.updActive s code inst f).pending = s.pending ∧
    (State.updActive s code inst f).freeCount = s.freeCount ∧
    (State.updActive s code inst f).now = s.now ∧ (State.updActive s code inst f).tx = s.tx ∧
    (State.updActive s code inst f).hw = s.hw ∧ (State.updActive s code inst f).od = s.od ∧
    (State.updActive s code inst f).txn = s.txn ∧ (State.updActive s code inst f).rcd = s.rcd ∧
    (State.updActive s code inst f).loop = s.loop ∧
    (State.updActive s code inst f).phases = s.phases ∧ (State.updActive s code inst f).tph = s.tph
    ∧ (State.updActive s code inst f).links = s.links ∧
    (State.updActive s code inst f).edge = s.edge ∧ (State.updActive s code inst f).trays = s.trays
    ∧ (State.updActive s code inst f).alloc = s.alloc ∧
    (State.updActive s code inst f).tows = s.tows ∧ (State.updActive s code inst f).est = s.est ∧
    (State.updActive s code inst f).feed = s.feed ∧ (State.updActive s code inst f).gov = s.gov ∧
    (State.updActive s code inst f).gates = s.gates ∧ (State.updActive s code inst f).ev = s.ev ∧
    (State.updActive s code inst f).tide = s.tide ∧ (State.updActive s code inst f).pair = s.pair ∧
    (State.updActive s code inst f).sec = s.sec ∧ (State.updActive s code inst f).cal = s.cal ∧
    (State.updActive s code inst f).grid = s.grid ∧ (State.updActive s code inst f).slots = s.slots
    ∧ (State.updActive s code inst f).dock = s.dock ∧ (State.updActive s code inst f).port = s.port
    ∧ (State.updActive s code inst f).sess = s.sess ∧ (State.updActive s code inst f).clk = s.clk ∧
    (State.updActive s code inst f).cap = s.cap := by
   simp [State.updActive]

@[simp] theorem enterActive_keeps (r : Raise) (notHandled : Bool) (s : State) :
    (enterActive r notHandled s).pending = s.pending ∧
    (enterActive r notHandled s).freeCount = s.freeCount ∧ (enterActive r notHandled s).now = s.now
    ∧ (enterActive r notHandled s).tx = s.tx ∧ (enterActive r notHandled s).hw = s.hw ∧
    (enterActive r notHandled s).od = s.od ∧ (enterActive r notHandled s).txn = s.txn ∧
    (enterActive r notHandled s).rcd = s.rcd ∧ (enterActive r notHandled s).loop = s.loop ∧
    (enterActive r notHandled s).phases = s.phases ∧ (enterActive r notHandled s).tph = s.tph ∧
    (enterActive r notHandled s).links = s.links ∧ (enterActive r notHandled s).edge = s.edge ∧
    (enterActive r notHandled s).trays = s.trays ∧ (enterActive r notHandled s).alloc = s.alloc ∧
    (enterActive r notHandled s).tows = s.tows ∧ (enterActive r notHandled s).est = s.est ∧
    (enterActive r notHandled s).feed = s.feed ∧ (enterActive r notHandled s).gov = s.gov ∧
    (enterActive r notHandled s).gates = s.gates ∧ (enterActive r notHandled s).ev = s.ev ∧
    (enterActive r notHandled s).tide = s.tide ∧ (enterActive r notHandled s).pair = s.pair ∧
    (enterActive r notHandled s).sec = s.sec ∧ (enterActive r notHandled s).cal = s.cal ∧
    (enterActive r notHandled s).grid = s.grid ∧ (enterActive r notHandled s).slots = s.slots ∧
    (enterActive r notHandled s).dock = s.dock ∧ (enterActive r notHandled s).port = s.port ∧
    (enterActive r notHandled s).sess = s.sess ∧ (enterActive r notHandled s).clk = s.clk ∧
    (enterActive r notHandled s).cap = s.cap := by
  unfold enterActive; dsimp only; split
  · simp
  · split <;> simp

@[simp] theorem faultFo_keeps (r : Raise) (s : State) :
    (faultFo r s).pending = s.pending ∧ (faultFo r s).freeCount = s.freeCount ∧
    (faultFo r s).now = s.now ∧ (faultFo r s).tx = s.tx ∧ (faultFo r s).hw = s.hw ∧
    (faultFo r s).od = s.od ∧ (faultFo r s).txn = s.txn ∧ (faultFo r s).rcd = s.rcd ∧
    (faultFo r s).loop = s.loop ∧ (faultFo r s).phases = s.phases ∧ (faultFo r s).tph = s.tph ∧
    (faultFo r s).links = s.links ∧ (faultFo r s).edge = s.edge ∧ (faultFo r s).trays = s.trays ∧
    (faultFo r s).alloc = s.alloc ∧ (faultFo r s).tows = s.tows ∧ (faultFo r s).est = s.est ∧
    (faultFo r s).feed = s.feed ∧ (faultFo r s).gov = s.gov ∧ (faultFo r s).gates = s.gates ∧
    (faultFo r s).ev = s.ev ∧ (faultFo r s).tide = s.tide ∧ (faultFo r s).sec = s.sec ∧
    (faultFo r s).cal = s.cal ∧ (faultFo r s).grid = s.grid ∧ (faultFo r s).slots = s.slots ∧
    (faultFo r s).dock = s.dock ∧ (faultFo r s).sess = s.sess ∧
    (faultFo r s).clk = s.clk ∧ (faultFo r s).cap = s.cap := by
   simp [faultFo]

@[simp] theorem handleDiscarded_keeps (d : Option Raise) (s : State) :
    (handleDiscarded d s).pending = s.pending ∧ (handleDiscarded d s).freeCount = s.freeCount ∧
    (handleDiscarded d s).now = s.now ∧ (handleDiscarded d s).hw = s.hw ∧
    (handleDiscarded d s).od = s.od ∧ (handleDiscarded d s).txn = s.txn ∧
    (handleDiscarded d s).loop = s.loop ∧ (handleDiscarded d s).phases = s.phases ∧
    (handleDiscarded d s).tph = s.tph ∧ (handleDiscarded d s).links = s.links ∧
    (handleDiscarded d s).edge = s.edge ∧ (handleDiscarded d s).trays = s.trays ∧
    (handleDiscarded d s).alloc = s.alloc ∧ (handleDiscarded d s).tows = s.tows ∧
    (handleDiscarded d s).est = s.est ∧ (handleDiscarded d s).feed = s.feed ∧
    (handleDiscarded d s).gov = s.gov ∧ (handleDiscarded d s).gates = s.gates ∧
    (handleDiscarded d s).ev = s.ev ∧ (handleDiscarded d s).tide = s.tide ∧
    (handleDiscarded d s).pair = s.pair ∧ (handleDiscarded d s).sec = s.sec ∧
    (handleDiscarded d s).cal = s.cal ∧ (handleDiscarded d s).grid = s.grid ∧
    (handleDiscarded d s).slots = s.slots ∧ (handleDiscarded d s).dock = s.dock ∧
    (handleDiscarded d s).port = s.port ∧ (handleDiscarded d s).sess = s.sess ∧
    (handleDiscarded d s).clk = s.clk ∧ (handleDiscarded d s).cap = s.cap := by
   unfold handleDiscarded; split <;> simp

@[simp] theorem countRaise_keeps (r : Raise) (s : State) :
    (countRaise r s).pending = s.pending ∧ (countRaise r s).freeCount = s.freeCount ∧
    (countRaise r s).now = s.now ∧ (countRaise r s).tx = s.tx ∧ (countRaise r s).hw = s.hw ∧
    (countRaise r s).od = s.od ∧ (countRaise r s).txn = s.txn ∧ (countRaise r s).rcd = s.rcd ∧
    (countRaise r s).loop = s.loop ∧ (countRaise r s).phases = s.phases ∧
    (countRaise r s).tph = s.tph ∧ (countRaise r s).links = s.links ∧ (countRaise r s).edge = s.edge
    ∧ (countRaise r s).trays = s.trays ∧ (countRaise r s).alloc = s.alloc ∧
    (countRaise r s).tows = s.tows ∧ (countRaise r s).est = s.est ∧ (countRaise r s).feed = s.feed ∧
    (countRaise r s).gov = s.gov ∧ (countRaise r s).gates = s.gates ∧ (countRaise r s).ev = s.ev ∧
    (countRaise r s).tide = s.tide ∧ (countRaise r s).pair = s.pair ∧ (countRaise r s).sec = s.sec ∧
    (countRaise r s).cal = s.cal ∧ (countRaise r s).grid = s.grid ∧ (countRaise r s).slots = s.slots
    ∧ (countRaise r s).dock = s.dock ∧ (countRaise r s).port = s.port ∧
    (countRaise r s).sess = s.sess ∧ (countRaise r s).clk = s.clk ∧
    (countRaise r s).cap = s.cap := by
   simp [countRaise]

@[simp] theorem sweepActive_keeps (s : State) :
    (sweepActive s).pending = s.pending ∧ (sweepActive s).freeCount = s.freeCount ∧
    (sweepActive s).now = s.now ∧ (sweepActive s).tx = s.tx ∧ (sweepActive s).hw = s.hw ∧
    (sweepActive s).od = s.od ∧ (sweepActive s).txn = s.txn ∧ (sweepActive s).rcd = s.rcd ∧
    (sweepActive s).loop = s.loop ∧ (sweepActive s).phases = s.phases ∧ (sweepActive s).tph = s.tph
    ∧ (sweepActive s).links = s.links ∧ (sweepActive s).edge = s.edge ∧
    (sweepActive s).trays = s.trays ∧ (sweepActive s).alloc = s.alloc ∧
    (sweepActive s).tows = s.tows ∧ (sweepActive s).est = s.est ∧ (sweepActive s).feed = s.feed ∧
    (sweepActive s).gov = s.gov ∧ (sweepActive s).gates = s.gates ∧ (sweepActive s).ev = s.ev ∧
    (sweepActive s).tide = s.tide ∧ (sweepActive s).pair = s.pair ∧ (sweepActive s).sec = s.sec ∧
    (sweepActive s).cal = s.cal ∧ (sweepActive s).grid = s.grid ∧ (sweepActive s).slots = s.slots ∧
    (sweepActive s).dock = s.dock ∧ (sweepActive s).port = s.port ∧ (sweepActive s).sess = s.sess ∧
    (sweepActive s).clk = s.clk ∧ (sweepActive s).cap = s.cap := by
   simp [sweepActive]

@[simp] theorem startSecond_keeps (s : State) :
    (startSecond s).pending = s.pending ∧ (startSecond s).freeCount = s.freeCount ∧
    (startSecond s).now = s.now ∧ (startSecond s).tx = s.tx ∧ (startSecond s).hw = s.hw ∧
    (startSecond s).od = s.od ∧ (startSecond s).txn = s.txn ∧ (startSecond s).fm = s.fm ∧
    (startSecond s).rcd = s.rcd ∧ (startSecond s).loop = s.loop ∧ (startSecond s).phases = s.phases
    ∧ (startSecond s).tph = s.tph ∧ (startSecond s).links = s.links ∧ (startSecond s).edge = s.edge
    ∧ (startSecond s).trays = s.trays ∧ (startSecond s).alloc = s.alloc ∧
    (startSecond s).tows = s.tows ∧ (startSecond s).est = s.est ∧ (startSecond s).feed = s.feed ∧
    (startSecond s).gov = s.gov ∧ (startSecond s).gates = s.gates ∧ (startSecond s).ev = s.ev ∧
    (startSecond s).tide = s.tide ∧ (startSecond s).pair = s.pair ∧ (startSecond s).sec = s.sec ∧
    (startSecond s).grid = s.grid ∧ (startSecond s).slots = s.slots ∧ (startSecond s).dock = s.dock
    ∧ (startSecond s).port = s.port ∧ (startSecond s).sess = s.sess ∧ (startSecond s).clk = s.clk ∧
    (startSecond s).cap = s.cap := by
   simp [startSecond]

@[simp] theorem bootLine_keeps (s : State) :
    (bootLine s).pending = s.pending ∧ (bootLine s).now = s.now ∧ (bootLine s).hw = s.hw ∧
    (bootLine s).od = s.od ∧ (bootLine s).txn = s.txn ∧ (bootLine s).fm = s.fm ∧
    (bootLine s).rcd = s.rcd ∧ (bootLine s).loop = s.loop ∧ (bootLine s).phases = s.phases ∧
    (bootLine s).tph = s.tph ∧ (bootLine s).links = s.links ∧ (bootLine s).edge = s.edge ∧
    (bootLine s).trays = s.trays ∧ (bootLine s).alloc = s.alloc ∧ (bootLine s).tows = s.tows ∧
    (bootLine s).est = s.est ∧ (bootLine s).feed = s.feed ∧ (bootLine s).gov = s.gov ∧
    (bootLine s).gates = s.gates ∧ (bootLine s).ev = s.ev ∧ (bootLine s).tide = s.tide ∧
    (bootLine s).pair = s.pair ∧ (bootLine s).sec = s.sec ∧ (bootLine s).cal = s.cal ∧
    (bootLine s).grid = s.grid ∧ (bootLine s).slots = s.slots ∧ (bootLine s).dock = s.dock ∧
    (bootLine s).port = s.port ∧ (bootLine s).sess = s.sess ∧ (bootLine s).clk = s.clk ∧
    (bootLine s).cap = s.cap := by
   simp [bootLine]

@[simp] theorem toStandby_keeps (s : State) :
    (toStandby s).pending = s.pending ∧ (toStandby s).freeCount = s.freeCount ∧
    (toStandby s).now = s.now ∧ (toStandby s).tx = s.tx ∧ (toStandby s).hw = s.hw ∧
    (toStandby s).od = s.od ∧ (toStandby s).txn = s.txn ∧ (toStandby s).fm = s.fm ∧
    (toStandby s).rcd = s.rcd ∧ (toStandby s).loop = s.loop ∧ (toStandby s).phases = s.phases ∧
    (toStandby s).tph = s.tph ∧ (toStandby s).links = s.links ∧ (toStandby s).edge = s.edge ∧
    (toStandby s).trays = s.trays ∧ (toStandby s).alloc = s.alloc ∧ (toStandby s).tows = s.tows ∧
    (toStandby s).est = s.est ∧ (toStandby s).feed = s.feed ∧ (toStandby s).gov = s.gov ∧
    (toStandby s).gates = s.gates ∧ (toStandby s).ev = s.ev ∧ (toStandby s).tide = s.tide ∧
    (toStandby s).sec = s.sec ∧ (toStandby s).cal = s.cal ∧ (toStandby s).grid = s.grid ∧
    (toStandby s).slots = s.slots ∧ (toStandby s).dock = s.dock ∧ (toStandby s).port = s.port ∧
    (toStandby s).sess = s.sess ∧ (toStandby s).cap = s.cap := by
   simp [toStandby]

@[simp] theorem markEff_keeps (on : Bool) (s : State) :
    (markEff on s).pending = s.pending ∧ (markEff on s).freeCount = s.freeCount ∧
    (markEff on s).now = s.now ∧ (markEff on s).tx = s.tx ∧ (markEff on s).hw = s.hw ∧
    (markEff on s).txn = s.txn ∧ (markEff on s).fm = s.fm ∧ (markEff on s).rcd = s.rcd ∧
    (markEff on s).loop = s.loop ∧ (markEff on s).phases = s.phases ∧ (markEff on s).tph = s.tph ∧
    (markEff on s).links = s.links ∧ (markEff on s).edge = s.edge ∧ (markEff on s).trays = s.trays ∧
    (markEff on s).alloc = s.alloc ∧ (markEff on s).tows = s.tows ∧ (markEff on s).est = s.est ∧
    (markEff on s).feed = s.feed ∧ (markEff on s).gov = s.gov ∧ (markEff on s).gates = s.gates ∧
    (markEff on s).ev = s.ev ∧ (markEff on s).tide = s.tide ∧ (markEff on s).pair = s.pair ∧
    (markEff on s).sec = s.sec ∧ (markEff on s).cal = s.cal ∧ (markEff on s).grid = s.grid ∧
    (markEff on s).slots = s.slots ∧ (markEff on s).dock = s.dock ∧ (markEff on s).port = s.port ∧
    (markEff on s).sess = s.sess ∧ (markEff on s).clk = s.clk ∧ (markEff on s).cap = s.cap := by
   simp [markEff]

/-- An ARP or Neighbour Discovery frame changes the port and what has left alone. -/
@[simp] theorem State.sendNear_keeps (s : State) (x : HeldNear) :
   (s.sendNear x).pending = s.pending ∧ (s.sendNear x).freeCount = s.freeCount ∧ (s.sendNear x).now = s.now ∧
    (s.sendNear x).hw = s.hw ∧ (s.sendNear x).od = s.od ∧ (s.sendNear x).txn = s.txn ∧
    (s.sendNear x).fm = s.fm ∧ (s.sendNear x).rcd = s.rcd ∧ (s.sendNear x).loop = s.loop ∧
    (s.sendNear x).phases = s.phases ∧ (s.sendNear x).tph = s.tph ∧ (s.sendNear x).links = s.links ∧
    (s.sendNear x).edge = s.edge ∧ (s.sendNear x).trays = s.trays ∧ (s.sendNear x).alloc = s.alloc ∧
    (s.sendNear x).tows = s.tows ∧ (s.sendNear x).est = s.est ∧ (s.sendNear x).feed = s.feed ∧
    (s.sendNear x).gov = s.gov ∧ (s.sendNear x).gates = s.gates ∧ (s.sendNear x).ev = s.ev ∧
    (s.sendNear x).tide = s.tide ∧ (s.sendNear x).pair = s.pair ∧ (s.sendNear x).sec = s.sec ∧
    (s.sendNear x).cal = s.cal ∧ (s.sendNear x).grid = s.grid ∧ (s.sendNear x).slots = s.slots ∧
    (s.sendNear x).dock = s.dock ∧ (s.sendNear x).sess = s.sess ∧ (s.sendNear x).clk = s.clk ∧
    (s.sendNear x).cap = s.cap := by
  unfold State.sendNear
  split
  · simp
  · split <;> simp

@[simp] theorem claimShelf_keeps (s : State) :
    (claimShelf s).pending = s.pending ∧ (claimShelf s).freeCount = s.freeCount ∧
    (claimShelf s).now = s.now ∧ (claimShelf s).hw = s.hw ∧ (claimShelf s).od = s.od ∧
    (claimShelf s).txn = s.txn ∧ (claimShelf s).rcd = s.rcd ∧ (claimShelf s).loop = s.loop ∧
    (claimShelf s).phases = s.phases ∧ (claimShelf s).tph = s.tph ∧ (claimShelf s).links = s.links ∧
    (claimShelf s).edge = s.edge ∧ (claimShelf s).trays = s.trays ∧ (claimShelf s).alloc = s.alloc ∧
    (claimShelf s).tows = s.tows ∧ (claimShelf s).est = s.est ∧ (claimShelf s).feed = s.feed ∧
    (claimShelf s).gov = s.gov ∧ (claimShelf s).gates = s.gates ∧ (claimShelf s).ev = s.ev ∧
    (claimShelf s).tide = s.tide ∧ (claimShelf s).pair = s.pair ∧ (claimShelf s).sec = s.sec ∧
    (claimShelf s).cal = s.cal ∧ (claimShelf s).grid = s.grid ∧ (claimShelf s).slots = s.slots ∧
    (claimShelf s).dock = s.dock ∧ (claimShelf s).sess = s.sess ∧ (claimShelf s).clk = s.clk ∧
    (claimShelf s).cap = s.cap := by
   simp [claimShelf]

@[simp] theorem enterTaking_keeps (cause : Nat) (s : State) :
    (enterTaking cause s).pending = s.pending ∧ (enterTaking cause s).freeCount = s.freeCount ∧
    (enterTaking cause s).now = s.now ∧ (enterTaking cause s).tx = s.tx ∧
    (enterTaking cause s).hw = s.hw ∧ (enterTaking cause s).od = s.od ∧
    (enterTaking cause s).txn = s.txn ∧ (enterTaking cause s).fm = s.fm ∧
    (enterTaking cause s).rcd = s.rcd ∧ (enterTaking cause s).loop = s.loop ∧
    (enterTaking cause s).phases = s.phases ∧ (enterTaking cause s).tph = s.tph ∧
    (enterTaking cause s).links = s.links ∧ (enterTaking cause s).edge = s.edge ∧
    (enterTaking cause s).trays = s.trays ∧ (enterTaking cause s).alloc = s.alloc ∧
    (enterTaking cause s).tows = s.tows ∧ (enterTaking cause s).est = s.est ∧
    (enterTaking cause s).feed = s.feed ∧ (enterTaking cause s).gov = s.gov ∧
    (enterTaking cause s).gates = s.gates ∧ (enterTaking cause s).ev = s.ev ∧
    (enterTaking cause s).tide = s.tide ∧ (enterTaking cause s).sec = s.sec ∧
    (enterTaking cause s).cal = s.cal ∧ (enterTaking cause s).grid = s.grid ∧
    (enterTaking cause s).slots = s.slots ∧ (enterTaking cause s).dock = s.dock ∧
    (enterTaking cause s).port = s.port ∧ (enterTaking cause s).sess = s.sess ∧
    (enterTaking cause s).clk = s.clk ∧ (enterTaking cause s).cap = s.cap := by
   simp [enterTaking]

@[simp] theorem useMaskWindow_keeps (src : Nat) (s : State) :
    (useMaskWindow src s).pending = s.pending ∧ (useMaskWindow src s).freeCount = s.freeCount ∧
    (useMaskWindow src s).now = s.now ∧ (useMaskWindow src s).tx = s.tx ∧
    (useMaskWindow src s).hw = s.hw ∧ (useMaskWindow src s).od = s.od ∧
    (useMaskWindow src s).txn = s.txn ∧ (useMaskWindow src s).fm = s.fm ∧
    (useMaskWindow src s).rcd = s.rcd ∧ (useMaskWindow src s).loop = s.loop ∧
    (useMaskWindow src s).phases = s.phases ∧ (useMaskWindow src s).tph = s.tph ∧
    (useMaskWindow src s).links = s.links ∧ (useMaskWindow src s).edge = s.edge ∧
    (useMaskWindow src s).trays = s.trays ∧ (useMaskWindow src s).alloc = s.alloc ∧
    (useMaskWindow src s).tows = s.tows ∧ (useMaskWindow src s).est = s.est ∧
    (useMaskWindow src s).feed = s.feed ∧ (useMaskWindow src s).gov = s.gov ∧
    (useMaskWindow src s).gates = s.gates ∧ (useMaskWindow src s).tide = s.tide ∧
    (useMaskWindow src s).pair = s.pair ∧ (useMaskWindow src s).sec = s.sec ∧
    (useMaskWindow src s).cal = s.cal ∧ (useMaskWindow src s).grid = s.grid ∧
    (useMaskWindow src s).slots = s.slots ∧ (useMaskWindow src s).dock = s.dock ∧
    (useMaskWindow src s).port = s.port ∧ (useMaskWindow src s).sess = s.sess ∧
    (useMaskWindow src s).clk = s.clk ∧ (useMaskWindow src s).cap = s.cap := by
   simp [useMaskWindow]

@[simp] theorem refuseFast_keeps (core : Nat) (r : EvRec) (s : State) :
    (refuseFast core r s).pending = s.pending ∧ (refuseFast core r s).freeCount = s.freeCount ∧
    (refuseFast core r s).now = s.now ∧ (refuseFast core r s).tx = s.tx ∧
    (refuseFast core r s).hw = s.hw ∧ (refuseFast core r s).od = s.od ∧
    (refuseFast core r s).txn = s.txn ∧ (refuseFast core r s).rcd = s.rcd ∧
    (refuseFast core r s).loop = s.loop ∧ (refuseFast core r s).phases = s.phases ∧
    (refuseFast core r s).tph = s.tph ∧ (refuseFast core r s).links = s.links ∧
    (refuseFast core r s).edge = s.edge ∧ (refuseFast core r s).trays = s.trays ∧
    (refuseFast core r s).alloc = s.alloc ∧ (refuseFast core r s).tows = s.tows ∧
    (refuseFast core r s).est = s.est ∧ (refuseFast core r s).feed = s.feed ∧
    (refuseFast core r s).gov = s.gov ∧ (refuseFast core r s).gates = s.gates ∧
    (refuseFast core r s).tide = s.tide ∧ (refuseFast core r s).pair = s.pair ∧
    (refuseFast core r s).sec = s.sec ∧ (refuseFast core r s).cal = s.cal ∧
    (refuseFast core r s).grid = s.grid ∧ (refuseFast core r s).slots = s.slots ∧
    (refuseFast core r s).dock = s.dock ∧ (refuseFast core r s).port = s.port ∧
    (refuseFast core r s).sess = s.sess ∧ (refuseFast core r s).clk = s.clk ∧
    (refuseFast core r s).cap = s.cap := by
   simp [refuseFast]

@[simp] theorem deliverTo_keeps (core : Nat) (fast : Bool) (r : EvRec) (s : State) :
    (deliverTo core fast r s).pending = s.pending ∧
    (deliverTo core fast r s).freeCount = s.freeCount ∧ (deliverTo core fast r s).now = s.now ∧
    (deliverTo core fast r s).hw = s.hw ∧
    (deliverTo core fast r s).od = s.od ∧ (deliverTo core fast r s).txn = s.txn ∧
    (deliverTo core fast r s).rcd = s.rcd ∧ (deliverTo core fast r s).loop = s.loop ∧
    (deliverTo core fast r s).phases = s.phases ∧ (deliverTo core fast r s).tph = s.tph ∧
    (deliverTo core fast r s).links = s.links ∧ (deliverTo core fast r s).edge = s.edge ∧
    (deliverTo core fast r s).trays = s.trays ∧ (deliverTo core fast r s).alloc = s.alloc ∧
    (deliverTo core fast r s).tows = s.tows ∧ (deliverTo core fast r s).est = s.est ∧
    (deliverTo core fast r s).feed = s.feed ∧ (deliverTo core fast r s).gov = s.gov ∧
    (deliverTo core fast r s).gates = s.gates ∧ (deliverTo core fast r s).tide = s.tide ∧
    (deliverTo core fast r s).pair = s.pair ∧ (deliverTo core fast r s).sec = s.sec ∧
    (deliverTo core fast r s).cal = s.cal ∧ (deliverTo core fast r s).grid = s.grid ∧
    (deliverTo core fast r s).slots = s.slots ∧ (deliverTo core fast r s).dock = s.dock ∧
    (deliverTo core fast r s).port = s.port ∧ (deliverTo core fast r s).sess = s.sess ∧
    (deliverTo core fast r s).clk = s.clk ∧ (deliverTo core fast r s).cap = s.cap := by
   simp [deliverTo]

@[simp] theorem senseChange_keeps (src : Nat) (s : State) :
    (senseChange src s).pending = s.pending ∧ (senseChange src s).freeCount = s.freeCount ∧
    (senseChange src s).now = s.now ∧ (senseChange src s).tx = s.tx ∧ (senseChange src s).hw = s.hw
    ∧ (senseChange src s).od = s.od ∧ (senseChange src s).txn = s.txn ∧
    (senseChange src s).fm = s.fm ∧ (senseChange src s).rcd = s.rcd ∧
    (senseChange src s).loop = s.loop ∧ (senseChange src s).phases = s.phases ∧
    (senseChange src s).tph = s.tph ∧ (senseChange src s).links = s.links ∧
    (senseChange src s).edge = s.edge ∧ (senseChange src s).trays = s.trays ∧
    (senseChange src s).alloc = s.alloc ∧ (senseChange src s).tows = s.tows ∧
    (senseChange src s).est = s.est ∧ (senseChange src s).feed = s.feed ∧
    (senseChange src s).gov = s.gov ∧ (senseChange src s).gates = s.gates ∧
    (senseChange src s).tide = s.tide ∧ (senseChange src s).pair = s.pair ∧
    (senseChange src s).sec = s.sec ∧ (senseChange src s).cal = s.cal ∧
    (senseChange src s).grid = s.grid ∧ (senseChange src s).slots = s.slots ∧
    (senseChange src s).dock = s.dock ∧ (senseChange src s).port = s.port ∧
    (senseChange src s).sess = s.sess ∧ (senseChange src s).clk = s.clk ∧
    (senseChange src s).cap = s.cap := by
   simp [senseChange]

@[simp] theorem deliverAll_keeps (targets : List (Nat × Bool)) (r : EvRec) (s : State) :
    (deliverAll targets r s).pending = s.pending ∧ (deliverAll targets r s).freeCount = s.freeCount
    ∧ (deliverAll targets r s).now = s.now ∧ (deliverAll targets r s).hw = s.hw ∧ (deliverAll targets r s).od = s.od ∧
    (deliverAll targets r s).txn = s.txn ∧ (deliverAll targets r s).rcd = s.rcd ∧
    (deliverAll targets r s).loop = s.loop ∧ (deliverAll targets r s).phases = s.phases ∧
    (deliverAll targets r s).tph = s.tph ∧ (deliverAll targets r s).links = s.links ∧
    (deliverAll targets r s).edge = s.edge ∧ (deliverAll targets r s).trays = s.trays ∧
    (deliverAll targets r s).alloc = s.alloc ∧ (deliverAll targets r s).tows = s.tows ∧
    (deliverAll targets r s).est = s.est ∧ (deliverAll targets r s).feed = s.feed ∧
    (deliverAll targets r s).gov = s.gov ∧ (deliverAll targets r s).gates = s.gates ∧
    (deliverAll targets r s).tide = s.tide ∧ (deliverAll targets r s).pair = s.pair ∧
    (deliverAll targets r s).sec = s.sec ∧ (deliverAll targets r s).cal = s.cal ∧
    (deliverAll targets r s).grid = s.grid ∧ (deliverAll targets r s).slots = s.slots ∧
    (deliverAll targets r s).dock = s.dock ∧ (deliverAll targets r s).port = s.port ∧
    (deliverAll targets r s).sess = s.sess ∧ (deliverAll targets r s).clk = s.clk ∧
    (deliverAll targets r s).cap = s.cap := by
   simp [deliverAll]

@[simp] theorem levelDeliver_keeps (src : Nat) (s : State) :
    (levelDeliver src s).pending = s.pending ∧ (levelDeliver src s).freeCount = s.freeCount ∧
    (levelDeliver src s).now = s.now ∧ (levelDeliver src s).hw = s.hw ∧ (levelDeliver src s).od = s.od ∧
    (levelDeliver src s).txn = s.txn ∧ (levelDeliver src s).rcd = s.rcd ∧
    (levelDeliver src s).loop = s.loop ∧ (levelDeliver src s).phases = s.phases ∧
    (levelDeliver src s).tph = s.tph ∧ (levelDeliver src s).links = s.links ∧
    (levelDeliver src s).edge = s.edge ∧ (levelDeliver src s).trays = s.trays ∧
    (levelDeliver src s).alloc = s.alloc ∧ (levelDeliver src s).tows = s.tows ∧
    (levelDeliver src s).est = s.est ∧ (levelDeliver src s).feed = s.feed ∧
    (levelDeliver src s).gov = s.gov ∧ (levelDeliver src s).gates = s.gates ∧
    (levelDeliver src s).tide = s.tide ∧ (levelDeliver src s).pair = s.pair ∧
    (levelDeliver src s).sec = s.sec ∧ (levelDeliver src s).cal = s.cal ∧
    (levelDeliver src s).grid = s.grid ∧ (levelDeliver src s).slots = s.slots ∧
    (levelDeliver src s).dock = s.dock ∧ (levelDeliver src s).port = s.port ∧
    (levelDeliver src s).sess = s.sess ∧ (levelDeliver src s).clk = s.clk ∧
    (levelDeliver src s).cap = s.cap := by
   simp [levelDeliver]

@[simp] theorem redeliver_keeps (src : Nat) (s : State) :
    (redeliver src s).pending = s.pending ∧ (redeliver src s).freeCount = s.freeCount ∧
    (redeliver src s).now = s.now ∧ (redeliver src s).hw = s.hw ∧
    (redeliver src s).od = s.od ∧ (redeliver src s).txn = s.txn ∧ (redeliver src s).rcd = s.rcd ∧
    (redeliver src s).loop = s.loop ∧ (redeliver src s).phases = s.phases ∧
    (redeliver src s).tph = s.tph ∧ (redeliver src s).links = s.links ∧
    (redeliver src s).edge = s.edge ∧ (redeliver src s).trays = s.trays ∧
    (redeliver src s).alloc = s.alloc ∧ (redeliver src s).tows = s.tows ∧
    (redeliver src s).est = s.est ∧ (redeliver src s).feed = s.feed ∧ (redeliver src s).gov = s.gov
    ∧ (redeliver src s).gates = s.gates ∧ (redeliver src s).tide = s.tide ∧
    (redeliver src s).pair = s.pair ∧ (redeliver src s).sec = s.sec ∧ (redeliver src s).cal = s.cal
    ∧ (redeliver src s).grid = s.grid ∧ (redeliver src s).slots = s.slots ∧
    (redeliver src s).dock = s.dock ∧ (redeliver src s).port = s.port ∧
    (redeliver src s).sess = s.sess ∧ (redeliver src s).clk = s.clk ∧
    (redeliver src s).cap = s.cap := by
   simp [redeliver]

@[simp] theorem edgeDeliver_keeps (src kind : Nat) (s : State) :
    (edgeDeliver src kind s).pending = s.pending ∧ (edgeDeliver src kind s).freeCount = s.freeCount
    ∧ (edgeDeliver src kind s).now = s.now ∧ (edgeDeliver src kind s).hw = s.hw ∧ (edgeDeliver src kind s).od = s.od ∧
    (edgeDeliver src kind s).txn = s.txn ∧ (edgeDeliver src kind s).rcd = s.rcd ∧
    (edgeDeliver src kind s).loop = s.loop ∧ (edgeDeliver src kind s).phases = s.phases ∧
    (edgeDeliver src kind s).tph = s.tph ∧ (edgeDeliver src kind s).links = s.links ∧
    (edgeDeliver src kind s).edge = s.edge ∧ (edgeDeliver src kind s).trays = s.trays ∧
    (edgeDeliver src kind s).alloc = s.alloc ∧ (edgeDeliver src kind s).tows = s.tows ∧
    (edgeDeliver src kind s).est = s.est ∧ (edgeDeliver src kind s).feed = s.feed ∧
    (edgeDeliver src kind s).gov = s.gov ∧ (edgeDeliver src kind s).gates = s.gates ∧
    (edgeDeliver src kind s).tide = s.tide ∧ (edgeDeliver src kind s).pair = s.pair ∧
    (edgeDeliver src kind s).sec = s.sec ∧ (edgeDeliver src kind s).cal = s.cal ∧
    (edgeDeliver src kind s).grid = s.grid ∧ (edgeDeliver src kind s).slots = s.slots ∧
    (edgeDeliver src kind s).dock = s.dock ∧ (edgeDeliver src kind s).port = s.port ∧
    (edgeDeliver src kind s).sess = s.sess ∧ (edgeDeliver src kind s).clk = s.clk ∧
    (edgeDeliver src kind s).cap = s.cap := by
   simp [edgeDeliver]

@[simp] theorem emitTrasia_keeps (ses pcp : Nat) (frame : Bytes) (s : State) :
    (emitTrasia ses pcp frame s).pending = s.pending ∧
    (emitTrasia ses pcp frame s).freeCount = s.freeCount ∧ (emitTrasia ses pcp frame s).now = s.now
    ∧ (emitTrasia ses pcp frame s).hw = s.hw ∧ (emitTrasia ses pcp frame s).od = s.od ∧
    (emitTrasia ses pcp frame s).txn = s.txn ∧ (emitTrasia ses pcp frame s).fm = s.fm ∧
    (emitTrasia ses pcp frame s).rcd = s.rcd ∧ (emitTrasia ses pcp frame s).loop = s.loop ∧
    (emitTrasia ses pcp frame s).phases = s.phases ∧ (emitTrasia ses pcp frame s).tph = s.tph ∧
    (emitTrasia ses pcp frame s).links = s.links ∧ (emitTrasia ses pcp frame s).edge = s.edge ∧
    (emitTrasia ses pcp frame s).trays = s.trays ∧ (emitTrasia ses pcp frame s).alloc = s.alloc ∧
    (emitTrasia ses pcp frame s).tows = s.tows ∧ (emitTrasia ses pcp frame s).est = s.est ∧
    (emitTrasia ses pcp frame s).feed = s.feed ∧ (emitTrasia ses pcp frame s).gov = s.gov ∧
    (emitTrasia ses pcp frame s).gates = s.gates ∧ (emitTrasia ses pcp frame s).ev = s.ev ∧
    (emitTrasia ses pcp frame s).tide = s.tide ∧ (emitTrasia ses pcp frame s).pair = s.pair ∧
    (emitTrasia ses pcp frame s).sec = s.sec ∧ (emitTrasia ses pcp frame s).cal = s.cal ∧
    (emitTrasia ses pcp frame s).grid = s.grid ∧ (emitTrasia ses pcp frame s).slots = s.slots ∧
    (emitTrasia ses pcp frame s).dock = s.dock ∧ (emitTrasia ses pcp frame s).clk = s.clk ∧
    (emitTrasia ses pcp frame s).cap = s.cap := by
   simp [emitTrasia]

@[simp] theorem sendTrasia_keeps (ses : Nat) (stream : Option Nat) (frame : Bytes) (s : State) :
    (sendTrasia ses stream frame s).pending = s.pending ∧
    (sendTrasia ses stream frame s).freeCount = s.freeCount ∧
    (sendTrasia ses stream frame s).now = s.now ∧ (sendTrasia ses stream frame s).hw = s.hw ∧
    (sendTrasia ses stream frame s).od = s.od ∧ (sendTrasia ses stream frame s).txn = s.txn ∧
    (sendTrasia ses stream frame s).fm = s.fm ∧ (sendTrasia ses stream frame s).rcd = s.rcd ∧
    (sendTrasia ses stream frame s).loop = s.loop ∧
    (sendTrasia ses stream frame s).phases = s.phases ∧ (sendTrasia ses stream frame s).tph = s.tph
    ∧ (sendTrasia ses stream frame s).links = s.links ∧
    (sendTrasia ses stream frame s).edge = s.edge ∧ (sendTrasia ses stream frame s).trays = s.trays
    ∧ (sendTrasia ses stream frame s).alloc = s.alloc ∧
    (sendTrasia ses stream frame s).tows = s.tows ∧ (sendTrasia ses stream frame s).est = s.est ∧
    (sendTrasia ses stream frame s).feed = s.feed ∧ (sendTrasia ses stream frame s).gov = s.gov ∧
    (sendTrasia ses stream frame s).gates = s.gates ∧ (sendTrasia ses stream frame s).ev = s.ev ∧
    (sendTrasia ses stream frame s).tide = s.tide ∧ (sendTrasia ses stream frame s).pair = s.pair ∧
    (sendTrasia ses stream frame s).sec = s.sec ∧ (sendTrasia ses stream frame s).cal = s.cal ∧
    (sendTrasia ses stream frame s).grid = s.grid ∧ (sendTrasia ses stream frame s).slots = s.slots
    ∧ (sendTrasia ses stream frame s).dock = s.dock ∧ (sendTrasia ses stream frame s).clk = s.clk ∧
    (sendTrasia ses stream frame s).cap = s.cap := by
   simp [sendTrasia]

@[simp] theorem sendPause_keeps (quanta : Nat) (s : State) :
    (sendPause quanta s).pending = s.pending ∧ (sendPause quanta s).freeCount = s.freeCount ∧
    (sendPause quanta s).now = s.now ∧ (sendPause quanta s).hw = s.hw ∧
    (sendPause quanta s).od = s.od ∧ (sendPause quanta s).txn = s.txn ∧
    (sendPause quanta s).fm = s.fm ∧ (sendPause quanta s).rcd = s.rcd ∧
    (sendPause quanta s).loop = s.loop ∧ (sendPause quanta s).phases = s.phases ∧
    (sendPause quanta s).tph = s.tph ∧ (sendPause quanta s).links = s.links ∧
    (sendPause quanta s).edge = s.edge ∧ (sendPause quanta s).trays = s.trays ∧
    (sendPause quanta s).alloc = s.alloc ∧ (sendPause quanta s).tows = s.tows ∧
    (sendPause quanta s).est = s.est ∧ (sendPause quanta s).feed = s.feed ∧
    (sendPause quanta s).gov = s.gov ∧ (sendPause quanta s).gates = s.gates ∧
    (sendPause quanta s).ev = s.ev ∧ (sendPause quanta s).tide = s.tide ∧
    (sendPause quanta s).pair = s.pair ∧ (sendPause quanta s).sec = s.sec ∧
    (sendPause quanta s).cal = s.cal ∧ (sendPause quanta s).grid = s.grid ∧
    (sendPause quanta s).slots = s.slots ∧ (sendPause quanta s).dock = s.dock ∧
    (sendPause quanta s).sess = s.sess ∧ (sendPause quanta s).clk = s.clk ∧
    (sendPause quanta s).cap = s.cap := by
   simp [sendPause]

@[simp] theorem countStale_keeps (ses : Nat) (s : State) :
    (countStale ses s).pending = s.pending ∧ (countStale ses s).freeCount = s.freeCount ∧
    (countStale ses s).now = s.now ∧ (countStale ses s).tx = s.tx ∧ (countStale ses s).hw = s.hw ∧
    (countStale ses s).od = s.od ∧ (countStale ses s).txn = s.txn ∧ (countStale ses s).fm = s.fm ∧
    (countStale ses s).rcd = s.rcd ∧ (countStale ses s).loop = s.loop ∧
    (countStale ses s).phases = s.phases ∧ (countStale ses s).tph = s.tph ∧
    (countStale ses s).links = s.links ∧ (countStale ses s).edge = s.edge ∧
    (countStale ses s).trays = s.trays ∧ (countStale ses s).alloc = s.alloc ∧
    (countStale ses s).tows = s.tows ∧ (countStale ses s).est = s.est ∧
    (countStale ses s).feed = s.feed ∧ (countStale ses s).gov = s.gov ∧
    (countStale ses s).gates = s.gates ∧ (countStale ses s).ev = s.ev ∧
    (countStale ses s).tide = s.tide ∧ (countStale ses s).pair = s.pair ∧
    (countStale ses s).sec = s.sec ∧ (countStale ses s).cal = s.cal ∧
    (countStale ses s).grid = s.grid ∧ (countStale ses s).slots = s.slots ∧
    (countStale ses s).dock = s.dock ∧ (countStale ses s).port = s.port ∧
    (countStale ses s).clk = s.clk ∧ (countStale ses s).cap = s.cap := by
   simp [countStale]

@[simp] theorem State.violateOp_keeps (s : State) (ses op : Nat) :
    (State.violateOp s ses op).pending = s.pending ∧
    (State.violateOp s ses op).freeCount = s.freeCount ∧ (State.violateOp s ses op).now = s.now ∧
    (State.violateOp s ses op).tx = s.tx ∧ (State.violateOp s ses op).hw = s.hw ∧
    (State.violateOp s ses op).od = s.od ∧ (State.violateOp s ses op).txn = s.txn ∧
    (State.violateOp s ses op).fm = s.fm ∧ (State.violateOp s ses op).rcd = s.rcd ∧
    (State.violateOp s ses op).loop = s.loop ∧ (State.violateOp s ses op).phases = s.phases ∧
    (State.violateOp s ses op).tph = s.tph ∧ (State.violateOp s ses op).links = s.links ∧
    (State.violateOp s ses op).edge = s.edge ∧ (State.violateOp s ses op).trays = s.trays ∧
    (State.violateOp s ses op).alloc = s.alloc ∧ (State.violateOp s ses op).tows = s.tows ∧
    (State.violateOp s ses op).est = s.est ∧ (State.violateOp s ses op).feed = s.feed ∧
    (State.violateOp s ses op).gov = s.gov ∧ (State.violateOp s ses op).gates = s.gates ∧
    (State.violateOp s ses op).ev = s.ev ∧ (State.violateOp s ses op).tide = s.tide ∧
    (State.violateOp s ses op).pair = s.pair ∧ (State.violateOp s ses op).sec = s.sec ∧
    (State.violateOp s ses op).cal = s.cal ∧ (State.violateOp s ses op).grid = s.grid ∧
    (State.violateOp s ses op).slots = s.slots ∧ (State.violateOp s ses op).dock = s.dock ∧
    (State.violateOp s ses op).port = s.port ∧ (State.violateOp s ses op).clk = s.clk ∧
    (State.violateOp s ses op).cap = s.cap := by
   simp [State.violateOp]

@[simp] theorem sessionResetEff_keeps (n : Nat) (s : State) :
    (sessionResetEff n s).pending = s.pending ∧ (sessionResetEff n s).freeCount = s.freeCount ∧
    (sessionResetEff n s).now = s.now ∧ (sessionResetEff n s).tx = s.tx ∧
    (sessionResetEff n s).hw = s.hw ∧ (sessionResetEff n s).od = s.od ∧
    (sessionResetEff n s).txn = s.txn ∧ (sessionResetEff n s).fm = s.fm ∧
    (sessionResetEff n s).rcd = s.rcd ∧ (sessionResetEff n s).loop = s.loop ∧
    (sessionResetEff n s).phases = s.phases ∧ (sessionResetEff n s).tph = s.tph ∧
    (sessionResetEff n s).links = s.links ∧ (sessionResetEff n s).edge = s.edge ∧
    (sessionResetEff n s).trays = s.trays ∧ (sessionResetEff n s).alloc = s.alloc ∧
    (sessionResetEff n s).tows = s.tows ∧ (sessionResetEff n s).est = s.est ∧
    (sessionResetEff n s).feed = s.feed ∧ (sessionResetEff n s).gov = s.gov ∧
    (sessionResetEff n s).gates = s.gates ∧ (sessionResetEff n s).ev = s.ev ∧
    (sessionResetEff n s).tide = s.tide ∧ (sessionResetEff n s).pair = s.pair ∧
    (sessionResetEff n s).sec = s.sec ∧ (sessionResetEff n s).cal = s.cal ∧
    (sessionResetEff n s).grid = s.grid ∧ (sessionResetEff n s).slots = s.slots ∧
    (sessionResetEff n s).dock = s.dock ∧ (sessionResetEff n s).port = s.port ∧
    (sessionResetEff n s).clk = s.clk ∧ (sessionResetEff n s).cap = s.cap := by
   simp [sessionResetEff]

@[simp] theorem reply_keeps (m : Trasia) (payload : Bytes) (s : State) :
    (reply m payload s).pending = s.pending ∧ (reply m payload s).freeCount = s.freeCount ∧
    (reply m payload s).now = s.now ∧ (reply m payload s).hw = s.hw ∧ (reply m payload s).od = s.od
    ∧ (reply m payload s).txn = s.txn ∧ (reply m payload s).fm = s.fm ∧
    (reply m payload s).rcd = s.rcd ∧ (reply m payload s).loop = s.loop ∧
    (reply m payload s).phases = s.phases ∧ (reply m payload s).tph = s.tph ∧
    (reply m payload s).links = s.links ∧ (reply m payload s).edge = s.edge ∧
    (reply m payload s).trays = s.trays ∧ (reply m payload s).alloc = s.alloc ∧
    (reply m payload s).tows = s.tows ∧ (reply m payload s).est = s.est ∧
    (reply m payload s).feed = s.feed ∧ (reply m payload s).gov = s.gov ∧
    (reply m payload s).gates = s.gates ∧ (reply m payload s).ev = s.ev ∧
    (reply m payload s).tide = s.tide ∧ (reply m payload s).pair = s.pair ∧
    (reply m payload s).sec = s.sec ∧ (reply m payload s).cal = s.cal ∧
    (reply m payload s).grid = s.grid ∧ (reply m payload s).slots = s.slots ∧
    (reply m payload s).dock = s.dock ∧ (reply m payload s).clk = s.clk ∧
    (reply m payload s).cap = s.cap := by
   simp [reply]

@[simp] theorem State.sendCan_keeps (s : State) (port id : Nat) (data : Bytes) :
    (State.sendCan s port id data).pending = s.pending ∧
    (State.sendCan s port id data).freeCount = s.freeCount ∧
    (State.sendCan s port id data).now = s.now ∧ (State.sendCan s port id data).hw = s.hw ∧
    (State.sendCan s port id data).od = s.od ∧ (State.sendCan s port id data).txn = s.txn ∧
    (State.sendCan s port id data).fm = s.fm ∧ (State.sendCan s port id data).rcd = s.rcd ∧
    (State.sendCan s port id data).loop = s.loop ∧ (State.sendCan s port id data).phases = s.phases
    ∧ (State.sendCan s port id data).tph = s.tph ∧ (State.sendCan s port id data).links = s.links ∧
    (State.sendCan s port id data).edge = s.edge ∧ (State.sendCan s port id data).trays = s.trays ∧
    (State.sendCan s port id data).alloc = s.alloc ∧ (State.sendCan s port id data).tows = s.tows ∧
    (State.sendCan s port id data).est = s.est ∧ (State.sendCan s port id data).feed = s.feed ∧
    (State.sendCan s port id data).gov = s.gov ∧ (State.sendCan s port id data).gates = s.gates ∧
    (State.sendCan s port id data).ev = s.ev ∧ (State.sendCan s port id data).tide = s.tide ∧
    (State.sendCan s port id data).pair = s.pair ∧ (State.sendCan s port id data).sec = s.sec ∧
    (State.sendCan s port id data).cal = s.cal ∧ (State.sendCan s port id data).grid = s.grid ∧
    (State.sendCan s port id data).slots = s.slots ∧ (State.sendCan s port id data).dock = s.dock ∧
    (State.sendCan s port id data).port = s.port ∧ (State.sendCan s port id data).sess = s.sess ∧
    (State.sendCan s port id data).clk = s.clk ∧ (State.sendCan s port id data).cap = s.cap := by
   simp [State.sendCan]

@[simp] theorem readMode_keeps (r : Nat) (s : State) :
    (readMode r s).pending = s.pending ∧ (readMode r s).freeCount = s.freeCount ∧
    (readMode r s).now = s.now ∧ (readMode r s).hw = s.hw ∧ (readMode r s).od = s.od ∧
    (readMode r s).txn = s.txn ∧ (readMode r s).fm = s.fm ∧ (readMode r s).rcd = s.rcd ∧
    (readMode r s).loop = s.loop ∧ (readMode r s).phases = s.phases ∧ (readMode r s).tph = s.tph ∧
    (readMode r s).links = s.links ∧ (readMode r s).edge = s.edge ∧ (readMode r s).trays = s.trays ∧
    (readMode r s).alloc = s.alloc ∧ (readMode r s).tows = s.tows ∧ (readMode r s).est = s.est ∧
    (readMode r s).feed = s.feed ∧ (readMode r s).gov = s.gov ∧ (readMode r s).gates = s.gates ∧
    (readMode r s).ev = s.ev ∧ (readMode r s).tide = s.tide ∧ (readMode r s).pair = s.pair ∧
    (readMode r s).sec = s.sec ∧ (readMode r s).cal = s.cal ∧ (readMode r s).grid = s.grid ∧
    (readMode r s).slots = s.slots ∧ (readMode r s).dock = s.dock ∧ (readMode r s).port = s.port ∧
    (readMode r s).sess = s.sess ∧ (readMode r s).clk = s.clk ∧ (readMode r s).cap = s.cap := by
   simp [readMode]

@[simp] theorem readModes_keeps (s : State) :
    (readModes s).pending = s.pending ∧ (readModes s).freeCount = s.freeCount ∧
    (readModes s).now = s.now ∧ (readModes s).hw = s.hw ∧ (readModes s).od = s.od ∧
    (readModes s).txn = s.txn ∧ (readModes s).fm = s.fm ∧ (readModes s).rcd = s.rcd ∧
    (readModes s).loop = s.loop ∧ (readModes s).phases = s.phases ∧ (readModes s).tph = s.tph ∧
    (readModes s).links = s.links ∧ (readModes s).edge = s.edge ∧ (readModes s).trays = s.trays ∧
    (readModes s).alloc = s.alloc ∧ (readModes s).tows = s.tows ∧ (readModes s).est = s.est ∧
    (readModes s).feed = s.feed ∧ (readModes s).gov = s.gov ∧ (readModes s).gates = s.gates ∧
    (readModes s).ev = s.ev ∧ (readModes s).tide = s.tide ∧ (readModes s).pair = s.pair ∧
    (readModes s).sec = s.sec ∧ (readModes s).cal = s.cal ∧ (readModes s).grid = s.grid ∧
    (readModes s).slots = s.slots ∧ (readModes s).dock = s.dock ∧ (readModes s).port = s.port ∧
    (readModes s).sess = s.sess ∧ (readModes s).clk = s.clk ∧ (readModes s).cap = s.cap := by
   simp [readModes]

@[simp] theorem releaseWait_keeps (w : GateWait) (status : Int) (s : State) :
    (releaseWait w status s).pending = s.pending ∧ (releaseWait w status s).freeCount = s.freeCount
    ∧ (releaseWait w status s).now = s.now ∧ (releaseWait w status s).hw = s.hw ∧
    (releaseWait w status s).od = s.od ∧ (releaseWait w status s).txn = s.txn ∧
    (releaseWait w status s).fm = s.fm ∧ (releaseWait w status s).rcd = s.rcd ∧
    (releaseWait w status s).loop = s.loop ∧ (releaseWait w status s).phases = s.phases ∧
    (releaseWait w status s).tph = s.tph ∧ (releaseWait w status s).links = s.links ∧
    (releaseWait w status s).edge = s.edge ∧ (releaseWait w status s).trays = s.trays ∧
    (releaseWait w status s).alloc = s.alloc ∧ (releaseWait w status s).tows = s.tows ∧
    (releaseWait w status s).est = s.est ∧ (releaseWait w status s).feed = s.feed ∧
    (releaseWait w status s).gov = s.gov ∧ (releaseWait w status s).ev = s.ev ∧
    (releaseWait w status s).tide = s.tide ∧ (releaseWait w status s).pair = s.pair ∧
    (releaseWait w status s).sec = s.sec ∧ (releaseWait w status s).cal = s.cal ∧
    (releaseWait w status s).slots = s.slots ∧ (releaseWait w status s).dock = s.dock ∧
    (releaseWait w status s).port = s.port ∧ (releaseWait w status s).sess = s.sess ∧
    (releaseWait w status s).clk = s.clk ∧ (releaseWait w status s).cap = s.cap := by
   simp [releaseWait]

@[simp] theorem settleGate_keeps (g : Nat) (s : State) :
    (settleGate g s).pending = s.pending ∧ (settleGate g s).freeCount = s.freeCount ∧
    (settleGate g s).now = s.now ∧ (settleGate g s).hw = s.hw ∧ (settleGate g s).od = s.od ∧
    (settleGate g s).txn = s.txn ∧ (settleGate g s).fm = s.fm ∧ (settleGate g s).rcd = s.rcd ∧
    (settleGate g s).loop = s.loop ∧ (settleGate g s).phases = s.phases ∧
    (settleGate g s).tph = s.tph ∧ (settleGate g s).links = s.links ∧ (settleGate g s).edge = s.edge
    ∧ (settleGate g s).trays = s.trays ∧ (settleGate g s).alloc = s.alloc ∧
    (settleGate g s).tows = s.tows ∧ (settleGate g s).est = s.est ∧ (settleGate g s).feed = s.feed ∧
    (settleGate g s).gov = s.gov ∧ (settleGate g s).ev = s.ev ∧ (settleGate g s).tide = s.tide ∧
    (settleGate g s).pair = s.pair ∧ (settleGate g s).sec = s.sec ∧ (settleGate g s).cal = s.cal ∧
    (settleGate g s).slots = s.slots ∧ (settleGate g s).dock = s.dock ∧
    (settleGate g s).port = s.port ∧ (settleGate g s).sess = s.sess ∧ (settleGate g s).clk = s.clk ∧
    (settleGate g s).cap = s.cap := by
   simp [settleGate]

@[simp] theorem freeWaits_keeps (g : Nat) (s : State) :
    (freeWaits g s).pending = s.pending ∧ (freeWaits g s).freeCount = s.freeCount ∧
    (freeWaits g s).now = s.now ∧ (freeWaits g s).hw = s.hw ∧ (freeWaits g s).od = s.od ∧
    (freeWaits g s).txn = s.txn ∧ (freeWaits g s).fm = s.fm ∧ (freeWaits g s).rcd = s.rcd ∧
    (freeWaits g s).loop = s.loop ∧ (freeWaits g s).phases = s.phases ∧ (freeWaits g s).tph = s.tph
    ∧ (freeWaits g s).links = s.links ∧ (freeWaits g s).edge = s.edge ∧
    (freeWaits g s).trays = s.trays ∧ (freeWaits g s).alloc = s.alloc ∧
    (freeWaits g s).tows = s.tows ∧ (freeWaits g s).est = s.est ∧ (freeWaits g s).feed = s.feed ∧
    (freeWaits g s).gov = s.gov ∧ (freeWaits g s).ev = s.ev ∧ (freeWaits g s).tide = s.tide ∧
    (freeWaits g s).pair = s.pair ∧ (freeWaits g s).sec = s.sec ∧ (freeWaits g s).cal = s.cal ∧
    (freeWaits g s).slots = s.slots ∧ (freeWaits g s).dock = s.dock ∧ (freeWaits g s).port = s.port
    ∧ (freeWaits g s).sess = s.sess ∧ (freeWaits g s).clk = s.clk ∧
    (freeWaits g s).cap = s.cap := by
   simp [freeWaits]

@[simp] theorem freeBlock_keeps (b : GateBlock) (s : State) :
    (freeBlock b s).pending = s.pending ∧ (freeBlock b s).freeCount = s.freeCount ∧
    (freeBlock b s).now = s.now ∧ (freeBlock b s).hw = s.hw ∧ (freeBlock b s).od = s.od ∧
    (freeBlock b s).txn = s.txn ∧ (freeBlock b s).fm = s.fm ∧ (freeBlock b s).rcd = s.rcd ∧
    (freeBlock b s).loop = s.loop ∧ (freeBlock b s).phases = s.phases ∧ (freeBlock b s).tph = s.tph
    ∧ (freeBlock b s).links = s.links ∧ (freeBlock b s).edge = s.edge ∧
    (freeBlock b s).trays = s.trays ∧ (freeBlock b s).alloc = s.alloc ∧
    (freeBlock b s).tows = s.tows ∧ (freeBlock b s).est = s.est ∧ (freeBlock b s).feed = s.feed ∧
    (freeBlock b s).gov = s.gov ∧ (freeBlock b s).ev = s.ev ∧ (freeBlock b s).tide = s.tide ∧
    (freeBlock b s).pair = s.pair ∧ (freeBlock b s).sec = s.sec ∧ (freeBlock b s).cal = s.cal ∧
    (freeBlock b s).slots = s.slots ∧ (freeBlock b s).dock = s.dock ∧ (freeBlock b s).port = s.port
    ∧ (freeBlock b s).sess = s.sess ∧ (freeBlock b s).clk = s.clk ∧
    (freeBlock b s).cap = s.cap := by
   simp [freeBlock]

@[simp] theorem freeOwner_keeps (kind owner : Nat) (s : State) :
    (freeOwner kind owner s).pending = s.pending ∧ (freeOwner kind owner s).freeCount = s.freeCount
    ∧ (freeOwner kind owner s).now = s.now ∧ (freeOwner kind owner s).hw = s.hw ∧
    (freeOwner kind owner s).od = s.od ∧ (freeOwner kind owner s).txn = s.txn ∧
    (freeOwner kind owner s).fm = s.fm ∧ (freeOwner kind owner s).rcd = s.rcd ∧
    (freeOwner kind owner s).loop = s.loop ∧ (freeOwner kind owner s).phases = s.phases ∧
    (freeOwner kind owner s).tph = s.tph ∧ (freeOwner kind owner s).links = s.links ∧
    (freeOwner kind owner s).edge = s.edge ∧ (freeOwner kind owner s).trays = s.trays ∧
    (freeOwner kind owner s).alloc = s.alloc ∧ (freeOwner kind owner s).tows = s.tows ∧
    (freeOwner kind owner s).est = s.est ∧ (freeOwner kind owner s).feed = s.feed ∧
    (freeOwner kind owner s).gov = s.gov ∧ (freeOwner kind owner s).ev = s.ev ∧
    (freeOwner kind owner s).tide = s.tide ∧ (freeOwner kind owner s).pair = s.pair ∧
    (freeOwner kind owner s).sec = s.sec ∧ (freeOwner kind owner s).cal = s.cal ∧
    (freeOwner kind owner s).slots = s.slots ∧ (freeOwner kind owner s).dock = s.dock ∧
    (freeOwner kind owner s).port = s.port ∧ (freeOwner kind owner s).sess = s.sess ∧
    (freeOwner kind owner s).clk = s.clk ∧ (freeOwner kind owner s).cap = s.cap := by
   simp [freeOwner]

@[simp] theorem becomeActive_keeps (s : State) :
    (becomeActive s).pending = s.pending ∧ (becomeActive s).freeCount = s.freeCount ∧
    (becomeActive s).now = s.now ∧ (becomeActive s).hw = s.hw ∧ (becomeActive s).od = s.od ∧
    (becomeActive s).txn = s.txn ∧ (becomeActive s).rcd = s.rcd ∧ (becomeActive s).loop = s.loop ∧
    (becomeActive s).phases = s.phases ∧ (becomeActive s).tph = s.tph ∧
    (becomeActive s).links = s.links ∧ (becomeActive s).edge = s.edge ∧
    (becomeActive s).trays = s.trays ∧ (becomeActive s).alloc = s.alloc ∧
    (becomeActive s).tows = s.tows ∧ (becomeActive s).est = s.est ∧ (becomeActive s).feed = s.feed ∧
    (becomeActive s).gov = s.gov ∧ (becomeActive s).gates = s.gates ∧ (becomeActive s).ev = s.ev ∧
    (becomeActive s).tide = s.tide ∧ (becomeActive s).sec = s.sec ∧ (becomeActive s).cal = s.cal ∧
    (becomeActive s).grid = s.grid ∧ (becomeActive s).slots = s.slots ∧
    (becomeActive s).dock = s.dock ∧ (becomeActive s).sess = s.sess ∧ (becomeActive s).clk = s.clk ∧
    (becomeActive s).cap = s.cap := by
   simp [becomeActive]

@[simp] theorem ringRestart_keeps (t : Nat) (s : State) :
    (ringRestart t s).pending = s.pending ∧ (ringRestart t s).freeCount = s.freeCount ∧
    (ringRestart t s).now = s.now ∧ (ringRestart t s).tx = s.tx ∧ (ringRestart t s).hw = s.hw ∧
    (ringRestart t s).od = s.od ∧ (ringRestart t s).txn = s.txn ∧ (ringRestart t s).fm = s.fm ∧
    (ringRestart t s).rcd = s.rcd ∧ (ringRestart t s).loop = s.loop ∧ (ringRestart t s).phases = s.phases ∧
    (ringRestart t s).tph = s.tph ∧ (ringRestart t s).links = s.links ∧ (ringRestart t s).edge = s.edge ∧
    (ringRestart t s).trays = s.trays ∧ (ringRestart t s).alloc = s.alloc ∧ (ringRestart t s).est = s.est ∧
    (ringRestart t s).feed = s.feed ∧ (ringRestart t s).gov = s.gov ∧ (ringRestart t s).gates = s.gates ∧
    (ringRestart t s).ev = s.ev ∧ (ringRestart t s).tide = s.tide ∧ (ringRestart t s).pair = s.pair ∧
    (ringRestart t s).sec = s.sec ∧ (ringRestart t s).cal = s.cal ∧ (ringRestart t s).grid = s.grid ∧
    (ringRestart t s).slots = s.slots ∧ (ringRestart t s).dock = s.dock ∧ (ringRestart t s).port = s.port ∧
    (ringRestart t s).sess = s.sess ∧ (ringRestart t s).clk = s.clk ∧ (ringRestart t s).cap = s.cap := by
   simp [ringRestart, State.updTow]

@[simp] theorem copyTxn_keeps (id : Nat) (s : State) :
    (copyTxn id s).pending = s.pending ∧ (copyTxn id s).freeCount = s.freeCount ∧ (copyTxn id s).now = s.now ∧
    (copyTxn id s).tx = s.tx ∧ (copyTxn id s).hw = s.hw ∧ (copyTxn id s).od = s.od ∧ (copyTxn id s).fm = s.fm ∧
    (copyTxn id s).rcd = s.rcd ∧ (copyTxn id s).loop = s.loop ∧ (copyTxn id s).phases = s.phases ∧
    (copyTxn id s).tph = s.tph ∧ (copyTxn id s).links = s.links ∧ (copyTxn id s).edge = s.edge ∧
    (copyTxn id s).trays = s.trays ∧ (copyTxn id s).alloc = s.alloc ∧ (copyTxn id s).tows = s.tows ∧
    (copyTxn id s).est = s.est ∧ (copyTxn id s).feed = s.feed ∧ (copyTxn id s).gov = s.gov ∧
    (copyTxn id s).gates = s.gates ∧ (copyTxn id s).ev = s.ev ∧ (copyTxn id s).tide = s.tide ∧
    (copyTxn id s).pair = s.pair ∧ (copyTxn id s).sec = s.sec ∧ (copyTxn id s).cal = s.cal ∧
    (copyTxn id s).grid = s.grid ∧ (copyTxn id s).slots = s.slots ∧ (copyTxn id s).dock = s.dock ∧
    (copyTxn id s).port = s.port ∧ (copyTxn id s).sess = s.sess ∧ (copyTxn id s).clk = s.clk ∧
    (copyTxn id s).cap = s.cap := by
   and_intros <;> (unfold copyTxn; (try split) <;> simp)

@[simp] theorem closeTxn_keeps (id st cause : Nat) (s : State) :
    (closeTxn id st cause s).pending = s.pending ∧ (closeTxn id st cause s).freeCount = s.freeCount ∧
    (closeTxn id st cause s).now = s.now ∧ (closeTxn id st cause s).tx = s.tx ∧
    (closeTxn id st cause s).hw = s.hw ∧ (closeTxn id st cause s).od = s.od ∧
    (closeTxn id st cause s).fm = s.fm ∧ (closeTxn id st cause s).rcd = s.rcd ∧
    (closeTxn id st cause s).loop = s.loop ∧ (closeTxn id st cause s).phases = s.phases ∧
    (closeTxn id st cause s).tph = s.tph ∧ (closeTxn id st cause s).links = s.links ∧
    (closeTxn id st cause s).edge = s.edge ∧ (closeTxn id st cause s).trays = s.trays ∧
    (closeTxn id st cause s).alloc = s.alloc ∧ (closeTxn id st cause s).tows = s.tows ∧
    (closeTxn id st cause s).est = s.est ∧ (closeTxn id st cause s).feed = s.feed ∧
    (closeTxn id st cause s).gov = s.gov ∧ (closeTxn id st cause s).gates = s.gates ∧
    (closeTxn id st cause s).ev = s.ev ∧ (closeTxn id st cause s).tide = s.tide ∧
    (closeTxn id st cause s).pair = s.pair ∧ (closeTxn id st cause s).sec = s.sec ∧
    (closeTxn id st cause s).cal = s.cal ∧ (closeTxn id st cause s).grid = s.grid ∧
    (closeTxn id st cause s).slots = s.slots ∧ (closeTxn id st cause s).dock = s.dock ∧
    (closeTxn id st cause s).port = s.port ∧ (closeTxn id st cause s).sess = s.sess ∧
    (closeTxn id st cause s).clk = s.clk ∧ (closeTxn id st cause s).cap = s.cap := by
   and_intros <;> (unfold closeTxn; split; (split <;> simp [updTxn]); rfl)

@[simp] theorem interruptWrites_keeps (t cause : Nat) (s : State) :
    (interruptWrites t cause s).pending = s.pending ∧ (interruptWrites t cause s).freeCount = s.freeCount ∧
    (interruptWrites t cause s).now = s.now ∧ (interruptWrites t cause s).tx = s.tx ∧
    (interruptWrites t cause s).hw = s.hw ∧ (interruptWrites t cause s).od = s.od ∧
    (interruptWrites t cause s).fm = s.fm ∧ (interruptWrites t cause s).rcd = s.rcd ∧
    (interruptWrites t cause s).loop = s.loop ∧ (interruptWrites t cause s).phases = s.phases ∧
    (interruptWrites t cause s).tph = s.tph ∧ (interruptWrites t cause s).links = s.links ∧
    (interruptWrites t cause s).edge = s.edge ∧ (interruptWrites t cause s).trays = s.trays ∧
    (interruptWrites t cause s).alloc = s.alloc ∧ (interruptWrites t cause s).tows = s.tows ∧
    (interruptWrites t cause s).feed = s.feed ∧ (interruptWrites t cause s).gov = s.gov ∧
    (interruptWrites t cause s).gates = s.gates ∧ (interruptWrites t cause s).ev = s.ev ∧
    (interruptWrites t cause s).tide = s.tide ∧ (interruptWrites t cause s).pair = s.pair ∧
    (interruptWrites t cause s).sec = s.sec ∧ (interruptWrites t cause s).cal = s.cal ∧
    (interruptWrites t cause s).grid = s.grid ∧ (interruptWrites t cause s).slots = s.slots ∧
    (interruptWrites t cause s).dock = s.dock ∧ (interruptWrites t cause s).port = s.port ∧
    (interruptWrites t cause s).sess = s.sess ∧ (interruptWrites t cause s).clk = s.clk ∧
    (interruptWrites t cause s).cap = s.cap := by
   simp [interruptWrites, State.updEst]

@[simp] theorem judgeStaged_keeps (s : State) :
    (judgeStaged s).pending = s.pending ∧ (judgeStaged s).freeCount = s.freeCount ∧
    (judgeStaged s).now = s.now ∧ (judgeStaged s).tx = s.tx ∧ (judgeStaged s).hw = s.hw ∧
    (judgeStaged s).od = s.od ∧ (judgeStaged s).txn = s.txn ∧ (judgeStaged s).rcd = s.rcd ∧
    (judgeStaged s).loop = s.loop ∧ (judgeStaged s).phases = s.phases ∧ (judgeStaged s).tph = s.tph ∧
    (judgeStaged s).links = s.links ∧ (judgeStaged s).edge = s.edge ∧ (judgeStaged s).trays = s.trays ∧
    (judgeStaged s).alloc = s.alloc ∧ (judgeStaged s).tows = s.tows ∧ (judgeStaged s).est = s.est ∧
    (judgeStaged s).feed = s.feed ∧ (judgeStaged s).gov = s.gov ∧ (judgeStaged s).gates = s.gates ∧
    (judgeStaged s).ev = s.ev ∧ (judgeStaged s).tide = s.tide ∧ (judgeStaged s).pair = s.pair ∧
    (judgeStaged s).cal = s.cal ∧ (judgeStaged s).grid = s.grid ∧ (judgeStaged s).slots = s.slots ∧
    (judgeStaged s).dock = s.dock ∧ (judgeStaged s).port = s.port ∧ (judgeStaged s).sess = s.sess ∧
    (judgeStaged s).clk = s.clk ∧ (judgeStaged s).cap = s.cap := by
   simp [judgeStaged, State.raise, State.raiseWith]

@[simp] theorem slackUpdate_keeps (arr : List (Nat × Nat)) (s : State) :
    (slackUpdate arr s).pending = s.pending ∧ (slackUpdate arr s).freeCount = s.freeCount ∧
    (slackUpdate arr s).now = s.now ∧ (slackUpdate arr s).tx = s.tx ∧ (slackUpdate arr s).hw = s.hw ∧
    (slackUpdate arr s).od = s.od ∧ (slackUpdate arr s).txn = s.txn ∧ (slackUpdate arr s).fm = s.fm ∧
    (slackUpdate arr s).rcd = s.rcd ∧ (slackUpdate arr s).loop = s.loop ∧
    (slackUpdate arr s).phases = s.phases ∧ (slackUpdate arr s).tph = s.tph ∧
    (slackUpdate arr s).links = s.links ∧ (slackUpdate arr s).edge = s.edge ∧
    (slackUpdate arr s).trays = s.trays ∧ (slackUpdate arr s).alloc = s.alloc ∧
    (slackUpdate arr s).tows = s.tows ∧ (slackUpdate arr s).est = s.est ∧ (slackUpdate arr s).feed = s.feed ∧
    (slackUpdate arr s).gates = s.gates ∧ (slackUpdate arr s).ev = s.ev ∧ (slackUpdate arr s).tide = s.tide ∧
    (slackUpdate arr s).pair = s.pair ∧ (slackUpdate arr s).sec = s.sec ∧ (slackUpdate arr s).cal = s.cal ∧
    (slackUpdate arr s).grid = s.grid ∧ (slackUpdate arr s).slots = s.slots ∧
    (slackUpdate arr s).dock = s.dock ∧ (slackUpdate arr s).port = s.port ∧ (slackUpdate arr s).sess = s.sess ∧
    (slackUpdate arr s).clk = s.clk ∧ (slackUpdate arr s).cap = s.cap := by
   simp [slackUpdate, State.updChip]

@[simp] theorem calUnverify_keeps (t : Nat) (s : State) :
    (calUnverify t s).pending = s.pending ∧ (calUnverify t s).freeCount = s.freeCount ∧
    (calUnverify t s).now = s.now ∧ (calUnverify t s).tx = s.tx ∧ (calUnverify t s).hw = s.hw ∧
    (calUnverify t s).txn = s.txn ∧ (calUnverify t s).rcd = s.rcd ∧ (calUnverify t s).loop = s.loop ∧
    (calUnverify t s).phases = s.phases ∧ (calUnverify t s).tph = s.tph ∧ (calUnverify t s).links = s.links ∧
    (calUnverify t s).edge = s.edge ∧ (calUnverify t s).trays = s.trays ∧ (calUnverify t s).alloc = s.alloc ∧
    (calUnverify t s).tows = s.tows ∧ (calUnverify t s).est = s.est ∧ (calUnverify t s).feed = s.feed ∧
    (calUnverify t s).gov = s.gov ∧ (calUnverify t s).gates = s.gates ∧ (calUnverify t s).ev = s.ev ∧
    (calUnverify t s).tide = s.tide ∧ (calUnverify t s).pair = s.pair ∧ (calUnverify t s).sec = s.sec ∧
    (calUnverify t s).grid = s.grid ∧ (calUnverify t s).slots = s.slots ∧ (calUnverify t s).dock = s.dock ∧
    (calUnverify t s).port = s.port ∧ (calUnverify t s).sess = s.sess ∧ (calUnverify t s).clk = s.clk ∧
    (calUnverify t s).cap = s.cap := by
   simp [calUnverify, State.setCal, State.pendStore, State.raise, State.raiseWith]

/-- What dropping a measurement leaves: no samples, and no window that runs (R509, R514). -/
@[simp] theorem Phase.dropCal_calN (x : Phase) : x.dropCal.calN = 0 := rfl
@[simp] theorem Phase.dropCal_calSince (x : Phase) : x.dropCal.calSince = none := rfl
@[simp] theorem Phase.dropCal_st (x : Phase) : x.dropCal.st = x.st := rfl
@[simp] theorem Link.dropCal_calN (l : Link) : l.dropCal.calN = 0 := rfl
@[simp] theorem Link.dropCal_calSince (l : Link) : l.dropCal.calSince = none := rfl
@[simp] theorem Link.dropCal_up (l : Link) : l.dropCal.up = l.up := rfl

end Sys2Proof.Machine
end

