-- ==== Sys2Proof/Tests/Slice0.lean ====
section
/-! SUPPORT. Tests: ill-formed commands, the spec's worked examples, and for each obligation a state and operands
that meet its premises. -/

namespace Sys2Proof.Tests

open Sys2Proof.Machine

set_option Elab.async false

/-! ### Small states and frames -/

/-- Firmware runs, outputs driven; all else as after reset. -/
def fw : State := { State.reset with hw := { Hw.reset with phase := .firmware, released := false } }

/-- A check of an insertion with phases still to probe. -/
def check (todo : List Nat) : Check :=
  { started := false, told := [], todo := todo, tries := 0, due := 0, retry := false, tb := none, ta := 0,
    anyFailed := false, blackStart := false, manager := false }

/-- A state at another shelf time. -/
def at_ (s : State) (n : Nat) : State := { s with now := n }

/-- A towpath reply with a status and no values. -/
def towReply (status : Nat) : Bytes :=
  le 1 1 ++ le 1 status ++ List.replicate 18 0 ++ le 4 (crc32c (le 1 1 ++ le 1 status ++ List.replicate 18 0))

/-- Both rectifier groups in one state. -/
def groups (st : GroupSt) : State :=
  { fw with feed := { fw.feed with groups := fw.feed.groups.map (fun g => { g with st := st }) } }

/-- A schedule entry of zeros. -/
def entry : SchedEntry :=
  { src := 0, part := 0, delta := 0, ramp := 0, flight := 0, kind := 0, conf := 0, conv := 0, tc := 0 }

/-- A gate of zeros. -/
def gate : Gate :=
  { count := 0, target := 0, mode := 0, barrier := 0, sat := false, drain := false, kind := 0, owner := 0, route := 0
    gen := 0 }

/-- Both groups present, the loop in RUN, tray 0 ONLINE, long after start. -/
def slack : State :=
  { (groups .present) with
    loop := { fw.loop with st := .run }, trays := upd fw.trays 0 (fun x => { x with st := .online }), now := 10 ^ 13 }

/-- Bytes with their CRC-32C put in at an offset. -/
def sealed (b : Bytes) (i : Nat) : Bytes :=
  b.take i ++ le 4 (crc32c (b.take i ++ le 4 0 ++ b.drop (i + 4))) ++ b.drop (i + 4)

/-- A barge. -/
def barge (dst src kind n : Nat) (payload : Bytes) : Bytes :=
  sealed (le 1 dst ++ le 1 src ++ le 1 (16 * kind + n) ++ le 1 0 ++ le 2 0 ++ le 2 0 ++ le 4 0 ++ le 4 0 ++ payload) 12

/-- What its bytes say. -/
def parsed (b : Bytes) : Barge := (parseBarge b).getD ⟨0, 0, 0, 0, 0, 0, 0, 0, []⟩

/-- A container of one core, one stage and one channel. -/
def container (period : Nat) : Bytes :=
  sealed ([0x53, 0x54, 0x47, 0x50] ++ le 2 1 ++ le 2 0 ++ le 4 120 ++ [1, 1, 1, 1] ++ le 1 period ++ [0, 0, 0] ++
    le 4 64 ++ le 4 80 ++ le 4 0 ++ le 4 88 ++ List.replicate 28 0 ++
    [0, 0, 0, 0, 1, 0, 0, 0, 13, 0, 0, 0, 0, 0, 0, 0] ++ [7, 0, 0, 4, 0xFF, 3, 1, 0] ++
    le 4 104 ++ le 4 16 ++ List.replicate 8 0 ++ [0x0D, 3, 0, 1] ++ List.replicate 12 0) 60

/-- Slot 24 with that container, in a state. -/
def slotAt (st : SlotSt) (period : Nat) : State :=
  { fw with slots := upd fw.slots 24 (fun x => { x with st := st, blocks := [(0, container period)] }) }

/-- Its program placed on core 56, one input waiting. -/
def ran (last : Option Nat) (run : Nat) : Running :=
  { width := 1, height := 1, first := 56, gates := [], stages := [⟨last, [], run, false, 0, 0⟩]
    inputs := [⟨0, 9, 7, [1, 3, 1, 0, 0, 0, 0, 0]⟩], calls := [], callN := 0, origin := 0 }

/-- Slot 24 BOUND. -/
def bound (last : Option Nat) (run : Nat) : State :=
  { (slotAt .bound 0) with slots := upd (slotAt .bound 0).slots 24 (fun x => { x with rt := some (ran last run) }) }

/-- Four gates of session 0. -/
def session (base : Nat) : GateBlock := { base := base, n := 4, mode := 0, kind := 4, owner := 0, holes := [] }

/-- A gate of session 0. -/
def owned (mode barrier : Nat) : Gate :=
  { gate with mode := mode, barrier := barrier, kind := 4, target := 5, count := 1 }

/-- The port up, session 0 with an address and every right. -/
def net : State :=
  (({ fw with port := { fw.port with link := 2 } }.setCfg 0x1100 0x01 1).setCfg 0x1000 0x06 0x0A000001).setCfg 0x1100
    0x06 0xFF

/-- A UDP datagram to the module. -/
def eth (payload : Bytes) : Bytes :=
  be 6 fw.mac ++ be 6 1 ++ be 2 0x0800 ++ [0x45, 0] ++ be 2 (28 + payload.length) ++ [0, 0, 0, 0, 64, 17, 0, 0] ++
    be 4 0x0A000002 ++ be 4 0x0A000001 ++ be 2 5000 ++ be 2 (fw.cfgU 0x1000 0x05) ++ be 2 (8 + payload.length) ++
    [0, 0] ++ payload

/-- An ARP request for the module's address. -/
def arp : Bytes :=
  be 6 0xFFFFFFFFFFFF ++ be 6 1 ++ be 2 0x0806 ++ [0x00, 0x01, 0x08, 0x00, 0x06, 0x04, 0x00, 0x01] ++ be 6 1 ++
    be 4 0x0A000002 ++ be 6 0 ++ be 4 0x0A000001

/-- A Trasia request of session 0, sequence 5. -/
def request (op count : Nat) (payload : Bytes) : Bytes := trasiaFrame 0 0 op 5 count payload

/-- What its bytes say. -/
def asked (f : Bytes) : Trasia := (parseTrasia f).getD ⟨0, 0, 0, 0, 0, []⟩

/-- A request taken: its number noted. -/
def taken (s : State) (f : Bytes) (m : Trasia) : State :=
  (dequeue f s).updSess m.ses (fun x => { x with lastSeq := some m.seq, kept := none })

/-- A request of session 0 with the frame's flags. -/
def flagged (op flags : Nat) (payload : Bytes) : Bytes := trasiaFrame flags 0 op 5 1 payload

/-- Session 0 may send schedules. -/
def scheduling : State := net.setCfg 0x4100 0x01 1

/-- Session 0 with the sequence of its last request. -/
def numbered (n : Nat) : State := net.updSess 0 (fun x => { x with lastSeq := some n })

/-- The pair link up, in a role. -/
def link (st : Role) : State := { fw with pair := { fw.pair with role := st, link := 3 } }

/-- What a pair frame's bytes say. -/
def pairMsg (f : Bytes) : PairMsg := (parsePair f).getD ⟨0, 0, 0, 0, []⟩

/-- A pair frame of a type. -/
def hello (typ : Nat) (payload : Bytes) : Bytes := pairFrame typ 0 0 10 payload

/-- A raise of instance 0. -/
def raise (code : Nat) : Raise := { code := code, inst := 0, ctx := 0, at_ := 0, data := [], count := 1 }

/-- Part 0 of 8 of manifest 1, of the layout the firmware uses. -/
def part0 : Bytes := le 4 1 ++ [0, 8, 0, 0, 0, 0, 0, 0, 0, 1] ++ List.replicate 4090 0

/-- A standby that has the other seven parts. -/
def parts7 : State :=
  { (link .standby) with
    pair := { (link .standby).pair with
      partsOf := 1, parts := (List.range 7).map (fun i => (i + 1, List.replicate 4096 0)) } }

/-- A container with a tide descriptor. -/
def tide : Bytes :=
  List.replicate 6 0 ++ le 2 2 ++ le 4 85 ++ List.replicate 24 0 ++ le 4 64 ++ le 4 21 ++ List.replicate 20 0 ++
    [0x54, 0x49, 0x44, 0x45] ++ le 2 1 ++ le 2 4 ++ le 2 2240 ++ le 2 200 ++ le 2 10 ++ le 2 200 ++ le 4 0 ++ [0]

/-- Tray 0 sheds, its phases in RUN. -/
def shedding : State :=
  { (fw.updTp 0 (fun y => { y with shedSince := some 0, share := true })) with
    now := 1000000000, phases := List.replicate 16 (List.replicate 8 { Phase.reset with st := .run }) }

/-- Tray 0 waits for its check, its phases in SHED, the bus up, in the active module. -/
def checking : State :=
  { (fw.updTp 0 (fun x => { x with check := some (check []) })) with
    links := upd fw.links 0 (fun l => { l with up := true, vBus := 700 })
    phases := upd fw.phases 0 (fun l => l.map (fun x => { x with st := .shed }))
    trays := upd fw.trays 0 (fun x => { x with pin := true })
    pair := { fw.pair with role := .active } }

/-- An open transaction. -/
def txn0 : Txn :=
  { id := 7, kind := 1, st := 0, session := 0, flags := 0, object := 0, arg := 0, requested := 0, done := 0, count := none, cause := 0
    cycles := 0, opened := 0, closed := 0, seq := 0 }

/-- 32 transactions open. -/
def busy : State :=
  { fw with txn := { fw.txn with recs := (List.range 32).map (fun i => { txn0 with id := i + 1 }) } }

/-- A request whose CRC is wrong. -/
def badRequest : Bytes := (request 1 1 (List.replicate 8 0)).take 12 ++ [1, 0, 0, 0] ++ List.replicate 8 0

/-- The module answers on its link-local address. -/
def net6 : State := { net with port := { net.port with linkLocal := true } }

/-- A Neighbour Solicitation for that address. -/
def solicit : Bytes :=
  be 6 1 ++ be 6 1 ++ be 2 0x86DD ++ [0x60, 0, 0, 0, 0, 24, 58] ++ List.replicate 33 0 ++ [135] ++ List.replicate 7 0 ++
    be 16 net6.eui64

/-! ### Ill-formed commands are refused by the check -/

/-- No session 32, tray 16, phase 8, monitor 16 or cell 192 (Tables 0.1, 14.3). -/
theorem test_wf_instances : Instr.wf (.loopStart 32) = false ∧ Instr.wf (.traySeated 16) = false ∧
    Instr.wf (.deEntry 0 8) = false ∧ Instr.wf (.senseSuspicion 0 16) = false ∧
    Instr.wf (.cellUnreadable 0 192) = false ∧ Instr.wf (.traySeated 15) = true := by decide

/-- No source 33 of schedules, port 2, node 0 or 25, rectifier 48, group 2, partition 64 (Tables 0.3, 9.1). -/
theorem test_wf_power : Instr.wf (.sourceSuspensionEnd 33) = false ∧ Instr.wf (.rectAlert 2 1 []) = false ∧
    Instr.wf (.rectAlert 0 0 []) = false ∧ Instr.wf (.rectAlert 0 25 []) = false ∧
    Instr.wf (.rectSilent 48) = false ∧ Instr.wf (.dipHoldExpiry 2) = false ∧ Instr.wf (.canPortError 2) = false ∧
    Instr.wf (.flightClose 64) = false ∧ Instr.wf (.rectAlert 1 24 []) = true := by decide

/-- No slot 64, core 64, gate 65536 or field past its width. -/
theorem test_wf_grid : Instr.wf (.stageFire 64 0) = false ∧ Instr.wf (.stageFire 0 256) = false ∧
    Instr.wf (.sramUncorrectable 64 0) = false ∧ Instr.wf (.keeperCall 0 256 0 []) = false ∧
    Instr.wf (.keeperCall 0 0 65536 []) = false ∧ Instr.wf (.bargeAckTimeout 256 0 0) = false := by decide

/-- A command about a tray there is not has no effect. -/
theorem test_wf_no_effect : exec (.traySeated 16) fw = .next fw := rfl

/-! ### The number formats -/

/-- CRC-32C of the nine digits, the check value of its definition. -/
theorem test_crc32c : crc32c [0x31, 0x32, 0x33, 0x34, 0x35, 0x36, 0x37, 0x38, 0x39] = 0xE3069283 := by decide +kernel

/-- SHA-256 of "abc" begins BA7816BFh (FIPS 180-4). -/
theorem test_sha256 : (sha256 [0x61, 0x62, 0x63]).take 4 = [0xBA, 0x78, 0x16, 0xBF] := by decide +kernel

/-- 805.0 is 44494000h (chapter 14, worked example). -/
theorem test_f32 : f32Bits 805 = 0x44494000 ∧ f32Val 0x44494000 = 805 := by decide +kernel

/-- The BFP8 renormalisation of chapter 10, normalised mode. -/
theorem test_bfp_normalised : renorm 1 true 0 [33 / 10, -5 / 4, 390625 / 1000000, 2296875 / 1000000] =
    { e := 2, fmt := 1, sat := false, m := [106, -40, 12, 74] } := by decide +kernel

/-- The same values in fixed mode with a declared exponent of 1: the first and the last saturate. -/
theorem test_bfp_fixed : renorm 1 false 1 [33 / 10, -5 / 4, 390625 / 1000000, 2296875 / 1000000] =
    { e := 1, fmt := 1, sat := true, m := [127, -80, 25, 127] } := by decide +kernel

/-! ### The worked examples -/

/-- Tray 5, phase 3 at d = 0.552: slot offset 165,625 steps, edges 89,600 steps to each side (R58). -/
theorem test_edges : slotSteps 3125 5 3 = 165625 ∧
    relEdges 3125 5 3 (halfSteps 3125 { Phase.reset with d := 552 / 1000 }) = (-89600, 89600) := by decide +kernel

/-- 16 trays and +1,800 A: tray 3 is held at 125 A, the others carry 1,675 A ÷ 15 each (R108). -/
theorem test_allocation : (place 17 1800
    ((List.range 16).map fun t => { t := t, w := socFactor 2 (if t = 3 then 7 / 10 else 6 / 10) (60625 / 100000) 1
                                    lD := 125, lC := 125 }) []) =
    (0, (3, 125) :: ((List.range 16).filter (· != 3)).map fun t => (t, (1675 : Rat) / 15)) := by decide +kernel

/-- The default OCV table at 0.10 reads 2.104 V (chapter 06, worked example). -/
theorem test_ocv : ocvAt (fw.cfgU 0x3200 0x16) (1 / 10) = 2104 / 1000 := by decide +kernel

/-- A phase in SHED whose 1,024 samples average 0.184 A, spread 0.09 A: the measurement is accepted (R509). -/
theorem test_offset_accepted :
    calAccepted (1024 * (184 / 1000)) (1024 * ((184 / 1000) ^ 2 + (9 / 100) ^ 2)) = true := by decide +kernel

/-- The request of Table 14.5: session 2 writes V_set. -/
def writeVset : Bytes := trasiaFrame 0 2 2 0x12A 1 (le 2 0x2000 ++ [3, 0] ++ le 8 0x44494000)

/-- Its header and payload stand where Table 14.5 puts them, in 28 bytes. -/
theorem test_write_frame : writeVset.length = 28 ∧
    writeVset.take 12 = [1, 0, 2, 2, 0x2A, 1, 0, 0, 1, 0, 0, 0] ∧
    writeVset.drop 16 = [0, 0x20, 3, 0, 0, 0x40, 0x49, 0x44, 0, 0, 0, 0] := by decide +kernel

/-- The state the frame of Table 14.5 finds: session 2 enabled, its last sequence 129h. -/
def session2 (rights : Nat) : State :=
  (({ fw with
      pair := { fw.pair with role := .active }, port := { fw.port with link := 2 } }.setCfg 0x1102 0x01 1).setCfg
    0x1102 0x06 rights).updSess 2 (fun x => { x with lastSeq := some 0x129 })

/-- V_set becomes 805.0 V, and the reply is a header of 16 bytes with flags 01h and the same sequence. -/
theorem test_write_applies : (match execWrite writeVset (session2 1) with
    | .next t => decide (t.cfgF 0x2000 0x03 = 805) && decide ((t.tx.map fun x => match x with
        | .trasia _ _ f => (f.length, u8At f 1, u32At f 4)
        | _ => (0, 0, 0)) = [(16, 1, 0x12A)])
    | _ => false) = true := by decide +kernel

/-- Without the write right it is one violation, 0002FFFFh, and V_set stays. -/
theorem test_write_refused : (match execWrite writeVset (session2 0) with
    | .next t => decide (t.cfgF 0x2000 0x03 = 800) && decide ((t.session 2).viol = 1) &&
        decide ((t.session 2).violObj = 0x0002FFFF)
    | _ => false) = true := by decide +kernel

/-- The COMMAND of a group at rest: 64 bytes, the ceiling of 900.0 V as E100h from byte 53 (Table 9.3). -/
theorem test_can_command : (commandData fw 0 false).length = 64 ∧ u16At (commandData fw 0 false) 53 = 0xE100 := by
  decide +kernel

/-! ### Premises of the obligations -/


/-- A REPORT of chip 0. -/
def reportFrame : Bytes := List.replicate 20 0 ++ [1] ++ List.replicate 107 0

/-- A PTP message over Ethernet. -/
def ptpFrame : Bytes := be 6 0x011B19000000 ++ be 6 1 ++ be 2 0x88F7 ++ List.replicate 40 0

/-- Tray 0 in the set with its link up, its phases in one state. -/
def half (st : PhSt) : State :=
  { fw with
    links := upd fw.links 0 (fun l => { l with up := true }), alloc := { fw.alloc with set := List.replicate 16 true }
    phases := upd fw.phases 0 (fun l => l.map fun x => { x with st := st }) }

/-- Slot 24 BOUND, its channel one of keeper calls. -/
def callable : State :=
  { (bound none 0) with
    slots := upd (bound none 0).slots 24 fun x =>
      { x with blocks := [(0, (container 0).take 83 ++ [5] ++ (container 0).drop 84)] } }

/-- Tray 0 seated in one state, every tray in the set. -/
def weirTray (st : TraySt) : State :=
  { fw with
    trays := upd fw.trays 0 (fun x => { x with st := st, pin := true, kN := true, kP := true })
    alloc := { fw.alloc with set := List.replicate 16 true } }

/-- The head of a committed manifest. -/
def fullManifest : Bytes := [1] ++ List.replicate 255 0

/-- A manifest part of another layout. -/
def part1 : Bytes := le 4 1 ++ [0, 8, 0, 0] ++ List.replicate 4096 0

/-- The port up, tray 0 seated with its ring whole. -/
def updating : State :=
  (net.updTray 0 (fun x => { x with st := .idle, pin := true })).updTow 0 fun w => { w with ring := .whole }
/-- States and operands that meet the premises of each clause of `Obligations.LoopCommands`. -/
theorem test_witness_LoopCommands :
    (∃ s : State, ∃ ses : Nat, ∃ v : Rat, s.running = true ∧ ses < Config.sessions ∧ s.loop.st = .off ∧
      vBusForCommand s = some v) ∧
    (∃ s : State, ∃ ses : Nat, s.running = true ∧ ses < Config.sessions ∧ s.loop.st = .off ∧
      vBusForCommand s = none) ∧
    (∃ s : State, ∃ ses : Nat, s.running = true ∧ ses < Config.sessions ∧ s.loop.st ≠ .off) ∧
    (∃ s : State, ∃ ses : Nat, ∃ v : Rat, s.running = true ∧ ses < Config.sessions ∧ s.loop.st = .off ∧
      vBusForCommand s = some v ∧ s.cfgF 0x2000 0x2B ≤ v ∧ s.anyCarrying = true) ∧
    (∃ s : State, ∃ ses : Nat, ∃ v : Rat, s.running = true ∧ ses < Config.sessions ∧ s.loop.st = .off ∧
      vBusForCommand s = some v ∧ v < s.cfgF 0x2000 0x2B ∧ s.bothAbsent = true ∧ s.cfgU 0x2000 0x29 < Config.trays ∧
      (s.tray (s.cfgU 0x2000 0x29)).st = .idle) ∧
    (∃ s : State, ∃ ses : Nat, ∃ v : Rat, s.running = true ∧ ses < Config.sessions ∧ s.loop.st = .off ∧
      vBusForCommand s = some v ∧ s.cfgF 0x2000 0x2B ≤ v ∧ s.anyCarrying = false) ∧
    (∃ s : State, ∃ ses : Nat, ∃ v : Rat, s.running = true ∧ ses < Config.sessions ∧ s.loop.st = .off ∧
      vBusForCommand s = some v ∧ v < s.cfgF 0x2000 0x2B ∧
      (s.bothAbsent = false ∨ Config.trays ≤ s.cfgU 0x2000 0x29 ∨ (s.tray (s.cfgU 0x2000 0x29)).st ≠ .idle)) ∧
    (∃ s : State, ∃ ses : Nat, s.running = true ∧ ses < Config.sessions ∧ s.loop.st = .off ∧
      vBusForCommand s = none) ∧
    (∃ s : State, ∃ ses : Nat, s.running = true ∧ ses < Config.sessions ∧ s.loop.st ≠ .off) ∧
    (∃ s : State, ∃ ses : Nat, s.running = true ∧ ses < Config.sessions ∧
      (s.loop.st = .charge ∨ s.loop.st = .soft ∨ s.loop.st = .run ∨ s.loop.st = .hold)) ∧
    (∃ s : State, ∃ ses : Nat, s.running = true ∧ ses < Config.sessions ∧
      (s.loop.st = .off ∨ s.loop.st = .stopping ∨ s.loop.st = .tripped)) ∧
    (∃ s : State, ∃ ses : Nat, s.running = true ∧ ses < Config.sessions ∧ s.loop.st = .tripped) ∧
    (∃ s : State, ∃ ses : Nat, s.running = true ∧ ses < Config.sessions ∧ s.loop.st ≠ .tripped) :=
  ⟨⟨{ fw with loop := { fw.loop with vAt := some 0, vOk := true, vBus := 750 } }, 0, 750, by decide +kernel⟩,
   ⟨fw, 0, by decide +kernel⟩,
   ⟨{ fw with loop := { fw.loop with st := .run } }, 31, by decide +kernel⟩,
   ⟨{ fw with
      loop := { fw.loop with vAt := some 0, vOk := true, vBus := 790 },
      trays := upd fw.trays 0 (fun x => { x with st := .online }) }, 0, 790, by decide +kernel⟩,
   ⟨{ (fw.setCfg 0x2000 0x29 0) with
      loop := { fw.loop with vAt := some 0, vOk := true, vBus := 10 },
      trays := fw.trays.map (fun x => { x with st := .idle }) }, 0, 10, by decide +kernel⟩,
   ⟨{ fw with loop := { fw.loop with vAt := some 7, vOk := true, vBus := 800 } }, 0, 800, by decide +kernel⟩,
   ⟨{ fw with loop := { fw.loop with vAt := some 7, vOk := true, vBus := 0 } }, 0, 0, by decide +kernel⟩,
   ⟨fw, 0, by decide +kernel⟩,
   ⟨{ fw with loop := { fw.loop with st := .run } }, 0, by decide +kernel⟩,
   ⟨{ fw with loop := { fw.loop with st := .hold } }, 0, by decide +kernel⟩,
   ⟨{ fw with loop := { fw.loop with st := .tripped } }, 0, by decide +kernel⟩,
   ⟨{ fw with loop := { fw.loop with st := .tripped } }, 0, by decide +kernel⟩,
   ⟨{ fw with loop := { fw.loop with st := .run } }, 0, by decide +kernel⟩⟩

/-- States and operands that meet the premises of each clause of `Obligations.LoopSupervision`. -/
theorem test_witness_LoopSupervision :
    (∃ s : State, ∃ t : Nat, s.running = true ∧ t < Config.trays ∧ 3 ≤ s.loop.nLeft ∧
      get false s.loop.readOk t = true ∧ 16 ≤ get 0 s.loop.outRun t ∧ s.isExcluded t = false) ∧
    (∃ s : State, ∃ t : Nat, s.running = true ∧ t < Config.trays ∧ s.isExcluded t = true ∧
      1000 ≤ get 0 s.loop.inRun t) ∧
    (∃ s : State, s.running = true ∧ s.loop.st = .hold ∧ 5 ≤ s.loop.holdCount) ∧
    (∃ s : State, s.running = true ∧ 100 < s.loop.clampRun ∧ s.loop.up105 = false) ∧
    (∃ s : State, s.running = true ∧ s.loop.st = .run ∧ s.cfgU 0x2000 0x1D < s.loop.windowRun ∧
      s.loop.up101 = false) ∧
    (∃ s : State, s.running = true ∧ s.loop.st = .run ∧ s.cfgU 0x2000 0x1F < s.loop.farRun ∧ s.loop.up102 = false) ∧
    (∃ s : State, s.running = true ∧ s.loop.st = .soft ∧ s.loop.entry = false ∧ s.loop.vRef = vSet s) ∧
    (∃ s : State, s.running = true ∧ s.loop.st = .stopping ∧ s.loop.iSt = 0) :=
  ⟨⟨{ fw with
      loop := { fw.loop with nLeft := 3, readOk := List.replicate 16 true, outRun := List.replicate 16 16 } }, 15,
      by decide +kernel⟩,
   ⟨{ fw with loop := { fw.loop with excluded := List.replicate 16 true, inRun := List.replicate 16 1000 } }, 0,
      by decide +kernel⟩,
   ⟨{ fw with loop := { fw.loop with st := .hold, holdCount := 5 } }, by decide +kernel⟩,
   ⟨{ fw with loop := { fw.loop with clampRun := 101 } }, by decide +kernel⟩,
   ⟨{ fw with loop := { fw.loop with st := .run, windowRun := 100000 } }, by decide +kernel⟩,
   ⟨{ fw with loop := { fw.loop with st := .run, farRun := 100000 } }, by decide +kernel⟩,
   ⟨{ fw with loop := { fw.loop with st := .soft, vRef := vSet fw } }, by decide +kernel⟩,
   ⟨{ fw with loop := { fw.loop with st := .stopping } }, by decide +kernel⟩⟩

/-- States and operands that meet the premises of each clause of `Obligations.PhaseStates`. -/
theorem test_witness_PhaseStates :
    (∃ s : State, ∃ t p : Nat, s.running = true ∧ t < Config.trays ∧ p < Config.phases ∧ (s.ph t p).st = .run ∧
      2 ≤ (s.ph t p).deCnt) ∧
    (∃ s : State, ∃ t p : Nat, s.running = true ∧ t < Config.trays ∧ p < Config.phases ∧ (s.ph t p).st = .drawing ∧
      (s.ph t p).w ≤ 0 ∧ s.underTest t p = false) ∧
    (∃ s : State, ∃ t p : Nat, s.running = true ∧ t < Config.trays ∧ p < Config.phases ∧ (s.ph t p).st = .restoring ∧
      1 ≤ (s.ph t p).w ∧ s.underTest t p = false) ∧
    (∃ s : State, ∃ t p : Nat, s.running = true ∧ t < Config.trays ∧ p < Config.phases ∧ (s.ph t p).st = .handoff ∧
      (s.ph t p).w ≤ 0) ∧
    (∃ s : State, ∃ t p : Nat, s.running = true ∧ t < Config.trays ∧ drawAllowed s t = true ∧ drawNext s t = some p) ∧
    (∃ s : State, s.running = true ∧ s.edge.lockUntil ≠ 0 ∧ s.edge.lockUntil ≤ s.now) ∧
    (∃ s : State, ∃ t p a : Nat, s.running = true ∧ t < Config.trays ∧ p < Config.phases ∧
      (s.ph t p).trimSince = some a ∧ a + ms < s.now ∧ (s.ph t p).up202 = false ∧ (s.ph t p).frozen = false) :=
  ⟨⟨fw.updPh 0 0 (fun x => { x with st := .run, deCnt := 2 }), 0, 0, by decide +kernel⟩,
   ⟨fw.updPh 0 0 (fun x => { x with st := .drawing, w := 0 }), 0, 0, by decide +kernel⟩,
   ⟨fw.updPh 0 0 (fun x => { x with st := .restoring, w := 1 }), 0, 0, by decide +kernel⟩,
   ⟨fw.updPh 0 0 (fun x => { x with st := .handoff, w := 0 }), 0, 0, by decide +kernel⟩,
   ⟨shedding, 0, 7, by decide +kernel⟩,
   ⟨{ fw with now := 5, edge := { fw.edge with lockUntil := 5 } }, by decide +kernel⟩,
   ⟨{ (fw.updPh 0 0 (fun x => { x with trimSince := some 0 })) with now := 1000001 }, 0, 0, 0, by decide +kernel⟩⟩

/-- States and operands that meet the premises of each clause of `Obligations.PhaseFaults`. -/
theorem test_witness_PhaseFaults :
    (∃ s : State, ∃ t p : Nat, s.running = true ∧ t < Config.trays ∧ p < Config.phases ∧ 8 ≤ (s.ph t p).openCnt ∧
      (s.ph t p).canHandOff = true) ∧
    (∃ s : State, ∃ t p : Nat, s.running = true ∧ t < Config.trays ∧ p < Config.phases ∧ 8 ≤ (s.ph t p).senseCnt ∧
      (s.ph t p).st.carry = true) ∧
    (∃ s : State, ∃ t : Nat, s.running = true ∧ t < Config.trays ∧ 8 ≤ (s.tp t).mismatch ∧ (s.tp t).ident = none ∧
      (s.tp t).sumOff = false) ∧
    (∃ s : State, ∃ t : Nat, ∃ d : Ident, s.running = true ∧ t < Config.trays ∧ (s.tp t).ident = some d ∧
      s.nPh t ≤ d.p ∧ d.found = false ∧ d.passed = false) ∧
    (∃ s : State, ∃ t : Nat, ∃ d : Ident, s.running = true ∧ t < Config.trays ∧ (s.tp t).ident = some d ∧
      s.nPh t ≤ d.p ∧ (d.found = true ∨ d.passed = true)) ∧
    (∃ s : State, ∃ t p : Nat, s.running = true ∧ t < Config.trays ∧ p < Config.phases ∧ (s.link t).up = true) ∧
    (∃ s : State, ∃ t p : Nat, s.running = true ∧ t < Config.trays ∧ p < Config.phases ∧ (s.link t).up = false) ∧
    (∃ s : State, ∃ t p : Nat, s.running = true ∧ t < Config.trays ∧ p < Config.phases ∧ 0 < p ∧
      (s.link t).up = true ∧ (s.tp t).testRef = none ∧ (s.tp t).testEnd = false ∧ s.inSet t = true ∧
      s.underTest t p = false ∧ (s.ph t p).st = .run ∧ (s.ph t p).deCnt < 2 ∧ (s.ph t p).openCnt < 8 ∧
      (s.ph t p).senseCnt < 8) ∧
    (∃ s : State, ∃ t : Nat, s.running = true ∧ t < Config.trays ∧ (s.link t).up = true ∧ (s.tp t).testRef = none ∧
      (s.tp t).testEnd = false ∧ s.inSet t = true ∧ ((s.ph t 0).st = .off ∨ (s.ph t 0).st = .run ∧
      (s.ph t 0).deCnt < 2 ∧ (s.ph t 0).openCnt < 8 ∧ (s.ph t 0).senseCnt < 8) ∧
      meanSet (s.updPh t 0 (s.sees t 0)) t ≠ []) ∧
    (∃ s : State, ∃ t p : Nat, s.running = true ∧ t < Config.trays ∧ p < Config.phases ∧ 0 < p ∧
      (s.link t).up = true ∧ (s.tp t).testRef = none ∧ (s.tp t).testEnd = false ∧ s.inSet t = true ∧
      (s.ph t p).st = .de ∧ (s.ph t p).drawn = false ∧ (s.ph t p).openCnt < 8) :=
  ⟨⟨fw.updPh 0 0 (fun x => { x with st := .run, openCnt := 8 }), 0, 0, by decide +kernel⟩,
   ⟨fw.updPh 0 0 (fun x => { x with st := .run, senseCnt := 8 }), 0, 0, by decide +kernel⟩,
   ⟨fw.updTp 0 (fun x => { x with mismatch := 8 }), 0, by decide +kernel⟩,
   ⟨fw.updTp 0 (fun x => { x with ident := some ⟨8, 0, 0, false, false⟩ }), 0, ⟨8, 0, 0, false, false⟩,
      by decide +kernel⟩,
   ⟨fw.updTp 0 (fun x => { x with ident := some ⟨8, 0, 0, true, false⟩ }), 0, ⟨8, 0, 0, true, false⟩,
      by decide +kernel⟩,
   ⟨fw.updLink 0 (fun x => { x with up := true }), 0, 7, by decide +kernel⟩,
   ⟨fw, 15, 0, by decide +kernel⟩,
   ⟨half .run, 0, 1, by decide +kernel⟩,
   ⟨half .run, 0, by decide +kernel⟩,
   ⟨half .de, 0, 1, by decide +kernel⟩⟩

/-- States and operands that meet the premises of each clause of `Obligations.PhaseService`. -/
theorem test_witness_PhaseService :
    (∃ s : State, ∃ ses t p : Nat, s.running = true ∧ ses < Config.sessions ∧ t < Config.trays ∧ p < Config.phases ∧
      (s.ph t p).svc = false) ∧
    (∃ s : State, ∃ ses t p : Nat, s.running = true ∧ ses < Config.sessions ∧ t < Config.trays ∧ p < Config.phases ∧
      p < s.nPh t ∧ (s.ph t p).svc = true ∧
      ((s.ph t p).st = .off ∨ (s.ph t p).st = .shed ∨ (s.ph t p).st = .check ∨ (s.ph t p).st = .fault)) ∧
    (∃ s : State, ∃ ses t p : Nat, s.running = true ∧ ses < Config.sessions ∧ t < Config.trays ∧ p < Config.phases ∧
      p < s.nPh t ∧ (s.ph t p).svc = true ∧ (s.ph t p).st = .drawing) ∧
    (∃ s : State, ∃ ses t p : Nat, s.running = true ∧ ses < Config.sessions ∧ t < Config.trays ∧ p < Config.phases ∧
      p < s.nPh t ∧ (s.ph t p).svc = true ∧ (s.ph t p).st = .handoff) ∧
    (∃ s : State, ∃ ses t p : Nat, s.running = true ∧ ses < Config.sessions ∧ t < Config.trays ∧ p < Config.phases ∧
      p < s.nPh t ∧ (s.ph t p).svc = true ∧ (s.ph t p).st = .linkLost) ∧
    (∃ s : State, ∃ ses t p : Nat, s.running = true ∧ ses < Config.sessions ∧ t < Config.trays ∧ p < Config.phases ∧
      p < s.nPh t ∧ (s.ph t p).svc = true ∧
      ((s.ph t p).st = .run ∨ (s.ph t p).st = .de ∨ (s.ph t p).st = .restoring ∨ (s.ph t p).st = .snub)) ∧
    (∃ s : State, ∃ ses t p : Nat, s.running = true ∧ ses < Config.sessions ∧ t < Config.trays ∧ p < Config.phases ∧
      (s.ph t p).svc = true ∧ (s.ph t p).st ≠ .off ∧ (s.ph t p).st ≠ .fault) ∧
    (∃ s : State, ∃ ses t p : Nat, s.running = true ∧ ses < Config.sessions ∧ t < Config.trays ∧ p < Config.phases ∧
      p < s.nPh t ∧ ((s.ph t p).svc = false ∨ (s.ph t p).st = .off ∨ (s.ph t p).st = .fault)) ∧
    (∃ s : State, ∃ t : Nat, ∃ c : Check, s.running = true ∧ t < Config.trays ∧ (s.tp t).check = some c ∧
      c.started = false ∧ checkAllowed s t c = true ∧ coveredPhases s t ≠ []) ∧
    (∃ s : State, ∃ t : Nat, ∃ c : Check, ∃ p : Nat, ∃ rest : List Nat, s.running = true ∧ t < Config.trays ∧
      (s.tp t).check = some c ∧ c.todo = p :: rest ∧ c.started = true ∧ c.tb = none ∧ c.retry = false ∧
      c.due ≤ s.now ∧ kindAllowed s t .probe = true ∧ (c.blackStart = true ∨ (s.ph t p).vSw ≤ (s.link t).vBus / 2)) ∧
    (∃ s : State, ∃ t : Nat, ∃ c : Check, ∃ p : Nat, ∃ rest : List Nat, s.running = true ∧ t < Config.trays ∧
      (s.tp t).check = some c ∧ c.todo = p :: rest ∧ c.started = true ∧ c.tb = none ∧ c.retry = false ∧
      c.due ≤ s.now ∧ kindAllowed s t .probe = true ∧ c.blackStart = false ∧ (s.link t).vBus / 2 < (s.ph t p).vSw) ∧
    (∃ s : State, ∃ t : Nat, ∃ c : Check, ∃ p : Nat, ∃ rest : List Nat, s.running = true ∧ t < Config.trays ∧
      (s.tp t).check = some c ∧ c.todo = p :: rest ∧ c.started = true ∧ c.retry = true ∧ c.due ≤ s.now ∧
      kindAllowed s t .probe = true) ∧
    (∃ s : State, ∃ t : Nat, s.running = true ∧ t < Config.trays ∧ kindAllowed s t .probe = false) :=
  ⟨⟨fw.updPh 0 0 (fun x => { x with svc := false }), 0, 0, 0, by decide +kernel⟩,
   ⟨fw.updPh 0 0 (fun x => { x with svc := true }), 0, 0, 0, by decide +kernel⟩,
   ⟨fw.updPh 0 0 (fun x => { x with svc := true, st := .drawing }), 0, 0, 0, by decide +kernel⟩,
   ⟨fw.updPh 0 0 (fun x => { x with svc := true, st := .handoff }), 0, 0, 0, by decide +kernel⟩,
   ⟨fw.updPh 0 0 (fun x => { x with svc := true, st := .linkLost }), 0, 0, 0, by decide +kernel⟩,
   ⟨fw.updPh 0 0 (fun x => { x with svc := true, st := .snub }), 0, 0, 0, by decide +kernel⟩,
   ⟨fw.updPh 0 0 (fun x => { x with svc := true, st := .run }), 0, 0, 0, by decide +kernel⟩,
   ⟨fw.updPh 0 0 (fun x => { x with svc := true, st := .fault }), 0, 0, 0, by decide +kernel⟩,
   ⟨checking, 0, check [], by decide +kernel⟩,
   ⟨(fw.updTp 0 (fun x => { x with
      check := some { check [3] with
      started := true, blackStart := true } })).updTray 0 (fun x => { x with pin := true }), 0,
      { check [3] with started := true, blackStart := true }, 3, [], by decide +kernel⟩,
   ⟨({ (fw.updTp 0 (fun x => { x with
      check := some { check [3] with
      started := true } })) with
      phases := upd fw.phases 0 (fun l => upd l 3 (fun x => { x with
      vSw := 1 })) }).updTray 0 (fun x => { x with pin := true }), 0, { check [3] with started := true }, 3, [],
      by decide +kernel⟩,
   ⟨(fw.updTp 0 (fun x => { x with
      check := some { check [3] with
      started := true, retry := true } })).updTray 0 (fun x => { x with pin := true }), 0,
      { check [3] with started := true, retry := true }, 3, [], by decide +kernel⟩,
   ⟨fw, 0, by decide +kernel⟩⟩

/-- States and operands that meet the premises of each clause of `Obligations.LateCommands`. -/
theorem test_witness_LateCommands : ∃ s : State, ∃ t p n : Nat, s.running = true ∧ t < Config.trays ∧
      p < Config.phases ∧ n < (s.ph t p).cmdAt :=
  ⟨fw.updPh 0 0 (fun x => { x with cmdAt := 7 }), 0, 0, 6, by decide +kernel⟩

/-- States and operands that meet the premises of each clause of `Obligations.LatePeriods`. -/
theorem test_witness_LatePeriods :
    (∃ s : State, ∃ d : Nat, s.running = true ∧ d ≤ 900) ∧
    (∃ s : State, ∃ d : Nat, s.running = true ∧ 900 < d) :=
  ⟨⟨fw, 900, by decide +kernel⟩,
   ⟨fw, 901, by decide +kernel⟩⟩

/-- States and operands that meet the premises of each clause of `Obligations.LinkFrames`. -/
theorem test_witness_LinkFrames :
    (∃ s : State, ∃ t : Nat, ∃ f d : Bytes, s.running = true ∧ t < Config.trays ∧ parsePaddle t f = some (0x81, d)) ∧
    (∃ s : State, ∃ t : Nat, ∃ f : Bytes, s.running = true ∧ t < Config.trays ∧ parsePaddle t f = none) ∧
    (∃ s : State, ∃ t : Nat, ∃ f : Bytes, ∃ k : Nat, ∃ d : Bytes, s.running = true ∧ t < Config.trays ∧
      parsePaddle t f = some (k, d) ∧ (k < 0x81 ∨ 0x84 < k)) ∧
    (∃ s : State, ∃ t : Nat, ∃ f d : Bytes, s.running = true ∧ t < Config.trays ∧ parsePaddle t f = some (0x82, d) ∧
      (s.tp t).check = none) ∧
    (∃ s : State, ∃ t : Nat, ∃ f d : Bytes, s.running = true ∧ t < Config.trays ∧ parsePaddle t f = some (0x83, d) ∧
      u16At d 2 = 0) ∧
    (∃ s : State, ∃ t : Nat, ∃ f d : Bytes, s.running = true ∧ t < Config.trays ∧ parsePaddle t f = some (0x83, d) ∧
      u16At d 2 ≠ 0) ∧
    (∃ s : State, ∃ t : Nat, ∃ f d : Bytes, s.running = true ∧ t < Config.trays ∧ parsePaddle t f = some (0x84, d) ∧
      u8At d 10 ≠ 0 ∧ s.loop.st ≠ .off) ∧
    (∃ s : State, ∃ t : Nat, ∃ f d : Bytes, s.running = true ∧ t < Config.trays ∧ parsePaddle t f = some (0x84, d) ∧
      u8At d 10 = 0) ∧
    (∃ s : State, ∃ t : Nat, ∃ f d : Bytes, ∃ p : Nat, s.running = true ∧ t < Config.trays ∧ p < s.nPh t ∧
      parsePaddle t f = some (0x84, d) ∧ bit (u8At d 8) p = true) :=
  ⟨⟨fw, 0, paddleFrame 0x81 0 0 (List.replicate 16 0), List.replicate 16 0, by decide +kernel⟩,
   ⟨fw, 0, [], by decide +kernel⟩,
   ⟨fw, 0, paddleFrame 0x85 0 0 (List.replicate 16 1), 0x85, List.replicate 16 1, by decide +kernel⟩,
   ⟨fw, 0, paddleFrame 0x82 0 0 (List.replicate 40 0), List.replicate 40 0, by decide +kernel⟩,
   ⟨fw, 0, paddleFrame 0x83 0 0 (List.replicate 8 0), List.replicate 8 0, by decide +kernel⟩,
   ⟨fw, 0, paddleFrame 0x83 0 0 (List.replicate 8 1), List.replicate 8 1, by decide +kernel⟩,
   ⟨{ fw with loop := { fw.loop with st := .run } }, 0, paddleFrame 0x84 0 0 (List.replicate 16 1),
      List.replicate 16 1, by decide +kernel⟩,
   ⟨fw, 0, paddleFrame 0x84 0 0 (List.replicate 16 0), List.replicate 16 0, by decide +kernel⟩,
   ⟨fw, 0, paddleFrame 0x84 0 0 (List.replicate 16 1), List.replicate 16 1, 0, by decide +kernel⟩⟩

/-- States and operands that meet the premises of each clause of `Obligations.LinkStates`. -/
theorem test_witness_LinkStates :
    (∃ s : State, ∃ t : Nat, s.running = true ∧ t < Config.trays ∧ (s.link t).up = true) ∧
    (∃ s : State, ∃ t : Nat, s.running = true ∧ t < Config.trays ∧ (s.link t).up = false) ∧
    (∃ s : State, ∃ t : Nat, s.running = true ∧ t < Config.trays) ∧
    (∃ s : State, ∃ t : Nat, s.running = true ∧ t < Config.trays ∧ (s.link t).up = true ∧
      (s.link t).oneLane = false) ∧
    (∃ s : State, ∃ t : Nat, s.running = true ∧ t < Config.trays) ∧
    (∃ s : State, ∃ t : Nat, s.running = true ∧ t < Config.trays ∧ (s.link t).up = true) ∧
    (∃ s : State, ∃ t a : Nat, s.running = true ∧ t < Config.trays ∧ (s.link t).lostAt = some a ∧
      (s.link t).fallAt = none ∧ a + 5 * ms ≤ s.now) ∧
    (∃ s : State, ∃ t : Nat, s.running = true ∧ t < Config.trays ∧ (s.link t).up = false) :=
  ⟨⟨fw.updLink 0 (fun x => { x with up := true }), 0, by decide +kernel⟩,
   ⟨fw, 0, by decide +kernel⟩,
   ⟨fw, 0, by decide +kernel⟩,
   ⟨fw.updLink 0 (fun x => { x with up := true }), 0, by decide +kernel⟩,
   ⟨fw, 0, by decide +kernel⟩,
   ⟨fw.updLink 0 (fun x => { x with up := true }), 0, by decide +kernel⟩,
   ⟨{ (fw.updLink 0 (fun x => { x with lostAt := some 0 })) with now := 5000000 }, 0, 0, by decide +kernel⟩,
   ⟨fw, 0, by decide +kernel⟩⟩

/-- States and operands that meet the premises of each clause of `Obligations.TrayCommands`. -/
theorem test_witness_TrayCommands :
    (∃ s : State, ∃ ses t : Nat, s.running = true ∧ ses < Config.sessions ∧ t < Config.trays ∧
      insertAllowed s t = true) ∧
    (∃ s : State, ∃ ses t : Nat, s.running = true ∧ ses < Config.sessions ∧ t < Config.trays ∧
      insertAllowed s t = false) ∧
    (∃ s : State, ∃ ses t : Nat, s.running = true ∧ ses < Config.sessions ∧ t < Config.trays ∧
      drainAllowed s t = true) ∧
    (∃ s : State, ∃ ses t : Nat, s.running = true ∧ ses < Config.sessions ∧ t < Config.trays ∧
      drainAllowed s t = false) ∧
    (∃ s : State, ∃ ses t : Nat, s.running = true ∧ ses < Config.sessions ∧ t < Config.trays ∧
      slackConditions s t = true) ∧
    (∃ s : State, ∃ ses t : Nat, s.running = true ∧ ses < Config.sessions ∧ t < Config.trays ∧
      slackConditions s t = false) ∧
    (∃ s : State, ∃ ses t : Nat, s.running = true ∧ ses < Config.sessions ∧ t < Config.trays ∧
      (s.tray t).st = .slack ∧ s.alloc.slackTray = some t) ∧
    (∃ s : State, ∃ ses t : Nat, s.running = true ∧ ses < Config.sessions ∧ t < Config.trays ∧
      (s.tray t).st ≠ .slack) ∧
    (∃ s : State, ∃ ses t : Nat, s.running = true ∧ ses < Config.sessions ∧ t < Config.trays ∧
      (s.tray t).st = .fault ∧ causeGone s t = true) ∧
    (∃ s : State, ∃ ses t : Nat, s.running = true ∧ ses < Config.sessions ∧ t < Config.trays ∧
      ((s.tray t).st ≠ .fault ∨ causeGone s t = false)) :=
  ⟨⟨fw.updTray 0 (fun x => { x with st := .idle, pin := true }), 0, 0, by decide +kernel⟩,
   ⟨fw, 0, 0, by decide +kernel⟩,
   ⟨fw.updTray 0 (fun x => { x with st := .online }), 0, 0, by decide +kernel⟩,
   ⟨fw, 0, 0, by decide +kernel⟩,
   ⟨slack, 0, 0, by decide +kernel⟩,
   ⟨fw, 0, 0, by decide +kernel⟩,
   ⟨{ (fw.updTray 0 (fun x => { x with st := .slack })) with alloc := { fw.alloc with slackTray := some 0 } }, 0, 0,
      by decide +kernel⟩,
   ⟨fw, 0, 0, by decide +kernel⟩,
   ⟨fw.updTray 0 (fun x => { x with st := .fault }), 0, 0, by decide +kernel⟩,
   ⟨fw.updTray 0 (fun x => { x with st := .fault, cause := 0x0304 }), 0, 0, by decide +kernel⟩⟩

/-- States and operands that meet the premises of each clause of `Obligations.TrayEntry`. -/
theorem test_witness_TrayEntry :
    (∃ s : State, ∃ t : Nat, s.running = true ∧ t < Config.trays ∧ (s.tray t).st = .absent ∧ (s.link t).up = true ∧
      (s.tray t).pin = true ∧ (s.tray t).pinSince + 100 * ms ≤ s.now) ∧
    (∃ s : State, ∃ t : Nat, s.running = true ∧ t < Config.trays ∧ (s.tray t).st = .precharge ∧
      (s.tray t).kN = true ∧ s.linkFresh t = true ∧ trackingFails s t = true) ∧
    (∃ s : State, ∃ t a : Nat, s.running = true ∧ t < Config.trays ∧ (s.tray t).st = .precharge ∧
      (s.tray t).critSince = some a ∧ (s.tray t).kN = true ∧ s.linkFresh t = true ∧ a + ms ≤ s.now ∧
      (s.tray t).blackStart = false) ∧
    (∃ s : State, ∃ t : Nat, s.running = true ∧ t < Config.trays ∧ (s.tray t).test = none ∧ (s.link t).up = true ∧
      (s.tray t).st = .closing ∧ (s.tray t).closeAt + s.cfgU (0x3000 + t) 0x15 * ms ≤ s.now) ∧
    (∃ s : State, ∃ t : Nat, s.running = true ∧ t < Config.trays ∧ (s.tray t).test = some .closing ∧
      (s.tray t).testAt + ms ≤ s.now ∧ (s.link t).vLink - (s.tray t).testV < s.cfgF (0x3000 + t) 0x18) ∧
    (∃ s : State, ∃ t : Nat, s.running = true ∧ t < Config.trays ∧ (s.tray t).test = some .closing ∧
      (s.tray t).testAt + ms ≤ s.now ∧ s.cfgF (0x3000 + t) 0x18 ≤ (s.link t).vLink - (s.tray t).testV) ∧
    (∃ s : State, ∃ t : Nat, s.running = true ∧ t < Config.trays ∧ (s.tray t).st = .admitting ∧ (s.tray t).a = 1) :=
  ⟨⟨at_ ((fw.updTray 0 (fun x => { x with pin := true })).updLink 0 (fun l => { l with up := true })) 100000000, 0,
      by decide +kernel⟩,
   ⟨(at_ (fw.updTray 0 (fun x => { x with
      st := .precharge, kN := true })) (10 ^ 12)).updLink 0 (fun l => { l with up := true, statusAt := 5 }), 0,
      by decide +kernel⟩,
   ⟨(at_ (fw.updTray 0 (fun x => { x with
      st := .precharge, kN := true,
      critSince := some 0 })) 1000000).updLink 0 (fun l => { l with up := true, statusAt := 5 }), 0, 0,
      by decide +kernel⟩,
   ⟨at_ ((fw.updTray 0 (fun x => { x with st := .closing })).updLink 0 (fun l => { l with up := true })) 100000000,
      0, by decide +kernel⟩,
   ⟨at_ (fw.updTray 0 (fun x => { x with st := .closing, test := some .closing })) 1000000, 0, by decide +kernel⟩,
   ⟨at_ ((fw.updTray 0 (fun x => { x with
      st := .closing, test := some .closing })).updLink 0 (fun l => { l with vLink := 1000 })) 1000000, 0,
      by decide +kernel⟩,
   ⟨fw.updTray 0 (fun x => { x with st := .admitting, a := 1 }), 0, by decide +kernel⟩⟩

/-- States and operands that meet the premises of each clause of `Obligations.TrayExit`. -/
theorem test_witness_TrayExit :
    (∃ s : State, ∃ t : Nat, s.running = true ∧ t < Config.trays ∧ (s.tray t).ramp = some (0, 0) ∧
      (s.tray t).st = .slack ∧ (s.tray t).slack = .rampDown) ∧
    (∃ s : State, ∃ t : Nat, s.running = true ∧ t < Config.trays ∧ (s.tray t).ramp = some (0, 0) ∧
      (s.tray t).st = .drain ∧ (s.tray t).leftAt = none) ∧
    (∃ s : State, ∃ t a : Nat, s.running = true ∧ t < Config.trays ∧ (s.tray t).st = .drain ∧
      (s.tray t).leftAt = some a ∧ a + 100 * ms ≤ s.now ∧ atZero s t = false) ∧
    (∃ s : State, ∃ t a : Nat, s.running = true ∧ t < Config.trays ∧ (s.tray t).st = .opening ∧
      (s.tray t).openSince = some a ∧ a + s.cfgU (0x3000 + t) 0x16 * 1000 ≤ s.now ∧ (s.tray t).cause ≠ 0) ∧
    (∃ s : State, ∃ t a : Nat, s.running = true ∧ t < Config.trays ∧ (s.tray t).st = .opening ∧
      (s.tray t).openSince = some a ∧ a + s.cfgU (0x3000 + t) 0x16 * 1000 ≤ s.now ∧ (s.tray t).cause = 0) ∧
    (∃ s : State, ∃ t : Nat, s.running = true ∧ slackCandidate s = some t ∧ s.cfgU 0x3010 0x06 = 1 ∧
      slackConditions s t = true) ∧
    (∃ s : State, ∃ t a : Nat, s.running = true ∧ s.alloc.slackTray = some t ∧ (s.tray t).slack = .resting a ∧
      a + s.cfgU 0x3010 0x07 * sec ≤ s.now) ∧
    (∃ s : State, ∃ a : Nat, s.running = true ∧ s.alloc.urgentSince = some a ∧ a + ms ≤ s.now) ∧
    (∃ s : State, ∃ t : Nat, s.running = true ∧ t < Config.trays ∧ (s.tray t).pin = true ∧
      ((s.tray t).st = .absent ∨ (s.tray t).st = .pulled)) ∧
    (∃ s : State, ∃ t : Nat, s.running = true ∧ t < Config.trays ∧ (s.tray t).pin = true ∧ (s.tray t).st ≠ .absent ∧
      (s.tray t).st ≠ .pulled ∧ (s.tray t).seatLostAt = none ∧ (s.tray t).pulls = true) ∧
    (∃ s : State, ∃ t : Nat, s.running = true ∧ t < Config.trays ∧ (s.tray t).pin = true ∧ (s.tray t).st ≠ .absent ∧
      (s.tray t).st ≠ .pulled ∧ (s.tray t).seatLostAt = none ∧ (s.tray t).pulls = false) ∧
    (∃ s : State, ∃ t a : Nat, s.running = true ∧ t < Config.trays ∧ (s.tray t).pin = true ∧
      (s.tray t).st ≠ .absent ∧ (s.tray t).st ≠ .pulled ∧ (s.tray t).seatLostAt = some a ∧
      (s.tray t).lostInSet = true ∧ s.now ≤ a + 10 * ms) ∧
    (∃ s : State, ∃ t : Nat, s.running = true ∧ t < Config.trays ∧ (s.tray t).pin = false ∧ (s.tow t).ring = .down) ∧
    (∃ s : State, ∃ t : Nat, s.running = true ∧ t < Config.trays ∧ (s.tray t).pin = false ∧ (s.tow t).ring ≠ .down) ∧
    (∃ s : State, ∃ t : Nat, s.running = true ∧ t < Config.trays ∧ (s.tray t).pin = true ∧
      (s.tray t).pinBlocked = true ∧ (s.tray t).pinSince + 100 * ms ≤ s.now) ∧
    (∃ s : State, ∃ t a : Nat, s.running = true ∧ t < Config.trays ∧ (s.tray t).seatLostAt = some a ∧
      (s.link t).up = false ∧ (s.tray t).pin = true ∧ a + sec ≤ s.now ∧ (s.tray t).st ≠ .absent ∧
      (s.tray t).st ≠ .pulled) :=
  ⟨⟨fw.updTray 0 (fun x => { x with st := .slack, slack := .rampDown, ramp := some (0, 0) }), 0, by decide +kernel⟩,
   ⟨fw.updTray 0 (fun x => { x with st := .drain, ramp := some (0, 0) }), 0, by decide +kernel⟩,
   ⟨at_ ((fw.updTray 0 (fun x => { x with
      st := .drain, leftAt := some 0 })).updPh 0 0 (fun x => { x with i := 3 })) 100000000, 0, 0, by decide +kernel⟩,
   ⟨at_ (fw.updTray 0 (fun x => { x with st := .opening, openSince := some 0, cause := 0x0301 })) (10 ^ 12), 0, 0,
      by decide +kernel⟩,
   ⟨at_ (fw.updTray 0 (fun x => { x with st := .opening, openSince := some 0 })) (10 ^ 12), 0, 0, by decide +kernel⟩,
   ⟨slack.setCfg 0x3010 0x06 1, 0, by decide +kernel⟩,
   ⟨at_ { (fw.updTray 0 (fun x => { x with
      st := .slack, slack := .resting 0 })) with alloc := { fw.alloc with slackTray := some 0 } } (10 ^ 14), 0, 0,
      by decide +kernel⟩,
   ⟨at_ ({ fw with alloc := { fw.alloc with urgentSince := some 0 } }) 1000000, 0, by decide +kernel⟩,
   ⟨fw.updTray 0 (fun x => { x with pin := true }), 0, by decide +kernel⟩,
   ⟨fw.updTray 0 (fun x => { x with st := .online, pin := true, kP := true }), 0, by decide +kernel⟩,
   ⟨fw.updTray 0 (fun x => { x with st := .idle, pin := true }), 0, by decide +kernel⟩,
   ⟨fw.updTray 0 (fun x => { x with st := .idle, pin := true, seatLostAt := some 0, lostInSet := true }), 0, 0,
      by decide +kernel⟩,
   ⟨fw, 0, by decide +kernel⟩,
   ⟨fw.updTow 0 (fun x => { x with ring := .whole }), 0, by decide +kernel⟩,
   ⟨at_ (fw.updTray 0 (fun x => { x with pin := true, pinBlocked := true })) (10 ^ 12), 0, by decide +kernel⟩,
   ⟨at_ (fw.updTray 0 (fun x => { x with st := .online, pin := true, seatLostAt := some 0 })) 1000000000, 0, 0,
      by decide +kernel⟩⟩

/-- States and operands that meet the premises of each clause of `Obligations.TowCycle`. -/
theorem test_witness_TowCycle :
    (∃ s : State, s.running = true ∧ s.now % ms = 0) ∧
    (∃ s : State, s.running = true ∧ s.now % ms ≠ 0) ∧
    (∃ s : State, ∃ t : Nat, ∃ f : Bytes, ∃ south : Bool, ∃ hop status : Nat, ∃ d : Bytes, s.running = true ∧
      t < Config.trays ∧ parseReply f = some (0, south, hop, status, d) ∧ hop ≠ 0 ∧ hop ≤ s.nMon t ∧
      (s.tow t).cyc = .sweep ∧ (s.tow t).ring ≠ .down) ∧
    (∃ s : State, ∃ t : Nat, s.running = true ∧ t < Config.trays ∧ (s.tow t).cyc = .sweep ∧ sweepReached s t = true ∧
      (s.tow t).full = true ∧ (s.tow t).ring = .whole ∧ (s.tow t).cycleAt + sweepEnd (s.nMon t) ≤ s.now) ∧
    (∃ s : State, ∃ t : Nat, s.running = true ∧ t < Config.trays ∧ (s.tow t).cyc = .sweep ∧ sweepReached s t = true ∧
      (s.tow t).full = true ∧ (s.tow t).ring ≠ .whole ∧ (s.tow t).cycleAt + sweepEnd (s.nMon t) ≤ s.now) ∧
    (∃ s : State, ∃ t : Nat, s.running = true ∧ t < Config.trays ∧ (s.tow t).cyc = .plaus ∧ (s.tow t).full = true ∧
      (s.tow t).cycleAt + plausEnd (s.nMon t) ≤ s.now) ∧
    (∃ s : State, ∃ t : Nat, s.running = true ∧ t < Config.trays ∧ (s.tow t).cyc = .compared ∧
      (s.tow t).cycleAt + 860000 ≤ s.now) ∧
    (∃ s : State, ∃ t : Nat, s.running = true ∧ t < Config.trays ∧ (s.tow t).cyc = .sweep ∧
      sweepReached s t = false ∧ (s.tow t).full = true ∧
      (s.tow t).cycleAt + sweepEnd (s.nMon t) - 1000 + 40000 ≤ s.now) ∧
    (∃ s : State, ∃ t : Nat, s.running = true ∧ t < Config.trays ∧ (s.tow t).cyc = .recovery ∧
      (s.tow t).sampleS + 20000 + (s.nMon t - farthestNorth (s.tow t) - 1) * 26000 + 25000 ≤ s.now) ∧
    (∃ s : State, ∃ t : Nat, s.running = true ∧ t < Config.trays ∧ 3 ≤ (s.tow t).probeCount ∧
      (s.tow t).ring ≠ .down) :=
  ⟨⟨fw, by decide +kernel⟩,
   ⟨at_ fw 7, by decide +kernel⟩,
   ⟨(fw.updTow 0 (fun x => { x with cyc := .sweep, ring := .whole })).setCfg 0x3100 0x02 4, 0, towReply 0, false, 1,
      0, List.replicate 18 0, by decide +kernel⟩,
   ⟨at_ ((fw.updTow 0 (fun x => { x with
      cyc := .sweep, full := true, ring := .whole, replies := [(2, false, [])] })).setCfg 0x3100 0x02 2) 1000000, 0,
      by decide +kernel⟩,
   ⟨at_ ((fw.updTow 0 (fun x => { x with
      cyc := .sweep, full := true, ring := .broken, replies := [(2, false, [])] })).setCfg 0x3100 0x02 2) 1000000,
      0, by decide +kernel⟩,
   ⟨at_ ((fw.updTow 0 (fun x => { x with cyc := .plaus, full := true })).setCfg 0x3100 0x02 2) 1000000, 0,
      by decide +kernel⟩,
   ⟨at_ (fw.updTow 0 (fun x => { x with cyc := .compared })) 860000, 0, by decide +kernel⟩,
   ⟨at_ ((fw.updTow 0 (fun x => { x with
      cyc := .sweep, full := true, ring := .whole })).setCfg 0x3100 0x02 2) 1000000, 0, by decide +kernel⟩,
   ⟨at_ ((fw.updTow 0 (fun x => { x with cyc := .recovery, ring := .whole })).setCfg 0x3100 0x02 2) 1000000, 0,
      by decide +kernel⟩,
   ⟨fw.updTow 0 (fun x => { x with probeCount := 3, ring := .broken }), 0, by decide +kernel⟩⟩

/-- States and operands that meet the premises of each clause of `Obligations.TowCells`. -/
theorem test_witness_TowCells :
    (∃ s : State, ∃ t m : Nat, s.running = true ∧ t < Config.trays ∧ m < Config.monitors ∧
      (suspectCells (s.tow t) m ≠ 0 ∨ 5 ≤ get 0 (s.tow t).monRun m) ∧
      (s.tow t).suspicions.any (fun x => x.m == m) = false) ∧
    (∃ s : State, ∃ t : Nat, s.running = true ∧ t < Config.trays ∧ (s.tow t).ring ≠ .down ∧ (s.tow t).cyc ≠ .idle ∧
      (s.tow t).cycleAt / ms % 10000 = 625 * t ∧ (s.tow t).lastTest ≠ (s.tow t).cycleAt ∧ (s.tray t).st = .slack) ∧
    (∃ s : State, ∃ t : Nat, s.running = true ∧ t < Config.trays ∧ (s.tow t).ring ≠ .down ∧ (s.tow t).cyc ≠ .idle ∧
      (s.tow t).cycleAt / ms % 10000 = 625 * t ∧ (s.tow t).lastTest ≠ (s.tow t).cycleAt ∧ (s.tray t).st ≠ .slack) ∧
    (∃ s : State, ∃ t : Nat, ∃ x : OpenTest, s.running = true ∧ t < Config.trays ∧ (s.tow t).test = some x ∧
      (s.tow t).cycle = x.cycle + 2 ∧ (s.tow t).cyc ≠ .sweep ∧ (s.tow t).cyc ≠ .recovery ∧ x.monitors ≠ 0) ∧
    (∃ s : State, ∃ t c : Nat, s.running = true ∧ t < Config.trays ∧ c < Config.cells ∧
      10 ≤ get 0 (s.tow t).missRun c ∧ bit (s.tow t).unreadable c = false ∧ c < s.nCell t ∧ towQuiet s t = false) ∧
    (∃ s : State, ∃ t : Nat, s.running = true ∧ t < Config.trays) :=
  ⟨⟨fw.updTow 0 (fun x => { x with cellRun := List.replicate 240 5 }), 0, 0, by decide +kernel⟩,
   ⟨(fw.updTray 0 (fun x => { x with
      st := .slack })).updTow 0 (fun w => { w with ring := .whole, cyc := .sweep, lastTest := 1 }), 0,
      by decide +kernel⟩,
   ⟨fw.updTow 0 (fun x => { x with ring := .whole, cyc := .sweep, lastTest := 1 }), 0, by decide +kernel⟩,
   ⟨fw.updTow 0 (fun x => { x with test := some ⟨1, 3, [], false⟩, cycle := 3, cyc := .compared }), 0, ⟨1, 3, [],
      false⟩, by decide +kernel⟩,
   ⟨(fw.updTray 0 (fun x => { x with
      st := .online, pin := true })).updTow 0 (fun w => { w with missRun := List.replicate 240 10 }), 0, 0,
      by decide +kernel⟩,
   ⟨fw, 15, by decide +kernel⟩⟩

/-- States and operands that meet the premises of each clause of `Obligations.TowCommands`. -/
theorem test_witness_TowCommands :
    (∃ s : State, ∃ ses t : Nat, s.running = true ∧ ses < Config.sessions ∧ t < Config.trays ∧
      (s.tow t).ring = .down) ∧
    (∃ s : State, ∃ ses t : Nat, s.running = true ∧ ses < Config.sessions ∧ t < Config.trays ∧
      (s.tow t).ring ≠ .down) ∧
    (∃ s : State, ∃ ses t : Nat, s.running = true ∧ ses < Config.sessions ∧ t < Config.trays ∧
      (s.tow t).ring ≠ .down ∧ s.inSet t = false) ∧
    (∃ s : State, ∃ ses t : Nat, s.running = true ∧ ses < Config.sessions ∧ t < Config.trays ∧ s.inSet t = true) ∧
    (∃ s : State, ∃ ses t : Nat, s.running = true ∧ ses < Config.sessions ∧ t < Config.trays ∧
      (s.tray t).st ≠ .idle ∧ (s.tray t).st ≠ .fault ∧ (s.tray t).st ≠ .absent) ∧
    (∃ s : State, ∃ ses t : Nat, s.running = true ∧ ses < Config.sessions ∧ t < Config.trays ∧
      ((s.tray t).st = .idle ∨ (s.tray t).st = .fault ∨ (s.tray t).st = .absent)) ∧
    (∃ s : State, ∃ ses t : Nat, s.running = true ∧ ses < Config.sessions ∧ t < Config.trays ∧
      (s.tray t).st ≠ .idle ∧ (s.tray t).st ≠ .fault) ∧
    (∃ s : State, ∃ ses t : Nat, s.running = true ∧ ses < Config.sessions ∧ t < Config.trays ∧
      ((s.tray t).st = .idle ∨ (s.tray t).st = .fault) ∧ (s.tow t).ring ≠ .down) :=
  ⟨⟨fw, 0, 0, by decide +kernel⟩,
   ⟨fw.updTow 0 (fun x => { x with ring := .whole }), 0, 0, by decide +kernel⟩,
   ⟨fw.updTow 0 (fun x => { x with ring := .whole }), 0, 0, by decide +kernel⟩,
   ⟨{ fw with alloc := { fw.alloc with set := List.replicate 16 true } }, 0, 0, by decide +kernel⟩,
   ⟨fw.updTray 0 (fun x => { x with st := .online }), 0, 0, by decide +kernel⟩,
   ⟨fw.updTray 0 (fun x => { x with st := .idle }), 0, 0, by decide +kernel⟩,
   ⟨fw.updTray 0 (fun x => { x with st := .absent }), 0, 0, by decide +kernel⟩,
   ⟨(fw.updTray 0 (fun x => { x with st := .idle })).updTow 0 (fun w => { w with ring := .whole }), 0, 0,
      by decide +kernel⟩⟩

/-- States and operands that meet the premises of each clause of `Obligations.WeirLine`. -/
theorem test_witness_WeirLine :
    (∃ s : State, ∃ t : Nat, s.running = true ∧ t < Config.trays ∧ (s.tow t).weir = false ∧ liveTest s t = none ∧
      towQuiet s t = false) ∧
    (∃ s : State, ∃ t p : Nat, s.running = true ∧ t < Config.trays ∧ p < Config.phases ∧ (s.tow t).weir = false ∧
      liveTest s t = none ∧ (s.ph t p).st ≠ .off ∧ (s.ph t p).st ≠ .shed ∧ (s.ph t p).st ≠ .fault ∧
      (s.ph t p).st ≠ .linkLost ∧ (s.tray t).st ≠ .check) ∧
    (∃ s : State, ∃ t : Nat, s.running = true ∧ t < Config.trays ∧ (s.tow t).weir = false ∧ liveTest s t = none ∧
      towQuiet s t = false ∧ s.inSet t = true ∧
      ((s.tray t).st = .admitting ∨ (s.tray t).st = .online ∨ (s.tray t).st = .drain ∨ (s.tray t).st = .slack)) ∧
    (∃ s : State, ∃ t : Nat, s.running = true ∧ t < Config.trays ∧ (s.tow t).weir = false ∧ liveTest s t = none ∧
      towQuiet s t = false ∧ ((s.tray t).st = .check ∨ (s.tray t).st = .precharge ∨ (s.tray t).st = .closing)) ∧
    (∃ s : State, ∃ t : Nat, s.running = true ∧ t < Config.trays ∧ (s.tow t).weir = false ∧ liveTest s t = none ∧
      towQuiet s t = true) ∧
    (∃ s : State, ∃ t : Nat, s.running = true ∧ t < Config.trays ∧ (s.tow t).weir = true) ∧
    (∃ s : State, ∃ t : Nat, ∃ x : WeirLive, s.running = true ∧ t < Config.trays ∧ t < s.tows.length ∧
      (s.tow t).weir = false ∧ liveTest s t = some x) ∧
    (∃ s : State, ∃ t : Nat, ∃ r : WeirRun, s.running = true ∧ t < Config.trays ∧ (s.tow t).weirRun = some r ∧
      r.live.filter (fun x => decide (x.until_ < s.now)) ≠ [] ∧ towQuiet s t = false) ∧
    (∃ s : State, ∃ t : Nat, s.running = true ∧ t < Config.trays ∧ (s.tow t).weir = true) :=
  ⟨⟨fw.updTray 0 (fun x => { x with st := .online, pin := true }), 0, by decide +kernel⟩,
   ⟨fw.updPh 0 0 (fun x => { x with st := .run }), 0, 0, by decide +kernel⟩,
   ⟨weirTray .online, 0, by decide +kernel⟩,
   ⟨weirTray .precharge, 0, by decide +kernel⟩,
   ⟨fw, 0, by decide +kernel⟩,
   ⟨fw.updTow 0 (fun x => { x with weir := true }), 0, by decide +kernel⟩,
   ⟨fw.updTow 0 (fun x => { x with weirRun := some ⟨[], [⟨0, 0, 2⟩], false, false⟩ }), 0, ⟨0, 0, 2⟩,
      by decide +kernel⟩,
   ⟨at_ ((fw.updTow 0 (fun x => { x with
      weirRun := some ⟨[], [⟨0, 1, 2⟩], false,
      false⟩ })).updTray 0 (fun x => { x with pin := true, st := .idle })) 5, 0, ⟨[], [⟨0, 1, 2⟩], false, false⟩,
      by decide +kernel⟩,
   ⟨fw.updTow 0 (fun x => { x with weir := true }), 0, by decide +kernel⟩⟩

/-- States and operands that meet the premises of each clause of `Obligations.EstimatorSteps`. -/
theorem test_witness_EstimatorSteps :
    (∃ s : State, ∃ t : Nat, s.running = true ∧ t < Config.trays ∧ (s.tow t).fresh = true) ∧
    (∃ s : State, ∃ t c : Nat, ∃ y : EstCell, s.running = true ∧ t < Config.trays ∧ c < s.nCell t ∧
      (s.tow t).fresh = true ∧ s.fwStopped 18 = false ∧ estSlow s (s.estOf t) = false ∧
      restedFor s t (s.estOf t) = false ∧ bit (s.tow t).unreadable c = false ∧
      y = get EstCell.reset ((bleedAccount t s).estOf t).cells c ∧ y.known = true ∧
      (s.estOf t).cells.length = Config.cells) ∧
    (∃ s : State, ∃ t : Nat, s.running = true ∧ t < Config.trays ∧ (s.tow t).fresh = true ∧ s.fwStopped 18 = false ∧
      estSlow s (s.estOf t) = false) ∧
    (∃ s : State, ∃ t : Nat, s.running = true ∧ t < Config.trays ∧ s.inSet t = true ∧ (s.estOf t).noRest = false ∧
      (s.estOf t).restFrom + 21600 * sec ≤ s.now) ∧
    (∃ s : State, ∃ t a b : Nat, ∃ d : Rat, s.running = true ∧ t < Config.trays ∧ stepOk s t a b = some d) ∧
    (∃ s : State, ∃ t : Nat, ∃ x : StepFit, s.running = true ∧ t < Config.trays ∧ (s.estOf t).step = some x) ∧
    (∃ s : State, s.running = true) ∧
    (∃ s : State, ∃ ses t : Nat, s.running = true ∧ ses < Config.sessions ∧ t < Config.trays) ∧
    (∃ s : State, ∃ ses t off : Nat, ∃ d : List Byte, s.running = true ∧ ses < Config.sessions ∧ t < Config.trays ∧
      (d = [] ∨ d.length % 8 ≠ 0 ∨ off % 8 ≠ 0 ∨ 8192 < off + d.length)) ∧
    (∃ s : State, ∃ ses t off : Nat, ∃ d : List Byte, s.running = true ∧ ses < Config.sessions ∧ t < Config.trays ∧
      d ≠ [] ∧ d.length % 8 = 0 ∧ 48 * s.nCell t < s.win ses (0x3300 + t) 0x03 + off / 8 + d.length / 8) ∧
    (∃ s : State, ∃ ses t off : Nat, ∃ d : List Byte, s.running = true ∧ ses < Config.sessions ∧ t < Config.trays ∧
      d ≠ [] ∧ d.length % 8 = 0 ∧ off % 8 = 0 ∧ off + d.length ≤ 8192 ∧
      s.win ses (0x3300 + t) 0x03 + off / 8 + d.length / 8 ≤ 48 * s.nCell t ∧ s.openTxns < 32) ∧
    (∃ s : State, ∃ ses t off : Nat, ∃ d : List Byte, s.running = true ∧ ses < Config.sessions ∧ t < Config.trays ∧
      d ≠ [] ∧ d.length % 8 = 0 ∧ off % 8 = 0 ∧ off + d.length ≤ 8192 ∧
      s.win ses (0x3300 + t) 0x03 + off / 8 + d.length / 8 ≤ 48 * s.nCell t ∧ 32 ≤ s.openTxns) :=
  ⟨⟨fw.updTow 0 (fun x => { x with fresh := true }), 0, by decide +kernel⟩,
   ⟨{ (fw.updTow 0 (fun x => { x with
      fresh := true })) with
      est := upd fw.est 0 (fun x => { x with
      dQ := 36, cells := x.cells.map (fun c => { c with known := true, q := 1 / 2 }) }) }, 0, 3,
      { EstCell.reset with known := true, q := 1 / 2 }, by decide +kernel⟩,
   ⟨fw.updTow 0 (fun x => { x with fresh := true }), 0, by decide +kernel⟩,
   ⟨at_ { fw with alloc := { fw.alloc with set := List.replicate 16 true } } (21600 * 10 ^ 9), 0, by decide +kernel⟩,
   ⟨at_ (fw.updEst 0 (fun x => { x with
      hist := [(30000000, 0, 500, true), (0, 0, 0, true), (0, 0, 0, true)] })) 40000000, 0, 29950000, 30000000, 500,
      by decide +kernel⟩,
   ⟨fw.updEst 0 (fun x => { x with step := some ⟨1, 2, 500⟩ }), 0, ⟨1, 2, 500⟩, by decide +kernel⟩,
   ⟨fw, by decide +kernel⟩,
   ⟨fw, 0, 0, by decide +kernel⟩,
   ⟨fw, 0, 0, 0, [1], by decide +kernel⟩,
   ⟨{ fw with od := { fw.od with windows := [(0x330003, 100000)] } }, 0, 0, 0, List.replicate 8 0, by decide +kernel⟩,
   ⟨fw, 0, 0, 0, List.replicate 8 0, by decide +kernel⟩,
   ⟨busy, 0, 0, 0, List.replicate 8 0, by decide +kernel⟩⟩

/-- States and operands that meet the premises of each clause of `Obligations.TideEvaluation`. -/
theorem test_witness_TideEvaluation :
    (∃ s : State, ∃ n : Nat, s.running = true ∧ evalDue s (cutOf s.now) = true ∧ s.modelRuns s.tide.active = true ∧
      n ≤ 9500) ∧
    (∃ s : State, ∃ n : Nat, s.running = true ∧ evalDue s (cutOf s.now) = true ∧
      (s.modelRuns s.tide.active = false ∨ 9500 < n)) ∧
    (∃ s : State, ∃ cut : Nat, s.running = true ∧ cut = cutOf (s.now - 9500) ∧ cut + 9500 ≤ s.now ∧
      evalDue s cut = true) ∧
    (∃ s : State, s.running = true ∧ evalDue s (cutOf s.now) = false) ∧
    (∃ s : State, ∃ cut : Nat, s.running = true ∧ cut = cutOf (s.now - 9500) ∧
      (s.now < cut + 9500 ∨ evalDue s cut = false)) ∧
    (∃ s : State, s.running = true ∧ s.now / ms ≠ s.tide.gateMs) ∧
    (∃ s : State, s.running = true ∧ s.now / ms = s.tide.gateMs) ∧
    (∃ s : State, ∃ g : Nat, ∃ grp : List SchedEntry, s.running = true ∧
      (groupsOf (tolNow s) s.tide.entries)[g]? = some grp ∧
      grp.foldl (fun a e => max a (e.tc + e.ramp + tolNow s)) 0 ≤ (s.now : Rat)) ∧
    (∃ s : State, ∃ i a : Nat, s.running = true ∧ i < 33 ∧ get none s.tide.suspended i = some a ∧ a ≤ s.now) ∧
    (∃ s : State, s.running = true ∧ hintsDropped s = true ∧ s.tide.holdNoticed = false) ∧
    (∃ s : State, s.running = true ∧ s.tide.st = .warming ∧ 2000 ≤ s.tide.warmSteps ∧
      s.cfgU 0x4000 0x0C * 100 ≤ s.tide.warmPreds) :=
  ⟨⟨{ ({ fw with
      tide := { fw.tide with
      st := .run, active := 24 } }) with slots := upd fw.slots 24 (fun x => { x with st := .bound }) }, 9500,
      by decide +kernel⟩,
   ⟨{ fw with tide := { fw.tide with st := .run, active := 24 } }, 9501, by decide +kernel⟩,
   ⟨at_ ({ fw with tide := { fw.tide with st := .warming, active := 24 } }) 9500, 0, by decide +kernel⟩,
   ⟨fw, by decide +kernel⟩,
   ⟨at_ ({ fw with tide := { fw.tide with st := .warming, active := 24 } }) 9499, 0, by decide +kernel⟩,
   ⟨at_ ({ fw with tide := { fw.tide with st := .run, errs := [] } }) 1000000, by decide +kernel⟩,
   ⟨{ fw with tide := { fw.tide with gateMs := 0 } }, by decide +kernel⟩,
   ⟨at_ ({ fw with tide := { fw.tide with entries := [entry] } }) 1000000000, 0, [entry], by decide +kernel⟩,
   ⟨{ fw with tide := { fw.tide with suspended := List.replicate 33 (some 0) } }, 32, 0, by decide +kernel⟩,
   ⟨at_ ({ fw with clk := { fw.clk with st := .holdover } }) (10 ^ 14), by decide +kernel⟩,
   ⟨{ fw with tide := { fw.tide with st := .warming, warmSteps := 2000, warmPreds := 100000 } }, by decide +kernel⟩⟩

/-- States and operands that meet the premises of each clause of `Obligations.TideCommands`. -/
theorem test_witness_TideCommands :
    (∃ s : State, ∃ ses : Nat, s.running = true ∧ ses < Config.sessions ∧ (s.tide.st = .off ∧
      s.tide.active ≠ 0xFF ∨ s.tide.st = .fault)) ∧
    (∃ s : State, ∃ ses : Nat, s.running = true ∧ ses < Config.sessions ∧ (s.tide.st = .off ∧
      s.tide.active = 0xFF ∨ s.tide.st = .warming ∨ s.tide.st = .run)) ∧
    (∃ s : State, ∃ ses : Nat, s.running = true ∧ ses < Config.sessions ∧ s.tide.st ≠ .off) ∧
    (∃ s : State, ∃ ses : Nat, s.running = true ∧ ses < Config.sessions ∧ s.tide.st = .off) ∧
    (∃ s : State, ∃ ses : Nat, s.running = true ∧ ses < Config.sessions ∧ s.tide.staged = 0xFF) ∧
    (∃ s : State, ∃ ses : Nat, s.running = true ∧ ses < Config.sessions ∧ s.tide.staged ≠ 0xFF) ∧
    (∃ s : State, ∃ a : Nat, s.running = true ∧ s.tide.switchAt = some a ∧ a + 100 * ms ≤ s.now) ∧
    (∃ s : State, ∃ ses : Nat, s.running = true ∧ ses < Config.sessions) ∧
    (∃ s : State, ∃ ses n : Nat, s.running = true ∧ ses < Config.sessions ∧ n < Config.slots ∧
      s.descOk (s.slot n).program = true) ∧
    (∃ s : State, ∃ ses n : Nat, s.running = true ∧ ses < Config.sessions ∧ n < Config.slots ∧
      s.descOk (s.slot n).program = false) ∧
    (∃ s : State, ∃ ses : Nat, s.running = true ∧ ses < Config.sessions) ∧
    (∃ s : State, ∃ ses n : Nat, s.running = true ∧ ses < Config.sessions ∧ Config.slots ≤ n ∧ n ≠ 0xFF) :=
  ⟨⟨{ fw with tide := { fw.tide with active := 24 } }, 0, by decide +kernel⟩,
   ⟨{ fw with tide := { fw.tide with st := .run } }, 0, by decide +kernel⟩,
   ⟨{ fw with tide := { fw.tide with st := .run } }, 0, by decide +kernel⟩,
   ⟨fw, 0, by decide +kernel⟩,
   ⟨{ fw with tide := { fw.tide with staged := 0xFF } }, 0, by decide +kernel⟩,
   ⟨{ fw with tide := { fw.tide with staged := 24, st := .run } }, 0, by decide +kernel⟩,
   ⟨at_ ({ fw with tide := { fw.tide with switchAt := some 0, st := .run, staged := 24 } }) (10 ^ 9), 0,
      by decide +kernel⟩,
   ⟨fw, 0, by decide +kernel⟩,
   ⟨{ fw with slots := upd fw.slots 24 (fun x => { x with blocks := [(0, tide)] }) }, 0, 24, by decide +kernel⟩,
   ⟨fw, 0, 24, by decide +kernel⟩,
   ⟨{ fw with tide := { fw.tide with staged := 24 } }, 0, by decide +kernel⟩,
   ⟨fw, 0, 64, by decide +kernel⟩⟩

/-- States and operands that meet the premises of each clause of `Obligations.FeedFrames`. -/
theorem test_witness_FeedFrames :
    (∃ s : State, s.running = true ∧ s.now % ms = 0 ∧ s.feed.refreshAt ≠ some s.now ∧ s.drives = true ∧
      s.fwStopped 20 = false) ∧
    (∃ s : State, s.running = true ∧ s.fwStopped 20 = true) ∧
    (∃ s : State, s.running = true ∧ s.feed.refreshAt = some s.now) ∧
    (∃ s : State, ∃ g n : Nat, ∃ d : Bytes, s.running = true ∧ g < 2 ∧ 1 ≤ n ∧ n ≤ 24 ∧ d.length = 8 ∧ u8At d 0 = 3) ∧
    (∃ s : State, ∃ g n : Nat, ∃ d : Bytes, s.running = true ∧ g < 2 ∧ 1 ≤ n ∧ n ≤ 24 ∧ d.length = 8 ∧
      (u8At d 0 = 1 ∨ u8At d 0 = 2)) ∧
    (∃ s : State, ∃ g n : Nat, ∃ d : Bytes, s.running = true ∧ g < 2 ∧ 1 ≤ n ∧ n ≤ 24 ∧ d.length = 8 ∧ u8At d 0 = 4) ∧
    (∃ s : State, ∃ g n : Nat, ∃ d : Bytes, s.running = true ∧ g < 2 ∧ 1 ≤ n ∧ n ≤ 24 ∧
      (d.length ≠ 8 ∨ u8At d 0 = 0 ∨ 4 < u8At d 0)) ∧
    (∃ s : State, ∃ g n : Nat, ∃ d : Bytes, s.running = true ∧ g < 2 ∧ 1 ≤ n ∧ n ≤ 24 ∧ d.length = 16) ∧
    (∃ s : State, ∃ g n : Nat, ∃ d : Bytes, s.running = true ∧ g < 2 ∧ 1 ≤ n ∧ n ≤ 24 ∧ d.length ≠ 16) ∧
    (∃ s : State, ∃ g n : Nat, ∃ d : Bytes, s.running = true ∧ g < 2 ∧ 1 ≤ n ∧ n ≤ 24 ∧ d.length = 8 ∧
      u16At d 0 = 1 ∧ u16At d 2 = 0 ∧ u32At d 4 = 1) ∧
    (∃ s : State, ∃ g n : Nat, ∃ d : Bytes, s.running = true ∧ g < 2 ∧ 1 ≤ n ∧ n ≤ 24 ∧
      (d.length ≠ 8 ∨ u16At d 0 ≠ 1 ∨ u16At d 2 ≠ 0)) ∧
    (∃ s : State, ∃ g n : Nat, ∃ d : Bytes, s.running = true ∧ g < 2 ∧ 1 ≤ n ∧ n ≤ 24 ∧ d.length = 8 ∧
      u16At d 0 = 1 ∧ u16At d 2 = 0 ∧ u32At d 4 ≠ 1) ∧
    (∃ s : State, ∃ r : Nat, s.running = true ∧ r < Config.rectifiers ∧ (s.rect r).seen = true ∧
      (s.rect r).silent = false ∧ (s.rect r).statusAt + 12 * ms ≤ s.now) ∧
    (∃ s : State, ∃ g : Nat, s.running = true ∧ g < 2 ∧ (s.group g).portDown = false) ∧
    (∃ s : State, ∃ g : Nat, s.running = true ∧ g < 2 ∧ (s.group g).portDown = true) :=
  ⟨⟨at_ ({ fw with pair := { fw.pair with role := .active } }) 1000000, by decide +kernel⟩,
   ⟨{ fw with grid := { fw.grid with restarting := [20] } }, by decide +kernel⟩,
   ⟨{ fw with feed := { fw.feed with refreshAt := some 0 } }, by decide +kernel⟩,
   ⟨fw, 1, 24, [3, 0, 0, 0, 0, 0, 0, 0], by decide +kernel⟩,
   ⟨fw, 1, 1, [2, 0, 0, 0, 0, 0, 0, 0], by decide +kernel⟩,
   ⟨fw, 1, 1, [4, 0, 0, 0, 0, 0, 0, 0], by decide +kernel⟩,
   ⟨fw, 1, 1, [], by decide +kernel⟩,
   ⟨fw, 0, 1, List.replicate 16 0, by decide +kernel⟩,
   ⟨fw, 0, 1, [], by decide +kernel⟩,
   ⟨fw, 1, 1, [1, 0, 0, 0, 1, 0, 0, 0], by decide +kernel⟩,
   ⟨fw, 1, 1, [1, 0, 1, 0, 1, 0, 0, 0], by decide +kernel⟩,
   ⟨fw, 0, 1, [1, 0, 0, 0, 0, 0, 0, 0], by decide +kernel⟩,
   ⟨at_ (fw.updRect 0 (fun x => { x with seen := true })) 12000000, 0, by decide +kernel⟩,
   ⟨fw, 1, by decide +kernel⟩,
   ⟨fw.updGroup 0 (fun x => { x with portDown := true }), 0, by decide +kernel⟩⟩

/-- States and operands that meet the premises of each clause of `Obligations.FeedGroups`. -/
theorem test_witness_FeedGroups :
    (∃ s : State, ∃ g : Nat, s.running = true ∧ g < 2 ∧ s.groupSt g = .dip ∧
      (s.group g).since + s.cfgU 0x3400 0x0A * ms ≤ s.now) ∧
    (∃ s : State, ∃ g a : Nat, s.running = true ∧ g < 2 ∧ s.groupSt g = .absent ∧ (s.group g).back = some a ∧
      a + s.cfgU 0x3400 0x0B * sec ≤ s.now) ∧
    (∃ s : State, ∃ g : Nat, s.running = true ∧ g < 2 ∧ s.groupSt g = .returning ∧ 0 < s.groupAvail g ∧
      s.groupAvail g ≤ (s.group g).ceiling) ∧
    (∃ s : State, ∃ ses : Nat, s.running = true ∧ ses < Config.sessions) ∧
    (∃ s : State, ∃ ses : Nat, s.running = true ∧ ses < Config.sessions ∧ s.drives = true ∧ s.hw.released = false) ∧
    (∃ s : State, ∃ ses : Nat, s.running = true ∧ ses < Config.sessions ∧ s.drives = false) :=
  ⟨⟨at_ (fw.updGroup 0 (fun x => { x with st := .dip })) (10 ^ 12), 0, by decide +kernel⟩,
   ⟨at_ (fw.updGroup 0 (fun x => { x with st := .absent, back := some 0 })) (10 ^ 13), 0, 0, by decide +kernel⟩,
   ⟨(fw.updGroup 0 (fun x => { x with
      st := .returning,
      ceiling := 100 })).updRect 0 (fun x => { x with mode := some true, ok := true, avail := 50 }), 0,
      by decide +kernel⟩,
   ⟨fw, 0, by decide +kernel⟩,
   ⟨link .active, 0, by decide +kernel⟩,
   ⟨fw, 0, by decide +kernel⟩⟩

/-- States and operands that meet the premises of each clause of `Obligations.GovernorEpoch`. -/
theorem test_witness_GovernorEpoch :
    (∃ s : State, s.running = true ∧ s.now % ms = 0 ∧ s.gov.cutAt ≠ some s.now ∧ s.drives = true ∧
      s.withheld s.now = false ∧ s.fwStopped 19 = false) ∧
    (∃ s : State, s.running = true ∧ (s.gov.cutAt = some s.now ∨ s.withheld s.now = true)) ∧
    (∃ s : State, s.running = true ∧ s.now % ms = 0 ∧ s.gov.cutAt ≠ some s.now ∧ s.drives = true ∧
      s.withheld s.now = false ∧ s.fwStopped 19 = true) ∧
    (∃ s : State, s.running = true ∧ s.port.drainHeld = true) ∧
    (∃ s : State, s.running = true ∧ s.port.drainHeld = false) ∧
    (∃ s : State, s.running = true ∧ s.port.drainHeld = false ∧ s.port.reports = [] ∧ s.passive = true) ∧
    (∃ s : State, ∃ f : Bytes, s.running = true ∧ s.port.drainHeld = false ∧ s.port.reports = [] ∧
      s.passive = false ∧ reportOk f s = false) ∧
    (∃ s : State, ∃ f : Bytes, s.running = true ∧ s.port.drainHeld = false ∧ s.port.reports = [] ∧
      s.passive = false ∧ reportOk f s = true) ∧
    (∃ s : State, ∃ f : Bytes, ∃ a : Nat, ∃ l : List (Nat × Bytes), s.running = true ∧ s.port.drainHeld = false ∧
      s.port.reports = (a, f) :: l ∧ reportOk f s = false) ∧
    (∃ s : State, ∃ f : Bytes, ∃ a : Nat, ∃ l : List (Nat × Bytes), s.running = true ∧ s.port.drainHeld = false ∧
      s.port.reports = (a, f) :: l ∧ reportOk f s = true) ∧
    (∃ s : State, ∃ f : Bytes, ∃ a : Nat, ∃ g : Bytes, ∃ l : List (Nat × Bytes), s.running = true ∧
      s.port.reports = (a, g) :: l ∧ g ≠ f) ∧
    (∃ s : State, ∃ c : Nat, s.running = true ∧ c < Config.chips ∧ (s.chip c).st = .admitted ∧
      (s.chip c).lastAt + s.cfgU 0x5000 0x15 * ms ≤ s.now) ∧
    (∃ s : State, ∃ k n m : Nat, s.running = true ∧ k < Config.partitions ∧ n = (s.part k).flight ∧
      m = (n + 1) % 65536) :=
  ⟨⟨at_ ({ fw with pair := { fw.pair with role := .active } }) 1000000, by decide +kernel⟩,
   ⟨{ fw with gov := { fw.gov with cutAt := some 0 } }, by decide +kernel⟩,
   ⟨at_ ({ ({ fw with
      pair := { fw.pair with role := .active } }) with grid := { fw.grid with failed := [51] } }) 1000000,
      by decide +kernel⟩,
   ⟨{ fw with port := { fw.port with drainHeld := true } }, by decide +kernel⟩,
   ⟨{ fw with port := { fw.port with drainHeld := false } }, by decide +kernel⟩,
   ⟨{ ({ fw with port := { fw.port with drainHeld := false } }) with pair := { fw.pair with role := .standby } },
      by decide +kernel⟩,
   ⟨{ fw with port := { fw.port with drainHeld := false } }, [], by decide +kernel⟩,
   ⟨({ fw with port := { fw.port with drainHeld := false } }).setCfg 0x5000 0x14 1, reportFrame, by decide +kernel⟩,
   ⟨{ fw with port := { fw.port with drainHeld := false, reports := [(5, [0])] } }, [0], 5, [], by decide +kernel⟩,
   ⟨({ fw with port := { fw.port with drainHeld := false, reports := [(5, reportFrame)] } }).setCfg 0x5000 0x14 1,
      reportFrame, 5, [], by decide +kernel⟩,
   ⟨{ fw with port := { fw.port with drainHeld := false, reports := [(5, [0])] } }, [], 5, [0], [],
      by decide +kernel⟩,
   ⟨at_ (fw.updChip 5 (fun x => { x with st := .admitted })) (10 ^ 12), 5, by decide +kernel⟩,
   ⟨fw, 0, 0, 1, by decide +kernel⟩⟩

/-- States and operands that meet the premises of each clause of `Obligations.GovernorCommands`. -/
theorem test_witness_GovernorCommands :
    (∃ s : State, ∃ ses : Nat, s.running = true ∧ ses < Config.sessions ∧ s.gov.st = .off) ∧
    (∃ s : State, ∃ ses : Nat, s.running = true ∧ ses < Config.sessions ∧ s.gov.st ≠ .off) ∧
    (∃ s : State, ∃ ses : Nat, s.running = true ∧ ses < Config.sessions ∧ bordersOverlap s = false) ∧
    (∃ s : State, ∃ ses : Nat, s.running = true ∧ ses < Config.sessions ∧ bordersOverlap s = true) ∧
    (∃ s : State, ∃ ses : Nat, s.running = true ∧ ses < Config.sessions) ∧
    (∃ s : State, ∃ ses k a b : Nat, s.running = true ∧ ses < Config.sessions ∧ k < Config.partitions ∧
      (a = 0 ∨ 384 ≤ a ∧ a < 1024) ∧ (b = 0 ∨ 384 ≤ b ∧ b < 1024)) ∧
    (∃ s : State, ∃ ses k a b : Nat, s.running = true ∧ ses < Config.sessions ∧ k < Config.partitions ∧ a < 65536 ∧
      (0 < a ∧ a < 384 ∨ 1024 ≤ a ∨ 0 < b ∧ b < 384 ∨ 1024 ≤ b)) ∧
    (∃ s : State, ∃ ses off : Nat, ∃ d : List Byte, s.running = true ∧ ses < Config.sessions ∧
      (d = [] ∨ d.length % 8 ≠ 0 ∨ off % 8 ≠ 0 ∨ 8192 < off + d.length ∨
      131072 < s.win ses 0x5800 0x03 + off / 8 + d.length / 8)) ∧
    (∃ s : State, ∃ ses off : Nat, ∃ d : List Byte, s.running = true ∧ ses < Config.sessions ∧ d ≠ [] ∧
      d.length % 8 = 0 ∧ off % 8 = 0 ∧ off + d.length ≤ 8192 ∧
      s.win ses 0x5800 0x03 + off / 8 + d.length / 8 ≤ 131072 ∧ s.openTxns < 32) ∧
    (∃ s : State, ∃ ses off : Nat, ∃ d : List Byte, s.running = true ∧ ses < Config.sessions ∧ d ≠ [] ∧
      d.length % 8 = 0 ∧ off % 8 = 0 ∧ off + d.length ≤ 8192 ∧
      s.win ses 0x5800 0x03 + off / 8 + d.length / 8 ≤ 131072 ∧ 32 ≤ s.openTxns) :=
  ⟨⟨fw, 0, by decide +kernel⟩,
   ⟨{ fw with gov := { fw.gov with st := .run } }, 0, by decide +kernel⟩,
   ⟨fw, 0, by decide +kernel⟩,
   ⟨((fw.setCfg 0x5100 0x03 1).setCfg 0x5101 0x03 1), 0, by decide +kernel⟩,
   ⟨fw, 0, by decide +kernel⟩,
   ⟨fw, 0, 0, 384, 0, by decide +kernel⟩,
   ⟨fw, 0, 0, 1, 0, by decide +kernel⟩,
   ⟨fw, 0, 0, [1], by decide +kernel⟩,
   ⟨fw, 0, 0, List.replicate 8 0, by decide +kernel⟩,
   ⟨busy, 0, 0, List.replicate 8 0, by decide +kernel⟩⟩

/-- States and operands that meet the premises of each clause of `Obligations.GridFiring`. -/
theorem test_witness_GridFiring :
    (∃ s : State, s.running = true ∧ s.now % 1000 = 0 ∧ s.grid.tickAt ≠ some s.now ∧ s.withheld s.now = false) ∧
    (∃ s : State, s.running = true ∧ (s.grid.tickAt = some s.now ∨ s.withheld s.now = true)) ∧
    (∃ s : State, ∃ n k : Nat, ∃ r : Running, ∃ st : StageDef, ∃ tag : Nat, s.running = true ∧ n < Config.slots ∧
      k < 256 ∧ (s.slot n).st = .bound ∧ (s.slot n).rt = some r ∧ (s.slot n).program.stages[k]? = some st ∧
      nextTag (s.slot n).program r k = some tag ∧ s.holdFire n k tag (s.slot n).program r st = false) ∧
    (∃ s : State, ∃ n k : Nat, ∃ r : Running, ∃ st : StageDef, ∃ tag : Nat, s.running = true ∧ n < Config.slots ∧
      k < 256 ∧ (s.slot n).st = .bound ∧ (s.slot n).rt = some r ∧ (s.slot n).program.stages[k]? = some st ∧
      nextTag (s.slot n).program r k = some tag ∧
      (s.grid.failed.contains (r.core st.core) = true ∨ bit st.flags 1 = false ∧
      s.recordsWait (r.core st.core) = true)) :=
  ⟨⟨fw, by decide +kernel⟩,
   ⟨{ fw with grid := { fw.grid with tickAt := some 0 } }, by decide +kernel⟩,
   ⟨bound none 0, 24, 0, ran none 0, ⟨0, 0, 0, 1, 0, 13, 0⟩, 9, by decide +kernel⟩,
   ⟨{ (bound none 0) with grid := { fw.grid with failed := [56] } }, 24, 0, ran none 0, ⟨0, 0, 0, 1, 0, 13, 0⟩, 9,
      by decide +kernel⟩⟩

/-- States and operands that meet the premises of each clause of `Obligations.GridBarges`. -/
theorem test_witness_GridBarges :
    (∃ s : State, ∃ b : Bytes, ∃ x : Barge, s.running = true ∧ parseBarge b = some x ∧ x.dst < 74 ∧
      bargeCrcOk b = false) ∧
    (∃ s : State, ∃ b : Bytes, ∃ x : Barge, s.running = true ∧ parseBarge b = some x ∧
      (74 ≤ x.dst ∨ bargeCrcOk b = true ∧ 8 ≤ x.kind)) ∧
    (∃ s : State, ∃ b : Bytes, ∃ x : Barge, s.running = true ∧ parseBarge b = some x ∧ bargeCrcOk b = true ∧
      x.kind = 0 ∧ x.dst < 74 ∧ x.seq = (s.pairSeq x.src x.dst).expect) ∧
    (∃ s : State, ∃ b : Bytes, ∃ x : Barge, s.running = true ∧ parseBarge b = some x ∧ bargeCrcOk b = true ∧
      x.kind = 2 ∧ x.dst < 74) ∧
    (∃ s : State, ∃ b : Bytes, ∃ x : Barge, s.running = true ∧ parseBarge b = some x ∧ bargeCrcOk b = true ∧
      x.kind = 3 ∧ x.dst < 74) ∧
    (∃ s : State, ∃ b : Bytes, ∃ x : Barge, ∃ u : Unacked, s.running = true ∧ parseBarge b = some x ∧
      bargeCrcOk b = true ∧ x.kind = 4 ∧ x.dst < 74 ∧ s.findUnacked x.dst x.src x.seq = some u ∧ u.sends < 8) ∧
    (∃ s : State, ∃ a b q : Nat, ∃ u : Unacked, s.running = true ∧ a < 256 ∧ b < 256 ∧ s.findUnacked a b q = some u ∧
      u.at_ + 171 ≤ s.now ∧ u.sends < 8) ∧
    (∃ s : State, ∃ b : Bytes, ∃ x : Barge, s.running = true ∧ parseBarge b = some x ∧ bargeCrcOk b = true ∧
      x.kind = 5 ∧ x.dst < 74 ∧ x.seq = (s.pairSeq x.src x.dst).expect ∧ (s.pairSeq x.src x.dst).held = []) :=
  ⟨⟨fw, List.replicate 16 0, parsed (List.replicate 16 0), by decide +kernel⟩,
   ⟨fw, barge 74 0 0 0 [], parsed (barge 74 0 0 0 []), by decide +kernel⟩,
   ⟨fw, barge 56 0 0 0 [], parsed (barge 56 0 0 0 []), by decide +kernel⟩,
   ⟨fw, barge 56 0 2 0 [], parsed (barge 56 0 2 0 []), by decide +kernel⟩,
   ⟨fw, barge 56 0 3 0 [], parsed (barge 56 0 3 0 []), by decide +kernel⟩,
   ⟨{ fw with grid := { fw.grid with unacked := [⟨0, 56, 0, [], 1, 0⟩] } }, barge 0 56 4 0 [],
      parsed (barge 0 56 4 0 []), ⟨0, 56, 0, [], 1, 0⟩, by decide +kernel⟩,
   ⟨at_ ({ fw with grid := { fw.grid with unacked := [⟨0, 56, 0, [], 7, 0⟩] } }) 171, 0, 56, 0, ⟨0, 56, 0, [], 7,
      0⟩, by decide +kernel⟩,
   ⟨fw, barge 66 0 5 1 (List.replicate 16 0), parsed (barge 66 0 5 1 (List.replicate 16 0)), by decide +kernel⟩⟩

/-- States and operands that meet the premises of each clause of `Obligations.MemoryWrite`. -/
theorem test_witness_MemoryWrite : ∃ s : State, ∃ b : Bytes, ∃ x : Barge, s.running = true ∧ parseBarge b = some x ∧
      bargeCrcOk b = true ∧ x.kind = 6 ∧ 66 ≤ x.dst ∧ x.dst ≤ 69 ∧ x.seq = (s.pairSeq x.src x.dst).expect ∧
      (s.pairSeq x.src x.dst).held = [] ∧ u64At x.payload 0 + (x.payload.drop 8).length ≤ 4294967296 :=
  ⟨fw, barge 69 0 6 1 (List.replicate 8 0 ++ List.replicate 8 1),
      parsed (barge 69 0 6 1 (List.replicate 8 0 ++ List.replicate 8 1)), by decide +kernel⟩

/-- States and operands that meet the premises of each clause of `Obligations.GridErrors`. -/
theorem test_witness_GridErrors :
    (∃ s : State, ∃ c : Nat, s.running = true ∧ c < Config.cores) ∧
    (∃ s : State, ∃ c : Nat, s.running = true ∧ c < 4) ∧
    (∃ s : State, ∃ c : Nat, s.running = true ∧ c < Config.cores) ∧
    (∃ s : State, ∃ ch n k : Nat, s.running = true ∧ ch < 4 ∧ n < Config.slots ∧ k < 256) ∧
    (∃ s : State, ∃ n : Nat, s.running = true ∧ n < Config.slots ∧ s.grid.restarting.contains n = true) ∧
    (∃ s : State, ∃ c : Nat, s.running = true ∧ c < Config.cores ∧ s.grid.failed.contains c = false) ∧
    (∃ s : State, ∃ c : Nat, s.running = true ∧ c < Config.cores ∧ s.grid.failed.contains c = true) ∧
    (∃ s : State, ∃ ses : Nat, s.running = true ∧ ses < Config.sessions) ∧
    (∃ s : State, ∃ ses : Nat, s.running = true ∧ ses < Config.sessions) ∧
    (∃ s : State, ∃ ses : Nat, s.running = true ∧ ses < Config.sessions) ∧
    (∃ s : State, ∃ n ch g : Nat, s.running = true ∧ n < 24 ∧ ch < 65536 ∧ g < 65536) ∧
    (∃ s : State, ∃ n ch g : Nat, ∃ r : Running, ∃ c : ChanDef, s.running = true ∧ 24 ≤ n ∧ n < Config.slots ∧
      ch < 65536 ∧ g < 65536 ∧ (s.slot n).st = .bound ∧ (s.slot n).rt = some r ∧
      (s.slot n).program.chan ch = some c ∧ c.kind = 5 ∧ c.consumer < (s.slot n).program.stages.length) :=
  ⟨⟨fw, 0, by decide +kernel⟩,
   ⟨fw, 3, by decide +kernel⟩,
   ⟨fw, 0, by decide +kernel⟩,
   ⟨fw, 0, 23, 1, by decide +kernel⟩,
   ⟨{ fw with grid := { fw.grid with restarting := [24] } }, 24, by decide +kernel⟩,
   ⟨fw, 63, by decide +kernel⟩,
   ⟨{ fw with grid := { fw.grid with failed := [63] } }, 63, by decide +kernel⟩,
   ⟨fw, 0, by decide +kernel⟩,
   ⟨fw, 0, by decide +kernel⟩,
   ⟨fw, 0, by decide +kernel⟩,
   ⟨fw, 0, 0, 0, by decide +kernel⟩,
   ⟨callable, 24, 7, 2048, ran none 0, ⟨7, 0, 5, 0xFF, 3, 1⟩, by decide +kernel⟩⟩

/-- States and operands that meet the premises of each clause of `Obligations.GateOperations`. -/
theorem test_witness_GateOperations :
    (∃ s : State, ∃ who : Party, ∃ g n : Nat, s.running = true ∧ g < 65536 ∧ n < 4294967296 ∧
      ((s.gate g).maySignal who = false ∨ n = 0 ∨ (s.gate g).mode = 1 ∧ (s.gate g).barrier ≠ 1)) ∧
    (∃ s : State, ∃ who : Party, ∃ g n : Nat, ∃ y : Gate, s.running = true ∧ g < 65536 ∧ 0 < n ∧ n < 4294967296 ∧
      (s.gate g).maySignal who = true ∧ (s.gate g).signal n = some y) ∧
    (∃ s : State, ∃ who : Party, ∃ core g v reg : Nat, s.running = true ∧ g < 65536 ∧ v < 4294967296 ∧
      (s.gate g).kind ≠ 0 ∧ coreOf who = some core ∧ (2048 ≤ g ∨ fromFirmware who = true) ∧
      s.freeReg core = some reg) ∧
    (∃ s : State, ∃ who : Party, ∃ g v : Nat, s.running = true ∧ g < 65536 ∧ v < 4294967296 ∧
      (coreOf who = none ∨ (s.gate g).kind = 0 ∨ (∃ core, coreOf who = some core ∧ s.freeReg core = none))) ∧
    (∃ s : State, ∃ who : Party, ∃ g v : Nat, s.running = true ∧ g < 2048 ∧ v < 4294967296 ∧
      fromFirmware who = false) ∧
    (∃ s : State, ∃ who : Party, ∃ g target src : Nat, s.running = true ∧ g < 65536 ∧ target < 4294967296 ∧
      src < 65536 ∧ (s.gate g).ownedBy who = false) ∧
    (∃ s : State, ∃ who : Party, ∃ g target : Nat, s.running = true ∧ g < 65536 ∧ target < 4294967296 ∧
      (s.gate g).ownedBy who = true) ∧
    (∃ s : State, ∃ who : Party, ∃ g : Nat, ∃ d : Int, s.running = true ∧ g < 65536 ∧ (s.gate g).ownedBy who = true ∧
      0 ≤ ((s.gate g).target : Int) + d ∧ ((s.gate g).target : Int) + d < 4294967296) ∧
    (∃ s : State, ∃ who : Party, ∃ g : Nat, ∃ d : Int, s.running = true ∧ g < 65536 ∧ (s.gate g).ownedBy who = true ∧
      (((s.gate g).target : Int) + d < 0 ∨ 4294967296 ≤ ((s.gate g).target : Int) + d)) ∧
    (∃ s : State, ∃ who : Party, ∃ g : Nat, s.running = true ∧ g < 65536 ∧ (s.gate g).ownedBy who = true) ∧
    (∃ s : State, ∃ who : Party, ∃ g : Nat, s.running = true ∧ g < 65536 ∧ (s.gate g).kind ≠ 0 ∧
      s.gates.waits.filter (fun w => w.g == g && w.who == who) ≠ []) ∧
    (∃ s : State, ∃ who : Party, ∃ g : Nat, s.running = true ∧ g < 65536 ∧
      ((s.gate g).kind = 0 ∨ s.gates.waits.filter (fun w => w.g == g && w.who == who) = [])) ∧
    (∃ s : State, ∃ who : Party, ∃ g src : Nat, s.running = true ∧ g < 65536 ∧ src < 65536 ∧
      (s.gate g).ownedBy who = true) :=
  ⟨⟨fw, .session 0, 2048, 1, by decide +kernel⟩,
   ⟨fw.setGate 2048 (owned 0 0), .session 0, 2048, 1, { owned 0 0 with count := 2 }, by decide +kernel⟩,
   ⟨fw.setGate 2048 (owned 0 0), .grid 56 24, 56, 2048, 9, 0, by decide +kernel⟩,
   ⟨fw, .session 0, 2048, 0, by decide +kernel⟩,
   ⟨fw, .session 0, 5, 1, by decide +kernel⟩,
   ⟨fw, .session 0, 2048, 1, 0, by decide +kernel⟩,
   ⟨fw.setGate 2048 (owned 0 0), .session 0, 2048, 1, by decide +kernel⟩,
   ⟨fw.setGate 2048 (owned 0 0), .session 0, 2048, -1, by decide +kernel⟩,
   ⟨fw.setGate 2048 (owned 0 0), .session 0, 2048, -6, by decide +kernel⟩,
   ⟨fw.setGate 2048 (owned 0 0), .session 0, 2048, by decide +kernel⟩,
   ⟨({ fw with
      gates := { fw.gates with waits := [⟨.grid 56 24, 56, 0, 2048, 9, 0, 0, 0⟩] } }).setGate 2048 (owned 0 0),
      .grid 56 24, 2048, by decide +kernel⟩,
   ⟨fw, .session 0, 2048, by decide +kernel⟩,
   ⟨fw.setGate 2048 (owned 0 0), .session 0, 2048, 384, by decide +kernel⟩⟩

/-- States and operands that meet the premises of each clause of `Obligations.GateBlocks`. -/
theorem test_witness_GateBlocks :
    (∃ s : State, ∃ ses v : Nat, s.running = true ∧ ses < Config.sessions ∧
      (v % 65536 = 0 ∨ 1024 < v % 65536 ∨ 262144 ≤ v)) ∧
    (∃ s : State, ∃ ses v : Nat, s.running = true ∧ ses < Config.sessions ∧ 0 < v % 65536 ∧ v % 65536 ≤ 1024 ∧
      v < 262144 ∧ s.gates.free.find? (fun e => decide (v % 65536 ≤ e.2)) = none) ∧
    (∃ s : State, ∃ ses v : Nat, ∃ e : Nat × Nat, s.running = true ∧ ses < Config.sessions ∧ 0 < v % 65536 ∧
      v % 65536 ≤ 1024 ∧ v < 262144 ∧ s.gates.free.find? (fun e => decide (v % 65536 ≤ e.2)) = some e) ∧
    (∃ s : State, ∃ ses base : Nat, ∃ b : GateBlock, s.running = true ∧ ses < Config.sessions ∧
      s.gates.blocks.find? (fun b => b.base == base && b.kind == 4 && b.owner == ses) = some b) ∧
    (∃ s : State, ∃ ses base : Nat, s.running = true ∧ ses < Config.sessions ∧
      s.gates.blocks.find? (fun b => b.base == base && b.kind == 4 && b.owner == ses) = none) ∧
    (∃ s : State, ∃ g : Nat, s.running = true ∧ g < 2048) ∧
    (∃ s : State, ∃ g : Nat, s.running = true ∧ 2048 ≤ g ∧ g < 65536) ∧
    (∃ s : State, ∃ ses : Nat, s.running = true ∧ ses < Config.sessions) :=
  ⟨⟨fw, 0, 65536, by decide +kernel⟩,
   ⟨{ fw with gates := { fw.gates with blocks := [⟨2048, 63488, 0, 4, 0, []⟩] } }, 0, 4, by decide +kernel⟩,
   ⟨fw, 0, 4, (2048, 63488), by decide +kernel⟩,
   ⟨{ fw with gates := { fw.gates with blocks := [session 2048] } }, 0, 2048, session 2048, by decide +kernel⟩,
   ⟨fw, 0, 2048, by decide +kernel⟩,
   ⟨fw, 0, by decide +kernel⟩,
   ⟨fw, 2048, by decide +kernel⟩,
   ⟨fw, 0, by decide +kernel⟩⟩

/-- States and operands that meet the premises of each clause of `Obligations.EventSources`. -/
theorem test_witness_EventSources :
    (∃ s : State, ∃ n : Nat, s.running = true ∧ n < 1024 ∧ s.sourceLevel n = s.ev.high.contains n) ∧
    (∃ s : State, ∃ n : Nat, s.running = true ∧ n < 1024 ∧ s.sourceLevel n = false ∧ s.ev.high.contains n = true) ∧
    (∃ s : State, ∃ n : Nat, s.running = true ∧ n < 1024 ∧ s.sourceLevel n = true ∧ s.ev.high.contains n = false) ∧
    (∃ s : State, ∃ c : Nat, s.running = true ∧ c < 68 ∧ get [] s.ev.fast c ≠ []) ∧
    (∃ s : State, ∃ c : Nat, s.running = true ∧ c < 68 ∧ get [] s.ev.fast c = [] ∧
      s.ev.pending.find? (fun e => e.1 / 1024 == c) = none) ∧
    (∃ s : State, ∃ c : Nat, ∃ e : Nat × EvRec, s.running = true ∧ c < 68 ∧ 64 ≤ c ∧ get [] s.ev.fast c = [] ∧
      s.ev.pending.find? (fun e => e.1 / 1024 == c) = some e) ∧
    (∃ s : State, ∃ c : Nat, ∃ e : Nat × EvRec, s.running = true ∧ c < 64 ∧ get [] s.ev.fast c = [] ∧
      s.ev.pending.find? (fun e => e.1 / 1024 == c) = some e) ∧
    (∃ s : State, ∃ c n : Nat, s.running = true ∧ c < 68 ∧ n < 1024 ∧ s.ev.service.contains (ekey c n) = true) ∧
    (∃ s : State, ∃ c n : Nat, s.running = true ∧ c < 68 ∧ n < 1024 ∧ s.ev.service.contains (ekey c n) = false) ∧
    (∃ s : State, ∃ c n : Nat, s.running = true ∧ c < 68 ∧ n < 1024 ∧ bit (s.srcWord n) 4 = false) ∧
    (∃ s : State, ∃ c n : Nat, s.running = true ∧ c < 68 ∧ n < 1024 ∧ bit (s.srcWord n) 4 = true) ∧
    (∃ s : State, ∃ c n : Nat, s.running = true ∧ c < 68 ∧ n < 1024) ∧
    (∃ s : State, ∃ c : Nat, s.running = true ∧ c < 68 ∧ get [] s.ev.fast c = []) ∧
    (∃ s : State, ∃ c : Nat, ∃ r : EvRec, ∃ rest : List EvRec, s.running = true ∧ c < 68 ∧
      get [] s.ev.fast c = r :: rest) ∧
    (∃ s : State, ∃ ses off : Nat, ∃ d : List Byte, s.running = true ∧ ses < 32 ∧
      (d = [] ∨ d.length % 4 ≠ 0 ∨ off % 4 ≠ 0 ∨ 1024 < s.win ses 0x6900 0x02 + off / 4 + d.length / 4)) ∧
    (∃ s : State, ∃ ses off : Nat, ∃ d : List Byte, s.running = true ∧ ses < 32 ∧ d ≠ [] ∧ d.length % 4 = 0 ∧
      off % 4 = 0 ∧ s.win ses 0x6900 0x02 + off / 4 + d.length / 4 ≤ 1024 ∧
      (srcWords (s.win ses 0x6900 0x02 + off / 4) d s).2 = true) ∧
    (∃ s : State, ∃ ses off : Nat, ∃ d : List Byte, s.running = true ∧ ses < 32 ∧ d ≠ [] ∧ d.length % 4 = 0 ∧
      off % 4 = 0 ∧ s.win ses 0x6900 0x02 + off / 4 + d.length / 4 ≤ 1024 ∧
      (srcWords (s.win ses 0x6900 0x02 + off / 4) d s).2 = false) ∧
    (∃ s : State, ∃ ses : Nat, s.running = true ∧ ses < 32) :=
  ⟨⟨fw, 0, by decide +kernel⟩,
   ⟨{ fw with ev := { fw.ev with high := [0] } }, 0, by decide +kernel⟩,
   ⟨{ fw with ev := { fw.ev with high := [] } }, 312, by decide +kernel⟩,
   ⟨{ fw with ev := { fw.ev with fast := List.replicate 64 [⟨1, 2, 3, 4⟩] } }, 5, by decide +kernel⟩,
   ⟨fw, 64, by decide +kernel⟩,
   ⟨{ fw with ev := { fw.ev with pending := [(ekey 64 5, ⟨5, 0, 0, 0⟩)] } }, 64, (ekey 64 5, ⟨5, 0, 0, 0⟩),
      by decide +kernel⟩,
   ⟨{ fw with ev := { fw.ev with pending := [(0, ⟨1, 2, 3, 4⟩)] } }, 0, (0, ⟨1, 2, 3, 4⟩), by decide +kernel⟩,
   ⟨{ fw with ev := { fw.ev with service := [ekey 64 5] } }, 64, 5, by decide +kernel⟩,
   ⟨fw, 64, 5, by decide +kernel⟩,
   ⟨fw, 0, 1023, by decide +kernel⟩,
   ⟨fw.setSrcWord 312 2064, 64, 312, by decide +kernel⟩,
   ⟨fw, 0, 0, by decide +kernel⟩,
   ⟨fw, 67, by decide +kernel⟩,
   ⟨{ fw with ev := { fw.ev with fast := List.replicate 68 [⟨5, 0, 0, 0⟩] } }, 67, ⟨5, 0, 0, 0⟩, [],
      by decide +kernel⟩,
   ⟨fw, 0, 0, [1], by decide +kernel⟩,
   ⟨fw.setWin 0 0x6900 0x02 384, 0, 0, [0, 0, 0, 0], by decide +kernel⟩,
   ⟨fw, 0, 0, [255, 255, 255, 255], by decide +kernel⟩,
   ⟨fw, 0, by decide +kernel⟩⟩

/-- States and operands that meet the premises of each clause of `Obligations.SlotCommands`. -/
theorem test_witness_SlotCommands :
    (∃ s : State, ∃ ses n : Nat, s.running = true ∧ ses < Config.sessions ∧ n < 24) ∧
    (∃ s : State, ∃ ses n off : Nat, ∃ d : List Byte, s.running = true ∧ ses < Config.sessions ∧ 24 ≤ n ∧
      n < Config.slots ∧ d ≠ [] ∧ off + d.length ≤ 8192 ∧ s.win ses (0x6100 + n) 0x04 < 524288 ∧
      (s.loadOpen n = true ∨ s.openTxns < 32) ∧ n < s.slots.length ∧ ((∀ c,
      s.loadCount n = some c → s.win ses (0x6100 + n) 0x04 = 0 ∨ s.win ses (0x6100 + n) 0x04 < c))) ∧
    (∃ s : State, ∃ ses n off : Nat, ∃ d : List Byte, s.running = true ∧ ses < Config.sessions ∧ 24 ≤ n ∧
      n < Config.slots ∧ (d = [] ∨ 8192 < off + d.length ∨ 524288 ≤ s.win ses (0x6100 + n) 0x04 ∨ (∃ c,
      s.loadCount n = some c ∧ 0 < s.win ses (0x6100 + n) 0x04 ∧ c ≤ s.win ses (0x6100 + n) 0x04))) ∧
    (∃ s : State, ∃ ses n : Nat, s.running = true ∧ ses < Config.sessions ∧ n < Config.slots ∧
      (n < 24 ∨ (s.slot n).st ≠ .loading)) ∧
    (∃ s : State, ∃ ses n : Nat, s.running = true ∧ ses < Config.sessions ∧ 24 ≤ n ∧ n < Config.slots ∧
      (s.slot n).st = .loading ∧ containerOk (s.slot n).image = false) ∧
    (∃ s : State, ∃ ses n : Nat, s.running = true ∧ ses < Config.sessions ∧ 24 ≤ n ∧ n < Config.slots ∧
      (s.slot n).st = .loading ∧ containerOk (s.slot n).image = true ∧ (s.tide.active ≠ n ∧
      s.tide.staged ≠ n ∨ s.descOk (s.slot n).program = true)) ∧
    (∃ s : State, ∃ ses n : Nat, s.running = true ∧ ses < Config.sessions ∧ 24 ≤ n ∧ n < Config.slots ∧
      (s.slot n).st = .loading ∧ containerOk (s.slot n).image = true ∧ (s.tide.active = n ∨ s.tide.staged = n) ∧
      s.descOk (s.slot n).program = false) ∧
    (∃ s : State, ∃ ses n : Nat, s.running = true ∧ ses < Config.sessions ∧ n < Config.slots ∧
      (n < 24 ∨ (s.slot n).st ≠ .loaded)) ∧
    (∃ s : State, ∃ ses n : Nat, s.running = true ∧ ses < Config.sessions ∧ 24 ≤ n ∧ n < Config.slots ∧
      (s.slot n).st = .loaded ∧
      (s.place (s.region (s.slot n).program) (s.slot n).program.width (s.slot n).program.height = none ∨
      (s.writtenBinds n).all (bindingOk (s.slot n).program n) = false)) ∧
    (∃ s : State, ∃ ses n first : Nat, s.running = true ∧ ses < Config.sessions ∧ 24 ≤ n ∧ n < Config.slots ∧
      (s.slot n).st = .loaded ∧
      s.place (s.region (s.slot n).program) (s.slot n).program.width (s.slot n).program.height = some first ∧
      ((List.range ((s.slot n).program.width * (s.slot n).program.height)).all fun j =>
      decide (coreWaits (s.slot n).program j ≤ 8)) = true ∧
      (s.writtenBinds n).all (bindingOk (s.slot n).program n) = true ∧
      (allocBlocks n (s.slot n).program.gates s).1.any (fun b => b.1 == 0) = false) ∧
    (∃ s : State, ∃ ses n : Nat, s.running = true ∧ ses < Config.sessions ∧ 24 ≤ n ∧ n < Config.slots ∧
      ((s.slot n).st = .bound ∨ (s.slot n).st = .fault)) ∧
    (∃ s : State, ∃ ses n : Nat, s.running = true ∧ ses < Config.sessions ∧ n < Config.slots ∧
      (n < 24 ∨ (s.slot n).st ≠ .bound ∧ (s.slot n).st ≠ .fault)) ∧
    (∃ s : State, ∃ ses n : Nat, s.running = true ∧ ses < Config.sessions ∧ n < Config.slots ∧
      (s.slot n).st ≠ .fault) ∧
    (∃ s : State, ∃ ses n : Nat, ∃ r : Running, s.running = true ∧ ses < Config.sessions ∧ n < Config.slots ∧
      (s.slot n).st = .fault ∧ (s.slot n).rt = some r ∧ r.cores.any (fun c => s.grid.failed.contains c) = false) ∧
    (∃ s : State, ∃ ses n : Nat, s.running = true ∧ ses < Config.sessions ∧ 24 ≤ n ∧ n < Config.slots ∧
      ((s.slot n).st = .loading ∨ (s.slot n).st = .loaded ∨ (s.slot n).st = .refused)) ∧
    (∃ s : State, ∃ ses n : Nat, s.running = true ∧ ses < Config.sessions ∧ n < Config.slots ∧
      (n < 24 ∨ (s.slot n).st = .empty ∨ (s.slot n).st = .bound ∨ (s.slot n).st = .fault)) ∧
    (∃ s : State, ∃ n : Nat, ∃ r : Running, s.running = true ∧ 24 ≤ n ∧ n < Config.slots ∧ (s.slot n).st = .bound ∧
      (s.slot n).rt = some r ∧ r.stages.any (fun y => decide (16 ≤ y.run)) = true) :=
  ⟨⟨fw, 0, 23, by decide +kernel⟩,
   ⟨slotAt .loaded 0, 0, 24, 0, [0], by decide +kernel⟩,
   ⟨fw, 0, 24, 0, [], by decide +kernel⟩,
   ⟨fw, 0, 24, by decide +kernel⟩,
   ⟨fw.updSlot 24 (fun x => { x with st := .loading }), 0, 24, by decide +kernel⟩,
   ⟨slotAt .loading 0, 0, 24, by decide +kernel⟩,
   ⟨{ (slotAt .loading 0) with tide := { fw.tide with staged := 24 } }, 0, 24, by decide +kernel⟩,
   ⟨fw, 0, 63, by decide +kernel⟩,
   ⟨{ (slotAt .loaded 0) with grid := { fw.grid with failed := List.range 64 } }, 0, 24, by decide +kernel⟩,
   ⟨slotAt .loaded 0, 0, 24, 8, by decide +kernel⟩,
   ⟨bound none 0, 0, 24, by decide +kernel⟩,
   ⟨fw, 0, 24, by decide +kernel⟩,
   ⟨fw, 0, 24, by decide +kernel⟩,
   ⟨{ (bound none 0) with slots := upd (bound none 0).slots 24 (fun x => { x with st := .fault }) }, 0, 24,
      ran none 0, by decide +kernel⟩,
   ⟨slotAt .refused 0, 0, 24, by decide +kernel⟩,
   ⟨fw, 0, 23, by decide +kernel⟩,
   ⟨bound none 16, 24, ran none 16, by decide +kernel⟩⟩

/-- States and operands that meet the premises of each clause of `Obligations.DryDock`. -/
theorem test_witness_DryDock :
    (∃ s : State, ∃ ses : Nat, s.running = true ∧ ses < Config.sessions ∧
      (s.dock.st = .placing ∨ s.dock.st = .running)) ∧
    (∃ s : State, ∃ ses : Nat, s.running = true ∧ ses < Config.sessions ∧ s.dock.st ≠ .placing ∧
      s.dock.st ≠ .running) ∧
    (∃ s : State, ∃ ses : Nat, s.running = true ∧ ses < Config.sessions ∧ s.dock.st ≠ .placing ∧
      s.dock.st ≠ .running ∧ s.checkpointAt (s.cfgU 0x6A00 0x03) (s.cfgU 0x6A00 0x05) = none) ∧
    (∃ s : State, ∃ ses u w h : Nat, ∃ ck : CapRecord, ∃ first : Nat, s.running = true ∧ ses < Config.sessions ∧
      s.dock.st ≠ .placing ∧ s.dock.st ≠ .running ∧ u = s.cfgU 0x6A00 0x03 ∧ s.cfgU 0x6A00 0x04 = 0xFF ∧
      freeSlot u = false ∧ fwRect u = some (w, h) ∧ s.checkpointAt u (s.cfgU 0x6A00 0x05) = some ck ∧
      s.place s.userCores w h = some first) ∧
    (∃ s : State, s.running = true ∧ s.dock.st = .running ∧
      tagGe s.dock.tag ((s.dock.end_ + 1) % 4294967296) = true) :=
  ⟨⟨{ fw with dock := { fw.dock with st := .running } }, 0, by decide +kernel⟩,
   ⟨fw, 0, by decide +kernel⟩,
   ⟨fw, 0, by decide +kernel⟩,
   ⟨{ (fw.setCfg 0x6A00 0x03 20).setCfg 0x6A00 0x04 0xFF with
      cap := { fw.cap with records := [⟨0, 0, [0, 0, 3, 20]⟩] } }, 0, 20, 1, 1, ⟨0, 0, [0, 0, 3, 20]⟩, 8,
      by decide +kernel⟩,
   ⟨{ fw with dock := { fw.dock with st := .running, tag := 5, end_ := 4 } }, by decide +kernel⟩⟩

/-- States and operands that meet the premises of each clause of `Obligations.ClockServo`. -/
theorem test_witness_ClockServo :
    (∃ s : State, ∃ dom d : Nat, s.running = true ∧ s.ptpSlave = true ∧ s.clk.st ≠ .following ∧
      dom = s.cfgU 0x1200 0x02 ∧ d ≤ s.cfgU 0x1200 0x0C) ∧
    (∃ s : State, ∃ st : Bool, ∃ dom : Nat, s.running = true ∧
      (s.ptpSlave = false ∨ st = false ∨ dom ≠ s.cfgU 0x1200 0x02)) ∧
    (∃ s : State, ∃ d : Nat, s.running = true ∧ (s.clk.st = .following ∨ s.cfgU 0x1200 0x0C < d)) ∧
    (∃ s : State, ∃ d : Nat, s.running = true ∧ d ≤ s.cfgU 0x1200 0x0C) ∧
    (∃ s : State, ∃ dom d : Nat, s.running = true ∧ s.ptpSlave = true ∧ dom = s.cfgU 0x1200 0x02 ∧
      s.cfgU 0x1200 0x0C < d ∧ s.clk.discards < 7) ∧
    (∃ s : State, ∃ dom d : Nat, s.running = true ∧ s.ptpSlave = true ∧ dom = s.cfgU 0x1200 0x02 ∧
      s.cfgU 0x1200 0x0C < d ∧ s.clk.discards = 7 ∧ s.clk.up1107 = false) ∧
    (∃ s : State, s.running = true ∧ (s.clk.st = .locked ∨ s.clk.st = .acquiring) ∧
      s.clk.lastMeas + s.cfgU 0x0010 0x0A * ms ≤ s.now) ∧
    (∃ s : State, s.running = true ∧ ((s.clk.st ≠ .locked ∧
      s.clk.st ≠ .acquiring) ∨ s.now < s.clk.lastMeas + s.cfgU 0x0010 0x0A * ms)) ∧
    (∃ s : State, s.running = true ∧ (s.now % ms ≠ 0 ∨ s.clk.st = .following)) ∧
    (∃ s : State, s.running = true ∧ s.now % ms = 0 ∧ s.clk.st ≠ .following ∧ s.stepAllowed = false) ∧
    (∃ s : State, ∃ d : Int, s.running = true ∧ s.now % ms = 0 ∧ s.clk.st ≠ .following ∧ s.stepAllowed = true ∧
      s.clk.pendingStep = some d) ∧
    (∃ s : State, ∃ a b : Nat, s.running = true ∧ s.decides a b = false) ∧
    (∃ s : State, ∃ a b : Nat, s.running = true ∧ s.decides a b = true ∧ s.clk.st = .holdover ∧ a ≠ 9) ∧
    (∃ s : State, ∃ a b : Nat, s.running = true ∧ s.decides a b = true ∧ (s.clk.st ≠ .holdover ∨ a = 9)) ∧
    (∃ s : State, s.running = true ∧ s.port.link = 2 ∧ s.paused 7 = false ∧ s.ptpDue .sync = true ∧
      s.hw.released = false) ∧
    (∃ s : State, s.running = true ∧ s.port.link = 2 ∧ s.paused 7 = false ∧ s.ptpDue .announce = true ∧
      s.hw.released = false) ∧
    (∃ s : State, s.running = true ∧ s.port.link = 2 ∧ s.paused 7 = false ∧ s.ptpDue .delayReq = true ∧
      s.hw.released = false) ∧
    (∃ s : State, ∃ k : PtpMessage, s.running = true ∧ (s.port.link ≠ 2 ∨ s.ptpDue k = false)) ∧
    (∃ s : State, ∃ k : PtpMessage, s.running = true ∧ s.port.link = 2 ∧ s.ptpDue k = true ∧ s.paused 7 = true) :=
  ⟨⟨{ fw with clk := { fw.clk with slaveState := 9 } }, fw.cfgU 0x1200 0x02, 0, by decide +kernel⟩,
   ⟨fw, true, 0, by decide +kernel⟩,
   ⟨{ fw with clk := { fw.clk with st := .following } }, 0, by decide +kernel⟩,
   ⟨fw, 0, by decide +kernel⟩,
   ⟨{ fw with clk := { fw.clk with slaveState := 9 } }, fw.cfgU 0x1200 0x02, 10 ^ 9, by decide +kernel⟩,
   ⟨{ fw with clk := { fw.clk with slaveState := 9, discards := 7 } }, fw.cfgU 0x1200 0x02, 10 ^ 9,
      by decide +kernel⟩,
   ⟨at_ ({ fw with clk := { fw.clk with st := .locked } }) (10 ^ 13), by decide +kernel⟩,
   ⟨fw, by decide +kernel⟩,
   ⟨at_ fw 7, by decide +kernel⟩,
   ⟨{ fw with loop := { fw.loop with st := .run } }, by decide +kernel⟩,
   ⟨{ fw with clk := { fw.clk with pendingStep := some 5 } }, 5, by decide +kernel⟩,
   ⟨fw, 9, 4, by decide +kernel⟩,
   ⟨{ fw with clk := { fw.clk with st := .holdover } }, 4, 4, by decide +kernel⟩,
   ⟨fw, 4, 4, by decide +kernel⟩,
   ⟨{ (({ fw with
      port := { fw.port with link := 2 } }).setCfg 0x1200 0x01 1) with clk := { fw.clk with masterState := 6 } },
      by decide +kernel⟩,
   ⟨{ (({ fw with
      port := { fw.port with link := 2 } }).setCfg 0x1200 0x01 1) with clk := { fw.clk with masterState := 6 } },
      by decide +kernel⟩,
   ⟨{ { fw with port := { fw.port with link := 2 } } with clk := { fw.clk with slaveState := 9 } },
      by decide +kernel⟩,
   ⟨fw, .sync, by decide +kernel⟩,
   ⟨{ { fw with
      port := { fw.port with
      link := 2, pauseUntil := List.replicate 8 9 } } with clk := { fw.clk with slaveState := 9 } }, .delayReq,
      by decide +kernel⟩⟩

/-- States and operands that meet the premises of each clause of `Obligations.ClockFaults`. -/
theorem test_witness_ClockFaults :
    (∃ s : State, ∃ x : Rat, s.running = true ∧ 200 < absQ x ∧ s.clk.crystalRun = 2) ∧
    (∃ s : State, ∃ x : Rat, s.running = true ∧ 200 < absQ x ∧ s.clk.crystalRun ≠ 2) ∧
    (∃ s : State, ∃ x : Rat, s.running = true ∧ absQ x ≤ 200) ∧
    (∃ s : State, ∃ i : Island, s.running = true ∧ (i = .keeper ∨ i = .net ∨ i = .mem ∨ i = .tow)) ∧
    (∃ s : State, ∃ i : Island, s.running = true ∧ (i = .edge ∨ i = .grid)) ∧
    (∃ s : State, s.running = true) ∧
    (∃ s : State, ∃ f : Bytes, ∃ m : PairMsg, s.running = true ∧ 2 ≤ s.pair.link ∧ parsePair f = some m ∧ m.typ = 2 ∧
      (s.pair.role = .standby ∨ s.pair.role = .unsynced) ∧ 2 ≤ m.time) ∧
    (∃ s : State, ∃ f : Bytes, ∃ m : PairMsg, s.running = true ∧ 2 ≤ s.pair.link ∧ parsePair f = some m ∧ m.typ = 2 ∧
      s.pair.role ≠ .standby ∧ s.pair.role ≠ .unsynced) ∧
    (∃ s : State, ∃ f : Bytes, ∃ m : PairMsg, s.running = true ∧ parsePair f = some m ∧
      (s.pair.link < 2 ∨ m.typ ≠ 2)) :=
  ⟨⟨{ fw with clk := { fw.clk with crystalRun := 2 } }, 201, by decide +kernel⟩,
   ⟨fw, 201, by decide +kernel⟩,
   ⟨fw, 200, by decide +kernel⟩,
   ⟨fw, .net, by decide +kernel⟩,
   ⟨fw, .edge, by decide +kernel⟩,
   ⟨fw, by decide +kernel⟩,
   ⟨link .standby, hello 2 [], pairMsg (hello 2 []), by decide +kernel⟩,
   ⟨link .active, hello 2 [], pairMsg (hello 2 []), by decide +kernel⟩,
   ⟨fw, hello 2 [], pairMsg (hello 2 []), by decide +kernel⟩⟩

/-- States and operands that meet the premises of each clause of `Obligations.PairFrames`. -/
theorem test_witness_PairFrames :
    (∃ s : State, ∃ f : Bytes, s.running = true ∧ 2 ≤ s.pair.link ∧ parsePair f = none) ∧
    (∃ s : State, s.running = true ∧ s.pair.link < 2) ∧
    (∃ s : State, ∃ f : Bytes, ∃ m : PairMsg, s.running = true ∧ 2 ≤ s.pair.link ∧ parsePair f = some m ∧ m.typ = 1 ∧
      s.pair.role ≠ .deciding) ∧
    (∃ s : State, s.running = true ∧ s.pair.role = .active ∧ s.now % 100000 = 0 ∧
      (s.pair.number = 0 ∨ s.pair.lastAt ≠ s.now)) ∧
    (∃ s : State, s.running = true ∧ (s.now % 100000 ≠ 0 ∨ s.pair.role ≠ .active ∨ (s.pair.number ≠ 0 ∧
      s.pair.lastAt = s.now))) ∧
    (∃ s : State, ∃ f : Bytes, ∃ m : PairMsg, s.running = true ∧ 2 ≤ s.pair.link ∧ parsePair f = some m ∧ m.typ = 3 ∧
      s.pair.role = .standby ∧ m.payload.length = 4104 ∧ u8At m.payload 4 < 8 ∧ u8At m.payload 5 = 8 ∧
      s.pair.parts = []) ∧
    (∃ s : State, ∃ f : Bytes, ∃ m : PairMsg, ∃ ps : List (Nat × Bytes), s.running = true ∧ 2 ≤ s.pair.link ∧
      parsePair f = some m ∧ m.typ = 3 ∧ s.pair.role = .standby ∧ m.payload.length = 4104 ∧ u8At m.payload 4 < 8 ∧
      u8At m.payload 5 = 8 ∧ s.pair.partsOf = u32At m.payload 0 ∧
      Store.ins (u8At m.payload 4) (m.payload.drop 8) (Store.del s.pair.parts (u8At m.payload 4)) = ps ∧
      ps.length = 8 ∧ u16At (ps.flatMap fun (e : Nat × Bytes) => e.2) 4 = s.sec.image.layout) ∧
    (∃ s : State, ∃ f : Bytes, ∃ m : PairMsg, ∃ ps : List (Nat × Bytes), s.running = true ∧ 2 ≤ s.pair.link ∧
      parsePair f = some m ∧ m.typ = 3 ∧ s.pair.role = .standby ∧ m.payload.length = 4104 ∧ u8At m.payload 4 < 8 ∧
      u8At m.payload 5 = 8 ∧ s.pair.partsOf = u32At m.payload 0 ∧
      Store.ins (u8At m.payload 4) (m.payload.drop 8) (Store.del s.pair.parts (u8At m.payload 4)) = ps ∧
      ps.length = 8 ∧ u16At (ps.flatMap fun (e : Nat × Bytes) => e.2) 4 ≠ s.sec.image.layout) ∧
    (∃ s : State, ∃ f : Bytes, ∃ m : PairMsg, s.running = true ∧ 2 ≤ s.pair.link ∧ parsePair f = some m) ∧
    (∃ s : State, ∃ f : Bytes, ∃ m : PairMsg, s.running = true ∧ 2 ≤ s.pair.link ∧ parsePair f = some m ∧ m.typ = 4 ∧
      s.pair.role = .active) ∧
    (∃ s : State, ∃ f : Bytes, ∃ m : PairMsg, ∃ r : ObjRow, s.running = true ∧ 2 ≤ s.pair.link ∧
      parsePair f = some m ∧ m.typ = 5 ∧ (s.pair.role = .standby ∨ s.pair.role = .unsynced) ∧
      objRow (u16At m.payload 0) (u8At m.payload 2) = some r ∧ (r.acc = .rws ∨ r.acc = .rwl) ∧
      r.len = u32At m.payload 4 ∧ restorable (okey (u16At m.payload 0) (u8At m.payload 2)) = true) ∧
    (∃ s : State, ∃ f : Bytes, ∃ m : PairMsg, s.running = true ∧ 2 ≤ s.pair.link ∧ parsePair f = some m ∧ m.typ = 6 ∧
      s.pair.role = .standby) ∧
    (∃ s : State, ∃ f : Bytes, ∃ m : PairMsg, s.running = true ∧ 2 ≤ s.pair.link ∧ parsePair f = some m ∧ m.typ = 3 ∧
      s.pair.role ≠ .standby ∧ s.pair.role ≠ .unsynced) ∧
    (∃ s : State, ∃ f : Bytes, ∃ m : PairMsg, s.running = true ∧ 2 ≤ s.pair.link ∧ parsePair f = some m ∧ m.typ = 4 ∧
      s.pair.role ≠ .active) ∧
    (∃ s : State, ∃ f : Bytes, ∃ m : PairMsg, s.running = true ∧ 2 ≤ s.pair.link ∧ parsePair f = some m ∧ m.typ = 5 ∧
      s.pair.role ≠ .standby ∧ s.pair.role ≠ .unsynced) ∧
    (∃ s : State, ∃ f : Bytes, ∃ m : PairMsg, s.running = true ∧ 2 ≤ s.pair.link ∧ parsePair f = some m ∧ m.typ = 6 ∧
      s.pair.role ≠ .standby) :=
  ⟨⟨link .active, [], by decide +kernel⟩,
   ⟨fw, by decide +kernel⟩,
   ⟨link .active, hello 1 (List.replicate 16 0), pairMsg (hello 1 (List.replicate 16 0)), by decide +kernel⟩,
   ⟨at_ ({ fw with pair := { fw.pair with role := .active } }) 100000, by decide +kernel⟩,
   ⟨at_ ({ fw with pair := { fw.pair with role := .active } }) 99999, by decide +kernel⟩,
   ⟨link .standby, hello 3 part0, ⟨3, 0, 0, 10, part0⟩, by decide +kernel, by decide +kernel,
      parsePair_pairFrame 3 0 0 10 part0 (by decide +kernel) (by decide +kernel) (by decide) (by decide)
      (by decide) (by decide), rfl, rfl, by decide +kernel, by decide +kernel, by decide +kernel, rfl⟩,
   ⟨parts7, hello 3 part0, ⟨3, 0, 0, 10, part0⟩, _, by decide +kernel, by decide +kernel,
      parsePair_pairFrame 3 0 0 10 part0 (by decide +kernel) (by decide +kernel) (by decide) (by decide)
      (by decide) (by decide), rfl, rfl, by decide +kernel, by decide +kernel, by decide +kernel, by decide +kernel,
      rfl, by decide +kernel, by decide +kernel⟩,
   ⟨parts7, hello 3 part1, ⟨3, 0, 0, 10, part1⟩, _, by decide +kernel, by decide +kernel,
      parsePair_pairFrame 3 0 0 10 part1 (by decide +kernel) (by decide +kernel) (by decide) (by decide)
      (by decide) (by decide), rfl, rfl, by decide +kernel, by decide +kernel, by decide +kernel, by decide +kernel,
      rfl, by decide +kernel, by decide +kernel⟩,
   ⟨link .active, hello 1 (List.replicate 16 0), pairMsg (hello 1 (List.replicate 16 0)), by decide +kernel⟩,
   ⟨link .active, hello 4 (List.replicate 8 1), pairMsg (hello 4 (List.replicate 8 1)), by decide +kernel⟩,
   ⟨link .standby, hello 5 (le 2 0x2000 ++ [0x1D, 0] ++ le 4 4 ++ [1] ++ List.replicate 7 0),
      pairMsg (hello 5 (le 2 0x2000 ++ [0x1D, 0] ++ le 4 4 ++ [1] ++ List.replicate 7 0)),
      (objRow 0x2000 0x1D).getD ⟨0, 1, 1, .u8, .ro, 1, 36, none⟩, by decide +kernel⟩,
   ⟨link .standby, hello 6 (List.replicate 8 0), pairMsg (hello 6 (List.replicate 8 0)), by decide +kernel⟩,
   ⟨link .active, hello 3 [], pairMsg (hello 3 []), by decide +kernel⟩,
   ⟨link .standby, hello 4 [], pairMsg (hello 4 []), by decide +kernel⟩,
   ⟨link .active, hello 5 [], pairMsg (hello 5 []), by decide +kernel⟩,
   ⟨link .unsynced, hello 6 [], pairMsg (hello 6 []), by decide +kernel⟩⟩

/-- States and operands that meet the premises of each clause of `Obligations.PairRoles`. -/
theorem test_witness_PairRoles :
    (∃ s : State, s.running = true ∧ s.pair.role = .deciding ∧ s.pair.conflict = false ∧
      s.pair.since + 200 * ms ≤ s.now ∧ s.pair.roleIn = false ∧ s.pair.link < 2) ∧
    (∃ s : State, ∃ k : Nat, s.running = true ∧ s.pair.role = .standby ∧ s.pair.handover = none ∧
      s.pair.roleIn = false ∧ s.pair.missRun = 2 ∧ k = (s.now - 50000) / 100000 * 100000 ∧ 50000 ≤ s.now ∧
      s.pair.since ≤ k ∧ s.onTime k = false ∧ s.pair.missAt ≠ some (k + 50000)) ∧
    (∃ s : State, ∃ k : Nat, s.running = true ∧ s.pair.role = .standby ∧ s.pair.handover = none ∧
      k = (s.now - 50000) / 100000 * 100000 ∧ 50000 ≤ s.now ∧ s.pair.since ≤ k ∧ s.onTime k = false ∧
      s.pair.missAt ≠ some (k + 50000) ∧ s.pair.missRun < 2) ∧
    (∃ s : State, ∃ k : Nat, s.running = true ∧ s.pair.role = .standby ∧ s.pair.handover = none ∧
      s.pair.roleIn = true ∧ k = (s.now - 50000) / 100000 * 100000 ∧ 50000 ≤ s.now ∧ s.pair.since ≤ k ∧
      s.onTime k = false ∧ s.pair.missAt ≠ some (k + 50000) ∧ 2 ≤ s.pair.missRun ∧ s.pair.up5 = false) ∧
    (∃ s : State, s.running = true ∧ s.pair.role ≠ .standby) ∧
    (∃ s : State, s.running = true ∧ s.pair.role = .unsynced) ∧
    (∃ s : State, s.running = true ∧ s.pair.role = .standby) ∧
    (∃ s : State, s.running = true ∧ s.pair.role = .standby ∧ s.pair.handover = none ∧ 3 ≤ s.pair.missRun) ∧
    (∃ s : State, ∃ ses : Nat, s.running = true ∧ ses < Config.sessions ∧ s.pair.role = .standby) ∧
    (∃ s : State, ∃ ses : Nat, s.running = true ∧ ses < Config.sessions ∧ s.pair.role ≠ .standby) ∧
    (∃ s : State, ∃ ses : Nat, s.running = true ∧ ses < Config.sessions ∧ s.pair.role = .active ∧
      s.pair.drill = none) ∧
    (∃ s : State, ∃ ses : Nat, s.running = true ∧ ses < Config.sessions ∧ s.pair.role ≠ .active) ∧
    (∃ s : State, ∃ a : Nat, s.running = true ∧ s.pair.drill = some a ∧ s.now < a + 10 * sec) ∧
    (∃ s : State, ∃ a : Nat, s.running = true ∧ s.pair.drill = some a ∧ a + 10 * sec ≤ s.now) ∧
    (∃ s : State, ∃ ses : Nat, s.running = true ∧ ses < Config.sessions) ∧
    (∃ s : State, s.running = true ∧ s.pair.link = 0) ∧
    (∃ s : State, s.running = true ∧ s.pair.link = 3) ∧
    (∃ s : State, s.running = true ∧ s.pair.link ≠ 0) ∧
    (∃ s : State, s.running = true ∧ s.pair.role = .standby ∧
      max s.pair.since s.pair.selfTestAt + s.cfgU 0x8000 0x11 * sec ≤ s.now) ∧
    (∃ s : State, ∃ ses : Nat, s.running = true ∧ ses < Config.sessions ∧ layoutOk (pendingLayout s) = false) ∧
    (∃ s : State, ∃ ses : Nat, s.running = true ∧ ses < Config.sessions ∧ layoutOk (pendingLayout s) = true ∧
      s.openTxns < 32 ∧ s.pair.layoutTxn = 0) ∧
    (∃ s : State, ∃ ses : Nat, s.running = true ∧ ses < Config.sessions) :=
  ⟨⟨at_ fw 200000000, by decide +kernel⟩,
   ⟨at_ ({ fw with pair := { fw.pair with role := .standby, missRun := 2 } }) 150000, 100000, by decide +kernel⟩,
   ⟨at_ ({ fw with pair := { fw.pair with role := .standby, lastAt := 0 } }) 150000, 100000, by decide +kernel⟩,
   ⟨at_ ({ fw with pair := { fw.pair with role := .standby, lastAt := 0, missRun := 2, roleIn := true } }) 150000,
      100000, by decide +kernel⟩,
   ⟨{ fw with pair := { fw.pair with role := .active } }, by decide +kernel⟩,
   ⟨{ fw with pair := { fw.pair with role := .unsynced } }, by decide +kernel⟩,
   ⟨{ fw with pair := { fw.pair with role := .standby } }, by decide +kernel⟩,
   ⟨{ fw with pair := { fw.pair with role := .standby, missRun := 3 } }, by decide +kernel⟩,
   ⟨{ fw with pair := { fw.pair with role := .standby } }, 0, by decide +kernel⟩,
   ⟨fw, 0, by decide +kernel⟩,
   ⟨{ fw with pair := { fw.pair with role := .active } }, 0, by decide +kernel⟩,
   ⟨fw, 0, by decide +kernel⟩,
   ⟨{ fw with pair := { fw.pair with drill := some 0 } }, 0, by decide +kernel⟩,
   ⟨at_ ({ fw with pair := { fw.pair with drill := some 0 } }) 10000000000, 0, by decide +kernel⟩,
   ⟨fw, 0, by decide +kernel⟩,
   ⟨fw, by decide +kernel⟩,
   ⟨{ fw with pair := { fw.pair with link := 3 } }, by decide +kernel⟩,
   ⟨{ fw with pair := { fw.pair with link := 2 } }, by decide +kernel⟩,
   ⟨at_ ({ fw with pair := { fw.pair with role := .standby } }) (10 ^ 14), by decide +kernel⟩,
   ⟨fw.setCfg 0x8100 0x02 0xFFFF, 0, by decide +kernel⟩,
   ⟨fw, 0, by decide +kernel⟩,
   ⟨fw, 0, by decide +kernel⟩⟩

/-- States and operands that meet the premises of each clause of `Obligations.Takeovers`. -/
theorem test_witness_Takeovers :
    (∃ s : State, s.running = true ∧ (s.pair.role ≠ .taking ∨ s.pair.loaded = true)) ∧
    (∃ s : State, s.running = true ∧ s.pair.role = .taking ∧ s.pair.loaded = false ∧ s.pair.manifest = []) ∧
    (∃ s : State, ∃ m : List Byte, s.running = true ∧ s.pair.role = .taking ∧ s.pair.loaded = false ∧
      s.pair.manifest = m ∧ m ≠ []) ∧
    (∃ s : State, s.running = true ∧ s.pair.role = .taking ∧ s.pair.loaded = true ∧
      ((List.range Config.trays).all fun t => !(s.link t).up || s.pair.edged.contains t) = true) ∧
    (∃ s : State, s.running = true ∧
      (s.pair.role ≠ .taking ∨ s.pair.loaded = false ∨
      ((List.range Config.trays).all fun t => !(s.link t).up || s.pair.edged.contains t) = false)) ∧
    (∃ s : State, s.running = true ∧
      (s.pair.role ≠ .active ∨ s.pair.drill = none ∨ s.now % 100000 ≠ 0 ∨ drillReady s = false)) ∧
    (∃ s : State, s.running = true ∧ s.pair.role = .active ∧ s.pair.drill.isSome = true ∧ s.now % 100000 = 0 ∧
      drillReady s = true) ∧
    (∃ s : State, ∃ a : Nat, s.running = true ∧ s.pair.handover = some a ∧ s.pair.role = .standby ∧
      a + 3 * ms ≤ s.now ∧ s.pair.roleIn = false) ∧
    (∃ s : State, ∃ a : Nat, s.running = true ∧ s.pair.handover = some a ∧ s.pair.role = .standby ∧
      a + 3 * ms ≤ s.now ∧ s.pair.roleIn = true) ∧
    (∃ s : State, ∃ a : Nat, s.running = true ∧ s.pair.handover = some a ∧
      (s.pair.role ≠ .standby ∨ s.now < a + 3 * ms)) ∧
    (∃ s : State, s.running = true ∧ s.pair.handover = none) :=
  ⟨⟨fw, by decide +kernel⟩,
   ⟨{ fw with pair := { fw.pair with role := .taking } }, by decide +kernel⟩,
   ⟨{ fw with pair := { fw.pair with role := .taking, manifest := fullManifest } }, fullManifest, by decide +kernel⟩,
   ⟨{ fw with pair := { fw.pair with role := .taking, loaded := true } }, by decide +kernel⟩,
   ⟨fw, by decide +kernel⟩,
   ⟨fw, by decide +kernel⟩,
   ⟨{ ({ fw with
      loop := { fw.loop with
      st := .run } }) with
      pair := { fw.pair with role := .active, drill := some 0, partnerRole := 2, ackRun := 10 } }, by decide +kernel⟩,
   ⟨at_ ({ fw with pair := { fw.pair with role := .standby, handover := some 0 } }) 3000000, 0, by decide +kernel⟩,
   ⟨at_ ({ fw with pair := { fw.pair with role := .standby, handover := some 0, roleIn := true } }) (10 ^ 7), 0,
      by decide +kernel⟩,
   ⟨{ fw with pair := { fw.pair with role := .standby, handover := some 0 } }, 0, by decide +kernel⟩,
   ⟨fw, by decide +kernel⟩⟩

/-- States and operands that meet the premises of each clause of `Obligations.CaptureCommands`. -/
theorem test_witness_CaptureCommands :
    (∃ s : State, ∃ ses : Nat, s.running = true ∧ ses < Config.sessions ∧ s.cap.st = .off) ∧
    (∃ s : State, ∃ ses : Nat, s.running = true ∧ ses < Config.sessions ∧ s.cap.st = .capturing) ∧
    (∃ s : State, ∃ ses : Nat, s.running = true ∧ ses < Config.sessions ∧ (s.cap.st = .post ∨ s.cap.st = .frozen)) ∧
    (∃ s : State, ∃ ses : Nat, s.running = true ∧ ses < Config.sessions ∧ s.cap.st = .frozen) ∧
    (∃ s : State, s.running = true ∧ (s.cap.st ≠ .post ∨ s.now < s.cap.postUntil)) ∧
    (∃ s : State, s.running = true ∧ s.cap.st = .post ∧ s.cap.postUntil ≤ s.now) :=
  ⟨⟨{ fw with cap := { fw.cap with st := .off } }, 0, by decide +kernel⟩,
   ⟨{ fw with cap := { fw.cap with st := .capturing } }, 0, by decide +kernel⟩,
   ⟨{ fw with cap := { fw.cap with st := .frozen } }, 0, by decide +kernel⟩,
   ⟨{ fw with cap := { fw.cap with st := .frozen } }, 0, by decide +kernel⟩,
   ⟨fw, by decide +kernel⟩,
   ⟨{ fw with cap := { fw.cap with st := .post } }, by decide +kernel⟩⟩

/-- States and operands that meet the premises of each clause of `Obligations.PortFrames`. -/
theorem test_witness_PortFrames :
    (∃ s : State, s.serving 0 = true ∧ s.port.link ≠ 2) ∧
    (∃ s : State, ∃ f : Bytes, s.serving 0 = true ∧ s.port.link = 2 ∧ judgeFrame s f = .dropped) ∧
    (∃ s : State, ∃ f : Bytes, s.serving 0 = true ∧ s.port.link = 2 ∧ judgeFrame s f = .crcFailed) ∧
    (∃ s : State, ∃ f : Bytes, s.serving 0 = true ∧ s.port.link = 2 ∧ judgeFrame s f = .other) ∧
    (∃ s : State, ∃ f : Bytes, s.serving 0 = true ∧ s.vlanKnown (parseEth f).vlan = false) ∧
    (∃ s : State, ∃ f : Bytes, s.serving 0 = true ∧ s.port.link = 2 ∧ s.vlanKnown (parseEth f).vlan = true ∧
      (parseEth f).etype = 0x86DD ∧ u8At (parseEth f).body 6 = 58 ∧ u8At (parseEth f).body 40 = 135 ∧
      s.answers6 (ofBe (slice (parseEth f).body 48 16)) (parseEth f).vlan = true ∧ s.paused 0 = false) ∧
    (∃ s : State, ∃ f g : Bytes, s.serving 0 = true ∧ s.port.link = 2 ∧ judgeFrame s f = .accepted g) ∧
    (∃ s : State, ∃ f : Bytes, s.serving 0 = true ∧ s.port.link = 2 ∧ s.vlanKnown (parseEth f).vlan = true ∧
      (parseEth f).etype = 0x0806 ∧ slice (parseEth f).body 0 8 = [0x00, 0x01, 0x08, 0x00, 0x06, 0x04, 0x00, 0x01] ∧
      s.answers4 (ofBe (slice (parseEth f).body 24 4)) = true ∧ s.paused 0 = false) ∧
    (∃ s : State, ∃ f : Bytes, s.serving 0 = true ∧ s.port.link = 2 ∧ s.vlanKnown (parseEth f).vlan = true ∧
      (parseEth f).etype = 0x0806 ∧ slice (parseEth f).body 0 8 = [0x00, 0x01, 0x08, 0x00, 0x06, 0x04, 0x00, 0x01] ∧
      s.answers4 (ofBe (slice (parseEth f).body 24 4)) = true ∧ s.paused 0 = true) ∧
    (∃ s : State, ∃ f : Bytes, ∃ v t : Nat, ∃ p : Bytes, s.serving 0 = true ∧ s.port.link = 2 ∧
      judgeFrame s f = .ptp v t p) :=
  ⟨⟨fw, by decide +kernel⟩,
   ⟨net, be 6 1, by decide +kernel⟩,
   ⟨{ net with port := { net.port with link := 2 } }, eth badRequest, by decide +kernel⟩,
   ⟨net, be 6 1 ++ be 6 1 ++ be 2 0x8808, by decide +kernel⟩,
   ⟨net, be 6 1 ++ be 6 1 ++ be 2 0x8100 ++ be 2 77 ++ be 2 0x0800, by decide +kernel⟩,
   ⟨net6, solicit, by decide +kernel⟩,
   ⟨net, eth (request 1 1 (List.replicate 8 0)), request 1 1 (List.replicate 8 0), by decide +kernel⟩,
   ⟨net, arp, by decide +kernel⟩,
   ⟨{ net with port := { net.port with pauseUntil := List.replicate 8 9 } }, arp, by decide +kernel⟩,
   ⟨net, ptpFrame, 0, 2, List.replicate 40 0, by decide +kernel⟩⟩

/-- States and operands that meet the premises of each clause of `Obligations.PortState`. -/
theorem test_witness_PortState :
    (∃ s : State, ∃ n k : Nat, s.serving 0 = true ∧ s.port.link ≠ 2 ∧
      k = (if s.port.link = 1 then s.port.mode else s.portMode) ∧ n = modeLanes k ∧ (n = 8 ∨ n = 4 ∨ n = 2)) ∧
    (∃ s : State, ∃ n : Nat, s.serving 0 = true ∧ s.port.link ≠ 2 ∧
      n < modeLanes (if s.port.link = 1 then s.port.mode else s.portMode) ∧ (n = 4 ∨ n = 2)) ∧
    (∃ s : State, s.serving 0 = true ∧ s.port.link = 2) ∧
    (∃ s : State, ∃ a : Nat, s.running = true ∧ s.port.pauseSince = some a ∧ s.cfgU 0x1300 0x04 < s.basin ∧
      s.port.pauseAt + 20000 ≤ s.now) ∧
    (∃ s : State, ∃ a : Nat, s.running = true ∧ s.port.pauseSince = some a ∧ s.basin ≤ s.cfgU 0x1300 0x04) ∧
    (∃ s : State, ∃ a : Nat, s.running = true ∧ s.port.pauseSince = some a ∧ a + ms < s.now ∧ s.port.up1203 = false) ∧
    (∃ s : State, s.running = true ∧ s.grantPaused = true ∧ s.port.up1206 = false) ∧
    (∃ s : State, s.running = true ∧ s.port.link ≠ 2) ∧
    (∃ s : State, ∃ f : Bytes, s.running = true ∧ s.port.link = 2 ∧ ofBe (slice f 12 2) = 0x8808 ∧
      ofBe (slice (f.drop 14) 0 2) = 0x0101 ∧ 20 ≤ (f.drop 14).length ∧ s.port.pfcGot.length = 8 ∧
      s.port.pauseUntil.length = 8) ∧
    (∃ s : State, ∃ ses : Nat, s.running = true ∧ ses < Config.sessions ∧ s.clk.st ≠ .locked ∧
      s.clk.st ≠ .acquiring ∧ s.port.link = 2) ∧
    (∃ s : State, ∃ ses : Nat, s.running = true ∧ ses < Config.sessions ∧
      (s.clk.st = .locked ∨ s.clk.st = .acquiring) ∧ s.port.link = 2) ∧
    (∃ s : State, ∃ ses n : Nat, s.running = true ∧ ses < Config.sessions ∧ Config.sessions ≤ n) ∧
    (∃ s : State, ∃ ses : Nat, s.running = true ∧ ses < Config.sessions) ∧
    (∃ s : State, ∃ ses n : Nat, s.running = true ∧ ses < Config.sessions ∧ n < Config.sessions) :=
  ⟨⟨fw, 8, 0, by decide +kernel⟩,
   ⟨fw, 2, by decide +kernel⟩,
   ⟨{ fw with port := { fw.port with link := 2 } }, by decide +kernel⟩,
   ⟨at_ (({ fw with
      port := { fw.port with pauseSince := some 0, reports := [(0, [1])] } }).setCfg 0x1300 0x04 0) 20000, 0,
      by decide +kernel⟩,
   ⟨{ fw with port := { fw.port with pauseSince := some 0 } }, 0, by decide +kernel⟩,
   ⟨at_ ({ fw with port := { fw.port with pauseSince := some 0 } }) 1000001, 0, by decide +kernel⟩,
   ⟨at_ (({ fw with
      port := { fw.port with
      pauseUntil := List.replicate 8 (10 ^ 9),
      pauseFrom := List.replicate 8 (some 0) } }).updSess 0 (fun x => { x with
      streams := [⟨0, 0x5000, 0x18, 0, 8, 1000, 0, none⟩] })) 100001, by decide +kernel⟩,
   ⟨fw, by decide +kernel⟩,
   ⟨{ fw with port := { fw.port with link := 2 } },
      List.replicate 12 0 ++ be 2 0x8808 ++ be 2 0x0101 ++ List.replicate 18 0, by decide +kernel⟩,
   ⟨{ fw with port := { fw.port with link := 2 } }, 0, by decide +kernel⟩,
   ⟨{ { fw with port := { fw.port with link := 2 } } with clk := { fw.clk with st := .locked } }, 0,
      by decide +kernel⟩,
   ⟨fw, 0, 32, by decide +kernel⟩,
   ⟨fw, 0, by decide +kernel⟩,
   ⟨fw, 0, 31, by decide +kernel⟩⟩

/-- States and operands that meet the premises of each clause of `Obligations.RequestsTaken`. -/
theorem test_witness_RequestsTaken :
    (∃ s : State, ∃ f : Bytes, ∃ m : Trasia, parseTrasia f = some m ∧ s.serving m.ses = true ∧
      m.ses < Config.sessions ∧ s.cfgU (0x1100 + m.ses) 0x01 = 1 ∧ m.malformed = false ∧
      judgeSeq ((dequeue f s).session m.ses).lastSeq m.seq = .new) ∧
    (∃ s : State, ∃ f : Bytes, ∃ m : Trasia, parseTrasia f = some m ∧ m.op = 1 ∧ s.serving m.ses = true ∧
      m.ses < Config.sessions ∧ s.cfgU (0x1100 + m.ses) 0x01 = 1 ∧ m.malformed = false ∧
      judgeSeq ((dequeue f s).session m.ses).lastSeq m.seq = .duplicate) ∧
    (∃ s : State, ∃ f : Bytes, ∃ m : Trasia, parseTrasia f = some m ∧ m.op = 2 ∧ s.serving m.ses = true ∧
      m.ses < Config.sessions ∧ s.cfgU (0x1100 + m.ses) 0x01 = 1 ∧ m.malformed = false ∧
      judgeSeq ((dequeue f s).session m.ses).lastSeq m.seq = .stale) ∧
    (∃ s : State, ∃ f : Bytes, ∃ m : Trasia, parseTrasia f = some m ∧ m.op = 1 ∧ s.serving m.ses = true ∧
      m.ses < Config.sessions ∧ s.cfgU (0x1100 + m.ses) 0x01 = 1 ∧ m.malformed = true) ∧
    (∃ s : State, ∃ f : Bytes, ∃ m : Trasia, parseTrasia f = some m ∧ m.op = 2 ∧ s.cfgU (0x1100 + m.ses) 0x01 ≠ 1) ∧
    (∃ f : Bytes, parseTrasia f = none) ∧
    (∃ s : State, ∃ f : Bytes, ∃ m : Trasia, parseTrasia f = some m ∧ s.serving m.ses = true ∧
      m.ses < Config.sessions ∧ s.cfgU (0x1100 + m.ses) 0x01 = 1 ∧ m.malformed = false ∧
      judgeSeq ((dequeue f s).session m.ses).lastSeq m.seq = .new ∧ m.op = 2 ∧ (taken s f m).permits m = true) ∧
    (∃ s : State, ∃ f : Bytes, ∃ m : Trasia, parseTrasia f = some m ∧ s.serving m.ses = true ∧
      m.ses < Config.sessions ∧ s.cfgU (0x1100 + m.ses) 0x01 = 1 ∧ m.malformed = false ∧
      judgeSeq ((dequeue f s).session m.ses).lastSeq m.seq = .new ∧ m.op = 2 ∧ (taken s f m).permits m = false) ∧
    (∃ s : State, ∃ f : Bytes, ∃ m : Trasia, parseTrasia f = some m ∧ s.serving m.ses = true ∧
      m.ses < Config.sessions ∧ s.cfgU (0x1100 + m.ses) 0x01 = 1 ∧ m.malformed = false ∧
      judgeSeq ((dequeue f s).session m.ses).lastSeq m.seq = .new ∧ m.op = 3 ∧ (taken s f m).permits m = true ∧
      0 < u32At m.payload 8 ∧ u32At m.payload 8 ≤ (taken s f m).blockLimit) ∧
    (∃ s : State, ∃ f : Bytes, ∃ m : Trasia, parseTrasia f = some m ∧ s.serving m.ses = true ∧
      m.ses < Config.sessions ∧ s.cfgU (0x1100 + m.ses) 0x01 = 1 ∧ m.malformed = false ∧
      judgeSeq ((dequeue f s).session m.ses).lastSeq m.seq = .new ∧ m.op = 3 ∧ (taken s f m).permits m = true ∧
      u32At m.payload 8 = 0) ∧
    (∃ s : State, ∃ f : Bytes, ∃ m : Trasia, parseTrasia f = some m ∧ s.serving m.ses = true ∧
      m.ses < Config.sessions ∧ s.cfgU (0x1100 + m.ses) 0x01 = 1 ∧ m.malformed = false ∧
      judgeSeq ((dequeue f s).session m.ses).lastSeq m.seq = .new ∧ m.op = 3 ∧ (taken s f m).permits m = true ∧
      (taken s f m).blockLimit < u32At m.payload 8) ∧
    (∃ s : State, ∃ f : Bytes, ∃ m : Trasia, parseTrasia f = some m ∧ s.serving m.ses = true ∧
      m.ses < Config.sessions ∧ s.cfgU (0x1100 + m.ses) 0x01 = 1 ∧ m.malformed = false ∧
      judgeSeq ((dequeue f s).session m.ses).lastSeq m.seq = .new ∧ m.op = 4 ∧ (taken s f m).permits m = true ∧
      opensLate (taken s f m) (writeBlockBody none m.ses m.payload (taken s f m)) = false) ∧
    (∃ s : State, ∃ f : Bytes, ∃ m : Trasia, parseTrasia f = some m ∧ s.serving m.ses = true ∧
      m.ses < Config.sessions ∧ s.cfgU (0x1100 + m.ses) 0x01 = 1 ∧ m.malformed = false ∧
      judgeSeq ((dequeue f s).session m.ses).lastSeq m.seq = .new ∧ m.op = 4 ∧ (taken s f m).permits m = true ∧
      opensLate (taken s f m) (writeBlockBody none m.ses m.payload (taken s f m)) = true) ∧
    (∃ s : State, ∃ f : Bytes, ∃ m : Trasia, parseTrasia f = some m ∧ s.serving m.ses = true ∧
      m.ses < Config.sessions ∧ s.cfgU (0x1100 + m.ses) 0x01 = 1 ∧ m.malformed = false ∧
      judgeSeq ((dequeue f s).session m.ses).lastSeq m.seq = .new ∧ m.op = 5 ∧ (taken s f m).permits m = true) ∧
    (∃ s : State, ∃ f : Bytes, ∃ m : Trasia, parseTrasia f = some m ∧ s.serving m.ses = true ∧
      m.ses < Config.sessions ∧ s.cfgU (0x1100 + m.ses) 0x01 = 1 ∧ m.malformed = false ∧
      judgeSeq ((dequeue f s).session m.ses).lastSeq m.seq = .new ∧ m.op = 7 ∧ (taken s f m).permits m = true) ∧
    (∃ s : State, ∃ f : Bytes, ∃ m : Trasia, parseTrasia f = some m ∧ s.serving m.ses = true ∧
      m.ses < Config.sessions ∧ s.cfgU (0x1100 + m.ses) 0x01 = 1 ∧ m.malformed = false ∧
      judgeSeq ((dequeue f s).session m.ses).lastSeq m.seq = .new ∧ m.op = 8 ∧ (taken s f m).permits m = true) ∧
    (∃ s : State, ∃ f : Bytes, ∃ m : Trasia, parseTrasia f = some m ∧ s.serving m.ses = true ∧
      m.ses < Config.sessions ∧ s.cfgU (0x1100 + m.ses) 0x01 = 1 ∧ m.malformed = false ∧
      judgeSeq ((dequeue f s).session m.ses).lastSeq m.seq = .new ∧ m.op = 9 ∧ (taken s f m).permits m = true ∧
      bit m.flags 1 = true) ∧
    (∃ s : State, ∃ f : Bytes, ∃ m : Trasia, parseTrasia f = some m ∧ s.serving m.ses = true ∧
      m.ses < Config.sessions ∧ s.cfgU (0x1100 + m.ses) 0x01 = 1 ∧ m.malformed = false ∧
      judgeSeq ((dequeue f s).session m.ses).lastSeq m.seq = .new ∧ m.op = 9 ∧ (taken s f m).permits m = true ∧
      bit m.flags 1 = false ∧ (taken s f m).quotesWaiting < 4) ∧
    (∃ s : State, ∃ f : Bytes, ∃ m : Trasia, parseTrasia f = some m ∧ s.serving m.ses = true ∧
      m.ses < Config.sessions ∧ s.cfgU (0x1100 + m.ses) 0x01 = 1 ∧ m.malformed = false ∧
      judgeSeq ((dequeue f s).session m.ses).lastSeq m.seq = .new ∧ m.op = 9 ∧ (taken s f m).permits m = true ∧
      bit m.flags 1 = false ∧ 4 ≤ (taken s f m).quotesWaiting) ∧
    (∃ s : State, ∃ f : Bytes, ∃ m : Trasia, parseTrasia f = some m ∧ s.serving m.ses = true ∧
      m.ses < Config.sessions ∧ s.cfgU (0x1100 + m.ses) 0x01 = 1 ∧ m.malformed = false ∧
      judgeSeq ((dequeue f s).session m.ses).lastSeq m.seq = .new ∧ m.op = 7 ∧ (taken s f m).permits m = false) :=
  ⟨⟨net, request 1 1 (List.replicate 8 0), asked (request 1 1 (List.replicate 8 0)), by decide +kernel⟩,
   ⟨numbered 5, request 1 1 (List.replicate 8 0), asked (request 1 1 (List.replicate 8 0)), by decide +kernel⟩,
   ⟨numbered 6, request 2 1 (List.replicate 16 0), asked (request 2 1 (List.replicate 16 0)), by decide +kernel⟩,
   ⟨net, request 1 0 [], asked (request 1 0 []), by decide +kernel⟩,
   ⟨fw.setCfg 0x1100 0x01 0, request 2 1 (List.replicate 16 0), asked (request 2 1 (List.replicate 16 0)),
      by decide +kernel⟩,
   ⟨[], by decide +kernel⟩,
   ⟨net, request 2 1 (List.replicate 16 0), asked (request 2 1 (List.replicate 16 0)), by decide +kernel⟩,
   ⟨net.setCfg 0x1100 0x06 0, request 2 1 (List.replicate 16 0), asked (request 2 1 (List.replicate 16 0)),
      by decide +kernel⟩,
   ⟨net, request 3 1 (List.replicate 8 0 ++ le 4 1), asked (request 3 1 (List.replicate 8 0 ++ le 4 1)),
      by decide +kernel⟩,
   ⟨net, request 3 1 (List.replicate 8 0 ++ le 4 0), asked (request 3 1 (List.replicate 8 0 ++ le 4 0)),
      by decide +kernel⟩,
   ⟨net, request 3 1 (List.replicate 8 0 ++ le 4 65536), asked (request 3 1 (List.replicate 8 0 ++ le 4 65536)),
      by decide +kernel⟩,
   ⟨net, request 4 1 (List.replicate 16 0), asked (request 4 1 (List.replicate 16 0)), by decide +kernel⟩,
   ⟨updating, request 4 1 (le 2 0x3300 ++ [4, 0] ++ le 4 0 ++ le 4 8 ++ List.replicate 8 0),
      asked (request 4 1 (le 2 0x3300 ++ [4, 0] ++ le 4 0 ++ le 4 8 ++ List.replicate 8 0)), by decide +kernel⟩,
   ⟨net, request 5 1 (List.replicate 32 0), asked (request 5 1 (List.replicate 32 0)), by decide +kernel⟩,
   ⟨scheduling, request 7 1 (List.replicate 32 0), asked (request 7 1 (List.replicate 32 0)), by decide +kernel⟩,
   ⟨net, request 8 1 (List.replicate 32 0), asked (request 8 1 (List.replicate 32 0)), by decide +kernel⟩,
   ⟨net, flagged 9 2 (List.replicate 32 0), asked (flagged 9 2 (List.replicate 32 0)), by decide +kernel⟩,
   ⟨net, flagged 9 0 (List.replicate 32 0), asked (flagged 9 0 (List.replicate 32 0)), by decide +kernel⟩,
   ⟨{ net with sec := { net.sec with quotes := List.replicate 5 (0, 1, [], 0) } },
      flagged 9 0 (List.replicate 32 0), asked (flagged 9 0 (List.replicate 32 0)), by decide +kernel⟩,
   ⟨net, request 7 1 (List.replicate 32 0), asked (request 7 1 (List.replicate 32 0)), by decide +kernel⟩⟩

/-- States and operands that meet the premises of each clause of `Obligations.SessionClauses`. -/
theorem test_witness_SessionClauses :
    (∃ s : State, ∃ ses i : Nat, ∃ y : Machine.Stream, s.running = true ∧ ses < Config.sessions ∧ i < 16 ∧
      (s.session ses).streams.find? (fun y => y.i == i) = some y ∧ s.streamDue y = false) ∧
    (∃ s : State, ∃ ses i : Nat, ∃ y : Machine.Stream, s.running = true ∧ ses < Config.sessions ∧ i < 16 ∧
      s.port.link ≠ 2 ∧ (s.session ses).streams.find? (fun y => y.i == i) = some y ∧ s.streamDue y = true) ∧
    (∃ s : State, ∃ ses i : Nat, ∃ y : Machine.Stream, s.running = true ∧ ses < Config.sessions ∧ i < 16 ∧
      s.port.link = 2 ∧ (s.session ses).streams.find? (fun y => y.i == i) = some y ∧ s.streamDue y = true) ∧
    (∃ s : State, ∃ ses i : Nat, s.running = true ∧ ses < Config.sessions ∧ i < 16 ∧
      (s.session ses).streams.find? (fun y => y.i == i) = none) ∧
    (∃ s : State, ∃ ses : Nat, s.running = true ∧ ses < Config.sessions ∧ (s.session ses).transfer = none) ∧
    (∃ s : State, ∃ ses : Nat, ∃ x : Transfer, s.running = true ∧ ses < Config.sessions ∧
      (s.session ses).transfer = some x ∧ x.since + sec ≤ s.now) ∧
    (∃ s : State, ∃ ses : Nat, ∃ x : Transfer, s.running = true ∧ ses < Config.sessions ∧
      (s.session ses).transfer = some x ∧ s.now < x.since + sec) ∧
    (∃ s : State, ∃ ses : Nat, ∃ b : Bytes, s.running = true ∧ ses < Config.sessions ∧
      (s.session ses).verify = some b ∧ s.passive = false) ∧
    (∃ s : State, ∃ ses : Nat, ∃ b : Bytes, s.running = true ∧ ses < Config.sessions ∧
      (s.session ses).verify = some b ∧ s.passive = true) ∧
    (∃ s : State, ∃ ses : Nat, s.running = true ∧ ses < Config.sessions ∧ (s.session ses).verify = none) :=
  ⟨⟨fw.updSess 0 (fun x => { x with streams := [⟨0, 0x2000, 1, 0, 8, 1000, 0, some 0⟩] }), 0, 0, ⟨0, 0x2000, 1, 0,
      8, 1000, 0, some 0⟩, by decide +kernel⟩,
   ⟨fw.updSess 0 (fun x => { x with streams := [⟨0, 0x2000, 1, 0, 8, 1000, 0, none⟩] }), 0, 0, ⟨0, 0x2000, 1, 0, 8,
      1000, 0, none⟩, by decide +kernel⟩,
   ⟨{ fw.updSess 0 (fun x => { x with
      streams := [⟨0, 0x2000, 1, 0, 8, 1000, 0, none⟩] }) with port := { fw.port with link := 2 } }, 0, 0, ⟨0,
      0x2000, 1, 0, 8, 1000, 0, none⟩, by decide +kernel⟩,
   ⟨fw, 0, 0, by decide +kernel⟩,
   ⟨fw, 0, by decide +kernel⟩,
   ⟨at_ (fw.updSess 0 (fun x => { x with transfer := some ⟨0, 2, 9, 0, []⟩ })) 1000000000, 0, ⟨0, 2, 9, 0, []⟩,
      by decide +kernel⟩,
   ⟨fw.updSess 0 (fun x => { x with transfer := some ⟨0, 2, 9, 0, []⟩ }), 0, ⟨0, 2, 9, 0, []⟩, by decide +kernel⟩,
   ⟨fw.updSess 0 (fun x => { x with verify := some [] }), 0, [], by decide +kernel⟩,
   ⟨{ (fw.updSess 0 (fun x => { x with verify := some [] })) with pair := { fw.pair with role := .standby } }, 0,
      [], by decide +kernel⟩,
   ⟨fw, 0, by decide +kernel⟩⟩

/-- States and operands that meet the premises of each clause of `Obligations.SecurityCommands`. -/
theorem test_witness_SecurityCommands :
    (∃ s : State, ∃ ses : Nat, s.serving ses = true ∧ ses < Config.sessions ∧ s.sec.stagedSt = 2) ∧
    (∃ s : State, ∃ ses : Nat, s.serving ses = true ∧ ses < Config.sessions ∧ s.sec.stagedSt ≠ 2) ∧
    (∃ s : State, ∃ ses : Nat, s.running = true ∧ ses < Config.sessions) ∧
    (∃ s : State, ∃ ses : Nat, s.serving ses = true ∧ ses < Config.sessions) ∧
    (∃ s : State, ∃ ses : Nat, ∃ b : Bytes, s.serving ses = true ∧ ses < Config.sessions ∧ s.cfgU 0xA000 0x0F = 0 ∧
      0 < b.length ∧ b.length < 8) ∧
    (∃ s : State, ∃ ses : Nat, ∃ k : Bytes, s.running = true ∧ ses < Config.sessions ∧ k.length = 48 ∧
      s.noRootKey = true ∧ bit (s.cfgU (0x1100 + ses) 0x06) 1 = true) ∧
    (∃ s : State, ∃ ses : Nat, s.running = true ∧ ses < Config.sessions ∧ s.noRootKey = false) ∧
    (∃ s : State, ∃ ses : Nat, ∃ k : Bytes, s.running = true ∧ ses < Config.sessions ∧
      (k.length ≠ 48 ∨ bit (s.cfgU (0x1100 + ses) 0x06) 1 = false)) ∧
    (∃ s : State, ∃ q : Nat × Nat × Bytes × Nat, ∃ rest : List (Nat × Nat × Bytes × Nat), s.serving 0 = true ∧
      s.sec.quotes = q :: rest) ∧
    (∃ s : State, s.serving 0 = true ∧ s.sec.quotes = []) ∧
    (∃ s : State, ∃ ses : Nat, ∃ b : List Byte, s.serving ses = true ∧ ses < Config.sessions ∧ b ≠ [] ∧
      b.length ≤ 8192 ∧ s.cfgU 0xA000 0x0F = 0) ∧
    (∃ s : State, s.running = true ∧ s.sec.installing = none ∧ (s.sec.stagedSt ≠ 4 ∨ (s.pair.role ≠ .standby ∧
      s.stepAllowed = false))) ∧
    (∃ s : State, s.running = true ∧ s.sec.installing = none ∧ s.sec.stagedSt = 4 ∧
      (s.pair.role = .standby ∨ s.stepAllowed = true)) ∧
    (∃ s : State, ∃ x : FwImage, s.running = true ∧ s.sec.installing = some x) ∧
    (∃ s : State, s.hw.phase = .loader ∧ s.sec.installing = none ∧ s.sec.stagedSt = 4) ∧
    (∃ s : State, s.hw.phase = .loader ∧ s.sec.installing = none ∧ s.sec.stagedSt ≠ 4) ∧
    (∃ s : State, ∃ x : FwImage, s.hw.phase = .loader ∧ s.sec.installing = some x) ∧
    (∃ s : State, s.hw.phase ≠ .loader) :=
  ⟨⟨{ fw with sec := { fw.sec with stagedSt := 2 } }, 0, by decide +kernel⟩,
   ⟨fw, 0, by decide +kernel⟩,
   ⟨fw, 0, by decide +kernel⟩,
   ⟨fw, 0, by decide +kernel⟩,
   ⟨fw, 0, [1, 2], by decide +kernel⟩,
   ⟨fw.setCfg 0x1100 0x06 0xFF, 0, List.replicate 48 1, by decide +kernel⟩,
   ⟨{ fw with sec := { fw.sec with rootKey := List.replicate 48 1 } }, 0, by decide +kernel⟩,
   ⟨fw, 0, [], by decide +kernel⟩,
   ⟨{ fw with sec := { fw.sec with quotes := [(0, 1, [], 0)] } }, (0, 1, [], 0), [], by decide +kernel⟩,
   ⟨fw, by decide +kernel⟩,
   ⟨fw, 0, [1, 2], by decide +kernel⟩,
   ⟨fw, by decide +kernel⟩,
   ⟨{ { fw with sec := { fw.sec with stagedSt := 4 } } with pair := { fw.pair with role := .standby } },
      by decide +kernel⟩,
   ⟨{ fw with sec := { fw.sec with installing := some Sec.reset.image } }, Sec.reset.image, by decide +kernel⟩,
   ⟨{ ({ fw with sec := { fw.sec with stagedSt := 4 } }) with hw := { fw.hw with phase := .loader } },
      by decide +kernel⟩,
   ⟨{ fw with hw := { fw.hw with phase := .loader } }, by decide +kernel⟩,
   ⟨{ ({ fw with
      sec := { fw.sec with installing := some Sec.reset.image } }) with hw := { fw.hw with phase := .loader } },
      Sec.reset.image, by decide +kernel⟩,
   ⟨fw, by decide +kernel⟩⟩

/-- States and operands that meet the premises of each clause of `Obligations.DictionaryCommands`. -/
theorem test_witness_DictionaryCommands :
    (∃ s : State, ∃ ses i sub v : Nat, s.running = true ∧ ses < Config.sessions ∧ i < 65536 ∧ sub < 256 ∧
      v < 2 ^ 64 ∧ s.objectAt i sub = none) ∧
    (∃ s : State, ∃ ses i sub v : Nat, ∃ r : ObjRow, s.running = true ∧ ses < Config.sessions ∧ i < 65536 ∧
      sub < 256 ∧ v < 2 ^ 64 ∧ s.objectAt i sub = some r ∧ (r.acc = .ro ∨ s.inRange i sub r v = false)) ∧
    (∃ s : State, ∃ ses i sub v : Nat, ∃ r : ObjRow, s.running = true ∧ ses < Config.sessions ∧ i < 65536 ∧
      sub < 256 ∧ v < 2 ^ 64 ∧ s.objectAt i sub = some r ∧ r.acc = .rwl ∧ s.inRange i sub r v = true ∧
      s.ownerIdle i = true) ∧
    (∃ s : State, ∃ ses i sub v : Nat, ∃ r : ObjRow, s.running = true ∧ ses < Config.sessions ∧ i < 65536 ∧
      sub < 256 ∧ v < 2 ^ 64 ∧ s.objectAt i sub = some r ∧ s.inRange i sub r v = true) ∧
    (∃ s : State, ∃ ses i sub v : Nat, ∃ r : ObjRow, s.running = true ∧ ses < Config.sessions ∧ i < 65536 ∧
      sub < 256 ∧ v < 2 ^ 64 ∧ s.objectAt i sub = some r ∧ r.acc = .rwl ∧ s.ownerIdle i = false) ∧
    (∃ s : State, ∃ ses : Nat, s.running = true ∧ ses < Config.sessions) ∧
    (∃ s : State, ∃ ses i sub v : Nat, s.running = true ∧ ses < Config.sessions ∧ i < 65536 ∧ sub < 256 ∧
      v < 2 ^ 64) ∧
    (∃ s : State, ∃ k : Nat, ∃ e : Nat × Nat, s.running = true ∧ s.od.stores.find? (fun e => e.1 == k) = some e ∧
      ((∀ a, s.storeFailedAt k = some a → a < e.2))) ∧
    (∃ s : State, ∃ k : Nat, ∃ e : Nat × Nat, ∃ a : Nat, s.running = true ∧
      s.od.stores.find? (fun e => e.1 == k) = some e ∧ s.storeFailedAt k = some a ∧ e.2 ≤ a) ∧
    (∃ s : State, ∃ k a : Nat, s.running = true ∧ s.od.stores.any (fun e => e.1 == k) = true ∧
      s.storeFailedAt k = some a ∧ a + 10 * sec ≤ s.now) ∧
    (∃ s : State, ∃ k : Nat, s.running = true ∧ ((∀ a, s.storeFailedAt k = some a → s.now < a + 10 * sec))) ∧
    (∃ s : State, ∃ k : Nat, s.running = true ∧ s.od.stores.any (fun e => e.1 == k) = false) ∧
    (∃ s : State, ∃ ses : Nat, s.running = true ∧ ses < Config.sessions) ∧
    (∃ s : State, ∃ ses : Nat, s.running = true ∧ ses < Config.sessions ∧
      (s.loop.st = .off ∨ s.pair.role = .standby)) ∧
    (∃ s : State, ∃ ses : Nat, s.running = true ∧ ses < Config.sessions ∧ s.loop.st ≠ .off ∧ s.pair.role ≠ .standby) ∧
    (∃ s : State, ∃ r : Txn, s.running = true ∧ (s.txn.recs.filter fun x => x.st == 0) = [r] ∧
      s.txnById r.id = some r) ∧
    (∃ s : State, s.running = true) :=
  ⟨⟨fw, 0, 0xFFFF, 0, 0, by decide +kernel⟩,
   ⟨fw, 0, 0x2000, 0x01, 0, (fw.objectAt 0x2000 0x01).getD ⟨0, 1, 1, .u8, .ro, 1, 36, none⟩, by decide +kernel⟩,
   ⟨fw, 0, 0x2200, 0x01, 3125, (fw.objectAt 0x2200 0x01).getD ⟨0, 1, 1, .u8, .ro, 1, 36, none⟩, by decide +kernel⟩,
   ⟨{ fw with loop := { fw.loop with st := .run } }, 0, 0x2200, 0x01, 3125, (fw.objectAt 0x2200 0x01).getD ⟨0, 1, 1,
      .u8, .ro, 1, 36, none⟩, by decide +kernel⟩,
   ⟨{ fw with loop := { fw.loop with st := .run } }, 0, 0x2200, 0x01, 3125, (fw.objectAt 0x2200 0x01).getD ⟨0, 1, 1,
      .u8, .ro, 1, 36, none⟩, by decide +kernel⟩,
   ⟨fw, 0, by decide +kernel⟩,
   ⟨fw, 0, 0x2200, 0x01, 3125, by decide +kernel⟩,
   ⟨{ fw with od := { fw.od with stores := [(0x200003, 0)] } }, 0x200003, (0x200003, 0), by decide +kernel⟩,
   ⟨{ fw with od := { fw.od with stores := [(0x200003, 0)], storeFailed := [(0x200003, 1)] } }, 0x200003, (0x200003,
      0), 1, by decide +kernel⟩,
   ⟨at_ ({ fw with od := { fw.od with stores := [(0x200003, 0)], storeFailed := [(0x200003, 1)] } }) 10000000001,
      0x200003, 1, by decide +kernel⟩,
   ⟨at_ ({ fw with od := { fw.od with stores := [(0x200003, 0)], storeFailed := [(0x200003, 1)] } }) 10000000000,
      0x200003, by decide +kernel⟩,
   ⟨fw, 1, by decide +kernel⟩,
   ⟨fw, 0, by decide +kernel⟩,
   ⟨fw, 0, by decide +kernel⟩,
   ⟨{ fw with loop := { fw.loop with st := .run } }, 0, by decide +kernel⟩,
   ⟨{ fw with txn := { fw.txn with recs := [txn0] } }, txn0, by decide +kernel⟩,
   ⟨fw, by decide +kernel⟩⟩

/-- States and operands that meet the premises of each clause of `Obligations.ColdStart`. -/
theorem test_witness_ColdStart :
    (∃ s : State, s.hw.phase = .rom ∧ s.imageValid s.sec.image = true) ∧
    (∃ s : State, s.hw.phase = .rom ∧ s.imageValid s.sec.image = false) ∧
    (∃ s : State, s.hw.phase = .rom) ∧
    (∃ s : State, s.hw.phase = .rom) ∧
    (∃ s : State, s.hw.phase ≠ .rom) ∧
    (∃ s : State, s.hw.phase = .starting ∧ s.od.restoreMark = false) ∧
    (∃ s : State, s.hw.phase = .starting) ∧
    (∃ s : State, s.hw.phase ≠ .starting) :=
  ⟨⟨{ State.reset with now := 0 }, by decide +kernel⟩,
   ⟨{ State.reset with sec := { Sec.reset with image := { Sec.reset.image with sigOk := false } } },
      by decide +kernel⟩,
   ⟨{ State.reset with now := 0 }, by decide +kernel⟩,
   ⟨{ State.reset with now := 0 }, by decide +kernel⟩,
   ⟨fw, by decide +kernel⟩,
   ⟨{ fw with hw := { fw.hw with phase := .starting } }, by decide +kernel⟩,
   ⟨{ fw with hw := { fw.hw with phase := .starting } }, by decide +kernel⟩,
   ⟨fw, by decide +kernel⟩⟩

/-- States and operands that meet the premises of each clause of `Obligations.FaultHandling`. -/
theorem test_witness_FaultHandling :
    (∃ s : State, ∃ c i : Nat, s.running = true ∧ c < 65536 ∧ i < 65536 ∧ sevTable.any (fun e => e.1 == c) = false) ∧
    (∃ s : State, ∃ c i : Nat, s.running = true ∧ c < 65536 ∧ i < 65536 ∧ sevTable.any (fun e => e.1 == c) = true ∧
      s.fm.running = none ∧ s.fm.stack = [] ∧ s.fm.queue = [] ∧ s.fm.reserved = none) ∧
    (∃ s : State, ∃ c i : Nat, ∃ h : Raise, s.running = true ∧ c < 65536 ∧ i < 65536 ∧
      sevTable.any (fun e => e.1 == c) = true ∧ s.fm.running = some h ∧ h.sev < severity c ∧ s.fm.stack = [] ∧
      s.fm.queue = [] ∧ s.fm.reserved = none) ∧
    (∃ s : State, ∃ c i : Nat, ∃ h : Raise, s.running = true ∧ c < 65536 ∧ i < 65536 ∧
      sevTable.any (fun e => e.1 == c) = true ∧ s.fm.running = some h ∧ severity c ≤ h.sev ∧
      (h.code ≠ c ∨ h.inst ≠ i) ∧ s.fm.stack = [] ∧ s.fm.queue = [] ∧ s.fm.reserved = none) ∧
    (∃ s : State, ∃ c i : Nat, ∃ h : Raise, s.running = true ∧ c < 65536 ∧ i < 65536 ∧
      sevTable.any (fun e => e.1 == c) = true ∧ s.fm.running = some h ∧ h.code = c ∧ h.inst = i) ∧
    (∃ s : State, s.running = true ∧ s.fm.running = none) ∧
    (∃ s : State, ∃ r t : Raise, ∃ rest : List Raise, s.running = true ∧ s.fm.running = some r ∧
      s.fm.stack = t :: rest ∧ s.fm.queue = [] ∧ s.fm.reserved = none) ∧
    (∃ s : State, ∃ r h : Raise, ∃ rest : List Raise, s.running = true ∧ s.fm.running = some r ∧ s.fm.stack = [] ∧
      s.fm.queue = h :: rest ∧ s.fm.reserved = none) ∧
    (∃ s : State, ∃ r : Raise, s.running = true ∧ s.fm.running = some r ∧ r.overran = false ∧ 200000 < s.handled r) ∧
    (∃ s : State, ∃ r : Raise, s.running = true ∧ s.fm.running = some r ∧ (r.overran = true ∨ s.handled r ≤ 200000)) ∧
    (∃ s : State, ∃ c : Nat, s.running = true ∧ s.conditionHolds c = true) ∧
    (∃ s : State, ∃ c i : Nat, s.running = true ∧ c < 65536 ∧ i < 65536 ∧ s.conditionHolds c = false ∧
      ((∀ e ∈ s.fm.active, e.code = c → e.inst = i → e.sev = 2))) ∧
    (∃ s : State, ∃ c i : Nat, ∃ e : Active, s.running = true ∧ c < 65536 ∧ i < 65536 ∧ s.conditionHolds c = false ∧
      s.activeOf c i = some e ∧ e.sev ≠ 2 ∧ e.acked = false) ∧
    (∃ s : State, ∃ ses v : Nat, ∃ e : Active, s.running = true ∧ ses < Config.sessions ∧ v ≠ 0xFFFFFFFF ∧
      s.activeOf (v % 65536) (v / 65536) = some e ∧ e.gone = false) ∧
    (∃ s : State, ∃ ses v : Nat, s.running = true ∧ ses < Config.sessions ∧ v ≠ 0xFFFFFFFF ∧
      s.activeOf (v % 65536) (v / 65536) ≠ none ∧ ((∀ e ∈ s.fm.active,
      e.code = v % 65536 → e.inst = v / 65536 → e.gone = true))) ∧
    (∃ s : State, ∃ ses v : Nat, s.running = true ∧ ses < Config.sessions ∧ v ≠ 0xFFFFFFFF ∧
      s.activeOf (v % 65536) (v / 65536) = none) ∧
    (∃ s : State, ∃ ses : Nat, s.running = true ∧ ses < Config.sessions ∧ (∀ e ∈ s.fm.active, e.gone = true)) ∧
    (∃ s : State, ∃ ses : Nat, s.running = true ∧ ses < Config.sessions) ∧
    (∃ s : State, ∃ c : Nat, s.running = true ∧ s.now < get 0 s.fm.watchdog c + 50 * ms) ∧
    (∃ s : State, ∃ c : Nat, s.running = true ∧ c < 4 ∧ get 0 s.fm.watchdog c + 50 * ms ≤ s.now) :=
  ⟨⟨fw, 0xFFFF, 0, by decide +kernel⟩,
   ⟨fw, 0x0101, 0, by decide +kernel⟩,
   ⟨{ fw with fm := { fw.fm with running := some (raise 0x0101) } }, 0x0107, 0, raise 0x0101, by decide +kernel⟩,
   ⟨{ fw with fm := { fw.fm with running := some (raise 0x0107) } }, 0x0101, 0, raise 0x0107, by decide +kernel⟩,
   ⟨{ fw with fm := { fw.fm with running := some (raise 0x0101) } }, 0x0101, 0, raise 0x0101, by decide +kernel⟩,
   ⟨fw, by decide +kernel⟩,
   ⟨{ fw with fm := { fw.fm with running := some (raise 0x0107), stack := [raise 0x0101] } }, raise 0x0107,
      raise 0x0101, [], by decide +kernel⟩,
   ⟨{ fw with fm := { fw.fm with running := some (raise 0x0107), queue := [raise 0x0101] } }, raise 0x0107,
      raise 0x0101, [], by decide +kernel⟩,
   ⟨at_ ({ fw with fm := { fw.fm with running := some (raise 0x0101) } }) 200001, raise 0x0101, by decide +kernel⟩,
   ⟨at_ ({ fw with fm := { fw.fm with running := some (raise 0x0101) } }) 200000, raise 0x0101, by decide +kernel⟩,
   ⟨{ fw with hw := { fw.hw with warnJ := true } }, 0x0009, by decide +kernel⟩,
   ⟨{ fw with fm := { fw.fm with active := [⟨0x0101, 0, 2, false, false, false, false, 1, 0⟩] } }, 0x0101, 0,
      by decide +kernel⟩,
   ⟨{ fw with fm := { fw.fm with active := [⟨0x0101, 0, 3, false, false, false, false, 1, 0⟩] } }, 0x0101, 0,
      ⟨0x0101, 0, 3, false, false, false, false, 1, 0⟩, by decide +kernel⟩,
   ⟨{ fw with fm := { fw.fm with active := [⟨0x0101, 0, 3, false, false, false, false, 1, 0⟩] } }, 0, 0x0101,
      ⟨0x0101, 0, 3, false, false, false, false, 1, 0⟩, by decide +kernel⟩,
   ⟨{ fw with fm := { fw.fm with active := [⟨0x0101, 0, 3, true, false, false, false, 1, 0⟩] } }, 0, 0x0101,
      by decide +kernel⟩,
   ⟨fw, 0, 7, by decide +kernel⟩,
   ⟨{ fw with fm := { fw.fm with active := [⟨0x0102, 0, 3, true, false, false, false, 1, 0⟩] } }, 0,
      by decide +kernel⟩,
   ⟨fw, 0, by decide +kernel⟩,
   ⟨fw, 3, by decide +kernel⟩,
   ⟨at_ fw 50000000, 3, by decide +kernel⟩⟩

/-- States and operands that meet the premises of each clause of `Obligations.RecorderCommands`. -/
theorem test_witness_RecorderCommands :
    (∃ s : State, ∃ b : Bytes, ∃ rest : List Bytes, s.running = true ∧ s.rcd.staged = b :: rest ∧
      s.rcd.segs.length < 511) ∧
    (∃ s : State, ∃ b : Bytes, ∃ rest : List Bytes, s.running = true ∧ s.rcd.staged = b :: rest) ∧
    (∃ s : State, ∃ a : Nat, s.running = true ∧ s.rcd.failedAt = some a) ∧
    (∃ s : State, s.running = true ∧ s.rcd.failedAt = none) ∧
    (∃ s : State, s.running = true ∧ s.rcd.staged = []) ∧
    (∃ s : State, ∃ c i : Nat, ∃ w : RateWindow, s.running = true ∧ c < 65536 ∧ i < 65536 ∧
      s.rateWindow c i = some w ∧ s.windowOver w = true ∧ w.suppressed = 0) ∧
    (∃ s : State, ∃ c i : Nat, ∃ w : RateWindow, s.running = true ∧ s.rateWindow c i = some w ∧
      s.windowOver w = false) ∧
    (∃ s : State, ∃ ses n : Nat, s.running = true ∧ ses < Config.sessions ∧ s.blockLimit < n) ∧
    (∃ s : State, ∃ ses : Nat, s.running = true ∧ ses < Config.sessions) ∧
    (∃ s : State, ∃ ses n : Nat, s.running = true ∧ s.hw.released = false ∧ ses < Config.sessions ∧ 0 < n ∧
      n ≤ s.blockLimit) ∧
    (∃ s : State, ∃ ses v w : Nat, s.running = true ∧ ses < Config.sessions ∧
      w = (if v = 0xFFFFFFFF then s.rcd.nextSeq - 1 else v) ∧ (w < s.rcd.clearMark ∨ s.rcd.nextSeq - 1 < w)) ∧
    (∃ s : State, ∃ ses v w : Nat, s.running = true ∧ ses < Config.sessions ∧
      w = (if v = 0xFFFFFFFF then s.rcd.nextSeq - 1 else v) ∧ s.rcd.clearMark ≤ w ∧ w ≤ s.rcd.nextSeq - 1) ∧
    (∃ s : State, ∃ ses : Nat, s.running = true ∧ ses < Config.sessions) :=
  ⟨⟨{ fw with rcd := { fw.rcd with staged := [[1]] } }, [1], [], by decide +kernel⟩,
   ⟨{ fw with rcd := { fw.rcd with staged := [[1]] } }, [1], [], by decide +kernel⟩,
   ⟨{ fw with rcd := { fw.rcd with failedAt := some 0 } }, 0, by decide +kernel⟩,
   ⟨fw, by decide +kernel⟩,
   ⟨fw, by decide +kernel⟩,
   ⟨at_ ({ fw with rcd := { fw.rcd with windows := [⟨0x0101, 0, 0, 1, 0, 0, 0⟩] } }) (10 ^ 12), 0x0101, 0, ⟨0x0101,
      0, 0, 1, 0, 0, 0⟩, by decide +kernel⟩,
   ⟨{ fw with rcd := { fw.rcd with windows := [⟨0x0101, 0, 0, 1, 0, 0, 0⟩] } }, 0x0101, 0, ⟨0x0101, 0, 0, 1, 0, 0,
      0⟩, by decide +kernel⟩,
   ⟨fw, 0, 10000, by decide +kernel⟩,
   ⟨fw, 0, by decide +kernel⟩,
   ⟨fw, 0, 64, by decide +kernel⟩,
   ⟨{ fw with rcd := { fw.rcd with nextSeq := 5 } }, 0, 5, 5, by decide +kernel⟩,
   ⟨{ fw with rcd := { fw.rcd with nextSeq := 5, segs := [[le 4 1], [le 4 4, le 4 2]] } }, 0, 3, 3,
      by decide +kernel⟩,
   ⟨fw, 0, by decide +kernel⟩⟩

/-- States and operands that meet the premises of each clause of `Obligations.CalibrationCommands`. -/
theorem test_witness_CalibrationCommands :
    (∃ s : State, ∃ ses : Nat, s.running = true ∧ ses < Config.sessions) ∧
    (∃ s : State, ∃ ses o : Nat, ∃ d : Bytes, s.running = true ∧ ses < Config.sessions ∧ d.length = 8 ∧ o % 8 = 0 ∧
      o + 8 ≤ 8 * Config.calEntries ∧ s.openTxns < 32) ∧
    (∃ s : State, ∃ ses t sub v : Nat, s.running = true ∧ ses < Config.sessions ∧ t < Config.trays ∧ 4 ≤ sub ∧
      sub ≤ 7 ∧ v < 2 ^ 64 ∧ calInRange (12 + sub) v = true) ∧
    (∃ s : State, ∃ ses t sub v : Nat, s.running = true ∧ ses < Config.sessions ∧ t < Config.trays ∧ sub < 256 ∧
      v < 2 ^ 64 ∧ (sub < 4 ∨ 7 < sub ∨ calInRange (12 + sub) v = false)) ∧
    (∃ s : State, ∃ ses v : Nat, s.running = true ∧ ses < Config.sessions ∧ 3 < v) ∧
    (∃ s : State, ∃ ses v : Nat, s.running = true ∧ ses < Config.sessions ∧ v ≤ 3) ∧
    (∃ s : State, ∃ t p : Nat, s.running = true ∧ t < Config.trays ∧ p < Config.phases ∧ (s.ph t p).calN < 1024) ∧
    (∃ s : State, ∃ t p : Nat, s.running = true ∧ t < Config.trays ∧ p < Config.phases ∧ 1024 ≤ (s.ph t p).calN ∧
      s.offsetOpen t p = false) ∧
    (∃ s : State, ∃ t : Nat, s.running = true ∧ t < Config.trays ∧ 1024 ≤ (s.link t).calN ∧ dcWindow s t = false) ∧
    (∃ s : State, ∃ t p : Nat, s.running = true ∧ t < Config.trays ∧ p < Config.phases ∧ 1024 ≤ (s.ph t p).calN ∧
      s.offsetOpen t p = true ∧ calAccepted (s.ph t p).calSum (s.ph t p).calSq = false) ∧
    (∃ s : State, ∃ t p : Nat, s.running = true ∧ t < Config.trays ∧ p < Config.phases ∧ 1024 ≤ (s.ph t p).calN) ∧
    (∃ s : State, ∃ t : Nat, s.running = true ∧ t < Config.trays ∧ (s.link t).calN < 1024) ∧
    (∃ s : State, ∃ t : Nat, s.running = true ∧ t < Config.trays ∧ 1024 ≤ (s.link t).calN) ∧
    (∃ s : State, ∃ a : Nat, s.running = true ∧ s.cal.eqSince = some a ∧ s.now < a + sec) ∧
    (∃ s : State, ∃ a : Nat, s.running = true ∧ s.cal.eqSince = some a ∧ a + sec ≤ s.now ∧ s.shelfRun = true ∧
      s.loop.nValid < 4) ∧
    (∃ s : State, s.running = true ∧ (s.cal.eqSince = none ∨ s.shelfRun = false)) ∧
    (∃ s : State, ∃ a : Nat, s.running = true ∧ s.cal.eqSince = some a ∧ a + sec ≤ s.now ∧ s.shelfRun = true) ∧
    (∃ s : State, ∃ ses : Nat, s.running = true ∧ ses < Config.sessions ∧ s.cal.dirty = false) ∧
    (∃ s : State, s.running = true ∧ s.loop.st ≠ .off ∧ s.now / hour ≤ s.cal.storeFrom / hour) ∧
    (∃ s : State, ∃ ses : Nat, s.running = true ∧ ses < Config.sessions ∧ s.cal.dirty = true) ∧
    (∃ s : State, s.running = true ∧ (s.loop.st = .off ∨ s.cal.storeFrom / hour < s.now / hour)) ∧
    (∃ s : State, ∃ ses e : Nat, s.running = true ∧ ses < Config.sessions ∧ e < Config.calEntries) ∧
    (∃ s : State, ∃ ses : Nat, s.running = true ∧ ses < Config.sessions) :=
  ⟨⟨fw, 0, by decide +kernel⟩,
   ⟨fw, 0, 8, List.replicate 8 0, by decide +kernel⟩,
   ⟨fw, 0, 0, 4, f32Bits 1, by decide +kernel⟩,
   ⟨fw, 0, 0, 3, 0, by decide +kernel⟩,
   ⟨fw, 0, 4, by decide +kernel⟩,
   ⟨fw, 0, 3, by decide +kernel⟩,
   ⟨fw, 0, 0, by decide +kernel⟩,
   ⟨fw.updPh 0 0 (fun x => { x with calN := 1024, st := .run }), 0, 0, by decide +kernel⟩,
   ⟨(fw.updLink 0 (fun x => { x with calN := 1024 })).updPh 0 0 (fun x => { x with st := .run }), 0,
      by decide +kernel⟩,
   ⟨fw.updPh 0 0 (fun x => { x with calN := 1024, calSq := 1000 }), 0, 0, by decide +kernel⟩,
   ⟨fw.updPh 0 0 (fun x => { x with calN := 1024 }), 0, 0, by decide +kernel⟩,
   ⟨fw, 0, by decide +kernel⟩,
   ⟨fw.updLink 0 (fun x => { x with calN := 1024 }), 0, by decide +kernel⟩,
   ⟨{ fw with cal := { fw.cal with eqSince := some 0 } }, 0, by decide +kernel⟩,
   ⟨at_ { ({ fw with
      cal := { fw.cal with eqSince := some 0 } }) with loop := { fw.loop with st := .run } } 1000000000, 0,
      by decide +kernel⟩,
   ⟨fw, by decide +kernel⟩,
   ⟨at_ ({ fw with loop := { fw.loop with st := .run }, cal := { fw.cal with eqSince := some 0 } }) (10 ^ 9), 0,
      by decide +kernel⟩,
   ⟨fw, 0, by decide +kernel⟩,
   ⟨{ fw with loop := { fw.loop with st := .run } }, by decide +kernel⟩,
   ⟨{ fw with cal := { fw.cal with dirty := true } }, 0, by decide +kernel⟩,
   ⟨fw, by decide +kernel⟩,
   ⟨fw, 0, 1087, by decide +kernel⟩,
   ⟨fw, 0, by decide +kernel⟩⟩

/-- States and operands that meet the premises of each clause of `Obligations.PowerAndHeat`. -/
theorem test_witness_PowerAndHeat :
    (∃ s : State, 2 ≤ s.hw.lowCount ∧ s.hw.phase ≠ .off) ∧
    (∃ s : State, (s.hw.lowCount < 2 ∨ s.hw.phase = .off)) ∧
    (∃ s : State, ∃ a : Nat, some a ∈ s.hw.feedGood ∧ s.hw.phase = .off ∧ s.hw.thermalOff = false ∧
      a + 100 * ms ≤ s.now) ∧
    (∃ s : State, (∀ x ∈ s.hw.feedGood, s.now < x.getD s.now + 100 * ms)) ∧
    (∃ s : State, ∃ j : Rat, s.running = true ∧ 95 < j ∧ j ≤ 110 ∧ s.hw.warnJ = false ∧ s.hw.over110 = none) ∧
    (∃ s : State, ∃ j : Rat, s.running = true ∧ 110 < j ∧ s.hw.over110 = none) ∧
    (∃ s : State, 115 < s.hw.junction ∧ s.hw.phase ≠ .off) ∧
    (∃ s : State, ∃ a : Nat, s.hw.coolSince = some a ∧ (s.hw.thermalOff = false ∨ s.now < a + 60 * sec)) ∧
    (∃ s : State, s.hw.coolSince = none) ∧
    (∃ s : State, s.running = false) ∧
    (∃ s : State, (s.hw.junction ≤ 115 ∨ s.hw.phase = .off)) ∧
    (∃ s : State, ∃ a : Nat, s.hw.coolSince = some a ∧ s.hw.thermalOff = true ∧ a + 60 * sec ≤ s.now) ∧
    (∃ s : State, s.running = true ∧ s.hw.withdrawn = false) ∧
    (∃ s : State, s.running = false ∧ s.dying = true) ∧
    (∃ s : State, s.running = false ∧ s.dying = false) :=
  ⟨⟨{ fw with hw := { fw.hw with lowCount := 2 } }, by decide +kernel⟩,
   ⟨fw, by decide +kernel⟩,
   ⟨at_ ({ fw with hw := { fw.hw with feedGood := [some 0, none], phase := .off } }) 100000000, 0, by decide +kernel⟩,
   ⟨at_ ({ fw with hw := { fw.hw with feedGood := [none, none], phase := .off } }) 100, by decide +kernel⟩,
   ⟨fw, 96, by decide +kernel⟩,
   ⟨fw, 111, by decide +kernel⟩,
   ⟨{ fw with hw := { fw.hw with junction := 116 } }, by decide +kernel⟩,
   ⟨{ fw with hw := { fw.hw with coolSince := some 0 } }, 0, by decide +kernel⟩,
   ⟨fw, by decide +kernel⟩,
   ⟨State.reset, by decide +kernel⟩,
   ⟨fw, by decide +kernel⟩,
   ⟨at_ ({ fw with hw := { fw.hw with coolSince := some 0, thermalOff := true, phase := .off } }) 60000000000, 0,
      by decide +kernel⟩,
   ⟨fw, by decide +kernel⟩,
   ⟨at_ ({ fw with hw := { fw.hw with powerFail := some 0, phase := .off } }) 19999999, by decide +kernel⟩,
   ⟨State.reset, by decide +kernel⟩⟩

/-- States and operands that meet the premises of each clause of `Obligations.ControlPeriods`. -/
theorem test_witness_ControlPeriods :
    (∃ s : State, s.running = true) ∧
    (∃ s : State, s.running = true ∧ (periodBegun s).drives = true ∧
      (periodBegun s).withheld (nextPeriod s) = false ∧ (periodBegun s).voidStages = []) ∧
    (∃ s : State, s.running = true ∧ (periodBegun s).drives = true ∧
      (periodBegun s).withheld (nextPeriod s) = false ∧ (periodBegun s).voidStages = []) ∧
    (∃ s : State, ∃ t p : Nat, s.running = true ∧ (periodBegun s).drives = true ∧
      (periodBegun s).withheld (nextPeriod s) = false ∧ (periodBegun s).voidStages = [] ∧ t < Config.trays ∧
      p < Config.phases ∧ (s.link t).up = true ∧ (s.ph t p).st = .run ∧ (s.ph t p).fresh = false ∧
      (s.tp t).share = true ∧ (s.tp t).blend = 0) ∧
    (∃ s : State, ∃ t p : Nat, s.running = true ∧ (periodBegun s).drives = true ∧
      (periodBegun s).withheld (nextPeriod s) = false ∧ (periodBegun s).voidStages = [] ∧ t < Config.trays ∧
      p < Config.phases ∧ (s.link t).up = true ∧ (s.ph t p).st = .de ∧ (s.tp t).share = true) :=
  ⟨⟨fw, by decide +kernel⟩,
   ⟨({ fw with pair := { fw.pair with role := .active } }).advance 1, by decide +kernel⟩,
   ⟨{ fw with pair := { fw.pair with role := .active } }, by decide +kernel⟩,
   ⟨{ (half .run) with
      pair := { fw.pair with role := .active }, tph := fw.tph.map fun y => { y with share := true } }, 0, 0,
      by decide +kernel⟩,
   ⟨{ (half .de) with
      pair := { fw.pair with role := .active }, tph := fw.tph.map fun y => { y with share := true } }, 0, 0,
      by decide +kernel⟩⟩

/-- States and operands that meet the premises of each clause of `Obligations.StepTakesFront`. -/
theorem test_witness_StepTakesFront :
    (∃ s : State, ∃ c : Instr, ∃ rest : List Instr, s.pending = c :: rest) ∧
    (∃ s : State, s.pending = [] ∧ s.hw.phase ≠ .off) ∧
    (∃ s : State, s.pending = [] ∧ s.hw.phase = .off) ∧
    (∃ s t : State, s.pending = [] ∧ step s = .next t) :=
  ⟨⟨{ fw with pending := [.controlPeriod] }, .controlPeriod, [], by decide +kernel⟩,
   ⟨fw, by decide +kernel⟩,
   ⟨{ fw with hw := { fw.hw with phase := .off } }, by decide +kernel⟩,
   ⟨fw, fw.advance (fw.now + 1), rfl, rfl⟩⟩

/-- States and operands that meet the premises of each clause of `Obligations.CommandsComplete`. -/
theorem test_witness_CommandsComplete :
    (∃ c : Instr, c.wf = false) ∧
    (∃ c : Instr, ∃ s : State, s.running = false ∧
      (c.family = .busLoop ∨ c.family = .phases ∨ c.family = .links ∨ c.family = .trays)) :=
  ⟨⟨.deEntry 16 0, by decide +kernel⟩,
   ⟨.loopHoldTimeout, State.reset, by decide +kernel⟩⟩

/-- States and operands that meet the premises of each clause of `Obligations.MemoryStaysCanonical`. -/
theorem test_witness_MemoryStaysCanonical : ∃ s t : State, s.memoryOk = true ∧ step s = .next t :=
  ⟨fw, fw.advance (fw.now + 1), by decide +kernel, rfl⟩

/-- States and operands that meet the premises of each clause of `Obligations.OneTimeArea`. -/
theorem test_witness_OneTimeArea :
    (∃ s : State, ∃ ses v : Nat, s.running = true ∧ ses < Config.sessions ∧ s.sec.minVer ≤ v ∧ v < 4294967296) ∧
    (∃ s : State, ∃ ses v : Nat, s.running = true ∧ ses < Config.sessions ∧ v < s.sec.minVer) ∧
    (∃ s : State, ∃ ses : Nat, s.running = true ∧ ses < Config.sessions) ∧
    (∃ s : State, ∃ ses k : Nat, s.running = true ∧ ses < Config.sessions ∧ k < 4 ∧ k ≠ s.sec.image.slot) ∧
    (∃ s : State, ∃ ses k : Nat, s.running = true ∧ ses < Config.sessions ∧ k < 4 ∧ k = s.sec.image.slot) ∧
    (∃ s t : State, step s = .next t) :=
  ⟨⟨fw, 0, 1, by decide +kernel⟩,
   ⟨{ fw with sec := { fw.sec with minVer := 2 } }, 0, 1, by decide +kernel⟩,
   ⟨fw, 0, by decide +kernel⟩,
   ⟨fw, 0, 3, by decide +kernel⟩,
   ⟨fw, 0, Sec.reset.image.slot, by decide +kernel⟩,
   ⟨fw, fw.advance (fw.now + 1), rfl⟩⟩

/-- States and operands that meet the premises of each clause of `Obligations.PowerRowsFrame`. -/
theorem test_witness_PowerRowsFrame :
    (∃ c : Instr, ∃ s t : State, exec c s = .next t ∧ c.family = .busLoop) ∧
    (∃ c : Instr, ∃ s t : State, exec c s = .next t ∧ c.family = .towpath) ∧
    (∃ c : Instr, ∃ s t : State, exec c s = .next t ∧ c.family = .feeds) :=
  ⟨⟨.loopHoldTimeout, State.reset, State.reset, rfl, rfl⟩,
   ⟨.commandWindow 0, State.reset, State.reset, rfl, rfl⟩,
   ⟨.feedRefresh, State.reset, State.reset, rfl, rfl⟩⟩

/-- States and operands that meet the premises of each clause of `Obligations.GridRowsFrame`. -/
theorem test_witness_GridRowsFrame :
    (∃ c : Instr, ∃ s t : State, exec c s = .next t ∧ c.family = .grid) ∧
    (∃ c : Instr, ∃ s t : State, exec c s = .next t ∧ c.family = .recorder) ∧
    (∃ c : Instr, ∃ s t : State, exec c s = .next t ∧ c.family = .port) :=
  ⟨⟨.periodTick, State.reset, State.reset, rfl, rfl⟩,
   ⟨.recorderClearCounters 0, State.reset, State.reset, rfl, rfl⟩,
   ⟨.pfcPauseRepeat, State.reset, State.reset, rfl, rfl⟩⟩

/-- States and operands that meet the premises of each clause of `Obligations.RepeatedRaise`. -/
theorem test_witness_RepeatedRaise : ∃ s : State, ∃ c i : Nat, s.running = true ∧ c < 65536 ∧ i < 65536 ∧
      sevTable.any (fun e => e.1 == c) = true ∧ ((∃ x ∈ s.fm.queue ++ s.fm.stack ++ s.fm.running.toList, x.code = c ∧
      x.inst = i)) :=
  ⟨{ fw with fm := { fw.fm with running := some (raise 0x0101) } }, 0x0101, 0, by decide +kernel⟩

/-- States and operands that meet the premises of each clause of `Obligations.DeliveryRecords`. -/
theorem test_witness_DeliveryRecords :
    (∃ r : EvRec, r.src < 65536 ∧ r.kind < 256 ∧ r.seq < 256 ∧ r.at_ < 2 ^ 64) ∧
    (∃ s : State, ∃ src core : Nat, s.running = true ∧ src < 1024 ∧ s.evStopped src = false ∧
      targetsOf src (s.srcWord src) = [(core, false)] ∧ s.evBusy core src = false ∧ s.srcWord src % 8 = 1 ∧
      s.sourceLevel src = true ∧ s.ev.high.contains src = false) ∧
    (∃ s : State, ∃ src core : Nat, s.running = true ∧ src < 1024 ∧ s.evStopped src = false ∧
      targetsOf src (s.srcWord src) = [(core, false)] ∧ s.evBusy core src = false ∧ s.srcWord src % 8 = 3 ∧
      s.sourceLevel src = true ∧ s.ev.high.contains src = false) ∧
    (∃ s : State, ∃ src core : Nat, s.running = true ∧ src < 1024 ∧ s.evStopped src = false ∧
      targetsOf src (s.srcWord src) = [(core, false)] ∧ s.evBusy core src = false ∧ s.srcWord src % 8 = 4 ∧
      s.sourceLevel src = false ∧ s.ev.high.contains src = true) :=
  ⟨⟨⟨1, 2, 3, 4⟩, by decide +kernel⟩,
   ⟨fw, 312, 64, by decide +kernel⟩,
   ⟨fw.setSrcWord 312 2051, 312, 64, by decide +kernel⟩,
   ⟨({ fw with clk := { fw.clk with st := .locked }, ev := { fw.ev with high := [312] } }).setSrcWord 312 2052, 312,
      64, by decide +kernel⟩⟩

end Sys2Proof.Tests
end

section
/-! SUPPORT. Proof: late edge commands (01_shelf_and_signal_flow.md). -/

namespace Sys2Proof.Machine

/-- What LATE_COMMAND_DISCARD executes (R18). -/
theorem exec_lateCommandDiscard (t p n : Nat) (s : State) :
    exec (.lateCommandDiscard t p n) s = run (okTP t p) s (lateCommandEff t p n) := rfl

/-- A tray and a phase within the module's bounds exist. -/
theorem okTP_of_lt {t p : Nat} (ht : t < Config.trays) (hp : p < Config.phases) : okTP t p = true := by
  simp [okTP, ht, hp]

/-- A command older than the phase's newest one is counted and leaves the rest of the state alone (R18). -/
theorem lateCommandEff_of_older {s : State} {t p n : Nat} (h : n < (s.ph t p).cmdAt) :
    lateCommandEff t p n s = { s with edge := { s.edge with late := sat32 (s.edge.late + 1) } } :=
  if_pos h

/-- Settles O6: firmware runs and the phase exists, so the command acts, and it is the older one. -/
theorem lateCommands : Obligations.LateCommands := by
  intro s t p n hrun ht hp hold
  rw [exec_lateCommandDiscard, okTP_of_lt ht hp, run_ok _ _ hrun, lateCommandEff_of_older hold]

end Sys2Proof.Machine
end

section
/-! SUPPORT. Proof: delivery records, their bytes and what a sensed change puts in them (11_gates_and_events.md). -/

namespace Sys2Proof.Machine

/-! ### The 16 bytes (R335) -/

/-- The layout of a record: four fields, low byte first, then four zero bytes. -/
theorem EvRec.bytes_eq (r : EvRec) :
    r.bytes = le 2 r.src ++ (le 1 r.kind ++ (le 1 r.seq ++ (le 8 r.at_ ++ [0, 0, 0, 0]))) := by
  simp only [EvRec.bytes, List.append_assoc]
  rfl

@[simp] theorem EvRec.bytes_length (r : EvRec) : r.bytes.length = 16 := by simp [EvRec.bytes]

theorem EvRec.u16At_bytes_src (r : EvRec) (h : r.src < 65536) : u16At r.bytes 0 = r.src :=
  field_mid r.bytes [] _ 0 2 _ r.bytes_eq rfl h

theorem EvRec.u8At_bytes_kind (r : EvRec) (h : r.kind < 256) : u8At r.bytes 2 = r.kind :=
  field_mid r.bytes (le 2 r.src) _ 2 1 _ r.bytes_eq (by simp) h

theorem EvRec.u8At_bytes_seq (r : EvRec) (h : r.seq < 256) : u8At r.bytes 3 = r.seq :=
  field_mid r.bytes (le 2 r.src ++ le 1 r.kind) _ 3 1 _ (by rw [r.bytes_eq, List.append_assoc]) (by simp) h

theorem EvRec.u64At_bytes_at (r : EvRec) (h : r.at_ < 2 ^ 64) : u64At r.bytes 4 = r.at_ :=
  field_mid r.bytes (le 2 r.src ++ le 1 r.kind ++ le 1 r.seq) _ 4 8 _
    (by rw [r.bytes_eq]; simp only [List.append_assoc]; rfl) (by simp) h

theorem EvRec.drop_bytes (r : EvRec) : r.bytes.drop 12 = [0, 0, 0, 0] :=
  List.drop_left' (l₁ := le 2 r.src ++ le 1 r.kind ++ le 1 r.seq ++ le 8 r.at_) (by simp)

/-! ### The levels of the sources do not depend on the event controller -/

/-- A state with another event controller. -/
def State.setEv (s : State) (x : Events) : State := { s with ev := x }

section
variable (s : State) (x : Events)

@[simp] theorem State.setEv_ph (t p : Nat) : (s.setEv x).ph t p = s.ph t p := rfl
@[simp] theorem State.setEv_tow (t : Nat) : (s.setEv x).tow t = s.tow t := rfl
@[simp] theorem State.setEv_tray (t : Nat) : (s.setEv x).tray t = s.tray t := rfl
@[simp] theorem State.setEv_link (t : Nat) : (s.setEv x).link t = s.link t := rfl
@[simp] theorem State.setEv_clk : (s.setEv x).clk = s.clk := rfl
@[simp] theorem State.setEv_routedGate (n : Nat) : (s.setEv x).routedGate n = s.routedGate n := rfl
@[simp] theorem feedLevel_setEv (n : Nat) : feedLevel (s.setEv x) n = feedLevel s n := rfl
@[simp] theorem portLevel_setEv (n : Nat) : portLevel (s.setEv x) n = portLevel s n := rfl
@[simp] theorem pairLevel_setEv (n : Nat) : pairLevel (s.setEv x) n = pairLevel s n := rfl

/-- A source's level is read from what drives it (Table 0.4). -/
@[simp] theorem State.setEv_sourceLevel (n : Nat) : (s.setEv x).sourceLevel n = s.sourceLevel n := by
  simp only [State.sourceLevel, State.setEv_ph, State.setEv_tow, State.setEv_tray, State.setEv_link, State.setEv_clk,
    State.setEv_routedGate, feedLevel_setEv, portLevel_setEv, pairLevel_setEv] <;> rfl

end

/-! ### Sensing: what it notes, and what a delivery reads of it -/

/-- What SOURCE_CHANGE notes of every change: the level and its shelf time. The sequence number moves on only for a
change that the sense takes. -/
def noteLevel (src : Nat) (s : State) : State :=
  s.setEv { s.ev with
    high := if s.sourceLevel src then (src :: s.ev.high).mergeSort (fun a b => decide (a ≤ b))
      else s.ev.high.filter (· != src)
    at_ := Store.set 0 s.ev.at_ src s.now }

section
variable (src n : Nat) (s : State)

@[simp] theorem noteLevel_now : (noteLevel src s).now = s.now := rfl
@[simp] theorem noteLevel_seq : (noteLevel src s).ev.seq = s.ev.seq := rfl
@[simp] theorem noteLevel_sourceLevel : (noteLevel src s).sourceLevel n = s.sourceLevel n :=
  State.setEv_sourceLevel s _ n

@[simp] theorem senseChange_srcWord : (senseChange src s).srcWord n = s.srcWord n := rfl
@[simp] theorem senseChange_evStopped : (senseChange src s).evStopped n = s.evStopped n := rfl
@[simp] theorem senseChange_freeTargets : (senseChange src s).freeTargets n = s.freeTargets n := rfl
@[simp] theorem senseChange_sourceLevel : (senseChange src s).sourceLevel n = s.sourceLevel n :=
  State.setEv_sourceLevel s _ n

end

/-- The record of a change just sensed: the next sequence number, modulo 256, and the shelf time of the change. -/
@[simp] theorem evRecord_senseChange (src kind : Nat) (s : State) :
    (senseChange src s).evRecord src kind =
      { src := src, kind := kind, seq := (Store.get 0 s.ev.seq src + 1) % 256, at_ := s.now } := by
  simp only [State.evRecord, senseChange, Store.get_set_same]

/-! ### Delivery to one free target -/

/-- The only target of a source is free while its core holds nothing of the source. -/
theorem freeTargets_of_idle {s : State} {src core : Nat} {fast : Bool}
    (ht : targetsOf src (s.srcWord src) = [(core, fast)]) (hb : s.evBusy core src = false) :
    s.freeTargets src = [(core, fast)] := by
  simp [State.freeTargets, ht, hb]

/-- A record delivered in the normal class is what the core's bank reads under its source (R336). -/
theorem pending_deliverAll_normal (core : Nat) (d r : EvRec) (s : State) :
    Store.get d (deliverAll [(core, false)] r s).ev.pending (ekey core r.src) = r :=
  Store.get_ins_same d _ _ r fun e he => ((Store.mem_del s.ev.pending _ e).1 he).2

/-- A high level just sensed enters the bank as a record of kind 0 (R333). -/
theorem pending_levelDeliver_senseChange {s : State} {src core : Nat} (d : EvRec) (hw : s.srcWord src % 8 = 1)
    (hl : s.sourceLevel src = true) (hs : s.evStopped src = false) (hf : s.freeTargets src = [(core, false)]) :
    Store.get d (levelDeliver src (senseChange src s)).ev.pending (ekey core src) =
      (senseChange src s).evRecord src 0 := by
  have h : levelDeliver src (senseChange src s) = deliverAll [(core, false)] ((senseChange src s).evRecord src 0)
      (useMaskWindow src (senseChange src s)) := by
    simp [levelDeliver, hw, hl, hs, hf]
  rw [h]
  exact pending_deliverAll_normal core d ((senseChange src s).evRecord src 0) _

/-- An edge that the sense takes enters the bank as the record of the change just sensed (R333). -/
theorem pending_edgeDeliver {s : State} {src core : Nat} (kind : Nat) (d : EvRec) (hs : s.evStopped src = false)
    (ht : targetsOf src (s.srcWord src) = [(core, false)]) (hf : s.freeTargets src = [(core, false)]) :
    Store.get d (edgeDeliver src kind s).ev.pending (ekey core src) = (senseChange src s).evRecord src kind := by
  have h : edgeDeliver src kind s = deliverAll [(core, false)] ((senseChange src s).evRecord src kind)
      (useMaskWindow src (senseChange src s)) := by
    simp [edgeDeliver, hs, ht, hf]
  rw [h]
  exact pending_deliverAll_normal core d ((senseChange src s).evRecord src kind) _

/-! ### SOURCE_CHANGE: each sense on the change it takes (R333) -/

theorem sourceChangeEff_of_high {s : State} {src : Nat} (hw : s.srcWord src % 8 = 1)
    (hl : s.sourceLevel src = true) (hh : s.ev.high.contains src = false) :
    sourceChangeEff src s = levelDeliver src (senseChange src (noteLevel src s)) := by
  unfold State.srcWord at hw
  simp only [sourceChangeEff, noteLevel, State.setEv, State.srcWord, hw, hl, hh, if_true, if_false, reduceCtorEq]

theorem sourceChangeEff_of_rising {s : State} {src : Nat} (hw : s.srcWord src % 8 = 3)
    (hl : s.sourceLevel src = true) (hh : s.ev.high.contains src = false) :
    sourceChangeEff src s = edgeDeliver src 1 (noteLevel src s) := by
  unfold State.srcWord at hw
  simp only [sourceChangeEff, noteLevel, State.setEv, State.srcWord, hw, hl, hh, if_true, if_false, reduceCtorEq]

theorem sourceChangeEff_of_falling {s : State} {src : Nat} (hw : s.srcWord src % 8 = 4)
    (hl : s.sourceLevel src = false) (hh : s.ev.high.contains src = true) :
    sourceChangeEff src s = edgeDeliver src 2 (noteLevel src s) := by
  unfold State.srcWord at hw
  simp only [sourceChangeEff, noteLevel, State.setEv, State.srcWord, hw, hl, hh, Bool.false_eq_true, if_false]

/-- SOURCE_CHANGE of a source there is, while firmware runs: what it leaves in the event controller. -/
theorem exec_sourceChange_ev {s : State} {src : Nat} (hrun : s.running = true) (hsrc : src < 1024) :
    ∃ u, exec (.sourceChange src) s = .next u ∧ u.ev = (sourceChangeEff src s).ev := by
  have h : exec (.sourceChange src) s = run (decide (src < 1024)) s (sourceChangeEff src) := rfl
  rw [h, decide_eq_true hsrc, run_ok _ _ hrun]
  exact ⟨_, rfl, rfl⟩

/-- Settles O60: the record's fields stand at their places; a change that the sense takes is stamped before it is
delivered, and the one target's bank then holds the record so stamped. -/
theorem deliveryRecords : Obligations.DeliveryRecords := by
  refine ⟨fun r hsrc hkind hseq hat => ⟨r.bytes_length, r.u16At_bytes_src hsrc, r.u8At_bytes_kind hkind,
    r.u8At_bytes_seq hseq, r.u64At_bytes_at hat, r.drop_bytes⟩, ?_⟩
  intro s src core hrun hsrc hstop htgt hbusy mk
  have hfree : s.freeTargets src = [(core, false)] := freeTargets_of_idle htgt hbusy
  obtain ⟨u, hu, hev⟩ := exec_sourceChange_ev hrun hsrc
  refine ⟨fun hw hl hh => ⟨u, hu, ?_⟩, fun hw hl hh => ⟨u, hu, ?_⟩, fun hw hl hh => ⟨u, hu, ?_⟩⟩
  · have hl' : (noteLevel src s).sourceLevel src = true := (noteLevel_sourceLevel src src s).trans hl
    rw [hev, sourceChangeEff_of_high hw hl hh,
      pending_levelDeliver_senseChange (s := noteLevel src s) (mk 9) hw hl' hstop hfree]
    simp [mk]
  · rw [hev, sourceChangeEff_of_rising hw hl hh, pending_edgeDeliver (s := noteLevel src s) 1 (mk 9) hstop htgt hfree]
    simp [mk]
  · rw [hev, sourceChangeEff_of_falling hw hl hh, pending_edgeDeliver (s := noteLevel src s) 2 (mk 9) hstop htgt hfree]
    simp [mk]

end Sys2Proof.Machine
end

section
/-! SUPPORT. Proof: a raise that the fault manager holds already (16_faults.md). -/

namespace Sys2Proof.Machine

/-! ### The raise that FAULT_RAISE takes (Table 16.4) -/

/-- What FAULT_RAISE executes (R444). -/
theorem exec_faultRaise (code inst : Nat) (s : State) :
    exec (.faultRaise code inst) s =
      run (decide (code < 65536) && decide (inst < 65536)) s (faultRaiseEff code inst) := rfl

/-- The data of a raise may use a free value; the manager is as it was. -/
@[simp] theorem raiseData_fm (code : Nat) (s : State) : (raiseData code s).2.fm = s.fm := by
  unfold raiseData
  split <;> rfl

/-- The raise taken is the one asked for, whether it was on its way or is its owner's now. -/
theorem State.takeRaise_code_inst (s : State) (c i : Nat) :
    (s.takeRaise c i).1.code = c ∧ (s.takeRaise c i).1.inst = i := by
  unfold State.takeRaise
  split
  next n hn =>
    obtain ⟨hlt, hat, -⟩ := List.findIdx?_eq_some_iff_getElem.1 hn
    simpa [List.getD_eq_getElem?_getD, hlt] using hat
  next => exact ⟨rfl, rfl⟩

@[simp] theorem State.takeRaise_code (s : State) (c i : Nat) : (s.takeRaise c i).1.code = c :=
  (s.takeRaise_code_inst c i).1

@[simp] theorem State.takeRaise_inst (s : State) (c i : Nat) : (s.takeRaise c i).1.inst = i :=
  (s.takeRaise_code_inst c i).2

/-- Taking a raise changes nothing of the manager but which raises are on their way. -/
theorem State.takeRaise_fm (s : State) (c i : Nat) :
    ∃ l, (s.takeRaise c i).2.fm = { s.fm with inFlight := l } := by
  unfold State.takeRaise
  split
  next n _ => exact ⟨s.fm.inFlight.eraseIdx n, rfl⟩
  next => exact ⟨s.fm.inFlight, raiseData_fm c s⟩

/-! ### The state in which the raise meets the manager -/

@[simp] theorem abandonDrill_fm (r : Raise) (s : State) : (abandonDrill r s).fm = s.fm := by
  unfold abandonDrill
  split <;> rfl

/-- The raise is taken and counted (R462), and a drill that waits is abandoned for it (Table 17.10): all that
precedes the manager's choice between coalescing, running and queueing it. -/
def State.received (s : State) (c i : Nat) : State :=
  abandonDrill (s.takeRaise c i).1 (countRaise (s.takeRaise c i).1 (s.takeRaise c i).2)

/-- Up to that choice only the raises on their way and the counters of raises have changed. -/
theorem State.received_fm (s : State) (c i : Nat) :
    ∃ l n b, (s.received c i).fm = { s.fm with inFlight := l, raised := n, bySev := b } := by
  obtain ⟨l, hl⟩ := s.takeRaise_fm c i
  exact ⟨l, _, _, by rw [State.received, abandonDrill_fm, countRaise, hl]⟩

section
variable (s : State) (c i : Nat)

@[simp] theorem State.received_queue : (s.received c i).fm.queue = s.fm.queue := by
  obtain ⟨_, _, _, h⟩ := s.received_fm c i
  rw [h]

@[simp] theorem State.received_stack : (s.received c i).fm.stack = s.fm.stack := by
  obtain ⟨_, _, _, h⟩ := s.received_fm c i
  rw [h]

@[simp] theorem State.received_running : (s.received c i).fm.running = s.fm.running := by
  obtain ⟨_, _, _, h⟩ := s.received_fm c i
  rw [h]

@[simp] theorem State.received_coalesced : (s.received c i).fm.coalesced = s.fm.coalesced := by
  obtain ⟨_, _, _, h⟩ := s.received_fm c i
  rw [h]

@[simp] theorem State.received_active : (s.received c i).fm.active = s.fm.active := by
  obtain ⟨_, _, _, h⟩ := s.received_fm c i
  rw [h]

end

/-- A raise equal to an entry of the queue, of the stack or running is one the manager holds. -/
theorem State.holdsSame_of_mem {s : State} {r x : Raise}
    (hx : x ∈ s.fm.queue ++ s.fm.stack ++ s.fm.running.toList) (hc : x.code = r.code) (hi : x.inst = r.inst) :
    s.holdsSame r = true :=
  List.any_eq_true.2 ⟨x, List.mem_append_left _ hx, by simp [Raise.same, hc, hi]⟩

/-- FAULT_RAISE of c and i, of which the manager holds an entry, coalesces the raise (R448). -/
theorem faultRaiseEff_of_held {s : State} {c i : Nat} {x : Raise}
    (hsev : sevTable.any (fun e => e.1 == c) = true)
    (hx : x ∈ s.fm.queue ++ s.fm.stack ++ s.fm.running.toList) (hc : x.code = c) (hi : x.inst = i) :
    faultRaiseEff c i s = coalesce (s.takeRaise c i).1 (s.received c i) := by
  have hheld : (s.received c i).holdsSame (s.takeRaise c i).1 = true :=
    State.holdsSame_of_mem (x := x) (by simpa using hx) (by simpa using hc) (by simpa using hi)
  rw [faultRaiseEff, if_pos hsev]
  exact if_pos hheld

/-! ### What coalescing changes (R448) -/

/-- An entry after a raise of c and i: one occurrence more if it is theirs. -/
def Raise.countSame (c i : Nat) (x : Raise) : Raise :=
  if x.code = c ∧ x.inst = i then { x with count := min (x.count + 1) 0xFFFF } else x

/-- It is what `coalesce` makes of each entry. -/
theorem Raise.ite_same_again (r : Raise) :
    (fun x : Raise => if x.same r then x.again else x) = Raise.countSame r.code r.inst := by
  funext x
  simp [Raise.countSame, Raise.same, Raise.again, sat16]

section
variable (r : Raise) (s : State)

@[simp] theorem coalesce_queue :
    (coalesce r s).fm.queue = s.fm.queue.map (Raise.countSame r.code r.inst) := by
  rw [← Raise.ite_same_again]
  rfl

@[simp] theorem coalesce_stack :
    (coalesce r s).fm.stack = s.fm.stack.map (Raise.countSame r.code r.inst) := by
  rw [← Raise.ite_same_again]
  rfl

@[simp] theorem coalesce_running :
    (coalesce r s).fm.running = s.fm.running.map (Raise.countSame r.code r.inst) := by
  rw [← Raise.ite_same_again]
  rfl

@[simp] theorem coalesce_coalesced : (coalesce r s).fm.coalesced = min (s.fm.coalesced + 1) 4294967295 := rfl

/-- The active list after it: the entry of the raise, where there is one, counts one occurrence more (R456). -/
theorem coalesce_active :
    (coalesce r s).fm.active =
      (s.updActive r.code r.inst (fun e => { e with count := sat16 (e.count + 1) })).fm.active := rfl

end

/-! ### The active list keeps its entries (R456) -/

section
variable (s : State) (c i : Nat) (f : Active → Active)

@[simp] theorem State.updActive_active_length :
    (s.updActive c i f).fm.active.length = s.fm.active.length := by
  simp [State.updActive]

/-- A change that keeps what each entry is of keeps which faults have an entry. -/
theorem State.updActive_activeOf_isSome (c' i' : Nat) (hcode : ∀ e, (f e).code = e.code)
    (hinst : ∀ e, (f e).inst = e.inst) :
    ((s.updActive c i f).activeOf c' i').isSome = (s.activeOf c' i').isSome := by
  have hkey : ((fun e : Active => e.code == c' && e.inst == i') ∘ fun e => if e.code = c ∧ e.inst = i then f e else e) =
      fun e => e.code == c' && e.inst == i' := by
    funext e
    by_cases h : e.code = c ∧ e.inst = i <;> simp [h, hcode, hinst]
  simp only [State.activeOf, State.updActive, List.find?_map, hkey, Option.isSome_map]

end

/-- Coalescing a raise makes and removes no entry of the active list. -/
theorem coalesce_keeps_entries (r : Raise) (s : State) (c i : Nat) :
    ((coalesce r s).activeOf c i).isSome = (s.activeOf c i).isSome ∧
      (coalesce r s).fm.active.length = s.fm.active.length := by
  constructor
  · rw [State.activeOf, coalesce_active]
    exact s.updActive_activeOf_isSome r.code r.inst _ c i (fun _ => rfl) fun _ => rfl
  · rw [coalesce_active, State.updActive_active_length]

/-- Settles O59: the raise taken is of c and i, the manager holds one of them, so it coalesces the two; what preceded
that choice left its entries as they were. -/
theorem repeatedRaise : Obligations.RepeatedRaise := by
  rintro s c i hrun hc hi hsev ⟨x, hx, hxc, hxi⟩ again
  obtain ⟨hsome, hlen⟩ := coalesce_keeps_entries (s.takeRaise c i).1 (s.received c i) c i
  have hexec : exec (.faultRaise c i) s =
      .next { coalesce (s.takeRaise c i).1 (s.received c i) with pending := s.pending } := by
    rw [exec_faultRaise, decide_eq_true hc, decide_eq_true hi, Bool.and_self, run_ok _ _ hrun,
      faultRaiseEff_of_held hsev hx hxc hxi]
  have hagain : again = Raise.countSame c i := rfl
  refine ⟨_, hexec, ?_, ?_, ?_, ?_, ?_, ?_⟩
  · simp [hagain]
  · simp [hagain]
  · simp [hagain]
  · simp
  · simpa [State.activeOf] using hsome
  · simpa using hlen

end Sys2Proof.Machine
end

section
/-! SUPPORT. Proof: the one-time area apart from the rest of the security area (20_security_and_firmware.md).

Few functions of the model write the security area, and fewer its one-time part. The lemmas that follow say so of each
function once, in the order of the model, so that `simp` carries `sec` through the functions that call it; those that
write other parts of the area (the measurement log, images, quotes) keep its one-time part. What is left,
RAISE_MIN_VERSION, REVOKE_KEY_SLOT and the writes that a signed request carries, moves that part upward only. -/

namespace Sys2Proof.Machine

/-- The part that R522, R526 and R528 make one-time: keys, identity, slots programmed and revoked, minimum version, and
the counter of signed writes. -/
def Sec.oneTime (x : Sec) : List Bytes × Bytes × Nat × Nat × Nat × Nat :=
  (x.keyHashes, x.idKey, x.programmed, x.revoked, x.minVer, x.counter)

@[simp] theorem Sec.ite_oneTime (c : Prop) [Decidable c] (x y : Sec) :
    (if c then x else y).oneTime = if c then x.oneTime else y.oneTime := apply_ite _ c x y

/-! ### Conditions and iterations -/

@[simp] theorem when_sec_ite (c : Bool) (g : State → State) (s : State) :
    (when_ c g s).sec = if c then (g s).sec else s.sec := by
  unfold when_
  split <;> rfl

theorem foldl_fst_sec {α β : Type} (g : State × α → β → State × α) (l : List β) (acc : State × α)
    (h : ∀ acc b, (g acc b).1.sec = acc.1.sec) : (l.foldl g acc).1.sec = acc.1.sec := by
  induction l generalizing acc with
  | nil => rfl
  | cons b l ih => exact (ih _).trans (h acc b)

theorem foldl_snd_sec {α β : Type} (g : α × State → β → α × State) (l : List β) (acc : α × State)
    (h : ∀ acc b, (g acc b).2.sec = acc.2.sec) : (l.foldl g acc).2.sec = acc.2.sec := by
  induction l generalizing acc with
  | nil => rfl
  | cons b l ih => exact (ih _).trans (h acc b)

end Sys2Proof.Machine
end

section
/-! SUPPORT. Proof: the operations that chapters share, the trays' transitions and the calibration set keep the
one-time area (20_security_and_firmware.md). -/

namespace Sys2Proof.Machine

/-! ### Operations of every family -/

@[simp] theorem idle_sec (s : State) : (idle s).sec = s.sec := by simp [idle]
@[simp] theorem flushNear_sec (s : State) : (flushNear s).sec = s.sec := by simp [flushNear]
@[simp] theorem State.draw_sec (s : State) : s.draw.2.sec = s.sec := by simp [State.draw]

@[simp] theorem State.measure_oneTime (s : State) (kind index : Nat) (hash : Bytes) :
    (s.measure kind index hash).sec.oneTime = s.sec.oneTime := rfl

@[simp] theorem State.hintsResume_sec (s : State) : s.hintsResume.sec = s.sec := by simp [State.hintsResume]

@[simp] theorem State.offsetIntoO_sec (s : State) (theta : Int) : (s.offsetIntoO theta).sec = s.sec := by
  simp [State.offsetIntoO]

@[simp] theorem State.dropStep_sec (s : State) : s.dropStep.sec = s.sec := by
  unfold State.dropStep
  split <;> simp

@[simp] theorem startDrives_sec (t : Nat) (s : State) : (startDrives t s).sec = s.sec := by simp [startDrives]

@[simp] theorem trayPrecharge_sec (t : Nat) (blackStart : Bool) (s : State) :
    (trayPrecharge t blackStart s).sec = s.sec := by simp [trayPrecharge]

/-! ### The capture ring (chapter 13) -/

@[simp] theorem capMarker_sec (cause : Nat) (s : State) : (capMarker cause s).sec = s.sec := by simp [capMarker]

@[simp] theorem capRecord_sec (kind slot : Nat) (payload : Bytes) (s : State) :
    (capRecord kind slot payload s).sec = s.sec := by simp [capRecord]

@[simp] theorem capFrame_sec (t0 : Nat) (b : Bytes) (s : State) : (capFrame t0 b s).sec = s.sec := by simp [capFrame]

@[simp] theorem capTrigger_sec (code : Nat) (s : State) : (capTrigger code s).sec = s.sec := by
  unfold capTrigger
  split <;> simp

/-! ### What the feed interface sends (chapter 09) -/

@[simp] theorem sendCommand_sec (g : Nat) (immediate : Bool) (s : State) : (sendCommand g immediate s).sec = s.sec := by
  simp [sendCommand]

@[simp] theorem zeroGroup_sec (g : Nat) (s : State) : (zeroGroup g s).sec = s.sec :=
  (sendCommand_sec ..).trans (foldl_sec _ _ _ fun _ _ => rfl)

@[simp] theorem zeroRects_sec (s : State) : (zeroRects s).sec = s.sec := by simp [zeroRects]

/-! ### The bus loop (chapter 02) -/

@[simp] theorem ingest_sec (t0 : Nat) (s : State) : (ingest t0 s).sec = s.sec := by
  simp only [ingest]
  split <;> simp

@[simp] theorem loopPeriod_sec (t0 : Nat) (s : State) : (loopPeriod t0 s).sec = s.sec := by simp [loopPeriod]
@[simp] theorem excludeEff_sec (t : Nat) (s : State) : (excludeEff t s).sec = s.sec := by simp [excludeEff]
@[simp] theorem readmitEff_sec (t : Nat) (s : State) : (readmitEff t s).sec = s.sec := by simp [readmitEff]
@[simp] theorem tripLoop_sec (s : State) : (tripLoop s).sec = s.sec := by simp [tripLoop]
@[simp] theorem holdTimeoutEff_sec (s : State) : (holdTimeoutEff s).sec = s.sec := by simp [holdTimeoutEff]
@[simp] theorem clampPersistentEff_sec (s : State) : (clampPersistentEff s).sec = s.sec := by simp [clampPersistentEff]
@[simp] theorem windowTimeoutEff_sec (s : State) : (windowTimeoutEff s).sec = s.sec := by simp [windowTimeoutEff]
@[simp] theorem farTimeoutEff_sec (s : State) : (farTimeoutEff s).sec = s.sec := by simp [farTimeoutEff]
@[simp] theorem softCompleteEff_sec (s : State) : (softCompleteEff s).sec = s.sec := by simp [softCompleteEff]

@[simp] theorem stoppingCompleteEff_sec (s : State) : (stoppingCompleteEff s).sec = s.sec := by
  simp [stoppingCompleteEff]

@[simp] theorem settleLoop_sec (s : State) : (settleLoop s).sec = s.sec := by simp [settleLoop]
@[simp] theorem loopLeaveOff_sec (st : LoopSt) (s : State) : (loopLeaveOff st s).sec = s.sec := by simp [loopLeaveOff]

@[simp] theorem loopStartEff_sec (ses : Nat) (s : State) : (loopStartEff ses s).sec = s.sec := by
  simp only [loopStartEff]
  (repeat' split) <;> simp

@[simp] theorem loopBlackStartEff_sec (ses : Nat) (s : State) : (loopBlackStartEff ses s).sec = s.sec := by
  simp only [loopBlackStartEff]
  (repeat' split) <;> simp

@[simp] theorem loopStopEff_sec (ses : Nat) (s : State) : (loopStopEff ses s).sec = s.sec := by
  unfold loopStopEff
  split <;> simp

@[simp] theorem loopResetEff_sec (ses : Nat) (s : State) : (loopResetEff ses s).sec = s.sec := by simp [loopResetEff]

/-! ### Transactions (chapter 15) -/

@[simp] theorem openTxn_sec (kind object arg requested ses seq : Nat) (s : State) :
    (openTxn kind object arg requested ses seq s).sec = s.sec := by simp [openTxn]

@[simp] theorem updTxn_sec (id : Nat) (f : Txn → Txn) (s : State) : (updTxn id f s).sec = s.sec := by simp [updTxn]

@[simp] theorem txnElement_sec (id i : Nat) (s : State) : (txnElement id i s).sec = s.sec := by
  unfold txnElement
  split <;> simp

@[simp] theorem txnLimit_sec (ses index sub : Nat) (s : State) : (txnLimit ses index sub s).sec = s.sec := by
  simp [txnLimit]

@[simp] theorem finishTxn_sec (id : Nat) (s : State) : (finishTxn id s).sec = s.sec := by
  unfold finishTxn
  split <;> simp

/-! ### Transitions of a tray (chapter 04) -/

@[simp] theorem setTray_sec (t : Nat) (st : TraySt) (s : State) : (setTray t st s).sec = s.sec := by simp [setTray]
@[simp] theorem drivesLow_sec (t : Nat) (s : State) : (drivesLow t s).sec = s.sec := by simp [drivesLow]
@[simp] theorem drivesLowButN_sec (t : Nat) (s : State) : (drivesLowButN t s).sec = s.sec := by simp [drivesLowButN]
@[simp] theorem slackOver_sec (t : Nat) (s : State) : (slackOver t s).sec = s.sec := by simp [slackOver]
@[simp] theorem slackReturn_sec (t len : Nat) (s : State) : (slackReturn t len s).sec = s.sec := by simp [slackReturn]

@[simp] theorem slackUrgent_sec (s : State) : (slackUrgent s).sec = s.sec := by
  unfold slackUrgent
  split <;> simp

@[simp] theorem leavesSet_sec (t : Nat) (s : State) : (leavesSet t s).sec = s.sec := by simp [leavesSet]

@[simp] theorem interruptDrain_sec (t cause : Nat) (s : State) : (interruptDrain t cause s).sec = s.sec := by
  simp [interruptDrain]

@[simp] theorem testOver_sec (t : Nat) (s : State) : (testOver t s).sec = s.sec := by simp [testOver]

@[simp] theorem blackStartFailed_sec (t : Nat) (s : State) : (blackStartFailed t s).sec = s.sec := by
  simp [blackStartFailed]

@[simp] theorem trayFault_sec (t cause : Nat) (s : State) : (trayFault t cause s).sec = s.sec := by simp [trayFault]

@[simp] theorem trayOpenFault_sec (t cause : Nat) (s : State) : (trayOpenFault t cause s).sec = s.sec := by
  simp [trayOpenFault]

@[simp] theorem drainOpen_sec (t cause : Nat) (s : State) : (drainOpen t cause s).sec = s.sec := by simp [drainOpen]

@[simp] theorem openAtZeroCheck_sec (t : Nat) (s : State) : (openAtZeroCheck t s).sec = s.sec := by
  simp [openAtZeroCheck]

@[simp] theorem bleedAccount_sec (t : Nat) (s : State) : (bleedAccount t s).sec = s.sec := by simp [bleedAccount]
@[simp] theorem trayAbsent_sec (t : Nat) (s : State) : (trayAbsent t s).sec = s.sec := by simp [trayAbsent]

@[simp] theorem checkOutcome_sec (t : Nat) (c : Check) (s : State) : (checkOutcome t c s).sec = s.sec := by
  simp [checkOutcome]

@[simp] theorem requestCheck_sec (t : Nat) (p : Option Nat) (manager blackStart : Bool) (s : State) :
    (requestCheck t p manager blackStart s).sec = s.sec := by simp [requestCheck]

/-! ### Tray allocation (chapter 04) -/

@[simp] theorem allocPrepare_sec (t0 : Nat) (s : State) : (allocPrepare t0 s).sec = s.sec := by simp [allocPrepare]
@[simp] theorem allocPeriod_sec (t0 : Nat) (s : State) : (allocPeriod t0 s).sec = s.sec := by simp [allocPeriod]

/-! ### The calibration set (chapter 19) -/

@[simp] theorem calApply_sec (t k : Nat) (v : Rat) (s : State) : (calApply t k v s).sec = s.sec := by simp [calApply]

@[simp] theorem calMeasure_sec (t k : Nat) (m : Rat) (s : State) : (calMeasure t k m s).sec = s.sec := by
  simp [calMeasure]

@[simp] theorem calLinkVoltage_sec (t : Nat) (s : State) : (calLinkVoltage t s).sec = s.sec := by simp [calLinkVoltage]
@[simp] theorem State.pendStore_sec (s : State) (key : Nat) : (s.pendStore key).sec = s.sec := by simp [State.pendStore]

@[simp] theorem State.storeCfg_sec (s : State) (index sub v : Nat) : (s.storeCfg index sub v).sec = s.sec := by
  simp [State.storeCfg]

@[simp] theorem calStoreLive_sec (s : State) : (calStoreLive s).sec = s.sec := by simp [calStoreLive]

end Sys2Proof.Machine
end

section
/-! SUPPORT. Proof: the power chain leaves the security area alone (20_security_and_firmware.md). -/

namespace Sys2Proof.Machine

/-! ### One period of the phases (chapter 03) -/

@[simp] theorem State.mapPhs_sec (s : State) (t : Nat) (f : Nat → Phase → Phase) : (s.mapPhs t f).sec = s.sec := by
  simp [State.mapPhs]

@[simp] theorem stepTray_sec (t : Nat) (s : State) : (stepTray t s).sec = s.sec := by
  simp only [stepTray]
  rw [State.mapPhs_sec, foldl_sec _ _ _ fun _ _ => State.raise_sec .., ite_sec, ite_self]

@[simp] theorem shareStart_sec (t : Nat) (s : State) : (shareStart t s).sec = s.sec := by simp [shareStart]
@[simp] theorem markEdged_sec (t : Nat) (s : State) : (markEdged t s).sec = s.sec := by simp [markEdged]

@[simp] theorem markCmds_sec (t t0 : Nat) (l : List (Nat × EdgeCmd)) (s : State) : (markCmds t t0 l s).sec = s.sec :=
  (markEdged_sec ..).trans (foldl_sec _ _ _ fun _ _ => rfl)

@[simp] theorem edgeFrame_sec (t0 t : Nat) (s : State) : (edgeFrame t0 t s).sec = s.sec := by simp [edgeFrame]

@[simp] theorem publishCapacity_sec (t : Nat) (s : State) : (publishCapacity t s).sec = s.sec := by
  simp [publishCapacity]

@[simp] theorem shedTrack_sec (t t0 : Nat) (s : State) : (shedTrack t t0 s).sec = s.sec := by simp [shedTrack]
@[simp] theorem clampPeriod_sec (t0 : Nat) (s : State) : (clampPeriod t0 s).sec = s.sec := by simp [clampPeriod]

@[simp] theorem decideAtInstant_sec (t p : Nat) (s : State) : (decideAtInstant t p s).sec = s.sec := by
  simp [decideAtInstant]

@[simp] theorem phasePeriod_sec (t0 t : Nat) (s : State) : (phasePeriod t0 t s).sec = s.sec := by simp [phasePeriod]

/-! ### Half-periods, detectors and phase commands (chapter 03) -/

@[simp] theorem abortDrawing_sec (t : Nat) (s : State) : (abortDrawing t s).sec = s.sec := by simp [abortDrawing]
@[simp] theorem capacityShort_sec (t : Nat) (s : State) : (capacityShort t s).sec = s.sec := by simp [capacityShort]

@[simp] theorem handOffEff_sec (t p : Nat) (c : HandCause) (s : State) : (handOffEff t p c s).sec = s.sec := by
  simp [handOffEff]

@[simp] theorem openDetectedEff_sec (t p : Nat) (s : State) : (openDetectedEff t p s).sec = s.sec := by
  simp [openDetectedEff]

@[simp] theorem senseFailed_sec (t p : Nat) (s : State) : (senseFailed t p s).sec = s.sec := by simp [senseFailed]

@[simp] theorem senseDetectedEff_sec (t p : Nat) (s : State) : (senseDetectedEff t p s).sec = s.sec := by
  simp [senseDetectedEff]

@[simp] theorem handoffCompleteEff_sec (t p : Nat) (s : State) : (handoffCompleteEff t p s).sec = s.sec := by
  simp [handoffCompleteEff]

@[simp] theorem deEntryEff_sec (t p : Nat) (s : State) : (deEntryEff t p s).sec = s.sec := by simp [deEntryEff]

@[simp] theorem trimLimitEff_sec (t p : Nat) (s : State) : (trimLimitEff t p s).sec = s.sec := by
  simp only [trimLimitEff]
  split <;> simp

@[simp] theorem drawStartEff_sec (t : Nat) (s : State) : (drawStartEff t s).sec = s.sec := by
  simp only [drawStartEff]
  (repeat' split) <;> simp

@[simp] theorem drawingCompleteEff_sec (t p : Nat) (s : State) : (drawingCompleteEff t p s).sec = s.sec := by
  simp [drawingCompleteEff]

@[simp] theorem restoreCompleteEff_sec (t p : Nat) (s : State) : (restoreCompleteEff t p s).sec = s.sec := by
  simp [restoreCompleteEff]

@[simp] theorem lockoutExpiryEff_sec (s : State) : (lockoutExpiryEff s).sec = s.sec := by simp [lockoutExpiryEff]

@[simp] theorem restoreOne_sec (t : Nat) (s : State) : (restoreOne t s).sec = s.sec := by
  unfold restoreOne
  split <;> simp

@[simp] theorem trayHalf_sec (t : Nat) (s : State) : (trayHalf t s).sec = s.sec := by simp [trayHalf]

@[simp] theorem identStep_sec (t : Nat) (s : State) : (identStep t s).sec = s.sec := by
  unfold identStep
  split <;> simp

@[simp] theorem settlePhase_sec (t p : Nat) (s : State) : (settlePhase t p s).sec = s.sec := by simp [settlePhase]
@[simp] theorem halfPeriodEff_sec (t p : Nat) (s : State) : (halfPeriodEff t p s).sec = s.sec := by simp [halfPeriodEff]
@[simp] theorem sumMismatchEff_sec (t : Nat) (s : State) : (sumMismatchEff t s).sec = s.sec := by simp [sumMismatchEff]

@[simp] theorem identCompleteEff_sec (t : Nat) (s : State) : (identCompleteEff t s).sec = s.sec := by
  unfold identCompleteEff
  split <;> simp

@[simp] theorem dropFromCheck_sec (failed : Bool) (t p : Nat) (s : State) :
    (dropFromCheck failed t p s).sec = s.sec := by
  unfold dropFromCheck
  split <;> simp

@[simp] theorem leaveCheck_sec (t p : Nat) (s : State) : (leaveCheck t p s).sec = s.sec := by simp [leaveCheck]
@[simp] theorem joinCheck_sec (t p : Nat) (s : State) : (joinCheck t p s).sec = s.sec := by simp [joinCheck]

@[simp] theorem phaseOutEff_sec (ses t p : Nat) (s : State) : (phaseOutEff ses t p s).sec = s.sec := by
  simp only [phaseOutEff]
  (repeat' split) <;> simp

@[simp] theorem phaseInEff_sec (ses t p : Nat) (s : State) : (phaseInEff ses t p s).sec = s.sec := by simp [phaseInEff]

@[simp] theorem checkStartEff_sec (t : Nat) (s : State) : (checkStartEff t s).sec = s.sec := by
  simp only [checkStartEff]
  split
  · split
    · rfl
    split
    · split <;> simp
    · split
      · rfl
      · exact foldl_sec _ _ _ fun _ _ => State.raise_sec ..
  · rfl

@[simp] theorem judge_sec (t p : Nat) (c : Check) (pass : Bool) (s : State) : (judge t p c pass s).sec = s.sec := by
  simp [judge]

@[simp] theorem sendProbe_sec (t p : Nat) (c : Check) (s : State) : (sendProbe t p c s).sec = s.sec := by
  simp [sendProbe]

@[simp] theorem phaseProbeEff_sec (t : Nat) (s : State) : (phaseProbeEff t s).sec = s.sec := by
  simp only [phaseProbeEff]
  (repeat' split) <;> simp

@[simp] theorem probeRetryEff_sec (t : Nat) (s : State) : (probeRetryEff t s).sec = s.sec := by
  simp only [probeRetryEff]
  (repeat' split) <;> simp

@[simp] theorem judgeStatus_sec (t at_ : Nat) (s : State) : (judgeStatus t at_ s).sec = s.sec := by
  simp only [judgeStatus]
  (repeat' split) <;> simp

@[simp] theorem abandonCheck_sec (t : Nat) (s : State) : (abandonCheck t s).sec = s.sec := by
  unfold abandonCheck
  split <;> simp

@[simp] theorem tripCheck_sec (t : Nat) (s : State) : (tripCheck t s).sec = s.sec := by simp [tripCheck]

@[simp] theorem lateCommandEff_sec (t p period : Nat) (s : State) : (lateCommandEff t p period s).sec = s.sec := by
  simp [lateCommandEff]

@[simp] theorem latePeriodEff_sec (delay : Nat) (s : State) : (latePeriodEff delay s).sec = s.sec := by
  simp [latePeriodEff]

/-! ### Paddle links (chapter 03) -/

@[simp] theorem sendAtOnce_sec (t : Nat) (l : List (Nat × EdgeCmd)) (s : State) : (sendAtOnce t l s).sec = s.sec := by
  simp [sendAtOnce]

@[simp] theorem sendSnubs_sec (t : Nat) (s : State) : (sendSnubs t s).sec = s.sec := by simp [sendSnubs]
@[simp] theorem snubTray_sec (t : Nat) (s : State) : (snubTray t s).sec = s.sec := by simp [snubTray]
@[simp] theorem snubShelf_sec (s : State) : (snubShelf s).sec = s.sec := by simp [snubShelf]

@[simp] theorem overcurrentPhase_sec (t p : Nat) (s : State) : (overcurrentPhase t p s).sec = s.sec := by
  simp [overcurrentPhase]

@[simp] theorem frameError_sec (t : Nat) (s : State) : (frameError t s).sec = s.sec := by simp [frameError]
@[simp] theorem otherFrame_sec (t typ : Nat) (s : State) : (otherFrame t typ s).sec = s.sec := by simp [otherFrame]

@[simp] theorem overcurrentEff_sec (t : Nat) (frame : Bytes) (s : State) : (overcurrentEff t frame s).sec = s.sec := by
  unfold overcurrentEff
  split <;> simp

@[simp] theorem overvoltageEff_sec (t : Nat) (frame : Bytes) (s : State) : (overvoltageEff t frame s).sec = s.sec := by
  unfold overvoltageEff
  split <;> simp

@[simp] theorem chargeSample_sec (t at_ : Nat) (cur : List Rat) (s : State) :
    (chargeSample t at_ cur s).sec = s.sec := by simp [chargeSample]

@[simp] theorem sampleEff_sec (t : Nat) (frame : Bytes) (s : State) : (sampleEff t frame s).sec = s.sec := by
  simp only [sampleEff]
  (repeat' split) <;> simp

@[simp] theorem blackStartCheck_sec (t : Nat) (s : State) : (blackStartCheck t s).sec = s.sec := by
  simp [blackStartCheck]

@[simp] theorem statusEff_sec (t : Nat) (frame : Bytes) (s : State) : (statusEff t frame s).sec = s.sec := by
  unfold statusEff
  split <;> simp

@[simp] theorem sendConfig_sec (t : Nat) (e : Nat × Nat) (s : State) : (sendConfig t e s).sec = s.sec := by
  simp [sendConfig]

@[simp] theorem sendStageConfig_sec (t : Nat) (s : State) : (sendStageConfig t s).sec = s.sec := by
  simp [sendStageConfig]

@[simp] theorem configReplyEff_sec (t : Nat) (frame : Bytes) (s : State) : (configReplyEff t frame s).sec = s.sec := by
  unfold configReplyEff
  split <;> simp

@[simp] theorem timeSendEff_sec (t : Nat) (s : State) : (timeSendEff t s).sec = s.sec := by simp [timeSendEff]

@[simp] theorem delayMeasureEff_sec (t roundTrip : Nat) (s : State) : (delayMeasureEff t roundTrip s).sec = s.sec := by
  simp [delayMeasureEff]

@[simp] theorem laneLostEff_sec (t : Nat) (s : State) : (laneLostEff t s).sec = s.sec := by simp [laneLostEff]

@[simp] theorem laneRestoredEff_sec (t : Nat) (s : State) : (laneRestoredEff t s).sec = s.sec := by
  simp [laneRestoredEff]

@[simp] theorem linkLossSet_sec (t : Nat) (s : State) : (linkLossSet t s).sec = s.sec := by simp [linkLossSet]
@[simp] theorem linkLost_sec (t : Nat) (s : State) : (linkLost t s).sec = s.sec := by simp [linkLost]
@[simp] theorem unwarned_sec (t : Nat) (s : State) : (unwarned t s).sec = s.sec := by simp [unwarned]

@[simp] theorem lossOfTray_sec (t : Nat) (wasInSet : Bool) (s : State) : (lossOfTray t wasInSet s).sec = s.sec := by
  simp [lossOfTray]

@[simp] theorem linkLostEff_sec (t : Nat) (s : State) : (linkLostEff t s).sec = s.sec := by simp [linkLostEff]

@[simp] theorem paddleLinkLostEff_sec (t : Nat) (s : State) : (paddleLinkLostEff t s).sec = s.sec := by
  simp [paddleLinkLostEff]

@[simp] theorem heldExpiryEff_sec (t : Nat) (s : State) : (heldExpiryEff t s).sec = s.sec := by simp [heldExpiryEff]

@[simp] theorem linkRestoredEff_sec (t : Nat) (fallback : Bool) (s : State) :
    (linkRestoredEff t fallback s).sec = s.sec := by simp [linkRestoredEff]

/-! ### The tray manager (chapter 04) -/

@[simp] theorem towStart_sec (t : Nat) (s : State) : (towStart t s).sec = s.sec := by simp [towStart]
@[simp] theorem traySeatedEff_sec (t : Nat) (s : State) : (traySeatedEff t s).sec = s.sec := by simp [traySeatedEff]
@[simp] theorem enterCheck_sec (t : Nat) (s : State) : (enterCheck t s).sec = s.sec := by simp [enterCheck]

@[simp] theorem trayInsertEff_sec (ses t : Nat) (s : State) : (trayInsertEff ses t s).sec = s.sec := by
  simp [trayInsertEff]

@[simp] theorem prechargePeriod_sec (t0 t : Nat) (s : State) : (prechargePeriod t0 t s).sec = s.sec := by
  simp [prechargePeriod]

@[simp] theorem trackCheckEff_sec (t : Nat) (s : State) : (trackCheckEff t s).sec = s.sec := by simp [trackCheckEff]

@[simp] theorem closureEff_sec (t : Nat) (s : State) : (closureEff t s).sec = s.sec := by
  simp only [closureEff]
  split <;> simp

@[simp] theorem testBegin_sec (t : Nat) (k : CTest) (s : State) : (testBegin t k s).sec = s.sec := by
  simp only [testBegin]
  split <;> simp

@[simp] theorem testStartEff_sec (t : Nat) (s : State) : (testStartEff t s).sec = s.sec := by simp [testStartEff]
@[simp] theorem closingPassed_sec (t : Nat) (s : State) : (closingPassed t s).sec = s.sec := by simp [closingPassed]

@[simp] theorem openingTested_sec (t : Nat) (ok : Bool) (s : State) : (openingTested t ok s).sec = s.sec := by
  simp [openingTested]

@[simp] theorem testEndEff_sec (t : Nat) (s : State) : (testEndEff t s).sec = s.sec := by
  simp only [testEndEff]
  split
  · split <;> simp
  · rfl

@[simp] theorem admitCompleteEff_sec (t : Nat) (s : State) : (admitCompleteEff t s).sec = s.sec := by
  simp [admitCompleteEff]

@[simp] theorem rampFromNow_sec (t : Nat) (st : TraySt) (s : State) : (rampFromNow t st s).sec = s.sec := by
  simp [rampFromNow]

@[simp] theorem drainTray_sec (t : Nat) (s : State) : (drainTray t s).sec = s.sec := by
  simp only [drainTray]
  split <;> simp

@[simp] theorem drainWith_sec (ses seq t : Nat) (s : State) : (drainWith ses seq t s).sec = s.sec := by simp [drainWith]

@[simp] theorem trayDrainEff_sec (ses t : Nat) (s : State) : (trayDrainEff ses t s).sec = s.sec := by
  simp [trayDrainEff]

@[simp] theorem moduleDrain_sec (t : Nat) (s : State) : (moduleDrain t s).sec = s.sec := by simp [moduleDrain]
@[simp] theorem drainAsCommand_sec (t : Nat) (s : State) : (drainAsCommand t s).sec = s.sec := by simp [drainAsCommand]
@[simp] theorem limitsZeroEff_sec (t : Nat) (s : State) : (limitsZeroEff t s).sec = s.sec := by simp [limitsZeroEff]

@[simp] theorem drainTimeoutEff_sec (t : Nat) (s : State) : (drainTimeoutEff t s).sec = s.sec := by
  simp only [drainTimeoutEff]
  split <;> simp

@[simp] theorem openingTimeoutEff_sec (t : Nat) (s : State) : (openingTimeoutEff t s).sec = s.sec := by
  simp only [openingTimeoutEff]
  split <;> simp

@[simp] theorem slackBegin_sec (t : Nat) (s : State) : (slackBegin t s).sec = s.sec := by simp [slackBegin]

@[simp] theorem slackAutoEff_sec (s : State) : (slackAutoEff s).sec = s.sec := by
  unfold slackAutoEff
  split <;> simp

@[simp] theorem traySlackBeginEff_sec (ses t : Nat) (s : State) : (traySlackBeginEff ses t s).sec = s.sec := by
  simp [traySlackBeginEff]

@[simp] theorem traySlackEndEff_sec (ses t : Nat) (s : State) : (traySlackEndEff ses t s).sec = s.sec := by
  simp [traySlackEndEff]

@[simp] theorem slackRestEndEff_sec (s : State) : (slackRestEndEff s).sec = s.sec := by
  simp only [slackRestEndEff]
  (repeat' split) <;> simp

@[simp] theorem urgentPeriod_sec (t0 : Nat) (s : State) : (urgentPeriod t0 s).sec = s.sec := by simp [urgentPeriod]

@[simp] theorem slackUrgentDemandEff_sec (s : State) : (slackUrgentDemandEff s).sec = s.sec := by
  unfold slackUrgentDemandEff
  split <;> simp

@[simp] theorem trayResetEff_sec (ses t : Nat) (s : State) : (trayResetEff ses t s).sec = s.sec := by
  simp [trayResetEff]

@[simp] theorem hotPull_sec (t : Nat) (s : State) : (hotPull t s).sec = s.sec := by simp [hotPull]
@[simp] theorem removedLow_sec (t : Nat) (s : State) : (removedLow t s).sec = s.sec := by simp [removedLow]

@[simp] theorem earlyBreakEff_sec (t : Nat) (s : State) : (earlyBreakEff t s).sec = s.sec := by
  simp only [earlyBreakEff]
  (repeat' split) <;> simp

@[simp] theorem pinSettle_sec (t : Nat) (s : State) : (pinSettle t s).sec = s.sec := by simp [pinSettle]
@[simp] theorem earlyMadeEff_sec (t : Nat) (s : State) : (earlyMadeEff t s).sec = s.sec := by simp [earlyMadeEff]

@[simp] theorem seatedLossEff_sec (t : Nat) (s : State) : (seatedLossEff t s).sec = s.sec := by
  simp only [seatedLossEff]
  split <;> simp

@[simp] theorem trayPeriod_sec (t0 t : Nat) (s : State) : (trayPeriod t0 t s).sec = s.sec := by simp [trayPeriod]

/-! ### The estimator (chapter 06) -/

@[simp] theorem chargePeriod_sec (t0 t : Nat) (s : State) : (chargePeriod t0 t s).sec = s.sec := by simp [chargePeriod]
@[simp] theorem applyWrites_sec (t : Nat) (s : State) : (applyWrites t s).sec = s.sec := by simp [applyWrites]
@[simp] theorem estFull_sec (t : Nat) (s : State) : (estFull t s).sec = s.sec := by simp [estFull]

@[simp] theorem estimatorUpdateEff_sec (t : Nat) (s : State) : (estimatorUpdateEff t s).sec = s.sec := by
  simp [estimatorUpdateEff]

@[simp] theorem noRestEff_sec (t : Nat) (s : State) : (noRestEff t s).sec = s.sec := by simp [noRestEff]

@[simp] theorem stepQualifiedEff_sec (t ta tb : Nat) (s : State) : (stepQualifiedEff t ta tb s).sec = s.sec := by
  unfold stepQualifiedEff
  split <;> simp

@[simp] theorem impedanceFitEff_sec (t : Nat) (s : State) : (impedanceFitEff t s).sec = s.sec := by
  unfold impedanceFitEff
  dsimp only
  split
  · rfl
  split
  · simp
  split
  · simp
  split
  · simp
  · exact (foldl_sec _ _ _ fun s c => by (repeat' split) <;> simp).trans (by simp)

@[simp] theorem impSaveAll_sec (s : State) : (impSaveAll s).sec = s.sec := by simp [impSaveAll]

@[simp] theorem impedanceTableSaveEff_sec (ok : Bool) (s : State) : (impedanceTableSaveEff ok s).sec = s.sec := by
  simp [impedanceTableSaveEff]

@[simp] theorem estSave_sec (t : Nat) (s : State) : (estSave t s).sec = s.sec := by simp [estSave]
@[simp] theorem stateSaveEff_sec (ok : Bool) (s : State) : (stateSaveEff ok s).sec = s.sec := by simp [stateSaveEff]

@[simp] theorem stateSaveNowEff_sec (t : Nat) (ok : Bool) (s : State) : (stateSaveNowEff t ok s).sec = s.sec := by
  simp [stateSaveNowEff]

@[simp] theorem impedanceSaveNowEff_sec (t : Nat) (ok : Bool) (s : State) :
    (impedanceSaveNowEff t ok s).sec = s.sec := by simp [impedanceSaveNowEff]

@[simp] theorem newTray_sec (t : Nat) (s : State) : (newTray t s).sec = s.sec := by simp [newTray]

@[simp] theorem impedanceBlockEff_sec (ses seq t offset : Nat) (data : Bytes) (s : State) :
    (impedanceBlockEff ses seq t offset data s).sec = s.sec := by simp [impedanceBlockEff]

@[simp] theorem estStart_sec (t : Nat) (s : State) : (estStart t s).sec = s.sec := by
  simp only [estStart]
  split <;> simp

@[simp] theorem estLocked_sec (t : Nat) (s : State) : (estLocked t s).sec = s.sec := by simp [estLocked]

/-! ### The feed interface (chapter 09) -/

@[simp] theorem feedsAbsentCheck_sec (s : State) : (feedsAbsentCheck s).sec = s.sec := by simp [feedsAbsentCheck]

@[simp] theorem groupGo_sec (g : Nat) (st : GroupSt) (s : State) : (groupGo g st s).sec = s.sec := by
  simp only [groupGo]
  split <;> simp

@[simp] theorem groupEval.leavesFeed_sec (s : State) : (groupEval.leavesFeed s).sec = s.sec := by
  simp [groupEval.leavesFeed]

@[simp] theorem groupEval_sec (g : Nat) (s : State) : (groupEval g s).sec = s.sec := by
  simp only [groupEval]
  (repeat' split) <;> simp

@[simp] theorem groupEnables_sec (s : State) : (groupEnables s).sec = s.sec := by simp [groupEnables]

@[simp] theorem pRefStep_sec (s : State) : (pRefStep s).sec = s.sec := by
  unfold pRefStep
  split <;> simp

@[simp] theorem feedRefreshEff_sec (s : State) : (feedRefreshEff s).sec = s.sec := by
  simp only [feedRefreshEff]
  split
  · rfl
  rw [sendCommand_sec, sendCommand_sec, foldl_sec _ _ _ fun _ _ => State.updGroup_sec ..,
    foldl_sec _ _ _ fun _ _ => State.updRect_sec .., pRefStep_sec]
  exact foldl_sec _ _ _ fun s g => by split <;> rfl

@[simp] theorem feedPeriod_sec (t0 : Nat) (s : State) : (feedPeriod t0 s).sec = s.sec := by simp [feedPeriod]

@[simp] theorem rectAlertEff_sec (port node : Nat) (data : Bytes) (s : State) :
    (rectAlertEff port node data s).sec = s.sec := by
  simp only [rectAlertEff]
  (repeat' split) <;> simp

@[simp] theorem portGood_sec (g : Nat) (s : State) : (portGood g s).sec = s.sec := by simp [portGood]

@[simp] theorem rectStatusEff_sec (port node : Nat) (data : Bytes) (s : State) :
    (rectStatusEff port node data s).sec = s.sec := by simp [rectStatusEff]

@[simp] theorem rectConfigEff_sec (port node : Nat) (data : Bytes) (s : State) :
    (rectConfigEff port node data s).sec = s.sec := by simp [rectConfigEff]

@[simp] theorem rectSilentEff_sec (r : Nat) (s : State) : (rectSilentEff r s).sec = s.sec := by simp [rectSilentEff]
@[simp] theorem dipHoldEff_sec (g : Nat) (s : State) : (dipHoldEff g s).sec = s.sec := by simp [dipHoldEff]

@[simp] theorem returnDelayEff_sec (g : Nat) (s : State) : (returnDelayEff g s).sec = s.sec := by
  unfold returnDelayEff
  split <;> simp

@[simp] theorem returnCompleteEff_sec (g : Nat) (s : State) : (returnCompleteEff g s).sec = s.sec := by
  simp [returnCompleteEff]

@[simp] theorem canErrorEff_sec (port : Nat) (s : State) : (canErrorEff port s).sec = s.sec := by simp [canErrorEff]
@[simp] theorem auxEff_sec (a b : Nat) (s : State) : (auxEff a b s).sec = s.sec := by simp [auxEff]
@[simp] theorem auxWarn_sec (s : State) : (auxWarn s).sec = s.sec := by simp [auxWarn]
@[simp] theorem feedClearEff_sec (s : State) : (feedClearEff s).sec = s.sec := by simp [feedClearEff]
@[simp] theorem rereadEff_sec (s : State) : (rereadEff s).sec = s.sec := by simp [rereadEff]

end Sys2Proof.Machine
end

section
/-! SUPPORT. Proof: the grid, the gates, the forecaster and the governor keep the one-time area
(20_security_and_firmware.md). -/

namespace Sys2Proof.Machine

/-! ### The mesh (chapter 10) -/

@[simp] theorem countSent_sec (s : State) : (countSent s).sec = s.sec := by simp [countSent]

@[simp] theorem ackBarge_sec (kind : Nat) (x : Barge) (s : State) : (ackBarge kind x s).sec = s.sec := by
  simp [ackBarge]

@[simp] theorem releaseStall_sec (src : Nat) (s : State) : (releaseStall src s).sec = s.sec := by
  unfold releaseStall
  split <;> simp

@[simp] theorem ackArrived_sec (x : Barge) (s : State) : (ackArrived x s).sec = s.sec := by simp [ackArrived]
@[simp] theorem countRetry_sec (s : State) : (countRetry s).sec = s.sec := by simp [countRetry]
@[simp] theorem resend_sec (u : Unacked) (s : State) : (resend u s).sec = s.sec := by simp [resend]

@[simp] theorem sequence_sec (b : Bytes) (x : Barge) (s : State) : (sequence b x s).2.sec = s.sec := by
  simp only [sequence]
  split <;> simp

/-! ### The gate array (chapter 11) -/

@[simp] theorem refuseOp_sec (who : Party) (s : State) : (refuseOp who s).sec = s.sec := by
  unfold refuseOp
  split <;> simp

@[simp] theorem gateSignalEff_sec (who : Party) (g n : Nat) (s : State) : (gateSignalEff who g n s).sec = s.sec := by
  simp only [gateSignalEff]
  (repeat' split) <;> simp

@[simp] theorem gateWaitEff_sec (who : Party) (g v slot channel tag : Nat) (s : State) :
    (gateWaitEff who g v slot channel tag s).sec = s.sec := by
  simp only [gateWaitEff]
  (repeat' split) <;> simp

@[simp] theorem gateArmEff_sec (who : Party) (g target : Nat) (s : State) :
    (gateArmEff who g target s).sec = s.sec := by simp [gateArmEff]

@[simp] theorem gateAdjustEff_sec (who : Party) (g : Nat) (delta : Int) (s : State) :
    (gateAdjustEff who g delta s).sec = s.sec := by simp [gateAdjustEff]

@[simp] theorem gateClearEff_sec (who : Party) (g : Nat) (s : State) : (gateClearEff who g s).sec = s.sec := by
  simp [gateClearEff]

@[simp] theorem gateCancelEff_sec (who : Party) (g : Nat) (s : State) : (gateCancelEff who g s).sec = s.sec := by
  simp [gateCancelEff]

@[simp] theorem gateRouteEff_sec (who : Party) (g src : Nat) (s : State) : (gateRouteEff who g src s).sec = s.sec := by
  simp [gateRouteEff]

@[simp] theorem allocGates_sec (n mode kind owner : Nat) (s : State) :
    (allocGates n mode kind owner s).2.sec = s.sec := by
  unfold allocGates
  split <;> simp

@[simp] theorem gateAllocateEff_sec (ses v : Nat) (s : State) : (gateAllocateEff ses v s).sec = s.sec := by
  simp [gateAllocateEff]

@[simp] theorem gateFreeEff_sec (ses base : Nat) (s : State) : (gateFreeEff ses base s).sec = s.sec := by
  unfold gateFreeEff
  split <;> simp

@[simp] theorem gateUncorrectableEff_sec (g : Nat) (s : State) : (gateUncorrectableEff g s).sec = s.sec := by
  simp [gateUncorrectableEff]

@[simp] theorem gatesClearEff_sec (s : State) : (gatesClearEff s).sec = s.sec := by simp [gatesClearEff]

/-! ### The tide forecaster and schedule ingest (chapter 07) -/

@[simp] theorem stepSample_sec (t0 : Nat) (i : Rat) (s : State) : (stepSample t0 i s).sec = s.sec := rfl

@[simp] theorem tidePeriod_sec (t0 : Nat) (s : State) : (tidePeriod t0 s).sec = s.sec := by
  unfold tidePeriod
  split <;> simp

@[simp] theorem deliver_sec (cut : Nat) (x : Rat) (s : State) : (deliver cut x s).sec = s.sec := by simp [deliver]

@[simp] theorem gateUpdateEff_sec (s : State) : (gateUpdateEff s).sec = s.sec := by
  unfold gateUpdateEff
  split <;> simp

@[simp] theorem schedEnter_sec (e : SchedEntry) (s : State) : (schedEnter e s).sec = s.sec := by simp [schedEnter]

@[simp] theorem schedCancel_sec (src part flight : Nat) (s : State) : (schedCancel src part flight s).sec = s.sec := by
  simp only [schedCancel]
  split <;> simp

@[simp] theorem schedOne_sec (arr src : Nat) (d : Bytes) (s : State) : (schedOne arr src d s).sec = s.sec := by
  simp [schedOne]

@[simp] theorem schedAll_sec (arr src n : Nat) (payload : Bytes) (s : State) :
    (schedAll arr src n payload s).sec = s.sec := by simp [schedAll]

@[simp] theorem schedInternal_sec (at_ : Nat) (watts : Int) (s : State) : (schedInternal at_ watts s).sec = s.sec := by
  simp [schedInternal]

@[simp] theorem historyStep_sec (src : Nat) (missed : Bool) (s : State) : (historyStep src missed s).sec = s.sec := by
  simp only [historyStep]
  split <;> simp

@[simp] theorem groupCloseEff_sec (g : Nat) (s : State) : (groupCloseEff g s).sec = s.sec := by
  simp only [groupCloseEff]
  split <;> simp

@[simp] theorem suspensionEndEff_sec (src : Nat) (s : State) : (suspensionEndEff src s).sec = s.sec := by
  unfold suspensionEndEff
  split <;> simp

@[simp] theorem hintLimitEff_sec (s : State) : (hintLimitEff s).sec = s.sec := by simp [hintLimitEff]

@[simp] theorem forecasterStartEff_sec (ses : Nat) (s : State) : (forecasterStartEff ses s).sec = s.sec := by
  unfold forecasterStartEff
  split <;> simp

@[simp] theorem forecasterStopEff_sec (ses : Nat) (s : State) : (forecasterStopEff ses s).sec = s.sec := by
  simp [forecasterStopEff]

@[simp] theorem modelSwitchEff_sec (ses : Nat) (s : State) : (modelSwitchEff ses s).sec = s.sec := by
  simp [modelSwitchEff]

@[simp] theorem modelForceEff_sec (s : State) : (modelForceEff s).sec = s.sec := by
  unfold modelForceEff
  split <;> simp

@[simp] theorem forecasterClearEff_sec (s : State) : (forecasterClearEff s).sec = s.sec := by simp [forecasterClearEff]
@[simp] theorem warmingCompleteEff_sec (s : State) : (warmingCompleteEff s).sec = s.sec := by simp [warmingCompleteEff]

/-! ### The rack governor (chapter 08) -/

@[simp] theorem bandCheck_sec (c : Nat) (s : State) : (bandCheck c s).sec = s.sec := by simp [bandCheck]
@[simp] theorem armFlight_sec (k n : Nat) (s : State) : (armFlight k n s).sec = s.sec := by simp [armFlight]

@[simp] theorem leaveFlights_sec (k c : Nat) (s : State) : (leaveFlights k c s).sec = s.sec := by
  unfold leaveFlights
  split
  · rfl
  · exact foldl_sec _ _ _ fun s i => by simp [↓ite_sec]

@[simp] theorem closeFlight_sec (k n : Nat) (byTime : Bool) (s : State) : (closeFlight k n byTime s).sec = s.sec := by
  simp [closeFlight]

@[simp] theorem flightCloseEff_sec (k : Nat) (s : State) : (flightCloseEff k s).sec = s.sec := by
  unfold flightCloseEff
  split <;> simp

@[simp] theorem flightTimeoutEff_sec (k : Nat) (s : State) : (flightTimeoutEff k s).sec = s.sec := by
  unfold flightTimeoutEff
  split <;> simp

@[simp] theorem countEnergy_sec (c e : Nat) (s : State) : (countEnergy c e s).sec = s.sec := by
  simp only [countEnergy]
  (repeat' split) <;> simp

@[simp] theorem strayReport_sec (s : State) : (strayReport s).sec = s.sec := by simp [strayReport]

@[simp] theorem flightArrival_sec (c n at_ : Nat) (s : State) : (flightArrival c n at_ s).sec = s.sec := by
  simp [flightArrival]

@[simp] theorem acceptReport_sec (f : Bytes) (at_ : Nat) (s : State) : (acceptReport f at_ s).sec = s.sec := by
  simp only [acceptReport]
  split <;> simp

@[simp] theorem reportEff_sec (f : Bytes) (s : State) : (reportEff f s).sec = s.sec := by
  simp only [reportEff]
  (repeat' split) <;> simp

@[simp] theorem chipSilentEff_sec (c : Nat) (s : State) : (chipSilentEff c s).sec = s.sec := by simp [chipSilentEff]
@[simp] theorem judgeTable_sec (c : Nat) (s : State) : (judgeTable c s).sec = s.sec := by simp [judgeTable]
@[simp] theorem opEntry_sec (e : Nat) (d : Bytes) (s : State) : (opEntry e d s).sec = s.sec := by simp [opEntry]

@[simp] theorem opTableEff_sec (ses seq offset : Nat) (data : Bytes) (s : State) :
    (opTableEff ses seq offset data s).sec = s.sec := by
  simp only [opTableEff]
  split
  · rfl
  split
  · simp
  rw [finishTxn_sec, foldl_sec _ _ _ fun s c => judgeTable_sec c s]
  exact (when_sec _ _ _ rfl).trans ((foldl_sec _ _ _ fun s i => by split <;> simp).trans (openTxn_sec ..))

@[simp] theorem kappaStep_sec (k : Nat) (s : State) : (kappaStep k s).sec = s.sec := by simp [kappaStep]

@[simp] theorem raisePass_sec (cls : Nat) (cool : List Rat) (s : State) (used : Rat) :
    (raisePass cls cool s used).1.sec = s.sec := by
  unfold raisePass
  refine foldl_fst_sec _ _ _ fun acc k => ?_
  rw [apply_ite Prod.fst, ite_sec, State.updPart_sec, ite_self]

@[simp] theorem raiseAll_sec (cls : Nat) (cool : List Rat) (n : Nat) (s : State) (used : Rat) :
    (raiseAll cls cool n s used).1.sec = s.sec := by
  induction n generalizing s used with
  | zero => rfl
  | succ n ih =>
    dsimp only [raiseAll]
    split <;> simp [ih]

@[simp] theorem closePoints_sec (k : Nat) (s : State) : (closePoints k s).sec = s.sec := by simp [closePoints]
@[simp] theorem startPoints_sec (s : State) : (startPoints s).sec = s.sec := by simp [startPoints]

@[simp] theorem publishGrants_sec (l : List Grant) (s : State) : (publishGrants l s).sec = s.sec := by
  simp [publishGrants]

@[simp] theorem floorGrants_sec (e : Nat) (moved : List Nat) (s : State) : (floorGrants e moved s).sec = s.sec := by
  simp [floorGrants]

@[simp] theorem computedGrants_sec (e : Nat) (moved : List Nat) (s : State) :
    (computedGrants e moved s).sec = s.sec := by
  unfold computedGrants
  dsimp only
  rw [publishGrants_sec, foldl_sec, foldl_sec, raiseAll_sec, raiseAll_sec, startPoints_sec]
  all_goals simp

@[simp] theorem newBorders_sec (s : State) : (newBorders s).sec = s.sec := by simp [newBorders]
@[simp] theorem applyBorders_sec (s : State) : (applyBorders s).1.sec = s.sec := by simp [applyBorders]

@[simp] theorem applyCommit_sec (s : State) : (applyCommit s).1.sec = s.sec := by
  simp only [applyCommit]
  (repeat' split) <;> simp

@[simp] theorem govStates_sec (s : State) : (govStates s).sec = s.sec := by
  unfold govStates
  extract_lets st st' g s1 s2 cs s3
  have h2 : s2.sec = s.sec := by
    unfold s2
    split <;> rfl
  have h3 : s3.sec = s2.sec := foldl_sec _ _ _ fun _ _ => rfl
  split
  · exact (foldl_sec _ _ _ fun s c => bandCheck_sec c s).trans (h3.trans h2)
  · exact h2

@[simp] theorem govBudget_sec (s : State) : (govBudget s).sec = s.sec := by simp [govBudget]
@[simp] theorem energyEpoch_sec (s : State) : (energyEpoch s).sec = s.sec := by simp [energyEpoch]
@[simp] theorem partBudgets_sec (s : State) : (partBudgets s).sec = s.sec := by simp [partBudgets]
@[simp] theorem armIdle_sec (s : State) : (armIdle s).sec = s.sec := by simp [armIdle]
@[simp] theorem budgetEntry_sec (old : Gov) (s : State) : (budgetEntry old s).sec = s.sec := by simp [budgetEntry]
@[simp] theorem voidEpoch_sec (s : State) : (voidEpoch s).sec = s.sec := by simp [voidEpoch]
@[simp] theorem cutBudget_sec (s : State) : (cutBudget s).1.sec = s.sec := by simp [cutBudget]

@[simp] theorem epochCutEff_sec (s : State) : (epochCutEff s).sec = s.sec := by
  unfold epochCutEff
  dsimp only
  split
  · rfl
  split
  · rfl
  split
  · simp
  · split <;> simp

@[simp] theorem governorStartEff_sec (ses : Nat) (s : State) : (governorStartEff ses s).sec = s.sec := by
  simp [governorStartEff]

@[simp] theorem governorStopEff_sec (ses : Nat) (s : State) : (governorStopEff ses s).sec = s.sec := by
  simp [governorStopEff]

@[simp] theorem commitBordersEff_sec (ses : Nat) (s : State) : (commitBordersEff ses s).sec = s.sec := by
  simp [commitBordersEff]

@[simp] theorem routeFlight_sec (ses k i src : Nat) (s : State) : (routeFlight ses k i src s).sec = s.sec := by
  simp [routeFlight]

@[simp] theorem flightSourcesEff_sec (ses k v : Nat) (s : State) : (flightSourcesEff ses k v s).sec = s.sec := by
  simp [flightSourcesEff]

@[simp] theorem governorGates_sec (s : State) : (governorGates s).sec = s.sec := by simp [governorGates]
@[simp] theorem governorClearEff_sec (s : State) : (governorClearEff s).sec = s.sec := by simp [governorClearEff]

/-! ### Stages, inputs and voids (chapter 12) -/

@[simp] theorem sendPeer_sec (src kind tag m ch : Nat) (data : Bytes) (s : State) :
    (sendPeer src kind tag m ch data s).sec = s.sec := by
  simp only [sendPeer]
  split <;> simp

@[simp] theorem sendPeers_sec (n src kind tag ch : Nat) (data : Bytes) (s : State) :
    (sendPeers n src kind tag ch data s).sec = s.sec := by simp [sendPeers]

@[simp] theorem sendOut_sec (n src kind tag : Nat) (ch : ChanDef) (data : Bytes) (s : State) :
    (sendOut n src kind tag ch data s).sec = s.sec := by
  simp only [sendOut]
  split <;> simp

@[simp] theorem digestRecord_sec (digest tag n k : Nat) (isVoid sat : Bool) (s : State) :
    (digestRecord digest tag n k isVoid sat s).sec = s.sec := by simp [digestRecord]

@[simp] theorem inputRecord_sec (n chan tag : Nat) (data : Bytes) (s : State) :
    (inputRecord n chan tag data s).sec = s.sec := by simp [inputRecord]

@[simp] theorem checkpoint_sec (n tag : Nat) (s : State) : (checkpoint n tag s).sec = s.sec := by
  unfold checkpoint
  split <;> simp

@[simp] theorem afterPeriod_sec (n : Nat) (s : State) : (afterPeriod n s).sec = s.sec := by
  simp only [afterPeriod]
  split <;> simp

@[simp] theorem voidStage_sec (n k tag : Nat) (s : State) : (voidStage n k tag s).sec = s.sec := by
  unfold voidStage
  split <;> simp

@[simp] theorem addInput_sec (n k tag chan : Nat) (data : Bytes) (s : State) :
    (addInput n k tag chan data s).sec = s.sec := by
  unfold addInput
  split <;> simp

@[simp] theorem faultPeriod_sec (n tag : Nat) (s : State) : (faultPeriod n tag s).sec = s.sec := by
  unfold faultPeriod
  extract_lets p
  split
  · rfl
  · refine foldl_sec _ _ _ fun s c => ?_
    split
    · split <;> simp
    · rfl

@[simp] theorem slotInput_sec (n chan tag : Nat) (data : Bytes) (s : State) :
    (slotInput n chan tag data s).sec = s.sec := by
  simp only [slotInput]
  split
  · split
    · rw [addInput_sec]; split <;> simp
    · rfl
  · simp
  · rfl

@[simp] theorem slotVoid_sec (n chan tag : Nat) (s : State) : (slotVoid n chan tag s).sec = s.sec := by
  simp only [slotVoid]
  split
  · split <;> simp
  · simp
  · rfl

@[simp] theorem sendWords_sec (core tag : Nat) (words : List Bytes) (s : State) :
    (sendWords core tag words s).sec = s.sec := by
  unfold sendWords
  exact foldl_sec _ _ _ fun s b => by simp

@[simp] theorem answerCall_sec (n core tag : Nat) (calls : List (Nat × Nat)) (s : State) :
    (answerCall n core tag calls s).sec = s.sec := by simp [answerCall]

@[simp] theorem stageFireEff_sec (n k : Nat) (s : State) : (stageFireEff n k s).sec = s.sec := by
  simp only [stageFireEff]
  split
  · split
    · rfl
    split
    · rfl
    rw [afterPeriod_sec, ite_sec, answerCall_sec, ite_self, sendWords_sec]
    exact (foldl_sec _ _ _ fun s e => by split <;> simp).trans (by simp)
  · rfl

/-! ### The control grid's commands (chapter 10) -/

@[simp] theorem applyWords_sec (who : Party) (n : Nat) (b : Bytes) (s : State) :
    (applyWords who n b s).sec = s.sec := by
  induction n generalizing b s with
  | zero => rfl
  | succ n ih =>
    simp only [applyWords]
    split
    · rfl
    · split <;> simp [ih]

@[simp] theorem ddrRead_sec (ch addr len : Nat) (s : State) : (ddrRead ch addr len s).2.sec = s.sec := by
  unfold ddrRead
  split <;> simp

@[simp] theorem voidInput_sec (x : Barge) (s : State) : (voidInput x s).sec = s.sec := by simp [voidInput]

@[simp] theorem deliverBarge_sec (x : Barge) (s : State) : (deliverBarge x s).sec = s.sec := by
  unfold deliverBarge
  split <;> simp

@[simp] theorem deliverBarges_sec (l : List Bytes) (s : State) : (deliverBarges l s).sec = s.sec :=
  foldl_sec _ _ _ fun s f => by split <;> simp

@[simp] theorem discardBarge_sec (s : State) : (discardBarge s).sec = s.sec := by simp [discardBarge]

@[simp] theorem recvBarge_sec (kinds : List Nat) (b : Bytes) (s : State) : (recvBarge kinds b s).sec = s.sec := by
  simp only [recvBarge]
  split
  · rfl
  · simp

theorem recvReply_sec (kind : Nat) (f : Barge → State → State) (b : Bytes) (s : State)
    (h : ∀ x s, (f x s).sec = s.sec) : (recvReply kind f b s).sec = s.sec := by
  unfold recvReply
  split
  · rfl
  · simp [h]

@[simp] theorem bargeAckEff_sec (b : Bytes) (s : State) : (bargeAckEff b s).sec = s.sec :=
  recvReply_sec _ _ _ _ ackArrived_sec

@[simp] theorem giveUp_sec (u : Unacked) (s : State) : (giveUp u s).sec = s.sec := by
  obtain ⟨order, horder⟩ : ∃ order, sequence = order := ⟨_, rfl⟩
  simp only [giveUp, horder]
  rw [releaseStall_sec, State.raise_sec]
  split
  · rw [deliverBarges_sec, ← horder, sequence_sec, voidInput_sec]
  · rfl

@[simp] theorem retryOrFail_sec (u : Unacked) (s : State) : (retryOrFail u s).sec = s.sec := by simp [retryOrFail]

@[simp] theorem bargeNakEff_sec (b : Bytes) (s : State) : (bargeNakEff b s).sec = s.sec :=
  recvReply_sec _ _ _ _ fun x s => by split <;> simp

@[simp] theorem ackTimeoutEff_sec (src dst seq : Nat) (s : State) : (ackTimeoutEff src dst seq s).sec = s.sec := by
  unfold ackTimeoutEff
  split <;> simp

@[simp] theorem tickStage_sec (n k tag : Nat) (s : State) : (tickStage n k tag s).sec = s.sec := by
  simp only [tickStage]
  rw [deliverBarges_sec, sequence_sec]
  simp

@[simp] theorem voidUnfed_sec (n tag : Nat) (p : Program) (s : State) : (voidUnfed n tag p s).sec = s.sec := by
  simp [voidUnfed]

@[simp] theorem voidFed_sec (n tag : Nat) (p : Program) (s : State) : (voidFed n tag p s).sec = s.sec := by
  refine foldl_sec _ _ _ fun s c => ?_
  split
  · rfl
  · exact foldl_sec _ _ _ fun s e => by (repeat' split) <;> simp

@[simp] theorem tickSlot_sec (n us : Nat) (s : State) : (tickSlot n us s).sec = s.sec := by
  simp only [tickSlot]
  split
  · rfl
  split <;> simp

@[simp] theorem periodTickEff_sec (s : State) : (periodTickEff s).sec = s.sec := by simp [periodTickEff]

@[simp] theorem keeperCallEff_sec (n chan gate : Nat) (payload : Bytes) (s : State) :
    (keeperCallEff n chan gate payload s).sec = s.sec := by
  simp only [keeperCallEff]
  split
  · simp
  · split <;> simp

@[simp] theorem corrected_sec (n : Nat) (s : State) : (corrected n s).sec = s.sec := by simp [corrected]

@[simp] theorem voidPresent_sec (n k : Nat) (s : State) : (voidPresent n k s).sec = s.sec := by
  simp only [voidPresent]
  (repeat' split) <;> simp

@[simp] theorem voidStages_sec (n : Nat) (l : List Nat) (s : State) : (voidStages n l s).sec = s.sec := by
  simp [voidStages]

@[simp] theorem voidCheckpoint_sec (n : Nat) (s : State) : (voidCheckpoint n s).sec = s.sec := by simp [voidCheckpoint]

@[simp] theorem sramFree_sec (n core addr : Nat) (s : State) : (sramFree n core addr s).sec = s.sec := by
  unfold sramFree
  split <;> simp

@[simp] theorem beginRestart_sec (n : Nat) (s : State) : (beginRestart n s).sec = s.sec := by simp [beginRestart]

@[simp] theorem sramBadEff_sec (core addr : Nat) (s : State) : (sramBadEff core addr s).sec = s.sec := by
  simp only [sramBadEff]
  (repeat' split) <;> simp

@[simp] theorem restoreImp_sec (t i : Nat) (s : State) : (restoreImp t i s).sec = s.sec := by simp [restoreImp]

@[simp] theorem rewriteBlock_sec (s : State) : (rewriteBlock s).sec = s.sec := by
  simp only [rewriteBlock]
  split <;> simp

@[simp] theorem memBadEff_sec (channel addr n k : Nat) (s : State) : (memBadEff channel addr n k s).sec = s.sec := by
  simp [memBadEff]

@[simp] theorem presetTray_sec (t : Nat) (s : State) : (presetTray t s).sec = s.sec := by simp [presetTray]

@[simp] theorem restartState_sec (n : Nat) (s : State) : (restartState n s).sec = s.sec := by
  simp only [restartState]
  (repeat' split) <;> simp

@[simp] theorem restartCompleteEff_sec (n : Nat) (s : State) : (restartCompleteEff n s).sec = s.sec := by
  simp [restartCompleteEff]

@[simp] theorem coreFailedEff_sec (core : Nat) (s : State) : (coreFailedEff core s).sec = s.sec := by
  simp only [coreFailedEff]
  split
  · rfl
  · split <;> simp

@[simp] theorem gridSelfTestEff_sec (failed : Nat) (s : State) : (gridSelfTestEff failed s).sec = s.sec := by
  simp [gridSelfTestEff]

@[simp] theorem gridClearEff_sec (s : State) : (gridClearEff s).sec = s.sec := by simp [gridClearEff]

/-! ### Loading, binding and dry dock (chapter 12) -/

@[simp] theorem unbindEff_sec (n : Nat) (s : State) : (unbindEff n s).sec = s.sec := by simp [unbindEff]

@[simp] theorem loadElement_sec (n k : Nat) (s : State) : (loadElement n k s).sec = s.sec := by
  simp only [loadElement]
  split <;> simp

@[simp] theorem slotBlockEff_sec (ses seq n offset : Nat) (data : Bytes) (s : State) :
    (slotBlockEff ses seq n offset data s).sec = s.sec := by simp [slotBlockEff]

@[simp] theorem tideRefused_sec (n : Nat) (s : State) : (tideRefused n s).sec = s.sec := by simp [tideRefused]

@[simp] theorem slotCheckEff_sec (ses n : Nat) (s : State) : (slotCheckEff ses n s).sec = s.sec := by
  simp [slotCheckEff]

@[simp] theorem allocBlocks_sec (n : Nat) (l : List (Nat × Nat)) (s : State) : (allocBlocks n l s).2.sec = s.sec :=
  foldl_snd_sec _ _ _ fun acc g => by simp

@[simp] theorem slotBindEff_oneTime (ses n : Nat) (s : State) :
    (slotBindEff ses n s).sec.oneTime = s.sec.oneTime := by
  simp only [slotBindEff]
  split
  · rfl
  split
  · split <;> simp
  · simp

@[simp] theorem slotUnbindEff_sec (ses n : Nat) (s : State) : (slotUnbindEff ses n s).sec = s.sec := by
  simp [slotUnbindEff]

@[simp] theorem restartSlot_sec (n : Nat) (s : State) : (restartSlot n s).sec = s.sec := by
  unfold restartSlot
  split <;> simp

@[simp] theorem slotRestartEff_sec (ses n : Nat) (s : State) : (slotRestartEff ses n s).sec = s.sec := by
  simp [slotRestartEff]

@[simp] theorem slotClearEff_sec (ses n : Nat) (s : State) : (slotClearEff ses n s).sec = s.sec := by
  simp only [slotClearEff]
  split <;> simp

@[simp] theorem slotFaultEff_sec (n : Nat) (s : State) : (slotFaultEff n s).sec = s.sec := by simp [slotFaultEff]

@[simp] theorem stagedSlotEff_sec (ses slot : Nat) (s : State) : (stagedSlotEff ses slot s).sec = s.sec := by
  simp [stagedSlotEff]

@[simp] theorem dockStartEff_sec (ses : Nat) (s : State) : (dockStartEff ses s).sec = s.sec := by
  simp only [dockStartEff]
  (repeat' split) <;> simp

@[simp] theorem replayStages_sec (p : Program) (l : List CapRecord) (lack ks : List Nat) (s : State) :
    (replayStages p l lack ks s).sec = s.sec := by
  induction ks generalizing lack s with
  | nil => rfl
  | cons k ks ih =>
    simp only [replayStages]
    split
    · rfl
    split
    · simp [ih]
    · split <;> simp [ih]

@[simp] theorem replayFwStages_sec (l : List CapRecord) (ks : List Nat) (s : State) :
    (replayFwStages l ks s).sec = s.sec := by
  induction ks generalizing s with
  | nil => simp [replayFwStages]
  | cons k ks ih =>
    simp only [replayFwStages]
    split
    · simp
    · simp
    · simp [ih]

@[simp] theorem replayFirmware_sec (l : List CapRecord) (s : State) : (replayFirmware l s).sec = s.sec := by
  unfold replayFirmware
  split <;> simp

@[simp] theorem replayPeriodEff_sec (s : State) : (replayPeriodEff s).sec = s.sec := by
  simp only [replayPeriodEff]
  split
  · split
    · rfl
    split
    · simp
    split <;> simp
  · rfl

@[simp] theorem dockStopEff_sec (ses : Nat) (s : State) : (dockStopEff ses s).sec = s.sec := by simp [dockStopEff]
@[simp] theorem dockClearEff_sec (ses : Nat) (s : State) : (dockClearEff ses s).sec = s.sec := by simp [dockClearEff]

/-! ### The forecaster's evaluation (chapter 07) -/

@[simp] theorem tideRecords_sec (slot cut : Nat) (cs : List Block) (p : List Rat) (s : State) :
    (tideRecords slot cut cs p s).sec = s.sec := by simp [tideRecords]

@[simp] theorem carriedEff_sec (cut : Nat) (saturated : Bool) (shadow : Option Rat) (s : State) :
    (carriedEff cut saturated shadow s).sec = s.sec := by simp [carriedEff]

@[simp] theorem publishedEff_sec (p : List Rat) (i0 : Rat) (shadow : Option Rat) (time : Nat) (s : State) :
    (publishedEff p i0 shadow time s).sec = s.sec := by simp [publishedEff]

@[simp] theorem evaluationEff_sec (stages shadow time : Nat) (s : State) :
    (evaluationEff stages shadow time s).sec = s.sec := by simp [evaluationEff]

@[simp] theorem deadlineMissEff_sec (complete : Bool) (s : State) : (deadlineMissEff complete s).sec = s.sec := by
  simp [deadlineMissEff]

@[simp] theorem switchModels_sec (s : State) : (switchModels s).sec = s.sec := by simp [switchModels]
@[simp] theorem switchAtCut_sec (t0 : Nat) (s : State) : (switchAtCut t0 s).sec = s.sec := by simp [switchAtCut]

end Sys2Proof.Machine
end

section
/-! SUPPORT. Proof: events, faults, time and the calibration rows keep the one-time area
(20_security_and_firmware.md). -/

namespace Sys2Proof.Machine

/-! ### The event controller (chapter 11) -/

@[simp] theorem sourceChangeEff_sec (src : Nat) (s : State) : (sourceChangeEff src s).sec = s.sec := by
  simp only [sourceChangeEff]
  (repeat' split) <;> simp

@[simp] theorem recordTaken_sec (core : Nat) (r : EvRec) (s : State) : (recordTaken core r s).sec = s.sec := by
  unfold recordTaken
  split
  · rfl
  · refine foldl_sec _ _ _ fun s n => ?_
    split
    · exact foldl_sec _ _ _ fun s q => by split <;> simp
    · exact foldl_sec _ _ _ fun s q => by split <;> simp
    · rfl

@[simp] theorem eventTakeEff_sec (core : Nat) (s : State) : (eventTakeEff core s).sec = s.sec := by
  unfold eventTakeEff
  split
  · rfl
  · split <;> simp

@[simp] theorem eventAckEff_sec (core src : Nat) (s : State) : (eventAckEff core src s).sec = s.sec := by
  simp [eventAckEff]

@[simp] theorem maskSetEff_sec (src : Nat) (s : State) : (maskSetEff src s).sec = s.sec := by simp [maskSetEff]
@[simp] theorem maskClearEff_sec (src : Nat) (s : State) : (maskClearEff src s).sec = s.sec := by simp [maskClearEff]

@[simp] theorem admitHeld_sec (core : Nat) (s : State) : (admitHeld core s).sec = s.sec := by
  unfold admitHeld
  split <;> simp

@[simp] theorem fastPopEff_sec (core : Nat) (s : State) : (fastPopEff core s).sec = s.sec := by
  unfold fastPopEff
  split <;> simp

@[simp] theorem srcWords_sec (src : Nat) (b : Bytes) (s : State) : (srcWords src b s).1.sec = s.sec := by
  fun_induction srcWords src b s <;> simp_all

@[simp] theorem sourceConfigEff_sec (ses offset : Nat) (data : Bytes) (s : State) :
    (sourceConfigEff ses offset data s).sec = s.sec := by
  simp [sourceConfigEff]

@[simp] theorem eventsClearEff_sec (s : State) : (eventsClearEff s).sec = s.sec := by simp [eventsClearEff]

/-! ### The event recorder (chapter 18) -/

@[simp] theorem rateCloseEff_sec (code inst : Nat) (s : State) : (rateCloseEff code inst s).sec = s.sec := by
  unfold rateCloseEff
  split <;> simp

@[simp] theorem reclaim_sec (s : State) : (reclaim s).sec = s.sec := by
  simp only [reclaim]
  (repeat' split) <;> simp

@[simp] theorem flashRecordEff_sec (ok : Bool) (s : State) : (flashRecordEff ok s).sec = s.sec := by
  unfold flashRecordEff
  split <;> simp

@[simp] theorem flashWriteEff_sec (ok : Bool) (s : State) : (flashWriteEff ok s).sec = s.sec := by simp [flashWriteEff]

@[simp] theorem flashRetryEff_sec (ok : Bool) (s : State) : (flashRetryEff ok s).sec = s.sec := by
  unfold flashRetryEff
  split <;> simp

@[simp] theorem warnRecord_sec (b : Bytes) (s : State) : (warnRecord b s).sec = s.sec := by simp [warnRecord]

@[simp] theorem warnTouched_sec (l : List Bytes) (offset n : Nat) (s : State) :
    (warnTouched l offset n s).sec = s.sec := by simp [warnTouched]

@[simp] theorem readRecords_sec (ses offset length : Nat) (s : State) :
    (readRecords ses offset length s).2.sec = s.sec := by
  simp only [readRecords]
  split <;> simp

@[simp] theorem recordReadEff_sec (ses offset length : Nat) (s : State) :
    (recordReadEff ses offset length s).sec = s.sec := by simp [recordReadEff]

@[simp] theorem recorderClearEff_sec (ses v : Nat) (key : Bytes) (s : State) :
    (recorderClearEff ses v key s).sec = s.sec := by simp [recorderClearEff]

@[simp] theorem recorderClearCountersEff_sec (s : State) : (recorderClearCountersEff s).sec = s.sec := by
  simp [recorderClearCountersEff]

/-! ### The fault manager (chapter 16) -/

@[simp] theorem faultCapture_sec (r : Raise) (s : State) : (faultCapture r s).sec = s.sec := by simp [faultCapture]

@[simp] theorem startHandler_sec (r : Raise) (d : Option Raise) (s : State) : (startHandler r d s).sec = s.sec := by
  simp [startHandler]

@[simp] theorem runNow_sec (r : Raise) (d : Option Raise) (s : State) : (runNow r d s).sec = s.sec := by
  unfold runNow
  split <;> simp

@[simp] theorem abandonDrill_sec (r : Raise) (s : State) : (abandonDrill r s).sec = s.sec := by simp [abandonDrill]
@[simp] theorem discardRaise_sec (x : Raise) (s : State) : (discardRaise x s).sec = s.sec := by simp [discardRaise]

@[simp] theorem enqueueRaise_sec (r : Raise) (s : State) : (enqueueRaise r s).sec = s.sec := by
  simp only [enqueueRaise]
  split <;> simp

@[simp] theorem coalesce_sec (r : Raise) (s : State) : (coalesce r s).sec = s.sec := by simp [coalesce]
@[simp] theorem deliverRaise_sec (r : Raise) (s : State) : (deliverRaise r s).sec = s.sec := by simp [deliverRaise]

@[simp] theorem raiseData_sec (code : Nat) (s : State) : (raiseData code s).2.sec = s.sec := by
  unfold raiseData
  split <;> simp

@[simp] theorem State.takeRaise_sec (s : State) (code inst : Nat) : (s.takeRaise code inst).2.sec = s.sec := by
  unfold State.takeRaise
  split <;> simp

@[simp] theorem faultRaiseEff_sec (code inst : Nat) (s : State) : (faultRaiseEff code inst s).sec = s.sec := by
  simp [faultRaiseEff]

@[simp] theorem resumeTop_sec (s : State) : (resumeTop s).sec = s.sec := by
  unfold resumeTop
  split <;> simp

@[simp] theorem nextHandler.startNext_sec (h : Raise × Option Raise) (s : State) :
    (nextHandler.startNext h s).sec = s.sec := by
  unfold nextHandler.startNext
  split <;> simp

@[simp] theorem nextHandler_sec (s : State) : (nextHandler s).sec = s.sec := by
  simp only [nextHandler]
  split <;> simp

@[simp] theorem handlerEndEff_sec (s : State) : (handlerEndEff s).sec = s.sec := by
  unfold handlerEndEff
  split <;> simp

@[simp] theorem overrunEff_sec (s : State) : (overrunEff s).sec = s.sec := by
  unfold overrunEff
  split <;> simp

@[simp] theorem conditionGoneEff_sec (code inst : Nat) (s : State) : (conditionGoneEff code inst s).sec = s.sec := by
  simp [conditionGoneEff]

@[simp] theorem acknowledgeEff_sec (ses v : Nat) (s : State) : (acknowledgeEff ses v s).sec = s.sec := by
  simp only [acknowledgeEff]
  (repeat' split) <;> simp

@[simp] theorem faultsClearEff_sec (s : State) : (faultsClearEff s).sec = s.sec := by simp [faultsClearEff]
@[simp] theorem recordStart_sec (r : Raise) (s : State) : (recordStart r s).sec = s.sec := by simp [recordStart]

@[simp] theorem recordAtStart_sec (code : Nat) (data : Bytes) (s : State) :
    (recordAtStart code data s).sec = s.sec := by simp [recordAtStart]

/-! ### Frames of the pair link (chapter 17) -/

@[simp] theorem State.sendPair_sec (s : State) (typ : Nat) (handover : Bool) (data : Bytes) :
    (s.sendPair typ handover data).sec = s.sec := by simp [State.sendPair]

@[simp] theorem sendHello_sec (s : State) : (sendHello s).sec = s.sec := by simp [sendHello]

theorem recvPair_oneTime (typ : Nat) (frame : Bytes) (f : PairMsg → State → State) (s : State)
    (h : ∀ m s, (f m s).sec.oneTime = s.sec.oneTime) : (recvPair typ frame f s).sec.oneTime = s.sec.oneTime := by
  unfold recvPair
  split
  · rfl
  · split <;> simp [h]

/-! ### Shelf time sets back its instants (chapter 13) -/

@[simp] theorem State.moveTimes_oneTime (d : Int) (s : State) : (s.moveTimes d).sec.oneTime = s.sec.oneTime := rfl

/-! ### Shelf time, PTP and the crystals (chapters 13 and 14) -/

@[simp] theorem servo_sec (s : State) : (servo s).sec = s.sec := by simp [servo]
@[simp] theorem largeOffset_sec (theta : Int) (s : State) : (largeOffset theta s).sec = s.sec := by simp [largeOffset]

@[simp] theorem clockAfter_sec (theta : Int) (s : State) : (clockAfter theta s).sec = s.sec := by
  unfold clockAfter
  extract_lets x within
  split
  · simp
  · simp
  · split
    · rw [State.raise_sec, State.hintsResume_sec]
      exact forTrays_sec _ _ fun t s => estLocked_sec t s
    · rfl
  · split
    · simp
    · rfl
  · rfl

@[simp] theorem offsetEff_sec (theta : Int) (x : PtpExchange) (s : State) : (offsetEff theta x s).sec = s.sec := by
  simp [offsetEff]

@[simp] theorem discardEff_sec (x : PtpExchange) (s : State) : (discardEff x s).sec = s.sec := by simp [discardEff]
@[simp] theorem holdoverEff_sec (s : State) : (holdoverEff s).sec = s.sec := by simp [holdoverEff]

@[simp] theorem newMaster_sec (s : State) : (newMaster s).sec = s.sec := by
  unfold newMaster
  split <;> simp

@[simp] theorem portStateEff_sec (slave master : Nat) (s : State) : (portStateEff slave master s).sec = s.sec := by
  simp [portStateEff]

@[simp] theorem applyStep_oneTime (d off : Int) (s : State) : (applyStep d off s).sec.oneTime = s.sec.oneTime := by
  simp [applyStep, ↓ite_sec]

@[simp] theorem stepEff_oneTime (s : State) : (stepEff s).sec.oneTime = s.sec.oneTime := by
  unfold stepEff
  split
  · rfl
  split
  · simp
  split
  · exact applyStep_oneTime ..
  · rfl

@[simp] theorem timeFrameEff_oneTime (frame : Bytes) (s : State) :
    (timeFrameEff frame s).sec.oneTime = s.sec.oneTime :=
  recvPair_oneTime _ _ _ _ fun m s => by
    split
    · simp
    · rfl

@[simp] theorem ptpEmit_sec (kind : PtpMessage) (s : State) : (ptpEmit kind s).sec = s.sec := by
  simp only [ptpEmit]
  (repeat' split) <;> simp

@[simp] theorem ptpSendEff_sec (kind : PtpMessage) (s : State) : (ptpSendEff kind s).sec = s.sec := by simp [ptpSendEff]

@[simp] theorem delayResp_sec (seq : Nat) (time : Int) (peer : Nat) (s : State) :
    (delayResp seq time peer s).sec = s.sec := by simp [delayResp]

@[simp] theorem flushPtp_sec (s : State) : (flushPtp s).sec = s.sec := by
  unfold flushPtp
  split
  · rfl
  · exact foldl_sec _ _ _ fun s h => by cases h <;> simp

@[simp] theorem announceHeard_sec (port : Nat) (body : Bytes) (s : State) :
    (announceHeard port body s).sec = s.sec := by simp [announceHeard]

@[simp] theorem ptpArrives_sec (vlan : Nat) (p : Bytes) (s : State) : (ptpArrives vlan p s).sec = s.sec := by
  unfold ptpArrives
  split <;> simp

@[simp] theorem crystalEff_sec (dev : Rat) (s : State) : (crystalEff dev s).sec = s.sec := by simp [crystalEff]

@[simp] theorem pllEff_sec (i : Island) (s : State) : (pllEff i s).sec = s.sec := by
  unfold pllEff
  split <;> simp

@[simp] theorem postExpiryEff_sec (s : State) : (postExpiryEff s).sec = s.sec := by simp [postExpiryEff]

@[simp] theorem captureStartEff_sec (ses : Nat) (s : State) : (captureStartEff ses s).sec = s.sec := by
  simp [captureStartEff]

@[simp] theorem captureFreezeEff_sec (ses : Nat) (s : State) : (captureFreezeEff ses s).sec = s.sec := by
  simp [captureFreezeEff]

@[simp] theorem captureReleaseEff_sec (ses : Nat) (s : State) : (captureReleaseEff ses s).sec = s.sec := by
  simp [captureReleaseEff]

@[simp] theorem captureStopEff_sec (ses : Nat) (s : State) : (captureStopEff ses s).sec = s.sec := by
  simp [captureStopEff]

/-! ### The manifest (chapter 17) -/

@[simp] theorem mirrorGate_sec (g : Nat) (x : Gate) (s : State) : (mirrorGate g x s).sec = s.sec := by
  simp only [mirrorGate]
  (repeat' split) <;> simp

@[simp] theorem holdTxn_sec (r : Txn) (s : State) : (holdTxn r s).sec = s.sec := by simp [holdTxn]

@[simp] theorem loadEntry_sec (id n : Nat) (e : Bytes) (s : State) : (loadEntry id n e s).sec = s.sec := by
  unfold loadEntry
  split
  · dsimp only
    exact foldl_sec _ _ _ fun s t => bleedAccount_sec t s
  · rfl
  · rfl
  · rfl
  · exact foldl_sec _ _ _ fun _ _ => State.updChip_sec ..
  · rfl
  · dsimp only
    exact foldl_sec _ _ _ fun s r => holdTxn_sec r s
  · exact foldl_sec _ _ _ fun s r => mirrorGate_sec ..
  · rfl
  · split <;> rfl
  · rfl

/-! ### The calibration set's commands (chapter 19) -/

@[simp] theorem dropMeasure_sec (e : Nat) (s : State) : (dropMeasure e s).sec = s.sec := by simp [dropMeasure]

@[simp] theorem calWrite_sec (e bits : Nat) (locked : Bool) (s : State) : (calWrite e bits locked s).sec = s.sec := by
  simp [calWrite]

@[simp] theorem calElements_sec (id first i : Nat) (l : List Bytes) (s : State) :
    (calElements id first i l s).sec = s.sec := by
  induction l generalizing i s with
  | nil => rfl
  | cons b rest ih =>
    simp only [calElements]
    split <;> simp [ih]

@[simp] theorem calBlockEff_sec (ses seq offset : Nat) (data : Bytes) (s : State) :
    (calBlockEff ses seq offset data s).sec = s.sec := by
  simp [calBlockEff]

@[simp] theorem calScalarEff_sec (ses t sub value : Nat) (s : State) :
    (calScalarEff ses t sub value s).sec = s.sec := by simp [calScalarEff]

@[simp] theorem resetAnchors_sec (r : Nat) (s : State) : (resetAnchors r s).sec = s.sec := by simp [resetAnchors]

@[simp] theorem liveRoutinesEff_sec (ses v : Nat) (s : State) : (liveRoutinesEff ses v s).sec = s.sec := by
  simp [liveRoutinesEff]

@[simp] theorem phaseOffsetEff_sec (t p : Nat) (s : State) : (phaseOffsetEff t p s).sec = s.sec := by
  simp [phaseOffsetEff]

@[simp] theorem dcOffsetEff_sec (t : Nat) (s : State) : (dcOffsetEff t s).sec = s.sec := by simp [dcOffsetEff]

@[simp] theorem equaliseEff_sec (s : State) : (equaliseEff s).sec = s.sec := by
  unfold equaliseEff
  split <;> simp

@[simp] theorem calLiveStoreEff_sec (s : State) : (calLiveStoreEff s).sec = s.sec := by simp [calLiveStoreEff]
@[simp] theorem calLockEff_sec (b : Bool) (s : State) : (calLockEff b s).sec = s.sec := by simp [calLockEff]
@[simp] theorem calClearEff_sec (s : State) : (calClearEff s).sec = s.sec := by simp [calClearEff]

end Sys2Proof.Machine
end

section
/-! SUPPORT. Proof: resets, the pair, the towpath, the image and the port keep the one-time area
(20_security_and_firmware.md). -/

namespace Sys2Proof.Machine

/-! ### Resets, boot, start and power fail (chapters 15 and 20) -/

@[simp] theorem loseVolatile_oneTime (powered : Bool) (s : State) :
    (loseVolatile powered s).sec.oneTime = s.sec.oneTime := by
  cases powered <;> rfl

@[simp] theorem flushStaged_sec (n : Nat) (s : State) : (flushStaged n s).sec = s.sec := by
  induction n generalizing s with
  | zero => rfl
  | succ n ih => simp [flushStaged, ih]

@[simp] theorem resetModule_oneTime (cause : Nat) (s : State) : (resetModule cause s).sec.oneTime = s.sec.oneTime := by
  simp [resetModule]

@[simp] theorem moduleResetEff_oneTime (ses : Nat) (s : State) :
    (moduleResetEff ses s).sec.oneTime = s.sec.oneTime := by
  unfold moduleResetEff
  split <;> simp

@[simp] theorem watchdogEff_oneTime (core : Nat) (s : State) : (watchdogEff core s).sec.oneTime = s.sec.oneTime := by
  simp only [watchdogEff]
  split
  · rfl
  · simp

theorem saysRole_sec (f : State → State) (s : State) (h : ∀ s, (f s).sec = s.sec) : (saysRole f s).sec = s.sec := by
  simp [saysRole, h]

@[simp] theorem bootEff_oneTime (pins : BootPins) (s : State) : (bootEff pins s).sec.oneTime = s.sec.oneTime := by
  simp [bootEff]

@[simp] theorem loadSettings_sec (lost : List Nat) (s : State) : (loadSettings lost s).sec = s.sec := by
  simp [loadSettings]

@[simp] theorem loadCal_sec (lost : List Nat) (s : State) : (loadCal lost s).sec = s.sec := by simp [loadCal]
@[simp] theorem loadTxns_sec (s : State) : (loadTxns s).sec = s.sec := by simp [loadTxns]

@[simp] theorem startRecord_sec (due : Bool) (code : Nat) (data : Bytes) (s : State) :
    (startRecord due code data s).sec = s.sec := by simp [startRecord]

@[simp] theorem startRecords_oneTime (lost : List Nat) (wasOpen : Bool) (s : State) :
    (startRecords lost wasOpen s).sec.oneTime = s.sec.oneTime := by
  change (startRecord _ _ _ _).sec.oneTime = _
  simp only [startRecord_sec]
  split <;> split <;> simp

@[simp] theorem recordInFlight_sec (s : State) : (recordInFlight s).sec = s.sec := by simp [recordInFlight]

@[simp] theorem moduleStartEff_oneTime (lost : List Nat) (s : State) :
    (moduleStartEff lost s).sec.oneTime = s.sec.oneTime := by
  simp only [moduleStartEff]
  split
  · rfl
  · simp [saysRole_sec]

@[simp] theorem sendStore_sec (key : Nat) (s : State) : (sendStore key s).sec = s.sec := by simp [sendStore]
@[simp] theorem storeKey_sec (key : Nat) (s : State) : (storeKey key s).sec = s.sec := by simp [storeKey]
@[simp] theorem tryStore_sec (key : Nat) (ok : Bool) (s : State) : (tryStore key ok s).sec = s.sec := by simp [tryStore]

@[simp] theorem storeEff_sec (key : Nat) (ok : Bool) (s : State) : (storeEff key ok s).sec = s.sec := by
  unfold storeEff
  split <;> simp

@[simp] theorem storeRetryEff_sec (key : Nat) (ok : Bool) (s : State) : (storeRetryEff key ok s).sec = s.sec := by
  unfold storeRetryEff
  split <;> simp

@[simp] theorem storeAllEff_sec (s : State) : (storeAllEff s).sec = s.sec := by simp [storeAllEff]
@[simp] theorem txnCopyEff_sec (s : State) : (txnCopyEff s).sec = s.sec := by simp [txnCopyEff]

@[simp] theorem powerFailSequence_oneTime (s : State) : (powerFailSequence s).sec.oneTime = s.sec.oneTime := by
  simp only [powerFailSequence]
  rw [loseVolatile_oneTime, flushStaged_sec]
  simp

@[simp] theorem powerFailEff_oneTime (s : State) : (powerFailEff s).sec.oneTime = s.sec.oneTime := by
  unfold powerFailEff
  split <;> simp

@[simp] theorem powerUp_oneTime (s : State) : (powerUp s).sec.oneTime = s.sec.oneTime := rfl

@[simp] theorem powerRestoreEff_oneTime (s : State) : (powerRestoreEff s).sec.oneTime = s.sec.oneTime := by
  simp [powerRestoreEff]

@[simp] theorem thermalEff_sec (j i : Rat) (s : State) : (thermalEff j i s).sec = s.sec := by simp [thermalEff]

@[simp] theorem thermalShutdownEff_oneTime (s : State) : (thermalShutdownEff s).sec.oneTime = s.sec.oneTime := by
  simp only [thermalShutdownEff]
  split
  · exact powerFailSequence_oneTime s
  · rfl

@[simp] theorem thermalRestartEff_oneTime (s : State) : (thermalRestartEff s).sec.oneTime = s.sec.oneTime := by
  unfold thermalRestartEff
  split <;> simp

@[simp] theorem recordDying_sec (s : State) : (recordDying s).sec = s.sec := by simp [recordDying]
@[simp] theorem withdrawnEff_sec (s : State) : (withdrawnEff s).sec = s.sec := by simp [withdrawnEff]

/-! ### The redundant pair (chapter 17) -/

@[simp] theorem decideEff_sec (s : State) : (decideEff s).sec = s.sec := by
  simp [decideEff, saysRole_sec]

@[simp] theorem sendStoredSet_sec (s : State) : (sendStoredSet s).sec = s.sec := by simp [sendStoredSet]

@[simp] theorem decideByPosition_sec (partner : Nat) (s : State) : (decideByPosition partner s).sec = s.sec := by
  simp [decideByPosition]

@[simp] theorem helloEff_oneTime (frame : Bytes) (s : State) : (helloEff frame s).sec.oneTime = s.sec.oneTime :=
  recvPair_oneTime _ _ _ _ fun m s => by simp [saysRole_sec, ↓ite_sec]

@[simp] theorem pairUpEff_sec (s : State) : (pairUpEff s).sec = s.sec := by simp [pairUpEff]
@[simp] theorem pairLaneEff_sec (s : State) : (pairLaneEff s).sec = s.sec := by simp [pairLaneEff]

@[simp] theorem finishLayout_sec (s : State) : (finishLayout s).sec = s.sec := by
  unfold finishLayout
  split <;> simp

@[simp] theorem pairDownEff_sec (s : State) : (pairDownEff s).sec = s.sec := by simp [pairDownEff]

@[simp] theorem layoutTakes_sec (s : State) : (layoutTakes s).sec = s.sec := by
  unfold layoutTakes
  split <;> simp

@[simp] theorem sendManifest_sec (handover : Bool) (s : State) : (sendManifest handover s).sec = s.sec := by
  simp [sendManifest]

@[simp] theorem manifestSendEff_sec (s : State) : (manifestSendEff s).sec = s.sec := by simp [manifestSendEff]
@[simp] theorem drillDone_sec (s : State) : (drillDone s).sec = s.sec := by simp [drillDone]

@[simp] theorem commitManifest_sec (no : Nat) (m : Bytes) (s : State) : (commitManifest no m s).sec = s.sec := by
  simp [commitManifest]

@[simp] theorem refuseManifest_sec (s : State) : (refuseManifest s).sec = s.sec := by
  simp only [refuseManifest]
  split <;> simp

@[simp] theorem manifestPartEff_oneTime (frame : Bytes) (s : State) :
    (manifestPartEff frame s).sec.oneTime = s.sec.oneTime :=
  recvPair_oneTime _ _ _ _ fun m s => by simp [↓ite_sec]

@[simp] theorem pairAckEff_oneTime (frame : Bytes) (s : State) : (pairAckEff frame s).sec.oneTime = s.sec.oneTime :=
  recvPair_oneTime _ _ _ _ fun m s => by simp [↓ite_sec]

@[simp] theorem layoutCommitEff_oneTime (ses seq : Nat) (s : State) :
    (layoutCommitEff ses seq s).sec.oneTime = s.sec.oneTime := by simp [layoutCommitEff]

@[simp] theorem manifestMissedEff_sec (s : State) : (manifestMissedEff s).sec = s.sec := by
  simp only [manifestMissedEff]
  (repeat' split) <;> simp

@[simp] theorem faultInEff_sec (s : State) : (faultInEff s).sec = s.sec := by
  simp only [faultInEff]
  split <;> simp

@[simp] theorem roleInFallEff_sec (s : State) : (roleInFallEff s).sec = s.sec := by
  simp only [roleInFallEff]
  split <;> simp

@[simp] theorem takeNowEff_sec (ses : Nat) (s : State) : (takeNowEff ses s).sec = s.sec := by simp [takeNowEff]

@[simp] theorem pairHandoverEff_oneTime (frame : Bytes) (s : State) :
    (pairHandoverEff frame s).sec.oneTime = s.sec.oneTime :=
  recvPair_oneTime _ _ _ _ fun m s => by simp

@[simp] theorem drillEff_sec (ses : Nat) (s : State) : (drillEff ses s).sec = s.sec := by simp [drillEff]

@[simp] theorem drillAbandonEff_sec (s : State) : (drillAbandonEff s).sec = s.sec := by
  unfold drillAbandonEff
  split <;> simp

@[simp] theorem standbyTestEff_sec (failed : Nat) (s : State) : (standbyTestEff failed s).sec = s.sec := by
  simp [standbyTestEff]

@[simp] theorem pairClearEff_sec (s : State) : (pairClearEff s).sec = s.sec := by simp [pairClearEff]
@[simp] theorem layoutDiscardEff_sec (s : State) : (layoutDiscardEff s).sec = s.sec := by simp [layoutDiscardEff]

/-! ### The towpath (chapter 05) -/

@[simp] theorem cfgCheck_sec (t : Nat) (s : State) : (cfgCheck t s).sec = s.sec := by simp [cfgCheck]

@[simp] theorem markSuspect_sec (t m cells : Nat) (lines : List Nat) (s : State) :
    (markSuspect t m cells lines s).sec = s.sec := by simp [markSuspect]

@[simp] theorem markUnreadable_sec (t cells inst : Nat) (s : State) : (markUnreadable t cells inst s).sec = s.sec := by
  simp [markUnreadable]

@[simp] theorem monUnreadable_sec (t m : Nat) (s : State) : (monUnreadable t m s).sec = s.sec := by simp [monUnreadable]

@[simp] theorem ringCycle_sec (southMissed t : Nat) (s : State) : (ringCycle southMissed t s).sec = s.sec := by
  simp [ringCycle, ↓ite_sec]

@[simp] theorem towpathCycleEff_sec (southMissed : Nat) (s : State) : (towpathCycleEff southMissed s).sec = s.sec := by
  simp [towpathCycleEff]

@[simp] theorem cfgReply_sec (t h : Nat) (d : Bytes) (s : State) : (cfgReply t h d s).sec = s.sec := by simp [cfgReply]

@[simp] theorem towReplyEff_sec (t : Nat) (frame : Bytes) (s : State) : (towReplyEff t frame s).sec = s.sec := by
  unfold towReplyEff
  split <;> simp

@[simp] theorem ringVerdict_sec (t : Nat) (s : State) : (ringVerdict t s).sec = s.sec := by simp [ringVerdict]
@[simp] theorem discardTest_sec (t : Nat) (s : State) : (discardTest t s).sec = s.sec := by simp [discardTest]

@[simp] theorem classifyBreak_sec (t h : Nat) (s : State) : (classifyBreak t h s).sec = s.sec := by
  simp only [classifyBreak]
  split <;> simp

@[simp] theorem southVerdict_sec (t : Nat) (s : State) : (southVerdict t s).sec = s.sec := by simp [southVerdict]
@[simp] theorem plausSendEff_sec (t : Nat) (s : State) : (plausSendEff t s).sec = s.sec := by simp [plausSendEff]

@[simp] theorem southRecoveryEff_sec (t : Nat) (s : State) : (southRecoveryEff t s).sec = s.sec := by
  simp [southRecoveryEff]

@[simp] theorem breakClassifyEff_sec (t : Nat) (s : State) : (breakClassifyEff t s).sec = s.sec := by
  simp [breakClassifyEff]

@[simp] theorem ringWholeEff_sec (t : Nat) (s : State) : (ringWholeEff t s).sec = s.sec := by simp [ringWholeEff]
@[simp] theorem takePlaus_sec (t : Nat) (s : State) : (takePlaus t s).sec = s.sec := by simp [takePlaus]

@[simp] theorem plausComparisonEff_sec (t : Nat) (s : State) : (plausComparisonEff t s).sec = s.sec := by
  simp [plausComparisonEff]

@[simp] theorem senseSuspicionEff_sec (t m : Nat) (s : State) : (senseSuspicionEff t m s).sec = s.sec := by
  simp [senseSuspicionEff]

@[simp] theorem openScheduledEff_sec (t : Nat) (s : State) : (openScheduledEff t s).sec = s.sec := by
  simp [openScheduledEff]

@[simp] theorem senseDecide_sec (t m : Nat) (lines cells : List Nat) (above : Nat → Bool) (sumOk suspicion : Bool)
    (s : State) : (senseDecide t m lines cells above sumOk suspicion s).sec = s.sec := by
  simp only [senseDecide]
  (repeat' split) <;> simp

@[simp] theorem evalMonitor_sec (t : Nat) (x : OpenTest) (m : Nat) (s : State) : (evalMonitor t x m s).sec = s.sec := by
  simp only [evalMonitor]
  (repeat' split) <;> simp

@[simp] theorem openEvaluateEff_sec (t : Nat) (s : State) : (openEvaluateEff t s).sec = s.sec := by
  simp only [openEvaluateEff]
  split <;> simp

@[simp] theorem balanceStep_sec (t : Nat) (s : State) : (balanceStep t s).sec = s.sec := by simp [balanceStep]

@[simp] theorem balanceResendEff_sec (t : Nat) (s : State) : (balanceResendEff t s).sec = s.sec := by
  simp [balanceResendEff]

@[simp] theorem cmdSend_sec (t off : Nat) (q : TowCmd) (s : State) : (cmdSend t off q s).sec = s.sec := by
  cases q with
  | config c => dsimp only [cmdSend]; split <;> simp
  | balance m => dsimp only [cmdSend]; split <;> simp
  | openTest m =>
    dsimp only [cmdSend]
    split
    · simp
    · exact (foldl_sec _ _ _ fun s m => by (repeat' split) <;> simp).trans (by simp)
  | weirTest m => dsimp only [cmdSend]; split <;> simp

@[simp] theorem windowSend_sec (t n off : Nat) (q : List TowCmd) (s : State) :
    (windowSend t n off q s).sec = s.sec := by
  induction n generalizing off q s with
  | zero => simp [windowSend]
  | succ n ih =>
    cases q with
    | nil => simp [windowSend]
    | cons q rest =>
      unfold windowSend
      split
      · simp [ih]
      · split <;> simp [ih]

@[simp] theorem enumFinish_sec (t : Nat) (s : State) : (enumFinish t s).sec = s.sec := by simp [enumFinish]
@[simp] theorem requeue_sec (t : Nat) (s : State) : (requeue t s).sec = s.sec := by simp [requeue]

@[simp] theorem commandWindowEff_sec (t : Nat) (s : State) : (commandWindowEff t s).sec = s.sec := by
  simp [commandWindowEff]

@[simp] theorem cellUnreadableEff_sec (t c : Nat) (s : State) : (cellUnreadableEff t c s).sec = s.sec := by
  simp [cellUnreadableEff]

@[simp] theorem weirRunEnd_sec (t : Nat) (s : State) : (weirRunEnd t s).sec = s.sec := by
  unfold weirRunEnd
  split <;> simp

@[simp] theorem weirTray_sec (t : Nat) (s : State) : (weirTray t s).sec = s.sec := by
  simp only [weirTray]
  (repeat' split) <;> simp

@[simp] theorem weirAssertedEff_sec (t : Nat) (s : State) : (weirAssertedEff t s).sec = s.sec := by
  unfold weirAssertedEff
  split <;> simp

@[simp] theorem weirClearedEff_sec (t : Nat) (s : State) : (weirClearedEff t s).sec = s.sec := by simp [weirClearedEff]

@[simp] theorem weirTestTimeoutEff_sec (t : Nat) (s : State) : (weirTestTimeoutEff t s).sec = s.sec := by
  unfold weirTestTimeoutEff
  split <;> simp

@[simp] theorem ringLength_sec (t : Nat) (s : State) : (ringLength t s).sec = s.sec := by simp [ringLength]
@[simp] theorem openNowEff_sec (ses t : Nat) (s : State) : (openNowEff ses t s).sec = s.sec := by simp [openNowEff]

@[simp] theorem reenumerateEff_sec (ses t : Nat) (s : State) : (reenumerateEff ses t s).sec = s.sec := by
  simp [reenumerateEff]

@[simp] theorem clearMarksEff_sec (ses t : Nat) (s : State) : (clearMarksEff ses t s).sec = s.sec := by
  simp [clearMarksEff]

@[simp] theorem weirTestCmdEff_sec (ses t : Nat) (s : State) : (weirTestCmdEff ses t s).sec = s.sec := by
  simp [weirTestCmdEff]

/-! ### Takeover and the handover drill (chapter 17) -/

@[simp] theorem loadShelf_sec (m : Bytes) (s : State) : (loadShelf m s).sec = s.sec := by simp [loadShelf]
@[simp] theorem loadClock_sec (m : Bytes) (s : State) : (loadClock m s).sec = s.sec := by simp [loadClock]
@[simp] theorem loadFeeds_sec (m : Bytes) (s : State) : (loadFeeds m s).sec = s.sec := by simp [loadFeeds]
@[simp] theorem emptyGovernor_sec (s : State) : (emptyGovernor s).sec = s.sec := by simp [emptyGovernor]
@[simp] theorem loadGovernor_sec (m : Bytes) (s : State) : (loadGovernor m s).sec = s.sec := by simp [loadGovernor]
@[simp] theorem clearRebuilt_sec (m : Bytes) (s : State) : (clearRebuilt m s).sec = s.sec := by simp [clearRebuilt]
@[simp] theorem loadManifest_sec (m : Bytes) (s : State) : (loadManifest m s).sec = s.sec := by simp [loadManifest]
@[simp] theorem warmForecaster_sec (s : State) : (warmForecaster s).sec = s.sec := by simp [warmForecaster]

@[simp] theorem stopDock_sec (s : State) : (stopDock s).sec = s.sec := by
  unfold stopDock
  split <;> simp

@[simp] theorem takeTray_sec (t : Nat) (s : State) : (takeTray t s).sec = s.sec := by simp [takeTray]
@[simp] theorem startDriving_sec (s : State) : (startDriving s).sec = s.sec := by simp [startDriving]

@[simp] theorem loseStaging_oneTime (s : State) : (loseStaging s).sec.oneTime = s.sec.oneTime := by
  unfold loseStaging
  split <;> rfl

@[simp] theorem takeoverEff_oneTime (s : State) : (takeoverEff s).sec.oneTime = s.sec.oneTime := by
  simp only [takeoverEff]
  split
  · rfl
  · simp

@[simp] theorem takeoverDoneEff_sec (s : State) : (takeoverDoneEff s).sec = s.sec := by simp [takeoverDoneEff]
@[simp] theorem drillStartEff_sec (s : State) : (drillStartEff s).sec = s.sec := by simp [drillStartEff]

@[simp] theorem drillFailedEff_sec (s : State) : (drillFailedEff s).sec = s.sec := by
  unfold drillFailedEff
  split <;> simp

/-! ### The firmware image and its installation (chapter 20) -/

@[simp] theorem judgeStaged_oneTime (s : State) : (judgeStaged s).sec.oneTime = s.sec.oneTime := by
  simp only [judgeStaged]
  (repeat' split) <;> rfl

@[simp] theorem imageBlockEff_oneTime (ses offset : Nat) (data : Bytes) (s : State) :
    (imageBlockEff ses offset data s).sec.oneTime = s.sec.oneTime := by
  simp only [imageBlockEff]
  split
  · rfl
  · exact judgeStaged_oneTime _

@[simp] theorem markInstallEff_oneTime (ses : Nat) (s : State) :
    (markInstallEff ses s).sec.oneTime = s.sec.oneTime := by
  unfold markInstallEff
  split <;> rfl

@[simp] theorem discardStagedEff_oneTime (s : State) : (discardStagedEff s).sec.oneTime = s.sec.oneTime := rfl
@[simp] theorem securityClearEff_oneTime (s : State) : (securityClearEff s).sec.oneTime = s.sec.oneTime := rfl
@[simp] theorem beginInstall_oneTime (s : State) : (beginInstall s).sec.oneTime = s.sec.oneTime := rfl

@[simp] theorem firmwareInstallEff_oneTime (s : State) : (firmwareInstallEff s).sec.oneTime = s.sec.oneTime := by
  unfold firmwareInstallEff
  split
  · exact resetModule_oneTime ..
  · split <;> rfl

@[simp] theorem networkLoaderEff_oneTime (s : State) : (networkLoaderEff s).sec.oneTime = s.sec.oneTime := by
  unfold networkLoaderEff
  split
  · rfl
  split
  · exact resetModule_oneTime ..
  · split <;> rfl

@[simp] theorem putRootKey_oneTime (data : Bytes) (s : State) : (putRootKey data s).sec.oneTime = s.sec.oneTime := rfl

@[simp] theorem rootKeySetEff_oneTime (ses : Nat) (data : Bytes) (s : State) :
    (rootKeySetEff ses data s).sec.oneTime = s.sec.oneTime := by simp [rootKeySetEff]

/-! ### The network port (chapter 14) -/

@[simp] theorem flushHeld_sec (s : State) : (flushHeld s).sec = s.sec := by simp [flushHeld]
@[simp] theorem flushJ1_sec (s : State) : (flushJ1 s).sec = s.sec := by simp [flushJ1]
@[simp] theorem noteOccupancy_sec (s : State) : (noteOccupancy s).sec = s.sec := by simp [noteOccupancy]
@[simp] theorem reportArrives_sec (f : Bytes) (s : State) : (reportArrives f s).sec = s.sec := by simp [reportArrives]
@[simp] theorem keeperDrop_sec (s : State) : (keeperDrop s).sec = s.sec := by simp [keeperDrop]

@[simp] theorem resendKept_sec (m : Trasia) (s : State) : (resendKept m s).sec = s.sec := by
  unfold resendKept
  split <;> simp

@[simp] theorem requestArrives_sec (m : Trasia) (f : Bytes) (s : State) : (requestArrives m f s).sec = s.sec := by
  obtain ⟨judge, hjudge⟩ : ∃ judge, judgeSeq = judge := ⟨_, rfl⟩
  simp only [requestArrives, hjudge]
  split
  · simp
  split
  · simp
  split <;> split <;> simp

@[simp] theorem frameArrives_sec (f : Bytes) (s : State) : (frameArrives f s).sec = s.sec := by
  unfold frameArrives
  split
  · rfl
  · simp [↓ite_sec]

@[simp] theorem crcFailure_sec (s : State) : (crcFailure s).sec = s.sec := by simp [crcFailure]

@[simp] theorem ethernetEff_sec (raw : Bytes) (s : State) : (ethernetEff raw s).sec = s.sec := by
  unfold ethernetEff
  split
  · rfl
  · split <;> simp

@[simp] theorem pauseRepeatEff_sec (s : State) : (pauseRepeatEff s).sec = s.sec := by simp [pauseRepeatEff]
@[simp] theorem pauseReleaseEff_sec (s : State) : (pauseReleaseEff s).sec = s.sec := by simp [pauseReleaseEff]

@[simp] theorem pauseLongEff_sec (s : State) : (pauseLongEff s).sec = s.sec := by
  unfold pauseLongEff
  split <;> simp

@[simp] theorem pausePriority_sec (p quanta : Nat) (s : State) : (pausePriority p quanta s).sec = s.sec := by
  simp [pausePriority]

@[simp] theorem endGrantPause_sec (s : State) : (endGrantPause s).sec = s.sec := by simp [endGrantPause]

@[simp] theorem pfcReceivedEff_sec (raw : Bytes) (s : State) : (pfcReceivedEff raw s).sec = s.sec := by
  simp [pfcReceivedEff]

@[simp] theorem grantPauseEff_sec (s : State) : (grantPauseEff s).sec = s.sec := by simp [grantPauseEff]
@[simp] theorem portDown_sec (st : Nat) (s : State) : (portDown st s).sec = s.sec := by simp [portDown]

@[simp] theorem linkChangeEff_sec (up_ : Bool) (lanes : Nat) (s : State) : (linkChangeEff up_ lanes s).sec = s.sec := by
  simp [linkChangeEff]

@[simp] theorem portRetrainEff_sec (s : State) : (portRetrainEff s).sec = s.sec := by simp [portRetrainEff]
@[simp] theorem portClearEff_sec (s : State) : (portClearEff s).sec = s.sec := by simp [portClearEff]
@[simp] theorem flowClearEff_sec (s : State) : (flowClearEff s).sec = s.sec := by simp [flowClearEff]
@[simp] theorem neighbourEff_sec (raw : Bytes) (s : State) : (neighbourEff raw s).sec = s.sec := by simp [neighbourEff]

/-! ### Writes of objects (chapter 15) -/

@[simp] theorem State.drawNat_sec (s : State) : s.drawNat.2.sec = s.sec := by simp [State.drawNat]

theorem savedNow_sec (f : Bool → State → State) (s : State) (h : ∀ b s, (f b s).sec = s.sec) :
    (savedNow f s).sec = s.sec := h ..

@[simp] theorem trayCommand_sec (ses index sub v : Nat) (s : State) : (trayCommand ses index sub v s).sec = s.sec := by
  simp only [trayCommand]
  split <;> simp [savedNow_sec]

@[simp] theorem otherCommand_oneTime (ses index sub v : Nat) (s : State) :
    (otherCommand ses index sub v s).sec.oneTime = s.sec.oneTime := by
  simp only [otherCommand]
  split <;> simp

@[simp] theorem command_oneTime (ses index sub v : Nat) (s : State) :
    (command ses index sub v s).sec.oneTime = s.sec.oneTime := by
  unfold command
  split <;> simp

@[simp] theorem sessionEnable_sec (n : Nat) (on : Bool) (s : State) : (sessionEnable n on s).sec = s.sec := by
  simp [sessionEnable]

@[simp] theorem convertedRecord_sec (index sub v : Nat) (s : State) : (convertedRecord index sub v s).sec = s.sec := by
  unfold convertedRecord
  split <;> simp

@[simp] theorem afterWrite_sec (index sub old v : Nat) (s : State) : (afterWrite index sub old v s).sec = s.sec := by
  unfold afterWrite
  split <;> simp

@[simp] theorem putValue_sec (ses index sub : Nat) (r : ObjRow) (v : Nat) (s : State) :
    (putValue ses index sub r v s).sec = s.sec := by simp [putValue]

@[simp] theorem pairStoreEff_oneTime (frame : Bytes) (s : State) : (pairStoreEff frame s).sec.oneTime = s.sec.oneTime :=
  recvPair_oneTime _ _ _ _ fun m s => by
    dsimp only
    split <;> simp

@[simp] theorem highestClear_sec (index sub v : Nat) (s : State) : (highestClear index sub v s).sec = s.sec := by
  simp only [highestClear]
  (repeat' split) <;> simp

@[simp] theorem putBlob_sec (ses index sub offset : Nat) (r : ObjRow) (data : Bytes) (s : State) :
    (putBlob ses index sub offset r data s).sec = s.sec := by simp [putBlob]

@[simp] theorem sessionGateWords_sec (ses offset : Nat) (data : Bytes) (s : State) :
    (sessionGateWords ses offset data s).sec = s.sec := by
  simp [sessionGateWords]

@[simp] theorem referenceBlock_sec (ses offset : Nat) (data : Bytes) (s : State) :
    (referenceBlock ses offset data s).sec = s.sec := by simp [referenceBlock]

@[simp] theorem signedRootKey_oneTime (ses offset : Nat) (data : Bytes) (s : State) :
    (signedRootKey ses offset data s).sec.oneTime = s.sec.oneTime := by simp [signedRootKey]

/-! ### The Trasia operations (chapters 14 and 20) -/

@[simp] theorem dequeue_sec (f : Bytes) (s : State) : (dequeue f s).sec = s.sec := by
  unfold dequeue
  split <;> simp

@[simp] theorem readOne_sec (ses index sub : Nat) (s : State) : (readOne ses index sub s).2.sec = s.sec := by
  simp [readOne]

@[simp] theorem readWords_sec (ses : Nat) (payload : Bytes) (n : Nat) (s : State) :
    (readWords ses payload n s).2.sec = s.sec := by
  induction n generalizing payload s with
  | zero => rfl
  | succ n ih => simp [readWords, ih]

@[simp] theorem readEff_sec (m : Trasia) (s : State) : (readEff m s).sec = s.sec := by simp [readEff]

@[simp] theorem blockRead_sec (ses index sub offset length : Nat) (s : State) :
    (blockRead ses index sub offset length s).2.sec = s.sec := by
  unfold blockRead
  split <;> simp

@[simp] theorem readBlockEff_sec (m : Trasia) (s : State) : (readBlockEff m s).sec = s.sec := by simp [readBlockEff]
@[simp] theorem sendLate_sec (r : LateReply) (s : State) : (sendLate r s).sec = s.sec := by simp [sendLate]
@[simp] theorem flushLate_sec (s : State) : (flushLate s).sec = s.sec := by simp [flushLate]

@[simp] theorem scheduleBody_sec (arr : Nat) (m : Trasia) (s : State) : (scheduleBody arr m s).sec = s.sec := by
  simp [scheduleBody]

@[simp] theorem subscribeBody_sec (m : Trasia) (s : State) : (subscribeBody m s).sec = s.sec := by simp [subscribeBody]
@[simp] theorem nextOut_sec (ses : Nat) (s : State) : (nextOut ses s).sec = s.sec := by simp [nextOut]

@[simp] theorem sendInstance_sec (ses i frames at_ : Nat) (data : Bytes) (limit n k : Nat) (s : State) :
    (sendInstance ses i frames at_ data limit n k s).sec = s.sec := by
  induction n generalizing k s with
  | zero => rfl
  | succ n ih => simp [sendInstance, ih]

@[simp] theorem streamInstanceEff_sec (ses i : Nat) (s : State) : (streamInstanceEff ses i s).sec = s.sec := by
  simp only [streamInstanceEff]
  split <;> simp

@[simp] theorem signedPart_sec (m : Trasia) (s : State) : (signedPart m s).sec = s.sec := by simp [signedPart]

@[simp] theorem transferTimeoutEff_sec (ses : Nat) (s : State) : (transferTimeoutEff ses s).sec = s.sec := by
  unfold transferTimeoutEff
  split <;> simp

@[simp] theorem signedRefuse_oneTime (ses result : Nat) (s : State) :
    (signedRefuse ses result s).sec.oneTime = s.sec.oneTime := rfl

@[simp] theorem quoteBody_oneTime (m : Trasia) (s : State) : (quoteBody m s).sec.oneTime = s.sec.oneTime := by
  unfold quoteBody
  split <;> rfl

@[simp] theorem quoteEff_oneTime (m : Trasia) (s : State) : (quoteEff m s).sec.oneTime = s.sec.oneTime := by
  simp [quoteEff]

@[simp] theorem sendParts_sec (ses id parts : Nat) (data : Bytes) (limit n k : Nat) (s : State) :
    (sendParts ses id parts data limit n k s).sec = s.sec := by
  induction n generalizing k s with
  | zero => rfl
  | succ n ih => simp [sendParts, ih]

@[simp] theorem quoteSignedEff_oneTime (s : State) : (quoteSignedEff s).sec.oneTime = s.sec.oneTime := by
  simp only [quoteSignedEff]
  split
  · rfl
  · rw [sendParts_sec]; rfl

/-! ### The control period (chapter 01) -/

@[simp] theorem capPeriod_sec (a : Nat) (s : State) : (capPeriod a s).sec = s.sec := by simp [capPeriod]
@[simp] theorem countVoids_sec (v : List (Nat × Nat)) (s : State) : (countVoids v s).sec = s.sec := by simp [countVoids]
@[simp] theorem fwCheckpoint_sec (n us : Nat) (s : State) : (fwCheckpoint n us s).sec = s.sec := by simp [fwCheckpoint]

@[simp] theorem fwSlotPeriod_sec (n us : Nat) (v : List (Nat × Nat)) (s : State) :
    (fwSlotPeriod n us v s).sec = s.sec := by simp [fwSlotPeriod]

@[simp] theorem fwRecords_sec (us : Nat) (v : List (Nat × Nat)) (s : State) : (fwRecords us v s).sec = s.sec := by
  simp [fwRecords]

@[simp] theorem sendTap_sec (n t0 : Nat) (v : List (Nat × Nat)) (b : Binding) (s : State) :
    (sendTap n t0 v b s).sec = s.sec := by
  unfold sendTap
  split <;> simp

@[simp] theorem sendTaps_sec (t0 : Nat) (v : List (Nat × Nat)) (s : State) : (sendTaps t0 v s).sec = s.sec := by
  simp [sendTaps]

@[simp] theorem phaseChain_sec (t0 t : Nat) (s : State) : (phaseChain t0 t s).sec = s.sec := by simp [phaseChain]
@[simp] theorem delayPeriod_sec (s : State) : (delayPeriod s).sec = s.sec := by simp [delayPeriod]

@[simp] theorem chain_sec (t0 : Nat) (v : List (Nat × Nat)) (s : State) : (chain t0 v s).sec = s.sec := by
  unfold chain
  extract_lets go f tide s1 s2 s3 s4 s5 s6
  have hgo (n : Nat) (f : State → State) (s : State) (h : (f s).sec = s.sec) : (go n f s).sec = s.sec := by
    unfold go
    split
    · rfl
    · exact h
  have h1 : s1.sec = s.sec := by
    unfold s1
    split <;> rfl
  have h2 : s2.sec = s1.sec := by
    unfold s2
    split
    · rfl
    · exact loopPeriod_sec ..
  calc (go 64 (fun s => switchAtCut t0 (tidePeriod t0 s)) (go 20 (feedPeriod t0) s6)).sec
    _ = (go 20 (feedPeriod t0) s6).sec := hgo 64 (fun s => switchAtCut t0 (tidePeriod t0 s)) _ (by simp)
    _ = s6.sec := hgo _ _ _ (by simp)
    _ = s5.sec := hgo _ _ _ (by simp)
    _ = s4.sec := by simp [s5]
    _ = s3.sec := forTrays_sec _ _ fun t s => hgo _ _ _ (by simp)
    _ = s2.sec := hgo _ _ _ (by simp)
    _ = s.sec := h2.trans h1

@[simp] theorem equalisePeriod_sec (t0 : Nat) (s : State) : (equalisePeriod t0 s).sec = s.sec := by
  simp [equalisePeriod]

@[simp] theorem pairPeriod_sec (t0 : Nat) (s : State) : (pairPeriod t0 s).sec = s.sec := by simp [pairPeriod]
@[simp] theorem clockPeriod_sec (t0 : Nat) (s : State) : (clockPeriod t0 s).sec = s.sec := by simp [clockPeriod]

@[simp] theorem ingestPeriod_sec (t0 : Nat) (v : List (Nat × Nat)) (s : State) : (ingestPeriod t0 v s).sec = s.sec := by
  simp [ingestPeriod]

@[simp] theorem followPeriod_sec (t0 : Nat) (s : State) : (followPeriod t0 s).sec = s.sec := by simp [followPeriod]

@[simp] theorem drivePeriod_sec (t0 : Nat) (v : List (Nat × Nat)) (s : State) : (drivePeriod t0 v s).sec = s.sec := by
  simp [drivePeriod]

@[simp] theorem periodBegun_sec (s : State) : (periodBegun s).sec = s.sec := by simp [periodBegun]
@[simp] theorem controlEff_sec (s : State) : (controlEff s).sec = s.sec := by simp [controlEff]

end Sys2Proof.Machine
end

section
/-! SUPPORT. Proof: the one-time area grows only, and the two writes that change it (20_security_and_firmware.md). -/

namespace Sys2Proof.Machine

/-! ### The order on states -/

namespace OneTimeKept
variable {s t u : State}

theorem of_oneTime (h : t.sec.oneTime = s.sec.oneTime) : OneTimeKept s t := by
  simp only [Sec.oneTime, Prod.mk.injEq] at h
  obtain ⟨hkeys, hid, hprog, hrev, hver, hcount⟩ := h
  exact ⟨hkeys, hid, hprog, fun k hk => hrev ▸ hk, hver.ge, hcount.ge⟩

theorem of_sec (h : t.sec = s.sec) : OneTimeKept s t := of_oneTime (congrArg Sec.oneTime h)

theorem refl (s : State) : OneTimeKept s s := of_sec rfl

theorem trans (h : OneTimeKept s t) (h' : OneTimeKept t u) : OneTimeKept s u where
  keys := h'.keys.trans h.keys
  identity := h'.identity.trans h.identity
  programmed := h'.programmed.trans h.programmed
  revoked k hk := h'.revoked k (h.revoked k hk)
  version := h.version.trans h'.version
  counter := h.counter.trans h'.counter

end OneTimeKept

/-! ### RAISE_MIN_VERSION and REVOKE_KEY_SLOT (R528) -/

theorem raiseMinEff_kept (ses v : Nat) (s : State) : OneTimeKept s (raiseMinEff ses v s) := by
  unfold raiseMinEff
  split
  next => exact .of_sec rfl
  next h => exact { keys := rfl, identity := rfl, programmed := rfl, revoked := fun _ hk => hk
                    version := Nat.le_of_not_lt fun hv => h (.inl hv), counter := le_rfl }

/-- Adding a power of two whose bit is clear carries nothing: every bit set stays set. -/
theorem testBit_add_two_pow {v i k : Nat} (hi : v.testBit i = false) (hk : v.testBit k = true) :
    (v + 2 ^ i).testBit k = true := by
  induction i generalizing v k with
  | zero =>
    have heven : v % 2 = 0 := Nat.mod_two_eq_zero_iff_testBit_zero.2 hi
    cases k with
    | zero => rw [hi] at hk; cases hk
    | succ k =>
      rw [Nat.testBit_add_one] at hk ⊢
      rwa [show (v + 2 ^ 0) / 2 = v / 2 by omega]
  | succ i ih =>
    cases k with
    | zero =>
      rw [← Nat.mod_two_eq_one_iff_testBit_zero] at hk ⊢
      omega
    | succ k =>
      rw [Nat.testBit_add_one] at hi hk ⊢
      rw [show (v + 2 ^ (i + 1)) / 2 = v / 2 + 2 ^ i by omega]
      exact ih hi hk

/-- Setting a bit clears none. -/
theorem bit_setBit_true_of_bit {v i k : Nat} (h : bit v k = true) : bit (setBit v i true) k = true := by
  unfold setBit
  split
  next => exact h
  next hi => exact testBit_add_two_pow (Bool.not_eq_true _ ▸ hi) h

/-- A bit set is set. -/
theorem bit_setBit_true_same (v i : Nat) : bit (setBit v i true) i = true := by
  unfold setBit
  split
  next h => exact h
  next h => simpa [bit, Nat.add_comm v, Nat.testBit_two_pow_add_eq] using h

theorem revokeEff_kept (ses slot : Nat) (s : State) : OneTimeKept s (revokeEff ses slot s) := by
  unfold revokeEff
  split
  next => exact .of_sec rfl
  next => exact { keys := rfl, identity := rfl, programmed := rfl, revoked := fun _ => bit_setBit_true_of_bit
                  version := le_rfl, counter := le_rfl }

end Sys2Proof.Machine
end

section
/-! SUPPORT. Proof: object writes and signed requests take nothing from the one-time area
(20_security_and_firmware.md). -/

namespace Sys2Proof.Machine

/-! ### Writes of values and blocks (R526) -/

theorem signedValue_kept (ses index sub v : Nat) (key : Bytes) (s : State) :
    OneTimeKept s (signedValue ses index sub v key s) := by
  unfold signedValue
  split
  · exact .of_sec (recorderClearEff_sec ..)
  · exact raiseMinEff_kept ..
  · exact revokeEff_kept ..
  · exact .of_sec rfl

theorem ownRule_sec {ses index sub v : Nat} {s t : State} (h : ownRule ses index sub v s = some t) :
    t.sec = s.sec := by
  unfold ownRule at h
  split_ifs at h <;> cases h <;> simp

theorem writeWord_kept (g : Signed) (ses index sub v : Nat) (s : State) :
    OneTimeKept s (writeWord g ses index sub v s) := by
  unfold writeWord
  split
  · exact .of_sec rfl
  split
  · exact .of_sec rfl
  split
  · exact signedValue_kept ..
  · exact .of_sec rfl
  · exact .of_oneTime (command_oneTime ..)
  · split
    · exact .of_sec (putValue_sec ..)
    · exact .of_sec rfl
  · split
    next h => exact .of_sec (ownRule_sec h)
    next => exact .of_sec (putValue_sec ..)

theorem writeWords_kept (g : Signed) (ses : Nat) (payload : Bytes) (n : Nat) (s : State) :
    OneTimeKept s (writeWords g ses payload n s) := by
  induction n generalizing payload s with
  | zero => exact .refl s
  | succ n ih =>
    refine .trans ?_ (ih ..)
    split
    · exact .refl s
    split
    · exact writeWord_kept ..
    · exact .of_sec rfl

theorem scalarBlock_kept (g : Signed) (ses index sub offset : Nat) (r : ObjRow) (data : Bytes) (s : State) :
    OneTimeKept s (scalarBlock g ses index sub offset r data s) := by
  unfold scalarBlock
  split
  · exact .of_sec rfl
  · exact writeWord_kept ..

theorem writeBytes_kept (g : Signed) (ses index sub offset : Nat) (data : Bytes) (s : State) :
    OneTimeKept s (writeBytes g ses index sub offset data s) := by
  unfold writeBytes
  extract_lets seq
  split
  · exact .of_sec rfl
  split
  · exact .of_sec rfl
  split
  · exact scalarBlock_kept ..
  · split <;> exact .of_oneTime (by simp)

theorem writeBlockBody_kept (g : Signed) (ses : Nat) (payload : Bytes) (s : State) :
    OneTimeKept s (writeBlockBody g ses payload s) := by
  simp only [writeBlockBody]
  split
  · exact .of_sec rfl
  · exact writeBytes_kept ..

/-! ### The Trasia operations -/

theorem ifPermitted_kept (m : Trasia) (f : State → State) (s : State) (h : ∀ s, OneTimeKept s (f s)) :
    OneTimeKept s (ifPermitted m f s) := by
  unfold ifPermitted
  split
  · exact h s
  · exact .of_sec rfl

theorem writeEff_kept (m : Trasia) (s : State) : OneTimeKept s (writeEff m s) :=
  (ifPermitted_kept m _ s fun s => writeWords_kept none m.ses m.payload m.count s).trans (.of_sec (by simp [writeEff]))

theorem writeBlockEff_kept (m : Trasia) (s : State) : OneTimeKept s (writeBlockEff m s) := by
  refine (ifPermitted_kept m _ s fun s => writeBlockBody_kept none m.ses m.payload s).trans (.of_sec ?_)
  simp only [writeBlockEff]
  split
  · split <;> rfl
  · simp

theorem applyInner_kept (g : Signed) (m : Trasia) (s : State) : OneTimeKept s (applyInner g m s) := by
  unfold applyInner
  split
  · exact .of_sec rfl
  split
  · exact writeWords_kept ..
  · exact writeBlockBody_kept ..

/-- The checks of R526 pass only with a counter above the last one applied. -/
theorem counter_lt_of_signedResult {ses : Nat} {b : Bytes} {s : State} (h : signedResult ses b s = 1) :
    s.sec.counter < u64At (b.drop (4 + u32At b 0)) 0 := by
  by_contra hle
  have hle := Nat.le_of_not_lt hle
  simp only [signedResult] at h
  split_ifs at h <;> simp_all

theorem signedApply_kept (ses : Nat) (b : Bytes) (s : State) (h : signedResult ses b s = 1) :
    OneTimeKept s (signedApply ses b s) := by
  have h1 : OneTimeKept s { s with sec := { s.sec with
      counter := u64At (b.drop (4 + u32At b 0)) 0, lastResult := 1, applied := sat32 (s.sec.applied + 1) } } :=
    { keys := rfl, identity := rfl, programmed := rfl, revoked := fun _ hk => hk, version := le_rfl
      counter := (counter_lt_of_signedResult h).le }
  simp only [signedApply]
  split
  · exact h1.trans (applyInner_kept ..)
  · exact h1

theorem signedVerifyEff_kept (ses : Nat) (s : State) : OneTimeKept s (signedVerifyEff ses s) := by
  unfold signedVerifyEff
  split
  · exact .refl s
  · extract_lets s1 r
    have h1 : OneTimeKept s s1 := .of_sec rfl
    split
    · exact h1
    split
    next h => exact h1.trans (signedApply_kept _ _ _ h)
    next => exact h1.trans (.of_oneTime (signedRefuse_oneTime ..))

theorem request_kept (op : Nat) (frame : Bytes) (f : Trasia → State → State) (s : State)
    (h : ∀ m s, OneTimeKept s (f m s)) : OneTimeKept s (request op frame f s) := by
  unfold request
  split
  · exact .refl s
  split
  · exact .refl s
  · extract_lets s1
    have h1 : OneTimeKept s s1 := .of_sec (dequeue_sec ..)
    split
    · exact h1
    split
    · exact h1.trans (.of_sec rfl)
    split
    · exact h1.trans (.of_sec (resendKept_sec ..))
    · exact h1.trans (.of_sec rfl)
    · exact h1.trans ((OneTimeKept.of_sec (State.updSess_sec ..)).trans (h ..))

theorem ifPermitted_sec (m : Trasia) (f : State → State) (s : State) (h : (f s).sec = s.sec) :
    (ifPermitted m f s).sec = s.sec := by
  unfold ifPermitted
  split
  · exact h
  · rfl

@[simp] theorem scheduleEff_sec (arr : Nat) (m : Trasia) (s : State) : (scheduleEff arr m s).sec = s.sec := by
  simp [scheduleEff, ifPermitted_sec]

@[simp] theorem subscribeEff_sec (m : Trasia) (s : State) : (subscribeEff m s).sec = s.sec := by
  simp [subscribeEff, ifPermitted_sec]

@[simp] theorem signedWriteEff_sec (m : Trasia) (s : State) : (signedWriteEff m s).sec = s.sec := by
  simp [signedWriteEff, ifPermitted_sec]

end Sys2Proof.Machine
end

section
/-! SUPPORT. Proof: every step keeps the one-time area (20_security_and_firmware.md). -/

namespace Sys2Proof.Machine

/-! ### Commands and steps -/

theorem runIf_kept {ok go : Bool} {s t : State} {f : State → State} (hf : ∀ s, OneTimeKept s (f s))
    (h : runIf ok go s f = .next t) : OneTimeKept s t := by
  have hstep : OneTimeKept s (if ok && go then f s else s) := by
    split
    · exact hf s
    · exact .refl s
  rw [runIf_next h]
  exact hstep.trans (.of_sec rfl)

theorem runObj_kept {ses index sub : Nat} {here : Bool} {s t : State} {f : State → State}
    (hf : ∀ s, OneTimeKept s (f s)) (h : runObj ses index sub here s f = .next t) : OneTimeKept s t := by
  refine runIf_kept (f := fun s => if here then f s else s.violate ses index sub) (fun s => ?_) h
  split
  · exact hf s
  · exact .of_sec rfl

/-- Most commands keep the one-time part itself, which `simp` carries through their effects; the exceptions are those
that write objects or verify signed requests, and those whose effect is handed to another function. -/
theorem exec_kept (c : Instr) {s t : State} (h : exec c s = .next t) : OneTimeKept s t := by
  cases c with
  | raiseMinVersion ses v => exact runIf_kept (raiseMinEff_kept ses v) h
  | revokeKeySlot ses slot => exact runIf_kept (revokeEff_kept ses slot) h
  | write frame => exact runIf_kept (request_kept _ _ _ · writeEff_kept) h
  | writeBlock frame => exact runIf_kept (request_kept _ _ _ · writeBlockEff_kept) h
  | signedWriteVerify ses => exact runIf_kept (signedVerifyEff_kept ses) h
  | read frame => exact runIf_kept (request_kept _ _ _ · fun m s => .of_sec (readEff_sec m s)) h
  | readBlock frame => exact runIf_kept (request_kept _ _ _ · fun m s => .of_sec (readBlockEff_sec m s)) h
  | schedule frame => exact runIf_kept (request_kept _ _ _ · fun m s => .of_sec (scheduleEff_sec _ m s)) h
  | subscribe frame => exact runIf_kept (request_kept _ _ _ · fun m s => .of_sec (subscribeEff_sec m s)) h
  | signedWrite frame => exact runIf_kept (request_kept _ _ _ · fun m s => .of_sec (signedWriteEff_sec m s)) h
  | quote frame => exact runIf_kept (request_kept _ _ _ · fun m s => .of_oneTime (quoteEff_oneTime m s)) h
  | objectWrite ses index sub v => exact runIf_kept (writeWord_kept none ses index sub v) h
  | phaseOutOfService | phaseIntoService | trayInsert | trayDrain | traySlackBegin | traySlackEnd | trayReset
  | openWireTestNow | towReenumerate | clearMarks | weirTestCmd | stateSaveNow | impedanceResetSeeds
  | impedanceSaveNow | impedanceBlockWrite | flightSourcesWrite | slotBlockWrite | slotCheck | slotBind
  | slotUnbind | slotRestart | slotClear | sessionReset | calEntryWrite =>
    exact runObj_kept (fun s => .of_oneTime (by simp)) h
  | highestValueClear ses index sub v =>
    exact runIf_kept
      (f := fun s => if isHighest index sub then highestClear index sub v s else s.violate ses index sub)
      (fun s => .of_sec (by simp)) h
  | auxFeedMeasure a b =>
    exact runIf_kept (f := fun s => if s.hw.phase = .firmware then auxWarn (auxEff a b s) else auxEff a b s)
      (fun s => .of_sec (by simp)) h
  | _ => exact runIf_kept (fun s => .of_oneTime (by simp)) h

theorem step_kept {s t : State} (h : step s = .next t) : OneTimeKept s t := by
  unfold step at h
  split at h
  next c rest _ =>
    have hpop : OneTimeKept s { s with pending := rest } := .of_sec rfl
    exact hpop.trans (exec_kept c h)
  next =>
    cases h
    exact .of_sec (idle_sec s)

/-! ### The two commands -/

theorem raised_raise (s : State) (code inst : Nat) : (s.raise code inst).raised code inst := by
  simp [State.raised]

theorem exec_raiseMinVersion (ses v : Nat) (s : State) :
    exec (.raiseMinVersion ses v) s = run (decide (ses < Config.sessions)) s (raiseMinEff ses v) := rfl

theorem exec_revokeKeySlot (ses k : Nat) (s : State) :
    exec (.revokeKeySlot ses k) s = run (decide (ses < Config.sessions)) s (revokeEff ses k) := rfl

/-- Settles O56: the first five clauses are the branches of RAISE_MIN_VERSION and REVOKE_KEY_SLOT, the last is
`step_kept`. -/
theorem oneTimeArea : Obligations.OneTimeArea := by
  refine ⟨?_, ?_, ?_, ?_, ?_, fun s t => step_kept⟩
  · intro s ses v hrun hses hmin hv
    rw [exec_raiseMinVersion, decide_eq_true hses, run_ok _ _ hrun, raiseMinEff, if_neg (by omega)]
    rfl
  · intro s ses v hrun hses hv
    rw [exec_raiseMinVersion, decide_eq_true hses, run_ok _ _ hrun, raiseMinEff, if_pos (.inl hv)]
    rfl
  · intro s ses v k hrun hses
    refine ⟨fun hv => ?_, fun hk => ?_⟩
    · rw [exec_raiseMinVersion, decide_eq_true hses, run_ok _ _ hrun, raiseMinEff, if_pos (.inr hv)]
      rfl
    · rw [exec_revokeKeySlot, decide_eq_true hses, run_ok _ _ hrun, revokeEff, if_pos (.inr hk)]
      rfl
  · intro s ses k hrun hses hk hne
    rw [exec_revokeKeySlot, decide_eq_true hses, run_ok _ _ hrun, revokeEff, if_neg (by omega)]
    exact ⟨_, rfl, bit_setBit_true_same .., raised_raise .., rfl, rfl⟩
  · intro s ses k hrun hses hk heq
    rw [exec_revokeKeySlot, decide_eq_true hses, run_ok _ _ hrun, revokeEff, if_pos (.inl heq)]
    rfl

end Sys2Proof.Machine
end

section
/-! SUPPORT. Proof: the parts of the state, and what an operation leaves of them (00_scope.md). -/

namespace Sys2Proof.Machine

set_option Elab.async false

/-- The parts of the state. -/
inductive Part
  | pending | freeCount | now | tx | hw | od | txn | fm | rcd | loop | phases | tph | links | edge | trays | alloc
  | tows | est | feed | gov | gates | ev | tide | pair | sec | cal | grid | slots | dock | port | sess | clk | cap
  deriving DecidableEq

/-- Every part. -/
def Part.all : List Part :=
  [.pending, .freeCount, .now, .tx, .hw, .od, .txn, .fm, .rcd, .loop, .phases, .tph, .links, .edge, .trays, .alloc,
    .tows, .est, .feed, .gov, .gates, .ev, .tide, .pair, .sec, .cal, .grid, .slots, .dock, .port, .sess, .clk, .cap]

/-- What a part holds. -/
def Part.Carrier : Part → Type
  | .pending => List Instr | .freeCount => Nat | .now => Nat | .tx => List Tx | .hw => Hw | .od => Od | .txn => Txns
  | .fm => Fm | .rcd => Rec | .loop => Loop | .phases => List (List Phase) | .tph => List TrayPh | .links => List Link
  | .edge => Edge | .trays => List Tray | .alloc => Alloc | .tows => List Tow | .est => List Est | .feed => Feed
  | .gov => Gov | .gates => Gates | .ev => Events | .tide => Tide | .pair => Pair | .sec => Sec | .cal => Cal
  | .grid => Grid | .slots => List Slot | .dock => Dock | .port => Port | .sess => List Session | .clk => Clk
  | .cap => Cap

/-- A part of a state. -/
def State.get (s : State) : (p : Part) → p.Carrier
  | .pending => s.pending | .freeCount => s.freeCount | .now => s.now | .tx => s.tx | .hw => s.hw | .od => s.od
  | .txn => s.txn | .fm => s.fm | .rcd => s.rcd | .loop => s.loop | .phases => s.phases | .tph => s.tph
  | .links => s.links | .edge => s.edge | .trays => s.trays | .alloc => s.alloc | .tows => s.tows | .est => s.est
  | .feed => s.feed | .gov => s.gov | .gates => s.gates | .ev => s.ev | .tide => s.tide | .pair => s.pair
  | .sec => s.sec | .cal => s.cal | .grid => s.grid | .slots => s.slots | .dock => s.dock | .port => s.port
  | .sess => s.sess | .clk => s.clk | .cap => s.cap

/-- t is s but for the parts listed, and its memories are in canonical form where those of s are. -/
structure SameBut (l : List Part) (s t : State) : Prop where
  same : ∀ p, p ∉ l → t.get p = s.get p
  memory : s.memoryOk = true → t.memoryOk = true

namespace SameBut
variable {l m : List Part} {s t u : State}

theorem refl : SameBut l s s := ⟨fun _ _ => rfl, id⟩

theorem trans (h : SameBut l s t) (h' : SameBut l t u) : SameBut l s u :=
  ⟨fun p hp => (h'.same p hp).trans (h.same p hp), h'.memory ∘ h.memory⟩

theorem mono (h : SameBut m s t) (hm : m ⊆ l := by decide) : SameBut l s t :=
  ⟨fun p hp => h.same p fun hp' => hp (hm hp'), h.memory⟩

/-- One thing after another. -/
theorem step (h : SameBut l s t) (h' : SameBut m t u) (hm : m ⊆ l := by decide) : SameBut l s u := h.trans (h'.mono hm)

theorem ite {c : Prop} [Decidable c] (h : SameBut l s t) (h' : SameBut l s u) :
    SameBut l s (if c then t else u) := by
  split
  · exact h
  · exact h'

theorem foldl {β : Type} {f : State → β → State} (hf : ∀ s b, SameBut l s (f s b)) {xs : List β} {s : State} :
    SameBut l s (xs.foldl f s) := foldl_keeps (SameBut l s) f xs (fun t b h => h.trans (hf t b)) s .refl

theorem foldl_fst {α β : Type} {f : State × α → β → State × α} (hf : ∀ a b, SameBut l a.1 (f a b).1) {xs : List β}
    {a : State × α} (ha : SameBut l s a.1) : SameBut l s (xs.foldl f a).1 := by
  induction xs generalizing a with
  | nil => exact ha
  | cons x xs ih => exact ih (ha.trans (hf a x))

theorem foldl_snd {α β : Type} {f : α × State → β → α × State} (hf : ∀ a b, SameBut l a.2 (f a b).2) {xs : List β}
    {a : α × State} (ha : SameBut l s a.2) : SameBut l s (xs.foldl f a).2 := by
  induction xs generalizing a with
  | nil => exact ha
  | cons x xs ih => exact ih (ha.trans (hf a x))

theorem when_ {c : Bool} {f : State → State} (hf : ∀ s, SameBut l s (f s)) {s : State} :
    SameBut l s (Machine.when_ c f s) := .ite (hf s) .refl

theorem forTrays {f : Nat → State → State} (hf : ∀ t s, SameBut l s (f t s)) {s : State} :
    SameBut l s (Machine.forTrays f s) := .foldl fun s t => hf t s

end SameBut
end Sys2Proof.Machine
end

section
/-! SUPPORT. Proof: an update of fields touches the parts it names (00_scope.md). -/

namespace Sys2Proof.Machine

set_option Elab.async false
namespace SameBut

variable (s : State)

theorem freeCount (x1 : Nat) : SameBut [.freeCount] s { s with freeCount := x1 } :=
  ⟨fun p hp => by cases p <;> first | rfl | exact absurd (by decide) hp, fun h => h⟩

theorem now (x1 : Nat) : SameBut [.now] s { s with now := x1 } :=
  ⟨fun p hp => by cases p <;> first | rfl | exact absurd (by decide) hp, fun h => h⟩

theorem tx (x1 : List Tx) : SameBut [.tx] s { s with tx := x1 } :=
  ⟨fun p hp => by cases p <;> first | rfl | exact absurd (by decide) hp, fun h => h⟩

theorem hw (x1 : Hw) : SameBut [.hw] s { s with hw := x1 } :=
  ⟨fun p hp => by cases p <;> first | rfl | exact absurd (by decide) hp, fun h => h⟩

theorem od (x1 : Od) : SameBut [.od] s { s with od := x1 } :=
  ⟨fun p hp => by cases p <;> first | rfl | exact absurd (by decide) hp, fun h => h⟩

theorem txn (x1 : Txns) : SameBut [.txn] s { s with txn := x1 } :=
  ⟨fun p hp => by cases p <;> first | rfl | exact absurd (by decide) hp, fun h => h⟩

theorem fm (x1 : Fm) : SameBut [.fm] s { s with fm := x1 } :=
  ⟨fun p hp => by cases p <;> first | rfl | exact absurd (by decide) hp, fun h => h⟩

theorem rcd (x1 : Rec) : SameBut [.rcd] s { s with rcd := x1 } :=
  ⟨fun p hp => by cases p <;> first | rfl | exact absurd (by decide) hp, fun h => h⟩

theorem loop (x1 : Loop) : SameBut [.loop] s { s with loop := x1 } :=
  ⟨fun p hp => by cases p <;> first | rfl | exact absurd (by decide) hp, fun h => h⟩

theorem phases (x1 : List (List Phase)) : SameBut [.phases] s { s with phases := x1 } :=
  ⟨fun p hp => by cases p <;> first | rfl | exact absurd (by decide) hp, fun h => h⟩

theorem tph (x1 : List TrayPh) : SameBut [.tph] s { s with tph := x1 } :=
  ⟨fun p hp => by cases p <;> first | rfl | exact absurd (by decide) hp, fun h => h⟩

theorem links (x1 : List Link) : SameBut [.links] s { s with links := x1 } :=
  ⟨fun p hp => by cases p <;> first | rfl | exact absurd (by decide) hp, fun h => h⟩

theorem edge (x1 : Edge) : SameBut [.edge] s { s with edge := x1 } :=
  ⟨fun p hp => by cases p <;> first | rfl | exact absurd (by decide) hp, fun h => h⟩

theorem trays (x1 : List Tray) : SameBut [.trays] s { s with trays := x1 } :=
  ⟨fun p hp => by cases p <;> first | rfl | exact absurd (by decide) hp, fun h => h⟩

theorem alloc (x1 : Alloc) : SameBut [.alloc] s { s with alloc := x1 } :=
  ⟨fun p hp => by cases p <;> first | rfl | exact absurd (by decide) hp, fun h => h⟩

theorem tows (x1 : List Tow) : SameBut [.tows] s { s with tows := x1 } :=
  ⟨fun p hp => by cases p <;> first | rfl | exact absurd (by decide) hp, fun h => h⟩

theorem est (x1 : List Est) : SameBut [.est] s { s with est := x1 } :=
  ⟨fun p hp => by cases p <;> first | rfl | exact absurd (by decide) hp, fun h => h⟩

theorem feed (x1 : Feed) : SameBut [.feed] s { s with feed := x1 } :=
  ⟨fun p hp => by cases p <;> first | rfl | exact absurd (by decide) hp, fun h => h⟩

theorem gov (x1 : Gov) : SameBut [.gov] s { s with gov := x1 } :=
  ⟨fun p hp => by cases p <;> first | rfl | exact absurd (by decide) hp, fun h => h⟩

theorem gates (x1 : Gates) : SameBut [.gates] s { s with gates := x1 } :=
  ⟨fun p hp => by cases p <;> first | rfl | exact absurd (by decide) hp, fun h => h⟩

theorem ev (x1 : Events) : SameBut [.ev] s { s with ev := x1 } :=
  ⟨fun p hp => by cases p <;> first | rfl | exact absurd (by decide) hp, fun h => h⟩

theorem tide (x1 : Tide) : SameBut [.tide] s { s with tide := x1 } :=
  ⟨fun p hp => by cases p <;> first | rfl | exact absurd (by decide) hp, fun h => h⟩

theorem pair (x1 : Pair) : SameBut [.pair] s { s with pair := x1 } :=
  ⟨fun p hp => by cases p <;> first | rfl | exact absurd (by decide) hp, fun h => h⟩

theorem sec (x1 : Sec) : SameBut [.sec] s { s with sec := x1 } :=
  ⟨fun p hp => by cases p <;> first | rfl | exact absurd (by decide) hp, fun h => h⟩

theorem cal (x1 : Cal) : SameBut [.cal] s { s with cal := x1 } :=
  ⟨fun p hp => by cases p <;> first | rfl | exact absurd (by decide) hp, fun h => h⟩

theorem grid (x1 : Grid)
    (hm : x1.sram = s.grid.sram ∧ x1.ddr = s.grid.ddr := by exact ⟨rfl, rfl⟩) :
    SameBut [.grid] s { s with grid := x1 } :=
  ⟨fun p hp => by cases p <;> first | rfl | exact absurd (by decide) hp, fun h => by
    rwa [State.memoryOk, hm.1, hm.2]⟩

theorem slots (x1 : List Slot) : SameBut [.slots] s { s with slots := x1 } :=
  ⟨fun p hp => by cases p <;> first | rfl | exact absurd (by decide) hp, fun h => h⟩

theorem dock (x1 : Dock) : SameBut [.dock] s { s with dock := x1 } :=
  ⟨fun p hp => by cases p <;> first | rfl | exact absurd (by decide) hp, fun h => h⟩

theorem port (x1 : Port) : SameBut [.port] s { s with port := x1 } :=
  ⟨fun p hp => by cases p <;> first | rfl | exact absurd (by decide) hp, fun h => h⟩

theorem sess (x1 : List Session) : SameBut [.sess] s { s with sess := x1 } :=
  ⟨fun p hp => by cases p <;> first | rfl | exact absurd (by decide) hp, fun h => h⟩

theorem clk (x1 : Clk) : SameBut [.clk] s { s with clk := x1 } :=
  ⟨fun p hp => by cases p <;> first | rfl | exact absurd (by decide) hp, fun h => h⟩

theorem cap (x1 : Cap) : SameBut [.cap] s { s with cap := x1 } :=
  ⟨fun p hp => by cases p <;> first | rfl | exact absurd (by decide) hp, fun h => h⟩

theorem pending (x1 : List Instr) : SameBut [.pending] s { s with pending := x1 } :=
  ⟨fun p hp => by cases p <;> first | rfl | exact absurd (by decide) hp, fun h => h⟩

theorem fm_cap (x1 : Fm) (x2 : Cap) : SameBut [.fm, .cap] s { s with fm := x1, cap := x2 } :=
  ⟨fun p hp => by cases p <;> first | rfl | exact absurd (by decide) hp, fun h => h⟩

theorem fm_port (x1 : Fm) (x2 : Port) : SameBut [.fm, .port] s { s with fm := x1, port := x2 } :=
  ⟨fun p hp => by cases p <;> first | rfl | exact absurd (by decide) hp, fun h => h⟩

theorem freeCount_clk (x1 : Nat) (x2 : Clk) : SameBut [.freeCount, .clk] s { s with freeCount := x1, clk := x2 } :=
  ⟨fun p hp => by cases p <;> first | rfl | exact absurd (by decide) hp, fun h => h⟩

theorem freeCount_gov (x1 : Nat) (x2 : Gov) : SameBut [.freeCount, .gov] s { s with freeCount := x1, gov := x2 } :=
  ⟨fun p hp => by cases p <;> first | rfl | exact absurd (by decide) hp, fun h => h⟩

theorem freeCount_loop (x1 : Nat) (x2 : Loop) :
    SameBut [.freeCount, .loop] s { s with freeCount := x1, loop := x2 } :=
  ⟨fun p hp => by cases p <;> first | rfl | exact absurd (by decide) hp, fun h => h⟩

theorem freeCount_pair (x1 : Nat) (x2 : Pair) :
    SameBut [.freeCount, .pair] s { s with freeCount := x1, pair := x2 } :=
  ⟨fun p hp => by cases p <;> first | rfl | exact absurd (by decide) hp, fun h => h⟩

theorem gov_port (x1 : Gov) (x2 : Port) : SameBut [.gov, .port] s { s with gov := x1, port := x2 } :=
  ⟨fun p hp => by cases p <;> first | rfl | exact absurd (by decide) hp, fun h => h⟩

theorem grid_dock (x1 : Grid) (x2 : Dock)
    (hm : x1.sram = s.grid.sram ∧ x1.ddr = s.grid.ddr := by exact ⟨rfl, rfl⟩) :
    SameBut [.grid, .dock] s { s with grid := x1, dock := x2 } :=
  ⟨fun p hp => by cases p <;> first | rfl | exact absurd (by decide) hp, fun h => by
    rwa [State.memoryOk, hm.1, hm.2]⟩

theorem grid_slots (x1 : Grid) (x2 : List Slot)
    (hm : x1.sram = s.grid.sram ∧ x1.ddr = s.grid.ddr := by exact ⟨rfl, rfl⟩) :
    SameBut [.grid, .slots] s { s with grid := x1, slots := x2 } :=
  ⟨fun p hp => by cases p <;> first | rfl | exact absurd (by decide) hp, fun h => by
    rwa [State.memoryOk, hm.1, hm.2]⟩

theorem hw_feed (x1 : Hw) (x2 : Feed) : SameBut [.hw, .feed] s { s with hw := x1, feed := x2 } :=
  ⟨fun p hp => by cases p <;> first | rfl | exact absurd (by decide) hp, fun h => h⟩

theorem hw_pair (x1 : Hw) (x2 : Pair) : SameBut [.hw, .pair] s { s with hw := x1, pair := x2 } :=
  ⟨fun p hp => by cases p <;> first | rfl | exact absurd (by decide) hp, fun h => h⟩

theorem hw_sec (x1 : Hw) (x2 : Sec) : SameBut [.hw, .sec] s { s with hw := x1, sec := x2 } :=
  ⟨fun p hp => by cases p <;> first | rfl | exact absurd (by decide) hp, fun h => h⟩

theorem loop_tide (x1 : Loop) (x2 : Tide) : SameBut [.loop, .tide] s { s with loop := x1, tide := x2 } :=
  ⟨fun p hp => by cases p <;> first | rfl | exact absurd (by decide) hp, fun h => h⟩

theorem loop_trays (x1 : Loop) (x2 : List Tray) : SameBut [.loop, .trays] s { s with loop := x1, trays := x2 } :=
  ⟨fun p hp => by cases p <;> first | rfl | exact absurd (by decide) hp, fun h => h⟩

theorem now_clk (x1 : Nat) (x2 : Clk) : SameBut [.now, .clk] s { s with now := x1, clk := x2 } :=
  ⟨fun p hp => by cases p <;> first | rfl | exact absurd (by decide) hp, fun h => h⟩

theorem now_od (x1 : Nat) (x2 : Od) : SameBut [.now, .od] s { s with now := x1, od := x2 } :=
  ⟨fun p hp => by cases p <;> first | rfl | exact absurd (by decide) hp, fun h => h⟩

theorem od_cal (x1 : Od) (x2 : Cal) : SameBut [.od, .cal] s { s with od := x1, cal := x2 } :=
  ⟨fun p hp => by cases p <;> first | rfl | exact absurd (by decide) hp, fun h => h⟩

theorem pair_clk (x1 : Pair) (x2 : Clk) : SameBut [.pair, .clk] s { s with pair := x1, clk := x2 } :=
  ⟨fun p hp => by cases p <;> first | rfl | exact absurd (by decide) hp, fun h => h⟩

theorem tx_port (x1 : List Tx) (x2 : Port) : SameBut [.tx, .port] s { s with tx := x1, port := x2 } :=
  ⟨fun p hp => by cases p <;> first | rfl | exact absurd (by decide) hp, fun h => h⟩

theorem fm_pair_port (x1 : Fm) (x2 : Pair) (x3 : Port) :
    SameBut [.fm, .pair, .port] s { s with fm := x1, pair := x2, port := x3 } :=
  ⟨fun p hp => by cases p <;> first | rfl | exact absurd (by decide) hp, fun h => h⟩

theorem freeCount_now_clk (x1 x2 : Nat) (x3 : Clk) :
    SameBut [.freeCount, .now, .clk] s { s with freeCount := x1, now := x2, clk := x3 } :=
  ⟨fun p hp => by cases p <;> first | rfl | exact absurd (by decide) hp, fun h => h⟩

theorem gov_grid_slots (x1 : Gov) (x2 : Grid) (x3 : List Slot)
    (hm : x2.sram = s.grid.sram ∧ x2.ddr = s.grid.ddr := by exact ⟨rfl, rfl⟩) :
    SameBut [.gov, .grid, .slots] s { s with gov := x1, grid := x2, slots := x3 } :=
  ⟨fun p hp => by cases p <;> first | rfl | exact absurd (by decide) hp, fun h => by
    rwa [State.memoryOk, hm.1, hm.2]⟩

theorem hw_od_pair (x1 : Hw) (x2 : Od) (x3 : Pair) :
    SameBut [.hw, .od, .pair] s { s with hw := x1, od := x2, pair := x3 } :=
  ⟨fun p hp => by cases p <;> first | rfl | exact absurd (by decide) hp, fun h => h⟩

theorem loop_pair_clk (x1 : Loop) (x2 : Pair) (x3 : Clk) :
    SameBut [.loop, .pair, .clk] s { s with loop := x1, pair := x2, clk := x3 } :=
  ⟨fun p hp => by cases p <;> first | rfl | exact absurd (by decide) hp, fun h => h⟩

theorem now_hw_od (x1 : Nat) (x2 : Hw) (x3 : Od) :
    SameBut [.now, .hw, .od] s { s with now := x1, hw := x2, od := x3 } :=
  ⟨fun p hp => by cases p <;> first | rfl | exact absurd (by decide) hp, fun h => h⟩

theorem pair_port_sess (x1 : Pair) (x2 : Port) (x3 : List Session) :
    SameBut [.pair, .port, .sess] s { s with pair := x1, port := x2, sess := x3 } :=
  ⟨fun p hp => by cases p <;> first | rfl | exact absurd (by decide) hp, fun h => h⟩

theorem fm_trays_tide_sess (x1 : Fm) (x2 : List Tray) (x3 : Tide) (x4 : List Session) :
    SameBut [.fm, .trays, .tide, .sess] s { s with fm := x1, trays := x2, tide := x3, sess := x4 } :=
  ⟨fun p hp => by cases p <;> first | rfl | exact absurd (by decide) hp, fun h => h⟩

theorem phases_links_edge_trays_alloc_tows_est (x1 : List (List Phase)) (x2 : List Link) (x3 : Edge)
    (x4 : List Tray) (x5 : Alloc) (x6 : List Tow) (x7 : List Est) :
    SameBut [.phases, .links, .edge, .trays, .alloc, .tows, .est] s { s with
        phases := x1, links := x2, edge := x3, trays := x4, alloc := x5, tows := x6, est := x7 } :=
  ⟨fun p hp => by cases p <;> first | rfl | exact absurd (by decide) hp, fun h => h⟩

theorem counting_parts (x1 : Od) (x2 : Fm) (x3 : Edge) (x4 : Gov)
    (x5 : Gates) (x6 : Events) (x7 : Tide) (x8 : Pair) (x9 : Sec) (x10 : Cal) (x11 : Grid) (x12 : Port) (x13 : Clk)
    (hm : x11.sram = s.grid.sram ∧ x11.ddr = s.grid.ddr := by exact ⟨rfl, rfl⟩) :
    SameBut [.od, .fm, .edge, .gov, .gates, .ev, .tide, .pair, .sec, .cal, .grid, .port, .clk] s { s with
        od := x1, fm := x2, edge := x3, gov := x4, gates := x5, ev := x6, tide := x7, pair := x8, sec := x9
        cal := x10, grid := x11, port := x12, clk := x13 } :=
  ⟨fun p hp => by cases p <;> first | rfl | exact absurd (by decide) hp, fun h => by
    rwa [State.memoryOk, hm.1, hm.2]⟩

theorem timed_parts
    (x1 : Hw) (x2 : Od) (x3 : Fm) (x4 : Rec) (x5 : List (List Phase)) (x6 : List TrayPh) (x7 : List Link)
    (x8 : Edge) (x9 : List Tray) (x10 : Alloc) (x11 : List Tow) (x12 : List Est) (x13 : Feed) (x14 : Gov)
    (x15 : Gates) (x16 : Events) (x17 : Tide) (x18 : Pair) (x19 : Sec) (x20 : Cal) (x21 : Grid) (x22 : Port)
    (x23 : List Session) (x24 : Clk) (x25 : Cap)
    (hm : x21.sram = s.grid.sram ∧ x21.ddr = s.grid.ddr := by exact ⟨rfl, rfl⟩) :
    SameBut [.hw, .od, .fm, .rcd, .phases, .tph, .links, .edge, .trays, .alloc, .tows, .est, .feed, .gov, .gates,
      .ev, .tide, .pair, .sec, .cal, .grid, .port, .sess, .clk, .cap] s { s with
        hw := x1, od := x2, fm := x3, rcd := x4, phases := x5, tph := x6, links := x7, edge := x8, trays := x9
        alloc := x10, tows := x11, est := x12, feed := x13, gov := x14, gates := x15, ev := x16, tide := x17
        pair := x18, sec := x19, cal := x20, grid := x21, port := x22, sess := x23, clk := x24, cap := x25 } :=
  ⟨fun p hp => by cases p <;> first | rfl | exact absurd (by decide) hp, fun h => by
    rwa [State.memoryOk, hm.1, hm.2]⟩

/-- A core memory that changes keeps its form. -/
theorem grid_sram (x1 : Grid) (hm : Memory.wf s.grid.sram = true → Memory.wf x1.sram = true)
    (hd : x1.ddr = s.grid.ddr := by rfl) : SameBut [.grid] s { s with grid := x1 } :=
  ⟨fun p hp => by cases p <;> first | rfl | exact absurd (by decide) hp, fun h => by
    rw [State.memoryOk, Bool.and_eq_true] at h ⊢
    exact ⟨hm h.1, hd ▸ h.2⟩⟩

theorem grid_ddr (x1 : Grid) (hm : Memory.wf s.grid.ddr = true → Memory.wf x1.ddr = true)
    (hs : x1.sram = s.grid.sram := by rfl) : SameBut [.grid] s { s with grid := x1 } :=
  ⟨fun p hp => by cases p <;> first | rfl | exact absurd (by decide) hp, fun h => by
    rw [State.memoryOk, Bool.and_eq_true] at h ⊢
    exact ⟨hs ▸ h.1, hm h.2⟩⟩

theorem grid_dock_sram (x1 : Grid) (x2 : Dock) (hm : Memory.wf s.grid.sram = true → Memory.wf x1.sram = true)
    (hd : x1.ddr = s.grid.ddr := by rfl) : SameBut [.grid, .dock] s { s with grid := x1, dock := x2 } :=
  ⟨fun p hp => by cases p <;> first | rfl | exact absurd (by decide) hp, (grid_sram s x1 hm hd).memory⟩

end SameBut
end Sys2Proof.Machine
end

section
/-! SUPPORT. Proof: the shared operations and the power chain touch only their own parts of the state (01 to 06, 09). -/

namespace Sys2Proof.Machine

set_option Elab.async false

/-! ### Settings, transmissions, raises -/

theorem State.setCfg_frame (s : State) (index sub v : Nat) : SameBut [.od] s (State.setCfg s index sub v) :=
  .od ..

theorem State.setWin_frame (s : State) (ses index sub v : Nat) : SameBut [.od] s (State.setWin s ses index sub v) :=
  .od ..

theorem State.advance_frame (s : State) (t : Nat) : SameBut [.now, .od] s (State.advance s t) :=
  .now_od ..

theorem idle_frame (s : State) : SameBut [.now, .od] s (idle s) :=
  .ite (.mono (.now ..)) (State.advance_frame ..)

theorem State.updPh_frame (s : State) (t p : Nat) (f : Phase → Phase) : SameBut [.phases] s (State.updPh s t p f) :=
  .phases ..

theorem State.updPhs_frame (s : State) (t : Nat) (f : Phase → Phase) : SameBut [.phases] s (State.updPhs s t f) :=
  .phases ..

theorem State.updTp_frame (s : State) (t : Nat) (f : TrayPh → TrayPh) : SameBut [.tph] s (State.updTp s t f) :=
  .tph ..

theorem State.updLink_frame (s : State) (t : Nat) (f : Link → Link) : SameBut [.links] s (State.updLink s t f) :=
  .links ..

theorem State.updTray_frame (s : State) (t : Nat) (f : Tray → Tray) : SameBut [.trays] s (State.updTray s t f) :=
  .trays ..

theorem State.updTow_frame (s : State) (t : Nat) (f : Tow → Tow) : SameBut [.tows] s (State.updTow s t f) :=
  .tows ..

theorem State.updEst_frame (s : State) (t : Nat) (f : Est → Est) : SameBut [.est] s (State.updEst s t f) :=
  .est ..

theorem State.violate_frame (s : State) (ses index sub : Nat) : SameBut [.sess] s (State.violate s ses index sub) :=
  .sess ..

theorem State.raiseWith_frame (s : State) (code inst : Nat) (data : Bytes) :
    SameBut [.fm] s (State.raiseWith s code inst data) :=
  .fm ..

theorem State.raise_frame (s : State) (code inst : Nat) : SameBut [.fm] s (State.raise s code inst) :=
  State.raiseWith_frame ..

theorem State.assertFaultOut_frame (s : State) (code : Nat) :
    SameBut [.fm, .pair, .port] s (State.assertFaultOut s code) :=
  .ite .refl (.fm_pair_port ..)

theorem voidFirmware_frame (n k : Nat) (s : State) : SameBut [.grid] s (voidFirmware n k s) :=
  .ite (.grid ..) .refl

theorem State.send_frame (s : State) (x : Tx) : SameBut [.tx] s (State.send s x) :=
  .ite .refl (.tx ..)

theorem State.sendJ1_frame (s : State) (x : Tx) : SameBut [.tx, .port] s (State.sendJ1 s x) :=
  .ite .refl (.tx_port ..)

theorem State.violateOp_frame (s : State) (ses op : Nat) : SameBut [.sess] s (State.violateOp s ses op) :=
  State.violate_frame ..

theorem State.sendNear_frame (s : State) (x : HeldNear) : SameBut [.tx, .port] s (State.sendNear s x) :=
  .ite .refl (.ite (.mono (.port ..)) (State.sendJ1_frame ..))

theorem flushNear_frame (s : State) : SameBut [.tx, .port] s (flushNear s) :=
  .ite .refl (.trans (.mono (.port ..)) (.foldl fun _ _ => (State.sendNear_frame ..)))

theorem State.sendPaddle_frame (s : State) (t typ : Nat) (payload : Bytes) :
    SameBut [.tx, .links] s (State.sendPaddle s t typ payload) :=
  .ite .refl (.step (.mono (State.send_frame ..)) (State.updLink_frame ..))

theorem State.draw_frame (s : State) : SameBut [.freeCount] s s.draw.2 := .freeCount ..

theorem State.measure_frame (s : State) (kind index : Nat) (hash : Bytes) :
    SameBut [.sec] s (State.measure s kind index hash) :=
  .sec ..

theorem State.hintsResume_frame (s : State) : SameBut [.tide] s (State.hintsResume s) :=
  .tide ..

theorem State.offsetIntoO_frame (s : State) (theta : ℤ) : SameBut [.fm, .clk] s (State.offsetIntoO s theta) :=
  .step (.mono (.clk ..)) (State.raise_frame ..)

theorem State.dropStep_frame (s : State) : SameBut [.fm, .clk] s (State.dropStep s) := by
  unfold State.dropStep
  split
  · exact State.offsetIntoO_frame ..
  · exact .refl

theorem startDrives_frame (t : Nat) (s : State) : SameBut [.trays] s (startDrives t s) :=
  .ite (State.updTray_frame ..) .refl

theorem trayPrecharge_frame (t : Nat) (blackStart : Bool) (s : State) :
    SameBut [.trays] s (trayPrecharge t blackStart s) :=
  .step (State.updTray_frame ..) (startDrives_frame ..)

/-! ### The capture ring -/

theorem capMarker_frame (cause : Nat) (s : State) : SameBut [.cap] s (capMarker cause s) :=
  .ite (.cap ..) .refl

theorem capRecord_frame (kind slot : Nat) (payload : Bytes) (s : State) :
    SameBut [.cap] s (capRecord kind slot payload s) :=
  .ite (.cap ..) .refl

theorem capFrame_frame (t0 : Nat) (b : Bytes) (s : State) : SameBut [.fm, .cap] s (capFrame t0 b s) :=
  .ite (.fm_cap ..) .refl

theorem capTrigger_frame (code : Nat) (s : State) : SameBut [.cap] s (capTrigger code s) := by
  dsimp only [capTrigger]
  split
  · exact .refl
  · exact .cap ..
  · exact .cap ..

/-! ### What the feed interface sends -/

theorem State.updRect_frame (s : State) (r : Nat) (f : Rect → Rect) : SameBut [.feed] s (State.updRect s r f) :=
  .feed ..

theorem State.updGroup_frame (s : State) (g : Nat) (f : Group → Group) : SameBut [.feed] s (State.updGroup s g f) :=
  .feed ..

theorem State.sendCan_frame (s : State) (port id : Nat) (data : Bytes) :
    SameBut [.tx] s (State.sendCan s port id data) :=
  .ite (State.send_frame ..) .refl

theorem sendCommand_frame (g : Nat) (immediate : Bool) (s : State) :
    SameBut [.tx, .feed] s (sendCommand g immediate s) :=
  .ite .refl (.step (.mono (State.sendCan_frame ..)) (State.updGroup_frame ..))

theorem zeroGroup_frame (g : Nat) (s : State) : SameBut [.tx, .feed] s (zeroGroup g s) :=
  .step (.foldl fun _ _ => (.mono (State.updRect_frame ..))) (sendCommand_frame ..)

theorem zeroRects_frame (s : State) : SameBut [.tx, .feed] s (zeroRects s) :=
  .step (zeroGroup_frame ..) (zeroGroup_frame ..)

theorem readMode_frame (r : Nat) (s : State) : SameBut [.tx] s (readMode r s) :=
  State.sendCan_frame ..

theorem readModes_frame (s : State) : SameBut [.tx] s (readModes s) :=
  .foldl fun _ _ => (readMode_frame ..)

/-! ### The bus loop (02) -/

theorem ingest_frame (t0 : Nat) (s : State) : SameBut [.loop, .trays] s (ingest t0 s) := by
  dsimp only [ingest]
  split
  · exact .loop_trays ..
  · exact .loop_trays ..

theorem loopPeriod_frame (t0 : Nat) (s : State) : SameBut [.fm, .loop, .feed] s (loopPeriod t0 s) :=
  .trans (.trans (.ite (.step (.mono (.loop ..)) (.feed ..)) (.mono (.loop ..))) (.when_ (fun _ => (.mono
    (State.raise_frame ..))))) (.when_ (fun _ => (.mono (State.raise_frame ..))))

theorem excludeEff_frame (t : Nat) (s : State) : SameBut [.fm, .loop] s (excludeEff t s) :=
  .ite (.step (.mono (.loop ..)) (State.raise_frame ..)) .refl

theorem readmitEff_frame (t : Nat) (s : State) : SameBut [.loop] s (readmitEff t s) :=
  .ite (.loop ..) .refl

theorem tripLoop_frame (s : State) : SameBut [.tx, .loop, .feed] s (tripLoop s) :=
  .ite .refl (.step (.mono (.loop ..)) (zeroRects_frame ..))

theorem holdTimeoutEff_frame (s : State) : SameBut [.tx, .fm, .loop, .feed] s (holdTimeoutEff s) :=
  .ite (.step (.mono (State.raise_frame ..)) (tripLoop_frame ..)) .refl

theorem clampPersistentEff_frame (s : State) : SameBut [.fm, .loop] s (clampPersistentEff s) :=
  .ite (.step (.mono (.loop ..)) (State.raise_frame ..)) .refl

theorem windowTimeoutEff_frame (s : State) : SameBut [.fm, .loop] s (windowTimeoutEff s) :=
  .ite (.step (.mono (.loop ..)) (State.raise_frame ..)) .refl

theorem farTimeoutEff_frame (s : State) : SameBut [.fm, .loop] s (farTimeoutEff s) :=
  .ite (.step (.mono (.loop ..)) (State.raise_frame ..)) .refl

theorem softCompleteEff_frame (s : State) : SameBut [.loop] s (softCompleteEff s) :=
  .ite (.loop ..) .refl

theorem stoppingCompleteEff_frame (s : State) : SameBut [.loop] s (stoppingCompleteEff s) :=
  .ite (.loop ..) .refl

theorem settleLoop_frame (s : State) : SameBut [.tx, .fm, .loop, .feed] s (settleLoop s) :=
  .step (.step (.step (.step (.step (.step (.foldl fun _ _ => (.step (.mono (excludeEff_frame ..))
    (readmitEff_frame ..))) (holdTimeoutEff_frame ..)) (clampPersistentEff_frame ..)) (windowTimeoutEff_frame ..))
    (farTimeoutEff_frame ..)) (softCompleteEff_frame ..)) (stoppingCompleteEff_frame ..)

theorem loopLeaveOff_frame (st : LoopSt) (s : State) : SameBut [.fm, .loop, .clk] s (loopLeaveOff st s) :=
  .step (.mono (.loop ..)) (State.dropStep_frame ..)

theorem loopStartEff_frame (ses : Nat) (s : State) : SameBut [.fm, .loop, .sess, .clk] s (loopStartEff ses s) := by
  unfold loopStartEff
  refine .ite ?_ ?_
  · split
    · exact .mono (loopLeaveOff_frame ..)
    · exact .mono (State.violate_frame ..)
  · exact .mono (State.violate_frame ..)

theorem loopBlackStartEff_frame (ses : Nat) (s : State) :
    SameBut [.fm, .loop, .trays, .sess, .clk] s (loopBlackStartEff ses s) := by
  dsimp only [loopBlackStartEff]
  refine .ite ?_ ?_
  · split
    · exact .ite (.ite (.mono (loopLeaveOff_frame ..)) (.mono (State.violate_frame ..))) (.ite (.step (.mono
        (loopLeaveOff_frame ..)) (trayPrecharge_frame ..)) (.mono (State.violate_frame ..)))
    · exact .mono (State.violate_frame ..)
  · exact .mono (State.violate_frame ..)

theorem loopStopEff_frame (ses : Nat) (s : State) : SameBut [.loop, .sess] s (loopStopEff ses s) := by
  dsimp only [loopStopEff]
  split
  · exact .mono (.loop ..)
  · exact .mono (.loop ..)
  · exact .mono (.loop ..)
  · exact .mono (.loop ..)
  · exact .mono (State.violate_frame ..)

theorem loopResetEff_frame (ses : Nat) (s : State) : SameBut [.loop, .sess] s (loopResetEff ses s) :=
  .ite (.mono (.loop ..)) (.mono (State.violate_frame ..))

/-! ### Transactions (15) -/

theorem copyTxn_frame (id : Nat) (s : State) : SameBut [.txn] s (copyTxn id s) := by
  dsimp only [copyTxn]
  split
  · exact .txn ..
  · exact .refl

theorem openTxn_frame (kind object arg requested ses seq : Nat) (s : State) :
    SameBut [.txn] s (openTxn kind object arg requested ses seq s) :=
  .step (.txn ..) (copyTxn_frame ..)

theorem updTxn_frame (id : Nat) (f : Txn → Txn) (s : State) : SameBut [.txn] s (updTxn id f s) :=
  .txn ..

theorem txnElement_frame (id i : Nat) (s : State) : SameBut [.txn] s (txnElement id i s) := by
  dsimp only [txnElement]
  split
  · exact .ite (.ite (.step (updTxn_frame ..) (copyTxn_frame ..)) (updTxn_frame ..)) .refl
  · exact .refl

theorem closeTxn_frame (id st cause : Nat) (s : State) : SameBut [.txn] s (closeTxn id st cause s) := by
  unfold closeTxn
  split
  · exact .ite (.step (updTxn_frame ..) (copyTxn_frame ..)) .refl
  · exact .refl

theorem txnLimit_frame (ses index sub : Nat) (s : State) : SameBut [.fm, .sess] s (txnLimit ses index sub s) :=
  .step (.mono (State.violate_frame ..)) (State.raise_frame ..)

theorem finishTxn_frame (id : Nat) (s : State) : SameBut [.txn] s (finishTxn id s) := by
  unfold finishTxn
  split
  · exact closeTxn_frame ..
  · exact .refl

/-! ### Transitions of a tray (04) -/

theorem setTray_frame (t : Nat) (st : TraySt) (s : State) : SameBut [.trays] s (setTray t st s) :=
  State.updTray_frame ..

theorem drivesLow_frame (t : Nat) (s : State) : SameBut [.tph, .trays] s (drivesLow t s) :=
  .step (.ite (.mono (State.updTp_frame ..)) .refl) (State.updTray_frame ..)

theorem drivesLowButN_frame (t : Nat) (s : State) : SameBut [.tph, .trays] s (drivesLowButN t s) :=
  .step (drivesLow_frame ..) (State.updTray_frame ..)

theorem slackOver_frame (t : Nat) (s : State) : SameBut [.trays, .alloc] s (slackOver t s) :=
  .ite (.step (.mono (State.updTray_frame ..)) (.alloc ..)) .refl

theorem slackReturn_frame (t len : Nat) (s : State) : SameBut [.trays, .alloc] s (slackReturn t len s) :=
  .step (slackOver_frame ..) (State.updTray_frame ..)

theorem slackUrgent_frame (s : State) : SameBut [.fm, .trays, .alloc] s (slackUrgent s) := by
  unfold slackUrgent
  split
  · exact .step (.mono (slackReturn_frame ..)) (State.raise_frame ..)
  · exact .refl

theorem leavesSet_frame (t : Nat) (s : State) : SameBut [.fm, .trays, .alloc] s (leavesSet t s) :=
  .ite (.mono (slackOver_frame ..)) (.ite .refl (slackUrgent_frame ..))

theorem interruptDrain_frame (t cause : Nat) (s : State) : SameBut [.txn] s (interruptDrain t cause s) :=
  .ite .refl (closeTxn_frame ..)

theorem testOver_frame (t : Nat) (s : State) : SameBut [.tph, .trays] s (testOver t s) :=
  .step (.mono (State.updTp_frame ..)) (State.updTray_frame ..)

theorem blackStartFailed_frame (t : Nat) (s : State) : SameBut [.loop] s (blackStartFailed t s) :=
  .ite (.loop ..) .refl

theorem trayFault_frame (t cause : Nat) (s : State) :
    SameBut [.fm, .loop, .tph, .trays, .alloc] s (trayFault t cause s) :=
  .step (.step (.step (.step (.mono (blackStartFailed_frame ..)) (leavesSet_frame ..)) (drivesLow_frame ..))
    (testOver_frame ..)) (State.updTray_frame ..)

theorem trayOpenFault_frame (t cause : Nat) (s : State) :
    SameBut [.fm, .loop, .tph, .trays, .alloc] s (trayOpenFault t cause s) :=
  .step (.step (.step (.step (.ite .refl (.step (.mono (leavesSet_frame ..)) (blackStartFailed_frame ..)))
    (drivesLow_frame ..)) (testOver_frame ..)) (State.updTray_frame ..)) (State.updTp_frame ..)

theorem drainOpen_frame (t cause : Nat) (s : State) : SameBut [.txn, .tph, .trays] s (drainOpen t cause s) :=
  .step (.step (.ite (.mono (txnElement_frame ..)) .refl) (drivesLowButN_frame ..)) (State.updTray_frame ..)

theorem openAtZeroCheck_frame (t : Nat) (s : State) : SameBut [.txn, .tph, .trays] s (openAtZeroCheck t s) :=
  .ite (.ite (.step (.mono (drivesLow_frame ..)) (State.updTray_frame ..)) (.ite (drainOpen_frame ..) .refl)) .refl

theorem bleedAccount_frame (t : Nat) (s : State) : SameBut [.est] s (bleedAccount t s) :=
  State.updEst_frame ..

theorem interruptWrites_frame (t cause : Nat) (s : State) : SameBut [.txn, .est] s (interruptWrites t cause s) :=
  .trans (.mono (State.updEst_frame ..)) (.foldl fun _ _ => (.mono (closeTxn_frame ..)))

theorem trayAbsent_frame (t : Nat) (s : State) : SameBut [.txn, .tph, .trays, .tows, .est] s (trayAbsent t s) :=
  .step (.step (.step (.step (.step (.step (.step (.mono (interruptDrain_frame ..)) (interruptWrites_frame ..))
    (drivesLow_frame ..)) (testOver_frame ..)) (bleedAccount_frame ..)) (State.updTray_frame ..))
    (State.updTp_frame ..)) (State.updTow_frame ..)

theorem checkOutcome_frame (t : Nat) (c : Check) (s : State) :
    SameBut [.fm, .loop, .tph, .trays, .alloc] s (checkOutcome t c s) :=
  .ite (.ite (.step (.mono (State.updTp_frame ..)) (trayFault_frame ..)) (.step (.mono (State.updTp_frame ..))
    (startDrives_frame ..))) (.ite (.mono (State.updTp_frame ..)) (.ite (.ite (.step (.mono
    (State.updTp_frame ..)) (trayOpenFault_frame ..)) (.step (.mono (State.updTp_frame ..))
    (State.updTray_frame ..))) (.ite (.ite (.step (.mono (State.updTp_frame ..)) (trayFault_frame ..)) (.step
    (.mono (State.updTp_frame ..)) (trayPrecharge_frame ..))) (.mono (State.updTp_frame ..)))))

theorem requestCheck_frame (t : Nat) (p : Option Nat) (manager blackStart : Bool) (s : State) :
    SameBut [.tph] s (requestCheck t p manager blackStart s) :=
  State.updTp_frame ..

/-! ### Allocation (04) -/

theorem allocPrepare_frame (t0 : Nat) (s : State) : SameBut [.trays, .alloc] s (allocPrepare t0 s) :=
  .step (.step (.step (.mono (.alloc ..)) (.trays ..)) (.trays ..)) (.trays ..)

theorem allocPeriod_frame (t0 : Nat) (s : State) : SameBut [.fm, .trays, .alloc] s (allocPeriod t0 s) :=
  .trans (.step (.step (.mono (allocPrepare_frame ..)) (.trays ..)) (.alloc ..)) (.when_ (fun _ => (.mono
    (State.raise_frame ..))))

/-! ### The calibration set (19) -/

theorem State.setCal_frame (s : State) (e : Nat) (x : CalEntry) : SameBut [.cal] s (State.setCal s e x) :=
  .cal ..

theorem calApply_frame (t k : Nat) (v : Rat) (s : State) : SameBut [.fm, .cal] s (calApply t k v s) :=
  .ite (.step (.mono (State.setCal_frame ..)) (.cal ..)) (.ite (.mono (.cal ..)) (.step (.step (.mono (.cal ..))
    (State.setCal_frame ..)) (State.raise_frame ..)))

theorem calMeasure_frame (t k : Nat) (m : Rat) (s : State) : SameBut [.fm, .cal] s (calMeasure t k m s) :=
  .ite (calApply_frame ..) .refl

theorem calLinkVoltage_frame (t : Nat) (s : State) : SameBut [.fm, .cal] s (calLinkVoltage t s) :=
  .ite (calMeasure_frame ..) .refl

theorem State.pendStore_frame (s : State) (key : Nat) : SameBut [.od] s (State.pendStore s key) :=
  .od ..

theorem State.storeCfg_frame (s : State) (index sub v : Nat) : SameBut [.od] s (State.storeCfg s index sub v) :=
  .step (State.setCfg_frame ..) (State.pendStore_frame ..)

theorem calUnverify_frame (t : Nat) (s : State) : SameBut [.od, .fm, .cal] s (calUnverify t s) :=
  .step (.foldl fun _ _ => (.step (.mono (State.setCal_frame ..)) (State.pendStore_frame ..)))
    (State.raise_frame ..)

theorem calStoreLive_frame (s : State) : SameBut [.cal] s (calStoreLive s) :=
  .ite (.cal ..) .refl

/-! ### The phase law (03) -/

theorem State.mapPhs_frame (s : State) (t : Nat) (f : Nat → Phase → Phase) :
    SameBut [.phases] s (State.mapPhs s t f) :=
  .phases ..

theorem stepTray_frame (t : Nat) (s : State) : SameBut [.fm, .phases, .edge] s (stepTray t s) :=
  .step (.trans (.ite .refl (.mono (.edge ..))) (.foldl fun _ _ => (.mono (State.raise_frame ..))))
    (State.mapPhs_frame ..)

theorem shareStart_frame (t : Nat) (s : State) : SameBut [.phases, .tph] s (shareStart t s) :=
  .step (.mono (State.updPhs_frame ..)) (State.updTp_frame ..)

theorem markEdged_frame (t : Nat) (s : State) : SameBut [.pair] s (markEdged t s) :=
  .ite (.pair ..) .refl

theorem markCmds_frame (t t0 : Nat) (l : List (Nat × EdgeCmd)) (s : State) :
    SameBut [.phases, .pair] s (markCmds t t0 l s) :=
  .step (.foldl fun _ _ => (.mono (State.updPh_frame ..))) (markEdged_frame ..)

theorem edgeFrame_frame (t0 t : Nat) (s : State) : SameBut [.tx, .phases, .links, .pair] s (edgeFrame t0 t s) :=
  .ite .refl (.step (.mono (State.sendPaddle_frame ..)) (markCmds_frame ..))

theorem publishCapacity_frame (t : Nat) (s : State) : SameBut [.tph] s (publishCapacity t s) :=
  State.updTp_frame ..

theorem shedTrack_frame (t t0 : Nat) (s : State) : SameBut [.tph] s (shedTrack t t0 s) :=
  State.updTp_frame ..

theorem clampPeriod_frame (t0 : Nat) (s : State) : SameBut [.edge] s (clampPeriod t0 s) :=
  .edge ..

theorem decideAtInstant_frame (t p : Nat) (s : State) : SameBut [.phases, .tph] s (decideAtInstant t p s) :=
  .step (.mono (State.updPh_frame ..)) (State.updTp_frame ..)

theorem phasePeriod_frame (t0 t : Nat) (s : State) : SameBut [.fm, .phases, .tph, .edge] s (phasePeriod t0 t s) :=
  .ite .refl (.step (.step (.step (.ite (.step (.step (.ite (.step (.step (.ite (.step (.step (.ite (.ite (.mono
    (shareStart_frame ..)) .refl) (.mono (State.updTp_frame ..))) (State.mapPhs_frame ..)) (stepTray_frame ..))
    (.step (.ite (.ite (.mono (shareStart_frame ..)) .refl) (.mono (State.updTp_frame ..)))
    (State.mapPhs_frame ..))) (State.mapPhs_frame ..)) (State.mapPhs_frame ..)) (.step (.ite (.step (.step (.ite
    (.ite (.mono (shareStart_frame ..)) .refl) (.mono (State.updTp_frame ..))) (State.mapPhs_frame ..))
    (stepTray_frame ..)) (.step (.ite (.ite (.mono (shareStart_frame ..)) .refl) (.mono (State.updTp_frame ..)))
    (State.mapPhs_frame ..))) (State.mapPhs_frame ..))) (State.mapPhs_frame ..)) (State.mapPhs_frame ..)) (.step
    (.ite (.step (.step (.ite (.step (.step (.ite (.ite (.mono (shareStart_frame ..)) .refl) (.mono
    (State.updTp_frame ..))) (State.mapPhs_frame ..)) (stepTray_frame ..)) (.step (.ite (.ite (.mono
    (shareStart_frame ..)) .refl) (.mono (State.updTp_frame ..))) (State.mapPhs_frame ..)))
    (State.mapPhs_frame ..)) (State.mapPhs_frame ..)) (.step (.ite (.step (.step (.ite (.ite (.mono
    (shareStart_frame ..)) .refl) (.mono (State.updTp_frame ..))) (State.mapPhs_frame ..)) (stepTray_frame ..))
    (.step (.ite (.ite (.mono (shareStart_frame ..)) .refl) (.mono (State.updTp_frame ..)))
    (State.mapPhs_frame ..))) (State.mapPhs_frame ..))) (State.mapPhs_frame ..))) (State.updTp_frame ..))
    (shedTrack_frame ..)) (publishCapacity_frame ..))

/-! ### The phase manager (03) -/

theorem abortDrawing_frame (t : Nat) (s : State) : SameBut [.phases, .edge] s (abortDrawing t s) :=
  .ite (.step (.mono (State.updPhs_frame ..)) (.edge ..)) .refl

theorem capacityShort_frame (t : Nat) (s : State) : SameBut [.fm, .tph] s (capacityShort t s) :=
  .ite (.step (.mono (State.updTp_frame ..)) (State.raise_frame ..)) .refl

theorem handOffEff_frame (t p : Nat) (c : HandCause) (s : State) :
    SameBut [.fm, .phases, .tph, .edge] s (handOffEff t p c s) :=
  .ite (.step (.step (.ite (.mono (State.updPh_frame ..)) (.step (.mono (State.updPh_frame ..))
    (abortDrawing_frame ..))) (publishCapacity_frame ..)) (capacityShort_frame ..)) .refl

theorem openDetectedEff_frame (t p : Nat) (s : State) :
    SameBut [.fm, .phases, .tph, .edge] s (openDetectedEff t p s) :=
  .ite (.step (.step (.mono (State.updPh_frame ..)) (State.raise_frame ..)) (handOffEff_frame ..)) .refl

theorem senseFailed_frame (t p : Nat) (s : State) : SameBut [.fm, .phases, .tph, .edge] s (senseFailed t p s) :=
  .step (.step (.mono (State.updPh_frame ..)) (State.raise_frame ..)) (handOffEff_frame ..)

theorem senseDetectedEff_frame (t p : Nat) (s : State) :
    SameBut [.fm, .phases, .tph, .edge] s (senseDetectedEff t p s) :=
  .ite (senseFailed_frame ..) .refl

theorem handoffCompleteEff_frame (t p : Nat) (s : State) : SameBut [.phases] s (handoffCompleteEff t p s) :=
  .ite (State.updPh_frame ..) .refl

theorem deEntryEff_frame (t p : Nat) (s : State) : SameBut [.phases] s (deEntryEff t p s) :=
  .ite (State.updPh_frame ..) .refl

theorem trimLimitEff_frame (t p : Nat) (s : State) : SameBut [.fm, .phases] s (trimLimitEff t p s) := by
  dsimp only [trimLimitEff]
  split
  · exact .ite (.step (.mono (State.updPh_frame ..)) (State.raise_frame ..)) .refl
  · exact .refl

theorem drawStartEff_frame (t : Nat) (s : State) : SameBut [.phases] s (drawStartEff t s) := by
  dsimp only [drawStartEff]
  refine .ite ?_ ?_
  · split
    · exact State.updPh_frame ..
    · exact .refl
  · exact .refl

theorem drawingCompleteEff_frame (t p : Nat) (s : State) : SameBut [.phases] s (drawingCompleteEff t p s) :=
  .ite (State.updPh_frame ..) .refl

theorem restoreCompleteEff_frame (t p : Nat) (s : State) : SameBut [.phases] s (restoreCompleteEff t p s) :=
  .ite (State.updPh_frame ..) .refl

theorem lockoutExpiryEff_frame (s : State) : SameBut [.edge] s (lockoutExpiryEff s) :=
  .ite (.edge ..) .refl

theorem restoreOne_frame (t : Nat) (s : State) : SameBut [.phases] s (restoreOne t s) := by
  dsimp only [restoreOne]
  refine .ite ?_ ?_
  · split
    · exact State.updPh_frame ..
    · exact .refl
  · exact .refl

theorem trayHalf_frame (t : Nat) (s : State) : SameBut [.tph] s (trayHalf t s) :=
  State.updTp_frame ..

theorem identStep_frame (t : Nat) (s : State) : SameBut [.fm, .phases, .tph, .edge] s (identStep t s) := by
  dsimp only [identStep]
  split
  · exact .refl
  · exact .ite .refl (.ite (.mono (State.updTp_frame ..)) (.ite (.step (senseFailed_frame ..)
      (State.updTp_frame ..)) (.ite (.step (.mono (State.updPh_frame ..)) (State.updTp_frame ..)) (.step (.mono
      (State.updPh_frame ..)) (State.updTp_frame ..)))))

theorem settlePhase_frame (t p : Nat) (s : State) : SameBut [.fm, .phases, .tph, .edge] s (settlePhase t p s) :=
  .step (.step (.step (.step (.step (.step (.mono (trimLimitEff_frame ..)) (openDetectedEff_frame ..))
    (senseDetectedEff_frame ..)) (deEntryEff_frame ..)) (handoffCompleteEff_frame ..))
    (drawingCompleteEff_frame ..)) (restoreCompleteEff_frame ..)

theorem halfPeriodEff_frame (t p : Nat) (s : State) : SameBut [.fm, .phases, .tph, .edge] s (halfPeriodEff t p s) :=
  .ite .refl (.step (.ite (.step (.step (.step (.step (settlePhase_frame ..) (decideAtInstant_frame ..))
    (trayHalf_frame ..)) (identStep_frame ..)) (restoreOne_frame ..)) (.step (settlePhase_frame ..)
    (decideAtInstant_frame ..))) (State.updPh_frame ..))

theorem sumMismatchEff_frame (t : Nat) (s : State) : SameBut [.tph] s (sumMismatchEff t s) :=
  .ite (.step (State.updTp_frame ..) (publishCapacity_frame ..)) .refl

theorem identCompleteEff_frame (t : Nat) (s : State) : SameBut [.fm, .tph] s (identCompleteEff t s) := by
  dsimp only [identCompleteEff]
  split
  · exact .ite (.trans (.mono (State.updTp_frame ..)) (.when_ (fun _ => (.mono (State.raise_frame ..))))) .refl
  · exact .refl

theorem dropFromCheck_frame (failed : Bool) (t p : Nat) (s : State) :
    SameBut [.fm, .loop, .tph, .trays, .alloc] s (dropFromCheck failed t p s) := by
  dsimp only [dropFromCheck]
  split
  · exact .ite .refl (.ite (checkOutcome_frame ..) (.mono (State.updTp_frame ..)))
  · exact .refl

theorem leaveCheck_frame (t p : Nat) (s : State) :
    SameBut [.fm, .loop, .tph, .trays, .alloc] s (leaveCheck t p s) :=
  dropFromCheck_frame ..

theorem joinCheck_frame (t p : Nat) (s : State) : SameBut [.tph] s (joinCheck t p s) :=
  State.updTp_frame ..

theorem phaseOutEff_frame (ses t p : Nat) (s : State) :
    SameBut [.fm, .loop, .phases, .tph, .edge, .trays, .alloc, .sess] s (phaseOutEff ses t p s) := by
  dsimp only [phaseOutEff]
  refine .ite ?_ ?_
  · exact .mono (State.violate_frame ..)
  · split
    · exact .step (.step (.mono (State.updPh_frame ..)) (leaveCheck_frame ..)) (State.updPh_frame ..)
    · exact .step (.step (.mono (State.updPh_frame ..)) (leaveCheck_frame ..)) (State.updPh_frame ..)
    · exact .step (.step (.mono (State.updPh_frame ..)) (leaveCheck_frame ..)) (State.updPh_frame ..)
    · exact .step (.step (.mono (State.updPh_frame ..)) (leaveCheck_frame ..)) (State.updPh_frame ..)
    · exact .step (.step (.mono (State.updPh_frame ..)) (leaveCheck_frame ..)) (State.updPh_frame ..)
    · exact .step (.mono (State.updPh_frame ..)) (leaveCheck_frame ..)
    · exact .step (.step (.mono (State.updPh_frame ..)) (leaveCheck_frame ..)) (State.updPh_frame ..)
    · exact .step (.step (.mono (State.updPh_frame ..)) (leaveCheck_frame ..)) (handOffEff_frame ..)

theorem phaseInEff_frame (ses t p : Nat) (s : State) :
    SameBut [.phases, .tph, .trays, .sess] s (phaseInEff ses t p s) :=
  .ite (.mono (State.violate_frame ..)) (.step (.step (.step (.mono (State.updPh_frame ..))
    (State.updTray_frame ..)) (requestCheck_frame ..)) (joinCheck_frame ..))

theorem checkStartEff_frame (t : Nat) (s : State) :
    SameBut [.fm, .loop, .tph, .trays, .alloc] s (checkStartEff t s) := by
  dsimp only [checkStartEff]
  split
  · exact .ite .refl (.ite (.ite (checkOutcome_frame ..) (.mono (State.updTp_frame ..))) (.ite .refl (.step
      (.foldl fun _ _ => (.mono (State.raise_frame ..))) (State.updTp_frame ..))))
  · exact .refl

theorem judge_frame (t p : Nat) (c : Check) (pass : Bool) (s : State) :
    SameBut [.fm, .loop, .phases, .tph, .trays, .alloc] s (judge t p c pass s) :=
  .ite (.step (.ite (.mono (State.updPh_frame ..)) (.step (.mono (State.updPh_frame ..)) (State.raise_frame ..)))
    (checkOutcome_frame ..)) (.step (.ite (.mono (State.updPh_frame ..)) (.step (.mono (State.updPh_frame ..))
    (State.raise_frame ..))) (State.updTp_frame ..))

theorem sendProbe_frame (t p : Nat) (c : Check) (s : State) : SameBut [.tx, .tph, .links] s (sendProbe t p c s) :=
  .step (.step (.mono (State.sendPaddle_frame ..)) (State.updLink_frame ..)) (State.updTp_frame ..)

theorem phaseProbeEff_frame (t : Nat) (s : State) :
    SameBut [.tx, .fm, .loop, .phases, .tph, .links, .trays, .alloc] s (phaseProbeEff t s) := by
  dsimp only [phaseProbeEff]
  split
  · split
    · exact .ite (.ite (.mono (judge_frame ..)) (.step (.mono (State.updPh_frame ..)) (sendProbe_frame ..))) .refl
    · exact .refl
  · exact .refl

theorem probeRetryEff_frame (t : Nat) (s : State) : SameBut [.tx, .tph, .links] s (probeRetryEff t s) := by
  unfold probeRetryEff
  split
  · split
    · exact .ite (sendProbe_frame ..) .refl
    · exact .refl
  · exact .refl

theorem judgeStatus_frame (t at_ : Nat) (s : State) :
    SameBut [.fm, .loop, .phases, .tph, .trays, .alloc] s (judgeStatus t at_ s) := by
  dsimp only [judgeStatus]
  split
  · split
    · exact .ite (.ite (judge_frame ..) (.ite (judge_frame ..) (.ite (judge_frame ..) (.mono
        (State.updTp_frame ..))))) .refl
    · exact .refl
  · exact .refl

theorem abandonCheck_frame (t : Nat) (s : State) : SameBut [.phases, .tph] s (abandonCheck t s) := by
  dsimp only [abandonCheck]
  split
  · exact .ite (.step (.mono (State.updPhs_frame ..)) (State.updTp_frame ..)) .refl
  · exact .refl

theorem tripCheck_frame (t : Nat) (s : State) : SameBut [.tph] s (tripCheck t s) :=
  State.updTp_frame ..

theorem lateCommandEff_frame (t p period : Nat) (s : State) : SameBut [.edge] s (lateCommandEff t p period s) :=
  .ite (.edge ..) .refl

theorem latePeriodEff_frame (delay : Nat) (s : State) : SameBut [.fm, .loop, .edge] s (latePeriodEff delay s) :=
  .ite (.mono (.loop ..)) (.trans (.step (.step (.mono (.loop ..)) (.edge ..)) (State.raise_frame ..)) (.when_
    (fun _ => (.mono (State.raise_frame ..)))))

/-! ### Paddle links (03) -/

theorem sendAtOnce_frame (t : Nat) (l : List (Nat × EdgeCmd)) (s : State) :
    SameBut [.tx, .phases, .links, .pair] s (sendAtOnce t l s) :=
  .ite .refl (.step (.mono (State.sendPaddle_frame ..)) (markCmds_frame ..))

theorem sendSnubs_frame (t : Nat) (s : State) : SameBut [.tx, .phases, .links, .pair] s (sendSnubs t s) :=
  sendAtOnce_frame ..

theorem snubTray_frame (t : Nat) (s : State) : SameBut [.tx, .phases, .tph, .links, .pair] s (snubTray t s) :=
  .step (.step (.step (.mono (tripCheck_frame ..)) (State.mapPhs_frame ..)) (State.updTp_frame ..))
    (sendSnubs_frame ..)

theorem snubShelf_frame (s : State) : SameBut [.tx, .phases, .tph, .links, .pair] s (snubShelf s) :=
  .forTrays (fun _ _ => (snubTray_frame ..))

theorem overcurrentPhase_frame (t p : Nat) (s : State) :
    SameBut [.tx, .fm, .loop, .phases, .tph, .links, .trays, .alloc, .pair] s (overcurrentPhase t p s) :=
  .step (.step (.step (.mono (State.updPh_frame ..)) (dropFromCheck_frame ..)) (sendAtOnce_frame ..))
    (State.raise_frame ..)

theorem frameError_frame (t : Nat) (s : State) : SameBut [.fm, .links, .edge] s (frameError t s) :=
  .trans (.step (.mono (.edge ..)) (State.updLink_frame ..)) (.when_ (fun _ => (.mono (State.raise_frame ..))))

theorem otherFrame_frame (t typ : Nat) (s : State) : SameBut [.fm, .links, .edge] s (otherFrame t typ s) :=
  .ite .refl (frameError_frame ..)

theorem overcurrentEff_frame (t : Nat) (frame : Bytes) (s : State) :
    SameBut [.tx, .fm, .loop, .phases, .tph, .links, .edge, .trays, .alloc, .pair] s
      (overcurrentEff t frame s) := by
  dsimp only [overcurrentEff]
  split
  · exact .ite (.step (.when_ (fun _ => (.mono (State.updLink_frame ..)))) (State.mapPhs_frame ..)) (.ite (.step
      (.step (.step (.trans (.step (.when_ (fun _ => (.mono (State.updLink_frame ..)))) (State.mapPhs_frame ..))
      (.foldl fun _ _ => (.mono (overcurrentPhase_frame ..)))) (State.updTp_frame ..)) (publishCapacity_frame ..))
      (snubTray_frame ..)) (.step (.step (.trans (.step (.when_ (fun _ => (.mono (State.updLink_frame ..))))
      (State.mapPhs_frame ..)) (.foldl fun _ _ => (.mono (overcurrentPhase_frame ..)))) (State.updTp_frame ..))
      (publishCapacity_frame ..)))
  · exact .mono (otherFrame_frame ..)
  · exact .mono (frameError_frame ..)

theorem overvoltageEff_frame (t : Nat) (frame : Bytes) (s : State) :
    SameBut [.tx, .fm, .loop, .phases, .tph, .links, .edge, .feed, .pair] s (overvoltageEff t frame s) := by
  unfold overvoltageEff
  split
  · exact .ite .refl (.step (.step (.mono (snubShelf_frame ..)) (tripLoop_frame ..)) (State.raise_frame ..))
  · exact .mono (otherFrame_frame ..)
  · exact .mono (frameError_frame ..)

theorem chargeSample_frame (t at_ : Nat) (cur : List Rat) (s : State) :
    SameBut [.est] s (chargeSample t at_ cur s) :=
  State.updEst_frame ..

theorem sampleEff_frame (t : Nat) (frame : Bytes) (s : State) :
    SameBut [.txn, .fm, .phases, .tph, .links, .edge, .trays, .est] s (sampleEff t frame s) := by
  dsimp only [sampleEff]
  split
  · exact .step (.ite (.step (.step (.mono (State.mapPhs_frame ..)) (State.updLink_frame ..))
      (chargeSample_frame ..)) (.step (.mono (State.mapPhs_frame ..)) (State.updLink_frame ..)))
      (openAtZeroCheck_frame ..)
  · exact .mono (otherFrame_frame ..)
  · exact .step (.step (.mono (State.updPhs_frame ..)) (State.updLink_frame ..)) (frameError_frame ..)

theorem blackStartCheck_frame (t : Nat) (s : State) : SameBut [.tph, .trays] s (blackStartCheck t s) :=
  .ite (.step (.mono (State.updTray_frame ..)) (requestCheck_frame ..)) .refl

theorem statusEff_frame (t : Nat) (frame : Bytes) (s : State) :
    SameBut [.fm, .loop, .phases, .tph, .links, .edge, .trays, .alloc] s (statusEff t frame s) := by
  dsimp only [statusEff]
  split
  · exact .step (.step (.ite (.step (.mono (State.updLink_frame ..)) (abandonCheck_frame ..)) (.mono
      (State.updLink_frame ..))) (judgeStatus_frame ..)) (blackStartCheck_frame ..)
  · exact .mono (otherFrame_frame ..)
  · exact .step (.mono (State.updLink_frame ..)) (frameError_frame ..)

theorem sendConfig_frame (t : Nat) (e : Nat × Nat) (s : State) : SameBut [.tx, .links] s (sendConfig t e s) :=
  .step (State.sendPaddle_frame ..) (State.updLink_frame ..)

theorem sendStageConfig_frame (t : Nat) (s : State) : SameBut [.tx, .links] s (sendStageConfig t s) :=
  .ite (.foldl fun _ _ => (sendConfig_frame ..)) .refl

theorem configReplyEff_frame (t : Nat) (frame : Bytes) (s : State) :
    SameBut [.fm, .links, .edge] s (configReplyEff t frame s) := by
  dsimp only [configReplyEff]
  split
  · exact .mono (State.updLink_frame ..)
  · exact otherFrame_frame ..
  · exact frameError_frame ..

theorem timeSendEff_frame (t : Nat) (s : State) : SameBut [.tx, .links] s (timeSendEff t s) :=
  .ite (.step (State.sendPaddle_frame ..) (State.updLink_frame ..)) .refl

theorem delayMeasureEff_frame (t roundTrip : Nat) (s : State) :
    SameBut [.links] s (delayMeasureEff t roundTrip s) :=
  State.updLink_frame ..

theorem laneLostEff_frame (t : Nat) (s : State) : SameBut [.fm, .links] s (laneLostEff t s) :=
  .ite (.step (.mono (State.updLink_frame ..)) (State.raise_frame ..)) .refl

theorem laneRestoredEff_frame (t : Nat) (s : State) : SameBut [.links] s (laneRestoredEff t s) :=
  State.updLink_frame ..

theorem linkLossSet_frame (t : Nat) (s : State) : SameBut [.fm, .trays, .alloc] s (linkLossSet t s) :=
  .ite (leavesSet_frame ..) .refl

theorem linkLost_frame (t : Nat) (s : State) :
    SameBut [.fm, .phases, .tph, .links, .trays, .alloc] s (linkLost t s) :=
  .step (.step (.step (.step (.step (.mono (abandonCheck_frame ..)) (State.updPhs_frame ..))
    (State.updTp_frame ..)) (linkLossSet_frame ..)) (State.updLink_frame ..)) (State.raise_frame ..)

theorem unwarned_frame (t : Nat) (s : State) : SameBut [.txn, .fm, .tph, .trays, .alloc] s (unwarned t s) :=
  .step (.step (.step (.step (.step (.mono (leavesSet_frame ..)) (drivesLow_frame ..)) (testOver_frame ..))
    (State.raise_frame ..)) (interruptDrain_frame ..)) (State.updTray_frame ..)

theorem lossOfTray_frame (t : Nat) (wasInSet : Bool) (s : State) :
    SameBut [.txn, .fm, .tph, .trays, .alloc, .tows, .est] s (lossOfTray t wasInSet s) :=
  .ite .refl (.ite (.mono (unwarned_frame ..)) (.ite (.mono (trayAbsent_frame ..)) (.step (.step (.ite (.mono
    (interruptDrain_frame ..)) .refl) (testOver_frame ..)) (State.updTray_frame ..))))

theorem linkLostEff_frame (t : Nat) (s : State) :
    SameBut [.txn, .fm, .phases, .tph, .links, .trays, .alloc, .tows, .est] s (linkLostEff t s) :=
  .ite (.step (.mono (linkLost_frame ..)) (lossOfTray_frame ..)) .refl

theorem paddleLinkLostEff_frame (t : Nat) (s : State) :
    SameBut [.txn, .fm, .phases, .tph, .links, .trays, .alloc, .tows, .est] s (paddleLinkLostEff t s) :=
  .step (.mono (State.updLink_frame ..)) (linkLostEff_frame ..)

theorem heldExpiryEff_frame (t : Nat) (s : State) : SameBut [.links] s (heldExpiryEff t s) :=
  State.updLink_frame ..

theorem linkRestoredEff_frame (t : Nat) (fallback : Bool) (s : State) :
    SameBut [.tx, .phases, .tph, .links, .trays] s (linkRestoredEff t fallback s) :=
  .ite .refl (.step (.step (.step (.step (.mono (State.updLink_frame ..)) (State.updPhs_frame ..))
    (State.updTp_frame ..)) (State.updTray_frame ..)) (sendStageConfig_frame ..))

/-! ### The tray manager (04) -/

theorem ringRestart_frame (t : Nat) (s : State) : SameBut [.tows] s (ringRestart t s) :=
  State.updTow_frame ..

theorem towStart_frame (t : Nat) (s : State) : SameBut [.tows] s (towStart t s) :=
  .step (ringRestart_frame ..) (State.updTow_frame ..)

theorem traySeatedEff_frame (t : Nat) (s : State) : SameBut [.trays, .tows] s (traySeatedEff t s) :=
  .ite (.step (.mono (State.updTray_frame ..)) (towStart_frame ..)) .refl

theorem enterCheck_frame (t : Nat) (s : State) : SameBut [.tph, .trays] s (enterCheck t s) :=
  .step (.mono (setTray_frame ..)) (requestCheck_frame ..)

theorem trayInsertEff_frame (ses t : Nat) (s : State) : SameBut [.tph, .trays, .sess] s (trayInsertEff ses t s) :=
  .ite (.mono (enterCheck_frame ..)) (.mono (State.violate_frame ..))

theorem prechargePeriod_frame (t0 t : Nat) (s : State) : SameBut [.trays] s (prechargePeriod t0 t s) :=
  .ite (State.updTray_frame ..) (.ite (State.updTray_frame ..) .refl)

theorem trackCheckEff_frame (t : Nat) (s : State) :
    SameBut [.fm, .loop, .tph, .trays, .alloc] s (trackCheckEff t s) :=
  .ite (.step (.mono (State.raise_frame ..)) (trayOpenFault_frame ..)) .refl

theorem closureEff_frame (t : Nat) (s : State) : SameBut [.trays] s (closureEff t s) := by
  dsimp only [closureEff]
  split
  · exact .ite (State.updTray_frame ..) .refl
  · exact .refl

theorem testBegin_frame (t : Nat) (k : CTest) (s : State) :
    SameBut [.phases, .tph, .trays] s (testBegin t k s) := by
  dsimp only [testBegin]
  refine .step ?_ (State.updTray_frame ..)
  refine .step ?_ (State.updTp_frame ..)
  split
  · exact .mono (State.updPh_frame ..)
  · exact .refl

theorem testStartEff_frame (t : Nat) (s : State) : SameBut [.phases, .tph, .trays] s (testStartEff t s) :=
  .ite (.ite (testBegin_frame ..) (.ite (testBegin_frame ..) .refl)) .refl

theorem closingPassed_frame (t : Nat) (s : State) : SameBut [.tph, .trays] s (closingPassed t s) :=
  .step (testOver_frame ..) (State.updTray_frame ..)

theorem openingTested_frame (t : Nat) (ok : Bool) (s : State) :
    SameBut [.txn, .fm, .loop, .tph, .trays, .alloc] s (openingTested t ok s) :=
  .ite (.ite (.step (.step (.step (.step (.step (.mono (testOver_frame ..)) (drivesLow_frame ..))
    (txnElement_frame ..)) (txnElement_frame ..)) (finishTxn_frame ..)) (State.updTray_frame ..)) (.step (.step
    (.step (.step (.step (.mono (testOver_frame ..)) (drivesLow_frame ..)) (txnElement_frame ..))
    (txnElement_frame ..)) (finishTxn_frame ..)) (trayFault_frame ..))) (.step (.step (.step (.step (.step (.mono
    (testOver_frame ..)) (drivesLow_frame ..)) (State.raise_frame ..)) (txnElement_frame ..))
    (finishTxn_frame ..)) (trayFault_frame ..))

theorem testEndEff_frame (t : Nat) (s : State) :
    SameBut [.txn, .fm, .loop, .tph, .trays, .alloc] s (testEndEff t s) := by
  dsimp only [testEndEff]
  refine .ite ?_ ?_
  · split
    · exact .ite (.mono (closingPassed_frame ..)) (.step (.mono (State.raise_frame ..)) (trayOpenFault_frame ..))
    · exact openingTested_frame ..
    · exact .refl
  · exact .refl

theorem admitCompleteEff_frame (t : Nat) (s : State) : SameBut [.trays] s (admitCompleteEff t s) :=
  .ite (setTray_frame ..) .refl

theorem rampFromNow_frame (t : Nat) (st : TraySt) (s : State) : SameBut [.trays] s (rampFromNow t st s) :=
  State.updTray_frame ..

theorem drainTray_frame (t : Nat) (s : State) :
    SameBut [.txn, .fm, .loop, .tph, .trays, .alloc] s (drainTray t s) := by
  dsimp only [drainTray]
  split
  · exact .mono (trayOpenFault_frame ..)
  · exact .mono (trayOpenFault_frame ..)
  · exact .mono (rampFromNow_frame ..)
  · exact .mono (rampFromNow_frame ..)
  · exact .ite (.step (.mono (slackOver_frame ..)) (State.updTray_frame ..)) (.step (.mono (slackOver_frame ..))
      (drainOpen_frame ..))
  · exact .refl

theorem drainWith_frame (ses seq t : Nat) (s : State) :
    SameBut [.txn, .fm, .loop, .tph, .trays, .alloc, .sess] s (drainWith ses seq t s) :=
  .ite (.ite (.mono (txnLimit_frame ..)) (.mono (State.raise_frame ..))) (.step (.step (.mono (openTxn_frame ..))
    (State.updTray_frame ..)) (drainTray_frame ..))

theorem trayDrainEff_frame (ses t : Nat) (s : State) :
    SameBut [.txn, .fm, .loop, .tph, .trays, .alloc, .sess] s (trayDrainEff ses t s) :=
  .ite (drainWith_frame ..) (.mono (State.violate_frame ..))

theorem moduleDrain_frame (t : Nat) (s : State) :
    SameBut [.txn, .fm, .loop, .tph, .trays, .alloc, .sess] s (moduleDrain t s) :=
  .ite (drainWith_frame ..) .refl

theorem drainAsCommand_frame (t : Nat) (s : State) :
    SameBut [.txn, .fm, .loop, .tph, .trays, .alloc, .sess] s (drainAsCommand t s) :=
  .ite (drainWith_frame ..) .refl

theorem limitsZeroEff_frame (t : Nat) (s : State) :
    SameBut [.txn, .fm, .tph, .trays, .alloc] s (limitsZeroEff t s) :=
  .ite (.ite (.step (.step (.step (.mono (.alloc ..)) (State.updTray_frame ..)) (leavesSet_frame ..))
    (openAtZeroCheck_frame ..)) (.ite (.step (.mono (.alloc ..)) (State.updTray_frame ..)) .refl)) .refl

theorem drainTimeoutEff_frame (t : Nat) (s : State) :
    SameBut [.txn, .fm, .tph, .trays] s (drainTimeoutEff t s) := by
  dsimp only [drainTimeoutEff]
  split
  · exact .ite (.step (.mono (State.raise_frame ..)) (drainOpen_frame ..)) .refl
  · exact .refl

theorem openingTimeoutEff_frame (t : Nat) (s : State) :
    SameBut [.txn, .fm, .loop, .tph, .trays, .alloc] s (openingTimeoutEff t s) := by
  dsimp only [openingTimeoutEff]
  split
  · exact .ite (.ite (.step (.step (.step (.mono (txnElement_frame ..)) (txnElement_frame ..))
      (finishTxn_frame ..)) (State.updTray_frame ..)) (.mono (trayFault_frame ..))) .refl
  · exact .refl

theorem slackBegin_frame (t : Nat) (s : State) : SameBut [.trays, .alloc] s (slackBegin t s) :=
  .step (.step (.mono (rampFromNow_frame ..)) (State.updTray_frame ..)) (.alloc ..)

theorem slackAutoEff_frame (s : State) : SameBut [.trays, .alloc] s (slackAutoEff s) := by
  unfold slackAutoEff
  split
  · exact .ite (slackBegin_frame ..) .refl
  · exact .refl

theorem traySlackBeginEff_frame (ses t : Nat) (s : State) :
    SameBut [.trays, .alloc, .sess] s (traySlackBeginEff ses t s) :=
  .ite (.mono (slackBegin_frame ..)) (.mono (State.violate_frame ..))

theorem traySlackEndEff_frame (ses t : Nat) (s : State) :
    SameBut [.fm, .trays, .alloc, .sess] s (traySlackEndEff ses t s) :=
  .ite (.mono (slackUrgent_frame ..)) (.mono (State.violate_frame ..))

theorem slackRestEndEff_frame (s : State) : SameBut [.trays, .alloc] s (slackRestEndEff s) := by
  unfold slackRestEndEff
  split
  · split
    · exact .ite (slackReturn_frame ..) .refl
    · exact .refl
  · exact .refl

theorem urgentPeriod_frame (t0 : Nat) (s : State) : SameBut [.alloc] s (urgentPeriod t0 s) :=
  .alloc ..

theorem slackUrgentDemandEff_frame (s : State) : SameBut [.fm, .trays, .alloc] s (slackUrgentDemandEff s) := by
  unfold slackUrgentDemandEff
  split
  · exact .ite (slackUrgent_frame ..) .refl
  · exact .refl

theorem trayResetEff_frame (ses t : Nat) (s : State) : SameBut [.trays, .sess] s (trayResetEff ses t s) :=
  .ite (.mono (State.updTray_frame ..)) (.mono (State.violate_frame ..))

theorem hotPull_frame (t : Nat) (s : State) :
    SameBut [.tx, .txn, .fm, .loop, .phases, .tph, .links, .trays, .alloc, .est, .pair] s (hotPull t s) :=
  .step (.step (.step (.ite (.step (.step (.step (.step (.step (.step (.step (.mono (snubTray_frame ..))
    (testOver_frame ..)) (leavesSet_frame ..)) (State.raise_frame ..)) (interruptDrain_frame ..))
    (interruptWrites_frame ..)) (blackStartFailed_frame ..)) (drivesLow_frame ..)) (.step (.step (.step (.step
    (.step (.step (.mono (snubTray_frame ..)) (testOver_frame ..)) (leavesSet_frame ..)) (State.raise_frame ..))
    (interruptDrain_frame ..)) (interruptWrites_frame ..)) (blackStartFailed_frame ..))) (State.updTray_frame ..))
    (State.updTp_frame ..)) (.alloc ..)

theorem removedLow_frame (t : Nat) (s : State) :
    SameBut [.txn, .fm, .phases, .tph, .trays, .tows, .est] s (removedLow t s) :=
  .ite (.step (.step (.ite (.step (.step (.mono (abandonCheck_frame ..)) (State.updTp_frame ..))
    (setTray_frame ..)) (.mono (abandonCheck_frame ..))) (State.updTray_frame ..)) (State.raise_frame ..)) (.step
    (.step (.step (.ite (.step (.step (.mono (abandonCheck_frame ..)) (State.updTp_frame ..)) (setTray_frame ..))
    (.mono (abandonCheck_frame ..))) (State.updTray_frame ..)) (State.raise_frame ..)) (trayAbsent_frame ..))

theorem earlyBreakEff_frame (t : Nat) (s : State) :
    SameBut [.tx, .txn, .fm, .loop, .phases, .tph, .links, .trays, .alloc, .tows, .est, .pair] s
      (earlyBreakEff t s) := by
  dsimp only [earlyBreakEff]
  refine .ite ?_ ?_
  · exact .refl
  · refine .ite ?_ ?_
    · exact .step (.mono (State.updTray_frame ..)) (abandonCheck_frame ..)
    · split
      · exact .ite (.step (.mono (State.updTray_frame ..)) (unwarned_frame ..)) (.ite (.step (.mono
          (State.updTray_frame ..)) (hotPull_frame ..)) (.step (.mono (State.updTray_frame ..))
          (removedLow_frame ..)))
      · exact .ite (.step (.mono (State.updTray_frame ..)) (hotPull_frame ..)) (.step (.mono
          (State.updTray_frame ..)) (removedLow_frame ..))

theorem pinSettle_frame (t : Nat) (s : State) : SameBut [.trays] s (pinSettle t s) :=
  .ite (State.updTray_frame ..) .refl

theorem earlyMadeEff_frame (t : Nat) (s : State) : SameBut [.trays, .tows] s (earlyMadeEff t s) :=
  .ite (.mono (pinSettle_frame ..)) (.ite (.mono (State.updTray_frame ..)) (.step (.mono (State.updTray_frame ..))
    (ringRestart_frame ..)))

theorem seatedLossEff_frame (t : Nat) (s : State) :
    SameBut [.txn, .fm, .loop, .tph, .trays, .alloc] s (seatedLossEff t s) := by
  dsimp only [seatedLossEff]
  split
  · exact .ite (.step (.step (.step (.step (.mono (blackStartFailed_frame ..)) (interruptDrain_frame ..))
      (trayFault_frame ..)) (State.raise_frame ..)) (State.updTray_frame ..)) .refl
  · exact .refl

theorem trayPeriod_frame (t0 t : Nat) (s : State) :
    SameBut [.txn, .tph, .trays, .tows, .est] s (trayPeriod t0 t s) :=
  .ite (trayAbsent_frame ..) (.step (.step (.mono (pinSettle_frame ..)) (startDrives_frame ..))
    (prechargePeriod_frame ..))

/-! ### The estimator (06) -/

theorem chargePeriod_frame (t0 t : Nat) (s : State) : SameBut [.est] s (chargePeriod t0 t s) :=
  State.updEst_frame ..

theorem applyWrites_frame (t : Nat) (s : State) : SameBut [.txn, .est] s (applyWrites t s) :=
  .trans (.trans (.mono (State.updEst_frame ..)) (.foldl fun _ _ => (.ite (.step (.mono (State.updEst_frame ..))
    (txnElement_frame ..)) .refl))) (.foldl fun _ _ => (.mono (finishTxn_frame ..)))

theorem estFull_frame (t : Nat) (s : State) : SameBut [.txn, .fm, .est, .cal] s (estFull t s) :=
  .trans (.trans (.trans (.trans (.trans (.step (.step (.mono (bleedAccount_frame ..)) (applyWrites_frame ..))
    (State.updEst_frame ..)) (.when_ (fun _ => (.mono (State.raiseWith_frame ..))))) (.when_ (fun _ => (.mono
    (State.raise_frame ..))))) (.when_ (fun _ => (.mono (State.raise_frame ..))))) (.when_ (fun _ => (.mono
    (calLinkVoltage_frame ..))))) (.when_ (fun _ => (.mono (State.raise_frame ..))))

theorem estimatorUpdateEff_frame (t : Nat) (s : State) :
    SameBut [.txn, .fm, .tows, .est, .cal] s (estimatorUpdateEff t s) :=
  .ite .refl (.ite (.mono (State.updTow_frame ..)) (.ite (.step (.step (.mono (State.updTow_frame ..))
    (State.updEst_frame ..)) (State.updEst_frame ..)) (.step (.step (.step (.mono (State.updTow_frame ..))
    (State.updEst_frame ..)) (State.updEst_frame ..)) (estFull_frame ..))))

theorem noRestEff_frame (t : Nat) (s : State) : SameBut [.fm, .est] s (noRestEff t s) :=
  .ite (.step (.mono (State.updEst_frame ..)) (State.raise_frame ..)) .refl

theorem stepQualifiedEff_frame (t ta tb : Nat) (s : State) : SameBut [.est] s (stepQualifiedEff t ta tb s) := by
  unfold stepQualifiedEff
  split
  · exact State.updEst_frame ..
  · exact .refl

theorem impedanceFitEff_frame (t : Nat) (s : State) : SameBut [.txn, .est] s (impedanceFitEff t s) := by
  dsimp only [impedanceFitEff]
  split
  · exact .refl
  · refine .ite ?_ ?_
    · exact .mono (State.updEst_frame ..)
    · split
      · exact .step (.mono (State.updEst_frame ..)) (applyWrites_frame ..)
      · refine .ite ?_ ?_
        · exact .step (.step (.mono (State.updEst_frame ..)) (applyWrites_frame ..)) (State.updEst_frame ..)
        · refine .trans ?_ (.foldl fun _ _ => ?_)
          · exact .step (.step (.mono (State.updEst_frame ..)) (applyWrites_frame ..)) (State.updEst_frame ..)
          · split
            · split
              · exact .mono (State.updEst_frame ..)
              · exact .mono (State.updEst_frame ..)
            · exact .refl

theorem impSaveAll_frame (s : State) : SameBut [.est] s (impSaveAll s) :=
  .est ..

theorem impedanceTableSaveEff_frame (ok : Bool) (s : State) : SameBut [.fm, .est] s (impedanceTableSaveEff ok s) :=
  .ite (.mono (impSaveAll_frame ..)) (.mono (State.raise_frame ..))

theorem estSave_frame (t : Nat) (s : State) : SameBut [.est] s (estSave t s) :=
  State.updEst_frame ..

theorem stateSaveEff_frame (ok : Bool) (s : State) : SameBut [.fm, .est] s (stateSaveEff ok s) :=
  .ite (.forTrays (fun _ _ => (.mono (estSave_frame ..)))) (.mono (State.raise_frame ..))

theorem stateSaveNowEff_frame (t : Nat) (ok : Bool) (s : State) : SameBut [.fm, .est] s (stateSaveNowEff t ok s) :=
  .ite (.mono (estSave_frame ..)) (.mono (State.raise_frame ..))

theorem impedanceSaveNowEff_frame (t : Nat) (ok : Bool) (s : State) :
    SameBut [.fm, .est] s (impedanceSaveNowEff t ok s) :=
  .ite (.mono (impSaveAll_frame ..)) (.mono (State.raise_frame ..))

theorem resetSeeds_frame (t : Nat) (s : State) : SameBut [.est] s (resetSeeds t s) :=
  State.updEst_frame ..

theorem newTray_frame (t : Nat) (s : State) : SameBut [.od, .fm, .est, .cal] s (newTray t s) :=
  .step (.step (.step (.mono (resetSeeds_frame ..)) (State.updEst_frame ..)) (State.raise_frame ..))
    (calUnverify_frame ..)

theorem impedanceBlockEff_frame (ses seq t offset : Nat) (data : Bytes) (s : State) :
    SameBut [.txn, .fm, .est, .sess] s (impedanceBlockEff ses seq t offset data s) :=
  .ite (.mono (State.violate_frame ..)) (.ite (.mono (txnLimit_frame ..)) (.ite (.step (.step (.mono
    (openTxn_frame ..)) (State.updEst_frame ..)) (interruptWrites_frame ..)) (.step (.mono (openTxn_frame ..))
    (State.updEst_frame ..))))

theorem estStart_frame (t : Nat) (s : State) : SameBut [.est] s (estStart t s) := by
  dsimp only [estStart]
  split
  · exact State.updEst_frame ..
  · exact State.updEst_frame ..

theorem estLocked_frame (t : Nat) (s : State) : SameBut [.est] s (estLocked t s) :=
  State.updEst_frame ..

/-! ### The feed interface (09) -/

theorem feedsAbsentCheck_frame (s : State) : SameBut [.fm, .feed] s (feedsAbsentCheck s) :=
  .ite (.step (.mono (.feed ..)) (State.raise_frame ..)) (.mono (.feed ..))

theorem groupGo_frame (g : Nat) (st : GroupSt) (s : State) : SameBut [.tx, .fm, .feed] s (groupGo g st s) := by
  dsimp only [groupGo]
  refine .step ?_ (feedsAbsentCheck_frame ..)
  split
  · exact .step (.step (.mono (State.updGroup_frame ..)) (State.raise_frame ..)) (zeroGroup_frame ..)
  · exact .step (.mono (State.updGroup_frame ..)) (State.raise_frame ..)
  · exact .step (.mono (State.updGroup_frame ..)) (State.raise_frame ..)
  · exact .mono (State.updGroup_frame ..)

theorem groupEval.leavesFeed_frame (s : State) : SameBut [.fm, .trays, .alloc] s (groupEval.leavesFeed s) :=
  slackUrgent_frame ..

theorem groupEval_frame (g : Nat) (s : State) : SameBut [.tx, .fm, .trays, .alloc, .feed] s (groupEval g s) := by
  dsimp only [groupEval]
  refine .ite ?_ ?_
  · exact .refl
  · split
    · exact .ite (.step (.mono (groupGo_frame ..)) (groupEval.leavesFeed_frame ..)) .refl
    · exact .ite (.step (.mono (groupGo_frame ..)) (groupEval.leavesFeed_frame ..)) .refl
    · exact .ite (.mono (groupGo_frame ..)) .refl
    · exact .ite (.mono (State.updGroup_frame ..)) (.ite (.mono (State.updGroup_frame ..)) .refl)
    · exact .refl

theorem groupEnables_frame (s : State) : SameBut [.tx, .fm, .trays, .alloc, .feed] s (groupEnables s) :=
  .step (.foldl fun _ _ => (.ite (.ite (.step (.mono (groupGo_frame ..)) (slackUrgent_frame ..)) (.mono
    (groupGo_frame ..))) (.ite (.step (.mono (groupGo_frame ..)) (groupEval_frame ..)) .refl)))
    (feedsAbsentCheck_frame ..)

theorem pRefStep_frame (s : State) : SameBut [.fm, .feed] s (pRefStep s) := by
  dsimp only [pRefStep]
  split
  · exact .ite (.step (.mono (.feed ..)) (State.raise_frame ..)) (.mono (.feed ..))
  · exact .ite (.step (.mono (.feed ..)) (State.raise_frame ..)) (.mono (.feed ..))
  · exact .ite (.step (.mono (.feed ..)) (State.raise_frame ..)) (.mono (.feed ..))
  · exact .mono (.feed ..)

theorem feedRefreshEff_frame (s : State) : SameBut [.tx, .fm, .feed] s (feedRefreshEff s) :=
  .ite .refl (.step (.step (.trans (.step (.trans (.step (.foldl fun _ _ => (.ite (.mono
    (State.updGroup_frame ..)) .refl)) (pRefStep_frame ..)) (.foldl fun _ _ => (.mono (State.updRect_frame ..))))
    (.feed ..)) (.foldl fun _ _ => (.mono (State.updGroup_frame ..)))) (sendCommand_frame ..))
    (sendCommand_frame ..))

theorem feedPeriod_frame (t0 : Nat) (s : State) : SameBut [.feed] s (feedPeriod t0 s) :=
  .feed ..

theorem rectAlertEff_frame (port node : Nat) (data : Bytes) (s : State) :
    SameBut [.tx, .fm, .trays, .alloc, .feed] s (rectAlertEff port node data s) := by
  dsimp only [rectAlertEff]
  refine .ite ?_ ?_
  · exact .refl
  · split
    · exact .step (.mono (State.updRect_frame ..)) (groupEval_frame ..)
    · exact .step (.mono (State.updRect_frame ..)) (groupEval_frame ..)
    · exact .mono (State.raise_frame ..)
    · exact .step (.mono (State.updRect_frame ..)) (groupEval_frame ..)
    · exact .refl

theorem portGood_frame (g : Nat) (s : State) : SameBut [.tx, .fm, .feed] s (portGood g s) :=
  .ite .refl (.ite (.mono (State.updGroup_frame ..)) (.ite (.step (.mono (State.updGroup_frame ..))
    (groupGo_frame ..)) (.mono (State.updGroup_frame ..))))

theorem rectStatusEff_frame (port node : Nat) (data : Bytes) (s : State) :
    SameBut [.tx, .fm, .trays, .alloc, .feed] s (rectStatusEff port node data s) :=
  .ite .refl (.step (.step (.trans (.ite (.mono (State.updRect_frame ..)) (.step (.mono (State.updRect_frame ..))
    (readMode_frame ..))) (.when_ (fun _ => (.mono (State.raise_frame ..))))) (portGood_frame ..))
    (groupEval_frame ..))

theorem rectConfigEff_frame (port node : Nat) (data : Bytes) (s : State) :
    SameBut [.tx, .fm, .trays, .alloc, .feed] s (rectConfigEff port node data s) :=
  .ite .refl (.ite (.step (.mono (State.updRect_frame ..)) (groupEval_frame ..)) (.step (.step (.mono
    (State.updRect_frame ..)) (groupEval_frame ..)) (State.raise_frame ..)))

theorem rectSilentEff_frame (r : Nat) (s : State) :
    SameBut [.tx, .fm, .trays, .alloc, .feed] s (rectSilentEff r s) :=
  .ite (.step (.step (.mono (State.updRect_frame ..)) (groupEval_frame ..)) (State.raise_frame ..)) .refl

theorem dipHoldEff_frame (g : Nat) (s : State) : SameBut [.tx, .fm, .trays, .alloc, .feed] s (dipHoldEff g s) :=
  .ite (.step (.mono (groupGo_frame ..)) (groupEval_frame ..)) .refl

theorem returnDelayEff_frame (g : Nat) (s : State) : SameBut [.tx, .fm, .feed] s (returnDelayEff g s) := by
  unfold returnDelayEff
  split
  · exact .ite (groupGo_frame ..) .refl
  · exact .refl

theorem returnCompleteEff_frame (g : Nat) (s : State) : SameBut [.tx, .fm, .feed] s (returnCompleteEff g s) :=
  .ite (.step (.mono (State.updGroup_frame ..)) (groupGo_frame ..)) .refl

theorem canErrorEff_frame (port : Nat) (s : State) : SameBut [.fm, .feed] s (canErrorEff port s) :=
  .ite (.mono (State.updGroup_frame ..)) (.step (.mono (State.updGroup_frame ..)) (State.raise_frame ..))

theorem auxEff_frame (a b : Nat) (s : State) : SameBut [.hw, .feed] s (auxEff a b s) :=
  .hw_feed ..

theorem auxWarn_frame (s : State) : SameBut [.fm] s (auxWarn s) :=
  .foldl fun _ _ => (.ite (State.raise_frame ..) .refl)

theorem feedClearEff_frame (s : State) : SameBut [.feed] s (feedClearEff s) :=
  .feed ..

theorem rereadEff_frame (s : State) : SameBut [.tx] s (rereadEff s) :=
  .foldl fun _ _ => (readMode_frame ..)

end Sys2Proof.Machine
end


section
/-! SUPPORT. Proof: the grid, the gates, the forecaster and the governor touch only their own parts of the state (07, 08, 10 to 12). -/

namespace Sys2Proof.Machine

set_option Elab.async false

/-! ### The mesh (10) -/

theorem State.setPair_frame (s : State) (p : PairSeq) : SameBut [.grid] s (State.setPair s p) :=
  .grid ..

theorem countSent_frame (s : State) : SameBut [.grid] s (countSent s) :=
  .grid ..

theorem sendBarge_frame (src dst kind slot channel tag : Nat) (payload : Bytes) (s : State) :
    SameBut [.tx, .grid] s (sendBarge src dst kind slot channel tag payload s) :=
  .ite (.step (.step (.step (.mono (State.setPair_frame ..)) (.grid ..)) (State.send_frame ..))
    (countSent_frame ..)) (.step (.mono (State.setPair_frame ..)) (.grid ..))

theorem sendRaw_frame (src dst slot channel tag : Nat) :
    ∀ (n : Nat) (b : Bytes) (s : State), SameBut [.tx, .grid] s (sendRaw src dst slot channel tag n b s)
  | 0, _, _ => .refl
  | n + 1, _, _ => .ite (sendBarge_frame ..) (.trans (sendBarge_frame ..) (sendRaw_frame _ _ _ _ _ n _ _))

theorem sendBlock_frame (src dst kind slot channel tag : Nat) (data : Bytes) (s : State) :
    SameBut [.tx, .grid] s (sendBlock src dst kind slot channel tag data s) :=
  .ite (.mono (sendRaw_frame ..)) (sendBarge_frame ..)

theorem ackBarge_frame (kind : Nat) (x : Barge) (s : State) : SameBut [.tx, .grid] s (ackBarge kind x s) :=
  .step (.mono (State.send_frame ..)) (countSent_frame ..)

theorem releaseStall_frame (src : Nat) (s : State) : SameBut [.tx, .grid] s (releaseStall src s) := by
  dsimp only [releaseStall]
  split
  · exact .ite (.step (.step (.mono (.grid ..)) (State.send_frame ..)) (countSent_frame ..)) .refl
  · exact .refl

theorem ackArrived_frame (x : Barge) (s : State) : SameBut [.tx, .grid] s (ackArrived x s) :=
  .step (.mono (.grid ..)) (releaseStall_frame ..)

theorem countRetry_frame (s : State) : SameBut [.fm, .grid] s (countRetry s) :=
  .trans (.mono (.grid ..)) (.when_ (fun _ => (.mono (State.raise_frame ..))))

theorem resend_frame (u : Unacked) (s : State) : SameBut [.tx, .fm, .grid] s (resend u s) :=
  .step (.step (.mono (.grid ..)) (State.send_frame ..)) (countRetry_frame ..)

theorem sequence_frame (b : Bytes) (x : Barge) (s : State) : SameBut [.grid] s (sequence b x s).2 := by
  dsimp only [sequence]
  split
  · exact .refl
  · exact State.setPair_frame ..

/-! ### The gate array (11) -/

theorem State.setGate_frame (s : State) (g : Nat) (x : Gate) : SameBut [.gates] s (State.setGate s g x) :=
  .gates ..

theorem refuseOp_frame (who : Party) (s : State) : SameBut [.fm, .gates, .sess] s (refuseOp who s) := by
  dsimp only [refuseOp]
  split
  · exact .step (.trans (.mono (.gates ..)) (.when_ (fun _ => (.mono (State.raise_frame ..)))))
      (State.violate_frame ..)
  · exact .trans (.mono (.gates ..)) (.when_ (fun _ => (.mono (State.raise_frame ..))))

theorem releaseWait_frame (w : GateWait) (status : ℤ) (s : State) :
    SameBut [.tx, .gates, .grid] s (releaseWait w status s) :=
  .ite (.step (.step (.mono (.gates ..)) (.gates ..)) (State.send_frame ..)) (.step (.mono (.gates ..))
    (sendBarge_frame ..))

theorem settleGate_frame (g : Nat) (s : State) : SameBut [.tx, .gates, .grid] s (settleGate g s) :=
  .foldl fun _ _ => (.ite (.step (.ite (.mono (State.setGate_frame ..)) .refl) (releaseWait_frame ..)) .refl)

theorem freeWaits_frame (g : Nat) (s : State) : SameBut [.tx, .gates, .grid] s (freeWaits g s) :=
  .foldl fun _ _ => (releaseWait_frame ..)

theorem dropWaits_frame (p : GateWait → Bool) (s : State) : SameBut [.gates] s (dropWaits p s) :=
  .gates ..

theorem gateSignalEff_frame (who : Party) (g n : Nat) (s : State) :
    SameBut [.tx, .fm, .gates, .grid, .sess] s (gateSignalEff who g n s) := by
  dsimp only [gateSignalEff]
  refine .ite ?_ ?_
  · exact .mono (refuseOp_frame ..)
  · split
    · exact .mono (refuseOp_frame ..)
    · exact .step (.trans (.step (.mono (State.setGate_frame ..)) (.gates ..)) (.when_ (fun _ => (.mono
        (State.raise_frame ..))))) (settleGate_frame ..)

theorem gateWaitEff_frame (who : Party) (g v slot channel tag : Nat) (s : State) :
    SameBut [.tx, .fm, .gates, .grid, .sess] s (gateWaitEff who g v slot channel tag s) := by
  dsimp only [gateWaitEff]
  split
  · exact .mono (refuseOp_frame ..)
  · split
    · exact .mono (refuseOp_frame ..)
    · exact .ite (.step (.mono (.gates ..)) (settleGate_frame ..)) (.mono (refuseOp_frame ..))

theorem gateArmEff_frame (who : Party) (g target : Nat) (s : State) :
    SameBut [.tx, .fm, .gates, .grid, .sess] s (gateArmEff who g target s) :=
  .ite (.step (.mono (State.setGate_frame ..)) (settleGate_frame ..)) (.mono (refuseOp_frame ..))

theorem gateAdjustEff_frame (who : Party) (g : Nat) (delta : ℤ) (s : State) :
    SameBut [.freeCount, .tx, .fm, .gates, .grid, .sess] s (gateAdjustEff who g delta s) :=
  .ite (.ite (.step (.mono (State.setGate_frame ..)) (settleGate_frame ..)) (.step (.step (.mono (.freeCount ..))
    (State.setGate_frame ..)) (settleGate_frame ..))) (.mono (refuseOp_frame ..))

theorem gateClearEff_frame (who : Party) (g : Nat) (s : State) :
    SameBut [.tx, .fm, .gates, .grid, .sess] s (gateClearEff who g s) :=
  .ite (.step (.mono (State.setGate_frame ..)) (settleGate_frame ..)) (.mono (refuseOp_frame ..))

theorem gateCancelEff_frame (who : Party) (g : Nat) (s : State) :
    SameBut [.tx, .fm, .gates, .grid, .sess] s (gateCancelEff who g s) :=
  .ite (.mono (refuseOp_frame ..)) (.foldl fun _ _ => (.mono (releaseWait_frame ..)))

theorem gateRouteEff_frame (who : Party) (g src : Nat) (s : State) :
    SameBut [.fm, .gates, .sess] s (gateRouteEff who g src s) :=
  .ite (.mono (State.setGate_frame ..)) (refuseOp_frame ..)

theorem allocGates_frame (n mode kind owner : Nat) (s : State) :
    SameBut [.fm, .gates] s (allocGates n mode kind owner s).2 := by
  unfold allocGates
  split
  · exact .mono (.gates ..)
  · exact .mono (State.raise_frame ..)

theorem freeBlock_frame (b : GateBlock) (s : State) : SameBut [.tx, .gates, .grid] s (freeBlock b s) :=
  .step (.foldl fun _ _ => (freeWaits_frame ..)) (.gates ..)

theorem freeOwner_frame (kind owner : Nat) (s : State) : SameBut [.tx, .gates, .grid] s (freeOwner kind owner s) :=
  .foldl fun _ _ => (freeBlock_frame ..)

theorem gateAllocateEff_frame (ses v : Nat) (s : State) :
    SameBut [.fm, .gates, .sess] s (gateAllocateEff ses v s) :=
  .ite (.mono (State.violate_frame ..)) (.step (.mono (allocGates_frame ..)) (.gates ..))

theorem gateFreeEff_frame (ses base : Nat) (s : State) :
    SameBut [.tx, .gates, .grid, .sess] s (gateFreeEff ses base s) := by
  unfold gateFreeEff
  split
  · exact .mono (freeBlock_frame ..)
  · exact .mono (State.violate_frame ..)

theorem gateUncorrectableEff_frame (g : Nat) (s : State) :
    SameBut [.tx, .fm, .gates, .grid, .port] s (gateUncorrectableEff g s) :=
  .step (.ite (.step (.step (.mono (freeWaits_frame ..)) (State.setGate_frame ..)) (.port ..)) (.step (.mono
    (freeWaits_frame ..)) (.gates ..))) (State.raise_frame ..)

theorem gatesClearEff_frame (s : State) : SameBut [.gates] s (gatesClearEff s) :=
  .gates ..

/-! ### The forecaster and SCHEDULE (07) -/

theorem stepSample_frame (t0 : Nat) (i : Rat) (s : State) : SameBut [.tide] s (stepSample t0 i s) :=
  .tide ..

theorem tidePeriod_frame (t0 : Nat) (s : State) : SameBut [.feed, .tide] s (tidePeriod t0 s) :=
  .ite (.step (.step (.step (.mono (.tide ..)) (stepSample_frame ..)) (.feed ..)) (.tide ..)) (.step (.mono
    (.tide ..)) (.tide ..))

theorem deliver_frame (cut : Nat) (x : Rat) (s : State) : SameBut [.loop, .tide] s (deliver cut x s) :=
  .loop_tide ..

theorem tideFault_frame (s : State) : SameBut [.fm, .tide] s (tideFault s) :=
  .step (.mono (.tide ..)) (State.raise_frame ..)

theorem tideSlotLost_frame (n : Nat) (s : State) : SameBut [.fm, .tide] s (tideSlotLost n s) :=
  .ite (.step (.ite (tideFault_frame ..) .refl) (.tide ..)) (.ite (tideFault_frame ..) .refl)

theorem gateUpdateEff_frame (s : State) : SameBut [.fm, .tide] s (gateUpdateEff s) := by
  dsimp only [gateUpdateEff]
  refine .ite ?_ ?_
  · exact .refl
  · split
    · exact .mono (.tide ..)
    · exact .ite (.trans (.mono (.tide ..)) (.when_ (fun _ => (.mono (State.raise_frame ..))))) (.mono (.tide ..))

theorem schedReject_frame (s : State) : SameBut [.tide] s (schedReject s) :=
  .tide ..

theorem schedEnter_frame (e : SchedEntry) (s : State) : SameBut [.tide] s (schedEnter e s) :=
  .tide ..

theorem schedCancel_frame (src part flight : Nat) (s : State) :
    SameBut [.tide] s (schedCancel src part flight s) := by
  dsimp only [schedCancel]
  split
  · exact .tide ..
  · exact schedReject_frame ..

theorem schedOne_frame (arr src : Nat) (d : Bytes) (s : State) : SameBut [.fm, .tide] s (schedOne arr src d s) :=
  .ite (.step (.mono (schedReject_frame ..)) (State.raise_frame ..)) (.ite (.mono (schedReject_frame ..)) (.ite
    (.mono (schedReject_frame ..)) (.ite (.mono (schedCancel_frame ..)) (.mono (schedEnter_frame ..)))))

theorem schedAll_frame (arr src n : Nat) (payload : Bytes) (s : State) :
    SameBut [.fm, .tide] s (schedAll arr src n payload s) :=
  .foldl fun _ _ => (schedOne_frame ..)

theorem schedInternal_frame (at_ : Nat) (watts : ℤ) (s : State) :
    SameBut [.fm, .tide] s (schedInternal at_ watts s) :=
  .ite (.step (.mono (schedReject_frame ..)) (State.raise_frame ..)) (.ite (.mono (schedReject_frame ..)) (.mono
    (schedEnter_frame ..)))

theorem historyStep_frame (src : Nat) (missed : Bool) (s : State) :
    SameBut [.fm, .tide] s (historyStep src missed s) :=
  .ite (.step (.step (.mono (.tide ..)) (.tide ..)) (State.raise_frame ..)) (.mono (.tide ..))

theorem groupCloseEff_frame (g : Nat) (s : State) : SameBut [.fm, .tide] s (groupCloseEff g s) := by
  dsimp only [groupCloseEff]
  split
  · exact .refl
  · exact .ite .refl (.trans (.trans (.mono (.tide ..)) (.when_ (fun _ => (.mono (State.raise_frame ..)))))
      (.foldl fun _ _ => (historyStep_frame ..)))

theorem suspensionEndEff_frame (src : Nat) (s : State) : SameBut [.tide] s (suspensionEndEff src s) := by
  dsimp only [suspensionEndEff]
  split
  · exact .ite (.tide ..) .refl
  · exact .refl

theorem hintLimitEff_frame (s : State) : SameBut [.fm, .tide] s (hintLimitEff s) :=
  .ite (.step (.mono (.tide ..)) (State.raise_frame ..)) .refl

theorem tideWarm_frame (s : State) : SameBut [.tide] s (tideWarm s) :=
  .tide ..

theorem forecasterStartEff_frame (ses : Nat) (s : State) : SameBut [.tide, .sess] s (forecasterStartEff ses s) := by
  unfold forecasterStartEff
  split
  · exact .ite (.mono (tideWarm_frame ..)) (.mono (State.violate_frame ..))
  · exact .mono (tideWarm_frame ..)
  · exact .mono (State.violate_frame ..)

theorem forecasterStopEff_frame (ses : Nat) (s : State) : SameBut [.tide, .sess] s (forecasterStopEff ses s) :=
  .ite (.mono (State.violate_frame ..)) (.mono (.tide ..))

theorem modelSwitchEff_frame (ses : Nat) (s : State) : SameBut [.tide, .sess] s (modelSwitchEff ses s) :=
  .ite (.mono (State.violate_frame ..)) (.mono (.tide ..))

theorem modelForceEff_frame (s : State) : SameBut [.tide] s (modelForceEff s) := by
  dsimp only [modelForceEff]
  split
  · exact .ite (.tide ..) .refl
  · exact .refl

theorem forecasterClearEff_frame (s : State) : SameBut [.tide] s (forecasterClearEff s) :=
  .tide ..

theorem warmingCompleteEff_frame (s : State) : SameBut [.tide] s (warmingCompleteEff s) :=
  .ite (.tide ..) .refl

/-! ### The rack governor (08) -/

theorem State.updChip_frame (s : State) (c : Nat) (f : Chip → Chip) : SameBut [.gov] s (State.updChip s c f) :=
  .gov ..

theorem State.updPart_frame (s : State) (k : Nat) (f : Partition → Partition) :
    SameBut [.gov] s (State.updPart s k f) :=
  .gov ..

theorem bandCheck_frame (c : Nat) (s : State) : SameBut [.fm, .gov] s (bandCheck c s) :=
  .ite (.step (.mono (State.updChip_frame ..)) (State.raise_frame ..)) (.mono (State.updChip_frame ..))

theorem State.updFlight_frame (s : State) (k n : Nat) (f : Flight → Flight) :
    SameBut [.gov] s (State.updFlight s k n f) :=
  State.updPart_frame ..

theorem armFlight_frame (k n : Nat) (s : State) :
    SameBut [.tx, .fm, .gov, .gates, .grid, .sess] s (armFlight k n s) :=
  .ite (.step (.mono (State.updFlight_frame ..)) (gateClearEff_frame ..)) (.step (.mono
    (State.updFlight_frame ..)) (gateArmEff_frame ..))

theorem leaveFlights_frame (k c : Nat) (s : State) :
    SameBut [.freeCount, .tx, .fm, .gov, .gates, .grid, .sess] s (leaveFlights k c s) :=
  .ite .refl (.foldl fun _ _ => (.ite (.step (.mono (State.updFlight_frame ..)) (gateAdjustEff_frame ..)) .refl))

theorem slackUpdate_frame (arr : List (Nat × Nat)) (s : State) : SameBut [.gov] s (slackUpdate arr s) :=
  .foldl fun _ _ => (State.updChip_frame ..)

theorem closeFlight_frame (k n : Nat) (byTime : Bool) (s : State) :
    SameBut [.tx, .fm, .gov, .gates, .grid, .sess] s (closeFlight k n byTime s) :=
  .step (.step (.mono (slackUpdate_frame ..)) (State.updPart_frame ..)) (armFlight_frame ..)

theorem flightCloseEff_frame (k : Nat) (s : State) :
    SameBut [.tx, .fm, .gov, .gates, .grid, .sess] s (flightCloseEff k s) := by
  unfold flightCloseEff
  split
  · exact closeFlight_frame ..
  · exact .refl

theorem flightTimeoutEff_frame (k : Nat) (s : State) :
    SameBut [.tx, .fm, .gov, .gates, .grid, .sess] s (flightTimeoutEff k s) := by
  unfold flightTimeoutEff
  split
  · exact .step (closeFlight_frame ..) (State.raise_frame ..)
  · exact .refl

theorem countEnergy_frame (c e : Nat) (s : State) : SameBut [.gov] s (countEnergy c e s) :=
  .ite (.step (.step (State.updChip_frame ..) (.gov ..)) (State.updPart_frame ..)) (.step (State.updChip_frame ..)
    (.gov ..))

theorem strayReport_frame (s : State) : SameBut [.gov] s (strayReport s) :=
  .gov ..

theorem flightArrival_frame (c n at_ : Nat) (s : State) :
    SameBut [.tx, .fm, .gov, .gates, .grid, .sess] s (flightArrival c n at_ s) :=
  .ite (.ite (.step (.mono (State.updFlight_frame ..)) (gateSignalEff_frame ..)) (.mono
    (State.updFlight_frame ..))) (.mono (strayReport_frame ..))

theorem acceptReport_frame (f : Bytes) (at_ : Nat) (s : State) :
    SameBut [.freeCount, .tx, .fm, .gov, .gates, .grid, .sess] s (acceptReport f at_ s) := by
  dsimp only [acceptReport]
  split
  · exact .step (.step (.step (.mono (.gov ..)) (countEnergy_frame ..)) (State.updChip_frame ..))
      (flightArrival_frame ..)
  · exact .step (.step (.step (.step (.mono (.gov ..)) (countEnergy_frame ..)) (State.updChip_frame ..))
      (leaveFlights_frame ..)) (State.updChip_frame ..)
  · exact .step (.step (.mono (.gov ..)) (countEnergy_frame ..)) (State.updChip_frame ..)

theorem reportEff_frame (f : Bytes) (s : State) :
    SameBut [.freeCount, .tx, .fm, .gov, .gates, .grid, .port, .sess] s (reportEff f s) := by
  dsimp only [reportEff]
  refine .ite ?_ ?_
  · exact .refl
  · split
    · exact .ite (.mono (State.violateOp_frame ..)) (.ite (.mono (acceptReport_frame ..)) (.mono
        (strayReport_frame ..)))
    · exact .ite .refl (.ite (.step (.mono (.port ..)) (acceptReport_frame ..)) (.step (.mono (.port ..))
        (strayReport_frame ..)))

theorem chipSilentEff_frame (c : Nat) (s : State) : SameBut [.fm, .gov] s (chipSilentEff c s) :=
  .ite (.step (.mono (State.updChip_frame ..)) (State.raise_frame ..)) .refl

theorem judgeTable_frame (c : Nat) (s : State) : SameBut [.fm, .gov] s (judgeTable c s) :=
  .ite (.ite (.mono (State.updChip_frame ..)) (.step (.mono (State.updChip_frame ..)) (State.raise_frame ..))) .refl

theorem opEntry_frame (e : Nat) (d : Bytes) (s : State) : SameBut [.gov] s (opEntry e d s) := .gov s _

theorem opTableEff_frame (ses seq offset : Nat) (data : Bytes) (s : State) :
    SameBut [.txn, .fm, .gov, .sess] s (opTableEff ses seq offset data s) :=
  .ite (.mono (State.violate_frame ..)) (.ite (.mono (txnLimit_frame ..)) (.step (.trans (.step (.trans (.trans
    (.mono (openTxn_frame ..)) (.foldl fun _ _ => (.ite (.step (.mono (opEntry_frame ..))
    (txnElement_frame ..)) .refl))) (.when_ (fun _ => (.mono (State.violate_frame ..))))) (.gov ..))
    (.foldl fun _ _ => (.mono (judgeTable_frame ..)))) (finishTxn_frame ..)))

theorem kappaStep_frame (k : Nat) (s : State) : SameBut [.gov] s (kappaStep k s) :=
  .ite .refl (State.updPart_frame ..)

theorem raisePass_frame (cls : Nat) (cool : List Rat) (s : State) (used : Rat) :
    SameBut [.gov] s (raisePass cls cool s used).1 := by
  unfold raisePass
  refine .foldl_fst (fun acc k => ?_) .refl
  dsimp only
  rw [apply_ite Prod.fst]
  exact .ite (State.updPart_frame ..) .refl

theorem raiseAll_frame (cls : Nat) (cool : List Rat) (n : Nat) (s : State) (used : Rat) :
    SameBut [.gov] s (raiseAll cls cool n s used).1 := by
  induction n generalizing s used with
  | zero => exact .refl
  | succ n ih =>
    have hpass := raisePass_frame cls cool s used
    dsimp only [raiseAll]
    generalize raisePass cls cool s used = r at hpass ⊢
    split
    · exact hpass.trans (ih ..)
    · exact hpass

theorem closePoints_frame (k : Nat) (s : State) : SameBut [.fm, .gov] s (closePoints k s) :=
  .ite (.step (.mono (State.updPart_frame ..)) (State.raise_frame ..)) (.mono (State.updPart_frame ..))

theorem startPoints_frame (s : State) : SameBut [.gov] s (startPoints s) :=
  .gov ..

theorem publishGrants_frame (l : List Grant) (s : State) : SameBut [.gov] s (publishGrants l s) :=
  .gov ..

theorem floorGrants_frame (e : Nat) (moved : List Nat) (s : State) :
    SameBut [.fm, .gov] s (floorGrants e moved s) :=
  .step (.trans (.mono (startPoints_frame ..)) (.foldl fun _ _ => (closePoints_frame ..))) (publishGrants_frame ..)

theorem computedGrants_frame (e : Nat) (moved : List Nat) (s : State) :
    SameBut [.fm, .gov] s (computedGrants e moved s) :=
  .step (.trans (.trans (.step (.step (.mono (startPoints_frame ..)) (raiseAll_frame ..)) (raiseAll_frame ..))
    (.foldl fun _ _ => (closePoints_frame ..))) (.foldl fun _ _ => (.mono (State.updPart_frame ..))))
    (publishGrants_frame ..)

theorem newBorders_frame (s : State) : SameBut [.gov] s (newBorders s) :=
  .gov ..

theorem applyBorders_frame (s : State) :
    SameBut [.freeCount, .tx, .fm, .gov, .gates, .grid, .sess] s (applyBorders s).1 :=
  .step (.trans (.trans (.step (.foldl fun _ _ => .mono (leaveFlights_frame ..)) (newBorders_frame ..))
    (.foldl fun _ _ => .ite (.step (.mono (State.updChip_frame ..)) (State.updPart_frame ..))
      (.mono (State.updChip_frame ..))))
    (.foldl fun _ _ => .ite (.mono (bandCheck_frame ..)) .refl)) (State.raise_frame ..)

theorem applyCommit_frame (s : State) :
    SameBut [.freeCount, .tx, .fm, .gov, .gates, .grid, .sess] s (applyCommit s).1 := by
  unfold applyCommit
  split
  · exact .refl
  · split
    · exact .step (.mono (.gov ..)) (State.violate_frame ..)
    · exact applyBorders_frame s

theorem govStates_frame (s : State) : SameBut [.fm, .gov] s (govStates s) :=
  .ite (.trans (.trans (.ite (.step (.mono (.gov ..)) (State.raise_frame ..)) (.mono (.gov ..)))
    (.foldl fun _ _ => (.mono (State.updChip_frame ..)))) (.foldl fun _ _ => (bandCheck_frame ..))) (.ite (.step
    (.mono (.gov ..)) (State.raise_frame ..)) (.mono (.gov ..)))

theorem govBudget_frame (s : State) : SameBut [.fm, .feed, .gov] s (govBudget s) :=
  .trans (.trans (.step (.step (.step (.mono (.feed ..)) (.gov ..)) (.gov ..)) (.gov ..)) (.when_ (fun _ => (.mono
    (State.raise_frame ..))))) (.when_ (fun _ => (.mono (State.raise_frame ..))))

theorem energyEpoch_frame (s : State) : SameBut [.gov] s (energyEpoch s) :=
  .gov ..

theorem partBudgets_frame (s : State) : SameBut [.gov] s (partBudgets s) :=
  .gov ..

theorem armIdle_frame (s : State) : SameBut [.tx, .fm, .gov, .gates, .grid, .sess] s (armIdle s) :=
  .ite .refl (.foldl fun _ _ => (.ite .refl (.foldl fun _ _ => (.ite (armFlight_frame ..) .refl))))

theorem budgetEntry_frame (old : Gov) (s : State) : SameBut [.fm, .tide] s (budgetEntry old s) :=
  .ite (schedInternal_frame ..) .refl

theorem voidEpoch_frame (s : State) : SameBut [.gov, .grid, .slots] s (voidEpoch s) :=
  .gov_grid_slots ..

theorem cutBudget_frame (s : State) :
    SameBut [.freeCount, .tx, .fm, .feed, .gov, .gates, .grid, .sess] s (cutBudget s).1 := by
  dsimp only [cutBudget]
  refine .step (.step (.trans (.step (.mono (energyEpoch_frame ..)) (applyCommit_frame _)) ?_) (govStates_frame ..))
    (govBudget_frame ..)
  exact .foldl fun _ _ => .mono (kappaStep_frame ..)

theorem epochCutEff_frame (s : State) :
    SameBut [.freeCount, .tx, .fm, .feed, .gov, .gates, .tide, .grid, .slots, .sess] s (epochCutEff s) := by
  dsimp only [epochCutEff]
  refine .ite ?_ ?_
  · exact .refl
  · refine .ite ?_ ?_
    · exact .refl
    · refine .ite ?_ ?_
      · exact .mono (voidEpoch_frame ..)
      · refine .step ?_ (budgetEntry_frame ..)
        refine .step ?_ (armIdle_frame ..)
        refine .step ?_ (partBudgets_frame ..)
        split
        · exact .step (.step (.trans (.mono (cutBudget_frame ..)) (.when_ (fun _ => (.mono
            (State.raise_frame ..))))) (.gov ..)) (floorGrants_frame ..)
        · exact .step (.step (.trans (.mono (cutBudget_frame ..)) (.when_ (fun _ => (.mono
            (State.raise_frame ..))))) (.gov ..)) (floorGrants_frame ..)
        · exact .ite (.step (.step (.trans (.mono (cutBudget_frame ..)) (.when_ (fun _ => (.mono
            (State.raise_frame ..))))) (.gov ..)) (floorGrants_frame ..)) (.step (.step (.trans (.mono
            (cutBudget_frame ..)) (.when_ (fun _ => (.mono (State.raise_frame ..))))) (.gov ..))
            (computedGrants_frame ..))

theorem governorStartEff_frame (ses : Nat) (s : State) : SameBut [.gov, .sess] s (governorStartEff ses s) :=
  .ite (.mono (.gov ..)) (.mono (State.violate_frame ..))

theorem governorStopEff_frame (ses : Nat) (s : State) : SameBut [.gov, .sess] s (governorStopEff ses s) :=
  .ite (.mono (State.violate_frame ..)) (.mono (.gov ..))

theorem commitBordersEff_frame (ses : Nat) (s : State) : SameBut [.gov, .sess] s (commitBordersEff ses s) :=
  .ite (.mono (State.violate_frame ..)) (.mono (.gov ..))

theorem routeFlight_frame (ses k i src : Nat) (s : State) :
    SameBut [.fm, .gates, .sess] s (routeFlight ses k i src s) :=
  .ite .refl (.ite (gateRouteEff_frame ..) (.ite (.step (gateRouteEff_frame ..) (gateRouteEff_frame ..)) (.ite
    (.step (.step (gateRouteEff_frame ..) (gateRouteEff_frame ..)) (State.violate_frame ..)) (.step
    (gateRouteEff_frame ..) (gateRouteEff_frame ..)))))

theorem flightSourcesEff_frame (ses k v : Nat) (s : State) :
    SameBut [.od, .fm, .gates, .sess] s (flightSourcesEff ses k v s) :=
  .ite (.step (.step (.mono (State.setCfg_frame ..)) (routeFlight_frame ..)) (routeFlight_frame ..)) (.mono
    (State.violate_frame ..))

theorem governorGates_frame (s : State) : SameBut [.fm, .gov, .gates, .port, .sess] s (governorGates s) :=
  .trans (.step (.mono (allocGates_frame ..)) (.gov_port ..)) (.foldl fun _ _ => (.step (.mono
    (routeFlight_frame ..)) (routeFlight_frame ..)))

theorem governorClearEff_frame (s : State) : SameBut [.gov] s (governorClearEff s) :=
  .gov ..

/-! ### Stages and their inputs (12) -/

theorem State.updSlot_frame (s : State) (n : Nat) (f : Slot → Slot) : SameBut [.slots] s (State.updSlot s n f) :=
  .slots ..

theorem sendPeer_frame (src kind tag m ch : Nat) (data : Bytes) (s : State) :
    SameBut [.tx, .grid] s (sendPeer src kind tag m ch data s) := by
  dsimp only [sendPeer]
  split
  · exact .ite (sendBlock_frame ..) .refl
  · exact .refl

theorem sendPeers_frame (n src kind tag ch : Nat) (data : Bytes) (s : State) :
    SameBut [.tx, .grid] s (sendPeers n src kind tag ch data s) :=
  .foldl fun _ _ => (sendPeer_frame ..)

theorem sendOut_frame (n src kind tag : Nat) (ch : ChanDef) (data : Bytes) (s : State) :
    SameBut [.tx, .grid, .slots] s (sendOut n src kind tag ch data s) := by
  dsimp only [sendOut]
  split
  · exact .mono (sendBlock_frame ..)
  · exact .mono (sendBlock_frame ..)
  · exact .ite (.step (.mono (sendPeers_frame ..)) (State.updSlot_frame ..)) (.mono (sendPeers_frame ..))
  · exact .ite (.mono (sendBlock_frame ..)) .refl
  · exact .refl

theorem digestRecord_frame (digest tag n k : Nat) (isVoid sat : Bool) (s : State) :
    SameBut [.cap] s (digestRecord digest tag n k isVoid sat s) :=
  .ite (capRecord_frame ..) .refl

theorem inputRecord_frame (n chan tag : Nat) (data : Bytes) (s : State) :
    SameBut [.cap] s (inputRecord n chan tag data s) :=
  .ite (capRecord_frame ..) .refl

theorem checkpoint_frame (n tag : Nat) (s : State) : SameBut [.cap] s (checkpoint n tag s) := by
  dsimp only [checkpoint]
  split
  · exact capRecord_frame ..
  · exact .refl

theorem afterPeriod_frame (n : Nat) (s : State) : SameBut [.slots, .cap] s (afterPeriod n s) := by
  dsimp only [afterPeriod]
  split
  · exact .ite (.step (.mono (checkpoint_frame ..)) (State.updSlot_frame ..)) .refl
  · exact .refl

theorem voidStage_frame (n k tag : Nat) (s : State) :
    SameBut [.tx, .grid, .slots, .cap] s (voidStage n k tag s) := by
  dsimp only [voidStage]
  split
  · exact .refl
  · exact .ite .refl (.step (.trans (.ite (.step (.step (.mono (State.updSlot_frame ..)) (.grid ..))
      (digestRecord_frame ..)) (.step (.mono (State.updSlot_frame ..)) (.grid ..))) (.foldl fun _ _ => (.mono
      (sendOut_frame ..)))) (afterPeriod_frame ..))

theorem addInput_frame (n k tag chan : Nat) (data : Bytes) (s : State) :
    SameBut [.tx, .fm, .grid, .slots, .cap] s (addInput n k tag chan data s) := by
  dsimp only [addInput]
  split
  · exact .refl
  · exact .ite .refl (.ite (.step (.step (.mono (.grid ..)) (voidStage_frame ..)) (State.raise_frame ..)) (.ite
      (.step (.mono (State.updSlot_frame ..)) (voidStage_frame ..)) (.mono (State.updSlot_frame ..))))

theorem faultPeriod_frame (n tag : Nat) (s : State) : SameBut [.tx, .grid, .slots] s (faultPeriod n tag s) := by
  dsimp only [faultPeriod]
  refine .ite ?_ ?_
  · exact .refl
  · refine .foldl fun _ _ => ?_
    split
    · exact .ite .refl (.step (.mono (sendPeers_frame ..)) (State.updSlot_frame ..))
    · exact .refl

theorem slotInput_frame (n chan tag : Nat) (data : Bytes) (s : State) :
    SameBut [.tx, .fm, .grid, .slots, .cap] s (slotInput n chan tag data s) := by
  dsimp only [slotInput]
  split
  · exact .ite (.step (.ite (.mono (inputRecord_frame ..)) .refl) (addInput_frame ..)) .refl
  · exact .mono (faultPeriod_frame ..)
  · exact .refl

theorem slotVoid_frame (n chan tag : Nat) (s : State) :
    SameBut [.tx, .grid, .slots, .cap] s (slotVoid n chan tag s) := by
  dsimp only [slotVoid]
  split
  · exact .ite (voidStage_frame ..) .refl
  · exact .mono (faultPeriod_frame ..)
  · exact .refl

theorem sendWords_frame (core tag : Nat) (words : List Bytes) (s : State) :
    SameBut [.tx, .grid] s (sendWords core tag words s) :=
  .foldl fun _ _ => (sendBarge_frame ..)

theorem answerCall_frame (n core tag : Nat) (calls : List (Nat × Nat)) (s : State) :
    SameBut [.tx, .fm, .gates, .grid, .slots, .sess] s (answerCall n core tag calls s) :=
  .trans (.mono (State.updSlot_frame ..)) (.foldl fun _ _ => (.mono (gateSignalEff_frame ..)))

theorem stageFireEff_frame (n k : Nat) (s : State) :
    SameBut [.tx, .fm, .gates, .grid, .slots, .sess, .cap] s (stageFireEff n k s) := by
  dsimp only [stageFireEff]
  split
  · split
    · exact .refl
    · refine .ite ?_ ?_
      · exact .refl
      · refine .step ?_ (afterPeriod_frame ..)
        refine .ite ?_ ?_
        · refine .step ?_ (answerCall_frame ..)
          refine .step ?_ (sendWords_frame ..)
          refine .trans ?_ (.foldl fun _ _ => ?_)
          · exact .ite (.step (.step (.mono (.grid_sram _ _ (fireStage_wf _ _ _))) (State.updSlot_frame ..))
              (digestRecord_frame ..)) (.step
              (.mono (.grid_sram _ _ (fireStage_wf _ _ _))) (State.updSlot_frame ..))
          · split
            · exact .mono (sendOut_frame ..)
            · exact .refl
        · refine .step ?_ (sendWords_frame ..)
          refine .trans ?_ (.foldl fun _ _ => ?_)
          · exact .ite (.step (.step (.mono (.grid_sram _ _ (fireStage_wf _ _ _))) (State.updSlot_frame ..))
              (digestRecord_frame ..)) (.step
              (.mono (.grid_sram _ _ (fireStage_wf _ _ _))) (State.updSlot_frame ..))
          · split
            · exact .mono (sendOut_frame ..)
            · exact .refl
  · exact .refl

/-! ### The control grid (10) -/

theorem applyWords_frame (who : Party) :
    ∀ (n : Nat) (b : Bytes) (s : State),
      SameBut [.freeCount, .tx, .fm, .gates, .grid, .sess] s (applyWords who n b s)
  | 0, _, _ => .refl
  | n + 1, b, s => by
    dsimp only [applyWords]
    refine .ite .refl ?_
    split
    · exact .trans (.ite .refl (.mono (refuseOp_frame ..))) (applyWords_frame who n ..)
    · exact .trans (.mono (gateSignalEff_frame ..)) (applyWords_frame who n ..)
    · exact .trans (.mono (gateWaitEff_frame ..)) (applyWords_frame who n ..)
    · exact .trans (.mono (gateArmEff_frame ..)) (applyWords_frame who n ..)
    · exact .trans (.mono (gateAdjustEff_frame ..)) (applyWords_frame who n ..)
    · exact .trans (.mono (gateClearEff_frame ..)) (applyWords_frame who n ..)
    · exact .trans (.mono (gateCancelEff_frame ..)) (applyWords_frame who n ..)
    · exact .trans (.mono (gateRouteEff_frame ..)) (applyWords_frame who n ..)
    · exact .trans (.mono (refuseOp_frame ..)) (applyWords_frame who n ..)

theorem ddrRead_frame (ch addr len : Nat) (s : State) : SameBut [.freeCount] s (ddrRead ch addr len s).2 := by
  unfold ddrRead
  split
  · exact .refl
  · exact .freeCount ..

theorem voidInput_frame (x : Barge) (s : State) : SameBut [.tx, .grid, .slots, .cap] s (voidInput x s) :=
  .ite (.mono (voidFirmware_frame ..)) (.ite (slotVoid_frame ..) .refl)

theorem deliverBarge_frame (x : Barge) (s : State) :
    SameBut [.freeCount, .tx, .fm, .gates, .grid, .slots, .sess, .cap] s (deliverBarge x s) := by
  dsimp only [deliverBarge]
  split
  · exact .ite (.mono (slotInput_frame ..)) .refl
  · exact .ite (.mono (applyWords_frame ..)) (.ite (.mono (slotInput_frame ..)) .refl)
  · exact .mono (voidInput_frame ..)
  · exact .ite (.step (.mono (ddrRead_frame ..)) (sendRaw_frame ..)) .refl
  · exact .ite (.mono (.grid_ddr _ _ (memWrite_wf _ _ _))) .refl
  · exact .ite (.mono (addInput_frame ..)) .refl
  · exact .refl

theorem deliverBarges_frame (l : List Bytes) (s : State) :
    SameBut [.freeCount, .tx, .fm, .gates, .grid, .slots, .sess, .cap] s (deliverBarges l s) := by
  unfold deliverBarges
  refine .foldl fun _ _ => ?_
  split
  · exact deliverBarge_frame ..
  · exact .refl

theorem discardBarge_frame (s : State) : SameBut [.grid] s (discardBarge s) :=
  .grid ..

theorem recvBarge_frame (kinds : List Nat) (b : Bytes) (s : State) :
    SameBut [.freeCount, .tx, .fm, .gates, .grid, .slots, .sess, .cap] s (recvBarge kinds b s) := by
  dsimp only [recvBarge]
  split
  · exact .refl
  · exact .ite (.mono (discardBarge_frame ..)) (.ite (.mono (ackBarge_frame ..)) (.ite (.mono
      (discardBarge_frame ..)) (.ite .refl (.step (.step (.mono (ackBarge_frame ..)) (sequence_frame ..))
      (deliverBarges_frame ..)))))

theorem recvReply_frame {l : List Part} {kind : Nat} {f : Barge → State → State} {b : Bytes} {s : State}
    (hf : ∀ x s, SameBut l s (f x s)) (hl : [.tx, .grid] ⊆ l := by decide) : SameBut l s
      (recvReply kind f b s) := by
  unfold recvReply
  split
  · exact .refl
  · exact .ite (.mono (.mono (discardBarge_frame ..)) hl) (.ite (.mono (.mono (ackBarge_frame ..)) hl)
      (.ite (.mono (.mono (discardBarge_frame ..)) hl) (.ite (hf ..) .refl)))

theorem bargeAckEff_frame (b : Bytes) (s : State) : SameBut [.tx, .grid] s (bargeAckEff b s) :=
  recvReply_frame (fun _ _ => (ackArrived_frame ..))

theorem giveUp_frame (u : Unacked) (s : State) :
    SameBut [.freeCount, .tx, .fm, .gates, .grid, .slots, .sess, .cap] s (giveUp u s) := by
  dsimp only [giveUp]
  refine .step ?_ (releaseStall_frame ..)
  refine .step ?_ (State.raise_frame ..)
  split
  · exact .step (.step (.step (.mono (.grid ..)) (voidInput_frame ..)) (sequence_frame ..)) (deliverBarges_frame ..)
  · exact .mono (.grid ..)

theorem retryOrFail_frame (u : Unacked) (s : State) :
    SameBut [.freeCount, .tx, .fm, .gates, .grid, .slots, .sess, .cap] s (retryOrFail u s) :=
  .ite (giveUp_frame ..) (.mono (resend_frame ..))

theorem bargeNakEff_frame (b : Bytes) (s : State) :
    SameBut [.freeCount, .tx, .fm, .gates, .grid, .slots, .sess, .cap] s (bargeNakEff b s) := by
  unfold bargeNakEff
  refine recvReply_frame (fun _ _ => ?_)
  · split
    · exact retryOrFail_frame ..
    · exact .refl

theorem ackTimeoutEff_frame (src dst seq : Nat) (s : State) :
    SameBut [.freeCount, .tx, .fm, .gates, .grid, .slots, .sess, .cap] s (ackTimeoutEff src dst seq s) := by
  unfold ackTimeoutEff
  split
  · exact .ite (retryOrFail_frame ..) .refl
  · exact .refl

theorem tickStage_frame (n k tag : Nat) (s : State) :
    SameBut [.freeCount, .tx, .fm, .gates, .grid, .slots, .sess, .cap] s (tickStage n k tag s) :=
  .step (.step (.step (.step (.mono (State.setPair_frame ..)) (State.send_frame ..)) (countSent_frame ..))
    (sequence_frame ..)) (deliverBarges_frame ..)

theorem voidUnfed_frame (n tag : Nat) (p : Program) (s : State) :
    SameBut [.tx, .grid, .slots, .cap] s (voidUnfed n tag p s) :=
  .foldl fun _ _ => (.ite (voidStage_frame ..) .refl)

theorem voidFed_frame (n tag : Nat) (p : Program) (s : State) :
    SameBut [.tx, .grid, .slots, .cap] s (voidFed n tag p s) := by
  unfold voidFed
  refine .foldl fun _ _ => ?_
  refine .ite ?_ ?_
  · exact .refl
  · refine .foldl fun _ _ => ?_
    split
    · exact .ite .refl (voidStage_frame ..)
    · exact .refl

theorem tickSlot_frame (n us : Nat) (s : State) :
    SameBut [.freeCount, .tx, .fm, .gates, .grid, .slots, .sess, .cap] s (tickSlot n us s) := by
  dsimp only [tickSlot]
  refine .ite ?_ ?_
  · exact .refl
  · split
    · exact .step (.foldl fun _ _ => (.ite (tickStage_frame ..) .refl)) (voidUnfed_frame ..)
    · exact .foldl fun _ _ => (.mono (sendPeers_frame ..))
    · exact .mono (voidFed_frame ..)

theorem periodTickEff_frame (s : State) :
    SameBut [.freeCount, .tx, .fm, .gates, .grid, .slots, .sess, .cap] s (periodTickEff s) :=
  .ite .refl (.trans (.mono (.grid ..)) (.foldl fun _ _ => (tickSlot_frame ..)))

theorem keeperCallEff_frame (n chan gate : Nat) (payload : Bytes) (s : State) :
    SameBut [.freeCount, .tx, .fm, .gates, .grid, .slots, .sess, .cap] s (keeperCallEff n chan gate payload s) := by
  dsimp only [keeperCallEff]
  refine .ite ?_ ?_
  · exact .step (.step (.step (.step (.mono (.freeCount ..)) (sendBlock_frame ..)) (inputRecord_frame ..))
      (sendBarge_frame ..)) (gateSignalEff_frame ..)
  · split
    · exact .ite (.step (.mono (State.updSlot_frame ..)) (sendBlock_frame ..)) .refl
    · exact .step (.mono (State.updSlot_frame ..)) (faultPeriod_frame ..)
    · exact .refl

theorem corrected_frame (n : Nat) (s : State) : SameBut [.fm, .grid] s (corrected n s) :=
  .trans (.mono (.grid ..)) (.when_ (fun _ => (.mono (State.raise_frame ..))))

theorem uncorrected_frame (endpoint addr : Nat) (s : State) : SameBut [.grid] s (uncorrected endpoint addr s) :=
  .grid ..

theorem voidPresent_frame (n k : Nat) (s : State) : SameBut [.tx, .grid, .slots, .cap] s (voidPresent n k s) := by
  unfold voidPresent
  split
  · split
    · exact voidStage_frame ..
    · exact .refl
  · exact .refl

theorem voidStages_frame (n : Nat) (l : List Nat) (s : State) :
    SameBut [.tx, .grid, .slots, .cap] s (voidStages n l s) :=
  .foldl fun _ _ => (voidPresent_frame ..)

theorem slotToFault_frame (n cause : Nat) (s : State) :
    SameBut [.fm, .gates, .tide, .slots] s (slotToFault n cause s) :=
  .step (.step (.step (.mono (State.updSlot_frame ..)) (dropWaits_frame ..)) (State.raise_frame ..))
    (tideSlotLost_frame ..)

theorem voidCheckpoint_frame (n : Nat) (s : State) : SameBut [.cap] s (voidCheckpoint n s) :=
  .cap ..

theorem sramFree_frame (n core addr : Nat) (s : State) :
    SameBut [.tx, .fm, .gates, .tide, .grid, .slots, .cap] s (sramFree n core addr s) := by
  dsimp only [sramFree]
  split
  · exact .refl
  · exact .ite (.mono (.grid_sram _ _ (memClear_wf _ _ _))) (.ite (.step (.mono (voidCheckpoint_frame ..))
      (slotToFault_frame ..)) (.ite
      (.step (.mono (voidStages_frame ..)) (State.raise_frame ..)) (.ite (.step (.mono
      (.grid_sram _ _ (loadImages_wf _ _ _ _))) (voidStages_frame ..)) (.mono (.grid_sram _ _
        (memClear_wf _ _ _))))))

theorem beginRestart_frame (n : Nat) (s : State) : SameBut [.gates, .grid] s (beginRestart n s) :=
  .step (.mono (dropWaits_frame ..)) (.grid ..)

theorem sramBadEff_frame (core addr : Nat) (s : State) :
    SameBut [.freeCount, .tx, .fm, .gates, .tide, .grid, .slots, .cap] s (sramBadEff core addr s) := by
  dsimp only [sramBadEff]
  split
  · split
    · exact .step (.step (.step (.mono (uncorrected_frame ..)) (.freeCount ..)) (voidFirmware_frame ..))
        (State.raise_frame ..)
    · exact .step (.step (.mono (uncorrected_frame ..)) (.freeCount ..)) (voidFirmware_frame ..)
    · exact .step (.step (.step (.mono (uncorrected_frame ..)) (.freeCount ..)) (voidCheckpoint_frame ..))
        (beginRestart_frame ..)
    · exact .step (.mono (uncorrected_frame ..)) (.freeCount ..)
  · split
    · exact .step (.mono (uncorrected_frame ..)) (sramFree_frame ..)
    · exact .step (.mono (uncorrected_frame ..)) (.grid_sram _ _ (memClear_wf _ _ _))

theorem restoreImp_frame (t i : Nat) (s : State) : SameBut [.est] s (restoreImp t i s) :=
  State.updEst_frame ..

theorem rewriteBlock_frame (s : State) : SameBut [.freeCount, .est, .gov] s (rewriteBlock s) := by
  dsimp only [rewriteBlock]
  split
  · exact .step (.mono (.freeCount ..)) (restoreImp_frame ..)
  · exact .mono (.freeCount_gov ..)
  · exact .mono (.freeCount ..)

theorem memBadEff_frame (channel addr n k : Nat) (s : State) :
    SameBut [.freeCount, .tx, .fm, .est, .gov, .grid, .slots, .cap] s (memBadEff channel addr n k s) :=
  .ite (.step (.step (.step (.mono (uncorrected_frame ..)) (State.raise_frame ..)) (rewriteBlock_frame ..))
    (voidFirmware_frame ..)) (.step (.step (.step (.mono (uncorrected_frame ..)) (State.raise_frame ..))
    (rewriteBlock_frame ..)) (voidPresent_frame ..))

theorem presetTray_frame (t : Nat) (s : State) : SameBut [.phases, .tph] s (presetTray t s) :=
  .step (.mono (State.updPhs_frame ..)) (State.updTp_frame ..)

theorem restartState_frame (n : Nat) (s : State) :
    SameBut [.loop, .phases, .tph, .est, .feed, .gov] s (restartState n s) := by
  dsimp only [restartState]
  refine .ite ?_ ?_
  · split
    · exact .mono (.loop ..)
    · exact .mono (.loop ..)
    · exact .mono (.loop ..)
    · exact .refl
  · exact .ite (.mono (presetTray_frame ..)) (.ite (.forTrays (fun _ _ => (.mono (estStart_frame ..)))) (.ite
      (.mono (.gov ..)) (.ite (.mono (.feed ..)) .refl)))

theorem restartCompleteEff_frame (n : Nat) (s : State) :
    SameBut [.fm, .loop, .phases, .tph, .est, .feed, .gov, .grid] s (restartCompleteEff n s) :=
  .ite (.trans (.step (.mono (.grid ..)) (restartState_frame ..)) (.when_ (fun _ => (.mono
    (State.raise_frame ..))))) .refl

theorem State.setSrcWord_frame (s : State) (src w : Nat) : SameBut [.ev] s (State.setSrcWord s src w) :=
  .ev ..

theorem failedRoutes_frame (core : Nat) (s : State) : SameBut [.ev] s (failedRoutes core s) :=
  .foldl fun _ _ => (.ite (.ite (.step (State.setSrcWord_frame ..) (.ev ..)) .refl) (.ite (.step (.ite (.step
    (State.setSrcWord_frame ..) (.ev ..)) .refl) (State.setSrcWord_frame ..)) (.step (.step (.ite (.step
    (State.setSrcWord_frame ..) (.ev ..)) .refl) (State.setSrcWord_frame ..)) (.ev ..))))

theorem coreFailedEff_frame (core : Nat) (s : State) :
    SameBut [.fm, .gates, .ev, .tide, .grid, .slots] s (coreFailedEff core s) := by
  simp only [coreFailedEff]
  refine .ite .refl ?_
  generalize hu : failedRoutes core _ = u
  have hs : SameBut [.fm, .gates, .ev, .tide, .grid, .slots] s u := by
    rw [← hu]
    exact .step (.step (.step (.mono (.grid ..)) (State.raise_frame ..)) (dropWaits_frame ..))
      (failedRoutes_frame ..)
  split
  · exact .ite (.step hs (slotToFault_frame ..)) hs
  · exact hs

theorem gridSelfTestEff_frame (failed : Nat) (s : State) :
    SameBut [.fm, .gates, .ev, .tide, .grid, .slots] s (gridSelfTestEff failed s) :=
  .foldl fun _ _ => (coreFailedEff_frame ..)

theorem gridClearEff_frame (s : State) : SameBut [.grid] s (gridClearEff s) :=
  .grid ..

/-! ### Program slots and dry dock (12) -/

theorem unbindEff_frame (n : Nat) (s : State) :
    SameBut [.tx, .fm, .gates, .tide, .grid, .slots] s (unbindEff n s) :=
  .step (.step (.step (.mono (freeOwner_frame ..)) (dropWaits_frame ..)) (tideSlotLost_frame ..))
    (State.updSlot_frame ..)

theorem loadElement_frame (n k : Nat) (s : State) : SameBut [.txn] s (loadElement n k s) := by
  dsimp only [loadElement]
  refine .step ?_ (copyTxn_frame ..)
  split
  · exact .step (txnElement_frame ..) (updTxn_frame ..)
  · exact .step (txnElement_frame ..) (updTxn_frame ..)

theorem slotBlockEff_frame (ses seq n offset : Nat) (data : Bytes) (s : State) :
    SameBut [.tx, .txn, .fm, .gates, .tide, .grid, .slots, .sess] s (slotBlockEff ses seq n offset data s) :=
  .ite (.mono (State.violate_frame ..)) (.ite (.mono (txnLimit_frame ..)) (.step (.step (.ite (.ite (.mono
    (unbindEff_frame ..)) (.mono (tideSlotLost_frame ..))) (.step (.step (.ite (.mono (unbindEff_frame ..)) (.mono
    (tideSlotLost_frame ..))) (openTxn_frame ..)) (State.updSlot_frame ..))) (State.updSlot_frame ..))
    (loadElement_frame ..)))

theorem tideRefused_frame (n : Nat) (s : State) : SameBut [.fm, .tide] s (tideRefused n s) :=
  .step (tideSlotLost_frame ..) (.tide ..)

theorem slotCheckEff_frame (ses n : Nat) (s : State) :
    SameBut [.txn, .fm, .tide, .slots, .sess] s (slotCheckEff ses n s) :=
  .ite (.mono (State.violate_frame ..)) (.ite (.step (.step (.step (.when_ (fun _ => (.step (.mono
    (tideRefused_frame ..)) (State.raise_frame ..)))) (State.updSlot_frame ..)) (updTxn_frame ..))
    (txnElement_frame ..)) (.step (.step (.step (.when_ (fun _ => (.step (.mono (tideRefused_frame ..))
    (State.raise_frame ..)))) (State.updSlot_frame ..)) (closeTxn_frame ..)) (State.raise_frame ..)))

theorem allocBlocks_frame (n : Nat) (l : List (Nat × Nat)) (s : State) :
    SameBut [.fm, .gates] s (allocBlocks n l s).2 := by
  unfold allocBlocks
  refine .foldl_snd (fun acc g => ?_) .refl
  exact allocGates_frame ..

theorem slotBindEff_frame (ses n : Nat) (s : State) :
    SameBut [.tx, .txn, .fm, .gates, .sec, .grid, .slots, .sess, .cap] s (slotBindEff ses n s) := by
  dsimp only [slotBindEff]
  refine .ite ?_ ?_
  · exact .mono (State.violate_frame ..)
  · split
    · exact .ite (.step (.step (.mono (allocBlocks_frame ..)) (freeOwner_frame ..)) (State.raise_frame ..)) (.step
        (.step (.step (.step (.step (.step (.mono (allocBlocks_frame ..)) (.grid_sram _ _
          (loadImages_wf _ _ _ _))) (State.updSlot_frame ..))
        (checkpoint_frame ..)) (State.measure_frame ..)) (txnElement_frame ..)) (finishTxn_frame ..))
    · exact .mono (State.raise_frame ..)

theorem slotUnbindEff_frame (ses n : Nat) (s : State) :
    SameBut [.tx, .fm, .gates, .tide, .grid, .slots, .sess] s (slotUnbindEff ses n s) :=
  .ite (.mono (unbindEff_frame ..)) (.mono (State.violate_frame ..))

theorem restartSlot_frame (n : Nat) (s : State) : SameBut [.gates, .grid, .slots] s (restartSlot n s) := by
  dsimp only [restartSlot]
  split
  · exact .step (.step (.mono (dropWaits_frame ..)) (.grid_sram _ _ (loadImages_wf _ _ _ _)))
      (State.updSlot_frame ..)
  · exact .refl

theorem slotRestartEff_frame (ses n : Nat) (s : State) :
    SameBut [.gates, .grid, .slots, .sess] s (slotRestartEff ses n s) :=
  .ite (.mono (State.violate_frame ..)) (.mono (restartSlot_frame ..))

theorem slotClearEff_frame (ses n : Nat) (s : State) :
    SameBut [.txn, .fm, .tide, .slots, .sess] s (slotClearEff ses n s) := by
  dsimp only [slotClearEff]
  split
  · exact .step (.step (.mono (tideSlotLost_frame ..)) (State.updSlot_frame ..)) (closeTxn_frame ..)
  · exact .step (.step (.mono (tideSlotLost_frame ..)) (State.updSlot_frame ..)) (closeTxn_frame ..)
  · exact .step (.step (.mono (tideSlotLost_frame ..)) (State.updSlot_frame ..)) (closeTxn_frame ..)
  · exact .mono (State.violate_frame ..)

theorem slotFaultEff_frame (n : Nat) (s : State) : SameBut [.fm, .gates, .tide, .slots] s (slotFaultEff n s) :=
  .ite (slotToFault_frame ..) .refl

theorem stagedSlotEff_frame (ses slot : Nat) (s : State) :
    SameBut [.fm, .tide, .sess] s (stagedSlotEff ses slot s) :=
  .ite (.mono (.tide ..)) (.ite (.mono (State.violate_frame ..)) (.ite (.mono (.tide ..)) (.step (.mono
    (.tide ..)) (State.raise_frame ..))))

theorem wf_ite {c : Prop} [Decidable c] {m n : List (Nat × Byte)} (hm : Memory.wf m = true)
    (hn : Memory.wf n = true) : Memory.wf (if c then m else n) = true := by
  split
  · exact hm
  · exact hn

theorem dockStartEff_frame (ses : Nat) (s : State) : SameBut [.fm, .grid, .dock, .sess] s (dockStartEff ses s) := by
  dsimp only [dockStartEff]
  refine .ite ?_ ?_
  · exact .mono (State.violate_frame ..)
  · split
    · split
      · exact .mono (State.raise_frame ..)
      · refine .mono (.grid_dock_sram _ _ _ fun h => ?_)
        exact wf_ite (loadState_wf _ _ _ _ (loadImages_wf _ _ _ _ h)) h
    · exact .mono (State.raise_frame ..)

theorem diverge_frame (kind k : Nat) (e g : DigestRec) (out : List (Nat × Bytes)) (s : State) :
    SameBut [.fm, .dock] s (diverge kind k e g out s) :=
  .step (.mono (.dock ..)) (State.raise_frame ..)

theorem fireCopy_wf (p : Program) (n tag k : Nat) (r : Running) (m : List (Nat × Byte))
    (h : Memory.wf m = true) : Memory.wf (fireCopy p n tag k r m).mem = true := by
  dsimp only [fireCopy]
  split
  · exact fireStage_wf _ _ _ h
  · exact h

theorem replayStages_frame (p : Program) (l : List CapRecord) :
    ∀ (lack ks : List Nat) (s : State), SameBut [.fm, .grid, .dock] s (replayStages p l lack ks s)
  | _, [], _ => .refl
  | lack, k :: ks, s => by
    dsimp only [replayStages]
    split
    · exact .refl
    · have fired : ∀ u, SameBut [.fm, .grid, .dock] s u → ∀ lack', SameBut [.fm, .grid, .dock] s
          (replayStages p l lack' ks u) := fun u hu lack' => hu.trans (replayStages_frame p l lack' ks u)
      refine .ite (fired _ (.mono (.grid_dock_sram _ _ _ (fireCopy_wf _ _ _ _ _ _))) _) ?_
      split
      · exact .step (.mono (.grid_dock_sram _ _ _ (fireCopy_wf _ _ _ _ _ _))) (diverge_frame ..)
      · exact .step (.mono (.grid_dock_sram _ _ _ (fireCopy_wf _ _ _ _ _ _))) (diverge_frame ..)
      · exact .ite (.step (.mono (.grid_dock_sram _ _ _ (fireCopy_wf _ _ _ _ _ _))) (diverge_frame ..))
          (.ite (.step (.mono (.grid_dock_sram _ _ _ (fireCopy_wf _ _ _ _ _ _))) (diverge_frame ..)) (fired _
            (.mono (.grid_dock_sram _ _ _ (fireCopy_wf _ _ _ _ _ _))) _))

theorem dockNext_frame (s : State) : SameBut [.dock] s (dockNext s) :=
  .ite (.step (.dock ..) (.dock ..)) (.dock ..)

theorem replayFwStages_frame (l : List CapRecord) :
    ∀ (ks : List Nat) (s : State), SameBut [.freeCount, .fm, .dock] s (replayFwStages l ks s)
  | [], _ => .mono (dockNext_frame ..)
  | k :: ks, s => by
    dsimp only [replayFwStages]
    split
    · exact .mono (diverge_frame ..)
    · exact .mono (diverge_frame ..)
    · exact .ite (.step (.mono (.freeCount ..)) (diverge_frame ..))
        (.trans (.mono (.freeCount ..)) (replayFwStages_frame l ks _))

theorem replayFirmware_frame (l : List CapRecord) (s : State) :
    SameBut [.freeCount, .fm, .dock] s (replayFirmware l s) := by
  unfold replayFirmware
  split
  · exact .mono (diverge_frame ..)
  · exact .ite (.mono (diverge_frame ..)) (.mono (replayFwStages_frame ..))

theorem replayPeriodEff_frame (s : State) : SameBut [.freeCount, .fm, .grid, .dock] s (replayPeriodEff s) := by
  dsimp only [replayPeriodEff]
  refine .ite ?_ ?_
  · refine .ite ?_ ?_
    · exact .step (.mono (.dock ..)) (.dock ..)
    · refine .ite ?_ ?_
      · exact .step (.mono (.dock ..)) (replayFirmware_frame ..)
      · split
        · exact .step (.step (.mono (.dock ..)) (.dock ..)) (diverge_frame ..)
        · exact .ite (.step (.step (.step (.mono (.dock ..)) (.dock ..)) (replayStages_frame ..))
            (dockNext_frame ..)) (.step (.step (.mono (.dock ..)) (.dock ..)) (replayStages_frame ..))
  · exact .refl

theorem dockStopEff_frame (ses : Nat) (s : State) : SameBut [.dock, .sess] s (dockStopEff ses s) :=
  .ite (.mono (.dock ..)) (.mono (State.violate_frame ..))

theorem dockClearEff_frame (ses : Nat) (s : State) : SameBut [.dock, .sess] s (dockClearEff ses s) :=
  .ite (.mono (State.violate_frame ..)) (.mono (.dock ..))

/-! ### Evaluations (07) -/

theorem cutEntries_frame (t0 : Nat) (s : State) : SameBut [.tide] s (cutEntries t0 s) :=
  .tide ..

theorem tideRecords_frame (slot cut : Nat) (cs : List Block) (p : List Rat) (s : State) :
    SameBut [.cap] s (tideRecords slot cut cs p s) :=
  .foldl fun _ _ => (capRecord_frame ..)

theorem carriedEff_frame (cut : Nat) (saturated : Bool) (shadow : Option Rat) (s : State) :
    SameBut [.fm, .loop, .tide] s (carriedEff cut saturated shadow s) :=
  .ite (.step (.trans (.trans (.step (.mono (.tide ..)) (deliver_frame ..)) (.when_ (fun _ => (.mono
    (State.raise_frame ..))))) (.when_ (fun _ => (.mono (State.raise_frame ..))))) (tideFault_frame ..)) (.trans
    (.trans (.step (.mono (.tide ..)) (deliver_frame ..)) (.when_ (fun _ => (.mono (State.raise_frame ..)))))
    (.when_ (fun _ => (.mono (State.raise_frame ..)))))

theorem publishedEff_frame (p : List Rat) (i0 : Rat) (shadow : Option Rat) (time : Nat) (s : State) :
    SameBut [.loop, .tide] s (publishedEff p i0 shadow time s) :=
  .step (.mono (.tide ..)) (deliver_frame ..)

theorem evaluationEff_frame (stages shadow time : Nat) (s : State) :
    SameBut [.fm, .loop, .tide, .cap] s (evaluationEff stages shadow time s) :=
  .ite (.ite (.mono (carriedEff_frame ..)) (.ite (.step (.mono (tideRecords_frame ..)) (carriedEff_frame ..))
    (.step (.mono (tideRecords_frame ..)) (publishedEff_frame ..)))) .refl

theorem deadlineMissEff_frame (complete : Bool) (s : State) :
    SameBut [.fm, .loop, .tide] s (deadlineMissEff complete s) :=
  .ite (carriedEff_frame ..) .refl

theorem switchModels_frame (s : State) : SameBut [.fm, .tide] s (switchModels s) :=
  .ite (.step (.mono (.tide ..)) (State.raise_frame ..)) (.ite (.mono (.tide ..)) (.step (.mono (.tide ..))
    (State.raise_frame ..)))

theorem switchAtCut_frame (t0 : Nat) (s : State) : SameBut [.fm, .tide] s (switchAtCut t0 s) :=
  .ite (switchModels_frame ..) .refl

end Sys2Proof.Machine
end


section
/-! SUPPORT. Proof: events, records, faults, time, calibration and start touch only their own parts of the state (11, 13, 15, 16, 18, 19). -/

namespace Sys2Proof.Machine

set_option Elab.async false

/-! ### The event controller (11) -/

theorem useMaskWindow_frame (src : Nat) (s : State) : SameBut [.ev] s (useMaskWindow src s) :=
  .ite (.ev ..) .refl

theorem refuseFast_frame (core : Nat) (r : EvRec) (s : State) : SameBut [.fm, .ev] s (refuseFast core r s) :=
  .ite (.step (.mono (.ev ..)) (State.raise_frame ..)) (.mono (.ev ..))

theorem deliverTo_frame (core : Nat) (fast : Bool) (r : EvRec) (s : State) :
    SameBut [.tx, .fm, .ev] s (deliverTo core fast r s) :=
  .ite (.ite (.trans (.mono (.ev ..)) (.when_ (fun _ => (.mono (State.send_frame ..))))) (.mono
    (refuseFast_frame ..))) (.mono (.ev ..))

theorem senseChange_frame (src : Nat) (s : State) : SameBut [.ev] s (senseChange src s) :=
  .ev ..

theorem deliverAll_frame (targets : List (Nat × Bool)) (r : EvRec) (s : State) :
    SameBut [.tx, .fm, .ev] s (deliverAll targets r s) :=
  .foldl fun _ _ => (deliverTo_frame ..)

theorem levelDeliver_frame (src : Nat) (s : State) : SameBut [.tx, .fm, .ev] s (levelDeliver src s) :=
  .ite (.step (.mono (useMaskWindow_frame ..)) (deliverAll_frame ..)) .refl

theorem redeliver_frame (src : Nat) (s : State) : SameBut [.tx, .fm, .ev] s (redeliver src s) :=
  .ite (.step (.mono (.ev ..)) (levelDeliver_frame ..)) .refl

theorem edgeDeliver_frame (src kind : Nat) (s : State) : SameBut [.tx, .fm, .ev] s (edgeDeliver src kind s) :=
  .ite (.mono (senseChange_frame ..)) (.ite (.ite (.step (.mono (senseChange_frame ..)) (.ev ..)) (.mono
    (senseChange_frame ..))) (.step (.step (.ite (.step (.mono (senseChange_frame ..)) (.ev ..)) (.mono
    (senseChange_frame ..))) (useMaskWindow_frame ..)) (deliverAll_frame ..)))

theorem sourceChangeEff_frame (src : Nat) (s : State) : SameBut [.tx, .fm, .ev] s (sourceChangeEff src s) := by
  dsimp only [sourceChangeEff]
  refine .ite ?_ ?_
  · exact .refl
  · split
    · exact .ite (.step (.step (.mono (.ev ..)) (senseChange_frame ..)) (levelDeliver_frame ..)) (.mono (.ev ..))
    · exact .ite (.mono (.ev ..)) (.step (.step (.mono (.ev ..)) (senseChange_frame ..)) (levelDeliver_frame ..))
    · exact .ite (.step (.mono (.ev ..)) (edgeDeliver_frame ..)) (.mono (.ev ..))
    · exact .ite (.mono (.ev ..)) (.step (.mono (.ev ..)) (edgeDeliver_frame ..))
    · exact .step (.mono (.ev ..)) (edgeDeliver_frame ..)
    · exact .mono (.ev ..)

theorem recordTaken_frame (core : Nat) (r : EvRec) (s : State) :
    SameBut [.tx, .fm, .grid, .slots, .cap] s (recordTaken core r s) := by
  dsimp only [recordTaken]
  refine .ite ?_ ?_
  · exact .refl
  · refine .foldl fun _ _ => ?_
    split
    · exact .foldl fun _ _ => (.ite (.step (.mono (inputRecord_frame ..)) (addInput_frame ..)) .refl)
    · exact .foldl fun _ _ => (.ite (.step (.mono (faultPeriod_frame ..)) (State.updSlot_frame ..)) .refl)
    · exact .refl

theorem eventTakeEff_frame (core : Nat) (s : State) :
    SameBut [.tx, .fm, .ev, .grid, .slots, .cap] s (eventTakeEff core s) := by
  dsimp only [eventTakeEff]
  refine .ite ?_ ?_
  · exact .refl
  · split
    · exact .mono (State.send_frame ..)
    · exact .step (.step (.mono (.ev ..)) (State.send_frame ..)) (recordTaken_frame ..)

theorem eventAckEff_frame (core src : Nat) (s : State) : SameBut [.tx, .fm, .ev] s (eventAckEff core src s) :=
  .ite (.step (.mono (.ev ..)) (redeliver_frame ..)) .refl

theorem maskSetEff_frame (src : Nat) (s : State) : SameBut [.ev] s (maskSetEff src s) :=
  .ite .refl (.step (State.setSrcWord_frame ..) (.ev ..))

theorem maskClearEff_frame (src : Nat) (s : State) : SameBut [.tx, .fm, .ev] s (maskClearEff src s) :=
  .step (.step (.mono (State.setSrcWord_frame ..)) (.ev ..)) (levelDeliver_frame ..)

theorem admitHeld_frame (core : Nat) (s : State) : SameBut [.tx, .fm, .ev] s (admitHeld core s) := by
  dsimp only [admitHeld]
  split
  · exact .step (.mono (.ev ..)) (deliverTo_frame ..)
  · exact .refl

theorem fastPopEff_frame (core : Nat) (s : State) :
    SameBut [.tx, .fm, .ev, .grid, .slots, .cap] s (fastPopEff core s) := by
  dsimp only [fastPopEff]
  split
  · exact .refl
  · exact .step (.step (.step (.mono (.ev ..)) (admitHeld_frame ..)) (redeliver_frame ..)) (recordTaken_frame ..)

theorem srcWords_frame (src : Nat) (b : Bytes) (s : State) : SameBut [.tx, .fm, .ev] s (srcWords src b s).1 := by
  fun_induction srcWords src b s with
  | case1 src b0 b1 b2 b3 rest s w _ ih =>
    exact .trans (.step (.mono (State.setSrcWord_frame ..)) (levelDeliver_frame ..)) ih
  | case2 _ _ _ _ _ _ _ _ _ ih => exact ih
  | case3 => exact .refl

theorem sourceConfigEff_frame (ses offset : Nat) (data : Bytes) (s : State) :
    SameBut [.tx, .fm, .ev, .sess] s (sourceConfigEff ses offset data s) :=
  .ite (.mono (State.violate_frame ..)) (.ite (.mono (srcWords_frame ..)) (.step (.mono (srcWords_frame ..))
    (State.violate_frame ..)))

theorem eventsClearEff_frame (s : State) : SameBut [.ev] s (eventsClearEff s) :=
  .ev ..

/-! ### The recorder (18) -/

theorem State.setUnrecorded_frame (s : State) (code inst n : Nat) :
    SameBut [.rcd] s (State.setUnrecorded s code inst n) :=
  .rcd ..

theorem stageRecord_frame (x : RecordOf) (s : State) : SameBut [.tx, .fm, .rcd] s (stageRecord x s) :=
  .ite (.trans (.step (.mono (.rcd ..)) (State.setUnrecorded_frame ..)) (.when_ (fun _ => (.mono
    (State.raise_frame ..))))) (.step (.step (.mono (.rcd ..)) (State.setUnrecorded_frame ..))
    (State.send_frame ..))

theorem State.updWindow_frame (s : State) (code inst : Nat) (f : RateWindow → RateWindow) :
    SameBut [.rcd] s (State.updWindow s code inst f) :=
  .rcd ..

theorem closeWindow_frame (w : RateWindow) (s : State) : SameBut [.tx, .fm, .rcd] s (closeWindow w s) :=
  .ite (.mono (.rcd ..)) (.step (.mono (.rcd ..)) (stageRecord_frame ..))

theorem recordAlways_frame (r : Raise) (flags : Nat) (s : State) :
    SameBut [.tx, .fm, .rcd] s (recordAlways r flags s) :=
  stageRecord_frame ..

theorem openWindow_frame (r : Raise) (flags : Nat) (s : State) :
    SameBut [.tx, .fm, .rcd] s (openWindow r flags s) :=
  .step (recordAlways_frame ..) (.rcd ..)

theorem recordInWindow_frame (r : Raise) (flags : Nat) (w : RateWindow) (s : State) :
    SameBut [.tx, .fm, .rcd] s (recordInWindow r flags w s) :=
  .ite (.step (recordAlways_frame ..) (State.updWindow_frame ..)) (.step (.step (.mono (State.updWindow_frame ..))
    (.rcd ..)) (State.setUnrecorded_frame ..))

theorem recordRun_frame (r : Raise) (flags : Nat) (s : State) :
    SameBut [.tx, .fm, .rcd] s (recordRun r flags s) := by
  unfold recordRun
  refine .ite ?_ ?_
  · exact recordAlways_frame ..
  · split
    · exact openWindow_frame ..
    · exact .ite (.step (closeWindow_frame ..) (openWindow_frame ..)) (recordInWindow_frame ..)

theorem rateCloseEff_frame (code inst : Nat) (s : State) :
    SameBut [.tx, .fm, .rcd] s (rateCloseEff code inst s) := by
  unfold rateCloseEff
  split
  · exact .ite (closeWindow_frame ..) .refl
  · exact .refl

theorem reclaim_frame (s : State) : SameBut [.fm, .rcd] s (reclaim s) := by
  dsimp only [reclaim]
  refine .ite ?_ ?_
  · exact .refl
  · split
    · exact .refl
    · exact .trans (.mono (.rcd ..)) (.when_ (fun _ => (.mono (State.raise_frame ..))))

theorem flashRecordEff_frame (ok : Bool) (s : State) : SameBut [.fm, .rcd] s (flashRecordEff ok s) := by
  dsimp only [flashRecordEff]
  split
  · exact .refl
  · exact .ite (.step (.mono (.rcd ..)) (reclaim_frame ..)) (.step (.mono (.rcd ..)) (State.raise_frame ..))

theorem flashWriteEff_frame (ok : Bool) (s : State) : SameBut [.fm, .rcd] s (flashWriteEff ok s) :=
  .ite .refl (flashRecordEff_frame ..)

theorem flashRetryEff_frame (ok : Bool) (s : State) : SameBut [.fm, .rcd] s (flashRetryEff ok s) := by
  unfold flashRetryEff
  split
  · exact .ite (flashRecordEff_frame ..) .refl
  · exact .refl

theorem warnRecord_frame (b : Bytes) (s : State) : SameBut [.fm, .rcd] s (warnRecord b s) :=
  .ite .refl (.step (.mono (.rcd ..)) (State.raise_frame ..))

theorem warnTouched_frame (l : List Bytes) (offset n : Nat) (s : State) :
    SameBut [.fm, .rcd] s (warnTouched l offset n s) :=
  .foldl fun _ _ => (warnRecord_frame ..)

theorem readRecords_frame (ses offset length : Nat) (s : State) :
    SameBut [.od, .fm, .rcd] s (readRecords ses offset length s).2 := by
  dsimp only [readRecords]
  split
  · exact .step (.mono (warnTouched_frame ..)) (State.setWin_frame ..)
  · exact .mono (warnTouched_frame ..)

theorem recordReadEff_frame (ses offset length : Nat) (s : State) :
    SameBut [.tx, .od, .fm, .rcd, .sess] s (recordReadEff ses offset length s) :=
  .ite (.step (.mono (State.violate_frame ..)) (State.send_frame ..)) (.step (.mono (readRecords_frame ..))
    (State.send_frame ..))

theorem recorderClearEff_frame (ses v : Nat) (key : Bytes) (s : State) :
    SameBut [.fm, .rcd, .sess] s (recorderClearEff ses v key s) :=
  .ite (.mono (State.violate_frame ..)) (.step (.mono (.rcd ..)) (State.raiseWith_frame ..))

theorem recorderClearCountersEff_frame (s : State) : SameBut [.rcd] s (recorderClearCountersEff s) :=
  .rcd ..

/-! ### The fault manager (16) -/

theorem State.updActive_frame (s : State) (code inst : Nat) (f : Active → Active) :
    SameBut [.fm] s (State.updActive s code inst f) :=
  .fm ..

theorem enterActive_frame (r : Raise) (notHandled : Bool) (s : State) :
    SameBut [.fm] s (enterActive r notHandled s) := by
  dsimp only [enterActive]
  refine .ite ?_ ?_
  · exact .refl
  · split
    · exact State.updActive_frame ..
    · exact .ite (.fm ..) (.step (.fm ..) (State.raise_frame ..))

theorem faultCapture_frame (r : Raise) (s : State) : SameBut [.cap] s (faultCapture r s) :=
  .ite (capTrigger_frame ..) .refl

theorem faultFo_frame (r : Raise) (s : State) : SameBut [.fm, .pair, .port] s (faultFo r s) :=
  .ite (State.assertFaultOut_frame ..) .refl

theorem handleDiscarded_frame (d : Option Raise) (s : State) :
    SameBut [.tx, .fm, .rcd] s (handleDiscarded d s) := by
  unfold handleDiscarded
  split
  · exact .step (recordAlways_frame ..) (enterActive_frame ..)
  · exact .refl

theorem startHandler_frame (r : Raise) (d : Option Raise) (s : State) :
    SameBut [.tx, .fm, .rcd, .pair, .port, .cap] s (startHandler r d s) :=
  .ite (.step (.step (.step (.step (.step (.mono (.fm ..)) (recordRun_frame ..)) (enterActive_frame ..))
    (faultCapture_frame ..)) (faultFo_frame ..)) (handleDiscarded_frame ..)) (.step (.step (.step (.step (.mono
    (.fm ..)) (recordRun_frame ..)) (enterActive_frame ..)) (faultCapture_frame ..)) (faultFo_frame ..))

theorem runNow_frame (r : Raise) (d : Option Raise) (s : State) :
    SameBut [.tx, .fm, .rcd, .pair, .port, .cap] s (runNow r d s) := by
  dsimp only [runNow]
  split
  · exact startHandler_frame ..
  · exact .step (.mono (.fm ..)) (startHandler_frame ..)

theorem countRaise_frame (r : Raise) (s : State) : SameBut [.fm] s (countRaise r s) :=
  .fm ..

theorem abandonDrill_frame (r : Raise) (s : State) : SameBut [.pair] s (abandonDrill r s) :=
  .ite (.pair ..) .refl

theorem discardRaise_frame (x : Raise) (s : State) :
    SameBut [.tx, .fm, .rcd, .pair, .port, .cap] s (discardRaise x s) :=
  .ite (.step (.step (.mono (.fm ..)) (faultFo_frame ..)) (State.setUnrecorded_frame ..)) (.ite (.step (.step
    (.step (.step (.mono (.fm ..)) (faultFo_frame ..)) (countRaise_frame ..)) (abandonDrill_frame ..))
    (runNow_frame ..)) (.step (.step (.step (.step (.mono (.fm ..)) (faultFo_frame ..)) (countRaise_frame ..))
    (abandonDrill_frame ..)) (.fm ..)))

theorem enqueueRaise_frame (r : Raise) (s : State) :
    SameBut [.tx, .fm, .rcd, .pair, .port, .cap] s (enqueueRaise r s) := by
  dsimp only [enqueueRaise]
  split
  · exact .step (.mono (.fm ..)) (discardRaise_frame ..)
  · exact .mono (.fm ..)

theorem coalesce_frame (r : Raise) (s : State) : SameBut [.fm] s (coalesce r s) :=
  .step (.fm ..) (State.updActive_frame ..)

theorem deliverRaise_frame (r : Raise) (s : State) :
    SameBut [.tx, .fm, .rcd, .pair, .port, .cap] s (deliverRaise r s) :=
  .ite (.step (.step (.mono (countRaise_frame ..)) (abandonDrill_frame ..)) (coalesce_frame ..)) (.ite (.step
    (.step (.mono (countRaise_frame ..)) (abandonDrill_frame ..)) (runNow_frame ..)) (.step (.step (.mono
    (countRaise_frame ..)) (abandonDrill_frame ..)) (enqueueRaise_frame ..)))

theorem raiseData_frame (code : Nat) (s : State) : SameBut [.freeCount] s (raiseData code s).2 := by
  unfold raiseData
  split
  · exact .freeCount ..
  · exact .freeCount ..
  · exact .freeCount ..
  · exact .refl

theorem State.takeRaise_frame (s : State) (code inst : Nat) :
    SameBut [.freeCount, .fm] s (s.takeRaise code inst).2 := by
  unfold State.takeRaise
  split
  · exact .mono (.fm ..)
  · exact .mono (raiseData_frame ..)

theorem faultRaiseEff_frame (code inst : Nat) (s : State) :
    SameBut [.freeCount, .tx, .fm, .rcd, .pair, .port, .cap] s (faultRaiseEff code inst s) :=
  .ite (.step (.mono (State.takeRaise_frame ..)) (deliverRaise_frame ..)) .refl

theorem resumeTop_frame (s : State) : SameBut [.fm] s (resumeTop s) := by
  dsimp only [resumeTop]
  split
  · exact .fm ..
  · exact .refl

theorem nextHandler.startNext_frame (h : Raise × Option Raise) (s : State) :
    SameBut [.tx, .fm, .rcd, .pair, .port, .cap] s (nextHandler.startNext h s) := by
  dsimp only [nextHandler.startNext]
  refine .step ?_ (startHandler_frame ..)
  split
  · exact .mono (.fm ..)
  · exact .mono (.fm ..)

theorem nextHandler_frame (s : State) : SameBut [.tx, .fm, .rcd, .pair, .port, .cap] s (nextHandler s) := by
  dsimp only [nextHandler]
  split
  · exact .ite (.mono (resumeTop_frame ..)) (nextHandler.startNext_frame ..)
  · exact nextHandler.startNext_frame ..
  · exact .mono (resumeTop_frame ..)
  · exact .refl

theorem handlerEndEff_frame (s : State) : SameBut [.tx, .fm, .rcd, .pair, .port, .cap] s (handlerEndEff s) := by
  dsimp only [handlerEndEff]
  split
  · exact .refl
  · exact .step (.ite (.mono (.fm_port ..)) (.mono (.fm ..))) (nextHandler_frame ..)

theorem overrunEff_frame (s : State) : SameBut [.fm] s (overrunEff s) := by
  dsimp only [overrunEff]
  split
  · exact .ite .refl (.step (.fm ..) (State.raise_frame ..))
  · exact .refl

theorem sweepActive_frame (s : State) : SameBut [.fm] s (sweepActive s) :=
  .fm ..

theorem conditionGoneEff_frame (code inst : Nat) (s : State) : SameBut [.fm] s (conditionGoneEff code inst s) :=
  .ite .refl (.step (State.updActive_frame ..) (sweepActive_frame ..))

theorem acknowledgeEff_frame (ses v : Nat) (s : State) : SameBut [.fm, .sess] s (acknowledgeEff ses v s) := by
  dsimp only [acknowledgeEff]
  refine .ite ?_ ?_
  · exact .step (.mono (.fm ..)) (sweepActive_frame ..)
  · split
    · exact .step (.mono (State.updActive_frame ..)) (sweepActive_frame ..)
    · exact .mono (State.violate_frame ..)

theorem faultsClearEff_frame (s : State) : SameBut [.fm] s (faultsClearEff s) :=
  .fm ..

theorem recordStart_frame (r : Raise) (s : State) : SameBut [.tx, .fm, .rcd, .cap] s (recordStart r s) :=
  .step (.step (.step (.mono (countRaise_frame ..)) (recordRun_frame ..)) (enterActive_frame ..))
    (faultCapture_frame ..)

theorem recordAtStart_frame (code : Nat) (data : Bytes) (s : State) :
    SameBut [.tx, .fm, .rcd, .cap] s (recordAtStart code data s) :=
  recordStart_frame ..

/-! ### Frames of the pair link (17) -/

theorem State.sendPair_frame (s : State) (typ : Nat) (handover : Bool) (data : Bytes) :
    SameBut [.tx, .pair] s (State.sendPair s typ handover data) :=
  .ite .refl (.step (.mono (.pair ..)) (State.send_frame ..))

theorem sendHello_frame (s : State) : SameBut [.tx, .pair] s (sendHello s) :=
  State.sendPair_frame ..

theorem recvPair_frame {l : List Part} {typ : Nat} {frame : Bytes} {f : PairMsg → State → State} {s : State}
    (hf : ∀ m s, SameBut l s (f m s)) (hl : [.pair] ⊆ l := by decide) :
    SameBut l s (recvPair typ frame f s) := by
  unfold recvPair
  refine .ite .refl ?_
  split
  · exact .mono (.pair ..) hl
  · exact .ite (.trans (.mono (.pair ..) hl) (hf ..)) .refl

theorem State.moveTimes_frame (d : ℤ) (s : State) :
    SameBut [.hw, .od, .fm, .rcd, .phases, .tph, .links, .edge, .trays, .alloc, .tows, .est, .feed, .gov, .gates,
      .ev, .tide, .pair, .sec, .cal, .grid, .port, .sess, .clk, .cap] s (State.moveTimes d s) :=
  .timed_parts
    ..

/-! ### Shelf time and PTP (13, 14) -/

theorem servo_frame (s : State) : SameBut [.freeCount, .clk] s (servo s) :=
  .step (.mono (State.draw_frame ..)) (.clk ..)

theorem largeOffset_frame (theta : ℤ) (s : State) : SameBut [.fm, .clk] s (largeOffset theta s) :=
  .ite (.mono (.clk ..)) (State.offsetIntoO_frame ..)

theorem toAcquiring_frame (within : Bool) (s : State) : SameBut [.clk] s (toAcquiring within s) :=
  .clk ..

theorem clockAfter_frame (theta : ℤ) (s : State) : SameBut [.fm, .est, .tide, .clk] s (clockAfter theta s) := by
  dsimp only [clockAfter]
  split
  · exact .mono (toAcquiring_frame ..)
  · exact .mono (toAcquiring_frame ..)
  · exact .ite (.step (.step (.trans (.mono (.clk ..)) (.forTrays (fun _ _ => (.mono (estLocked_frame ..)))))
      (State.hintsResume_frame ..)) (State.raise_frame ..)) (.mono (.clk ..))
  · exact .ite (.mono (toAcquiring_frame ..)) (.mono (.clk ..))
  · exact .refl

theorem offsetEff_frame (theta : ℤ) (x : PtpExchange) (s : State) :
    SameBut [.freeCount, .fm, .est, .tide, .clk] s (offsetEff theta x s) :=
  .ite .refl (.step (.step (.ite (.step (.mono (.clk ..)) (largeOffset_frame ..)) (.mono (.clk ..)))
    (clockAfter_frame ..)) (servo_frame ..))

theorem discardEff_frame (x : PtpExchange) (s : State) : SameBut [.fm, .clk] s (discardEff x s) :=
  .ite .refl (.trans (.mono (.clk ..)) (.when_ (fun _ => (.mono (State.raise_frame ..)))))

theorem holdoverEff_frame (s : State) : SameBut [.fm, .clk] s (holdoverEff s) :=
  .ite (.step (.mono (.clk ..)) (State.raise_frame ..)) .refl

theorem newMaster_frame (s : State) : SameBut [.freeCount, .clk] s (newMaster s) := by
  dsimp only [newMaster]
  split
  · exact .mono (.clk ..)
  · exact .freeCount_clk ..

theorem portStateEff_frame (slave master : Nat) (s : State) :
    SameBut [.freeCount, .clk] s (portStateEff slave master s) :=
  .ite .refl (.ite (.step (.step (.ite (newMaster_frame ..) .refl) (.clk ..)) (.clk ..)) (.step (.ite
    (newMaster_frame ..) .refl) (.clk ..)))

theorem applyStep_frame (d off : ℤ) (s : State) :
    SameBut [.now, .hw, .od, .fm, .rcd, .phases, .tph, .links, .edge, .trays, .alloc, .tows, .est, .feed, .gov,
      .gates, .ev, .tide, .pair, .sec, .cal, .grid, .slots, .port, .sess, .clk, .cap] s (applyStep d off s) :=
  .step (.trans (.step (.trans (.step (.mono (State.moveTimes_frame ..)) (.now_clk ..)) (.foldl fun _ _ => (.mono
    (beginRestart_frame ..)))) (.grid ..)) (.foldl fun _ _ => (.ite (.mono (restartSlot_frame ..)) .refl)))
    (capMarker_frame ..)

theorem stepEff_frame (s : State) :
    SameBut [.now, .hw, .od, .fm, .rcd, .phases, .tph, .links, .edge, .trays, .alloc, .tows, .est, .feed, .gov,
      .gates, .ev, .tide, .pair, .sec, .cal, .grid, .slots, .port, .sess, .clk, .cap] s (stepEff s) := by
  unfold stepEff
  refine .ite ?_ ?_
  · exact .refl
  · refine .ite ?_ ?_
    · exact .mono (State.dropStep_frame ..)
    · split
      · exact applyStep_frame ..
      · exact .refl

theorem timeFrameEff_frame (frame : Bytes) (s : State) :
    SameBut [.freeCount, .now, .tx, .hw, .od, .fm, .rcd, .phases, .tph, .links, .edge, .trays, .alloc, .tows, .est,
      .feed, .gov, .gates, .ev, .tide, .pair, .sec, .cal, .grid, .port, .sess, .clk, .cap] s
      (timeFrameEff frame s) :=
  recvPair_frame (fun _ _ => (.ite (.step (.step (.step (.ite .refl (.mono (State.moveTimes_frame ..)))
    (.freeCount_now_clk ..)) (State.hintsResume_frame ..)) (State.sendPair_frame ..)) .refl))

theorem ptpEmit_frame (kind : PtpMessage) (s : State) : SameBut [.tx, .port, .clk] s (ptpEmit kind s) := by
  dsimp only [ptpEmit]
  refine .ite ?_ ?_
  · exact .refl
  · split
    · exact .ite (.step (.step (.mono (.clk ..)) (State.sendJ1_frame ..)) (State.sendJ1_frame ..)) (.step (.mono
        (.clk ..)) (State.sendJ1_frame ..))
    · exact .step (.mono (.clk ..)) (State.sendJ1_frame ..)
    · exact .step (.mono (.clk ..)) (State.sendJ1_frame ..)

theorem ptpSendEff_frame (kind : PtpMessage) (s : State) : SameBut [.tx, .port, .clk] s (ptpSendEff kind s) :=
  .ite .refl (.ite (.step (.mono (.clk ..)) (.port ..)) (.step (.mono (.clk ..)) (ptpEmit_frame ..)))

theorem delayResp_frame (seq : Nat) (time : ℤ) (peer : Nat) (s : State) :
    SameBut [.tx, .port] s (delayResp seq time peer s) :=
  .ite (.mono (.port ..)) (State.sendJ1_frame ..)

theorem flushPtp_frame (s : State) : SameBut [.tx, .port, .clk] s (flushPtp s) := by
  dsimp only [flushPtp]
  refine .ite ?_ ?_
  · exact .refl
  · refine .trans ?_ (.foldl fun _ _ => ?_)
    · exact .mono (.port ..)
    · split
      · exact ptpEmit_frame ..
      · exact .mono (delayResp_frame ..)

theorem announceHeard_frame (port : Nat) (body : Bytes) (s : State) :
    SameBut [.freeCount, .clk] s (announceHeard port body s) :=
  .ite (.step (.mono (.clk ..)) (newMaster_frame ..)) (.mono (.clk ..))

theorem ptpArrives_frame (vlan : Nat) (p : Bytes) (s : State) :
    SameBut [.freeCount, .tx, .port, .clk] s (ptpArrives vlan p s) := by
  unfold ptpArrives
  split
  · exact .ite (.mono (announceHeard_frame ..)) .refl
  · exact .ite (.mono (delayResp_frame ..)) .refl
  · exact .refl

theorem crystalEff_frame (dev : Rat) (s : State) : SameBut [.fm, .clk] s (crystalEff dev s) :=
  .ite (.step (.step (.mono (.clk ..)) (.clk ..)) (State.raise_frame ..)) (.mono (.clk ..))

theorem pllEff_frame (i : Island) (s : State) :
    SameBut [.tx, .fm, .loop, .feed, .pair, .port, .clk] s (pllEff i s) := by
  dsimp only [pllEff]
  split
  · exact .step (.step (.step (.mono (.clk ..)) (State.assertFaultOut_frame ..)) (State.raise_frame ..))
      (tripLoop_frame ..)
  · exact .step (.step (.step (.mono (.clk ..)) (State.assertFaultOut_frame ..)) (State.raise_frame ..))
      (tripLoop_frame ..)
  · exact .mono (.clk ..)
  · exact .step (.mono (.clk ..)) (State.raise_frame ..)

theorem postExpiryEff_frame (s : State) : SameBut [.fm, .cap] s (postExpiryEff s) :=
  .ite (.step (.step (.mono (capMarker_frame ..)) (.cap ..)) (State.raise_frame ..)) .refl

theorem captureStartEff_frame (ses : Nat) (s : State) : SameBut [.sess, .cap] s (captureStartEff ses s) :=
  .ite (.mono (.cap ..)) (.mono (State.violate_frame ..))

theorem captureFreezeEff_frame (ses : Nat) (s : State) : SameBut [.sess, .cap] s (captureFreezeEff ses s) :=
  .ite (.mono (State.violate_frame ..)) (.mono (capTrigger_frame ..))

theorem captureReleaseEff_frame (ses : Nat) (s : State) : SameBut [.sess, .cap] s (captureReleaseEff ses s) :=
  .ite (.step (.mono (.cap ..)) (capMarker_frame ..)) (.mono (State.violate_frame ..))

theorem captureStopEff_frame (ses : Nat) (s : State) : SameBut [.sess, .cap] s (captureStopEff ses s) :=
  .ite (.mono (State.violate_frame ..)) (.mono (.cap ..))

/-! ### The manifest (17) -/

theorem mirrorGate_frame (g : Nat) (x : Gate) (s : State) : SameBut [.gates] s (mirrorGate g x s) := by
  dsimp only [mirrorGate]
  refine .ite ?_ ?_
  · exact .refl
  · refine .step ?_ (State.setGate_frame ..)
    refine .ite ?_ ?_
    · exact .refl
    · split
      · exact .gates ..
      · exact .gates ..

theorem holdTxn_frame (r : Txn) (s : State) : SameBut [.txn] s (holdTxn r s) :=
  .step (.txn ..) (copyTxn_frame ..)

theorem loadEntry_frame (id n : Nat) (e : Bytes) (s : State) :
    SameBut [.freeCount, .txn, .fm, .tows, .est, .gov, .gates, .tide, .grid, .sess] s (loadEntry id n e s) := by
  dsimp only [loadEntry]
  split
  · exact .step (.foldl fun _ _ => (.mono (bleedAccount_frame ..))) (.tows ..)
  · exact .mono (.tide ..)
  · exact .mono (.tide ..)
  · exact .mono (.tide ..)
  · exact .foldl fun _ _ => (.mono (State.updChip_frame ..))
  · exact .mono (.fm ..)
  · exact .trans (.mono (.freeCount ..)) (.foldl fun _ _ => (.mono (holdTxn_frame ..)))
  · exact .foldl fun _ _ => (.mono (mirrorGate_frame ..))
  · exact .mono (.sess ..)
  · split
    · exact .mono (.grid_sram _ _ (loadState_wf _ _ _ _))
    · exact .refl
  · exact .refl

/-! ### The calibration commands (19) -/

theorem dropMeasure_frame (e : Nat) (s : State) : SameBut [.phases, .links, .cal] s (dropMeasure e s) :=
  .ite (.mono (State.updPh_frame ..)) (.ite (.mono (State.updLink_frame ..)) (.ite (.mono (.cal ..)) .refl))

theorem calWrite_frame (e bits : Nat) (locked : Bool) (s : State) :
    SameBut [.od, .fm, .phases, .links, .cal] s (calWrite e bits locked s) :=
  .ite (.step (.step (.step (.step (.mono (State.setCal_frame ..)) (dropMeasure_frame ..))
    (State.pendStore_frame ..)) (.cal ..)) (State.raise_frame ..)) (.step (.step (.step (.mono
    (State.setCal_frame ..)) (dropMeasure_frame ..)) (State.pendStore_frame ..)) (.cal ..))

theorem calElements_frame (id first : Nat) :
    ∀ (i : Nat) (l : List Bytes) (s : State),
      SameBut [.od, .txn, .fm, .phases, .links, .cal] s (calElements id first i l s)
  | _, [], _ => .refl
  | _, _ :: rest, _ =>
    .ite (.trans (.step (.mono (calWrite_frame ..)) (txnElement_frame ..)) (calElements_frame id first _ rest _))
      (calElements_frame id first _ rest _)

theorem calBlockEff_frame (ses seq offset : Nat) (data : Bytes) (s : State) :
    SameBut [.od, .txn, .fm, .phases, .links, .cal, .sess] s (calBlockEff ses seq offset data s) :=
  .ite (.mono (State.violate_frame ..)) (.ite (.mono (txnLimit_frame ..)) (.step (.step (.step (.mono
    (openTxn_frame ..)) (.cal ..)) (calElements_frame ..)) (finishTxn_frame ..)))

theorem calScalarEff_frame (ses t sub value : Nat) (s : State) :
    SameBut [.od, .fm, .phases, .links, .cal, .sess] s (calScalarEff ses t sub value s) :=
  .ite (.mono (calWrite_frame ..)) (.mono (State.violate_frame ..))

theorem resetAnchors_frame (r : Nat) (s : State) : SameBut [.od, .cal] s (resetAnchors r s) :=
  .foldl fun _ _ => (.ite (.step (.mono (State.setCal_frame ..)) (State.pendStore_frame ..)) .refl)

theorem liveRoutinesEff_frame (ses v : Nat) (s : State) : SameBut [.od, .cal, .sess] s (liveRoutinesEff ses v s) :=
  .ite (.mono (State.violate_frame ..)) (.ite (.step (.ite (.step (.mono (State.storeCfg_frame ..))
    (resetAnchors_frame ..)) (.mono (State.storeCfg_frame ..))) (resetAnchors_frame ..)) (.ite (.step (.mono
    (State.storeCfg_frame ..)) (resetAnchors_frame ..)) (.mono (State.storeCfg_frame ..))))

theorem phaseOffsetEff_frame (t p : Nat) (s : State) : SameBut [.fm, .phases, .cal] s (phaseOffsetEff t p s) :=
  .ite .refl (.ite (.step (.mono (State.updPh_frame ..)) (State.updPh_frame ..)) (.ite (.step (.mono
    (State.updPh_frame ..)) (calMeasure_frame ..)) (.mono (State.updPh_frame ..))))

theorem dcOffsetEff_frame (t : Nat) (s : State) : SameBut [.fm, .links, .cal] s (dcOffsetEff t s) :=
  .ite .refl (.ite (.step (.mono (State.updLink_frame ..)) (State.updLink_frame ..)) (.ite (.step (.mono
    (State.updLink_frame ..)) (calMeasure_frame ..)) (.mono (State.updLink_frame ..))))

theorem startSecond_frame (s : State) : SameBut [.cal] s (startSecond s) :=
  .cal ..

theorem equaliseEff_frame (s : State) : SameBut [.fm, .cal] s (equaliseEff s) := by
  dsimp only [equaliseEff]
  split
  · exact .refl
  · exact .ite .refl (.ite (.mono (startSecond_frame ..)) (.step (.foldl fun _ _ => (calMeasure_frame ..))
      (startSecond_frame ..)))

theorem calLiveStoreEff_frame (s : State) : SameBut [.cal] s (calLiveStoreEff s) :=
  .ite (calStoreLive_frame ..) .refl

theorem calLockEff_frame (b : Bool) (s : State) : SameBut [.od, .cal] s (calLockEff b s) :=
  .foldl fun _ _ => (.step (.mono (State.setCal_frame ..)) (State.pendStore_frame ..))

theorem calClearEff_frame (s : State) : SameBut [.cal] s (calClearEff s) :=
  .cal ..

/-! ### Resets, start, flash, temperatures (15, 20, 21) -/

theorem keepCounters_frame (old s : State) :
    SameBut [.od, .fm, .edge, .gov, .gates, .ev, .tide, .pair, .sec, .cal, .grid, .port, .clk] s
      (keepCounters old s) :=
  .counting_parts ..

theorem loseVolatile_frame (powered : Bool) (s : State) :
    SameBut [.now, .hw, .od, .txn, .fm, .rcd, .loop, .phases, .tph, .links, .edge, .trays, .alloc, .tows, .feed,
      .gov,
      .gates, .ev, .tide, .pair, .sec, .cal, .grid, .slots, .dock, .port, .sess, .clk, .cap] s
        (loseVolatile powered s) := by
  refine .trans ?_ (.when_ fun _ => .mono (keepCounters_frame ..))
  exact ⟨fun p hp => by cases p <;> first | rfl | exact absurd (by decide) hp, fun _ => rfl⟩

theorem flushStaged_frame  : ∀ (n : Nat) (s : State), SameBut [.fm, .rcd] s (flushStaged n s)
  | 0, _ => .refl
  | n + 1, _ => .trans (flashRecordEff_frame ..) (flushStaged_frame n _)

theorem bootLine_frame (s : State) : SameBut [.freeCount, .tx] s (bootLine s) :=
  .step (.mono (.freeCount ..)) (State.send_frame ..)

theorem saysRole_frame {l : List Part} {f : State → State} {s : State} (hf : ∀ s, SameBut l s (f s))
    (hl : [.freeCount, .tx] ⊆ l := by decide) : SameBut l s (saysRole f s) :=
  .trans (hf s) (.when_ fun _ => .mono (bootLine_frame ..) hl)

theorem bootEff_frame (pins : BootPins) (s : State) :
    SameBut [.freeCount, .tx, .hw, .pair, .sec] s (bootEff pins s) :=
  .ite .refl (.step (.trans (.step (.step (.step (.step (.mono (bootLine_frame ..)) (bootLine_frame ..))
    (State.measure_frame ..)) (State.measure_frame ..)) (State.measure_frame ..)) (.when_ (fun _ => (.mono
    (bootLine_frame ..))))) (.hw_pair ..))

theorem loadSettings_frame (lost : List Nat) (s : State) : SameBut [.od] s (loadSettings lost s) :=
  .od ..

theorem loadCal_frame (lost : List Nat) (s : State) : SameBut [.cal] s (loadCal lost s) :=
  .trans (.cal ..) (.foldl fun _ _ => (.step (State.setCal_frame ..) (.cal ..)))

theorem loadTxns_frame (s : State) : SameBut [.txn] s (loadTxns s) :=
  .txn ..

theorem startRecord_frame (due : Bool) (code : Nat) (data : Bytes) (s : State) :
    SameBut [.tx, .fm, .rcd, .cap] s (startRecord due code data s) :=
  .ite (recordAtStart_frame ..) .refl

theorem startRecords_frame (lost : List Nat) (wasOpen : Bool) (s : State) :
    SameBut [.tx, .hw, .fm, .rcd, .sec, .cap] s (startRecords lost wasOpen s) := by
  dsimp only [startRecords]
  refine .step ?_ (.hw_sec ..)
  refine .step ?_ (startRecord_frame ..)
  refine .step ?_ (startRecord_frame ..)
  refine .step ?_ (startRecord_frame ..)
  refine .step ?_ (startRecord_frame ..)
  refine .step ?_ (startRecord_frame ..)
  split
  · refine .step ?_ (recordAtStart_frame ..)
    split
    · exact .mono (recordAtStart_frame ..)
    · exact .refl
  · split
    · exact .mono (recordAtStart_frame ..)
    · exact .refl

theorem recordInFlight_frame (s : State) : SameBut [.tx, .fm, .rcd, .cap] s (recordInFlight s) :=
  .trans (.mono (.fm ..)) (.foldl fun _ _ => (recordStart_frame ..))

theorem toStandby_frame (s : State) : SameBut [.pair, .clk] s (toStandby s) :=
  .pair_clk ..

theorem moduleStartEff_frame (lost : List Nat) (s : State) :
    SameBut [.freeCount, .tx, .hw, .od, .txn, .fm, .rcd, .trays, .alloc, .est, .feed, .gov, .gates, .pair, .sec,
      .cal, .port, .sess, .clk, .cap] s (moduleStartEff lost s) :=
  .ite .refl (.ite (.trans (.step (.step (.step (.step (.trans (.step (.step (.step (.step (.step (.step (.step
    (.mono (loadSettings_frame ..)) (loadCal_frame ..)) (loadTxns_frame ..)) (bootLine_frame ..))
    (.hw_od_pair ..)) (startRecords_frame ..)) (State.measure_frame ..)) (State.measure_frame ..)) (.forTrays
    (fun _ _ => (.mono (estStart_frame ..))))) (groupEnables_frame ..)) (governorGates_frame ..))
    (recordInFlight_frame ..)) (.port ..)) (saysRole_frame (fun _ => (.mono (toStandby_frame ..))))) (.step (.step
    (.step (.step (.trans (.step (.step (.step (.step (.step (.step (.step (.mono (loadSettings_frame ..))
    (loadCal_frame ..)) (loadTxns_frame ..)) (bootLine_frame ..)) (.hw_od_pair ..)) (startRecords_frame ..))
    (State.measure_frame ..)) (State.measure_frame ..)) (.forTrays (fun _ _ => (.mono (estStart_frame ..)))))
    (groupEnables_frame ..)) (governorGates_frame ..)) (recordInFlight_frame ..)) (.port ..)))

theorem sendStore_frame (key : Nat) (s : State) : SameBut [.tx, .pair] s (sendStore key s) :=
  .ite (State.sendPair_frame ..) .refl

theorem storeKey_frame (key : Nat) (s : State) : SameBut [.tx, .od, .pair, .cal] s (storeKey key s) :=
  .ite (.step (.mono (.od ..)) (.od_cal ..)) (.step (.step (.mono (.od ..)) (.od ..)) (sendStore_frame ..))

theorem tryStore_frame (key : Nat) (ok : Bool) (s : State) :
    SameBut [.tx, .od, .fm, .pair, .cal] s (tryStore key ok s) :=
  .ite (.mono (storeKey_frame ..)) (.step (.mono (.od ..)) (State.raise_frame ..))

theorem storeEff_frame (key : Nat) (ok : Bool) (s : State) :
    SameBut [.tx, .od, .fm, .pair, .cal] s (storeEff key ok s) := by
  unfold storeEff
  split
  · exact .ite .refl (tryStore_frame ..)
  · exact tryStore_frame ..
  · exact .refl

theorem storeRetryEff_frame (key : Nat) (ok : Bool) (s : State) :
    SameBut [.tx, .od, .fm, .pair, .cal] s (storeRetryEff key ok s) := by
  unfold storeRetryEff
  split
  · exact .ite (tryStore_frame ..) .refl
  · exact .refl

theorem storeAllEff_frame (s : State) : SameBut [.freeCount, .tx, .od, .fm, .pair, .cal] s (storeAllEff s) :=
  .foldl fun _ _ => (.step (.mono (.freeCount ..)) (tryStore_frame ..))

theorem txnCopyEff_frame (s : State) : SameBut [.txn] s (txnCopyEff s) :=
  .foldl fun _ _ => (copyTxn_frame ..)

theorem thermalEff_frame (j i : Rat) (s : State) : SameBut [.hw, .fm] s (thermalEff j i s) :=
  .trans (.trans (.mono (.hw ..)) (.when_ (fun _ => (.mono (State.raise_frame ..))))) (.when_ (fun _ => (.mono
    (State.raise_frame ..))))

theorem recordDying_frame (s : State) : SameBut [.tx, .fm, .rcd] s (recordDying s) :=
  .step (recordAlways_frame ..) (flushStaged_frame ..)

theorem withdrawnEff_frame (s : State) : SameBut [.tx, .hw, .fm, .rcd] s (withdrawnEff s) :=
  .trans (.step (.when_ (fun _ => (.mono (recordDying_frame ..)))) (.hw ..)) (.when_ (fun _ => (.mono
    (State.raise_frame ..))))

theorem markEff_frame (on : Bool) (s : State) : SameBut [.od] s (markEff on s) :=
  .od ..

end Sys2Proof.Machine
end


section
/-! SUPPORT. Proof: the pair, the towpath, the image, the port and the dictionary touch only their own parts of the state (05, 14, 15, 17, 20). -/

namespace Sys2Proof.Machine

set_option Elab.async false

/-! ### The pair (17) -/

theorem State.updPair_frame (s : State) (f : Pair → Pair) : SameBut [.pair] s (State.updPair s f) :=
  .pair ..

theorem claimShelf_frame (s : State) : SameBut [.tx, .fm, .port] s (claimShelf s) :=
  .ite .refl (.step (.trans (.trans (.mono (.port ..)) (.when_ (fun _ => (.mono (State.sendNear_frame ..)))))
    (.when_ (fun _ => (.mono (State.sendNear_frame ..))))) (State.raise_frame ..))

theorem becomeActive_frame (s : State) : SameBut [.tx, .fm, .pair, .port] s (becomeActive s) :=
  .step (.step (.mono (State.updPair_frame ..)) (claimShelf_frame ..)) (readModes_frame ..)

theorem decideEff_frame (s : State) : SameBut [.freeCount, .tx, .fm, .pair, .port, .clk] s (decideEff s) :=
  .ite .refl (.ite (saysRole_frame (fun _ => (.mono (toStandby_frame ..)))) (.ite (saysRole_frame (fun _ => (.mono
    (becomeActive_frame ..)))) .refl))

theorem sendStoredSet_frame (s : State) : SameBut [.tx, .pair] s (sendStoredSet s) :=
  .foldl fun _ _ => (State.sendPair_frame ..)

theorem decideByPosition_frame (partner : Nat) (s : State) :
    SameBut [.tx, .fm, .pair, .port, .clk] s (decideByPosition partner s) :=
  .ite (.ite .refl (.step (.mono (State.updPair_frame ..)) (State.raise_frame ..))) (.ite (.step (.mono
    (becomeActive_frame ..)) (sendStoredSet_frame ..)) (.mono (toStandby_frame ..)))

theorem helloEff_frame (frame : Bytes) (s : State) :
    SameBut [.freeCount, .tx, .fm, .pair, .port, .clk] s (helloEff frame s) :=
  recvPair_frame (fun _ _ => (.ite (.ite (.trans (.mono (State.updPair_frame ..)) (saysRole_frame (fun _ => (.mono
    (toStandby_frame ..))))) (.ite (.trans (.mono (State.updPair_frame ..)) (saysRole_frame (fun _ => (.mono
    (decideByPosition_frame ..))))) (.mono (State.updPair_frame ..)))) (.mono (State.updPair_frame ..))))

theorem pairUpEff_frame (s : State) : SameBut [.tx, .fm, .pair] s (pairUpEff s) :=
  .ite .refl (.ite (.mono (State.updPair_frame ..)) (.ite (.step (.step (.step (.mono (State.updPair_frame ..))
    (State.raise_frame ..)) (sendHello_frame ..)) (sendStoredSet_frame ..)) (.step (.step (.mono
    (State.updPair_frame ..)) (State.raise_frame ..)) (sendHello_frame ..))))

theorem pairLaneEff_frame (s : State) : SameBut [.fm, .pair] s (pairLaneEff s) :=
  .ite (.step (.mono (State.updPair_frame ..)) (State.raise_frame ..)) .refl

theorem finishLayout_frame (s : State) : SameBut [.txn, .pair] s (finishLayout s) := by
  dsimp only [finishLayout]
  split
  · exact .ite .refl (.step (.step (.foldl fun _ _ => (.mono (txnElement_frame ..))) (finishTxn_frame ..))
      (State.updPair_frame ..))
  · exact .refl

theorem pairDownEff_frame (s : State) : SameBut [.txn, .fm, .pair, .clk] s (pairDownEff s) :=
  .ite .refl (.ite (.step (.step (.step (.step (.mono (State.updPair_frame ..)) (State.raise_frame ..))
    (finishLayout_frame ..)) (.clk ..)) (State.raise_frame ..)) (.step (.step (.mono (State.updPair_frame ..))
    (State.raise_frame ..)) (finishLayout_frame ..)))

theorem layoutTakes_frame (s : State) : SameBut [.txn, .pair] s (layoutTakes s) := by
  dsimp only [layoutTakes]
  split
  · exact .ite (.step (.mono (State.updPair_frame ..)) (finishLayout_frame ..)) (.mono (State.updPair_frame ..))
  · exact .refl

theorem sendManifest_frame (handover : Bool) (s : State) : SameBut [.tx, .txn, .pair] s (sendManifest handover s) :=
  .trans (.step (.mono (State.updPair_frame ..)) (layoutTakes_frame ..)) (.foldl fun _ _ => (.mono
    (State.sendPair_frame ..)))

theorem manifestSendEff_frame (s : State) : SameBut [.tx, .txn, .pair] s (manifestSendEff s) :=
  .ite .refl (.step (sendManifest_frame ..) (State.updPair_frame ..))

theorem drillDone_frame (s : State) : SameBut [.loop, .pair, .clk] s (drillDone s) :=
  .ite .refl (.loop_pair_clk ..)

theorem commitManifest_frame (no : Nat) (m : Bytes) (s : State) :
    SameBut [.tx, .loop, .pair, .clk] s (commitManifest no m s) :=
  .step (.step (.step (.mono (State.updPair_frame ..)) (.clk ..)) (drillDone_frame ..)) (State.sendPair_frame ..)

theorem refuseManifest_frame (s : State) : SameBut [.fm, .pair] s (refuseManifest s) :=
  .ite (.step (.step (.mono (State.updPair_frame ..)) (State.updPair_frame ..)) (State.raise_frame ..)) (.mono
    (State.updPair_frame ..))

theorem manifestPartEff_frame (frame : Bytes) (s : State) :
    SameBut [.tx, .fm, .loop, .pair, .clk] s (manifestPartEff frame s) :=
  recvPair_frame (fun _ _ => (.ite .refl (.ite (.mono (State.updPair_frame ..)) (.ite (.step (.mono
    (State.updPair_frame ..)) (commitManifest_frame ..)) (.step (.mono (State.updPair_frame ..))
    (refuseManifest_frame ..))))))

theorem pairAckEff_frame (frame : Bytes) (s : State) : SameBut [.txn, .pair] s (pairAckEff frame s) :=
  recvPair_frame (fun _ _ => (.ite .refl (.ite (.step (.mono (State.updPair_frame ..)) (finishLayout_frame ..))
    (.mono (State.updPair_frame ..)))))

theorem layoutCommitEff_frame (ses seq : Nat) (s : State) :
    SameBut [.txn, .fm, .pair, .sec, .sess] s (layoutCommitEff ses seq s) :=
  .ite (.step (.mono (State.violate_frame ..)) (State.raise_frame ..)) (.ite (.mono (txnLimit_frame ..)) (.step
    (.step (.step (.ite .refl (.mono (finishTxn_frame ..))) (openTxn_frame ..)) (State.updPair_frame ..))
    (State.measure_frame ..)))

theorem enterTaking_frame (cause : Nat) (s : State) : SameBut [.pair] s (enterTaking cause s) :=
  State.updPair_frame ..

theorem manifestMissedEff_frame (s : State) : SameBut [.fm, .pair] s (manifestMissedEff s) :=
  .ite .refl (.ite .refl (.ite (.mono (State.updPair_frame ..)) (.ite (.step (.mono (State.updPair_frame ..))
    (enterTaking_frame ..)) (.ite (.mono (State.updPair_frame ..)) (.step (.step (.mono (State.updPair_frame ..))
    (State.updPair_frame ..)) (State.raise_frame ..))))))

theorem faultInEff_frame (s : State) : SameBut [.fm, .pair] s (faultInEff s) := by
  dsimp only [faultInEff]
  split
  · exact .step (.ite .refl (.mono (State.updPair_frame ..))) (enterTaking_frame ..)
  · exact .step (.ite .refl (.mono (State.updPair_frame ..))) (State.raise_frame ..)
  · exact .ite .refl (.mono (State.updPair_frame ..))

theorem roleInFallEff_frame (s : State) : SameBut [.pair] s (roleInFallEff s) :=
  .ite (.step (State.updPair_frame ..) (enterTaking_frame ..)) (State.updPair_frame ..)

theorem takeNowEff_frame (ses : Nat) (s : State) : SameBut [.pair, .sess] s (takeNowEff ses s) :=
  .ite (.mono (enterTaking_frame ..)) (.mono (State.violate_frame ..))

theorem pairHandoverEff_frame (frame : Bytes) (s : State) : SameBut [.pair] s (pairHandoverEff frame s) :=
  recvPair_frame (fun _ _ => (.ite (enterTaking_frame ..) .refl))

theorem drillEff_frame (ses : Nat) (s : State) : SameBut [.pair, .sess] s (drillEff ses s) :=
  .ite (.mono (State.violate_frame ..)) (.ite .refl (.mono (State.updPair_frame ..)))

theorem drillAbandonEff_frame (s : State) : SameBut [.pair] s (drillAbandonEff s) := by
  unfold drillAbandonEff
  split
  · exact .ite (State.updPair_frame ..) .refl
  · exact .refl

theorem standbyTestEff_frame (failed : Nat) (s : State) :
    SameBut [.fm, .gates, .ev, .tide, .pair, .grid, .slots] s (standbyTestEff failed s) :=
  .ite .refl (.ite (.trans (.mono (State.updPair_frame ..)) (.foldl fun _ _ => (.mono (coreFailedEff_frame ..))))
    (.step (.trans (.mono (State.updPair_frame ..)) (.foldl fun _ _ => (.mono (coreFailedEff_frame ..))))
    (State.raise_frame ..)))

theorem pairClearEff_frame (s : State) : SameBut [.pair] s (pairClearEff s) :=
  State.updPair_frame ..

theorem layoutDiscardEff_frame (s : State) : SameBut [.od] s (layoutDiscardEff s) :=
  State.setCfg_frame ..

/-! ### The towpath (05) -/

theorem towSend_frame (t : Nat) (south : Bool) (code f l : Nat) (payload : Bytes) (s : State) :
    SameBut [.tx] s (towSend t south code f l payload s) :=
  State.send_frame ..

theorem queueConfig_frame (t : Nat) (regs : List Nat) (enum : Bool) (s : State) :
    SameBut [.tows] s (queueConfig t regs enum s) :=
  State.updTow_frame ..

theorem queueEnables_frame (t m : Nat) (s : State) : SameBut [.tows] s (queueEnables t m s) :=
  State.updTow_frame ..

theorem cfgCheck_frame (t : Nat) (s : State) : SameBut [.trays, .tows] s (cfgCheck t s) :=
  .ite (.step (.mono (State.updTow_frame ..)) (startDrives_frame ..)) .refl

theorem derate_frame (t : Nat) (s : State) : SameBut [.trays] s (derate t s) :=
  State.updTray_frame ..

theorem markSuspect_frame (t m cells : Nat) (lines : List Nat) (s : State) :
    SameBut [.txn, .fm, .loop, .tph, .trays, .alloc, .tows, .sess] s (markSuspect t m cells lines s) :=
  .ite (.step (.step (.step (.step (.mono (State.updTow_frame ..)) (queueEnables_frame ..)) (derate_frame ..))
    (State.raise_frame ..)) (drainAsCommand_frame ..)) (.step (.step (.mono (State.updTow_frame ..))
    (queueEnables_frame ..)) (derate_frame ..))

theorem markUnreadable_frame (t cells inst : Nat) (s : State) :
    SameBut [.txn, .fm, .loop, .tph, .trays, .alloc, .tows, .sess] s (markUnreadable t cells inst s) :=
  .step (.step (.mono (State.updTow_frame ..)) (State.raise_frame ..)) (moduleDrain_frame ..)

theorem monUnreadable_frame (t m : Nat) (s : State) :
    SameBut [.txn, .fm, .loop, .tph, .trays, .alloc, .tows, .sess] s (monUnreadable t m s) :=
  .ite .refl (markUnreadable_frame ..)

theorem publishSweep_frame (t : Nat) (s : State) : SameBut [.trays, .tows, .est] s (publishSweep t s) :=
  .step (.ite (.mono (State.updTow_frame ..)) (.step (.mono (State.updTow_frame ..)) (State.updTray_frame ..)))
    (State.updEst_frame ..)

theorem ringCycle_frame (southMissed t : Nat) (s : State) :
    SameBut [.tx, .trays, .tows, .est] s (ringCycle southMissed t s) :=
  .ite .refl (.ite (.step (.step (.step (.ite (.step (.ite (.mono (publishSweep_frame ..)) .refl)
    (State.updTow_frame ..)) (.ite (.mono (publishSweep_frame ..)) .refl)) (State.updTow_frame ..))
    (State.updTow_frame ..)) (towSend_frame ..)) (.ite (.step (.step (.step (.ite (.step (.ite (.mono
    (publishSweep_frame ..)) .refl) (State.updTow_frame ..)) (.ite (.mono (publishSweep_frame ..)) .refl))
    (State.updTow_frame ..)) (State.updTow_frame ..)) (towSend_frame ..)) (.ite (.step (.step (.ite (.step (.step
    (.step (.ite (.step (.ite (.mono (publishSweep_frame ..)) .refl) (State.updTow_frame ..)) (.ite (.mono
    (publishSweep_frame ..)) .refl)) (State.updTow_frame ..)) (State.updTow_frame ..)) (towSend_frame ..)) (.step
    (.step (.ite (.step (.ite (.mono (publishSweep_frame ..)) .refl) (State.updTow_frame ..)) (.ite (.mono
    (publishSweep_frame ..)) .refl)) (State.updTow_frame ..)) (State.updTow_frame ..))) (State.updTow_frame ..))
    (towSend_frame ..)) (.step (.ite (.step (.step (.step (.ite (.step (.ite (.mono
    (publishSweep_frame ..)) .refl) (State.updTow_frame ..)) (.ite (.mono (publishSweep_frame ..)) .refl))
    (State.updTow_frame ..)) (State.updTow_frame ..)) (towSend_frame ..)) (.step (.step (.ite (.step (.ite (.mono
    (publishSweep_frame ..)) .refl) (State.updTow_frame ..)) (.ite (.mono (publishSweep_frame ..)) .refl))
    (State.updTow_frame ..)) (State.updTow_frame ..))) (State.updTow_frame ..)))))

theorem towpathCycleEff_frame (southMissed : Nat) (s : State) :
    SameBut [.tx, .trays, .tows, .est] s (towpathCycleEff southMissed s) :=
  .ite (.forTrays (fun _ _ => (ringCycle_frame ..))) .refl

theorem cfgReply_frame (t h : Nat) (d : Bytes) (s : State) : SameBut [.trays, .tows] s (cfgReply t h d s) :=
  .ite .refl (.step (.mono (State.updTow_frame ..)) (cfgCheck_frame ..))

theorem towReplyEff_frame (t : Nat) (frame : Bytes) (s : State) :
    SameBut [.trays, .tows] s (towReplyEff t frame s) := by
  dsimp only [towReplyEff]
  split
  · exact .refl
  · exact .ite .refl (.ite (.ite (.mono (State.updTow_frame ..)) .refl) (.ite (.ite (.mono
      (State.updTow_frame ..)) .refl) (.ite (.mono (State.updTow_frame ..)) (cfgReply_frame ..))))

theorem ringVerdict_frame (t : Nat) (s : State) : SameBut [.fm, .tows] s (ringVerdict t s) :=
  .ite .refl (.ite (.ite (.mono (State.updTow_frame ..)) .refl) (.ite (.step (.step (.mono
    (State.updTow_frame ..)) (State.updTow_frame ..)) (State.raise_frame ..)) (.mono (State.updTow_frame ..))))

theorem discardTest_frame (t : Nat) (s : State) : SameBut [.tows] s (discardTest t s) :=
  State.updTow_frame ..

theorem classifyBreak_frame (t h : Nat) (s : State) :
    SameBut [.txn, .fm, .loop, .tph, .trays, .alloc, .tows, .sess] s (classifyBreak t h s) :=
  .ite (.ite (.ite (.step (.mono (State.updTow_frame ..)) (discardTest_frame ..)) (.step (.step (.mono
    (State.updTow_frame ..)) (discardTest_frame ..)) (State.raise_frame ..))) (.mono (State.updTow_frame ..)))
    (.ite (.step (.ite .refl (.mono (discardTest_frame ..))) (State.updTow_frame ..)) (.trans (.step (.ite .refl
    (.mono (discardTest_frame ..))) (State.updTow_frame ..)) (.foldl fun _ _ => (monUnreadable_frame ..))))

theorem southVerdict_frame (t : Nat) (s : State) :
    SameBut [.txn, .fm, .loop, .tph, .trays, .alloc, .tows, .sess] s (southVerdict t s) :=
  .ite (classifyBreak_frame ..) .refl

theorem plausSendEff_frame (t : Nat) (s : State) :
    SameBut [.tx, .txn, .fm, .loop, .tph, .trays, .alloc, .tows, .est, .sess] s (plausSendEff t s) :=
  .ite (.ite (.step (.step (.step (.step (.mono (State.updTow_frame ..)) (publishSweep_frame ..))
    (ringVerdict_frame ..)) (southVerdict_frame ..)) (State.updTow_frame ..)) (.ite (.step (.step (.step (.step
    (.step (.mono (State.updTow_frame ..)) (publishSweep_frame ..)) (ringVerdict_frame ..))
    (southVerdict_frame ..)) (State.updTow_frame ..)) (towSend_frame ..)) (.ite (.step (.ite (.step (.step (.step
    (.step (.step (.mono (State.updTow_frame ..)) (publishSweep_frame ..)) (ringVerdict_frame ..))
    (southVerdict_frame ..)) (State.updTow_frame ..)) (towSend_frame ..)) (.step (.step (.step (.step (.mono
    (State.updTow_frame ..)) (publishSweep_frame ..)) (ringVerdict_frame ..)) (southVerdict_frame ..))
    (State.updTow_frame ..))) (towSend_frame ..)) (.ite (.step (.step (.step (.step (.step (.mono
    (State.updTow_frame ..)) (publishSweep_frame ..)) (ringVerdict_frame ..)) (southVerdict_frame ..))
    (State.updTow_frame ..)) (towSend_frame ..)) (.step (.step (.step (.step (.mono (State.updTow_frame ..))
    (publishSweep_frame ..)) (ringVerdict_frame ..)) (southVerdict_frame ..)) (State.updTow_frame ..)))))) .refl

theorem southRecoveryEff_frame (t : Nat) (s : State) : SameBut [.tx, .tows] s (southRecoveryEff t s) :=
  .ite (.step (.mono (State.updTow_frame ..)) (towSend_frame ..)) .refl

theorem breakClassifyEff_frame (t : Nat) (s : State) :
    SameBut [.txn, .fm, .loop, .tph, .trays, .alloc, .tows, .est, .sess] s (breakClassifyEff t s) :=
  .ite (.step (.step (.mono (publishSweep_frame ..)) (classifyBreak_frame ..)) (State.updTow_frame ..)) .refl

theorem ringWholeEff_frame (t : Nat) (s : State) : SameBut [.fm, .tows] s (ringWholeEff t s) :=
  .ite (.step (.mono (State.updTow_frame ..)) (State.raise_frame ..)) .refl

theorem takePlaus_frame (t : Nat) (s : State) : SameBut [.tows] s (takePlaus t s) :=
  State.updTow_frame ..

theorem plausComparisonEff_frame (t : Nat) (s : State) : SameBut [.tows] s (plausComparisonEff t s) :=
  .ite (.step (takePlaus_frame ..) (State.updTow_frame ..)) .refl

theorem senseSuspicionEff_frame (t m : Nat) (s : State) : SameBut [.tows] s (senseSuspicionEff t m s) :=
  .ite (.step (.step (State.updTow_frame ..) (queueEnables_frame ..)) (State.updTow_frame ..)) .refl

theorem openScheduledEff_frame (t : Nat) (s : State) : SameBut [.tows] s (openScheduledEff t s) :=
  .ite (.ite (State.updTow_frame ..) (State.updTow_frame ..)) .refl

theorem senseDecide_frame (t m : Nat) (lines cells : List Nat) (above : Nat → Bool) (sumOk suspicion : Bool)
    (s : State) :
    SameBut [.txn, .fm, .loop, .tph, .trays, .alloc, .tows, .sess] s
      (senseDecide t m lines cells above sumOk suspicion s) := by
  dsimp only [senseDecide]
  refine .ite ?_ ?_
  · exact .foldl fun _ _ => (.step (.mono (State.raise_frame ..)) (markSuspect_frame ..))
  · refine .ite ?_ ?_
    · exact .refl
    · split
      · exact .ite (.step (.mono (State.raise_frame ..)) (markSuspect_frame ..)) .refl
      · exact .ite (.step (.mono (State.raise_frame ..)) (markSuspect_frame ..)) (.ite .refl (.ite (.step (.mono
          (State.raise_frame ..)) (markSuspect_frame ..)) (.step (.mono (State.updTow_frame ..))
          (State.raise_frame ..))))
      · exact .ite (.step (.mono (State.updTow_frame ..)) (State.raise_frame ..)) .refl
      · exact .step (.mono (State.raise_frame ..)) (monUnreadable_frame ..)

theorem evalMonitor_frame (t : Nat) (x : OpenTest) (m : Nat) (s : State) :
    SameBut [.txn, .fm, .loop, .tph, .trays, .alloc, .tows, .sess] s (evalMonitor t x m s) := by
  dsimp only [evalMonitor]
  refine .ite ?_ ?_
  · exact .refl
  · refine .ite ?_ ?_
    · exact .ite (.mono (State.updTow_frame ..)) .refl
    · split
      · exact .step (.step (.mono (State.updTow_frame ..)) (senseDecide_frame ..)) (queueEnables_frame ..)
      · exact .step (.mono (State.updTow_frame ..)) (senseDecide_frame ..)

theorem openEvaluateEff_frame (t : Nat) (s : State) :
    SameBut [.txn, .fm, .loop, .tph, .trays, .alloc, .tows, .sess] s (openEvaluateEff t s) := by
  dsimp only [openEvaluateEff]
  split
  · exact .ite (.step (.foldl fun _ _ => (evalMonitor_frame ..)) (State.updTow_frame ..)) .refl
  · exact .refl

theorem balanceStep_frame (t : Nat) (s : State) : SameBut [.tows, .est] s (balanceStep t s) :=
  .step (.mono (bleedAccount_frame ..)) (State.updTow_frame ..)

theorem balanceResendEff_frame (t : Nat) (s : State) : SameBut [.tows] s (balanceResendEff t s) :=
  State.updTow_frame ..

theorem cmdSend_frame (t off : Nat) (q : TowCmd) (s : State) : SameBut [.tx, .tows] s (cmdSend t off q s) := by
  dsimp only [cmdSend]
  split
  · split
    · exact .step (.mono (State.updTow_frame ..)) (towSend_frame ..)
    · exact .refl
  · split
    · exact .step (.mono (State.updTow_frame ..)) (towSend_frame ..)
    · exact .refl
  · refine .ite ?_ ?_
    · exact .ite (.step (.ite (.step (.mono (State.updTow_frame ..)) (towSend_frame ..)) (.mono
        (State.updTow_frame ..))) (towSend_frame ..)) (.ite (.step (.mono (State.updTow_frame ..))
        (towSend_frame ..)) (.mono (State.updTow_frame ..)))
    · refine .trans ?_ (.foldl fun _ _ => ?_)
      · exact .mono (State.updTow_frame ..)
      · refine .ite ?_ ?_
        · split
          · exact .mono (towSend_frame ..)
          · exact .refl
        · exact .refl
  · split
    · exact .step (.mono (State.updTow_frame ..)) (towSend_frame ..)
    · exact .refl

theorem windowSend_frame (t : Nat) :
    ∀ (n off : Nat) (q : List TowCmd) (s : State), SameBut [.tx, .tows] s (windowSend t n off q s)
  | 0, _, _, _ => .mono (State.updTow_frame ..)
  | _ + 1, _, [], _ => .refl
  | n + 1, off, q :: rest, s => by
    dsimp only [windowSend]
    split
    · exact .trans (.mono (State.updTow_frame ..)) (windowSend_frame t n ..)
    · exact .ite (.trans (cmdSend_frame ..) (windowSend_frame t n ..)) (.mono (State.updTow_frame ..))

theorem enumFinish_frame (t : Nat) (s : State) :
    SameBut [.od, .txn, .fm, .loop, .tph, .trays, .alloc, .tows, .est, .cal, .sess] s (enumFinish t s) :=
  .step (.ite (.ite (.mono (State.updTow_frame ..)) (.trans (.step (.mono (State.updTow_frame ..))
    (State.raise_frame ..)) (.foldl fun _ _ => (.mono (monUnreadable_frame ..))))) (.ite (.step (.step (.mono
    (State.updTow_frame ..)) (State.updTow_frame ..)) (newTray_frame ..)) (.step (.mono (State.updTow_frame ..))
    (State.updTow_frame ..)))) (queueConfig_frame ..)

theorem requeue_frame (t : Nat) (s : State) : SameBut [.tows] s (requeue t s) :=
  State.updTow_frame ..

theorem commandWindowEff_frame (t : Nat) (s : State) :
    SameBut [.tx, .od, .txn, .fm, .loop, .tph, .trays, .alloc, .tows, .est, .cal, .sess] s (commandWindowEff t s) :=
  .ite (.step (.step (.step (.step (.ite (.step (.ite (.step (.mono (requeue_frame ..)) (enumFinish_frame ..))
    (.mono (requeue_frame ..))) (State.updTow_frame ..)) (.ite (.step (.mono (requeue_frame ..))
    (enumFinish_frame ..)) (.mono (requeue_frame ..)))) (balanceStep_frame ..)) (State.updTow_frame ..))
    (windowSend_frame ..)) (State.updTow_frame ..)) .refl

theorem cellUnreadableEff_frame (t c : Nat) (s : State) :
    SameBut [.txn, .fm, .loop, .tph, .trays, .alloc, .tows, .sess] s (cellUnreadableEff t c s) :=
  .ite (.ite (markUnreadable_frame ..) (markUnreadable_frame ..)) .refl

theorem weirRunEnd_frame (t : Nat) (s : State) : SameBut [.tph, .trays, .tows] s (weirRunEnd t s) := by
  dsimp only [weirRunEnd]
  split
  · exact .ite (.ite (.step (.step (.mono (State.updTow_frame ..)) (State.updTray_frame ..))
      (enterCheck_frame ..)) (.mono (State.updTow_frame ..))) .refl
  · exact .refl

theorem weirTray_frame (t : Nat) (s : State) :
    SameBut [.txn, .fm, .loop, .phases, .tph, .trays, .alloc] s (weirTray t s) := by
  dsimp only [weirTray]
  split
  · refine .step ?_ (trayOpenFault_frame ..)
    refine .step ?_ (abandonCheck_frame ..)
    split
    · exact .refl
    · exact .refl
    · exact .refl
    · exact .mono (State.updTray_frame ..)
  · refine .step ?_ (trayOpenFault_frame ..)
    refine .step ?_ (interruptDrain_frame ..)
    split
    · exact .refl
    · exact .refl
    · exact .refl
    · exact .mono (State.updTray_frame ..)
  · refine .step ?_ (trayOpenFault_frame ..)
    refine .step ?_ (interruptDrain_frame ..)
    split
    · exact .refl
    · exact .refl
    · exact .refl
    · exact .mono (State.updTray_frame ..)
  · refine .ite ?_ ?_
    · refine .step ?_ (State.updTray_frame ..)
      refine .step ?_ (testOver_frame ..)
      refine .step ?_ (.alloc ..)
      refine .ite ?_ ?_
      · refine .step ?_ (leavesSet_frame ..)
        refine .step ?_ (interruptDrain_frame ..)
        split
        · exact .refl
        · exact .refl
        · exact .refl
        · exact .mono (State.updTray_frame ..)
      · refine .step ?_ (slackOver_frame ..)
        refine .step ?_ (interruptDrain_frame ..)
        split
        · exact .refl
        · exact .refl
        · exact .refl
        · exact .mono (State.updTray_frame ..)
    · refine .step ?_ (trayOpenFault_frame ..)
      refine .step ?_ (.alloc ..)
      refine .ite ?_ ?_
      · refine .step ?_ (leavesSet_frame ..)
        refine .step ?_ (interruptDrain_frame ..)
        split
        · exact .refl
        · exact .refl
        · exact .refl
        · exact .mono (State.updTray_frame ..)
      · refine .step ?_ (slackOver_frame ..)
        refine .step ?_ (interruptDrain_frame ..)
        split
        · exact .refl
        · exact .refl
        · exact .refl
        · exact .mono (State.updTray_frame ..)
  · refine .ite ?_ ?_
    · refine .step ?_ (State.updTray_frame ..)
      refine .step ?_ (testOver_frame ..)
      refine .step ?_ (.alloc ..)
      refine .ite ?_ ?_
      · refine .step ?_ (leavesSet_frame ..)
        refine .step ?_ (interruptDrain_frame ..)
        split
        · exact .refl
        · exact .refl
        · exact .refl
        · exact .mono (State.updTray_frame ..)
      · refine .step ?_ (slackOver_frame ..)
        refine .step ?_ (interruptDrain_frame ..)
        split
        · exact .refl
        · exact .refl
        · exact .refl
        · exact .mono (State.updTray_frame ..)
    · refine .step ?_ (trayOpenFault_frame ..)
      refine .step ?_ (.alloc ..)
      refine .ite ?_ ?_
      · refine .step ?_ (leavesSet_frame ..)
        refine .step ?_ (interruptDrain_frame ..)
        split
        · exact .refl
        · exact .refl
        · exact .refl
        · exact .mono (State.updTray_frame ..)
      · refine .step ?_ (slackOver_frame ..)
        refine .step ?_ (interruptDrain_frame ..)
        split
        · exact .refl
        · exact .refl
        · exact .refl
        · exact .mono (State.updTray_frame ..)
  · refine .ite ?_ ?_
    · refine .step ?_ (State.updTray_frame ..)
      refine .step ?_ (testOver_frame ..)
      refine .step ?_ (.alloc ..)
      refine .ite ?_ ?_
      · refine .step ?_ (leavesSet_frame ..)
        refine .step ?_ (interruptDrain_frame ..)
        split
        · exact .refl
        · exact .refl
        · exact .refl
        · exact .mono (State.updTray_frame ..)
      · refine .step ?_ (slackOver_frame ..)
        refine .step ?_ (interruptDrain_frame ..)
        split
        · exact .refl
        · exact .refl
        · exact .refl
        · exact .mono (State.updTray_frame ..)
    · refine .step ?_ (trayOpenFault_frame ..)
      refine .step ?_ (.alloc ..)
      refine .ite ?_ ?_
      · refine .step ?_ (leavesSet_frame ..)
        refine .step ?_ (interruptDrain_frame ..)
        split
        · exact .refl
        · exact .refl
        · exact .refl
        · exact .mono (State.updTray_frame ..)
      · refine .step ?_ (slackOver_frame ..)
        refine .step ?_ (interruptDrain_frame ..)
        split
        · exact .refl
        · exact .refl
        · exact .refl
        · exact .mono (State.updTray_frame ..)
  · refine .ite ?_ ?_
    · refine .step ?_ (State.updTray_frame ..)
      refine .step ?_ (testOver_frame ..)
      refine .step ?_ (.alloc ..)
      refine .ite ?_ ?_
      · refine .step ?_ (leavesSet_frame ..)
        refine .step ?_ (interruptDrain_frame ..)
        split
        · exact .refl
        · exact .refl
        · exact .refl
        · exact .mono (State.updTray_frame ..)
      · refine .step ?_ (slackOver_frame ..)
        refine .step ?_ (interruptDrain_frame ..)
        split
        · exact .refl
        · exact .refl
        · exact .refl
        · exact .mono (State.updTray_frame ..)
    · refine .step ?_ (trayOpenFault_frame ..)
      refine .step ?_ (.alloc ..)
      refine .ite ?_ ?_
      · refine .step ?_ (leavesSet_frame ..)
        refine .step ?_ (interruptDrain_frame ..)
        split
        · exact .refl
        · exact .refl
        · exact .refl
        · exact .mono (State.updTray_frame ..)
      · refine .step ?_ (slackOver_frame ..)
        refine .step ?_ (interruptDrain_frame ..)
        split
        · exact .refl
        · exact .refl
        · exact .refl
        · exact .mono (State.updTray_frame ..)
  · refine .step ?_ (trayOpenFault_frame ..)
    refine .step ?_ (interruptDrain_frame ..)
    split
    · exact .refl
    · exact .refl
    · exact .refl
    · exact .mono (State.updTray_frame ..)
  · split
    · exact .refl
    · exact .refl
    · exact .refl
    · exact .mono (State.updTray_frame ..)

theorem weirAssertedEff_frame (t : Nat) (s : State) :
    SameBut [.tx, .txn, .fm, .loop, .phases, .tph, .links, .trays, .alloc, .tows, .pair] s
      (weirAssertedEff t s) := by
  dsimp only [weirAssertedEff]
  refine .ite ?_ ?_
  · exact .refl
  · split
    · exact .step (.step (.mono (State.updTow_frame ..)) (State.updTow_frame ..)) (weirRunEnd_frame ..)
    · exact .ite (.step (.mono (State.updTow_frame ..)) (snubTray_frame ..)) (.step (.step (.step (.mono
        (State.updTow_frame ..)) (snubTray_frame ..)) (State.raise_frame ..)) (weirTray_frame ..))

theorem weirClearedEff_frame (t : Nat) (s : State) : SameBut [.trays, .tows] s (weirClearedEff t s) :=
  .ite (.step (.mono (State.updTow_frame ..)) (startDrives_frame ..)) .refl

theorem weirTestTimeoutEff_frame (t : Nat) (s : State) :
    SameBut [.fm, .tph, .trays, .tows] s (weirTestTimeoutEff t s) := by
  dsimp only [weirTestTimeoutEff]
  split
  · exact .ite .refl (.step (.ite (.mono (State.updTow_frame ..)) (.step (.mono (State.updTow_frame ..))
      (State.raise_frame ..))) (weirRunEnd_frame ..))
  · exact .refl

theorem ringLength_frame (t : Nat) (s : State) : SameBut [.tows] s (ringLength t s) :=
  State.updTow_frame ..

theorem openNowEff_frame (ses t : Nat) (s : State) : SameBut [.tows, .sess] s (openNowEff ses t s) :=
  .ite (.mono (State.violate_frame ..)) (.mono (State.updTow_frame ..))

theorem reenumerateEff_frame (ses t : Nat) (s : State) : SameBut [.tows, .sess] s (reenumerateEff ses t s) :=
  .ite (.mono (State.violate_frame ..)) (.mono (State.updTow_frame ..))

theorem clearMarksEff_frame (ses t : Nat) (s : State) : SameBut [.trays, .tows, .sess] s (clearMarksEff ses t s) :=
  .ite (.ite (.step (.mono (State.updTow_frame ..)) (derate_frame ..)) (.step (.step (.mono
    (State.updTow_frame ..)) (derate_frame ..)) (queueConfig_frame ..))) (.mono (State.violate_frame ..))

theorem weirTestCmdEff_frame (ses t : Nat) (s : State) : SameBut [.tows, .sess] s (weirTestCmdEff ses t s) :=
  .ite (.mono (State.updTow_frame ..)) (.mono (State.violate_frame ..))

/-! ### Takeover (17) -/

theorem loadShelf_frame (m : Bytes) (s : State) :
    SameBut [.phases, .links, .edge, .trays, .alloc, .tows, .est] s (loadShelf m s) :=
  .phases_links_edge_trays_alloc_tows_est ..

theorem loadClock_frame (m : Bytes) (s : State) : SameBut [.est, .clk] s (loadClock m s) :=
  .ite .refl (.trans (.mono (.clk ..)) (.when_ (fun _ => (.forTrays (fun _ _ => (.mono (estLocked_frame ..)))))))

theorem loadFeeds_frame (m : Bytes) (s : State) : SameBut [.feed] s (loadFeeds m s) :=
  .step (.feed ..) (.feed ..)

theorem emptyGovernor_frame (s : State) : SameBut [.tx, .fm, .gov, .gates, .grid, .sess] s (emptyGovernor s) :=
  .trans (.mono (.gov ..)) (.foldl fun _ _ => (.ite .refl (.step (armFlight_frame ..) (armFlight_frame ..))))

theorem loadGovernor_frame (m : Bytes) (s : State) :
    SameBut [.tx, .fm, .gov, .gates, .grid, .sess] s (loadGovernor m s) :=
  .trans (.mono (.gov ..)) (.foldl fun _ _ => (.ite .refl (.ite (.step (.mono (State.updFlight_frame ..))
    (State.updFlight_frame ..)) (.step (.mono (State.updFlight_frame ..)) (armFlight_frame ..)))))

theorem clearRebuilt_frame (m : Bytes) (s : State) : SameBut [.fm, .trays, .tide, .sess] s (clearRebuilt m s) :=
  .fm_trays_tide_sess ..

theorem loadManifest_frame (m : Bytes) (s : State) :
    SameBut [.freeCount, .tx, .txn, .fm, .loop, .phases, .links, .edge, .trays, .alloc, .tows, .est, .feed, .gov,
      .gates,
      .tide, .pair, .grid, .sess, .clk] s (loadManifest m s) := by
  have parts : SameBut [.freeCount, .tx, .txn, .fm, .loop, .phases, .links, .edge, .trays, .alloc, .tows, .est,
    .feed,
      .gov, .gates, .tide, .pair, .grid, .sess, .clk] s
      (clearRebuilt m (loadGovernor m (loadFeeds m (loadClock m (loadShelf m s))))) :=
    .step (.step (.step (.step (.mono (loadShelf_frame ..)) (loadClock_frame ..)) (loadFeeds_frame ..))
      (loadGovernor_frame ..)) (clearRebuilt_frame ..)
  dsimp only [loadManifest]
  refine .step (.trans (.step parts (.loop ..)) (.foldl fun _ _ => .mono (loadEntry_frame ..)))
    (State.updPair_frame ..)

theorem warmForecaster_frame (s : State) : SameBut [.tide] s (warmForecaster s) :=
  .step (tideWarm_frame ..) (.tide ..)

theorem stopDock_frame (s : State) : SameBut [.dock] s (stopDock s) := by
  dsimp only [stopDock]
  split
  · exact .dock ..
  · exact .dock ..
  · exact .refl

theorem takeTray_frame (t : Nat) (s : State) :
    SameBut [.txn, .fm, .loop, .phases, .tph, .trays, .alloc, .tows] s (takeTray t s) :=
  .ite (.step (.ite (.step (.mono (towStart_frame ..)) (State.updTow_frame ..)) .refl) (weirTray_frame ..)) (.ite
    (.step (.mono (towStart_frame ..)) (State.updTow_frame ..)) .refl)

theorem startDriving_frame (s : State) :
    SameBut [.tx, .fm, .loop, .phases, .tph, .alloc, .feed, .clk] s (startDriving s) :=
  .step (.step (.step (.trans (.step (.mono (.alloc ..)) (loopLeaveOff_frame ..)) (.forTrays (fun _ _ => (.ite
    (.step (.mono (State.updTp_frame ..)) (State.updPhs_frame ..)) .refl)))) (readModes_frame ..))
    (sendCommand_frame ..)) (sendCommand_frame ..)

theorem loseStaging_frame (s : State) : SameBut [.sec] s (loseStaging s) :=
  .ite (.sec ..) .refl

theorem takeoverEff_frame (s : State) :
    SameBut [.freeCount, .tx, .txn, .fm, .loop, .phases, .tph, .links, .edge, .trays, .alloc, .tows, .est, .feed,
      .gov, .gates, .tide, .pair, .sec, .grid, .dock, .port, .sess, .clk, .cap] s (takeoverEff s) :=
  .ite .refl (.step (.step (.step (.step (.step (.step (.trans (.step (.step (.ite (.step (.ite (.step (.mono
    (emptyGovernor_frame ..)) (clearRebuilt_frame ..)) (.mono (loadManifest_frame ..))) (.clk ..)) (.ite (.step
    (.mono (emptyGovernor_frame ..)) (clearRebuilt_frame ..)) (.mono (loadManifest_frame ..))))
    (warmForecaster_frame ..)) (stopDock_frame ..)) (.forTrays (fun _ _ => (.mono (takeTray_frame ..)))))
    (State.updPair_frame ..)) (startDriving_frame ..)) (loseStaging_frame ..)) (capMarker_frame ..))
    (claimShelf_frame ..)) (State.raise_frame ..))

theorem takeoverDoneEff_frame (s : State) : SameBut [.freeCount, .tx, .fm, .pair, .port] s (takeoverDoneEff s) :=
  .ite (.step (.mono (becomeActive_frame ..)) (.freeCount_pair ..)) .refl

theorem drillStartEff_frame (s : State) : SameBut [.tx, .txn, .pair, .port, .sess] s (drillStartEff s) :=
  .ite (.step (.step (.mono (sendManifest_frame ..)) (State.sendPair_frame ..)) (.pair_port_sess ..)) .refl

theorem drillFailedEff_frame (s : State) :
    SameBut [.tx, .fm, .loop, .phases, .tph, .alloc, .feed, .pair, .port, .clk] s (drillFailedEff s) := by
  dsimp only [drillFailedEff]
  split
  · exact .ite .refl (.ite (.mono (drillDone_frame ..)) (.step (.step (.step (.mono (State.updPair_frame ..))
      (startDriving_frame ..)) (claimShelf_frame ..)) (State.raise_frame ..)))
  · exact .refl

/-! ### Images and keys (20) -/

theorem judgeStaged_frame (s : State) : SameBut [.fm, .sec] s (judgeStaged s) :=
  .ite (.ite (.step (.ite (.mono (.sec ..)) .refl) (.sec ..)) (.step (.step (.ite (.mono (.sec ..)) .refl)
    (.sec ..)) (State.raise_frame ..))) (.ite (.mono (.sec ..)) .refl)

theorem imageBlockEff_frame (ses offset : Nat) (data : Bytes) (s : State) :
    SameBut [.fm, .sec, .sess] s (imageBlockEff ses offset data s) :=
  .ite (.mono (State.violate_frame ..)) (.step (.mono (.sec ..)) (judgeStaged_frame ..))

theorem markInstallEff_frame (ses : Nat) (s : State) : SameBut [.sec, .sess] s (markInstallEff ses s) :=
  .ite (.mono (.sec ..)) (.mono (State.violate_frame ..))

theorem discardStagedEff_frame (s : State) : SameBut [.sec] s (discardStagedEff s) :=
  .sec ..

theorem securityClearEff_frame (s : State) : SameBut [.sec] s (securityClearEff s) :=
  .sec ..

theorem beginInstall_frame (s : State) : SameBut [.sec] s (beginInstall s) :=
  .sec ..

theorem putRootKey_frame (data : Bytes) (s : State) : SameBut [.sec] s (putRootKey data s) :=
  .step (.sec ..) (State.measure_frame ..)

theorem rootKeySetEff_frame (ses : Nat) (data : Bytes) (s : State) :
    SameBut [.fm, .sec, .sess] s (rootKeySetEff ses data s) :=
  .ite (.step (.mono (putRootKey_frame ..)) (State.raise_frame ..)) (.mono (State.violate_frame ..))

theorem raiseMinEff_frame (ses v : Nat) (s : State) : SameBut [.fm, .sec, .sess] s (raiseMinEff ses v s) :=
  .ite (.mono (State.violate_frame ..)) (.step (.mono (.sec ..)) (State.raise_frame ..))

theorem revokeEff_frame (ses slot : Nat) (s : State) : SameBut [.fm, .sec, .sess] s (revokeEff ses slot s) :=
  .ite (.mono (State.violate_frame ..)) (.step (.mono (.sec ..)) (State.raise_frame ..))

/-! ### The network port (14) -/

theorem State.updSess_frame (s : State) (n : Nat) (f : Session → Session) :
    SameBut [.sess] s (State.updSess s n f) :=
  .sess ..

theorem emitTrasia_frame (ses pcp : Nat) (frame : Bytes) (s : State) :
    SameBut [.tx, .port, .sess] s (emitTrasia ses pcp frame s) :=
  .step (.mono (State.updSess_frame ..)) (State.sendJ1_frame ..)

theorem sendTrasia_frame (ses : Nat) (stream : Option Nat) (frame : Bytes) (s : State) :
    SameBut [.tx, .port, .sess] s (sendTrasia ses stream frame s) :=
  .ite .refl (.ite (.mono (.port ..)) (emitTrasia_frame ..))

theorem flushHeld_frame (s : State) : SameBut [.tx, .port, .sess] s (flushHeld s) :=
  .trans (.mono (.port ..)) (.foldl fun _ _ => (.ite (.mono (.port ..)) (emitTrasia_frame ..)))

theorem flushJ1_frame (s : State) : SameBut [.tx, .port, .sess, .clk] s (flushJ1 s) :=
  .step (.step (.mono (flushPtp_frame ..)) (flushNear_frame ..)) (flushHeld_frame ..)

theorem sendPause_frame (quanta : Nat) (s : State) : SameBut [.tx, .port] s (sendPause quanta s) :=
  .step (.mono (.port ..)) (State.sendJ1_frame ..)

theorem noteOccupancy_frame (s : State) : SameBut [.tx, .port] s (noteOccupancy s) :=
  .ite (.step (.step (.mono (.port ..)) (.port ..)) (sendPause_frame ..)) (.mono (.port ..))

theorem reportArrives_frame (f : Bytes) (s : State) : SameBut [.tx, .fm, .gov, .port] s (reportArrives f s) :=
  .ite (.step (.mono (.gov_port ..)) (State.raise_frame ..)) (.step (.mono (.port ..)) (noteOccupancy_frame ..))

theorem keeperDrop_frame (s : State) : SameBut [.fm, .port] s (keeperDrop s) :=
  .trans (.mono (.port ..)) (.when_ (fun _ => (.mono (State.raise_frame ..))))

theorem resendKept_frame (m : Trasia) (s : State) : SameBut [.tx, .port, .sess] s (resendKept m s) := by
  unfold resendKept
  split
  · exact .ite .refl (sendTrasia_frame ..)
  · exact .refl

theorem countStale_frame (ses : Nat) (s : State) : SameBut [.sess] s (countStale ses s) :=
  State.updSess_frame ..

theorem requestArrives_frame (m : Trasia) (f : Bytes) (s : State) :
    SameBut [.tx, .fm, .port, .sess] s (requestArrives m f s) := by
  have enter : SameBut [.tx, .fm, .port, .sess] s
      (noteOccupancy { s with port := { s.port with keeper := s.port.keeper ++ [(s.now, f)] } }) :=
    .step (.mono (.port ..)) (noteOccupancy_frame ..)
  obtain ⟨judge, hjudge⟩ : ∃ judge, judgeSeq = judge := ⟨_, rfl⟩
  dsimp only [requestArrives]
  rw [hjudge]
  refine .ite (.mono (keeperDrop_frame ..)) (.ite enter ?_)
  split <;> split
  · exact enter
  · exact .refl
  · exact .mono (countStale_frame ..)
  · exact enter
  · exact .mono (resendKept_frame ..)
  · exact .mono (countStale_frame ..)

theorem frameArrives_frame (f : Bytes) (s : State) :
    SameBut [.tx, .fm, .gov, .port, .sess] s (frameArrives f s) := by
  dsimp only [frameArrives]
  split
  · exact .refl
  · exact .ite (.step (.step (.mono (.port ..)) (State.updSess_frame ..)) (State.violateOp_frame ..)) (.ite (.ite
      (.step (.step (.mono (.port ..)) (State.updSess_frame ..)) (State.violateOp_frame ..)) (.step (.step (.mono
      (.port ..)) (State.updSess_frame ..)) (reportArrives_frame ..))) (.step (.step (.mono (.port ..))
      (State.updSess_frame ..)) (requestArrives_frame ..)))

theorem crcFailure_frame (s : State) : SameBut [.fm, .port] s (crcFailure s) :=
  .trans (.mono (.port ..)) (.when_ (fun _ => (.mono (State.raise_frame ..))))

theorem ethernetEff_frame (raw : Bytes) (s : State) :
    SameBut [.freeCount, .tx, .fm, .gov, .port, .sess, .clk] s (ethernetEff raw s) := by
  dsimp only [ethernetEff]
  refine .ite ?_ ?_
  · exact .refl
  · split
    · exact .refl
    · exact .ite (.mono (ptpArrives_frame ..)) .refl
    · exact .mono (.port ..)
    · exact .mono (crcFailure_frame ..)
    · exact .mono (frameArrives_frame ..)

theorem pauseRepeatEff_frame (s : State) : SameBut [.tx, .port] s (pauseRepeatEff s) :=
  .ite (.step (.mono (.port ..)) (sendPause_frame ..)) .refl

theorem pauseReleaseEff_frame (s : State) : SameBut [.tx, .port] s (pauseReleaseEff s) :=
  .ite (.step (.mono (.port ..)) (sendPause_frame ..)) .refl

theorem pauseLongEff_frame (s : State) : SameBut [.fm, .port] s (pauseLongEff s) := by
  dsimp only [pauseLongEff]
  split
  · exact .ite (.step (.mono (.port ..)) (State.raise_frame ..)) .refl
  · exact .refl

theorem pausePriority_frame (p quanta : Nat) (s : State) : SameBut [.port] s (pausePriority p quanta s) :=
  .port ..

theorem endGrantPause_frame (s : State) : SameBut [.port] s (endGrantPause s) :=
  .port ..

theorem pfcReceivedEff_frame (raw : Bytes) (s : State) :
    SameBut [.tx, .port, .sess, .clk] s (pfcReceivedEff raw s) :=
  .ite (.step (.step (.trans (.mono (endGrantPause_frame ..)) (.foldl fun _ _ => (.ite (.mono
    (pausePriority_frame ..)) .refl))) (endGrantPause_frame ..)) (flushJ1_frame ..)) .refl

theorem grantPauseEff_frame (s : State) : SameBut [.fm, .port] s (grantPauseEff s) :=
  .trans (.mono (.port ..)) (.when_ (fun _ => (.mono (State.raise_frame ..))))

theorem portDown_frame (st : Nat) (s : State) : SameBut [.fm, .port] s (portDown st s) :=
  .trans (.mono (.port ..)) (.when_ (fun _ => (.mono (State.raise_frame ..))))

theorem linkChangeEff_frame (up_ : Bool) (lanes : Nat) (s : State) :
    SameBut [.fm, .port] s (linkChangeEff up_ lanes s) :=
  .ite (.ite .refl (.trans (.mono (.port ..)) (.when_ (fun _ => (.mono (State.raise_frame ..))))))
    (portDown_frame ..)

theorem portRetrainEff_frame (s : State) : SameBut [.fm, .port, .clk] s (portRetrainEff s) :=
  .ite (.step (.mono (portDown_frame ..)) (toAcquiring_frame ..)) (.mono (portDown_frame ..))

theorem portClearEff_frame (s : State) : SameBut [.port] s (portClearEff s) :=
  .port ..

theorem flowClearEff_frame (s : State) : SameBut [.port] s (flowClearEff s) :=
  .port ..

theorem neighbourEff_frame (raw : Bytes) (s : State) : SameBut [.tx, .port] s (neighbourEff raw s) :=
  .ite .refl (.ite (State.sendNear_frame ..) (.ite (State.sendNear_frame ..) .refl))

theorem sessionResetEff_frame (n : Nat) (s : State) : SameBut [.sess] s (sessionResetEff n s) :=
  State.updSess_frame ..

/-! ### Writes of objects (15) -/

theorem State.drawNat_frame (s : State) : SameBut [.freeCount] s s.drawNat.2 := .freeCount ..

theorem savedNow_frame {l : List Part} {f : Bool → State → State} {s : State} (hf : ∀ b s, SameBut l s (f b s))
    (hl : [.freeCount] ⊆ l := by decide) : SameBut l s (savedNow f s) :=
  .trans (.mono (State.drawNat_frame s) hl) (hf ..)

theorem trayCommand_frame (ses index sub v : Nat) (s : State) :
    SameBut [.freeCount, .txn, .fm, .loop, .phases, .tph, .edge, .trays, .alloc, .tows, .est, .sess] s
      (trayCommand ses index sub v s) := by
  dsimp only [trayCommand]
  split
  · exact .mono (trayInsertEff_frame ..)
  · exact .mono (trayDrainEff_frame ..)
  · exact .mono (traySlackBeginEff_frame ..)
  · exact .mono (traySlackEndEff_frame ..)
  · exact .mono (trayResetEff_frame ..)
  · exact .mono (openNowEff_frame ..)
  · exact .mono (reenumerateEff_frame ..)
  · exact .mono (clearMarksEff_frame ..)
  · exact .mono (weirTestCmdEff_frame ..)
  · exact savedNow_frame (fun _ _ => (.mono (stateSaveNowEff_frame ..)))
  · exact .mono (resetSeeds_frame ..)
  · exact savedNow_frame (fun _ _ => (.mono (impedanceSaveNowEff_frame ..)))
  · exact .mono (phaseOutEff_frame ..)
  · exact .mono (phaseInEff_frame ..)
  · exact .mono (State.violate_frame ..)

theorem otherCommand_frame (ses index sub v : Nat) (s : State) :
    SameBut [.freeCount, .tx, .txn, .fm, .loop, .phases, .tph, .edge, .trays, .alloc, .tows, .est, .gates, .tide,
      .sec, .grid, .slots, .sess, .cap] s (otherCommand ses index sub v s) := by
  dsimp only [otherCommand]
  split
  · exact .mono (sessionResetEff_frame ..)
  · exact .mono (slotCheckEff_frame ..)
  · exact .mono (slotBindEff_frame ..)
  · exact .mono (slotUnbindEff_frame ..)
  · exact .mono (slotRestartEff_frame ..)
  · exact .mono (slotClearEff_frame ..)
  · exact .mono (gateAllocateEff_frame ..)
  · exact .mono (gateFreeEff_frame ..)
  · exact .mono (acknowledgeEff_frame ..)
  · exact .mono (trayCommand_frame ..)

theorem sessionEnable_frame (n : Nat) (on : Bool) (s : State) :
    SameBut [.tx, .gates, .tide, .grid, .sess] s (sessionEnable n on s) :=
  .ite (.step (.step (.mono (sessionResetEff_frame ..)) (State.updSess_frame ..)) (.tide ..)) (.step (.mono
    (freeOwner_frame ..)) (State.updSess_frame ..))

theorem convertedRecord_frame (index sub v : Nat) (s : State) :
    SameBut [.cap] s (convertedRecord index sub v s) := by
  dsimp only [convertedRecord]
  split
  · exact .ite (.foldl fun _ _ => (inputRecord_frame ..)) .refl
  · exact .refl

theorem afterWrite_frame (index sub old v : Nat) (s : State) :
    SameBut [.tx, .fm, .tph, .links, .trays, .alloc, .tows, .feed, .gates, .tide, .grid, .port, .sess, .cap] s
      (afterWrite index sub old v s) := by
  dsimp only [afterWrite]
  split
  · exact .step (.mono (convertedRecord_frame ..)) (.port ..)
  · exact .ite (.step (.mono (convertedRecord_frame ..)) (sessionEnable_frame ..)) (.mono
      (convertedRecord_frame ..))
  · exact .ite (.trans (.mono (convertedRecord_frame ..)) (.forTrays (fun _ _ => (.mono
      (sendStageConfig_frame ..))))) (.mono (convertedRecord_frame ..))
  · exact .ite (.step (.ite (.step (.mono (convertedRecord_frame ..)) (State.updTp_frame ..)) (.mono
      (convertedRecord_frame ..))) (sendStageConfig_frame ..)) (.ite (.step (.mono (convertedRecord_frame ..))
      (State.updTp_frame ..)) (.mono (convertedRecord_frame ..)))
  · exact .ite (.trans (.mono (convertedRecord_frame ..)) (.forTrays (fun _ _ => (.mono
      (sendStageConfig_frame ..))))) (.mono (convertedRecord_frame ..))
  · exact .ite (.ite (.step (.mono (convertedRecord_frame ..)) (ringLength_frame ..)) (.mono
      (convertedRecord_frame ..))) (.step (.ite (.step (.mono (convertedRecord_frame ..)) (ringLength_frame ..))
      (.mono (convertedRecord_frame ..))) (queueConfig_frame ..))
  · exact .ite (.step (.mono (convertedRecord_frame ..)) (groupEnables_frame ..)) (.mono (convertedRecord_frame ..))
  · exact .mono (convertedRecord_frame ..)

theorem putValue_frame (ses index sub : Nat) (r : ObjRow) (v : Nat) (s : State) :
    SameBut [.tx, .od, .fm, .tph, .links, .trays, .alloc, .tows, .feed, .gates, .tide, .grid, .port, .sess, .cap] s
      (putValue ses index sub r v s) :=
  .ite (.mono (State.setWin_frame ..)) (.step (.ite (.mono (State.setCfg_frame ..)) (.mono
    (State.storeCfg_frame ..))) (afterWrite_frame ..))

theorem pairStoreEff_frame (frame : Bytes) (s : State) :
    SameBut [.tx, .od, .fm, .tph, .links, .trays, .alloc, .tows, .feed, .gates, .tide, .pair, .grid, .port, .sess,
      .cap] s (pairStoreEff frame s) := by
  dsimp only [pairStoreEff]
  refine recvPair_frame (fun _ _ => ?_)
  · split
    · exact .ite (.step (.mono (State.storeCfg_frame ..)) (afterWrite_frame ..)) .refl
    · exact .refl

theorem highestClear_frame (index sub v : Nat) (s : State) :
    SameBut [.loop, .tide, .port] s (highestClear index sub v s) := by
  dsimp only [highestClear]
  refine .ite ?_ ?_
  · exact .refl
  · split
    · exact .mono (.loop ..)
    · exact .mono (.tide ..)
    · exact .mono (.port ..)
    · exact .refl

theorem ownRule_frame {ses index sub v : Nat} {s t : State} (h : ownRule ses index sub v s = some t) :
    SameBut [.od, .fm, .loop, .phases, .links, .gates, .tide, .cal, .port, .sess] s t := by
  unfold ownRule at h
  split_ifs at h <;> cases h
  · exact .mono (highestClear_frame ..)
  · exact .mono (stagedSlotEff_frame ..)
  · exact .mono (flightSourcesEff_frame ..)
  · exact .mono (liveRoutinesEff_frame ..)
  · exact .mono (calScalarEff_frame ..)

theorem signedValue_frame (ses index sub v : Nat) (key : Bytes) (s : State) :
    SameBut [.fm, .rcd, .sec, .sess] s (signedValue ses index sub v key s) := by
  unfold signedValue
  split
  · exact .mono (recorderClearEff_frame ..)
  · exact .mono (raiseMinEff_frame ..)
  · exact .mono (revokeEff_frame ..)
  · exact .mono (State.violate_frame ..)

theorem putBlob_frame (ses index sub offset : Nat) (r : ObjRow) (data : Bytes) (s : State) :
    SameBut [.tx, .od, .fm, .tph, .links, .trays, .alloc, .tows, .feed, .gates, .tide, .grid, .port, .sess, .cap] s
      (putBlob ses index sub offset r data s) :=
  .ite (.mono (State.violate_frame ..)) (putValue_frame ..)

theorem sessionGateWords_frame (ses offset : Nat) (data : Bytes) (s : State) :
    SameBut [.freeCount, .tx, .fm, .gates, .grid, .sess] s (sessionGateWords ses offset data s) :=
  .ite (.mono (State.violate_frame ..)) (.mono (applyWords_frame ..))

theorem referenceBlock_frame (ses offset : Nat) (data : Bytes) (s : State) :
    SameBut [.dock, .sess] s (referenceBlock ses offset data s) :=
  .ite (.mono (State.violate_frame ..)) (.mono (.dock ..))

theorem signedRootKey_frame (ses offset : Nat) (data : Bytes) (s : State) :
    SameBut [.sec, .sess] s (signedRootKey ses offset data s) :=
  .ite (.mono (putRootKey_frame ..)) (.mono (State.violate_frame ..))

/-! ### Trasia requests (14, 20) -/

theorem dequeue_frame (f : Bytes) (s : State) : SameBut [.port] s (dequeue f s) := by
  dsimp only [dequeue]
  split
  · exact .port ..
  · exact .refl

theorem request_frame {l : List Part} {op : Nat} {f : Bytes} {g : Trasia → State → State} {s : State}
    (hg : ∀ m s, SameBut l s (g m s)) (hl : [.tx, .port, .sess] ⊆ l := by decide) :
    SameBut l s (request op f g s) := by
  dsimp only [request]
  split
  · exact .refl
  · refine .ite .refl (.ite (.mono (.mono (dequeue_frame ..)) hl) (.ite
      (.mono (.step (.mono (dequeue_frame ..)) (State.violateOp_frame ..)) hl) ?_))
    split
    · exact .mono (.step (.mono (dequeue_frame ..)) (resendKept_frame ..)) hl
    · exact .mono (.step (.mono (dequeue_frame ..)) (countStale_frame ..)) hl
    · exact .trans (.mono (.step (.mono (dequeue_frame ..)) (State.updSess_frame ..)) hl) (hg ..)

theorem reply_frame (m : Trasia) (payload : Bytes) (s : State) :
    SameBut [.tx, .port, .sess] s (reply m payload s) :=
  .ite .refl (.step (.mono (State.updSess_frame ..)) (sendTrasia_frame ..))

theorem ifPermitted_frame {l : List Part} {m : Trasia} {g : State → State} {s : State}
    (hg : ∀ s, SameBut l s (g s)) (hl : [.sess] ⊆ l := by decide) : SameBut l s (ifPermitted m g s) :=
  .ite (hg s) (.mono (State.violateOp_frame ..) hl)

theorem readOne_frame (ses index sub : Nat) (s : State) : SameBut [.sess] s (readOne ses index sub s).2 :=
  .ite (State.violate_frame ..) .refl

theorem readWords_frame (ses : Nat) :
    ∀ (payload : Bytes) (n : Nat) (s : State), SameBut [.sess] s (readWords ses payload n s).2
  | _, 0, _ => .refl
  | _, n + 1, _ => .trans (readOne_frame ..) (readWords_frame ses _ n _)

theorem readEff_frame (m : Trasia) (s : State) : SameBut [.tx, .port, .sess] s (readEff m s) :=
  .ite (.step (.mono (readWords_frame ..)) (reply_frame ..)) (.mono (State.violateOp_frame ..))

theorem blockRead_frame (ses index sub offset length : Nat) (s : State) :
    SameBut [.od, .fm, .rcd, .sess] s (blockRead ses index sub offset length s).2 := by
  dsimp only [blockRead]
  split
  · exact .mono (readRecords_frame ..)
  · exact .ite (.step (.when_ fun _ => .mono (warnTouched_frame ..)) (State.violate_frame ..))
      (.when_ fun _ => .mono (warnTouched_frame ..))

theorem readBlockEff_frame (m : Trasia) (s : State) :
    SameBut [.tx, .od, .fm, .rcd, .port, .sess] s (readBlockEff m s) :=
  .ite (.mono (State.violateOp_frame ..)) (.ite (.step (.mono (State.violate_frame ..)) (reply_frame ..)) (.step
    (.mono (blockRead_frame ..)) (reply_frame ..)))

theorem sendLate_frame (r : LateReply) (s : State) : SameBut [.tx, .port, .sess] s (sendLate r s) :=
  .ite .refl (.step (.ite (.mono (State.updSess_frame ..)) .refl) (sendTrasia_frame ..))

theorem flushLate_frame (s : State) : SameBut [.tx, .port, .sess] s (flushLate s) :=
  .trans (.mono (.port ..)) (.foldl fun _ _ => (sendLate_frame ..))

theorem scheduleBody_frame (arr : Nat) (m : Trasia) (s : State) :
    SameBut [.fm, .tide, .sess] s (scheduleBody arr m s) :=
  .ite (.mono (State.violateOp_frame ..)) (.mono (schedAll_frame ..))

theorem scheduleEff_frame (arr : Nat) (m : Trasia) (s : State) :
    SameBut [.tx, .fm, .tide, .port, .sess] s (scheduleEff arr m s) :=
  .step (ifPermitted_frame (fun _ => (.mono (scheduleBody_frame ..)))) (reply_frame ..)

theorem subscribeBody_frame (m : Trasia) (s : State) : SameBut [.sess] s (subscribeBody m s) :=
  .ite (State.violateOp_frame ..) (.ite (State.updSess_frame ..) (.ite (State.violate_frame ..) (.ite
    (State.violateOp_frame ..) (State.updSess_frame ..))))

theorem subscribeEff_frame (m : Trasia) (s : State) : SameBut [.tx, .port, .sess] s (subscribeEff m s) :=
  .step (ifPermitted_frame (fun _ => (.mono (subscribeBody_frame ..)))) (reply_frame ..)

theorem nextOut_frame (ses : Nat) (s : State) : SameBut [.sess] s (nextOut ses s) :=
  State.updSess_frame ..

theorem sendInstance_frame (ses i frames at_ : Nat) (data : Bytes) (limit : Nat) :
    ∀ (n k : Nat) (s : State), SameBut [.tx, .port, .sess] s (sendInstance ses i frames at_ data limit n k s)
  | 0, _, _ => .refl
  | n + 1, _, _ => .trans (.step (.mono (sendTrasia_frame ..)) (nextOut_frame ..))
    (sendInstance_frame _ _ _ _ _ _ n _ _)

theorem streamInstanceEff_frame (ses i : Nat) (s : State) :
    SameBut [.tx, .fm, .rcd, .port, .sess] s (streamInstanceEff ses i s) := by
  dsimp only [streamInstanceEff]
  split
  · exact .refl
  · exact .ite .refl (.ite (.step (.trans (.when_ (fun _ => (.mono (warnTouched_frame ..)))) (.when_ (fun _ =>
      (.mono (warnTouched_frame ..))))) (State.updSess_frame ..)) (.step (.step (.step (.trans (.when_ (fun _ =>
      (.mono (warnTouched_frame ..)))) (.when_ (fun _ => (.mono (warnTouched_frame ..)))))
      (State.updSess_frame ..)) (.port ..)) (sendInstance_frame ..)))

theorem signedPart_frame (m : Trasia) (s : State) : SameBut [.tx, .port, .sess] s (signedPart m s) :=
  .ite (.mono (State.violateOp_frame ..)) (.ite .refl (.ite (.mono (State.updSess_frame ..)) (.ite (.step (.mono
    (State.updSess_frame ..)) (State.violateOp_frame ..)) (.step (.step (.mono (State.updSess_frame ..))
    (State.updSess_frame ..)) (reply_frame ..)))))

theorem signedWriteEff_frame (m : Trasia) (s : State) : SameBut [.tx, .port, .sess] s (signedWriteEff m s) :=
  ifPermitted_frame (fun _ => (signedPart_frame ..))

theorem transferTimeoutEff_frame (ses : Nat) (s : State) : SameBut [.sess] s (transferTimeoutEff ses s) := by
  unfold transferTimeoutEff
  split
  · exact .ite (.step (State.updSess_frame ..) (State.violateOp_frame ..)) .refl
  · exact .refl

theorem signedRefuse_frame (ses result : Nat) (s : State) :
    SameBut [.fm, .sec, .sess] s (signedRefuse ses result s) :=
  .step (.step (.mono (.sec ..)) (State.raise_frame ..)) (State.violateOp_frame ..)

theorem quoteBody_frame (m : Trasia) (s : State) : SameBut [.fm, .sec] s (quoteBody m s) :=
  .ite (.step (.mono (.sec ..)) (State.raise_frame ..)) (.mono (.sec ..))

theorem quoteEff_frame (m : Trasia) (s : State) : SameBut [.fm, .sec, .sess] s (quoteEff m s) :=
  .ite (.mono (State.violateOp_frame ..)) (.ite .refl (.mono (quoteBody_frame ..)))

theorem sendParts_frame (ses id parts : Nat) (data : Bytes) (limit : Nat) :
    ∀ (n k : Nat) (s : State), SameBut [.tx, .port, .sess] s (sendParts ses id parts data limit n k s)
  | 0, _, _ => .refl
  | n + 1, _, _ => .trans (.step (.mono (sendTrasia_frame ..)) (nextOut_frame ..)) (sendParts_frame _ _ _ _ _ n _ _)

theorem quoteSignedEff_frame (s : State) : SameBut [.tx, .sec, .port, .sess] s (quoteSignedEff s) := by
  dsimp only [quoteSignedEff]
  split
  · exact .refl
  · exact .step (.mono (.sec ..)) (sendParts_frame ..)

/-! ### The control period (01) -/

theorem capPeriod_frame (a : Nat) (s : State) : SameBut [.freeCount, .fm, .cap] s (capPeriod a s) :=
  .ite (.step (.mono (.freeCount ..)) (capFrame_frame ..)) .refl

theorem countVoids_frame (v : List (Nat × Nat)) (s : State) : SameBut [.grid, .slots] s (countVoids v s) :=
  .grid_slots ..

theorem fwCheckpoint_frame (n us : Nat) (s : State) : SameBut [.freeCount, .cap] s (fwCheckpoint n us s) :=
  .ite (.step (.mono (.freeCount ..)) (capRecord_frame ..)) .refl

theorem fwSlotPeriod_frame (n us : Nat) (v : List (Nat × Nat)) (s : State) :
    SameBut [.freeCount, .slots, .cap] s (fwSlotPeriod n us v s) :=
  .ite .refl (.ite (.step (.step (.trans (.step (.step (.step (.ite (.mono (fwCheckpoint_frame ..)) .refl)
    (.freeCount ..)) (inputRecord_frame ..)) (.freeCount ..)) (.foldl fun _ _ => (.mono (digestRecord_frame ..))))
    (State.updSlot_frame ..)) (fwCheckpoint_frame ..)) (.step (.trans (.step (.step (.step (.ite (.mono
    (fwCheckpoint_frame ..)) .refl) (.freeCount ..)) (inputRecord_frame ..)) (.freeCount ..)) (.foldl fun _ _ =>
    (.mono (digestRecord_frame ..)))) (State.updSlot_frame ..)))

theorem fwRecords_frame (us : Nat) (v : List (Nat × Nat)) (s : State) :
    SameBut [.freeCount, .slots, .cap] s (fwRecords us v s) :=
  .foldl fun _ _ => (fwSlotPeriod_frame ..)

theorem sendTap_frame (n t0 : Nat) (v : List (Nat × Nat)) (b : Binding) (s : State) :
    SameBut [.tx, .grid] s (sendTap n t0 v b s) := by
  dsimp only [sendTap]
  split
  · exact .ite (.ite (sendBarge_frame ..) (sendBarge_frame ..)) .refl
  · exact .refl

theorem sendTaps_frame (t0 : Nat) (v : List (Nat × Nat)) (s : State) : SameBut [.tx, .grid] s (sendTaps t0 v s) :=
  .foldl fun _ _ => (.ite (.foldl fun _ _ => (sendTap_frame ..)) .refl)

theorem phaseChain_frame (t0 t : Nat) (s : State) :
    SameBut [.tx, .fm, .phases, .tph, .links, .edge, .pair] s (phaseChain t0 t s) :=
  .step (.mono (phasePeriod_frame ..)) (edgeFrame_frame ..)

theorem delayPeriod_frame (s : State) : SameBut [.freeCount, .loop] s (delayPeriod s) :=
  .freeCount_loop ..

theorem chain_frame (t0 : Nat) (v : List (Nat × Nat)) (s : State) :
    SameBut [.freeCount, .tx, .txn, .fm, .loop, .phases, .tph, .links, .edge, .trays, .alloc, .tows, .est, .feed,
      .tide, .pair] s (chain t0 v s) := by
  dsimp only [chain]
  refine .ite ?_ ?_
  · refine .ite ?_ ?_
    · refine .ite ?_ ?_
      · refine .step ?_ (urgentPeriod_frame ..)
        refine .trans ?_ (.forTrays (fun _ _ => (.mono (trayPeriod_frame ..))))
        refine .step ?_ (delayPeriod_frame ..)
        refine .trans ?_ (.forTrays (fun _ _ => (.ite .refl (.mono (phaseChain_frame ..)))))
        refine .ite ?_ ?_
        · split
          · exact .step (.ite (.step (.mono (.tide ..)) (cutEntries_frame ..)) .refl) (.loop ..)
          · exact .step (.ite (.step (.mono (.tide ..)) (cutEntries_frame ..)) .refl) (loopPeriod_frame ..)
        · refine .step ?_ (allocPeriod_frame ..)
          split
          · exact .step (.ite (.step (.mono (.tide ..)) (cutEntries_frame ..)) .refl) (.loop ..)
          · exact .step (.ite (.step (.mono (.tide ..)) (cutEntries_frame ..)) .refl) (loopPeriod_frame ..)
      · refine .trans ?_ (.forTrays (fun _ _ => (.mono (chargePeriod_frame ..))))
        refine .step ?_ (urgentPeriod_frame ..)
        refine .trans ?_ (.forTrays (fun _ _ => (.mono (trayPeriod_frame ..))))
        refine .step ?_ (delayPeriod_frame ..)
        refine .trans ?_ (.forTrays (fun _ _ => (.ite .refl (.mono (phaseChain_frame ..)))))
        refine .ite ?_ ?_
        · split
          · exact .step (.ite (.step (.mono (.tide ..)) (cutEntries_frame ..)) .refl) (.loop ..)
          · exact .step (.ite (.step (.mono (.tide ..)) (cutEntries_frame ..)) .refl) (loopPeriod_frame ..)
        · refine .step ?_ (allocPeriod_frame ..)
          split
          · exact .step (.ite (.step (.mono (.tide ..)) (cutEntries_frame ..)) .refl) (.loop ..)
          · exact .step (.ite (.step (.mono (.tide ..)) (cutEntries_frame ..)) .refl) (loopPeriod_frame ..)
    · refine .step ?_ (feedPeriod_frame ..)
      refine .ite ?_ ?_
      · refine .step ?_ (urgentPeriod_frame ..)
        refine .trans ?_ (.forTrays (fun _ _ => (.mono (trayPeriod_frame ..))))
        refine .step ?_ (delayPeriod_frame ..)
        refine .trans ?_ (.forTrays (fun _ _ => (.ite .refl (.mono (phaseChain_frame ..)))))
        refine .ite ?_ ?_
        · split
          · exact .step (.ite (.step (.mono (.tide ..)) (cutEntries_frame ..)) .refl) (.loop ..)
          · exact .step (.ite (.step (.mono (.tide ..)) (cutEntries_frame ..)) .refl) (loopPeriod_frame ..)
        · refine .step ?_ (allocPeriod_frame ..)
          split
          · exact .step (.ite (.step (.mono (.tide ..)) (cutEntries_frame ..)) .refl) (.loop ..)
          · exact .step (.ite (.step (.mono (.tide ..)) (cutEntries_frame ..)) .refl) (loopPeriod_frame ..)
      · refine .trans ?_ (.forTrays (fun _ _ => (.mono (chargePeriod_frame ..))))
        refine .step ?_ (urgentPeriod_frame ..)
        refine .trans ?_ (.forTrays (fun _ _ => (.mono (trayPeriod_frame ..))))
        refine .step ?_ (delayPeriod_frame ..)
        refine .trans ?_ (.forTrays (fun _ _ => (.ite .refl (.mono (phaseChain_frame ..)))))
        refine .ite ?_ ?_
        · split
          · exact .step (.ite (.step (.mono (.tide ..)) (cutEntries_frame ..)) .refl) (.loop ..)
          · exact .step (.ite (.step (.mono (.tide ..)) (cutEntries_frame ..)) .refl) (loopPeriod_frame ..)
        · refine .step ?_ (allocPeriod_frame ..)
          split
          · exact .step (.ite (.step (.mono (.tide ..)) (cutEntries_frame ..)) .refl) (.loop ..)
          · exact .step (.ite (.step (.mono (.tide ..)) (cutEntries_frame ..)) .refl) (loopPeriod_frame ..)
  · refine .step ?_ (switchAtCut_frame ..)
    refine .step ?_ (tidePeriod_frame ..)
    refine .ite ?_ ?_
    · refine .ite ?_ ?_
      · refine .step ?_ (urgentPeriod_frame ..)
        refine .trans ?_ (.forTrays (fun _ _ => (.mono (trayPeriod_frame ..))))
        refine .step ?_ (delayPeriod_frame ..)
        refine .trans ?_ (.forTrays (fun _ _ => (.ite .refl (.mono (phaseChain_frame ..)))))
        refine .ite ?_ ?_
        · split
          · exact .step (.ite (.step (.mono (.tide ..)) (cutEntries_frame ..)) .refl) (.loop ..)
          · exact .step (.ite (.step (.mono (.tide ..)) (cutEntries_frame ..)) .refl) (loopPeriod_frame ..)
        · refine .step ?_ (allocPeriod_frame ..)
          split
          · exact .step (.ite (.step (.mono (.tide ..)) (cutEntries_frame ..)) .refl) (.loop ..)
          · exact .step (.ite (.step (.mono (.tide ..)) (cutEntries_frame ..)) .refl) (loopPeriod_frame ..)
      · refine .trans ?_ (.forTrays (fun _ _ => (.mono (chargePeriod_frame ..))))
        refine .step ?_ (urgentPeriod_frame ..)
        refine .trans ?_ (.forTrays (fun _ _ => (.mono (trayPeriod_frame ..))))
        refine .step ?_ (delayPeriod_frame ..)
        refine .trans ?_ (.forTrays (fun _ _ => (.ite .refl (.mono (phaseChain_frame ..)))))
        refine .ite ?_ ?_
        · split
          · exact .step (.ite (.step (.mono (.tide ..)) (cutEntries_frame ..)) .refl) (.loop ..)
          · exact .step (.ite (.step (.mono (.tide ..)) (cutEntries_frame ..)) .refl) (loopPeriod_frame ..)
        · refine .step ?_ (allocPeriod_frame ..)
          split
          · exact .step (.ite (.step (.mono (.tide ..)) (cutEntries_frame ..)) .refl) (.loop ..)
          · exact .step (.ite (.step (.mono (.tide ..)) (cutEntries_frame ..)) .refl) (loopPeriod_frame ..)
    · refine .step ?_ (feedPeriod_frame ..)
      refine .ite ?_ ?_
      · refine .step ?_ (urgentPeriod_frame ..)
        refine .trans ?_ (.forTrays (fun _ _ => (.mono (trayPeriod_frame ..))))
        refine .step ?_ (delayPeriod_frame ..)
        refine .trans ?_ (.forTrays (fun _ _ => (.ite .refl (.mono (phaseChain_frame ..)))))
        refine .ite ?_ ?_
        · split
          · exact .step (.ite (.step (.mono (.tide ..)) (cutEntries_frame ..)) .refl) (.loop ..)
          · exact .step (.ite (.step (.mono (.tide ..)) (cutEntries_frame ..)) .refl) (loopPeriod_frame ..)
        · refine .step ?_ (allocPeriod_frame ..)
          split
          · exact .step (.ite (.step (.mono (.tide ..)) (cutEntries_frame ..)) .refl) (.loop ..)
          · exact .step (.ite (.step (.mono (.tide ..)) (cutEntries_frame ..)) .refl) (loopPeriod_frame ..)
      · refine .trans ?_ (.forTrays (fun _ _ => (.mono (chargePeriod_frame ..))))
        refine .step ?_ (urgentPeriod_frame ..)
        refine .trans ?_ (.forTrays (fun _ _ => (.mono (trayPeriod_frame ..))))
        refine .step ?_ (delayPeriod_frame ..)
        refine .trans ?_ (.forTrays (fun _ _ => (.ite .refl (.mono (phaseChain_frame ..)))))
        refine .ite ?_ ?_
        · split
          · exact .step (.ite (.step (.mono (.tide ..)) (cutEntries_frame ..)) .refl) (.loop ..)
          · exact .step (.ite (.step (.mono (.tide ..)) (cutEntries_frame ..)) .refl) (loopPeriod_frame ..)
        · refine .step ?_ (allocPeriod_frame ..)
          split
          · exact .step (.ite (.step (.mono (.tide ..)) (cutEntries_frame ..)) .refl) (.loop ..)
          · exact .step (.ite (.step (.mono (.tide ..)) (cutEntries_frame ..)) .refl) (loopPeriod_frame ..)

theorem equalisePeriod_frame (t0 : Nat) (s : State) : SameBut [.cal] s (equalisePeriod t0 s) :=
  .ite (.cal ..) (.ite (.ite (startSecond_frame ..) .refl) (.step (.ite (startSecond_frame ..) .refl) (.cal ..)))

theorem pairPeriod_frame (t0 : Nat) (s : State) : SameBut [.tx, .pair] s (pairPeriod t0 s) :=
  .ite (.step (.ite (State.sendPair_frame ..) .refl) (sendHello_frame ..)) (.ite (State.sendPair_frame ..) .refl)

theorem clockPeriod_frame (t0 : Nat) (s : State) : SameBut [.now, .od, .fm] s (clockPeriod t0 s) :=
  .step (.mono (State.advance_frame ..)) (.fm ..)

theorem ingestPeriod_frame (t0 : Nat) (v : List (Nat × Nat)) (s : State) :
    SameBut [.loop, .trays] s (ingestPeriod t0 v s) :=
  .ite (.step (ingest_frame ..) (.loop ..)) (ingest_frame ..)

theorem followPeriod_frame (t0 : Nat) (s : State) : SameBut [.est, .cal] s (followPeriod t0 s) :=
  .ite (.trans (.mono (equalisePeriod_frame ..)) (.forTrays (fun _ _ => (.mono (chargePeriod_frame ..))))) .refl

theorem drivePeriod_frame (t0 : Nat) (v : List (Nat × Nat)) (s : State) :
    SameBut [.freeCount, .tx, .txn, .fm, .loop, .phases, .tph, .links, .edge, .trays, .alloc, .tows, .est, .feed,
      .tide, .pair, .cal, .grid, .slots, .cap] s (drivePeriod t0 v s) :=
  .ite (.mono (followPeriod_frame ..)) (.ite (.step (.mono (chain_frame ..)) (equalisePeriod_frame ..)) (.step
    (.step (.step (.mono (chain_frame ..)) (equalisePeriod_frame ..)) (sendTaps_frame ..)) (fwRecords_frame ..)))

theorem periodBegun_frame (s : State) :
    SameBut [.freeCount, .now, .tx, .od, .fm, .loop, .feed, .cap] s (periodBegun s) :=
  .step (.step (.mono (capPeriod_frame ..)) (clockPeriod_frame ..)) (settleLoop_frame ..)

theorem controlEff_frame (s : State) :
    SameBut [.freeCount, .now, .tx, .od, .txn, .fm, .loop, .phases, .tph, .links, .edge, .trays, .alloc, .tows,
      .est, .feed, .tide, .pair, .cal, .grid, .slots, .port, .sess, .clk, .cap] s (controlEff s) :=
  .step (.step (.step (.step (.step (.step (.step (.mono (periodBegun_frame ..)) (ingestPeriod_frame ..))
    (clampPeriod_frame ..)) (drivePeriod_frame ..)) (countVoids_frame ..)) (pairPeriod_frame ..))
    (flushLate_frame ..)) (flushJ1_frame ..)

theorem State.withFetchWord_frame (s : State) (nbits w : Nat) :
    SameBut [.pending] s (State.withFetchWord s nbits w) := by
  unfold State.withFetchWord
  split
  · exact .pending ..
  · exact .refl

end Sys2Proof.Machine
end

section
/-! SUPPORT. Proof: the parts that an operation does not touch are as they were (00_scope.md). -/

namespace Sys2Proof.Machine

set_option Elab.async false
namespace SameBut

variable {l : List Part} {s t : State}

theorem pending_eq (h : SameBut l s t) (hl : .pending ∉ l := by decide) : t.pending = s.pending :=
  h.same .pending hl
theorem freeCount_eq (h : SameBut l s t) (hl : .freeCount ∉ l := by decide) : t.freeCount = s.freeCount :=
  h.same .freeCount hl
theorem now_eq (h : SameBut l s t) (hl : .now ∉ l := by decide) : t.now = s.now := h.same .now hl
theorem tx_eq (h : SameBut l s t) (hl : .tx ∉ l := by decide) : t.tx = s.tx := h.same .tx hl
theorem hw_eq (h : SameBut l s t) (hl : .hw ∉ l := by decide) : t.hw = s.hw := h.same .hw hl
theorem od_eq (h : SameBut l s t) (hl : .od ∉ l := by decide) : t.od = s.od := h.same .od hl
theorem txn_eq (h : SameBut l s t) (hl : .txn ∉ l := by decide) : t.txn = s.txn := h.same .txn hl
theorem fm_eq (h : SameBut l s t) (hl : .fm ∉ l := by decide) : t.fm = s.fm := h.same .fm hl
theorem rcd_eq (h : SameBut l s t) (hl : .rcd ∉ l := by decide) : t.rcd = s.rcd := h.same .rcd hl
theorem loop_eq (h : SameBut l s t) (hl : .loop ∉ l := by decide) : t.loop = s.loop := h.same .loop hl
theorem phases_eq (h : SameBut l s t) (hl : .phases ∉ l := by decide) : t.phases = s.phases := h.same .phases hl
theorem tph_eq (h : SameBut l s t) (hl : .tph ∉ l := by decide) : t.tph = s.tph := h.same .tph hl
theorem links_eq (h : SameBut l s t) (hl : .links ∉ l := by decide) : t.links = s.links := h.same .links hl
theorem edge_eq (h : SameBut l s t) (hl : .edge ∉ l := by decide) : t.edge = s.edge := h.same .edge hl
theorem trays_eq (h : SameBut l s t) (hl : .trays ∉ l := by decide) : t.trays = s.trays := h.same .trays hl
theorem alloc_eq (h : SameBut l s t) (hl : .alloc ∉ l := by decide) : t.alloc = s.alloc := h.same .alloc hl
theorem tows_eq (h : SameBut l s t) (hl : .tows ∉ l := by decide) : t.tows = s.tows := h.same .tows hl
theorem est_eq (h : SameBut l s t) (hl : .est ∉ l := by decide) : t.est = s.est := h.same .est hl
theorem feed_eq (h : SameBut l s t) (hl : .feed ∉ l := by decide) : t.feed = s.feed := h.same .feed hl
theorem gov_eq (h : SameBut l s t) (hl : .gov ∉ l := by decide) : t.gov = s.gov := h.same .gov hl
theorem gates_eq (h : SameBut l s t) (hl : .gates ∉ l := by decide) : t.gates = s.gates := h.same .gates hl
theorem ev_eq (h : SameBut l s t) (hl : .ev ∉ l := by decide) : t.ev = s.ev := h.same .ev hl
theorem tide_eq (h : SameBut l s t) (hl : .tide ∉ l := by decide) : t.tide = s.tide := h.same .tide hl
theorem pair_eq (h : SameBut l s t) (hl : .pair ∉ l := by decide) : t.pair = s.pair := h.same .pair hl
theorem sec_eq (h : SameBut l s t) (hl : .sec ∉ l := by decide) : t.sec = s.sec := h.same .sec hl
theorem cal_eq (h : SameBut l s t) (hl : .cal ∉ l := by decide) : t.cal = s.cal := h.same .cal hl
theorem grid_eq (h : SameBut l s t) (hl : .grid ∉ l := by decide) : t.grid = s.grid := h.same .grid hl
theorem slots_eq (h : SameBut l s t) (hl : .slots ∉ l := by decide) : t.slots = s.slots := h.same .slots hl
theorem dock_eq (h : SameBut l s t) (hl : .dock ∉ l := by decide) : t.dock = s.dock := h.same .dock hl
theorem port_eq (h : SameBut l s t) (hl : .port ∉ l := by decide) : t.port = s.port := h.same .port hl
theorem sess_eq (h : SameBut l s t) (hl : .sess ∉ l := by decide) : t.sess = s.sess := h.same .sess hl
theorem clk_eq (h : SameBut l s t) (hl : .clk ∉ l := by decide) : t.clk = s.clk := h.same .clk hl
theorem cap_eq (h : SameBut l s t) (hl : .cap ∉ l := by decide) : t.cap = s.cap := h.same .cap hl

/-- What reads the settings reads them as before. -/
theorem cfgU_eq (h : SameBut l s t) (i j : Nat) (hl : .od ∉ l := by decide) : t.cfgU i j = s.cfgU i j := by
  rw [State.cfgU, State.cfgU, h.od_eq hl]

theorem running_eq (h : SameBut l s t) (hl : .hw ∉ l := by decide) : t.running = s.running := by
  rw [State.running, State.running, h.hw_eq hl]

end SameBut

/-- A command's outcome is what its effect leaves, the queue apart. -/
theorem runIf_frame {l : List Part} {ok go : Bool} {s t : State} {f : State → State} (hf : ∀ s, SameBut l s (f s))
    (h : runIf ok go s f = .next t) : SameBut l s t := by
  have hs : SameBut l s (if ok && go then f s else s) := .ite (hf s) .refl
  rw [runIf_next h]
  exact ⟨fun p hp => by cases p <;> first | rfl | exact hs.same _ hp, hs.memory⟩

end Sys2Proof.Machine
end

section
/-! SUPPORT. Proof: every command completes, so that a queue of commands never stops the machine (00_scope.md). -/

namespace Sys2Proof.Machine

set_option Elab.async false

/-- Every command ends in a next state with the waiting commands as they were. -/
theorem exec_completes (c : Instr) (s : State) : ∃ t, exec c s = .next t ∧ t.pending = s.pending := by
  cases c <;> exact ⟨_, rfl, rfl⟩

theorem step_of_waiting {c : Instr} {rest : List Instr} {s : State} (h : s.pending = c :: rest) :
    step s = exec c { s with pending := rest } := by
  rw [step, h]

theorem step_of_idle {s : State} (h : s.pending = []) : step s = .next (idle s) := by
  rw [step, h]

/-- A step takes the front of the queue and leaves the rest waiting. -/
theorem step_completes (s : State) : ∃ t, step s = .next t ∧ t.pending = s.pending.drop 1 := by
  cases hq : s.pending with
  | cons c rest =>
    rw [step_of_waiting hq]
    exact exec_completes c _
  | nil => exact ⟨_, step_of_idle hq, by rw [(idle_frame s).pending_eq, hq]; rfl⟩

/-- The state a step leads to. -/
def stepped (s : State) : State :=
  match step s with
  | .next t => t
  | _ => s

theorem step_eq_stepped (s : State) : step s = .next (stepped s) := by
  obtain ⟨t, ht, -⟩ := step_completes s
  rw [stepped, ht]

theorem stepped_pending (s : State) : (stepped s).pending = s.pending.drop 1 := by
  obtain ⟨t, ht, hp⟩ := step_completes s
  rw [stepped, ht, hp]

theorem iterate_stepped_pending (s : State) (k : Nat) : (stepped^[k] s).pending = s.pending.drop k := by
  induction k with
  | zero => rfl
  | succ k ih => rw [Function.iterate_succ_apply', stepped_pending, ih, List.drop_drop]

theorem queueOk_of_drop {s t : State} (k : Nat) (h : t.pending = s.pending.drop k) (hs : s.queueOk = true) :
    t.queueOk = true := by
  rw [State.queueOk, List.all_eq_true] at hs ⊢
  exact fun c hc => hs c (List.mem_of_mem_drop (h ▸ hc))

/-- Settles O54: the run is the iterated step, which always exists; k steps drop k commands. -/
theorem stepsGoOn : Obligations.StepsGoOn := fun s =>
  ⟨fun k => stepped^[k] s, rfl,
   fun k => (step_eq_stepped _).trans (congrArg _ (Function.iterate_succ_apply' ..).symm),
   iterate_stepped_pending s,
   fun hs k => queueOk_of_drop k (iterate_stepped_pending s k) hs⟩

/-- Settles O51: the two equations of a step, and the queue a step leaves. -/
theorem stepTakesFront : Obligations.StepTakesFront := by
  refine ⟨fun s c rest h => step_of_waiting h, fun s h hon => ?_, fun s h hoff => ?_, fun s t h ht => ?_⟩
  · rw [step_of_idle h, idle, if_neg hon]
  · rw [step_of_idle h, idle, if_pos hoff]
  · obtain ⟨u, hu, hp⟩ := step_completes s
    cases hu.symm.trans ht
    rw [hp, h]
    rfl

end Sys2Proof.Machine
end

section
/-! SUPPORT. Proof: the state after reset, and a command that names a channel no program has
(00_scope.md, 10_control_grid.md). -/

namespace Sys2Proof.Machine

set_option Elab.async false

theorem reset_phases_off : ∀ t < Config.trays, ∀ p < Config.phases, (State.reset.ph t p).st = .off := by
  decide +kernel

theorem reset_trays_absent : ∀ t < Config.trays, (State.reset.tray t).st = .absent ∧
    (State.reset.tray t).anyDrive = false ∧ (State.reset.link t).up = false := by
  decide +kernel

theorem reset_slots_empty : ∀ n < Config.slots, 24 ≤ n → (State.reset.slot n).st = .empty := by
  decide +kernel

/-- Settles O52: each clause reads one field of the state after reset. -/
theorem resetState : Obligations.ResetState :=
  ⟨rfl, rfl, rfl, fun t p ht hp => reset_phases_off t ht p hp, reset_trays_absent, rfl, rfl, rfl, rfl, rfl, rfl, rfl,
    reset_slots_empty, by decide +kernel, by decide +kernel, rfl, by decide +kernel⟩

/-- Right after reset, with firmware started. -/
def started : State := { State.reset with hw := { Hw.reset with phase := .firmware } }

/-- A call from a firmware slot is answered with one value the spec does not state (log entry 2), whatever its
channel. -/
theorem keeperCallEff_freeCount {n : Nat} (hn : n < 24) (chan gate : Nat) (payload : Bytes) (s : State) :
    (keeperCallEff n chan gate payload s).freeCount = s.freeCount + 1 := by
  rw [keeperCallEff, if_pos hn]
  dsimp only
  rw [(gateSignalEff_frame ..).freeCount_eq, (sendBarge_frame ..).freeCount_eq, (inputRecord_frame ..).freeCount_eq,
    (sendBlock_frame ..).freeCount_eq]

/-- Refutes O53: a keeper call that names channel 256, which no program has, is carried out all the same: channels
of up to 16 bits pass, and the call of a firmware slot uses up one free value. -/
theorem not_commandsComplete : ¬ Obligations.CommandsComplete := by
  intro ⟨_, hill, _⟩
  have hexec : exec (.keeperCall 0 256 0 []) started =
      .next { keeperCallEff 0 256 0 [] started with pending := [] } := rfl
  have hcount := keeperCallEff_freeCount (n := 0) (by decide) 256 0 [] started
  obtain h | ⟨ses, index, sub, h⟩ := hill (.keeperCall 0 256 0 []) started rfl
  · have := congrArg State.freeCount (Host.Outcome.next.inj (hexec.symm.trans h))
    exact absurd (hcount.symm.trans this) (Nat.succ_ne_self _)
  · have := congrArg State.freeCount (Host.Outcome.next.inj (hexec.symm.trans h))
    exact absurd (hcount.symm.trans this) (Nat.succ_ne_self _)

end Sys2Proof.Machine
end

section
/-! SUPPORT. Proof: the operations that may touch every part, resets and writes of objects, keep the memories'
canonical form (10_control_grid.md: Cores). -/

namespace Sys2Proof.Machine

set_option Elab.async false

/-! ### Resets and power -/

theorem resetModule_frame (cause : Nat) (s : State) : SameBut Part.all s (resetModule cause s) :=
  .step (.step (.mono (flushStaged_frame ..)) (loseVolatile_frame ..)) (.od ..)

theorem powerUp_frame (s : State) : SameBut Part.all s (powerUp s) :=
  .step (.mono (loseVolatile_frame ..)) (.od ..)

theorem powerFailSequence_frame (s : State) : SameBut Part.all s (powerFailSequence s) :=
  .step (.step (.step (.step (.trans (.step (.step (.mono (countRaise_frame ..)) (recordAlways_frame ..))
    (enterActive_frame ..)) (.foldl fun _ _ => .step (.step (.mono (countRaise_frame ..)) (recordRun_frame ..))
    (enterActive_frame ..))) (.hw ..)) (flushStaged_frame ..)) (loseVolatile_frame ..)) (.now_hw_od ..)

theorem powerFailEff_frame (s : State) : SameBut Part.all s (powerFailEff s) :=
  .ite (powerFailSequence_frame ..) .refl

theorem powerRestoreEff_frame (s : State) : SameBut Part.all s (powerRestoreEff s) :=
  .ite (.step (.mono (.hw ..)) (powerUp_frame ..)) .refl

theorem thermalShutdownEff_frame (s : State) : SameBut Part.all s (thermalShutdownEff s) :=
  .ite (.step (powerFailSequence_frame ..) (.hw ..)) .refl

theorem thermalRestartEff_frame (s : State) : SameBut Part.all s (thermalRestartEff s) := by
  dsimp only [thermalRestartEff]
  split
  · exact .ite (.step (powerUp_frame ..) (.hw ..)) .refl
  · exact .refl

theorem watchdogEff_frame (core : Nat) (s : State) : SameBut Part.all s (watchdogEff core s) :=
  .ite .refl (.step (.step (.mono (State.assertFaultOut_frame ..)) (.hw ..)) (resetModule_frame ..))

theorem moduleResetEff_frame (ses : Nat) (s : State) : SameBut Part.all s (moduleResetEff ses s) :=
  .ite (resetModule_frame ..) (.mono (State.violate_frame ..))

theorem networkLoaderEff_frame (s : State) : SameBut Part.all s (networkLoaderEff s) := by
  dsimp only [networkLoaderEff]
  refine .ite .refl ?_
  split
  · exact .step (.mono (.sec ..)) (resetModule_frame ..)
  · exact .ite (.mono (beginInstall_frame ..)) .refl

theorem firmwareInstallEff_frame (s : State) : SameBut Part.all s (firmwareInstallEff s) := by
  dsimp only [firmwareInstallEff]
  split
  · exact .step (.mono (.sec ..)) (resetModule_frame ..)
  · exact .ite (.mono (beginInstall_frame ..)) .refl

/-! ### Writes of objects -/

theorem command_frame (ses index sub v : Nat) (s : State) : SameBut Part.all s (command ses index sub v s) := by
  unfold command
  split
  · exact .mono (loopStartEff_frame ..)
  · exact .mono (loopBlackStartEff_frame ..)
  · exact .mono (loopStopEff_frame ..)
  · exact .mono (loopResetEff_frame ..)
  · exact .mono (forecasterStartEff_frame ..)
  · exact .mono (forecasterStopEff_frame ..)
  · exact .mono (modelSwitchEff_frame ..)
  · exact .mono (forecasterClearEff_frame ..)
  · exact .mono (governorStartEff_frame ..)
  · exact .mono (governorStopEff_frame ..)
  · exact .mono (commitBordersEff_frame ..)
  · exact .mono (governorClearEff_frame ..)
  · exact .mono (feedClearEff_frame ..)
  · exact .mono (rereadEff_frame ..)
  · exact .mono (gridClearEff_frame ..)
  · exact .step (.mono (State.drawNat_frame ..)) (gridSelfTestEff_frame ..)
  · exact .mono (gatesClearEff_frame ..)
  · exact .mono (eventsClearEff_frame ..)
  · exact .mono (dockStartEff_frame ..)
  · exact .mono (dockStopEff_frame ..)
  · exact .mono (dockClearEff_frame ..)
  · exact .mono (captureStartEff_frame ..)
  · exact .mono (captureFreezeEff_frame ..)
  · exact .mono (captureReleaseEff_frame ..)
  · exact .mono (captureStopEff_frame ..)
  · exact .mono (portRetrainEff_frame ..)
  · exact .mono (portClearEff_frame ..)
  · exact .mono (flowClearEff_frame ..)
  · exact .mono (storeAllEff_frame ..)
  · exact .mono (markEff_frame ..)
  · exact .mono (markEff_frame ..)
  · exact .mono (moduleResetEff_frame ..)
  · exact .mono (faultsClearEff_frame ..)
  · exact .mono (takeNowEff_frame ..)
  · exact .mono (drillEff_frame ..)
  · exact .mono (pairClearEff_frame ..)
  · exact .mono (layoutCommitEff_frame ..)
  · exact .mono (layoutDiscardEff_frame ..)
  · exact .mono (recorderClearCountersEff_frame ..)
  · exact .mono (calStoreLive_frame ..)
  · exact .mono (calLockEff_frame ..)
  · exact .mono (calLockEff_frame ..)
  · exact .mono (calClearEff_frame ..)
  · exact .mono (markInstallEff_frame ..)
  · exact .mono (discardStagedEff_frame ..)
  · exact .mono (securityClearEff_frame ..)
  · exact .mono (otherCommand_frame ..)

theorem writeWord_frame (g : Signed) (ses index sub v : Nat) (s : State) :
    SameBut Part.all s (writeWord g ses index sub v s) := by
  dsimp only [writeWord]
  split
  · exact .mono (State.violate_frame ..)
  · refine .ite (.mono (State.violate_frame ..)) ?_
    split
    · exact .mono (signedValue_frame ..)
    · exact .mono (State.violate_frame ..)
    · exact command_frame ..
    · exact .ite (.mono (putValue_frame ..)) (.mono (State.violate_frame ..))
    · split
      next h => exact .mono (ownRule_frame h)
      next => exact .mono (putValue_frame ..)

theorem scalarBlock_frame (g : Signed) (ses index sub offset : Nat) (r : ObjRow) (data : Bytes) (s : State) :
    SameBut Part.all s (scalarBlock g ses index sub offset r data s) :=
  .ite (.mono (State.violate_frame ..)) (writeWord_frame ..)

theorem writeBytes_frame (g : Signed) (ses index sub offset : Nat) (data : Bytes) (s : State) :
    SameBut Part.all s (writeBytes g ses index sub offset data s) := by
  dsimp only [writeBytes]
  split
  · exact .mono (State.violate_frame ..)
  · refine .ite (.mono (State.violate_frame ..)) (.ite (scalarBlock_frame ..) ?_)
    split
    · exact .mono (impedanceBlockEff_frame ..)
    · exact .mono (opTableEff_frame ..)
    · exact .mono (sourceConfigEff_frame ..)
    · exact .mono (slotBlockEff_frame ..)
    · exact .mono (sessionGateWords_frame ..)
    · exact .mono (referenceBlock_frame ..)
    · exact .mono (calBlockEff_frame ..)
    · exact .mono (imageBlockEff_frame ..)
    · exact .ite (.mono (signedRootKey_frame ..)) (.ite (.mono (rootKeySetEff_frame ..)) (.mono (State.violate_frame ..)))
    · exact .mono (putBlob_frame ..)

theorem writeWords_frame (g : Signed) (ses : Nat) :
    ∀ (payload : Bytes) (n : Nat) (s : State), SameBut Part.all s (writeWords g ses payload n s)
  | _, 0, _ => .refl
  | _, n + 1, _ => .trans (.ite .refl (.ite (writeWord_frame ..) (.mono (State.violate_frame ..))))
      (writeWords_frame g ses _ n _)

theorem writeBlockBody_frame (g : Signed) (ses : Nat) (payload : Bytes) (s : State) :
    SameBut Part.all s (writeBlockBody g ses payload s) :=
  .ite (.mono (State.violate_frame ..)) (writeBytes_frame ..)

theorem writeBlockEff_frame (m : Trasia) (s : State) : SameBut Part.all s (writeBlockEff m s) := by
  have hbody : SameBut Part.all s (ifPermitted m (writeBlockBody none m.ses m.payload) s) :=
    ifPermitted_frame fun s => writeBlockBody_frame ..
  dsimp only [writeBlockEff]
  refine .ite (.ite hbody (.step hbody (.port ..))) (.step hbody (reply_frame ..))

theorem writeEff_frame (m : Trasia) (s : State) : SameBut Part.all s (writeEff m s) :=
  .step (ifPermitted_frame fun s => writeWords_frame ..) (reply_frame ..)

theorem applyInner_frame (g : Signed) (m : Trasia) (s : State) : SameBut Part.all s (applyInner g m s) :=
  .ite (.mono (State.violateOp_frame ..)) (.ite (writeWords_frame ..) (writeBlockBody_frame ..))

theorem signedApply_frame (ses : Nat) (b : Bytes) (s : State) : SameBut Part.all s (signedApply ses b s) := by
  dsimp only [signedApply]
  split
  · exact .step (.mono (.sec ..)) (applyInner_frame ..)
  · exact .mono (.sec ..)

theorem signedVerifyEff_frame (ses : Nat) (s : State) : SameBut Part.all s (signedVerifyEff ses s) := by
  dsimp only [signedVerifyEff]
  split
  · exact .refl
  · exact .ite (.mono (State.updSess_frame ..)) (.ite (.step (.mono (State.updSess_frame ..)) (signedApply_frame ..))
      (.step (.mono (State.updSess_frame ..)) (signedRefuse_frame ..)))

end Sys2Proof.Machine
end

section
/-! SUPPORT. Proof: which parts the commands of each family touch. -/

namespace Sys2Proof.Machine

set_option Elab.async false

/-- The parts that the commands of a family touch. -/
def familyParts : Family → List Part
  | .controlPeriod =>
      [.freeCount, .now, .tx, .od, .txn, .fm, .loop, .phases, .tph, .links, .edge, .trays, .alloc, .tows, .est,
        .feed, .tide, .pair, .cal, .grid, .slots, .port, .sess, .clk, .cap]
  | .busLoop =>
      [.tx, .fm, .loop, .trays, .feed, .sess, .clk]
  | .phases =>
      [.tx, .fm, .loop, .phases, .tph, .links, .edge, .trays, .alloc, .sess]
  | .links =>
      [.tx, .txn, .fm, .loop, .phases, .tph, .links, .edge, .trays, .alloc, .tows, .est, .feed, .pair]
  | .trays =>
      [.tx, .txn, .fm, .loop, .phases, .tph, .links, .trays, .alloc, .tows, .est, .pair, .sess]
  | .towpath =>
      [.tx, .od, .txn, .fm, .loop, .phases, .tph, .links, .trays, .alloc, .tows, .est, .pair, .cal, .sess]
  | .estimator =>
      [.txn, .fm, .tows, .est, .cal, .sess]
  | .tide =>
      [.tx, .fm, .loop, .tide, .port, .sess, .cap]
  | .governor =>
      [.freeCount, .tx, .od, .txn, .fm, .feed, .gov, .gates, .tide, .grid, .slots, .port, .sess]
  | .feeds =>
      [.tx, .hw, .fm, .trays, .alloc, .feed]
  | .grid =>
      [.freeCount, .tx, .fm, .loop, .phases, .tph, .est, .feed, .gov, .gates, .ev, .tide, .grid, .slots, .sess,
        .cap]
  | .gates =>
      [.freeCount, .tx, .fm, .gates, .grid, .port, .sess]
  | .events =>
      [.tx, .fm, .ev, .grid, .slots, .sess, .cap]
  | .programs =>
      [.freeCount, .tx, .txn, .fm, .gates, .tide, .sec, .grid, .slots, .dock, .sess, .cap]
  | .clock =>
      [.freeCount, .tx, .fm, .loop, .est, .feed, .tide, .pair, .port, .clk]
  | .capture =>
      [.fm, .sess, .cap]
  | .port =>
      [.freeCount, .tx, .fm, .gov, .port, .sess, .clk]
  | .trasia | .security | .dictionary | .faults | .hardware =>
      Part.all
  | .start =>
      [.freeCount, .tx, .hw, .od, .txn, .fm, .rcd, .trays, .alloc, .est, .feed, .gov, .gates, .pair, .sec, .cal,
        .port, .sess, .clk, .cap]
  | .pair =>
      [.freeCount, .tx, .od, .txn, .fm, .loop, .gates, .ev, .tide, .pair, .sec, .grid, .slots, .port, .sess, .clk]
  | .takeover =>
      [.freeCount, .tx, .txn, .fm, .loop, .phases, .tph, .links, .edge, .trays, .alloc, .tows, .est, .feed, .gov,
        .gates, .tide, .pair, .sec, .grid, .dock, .port, .sess, .clk, .cap]
  | .recorder =>
      [.tx, .od, .fm, .rcd, .sess]
  | .calibration =>
      [.od, .txn, .fm, .phases, .links, .cal, .sess]

/-- The parts that a command touches: a step of shelf time, a TIME frame and a STORE of the partner touch more than
the others of their families. -/
def partsOf : Instr → List Part
  | .shelfTimeStep => [.now, .hw, .od, .fm, .rcd, .phases, .tph, .links, .edge, .trays, .alloc, .tows, .est, .feed,
    .gov, .gates, .ev, .tide, .pair, .sec, .cal, .grid, .slots, .port, .sess, .clk, .cap]
  | .pairTimeFrame _ => [.freeCount, .now, .tx, .hw, .od, .fm, .rcd, .phases, .tph, .links, .edge, .trays, .alloc,
    .tows, .est, .feed, .gov, .gates, .ev, .tide, .pair, .sec, .cal, .grid, .port, .sess, .clk, .cap]
  | .pairStore _ => [.tx, .od, .fm, .tph, .links, .trays, .alloc, .tows, .feed, .gates, .tide, .pair, .grid, .port,
    .sess, .cap]
  | c => familyParts c.family

/-- The outcome of a command, where the parts its effect touches are among those of l. -/
theorem row_frame {l m : List Part} {ok go : Bool} {s t : State} {f : State → State} (hf : ∀ s, SameBut m s (f s))
    (h : runIf ok go s f = .next t) (hm : m.all l.contains = true := by rfl) : SameBut l s t :=
  (runIf_frame hf h).mono fun p hp => by simpa using List.all_eq_true.mp hm p hp

theorem rowObj_frame {l m : List Part} {ses index sub : Nat} {here : Bool} {s t : State} {f : State → State}
    (hf : ∀ s, SameBut m s (f s)) (h : runObj ses index sub here s f = .next t)
    (hm : (.sess :: m).all l.contains = true := by rfl) : SameBut l s t :=
  row_frame (m := .sess :: m) (fun s => .ite ((hf s).mono (List.subset_cons_self ..))
    ((State.violate_frame ..).mono (List.cons_subset_cons _ (List.nil_subset _)))) h hm

theorem Part.mem_all (p : Part) : p ∈ Part.all := by cases p <;> decide

theorem whole_frame {m : List Part} {ok go : Bool} {s t : State} {f : State → State} (hf : ∀ s, SameBut m s (f s))
    (h : runIf ok go s f = .next t) : SameBut Part.all s t :=
  (runIf_frame hf h).mono fun p _ => p.mem_all

/-- SCHEDULE counts from its frame's arrival. -/
theorem schedule_frame (at_ : Nat) (f : Bytes) (s : State) :
    SameBut [.tx, .fm, .tide, .port, .sess] s (request 7 f (scheduleEff at_) s) :=
  request_frame fun _ _ => .mono (scheduleEff_frame ..)

theorem request_all {op : Nat} {f : Bytes} {g : Trasia → State → State}
    (hg : ∀ m s, SameBut Part.all s (g m s)) (s : State) : SameBut Part.all s (request op f g s) :=
  request_frame hg

/-- The families of the power chain and of what steers it. -/
def powerFamily : Family → Bool
  | .controlPeriod | .busLoop | .phases | .links | .trays | .towpath | .estimator | .tide | .governor | .feeds =>
    true
  | _ => false

/-- The families of the grid, of time, of the pair and of the port. -/
def gridFamily : Family → Bool
  | .grid | .gates | .events | .programs | .clock | .pair | .capture | .port => true
  | _ => false

theorem powerRow_frame {c : Instr} {s t : State} (hc : powerFamily c.family = true)
    (h : exec c s = .next t) : SameBut (partsOf c) s t := by
  cases c with
  | controlPeriod => exact row_frame (fun s => controlEff_frame ..) h
  | trayReadingExcluded => exact row_frame (fun s => excludeEff_frame ..) h
  | trayReadingReadmitted => exact row_frame (fun s => readmitEff_frame ..) h
  | loopHoldTimeout => exact row_frame (fun s => holdTimeoutEff_frame ..) h
  | clampPersistent => exact row_frame (fun s => clampPersistentEff_frame ..) h
  | windowTimeout => exact row_frame (fun s => windowTimeoutEff_frame ..) h
  | farWindowTimeout => exact row_frame (fun s => farTimeoutEff_frame ..) h
  | softStartComplete => exact row_frame (fun s => softCompleteEff_frame ..) h
  | stoppingComplete => exact row_frame (fun s => stoppingCompleteEff_frame ..) h
  | loopStart => exact row_frame (fun s => loopStartEff_frame ..) h
  | loopBlackStart => exact row_frame (fun s => loopBlackStartEff_frame ..) h
  | loopStop => exact row_frame (fun s => loopStopEff_frame ..) h
  | loopReset => exact row_frame (fun s => loopResetEff_frame ..) h
  | halfPeriodUpdate => exact row_frame (fun s => halfPeriodEff_frame ..) h
  | deEntry => exact row_frame (fun s => deEntryEff_frame ..) h
  | balanceTrimAtLimit => exact row_frame (fun s => trimLimitEff_frame ..) h
  | phaseOpenDetected => exact row_frame (fun s => openDetectedEff_frame ..) h
  | phaseSenseFailed => exact row_frame (fun s => senseDetectedEff_frame ..) h
  | traySumMismatch => exact row_frame (fun s => sumMismatchEff_frame ..) h
  | identificationComplete => exact row_frame (fun s => identCompleteEff_frame ..) h
  | phaseHandoffComplete => exact row_frame (fun s => handoffCompleteEff_frame ..) h
  | phaseOutOfService => exact rowObj_frame (fun s => phaseOutEff_frame ..) h
  | phaseIntoService => exact rowObj_frame (fun s => phaseInEff_frame ..) h
  | phaseDrawStart => exact row_frame (fun s => drawStartEff_frame ..) h
  | phaseDrawingComplete => exact row_frame (fun s => drawingCompleteEff_frame ..) h
  | phaseRestoreComplete => exact row_frame (fun s => restoreCompleteEff_frame ..) h
  | drawingLockoutExpiry => exact row_frame (fun s => lockoutExpiryEff_frame ..) h
  | phaseOvercurrent => exact row_frame (fun s => overcurrentEff_frame ..) h
  | busOvervoltage => exact row_frame (fun s => overvoltageEff_frame ..) h
  | sampleFrame => exact row_frame (fun s => sampleEff_frame ..) h
  | statusFrame => exact row_frame (fun s => statusEff_frame ..) h
  | stageConfigReply => exact row_frame (fun s => configReplyEff_frame ..) h
  | timeFrameSend => exact row_frame (fun s => timeSendEff_frame ..) h
  | linkDelayMeasure => exact row_frame (fun s => delayMeasureEff_frame ..) h
  | linkLaneLost => exact row_frame (fun s => laneLostEff_frame ..) h
  | paddleLinkLost => exact row_frame (fun s => paddleLinkLostEff_frame ..) h
  | heldCurrentExpiry => exact row_frame (fun s => heldExpiryEff_frame ..) h
  | paddleLinkRestored => exact row_frame (fun s => linkRestoredEff_frame ..) h
  | lateCommandDiscard => exact row_frame (fun s => lateCommandEff_frame ..) h
  | latePeriod => exact row_frame (fun s => latePeriodEff_frame ..) h
  | prestartCheckStart => exact row_frame (fun s => checkStartEff_frame ..) h
  | prestartPhaseProbe => exact row_frame (fun s => phaseProbeEff_frame ..) h
  | probeRetry => exact row_frame (fun s => probeRetryEff_frame ..) h
  | trayInsert => exact rowObj_frame (fun s => trayInsertEff_frame ..) h
  | trayDrain => exact rowObj_frame (fun s => trayDrainEff_frame ..) h
  | traySlackBegin => exact rowObj_frame (fun s => traySlackBeginEff_frame ..) h
  | traySlackEnd => exact rowObj_frame (fun s => traySlackEndEff_frame ..) h
  | trayReset => exact rowObj_frame (fun s => trayResetEff_frame ..) h
  | traySeated => exact row_frame (fun s => traySeatedEff_frame ..) h
  | prechargeTrackCheck => exact row_frame (fun s => trackCheckEff_frame ..) h
  | prechargeClosure => exact row_frame (fun s => closureEff_frame ..) h
  | contactorTestStart => exact row_frame (fun s => testStartEff_frame ..) h
  | containedTestPass => exact row_frame (fun s => testEndEff_frame ..) h
  | trayAdmitComplete => exact row_frame (fun s => admitCompleteEff_frame ..) h
  | drainLimitsZero => exact row_frame (fun s => limitsZeroEff_frame ..) h
  | drainOpenTimeout => exact row_frame (fun s => drainTimeoutEff_frame ..) h
  | openingTimeout => exact row_frame (fun s => openingTimeoutEff_frame ..) h
  | slackAutoBegin => exact row_frame (fun s => slackAutoEff_frame ..) h
  | slackRestEnd => exact row_frame (fun s => slackRestEndEff_frame ..) h
  | slackUrgentDemand => exact row_frame (fun s => slackUrgentDemandEff_frame ..) h
  | earlyBreakBroken => exact row_frame (fun s => earlyBreakEff_frame ..) h
  | earlyBreakMade => exact row_frame (fun s => earlyMadeEff_frame ..) h
  | seatedLinkLossTimeout => exact row_frame (fun s => seatedLossEff_frame ..) h
  | towpathCycle => exact row_frame (fun s => towpathCycleEff_frame ..) h
  | towpathReply => exact row_frame (fun s => towReplyEff_frame ..) h
  | towpathPlausSend => exact row_frame (fun s => plausSendEff_frame ..) h
  | plausComparison => exact row_frame (fun s => plausComparisonEff_frame ..) h
  | commandWindow => exact row_frame (fun s => commandWindowEff_frame ..) h
  | southRecoverySweep => exact row_frame (fun s => southRecoveryEff_frame ..) h
  | breakClassify => exact row_frame (fun s => breakClassifyEff_frame ..) h
  | ringWhole => exact row_frame (fun s => ringWholeEff_frame ..) h
  | senseSuspicion => exact row_frame (fun s => senseSuspicionEff_frame ..) h
  | openWireScheduled => exact row_frame (fun s => openScheduledEff_frame ..) h
  | openWireEvaluate => exact row_frame (fun s => openEvaluateEff_frame ..) h
  | cellUnreadable => exact row_frame (fun s => cellUnreadableEff_frame ..) h
  | weirAsserted => exact row_frame (fun s => weirAssertedEff_frame ..) h
  | openWireTestNow => exact rowObj_frame (fun s => openNowEff_frame ..) h
  | towReenumerate => exact rowObj_frame (fun s => reenumerateEff_frame ..) h
  | clearMarks => exact rowObj_frame (fun s => clearMarksEff_frame ..) h
  | weirTestCmd => exact rowObj_frame (fun s => weirTestCmdEff_frame ..) h
  | weirTestTimeout => exact row_frame (fun s => weirTestTimeoutEff_frame ..) h
  | balanceResend => exact row_frame (fun s => balanceResendEff_frame ..) h
  | estimatorUpdate => exact row_frame (fun s => estimatorUpdateEff_frame ..) h
  | noRestNotice => exact row_frame (fun s => noRestEff_frame ..) h
  | stepQualified => exact row_frame (fun s => stepQualifiedEff_frame ..) h
  | impedanceFit => exact row_frame (fun s => impedanceFitEff_frame ..) h
  | impedanceTableSave => exact row_frame (fun s => impedanceTableSaveEff_frame ..) h
  | estimatorStateSave => exact row_frame (fun s => stateSaveEff_frame ..) h
  | stateSaveNow => exact rowObj_frame (fun s => stateSaveNowEff_frame ..) h
  | impedanceResetSeeds => exact rowObj_frame (fun s => resetSeeds_frame ..) h
  | impedanceSaveNow => exact rowObj_frame (fun s => impedanceSaveNowEff_frame ..) h
  | impedanceBlockWrite => exact rowObj_frame (fun s => impedanceBlockEff_frame ..) h
  | forecastEvaluation => exact row_frame (fun s => evaluationEff_frame ..) h
  | evaluationDeadlineMiss => exact row_frame (fun s => deadlineMissEff_frame ..) h
  | gateUpdate => exact row_frame (fun s => gateUpdateEff_frame ..) h
  | schedule frame => exact row_frame (schedule_frame _ _) h
  | groupWindowClose => exact row_frame (fun s => groupCloseEff_frame ..) h
  | sourceSuspensionEnd => exact row_frame (fun s => suspensionEndEff_frame ..) h
  | hintHoldoverLimit => exact row_frame (fun s => hintLimitEff_frame ..) h
  | forecasterStart => exact row_frame (fun s => forecasterStartEff_frame ..) h
  | forecasterStop => exact row_frame (fun s => forecasterStopEff_frame ..) h
  | modelSwitch => exact row_frame (fun s => modelSwitchEff_frame ..) h
  | modelSwitchForced => exact row_frame (fun s => modelForceEff_frame ..) h
  | forecasterClearCounters => exact row_frame (fun s => forecasterClearEff_frame ..) h
  | warmingComplete => exact row_frame (fun s => warmingCompleteEff_frame ..) h
  | stagedSlotWrite => exact row_frame (fun s => stagedSlotEff_frame ..) h
  | epochCut => exact row_frame (fun s => epochCutEff_frame ..) h
  | report => exact row_frame (fun s => reportEff_frame ..) h
  | chipSilent => exact row_frame (fun s => chipSilentEff_frame ..) h
  | flightClose => exact row_frame (fun s => flightCloseEff_frame ..) h
  | flightTimeout => exact row_frame (fun s => flightTimeoutEff_frame ..) h
  | opTableWrite => exact row_frame (fun s => opTableEff_frame ..) h
  | governorStart => exact row_frame (fun s => governorStartEff_frame ..) h
  | governorStop => exact row_frame (fun s => governorStopEff_frame ..) h
  | commitBorders => exact row_frame (fun s => commitBordersEff_frame ..) h
  | governorClearCounters => exact row_frame (fun s => governorClearEff_frame ..) h
  | flightSourcesWrite => exact rowObj_frame (fun s => flightSourcesEff_frame ..) h
  | feedRefresh => exact row_frame (fun s => feedRefreshEff_frame ..) h
  | rectAlert => exact row_frame (fun s => rectAlertEff_frame ..) h
  | rectStatus => exact row_frame (fun s => rectStatusEff_frame ..) h
  | rectConfigReply => exact row_frame (fun s => rectConfigEff_frame ..) h
  | rectSilent => exact row_frame (fun s => rectSilentEff_frame ..) h
  | dipHoldExpiry => exact row_frame (fun s => dipHoldEff_frame ..) h
  | returnDelayExpiry => exact row_frame (fun s => returnDelayEff_frame ..) h
  | returnComplete => exact row_frame (fun s => returnCompleteEff_frame ..) h
  | canPortError => exact row_frame (fun s => canErrorEff_frame ..) h
  | feedClearCounters => exact row_frame (fun s => feedClearEff_frame ..) h
  | rereadRectModes => exact row_frame (fun s => rereadEff_frame ..) h
  | auxFeedMeasure => exact row_frame (m := [.hw, .fm, .feed]) (fun s => .ite (.step (.mono (auxEff_frame ..))
    (auxWarn_frame ..)) (.mono (auxEff_frame ..))) h
  | weirLineCleared => exact row_frame (fun s => weirClearedEff_frame ..) h
  | paddleLaneRestored => exact row_frame (fun s => laneRestoredEff_frame ..) h
  | _ => cases hc

theorem gridRow_frame {c : Instr} {s t : State} (hc : gridFamily c.family = true)
    (h : exec c s = .next t) : SameBut (partsOf c) s t := by
  cases c with
  | periodTick => exact row_frame (fun s => periodTickEff_frame ..) h
  | stageFire => exact row_frame (fun s => stageFireEff_frame ..) h
  | bargeData => exact row_frame (fun s => recvBarge_frame ..) h
  | bargeVoid => exact row_frame (fun s => recvBarge_frame ..) h
  | bargeAck => exact row_frame (fun s => bargeAckEff_frame ..) h
  | bargeNak => exact row_frame (fun s => bargeNakEff_frame ..) h
  | memRead => exact row_frame (fun s => recvBarge_frame ..) h
  | memWrite => exact row_frame (fun s => recvBarge_frame ..) h
  | bargeAckTimeout => exact row_frame (fun s => ackTimeoutEff_frame ..) h
  | keeperCall => exact row_frame (fun s => keeperCallEff_frame ..) h
  | sramUncorrectable => exact row_frame (fun s => sramBadEff_frame ..) h
  | sramScrub => exact row_frame (fun s => corrected_frame ..) h
  | memUncorrectable => exact row_frame (fun s => memBadEff_frame ..) h
  | memPatrolScrub => exact row_frame (fun s => corrected_frame ..) h
  | slotRestartComplete => exact row_frame (fun s => restartCompleteEff_frame ..) h
  | coreFailed => exact row_frame (fun s => coreFailedEff_frame ..) h
  | gridClearCounters => exact row_frame (fun s => gridClearEff_frame ..) h
  | gridSelfTest => exact row_frame (fun s => gridSelfTestEff_frame ..) h
  | gateSignal => exact row_frame (fun s => gateSignalEff_frame ..) h
  | gateWait => exact row_frame (fun s => gateWaitEff_frame ..) h
  | gateArm => exact row_frame (fun s => gateArmEff_frame ..) h
  | gateAdjust => exact row_frame (fun s => gateAdjustEff_frame ..) h
  | gateClear => exact row_frame (fun s => gateClearEff_frame ..) h
  | gateCancel => exact row_frame (fun s => gateCancelEff_frame ..) h
  | gateRoute => exact row_frame (fun s => gateRouteEff_frame ..) h
  | gateAllocate => exact row_frame (fun s => gateAllocateEff_frame ..) h
  | gateFree => exact row_frame (fun s => gateFreeEff_frame ..) h
  | gateStateUncorrectable => exact row_frame (fun s => gateUncorrectableEff_frame ..) h
  | gatesClearCounters => exact row_frame (fun s => gatesClearEff_frame ..) h
  | sourceChange => exact row_frame (fun s => sourceChangeEff_frame ..) h
  | eventTake => exact row_frame (fun s => eventTakeEff_frame ..) h
  | eventAck => exact row_frame (fun s => eventAckEff_frame ..) h
  | maskSet => exact row_frame (fun s => maskSetEff_frame ..) h
  | maskClear => exact row_frame (fun s => maskClearEff_frame ..) h
  | fastPop => exact row_frame (fun s => fastPopEff_frame ..) h
  | sourceConfigWrite => exact row_frame (fun s => sourceConfigEff_frame ..) h
  | eventsClearCounters => exact row_frame (fun s => eventsClearEff_frame ..) h
  | slotBlockWrite => exact rowObj_frame (fun s => slotBlockEff_frame ..) h
  | slotCheck => exact rowObj_frame (fun s => slotCheckEff_frame ..) h
  | slotBind => exact rowObj_frame (fun s => slotBindEff_frame ..) h
  | slotUnbind => exact rowObj_frame (fun s => slotUnbindEff_frame ..) h
  | slotRestart => exact rowObj_frame (fun s => slotRestartEff_frame ..) h
  | slotClear => exact rowObj_frame (fun s => slotClearEff_frame ..) h
  | slotFault => exact row_frame (fun s => slotFaultEff_frame ..) h
  | drydockStart => exact row_frame (fun s => dockStartEff_frame ..) h
  | drydockReplayPeriod => exact row_frame (fun s => replayPeriodEff_frame ..) h
  | drydockStop => exact row_frame (fun s => dockStopEff_frame ..) h
  | drydockClear => exact row_frame (fun s => dockClearEff_frame ..) h
  | ptpOffsetAccepted => exact row_frame (fun s => offsetEff_frame ..) h
  | ptpMeasurementDiscard => exact row_frame (fun s => discardEff_frame ..) h
  | holdoverEntry => exact row_frame (fun s => holdoverEff_frame ..) h
  | shelfTimeStep => exact row_frame (fun s => stepEff_frame ..) h
  | pairTimeFrame => exact row_frame (fun s => timeFrameEff_frame ..) h
  | crystalCheck => exact row_frame (fun s => crystalEff_frame ..) h
  | pllUnlock => exact row_frame (fun s => pllEff_frame ..) h
  | capturePostExpiry => exact row_frame (fun s => postExpiryEff_frame ..) h
  | captureStart => exact row_frame (fun s => captureStartEff_frame ..) h
  | captureFreeze => exact row_frame (fun s => captureFreezeEff_frame ..) h
  | captureRelease => exact row_frame (fun s => captureReleaseEff_frame ..) h
  | captureStop => exact row_frame (fun s => captureStopEff_frame ..) h
  | ethernetFrame => exact row_frame (fun s => ethernetEff_frame ..) h
  | pfcPauseRepeat => exact row_frame (fun s => pauseRepeatEff_frame ..) h
  | pfcPauseRelease => exact row_frame (fun s => pauseReleaseEff_frame ..) h
  | pfcPauseLong => exact row_frame (fun s => pauseLongEff_frame ..) h
  | pfcReceived => exact row_frame (fun s => pfcReceivedEff_frame ..) h
  | grantPauseLong => exact row_frame (fun s => grantPauseEff_frame ..) h
  | ethernetLinkChange => exact row_frame (fun s => linkChangeEff_frame ..) h
  | arpNdRequest => exact row_frame (fun s => neighbourEff_frame ..) h
  | portRetrain => exact row_frame (fun s => portRetrainEff_frame ..) h
  | portClearCounters => exact row_frame (fun s => portClearEff_frame ..) h
  | sessionReset => exact rowObj_frame (fun s => sessionResetEff_frame ..) h
  | flowClearCounters => exact row_frame (fun s => flowClearEff_frame ..) h
  | pairDecideTimeout => exact row_frame (fun s => decideEff_frame ..) h
  | pairHello => exact row_frame (fun s => helloEff_frame ..) h
  | manifestSend => exact row_frame (fun s => manifestSendEff_frame ..) h
  | manifestPart => exact row_frame (fun s => manifestPartEff_frame ..) h
  | pairAck => exact row_frame (fun s => pairAckEff_frame ..) h
  | pairStore => exact row_frame (fun s => pairStoreEff_frame ..) h
  | pairHandover => exact row_frame (fun s => pairHandoverEff_frame ..) h
  | manifestMissed => exact row_frame (fun s => manifestMissedEff_frame ..) h
  | pairFaultInTrigger => exact row_frame (fun s => faultInEff_frame ..) h
  | pairRoleInFall => exact row_frame (fun s => roleInFallEff_frame ..) h
  | pairLinkLost => exact row_frame (fun s => pairDownEff_frame ..) h
  | takeOverNow => exact row_frame (fun s => takeNowEff_frame ..) h
  | handoverDrill => exact row_frame (fun s => drillEff_frame ..) h
  | drillAbandon => exact row_frame (fun s => drillAbandonEff_frame ..) h
  | pairClearCounters => exact row_frame (fun s => pairClearEff_frame ..) h
  | standbySelfTest => exact row_frame (fun s => standbyTestEff_frame ..) h
  | layoutCommit => exact row_frame (fun s => layoutCommitEff_frame ..) h
  | layoutDiscard => exact row_frame (fun s => layoutDiscardEff_frame ..) h
  | pairLinkUp => exact row_frame (fun s => pairUpEff_frame ..) h
  | pairLinkLaneLost => exact row_frame (fun s => pairLaneEff_frame ..) h
  | ptpPortStateChange => exact row_frame (fun s => portStateEff_frame ..) h
  | ptpMessageSend => exact row_frame (fun s => ptpSendEff_frame ..) h
  | _ => cases hc

theorem otherRow_frame {c : Instr} {s t : State} (hc : (powerFamily c.family || gridFamily c.family) = false)
    (h : exec c s = .next t) : SameBut (partsOf c) s t := by
  cases c with
  | read frame => exact whole_frame (request_all fun _ _ => .mono (readEff_frame ..)) h
  | write frame => exact whole_frame (request_all fun _ _ => writeEff_frame ..) h
  | readBlock frame => exact whole_frame (request_all fun _ _ => .mono (readBlockEff_frame ..)) h
  | writeBlock frame => exact whole_frame (request_all fun _ _ => writeBlockEff_frame ..) h
  | subscribe frame => exact whole_frame (request_all fun _ _ => .mono (subscribeEff_frame ..)) h
  | signedWrite frame => exact whole_frame (request_all fun _ _ => .mono (signedWriteEff_frame ..)) h
  | quote frame => exact whole_frame (request_all fun _ _ => .mono (quoteEff_frame ..)) h
  | streamInstance => exact whole_frame (fun s => streamInstanceEff_frame ..) h
  | signedTransferTimeout => exact whole_frame (fun s => transferTimeoutEff_frame ..) h
  | signedWriteVerify => exact whole_frame (fun s => signedVerifyEff_frame ..) h
  | quoteSigned => exact whole_frame (fun s => quoteSignedEff_frame ..) h
  | objectWrite => exact whole_frame (fun s => writeWord_frame ..) h
  | highestValueClear => exact whole_frame (m := [.loop, .tide, .port, .sess]) (fun s => .ite (.mono
    (highestClear_frame ..)) (.mono (State.violate_frame ..))) h
  | storeToFlash => exact whole_frame (fun s => storeEff_frame ..) h
  | storeRetry => exact whole_frame (fun s => storeRetryEff_frame ..) h
  | storePendingNow => exact whole_frame (fun s => storeAllEff_frame ..) h
  | markRestore => exact whole_frame (fun s => markEff_frame ..) h
  | withdrawRestore => exact whole_frame (fun s => markEff_frame ..) h
  | moduleReset => exact whole_frame (fun s => moduleResetEff_frame ..) h
  | moduleStart => exact row_frame (fun s => moduleStartEff_frame ..) h
  | transactionCopy => exact whole_frame (fun s => txnCopyEff_frame ..) h
  | faultRaise => exact whole_frame (fun s => faultRaiseEff_frame ..) h
  | handlerEnd => exact whole_frame (fun s => handlerEndEff_frame ..) h
  | handlerOverrun => exact whole_frame (fun s => overrunEff_frame ..) h
  | faultConditionGone => exact whole_frame (fun s => conditionGoneEff_frame ..) h
  | faultAcknowledge => exact whole_frame (fun s => acknowledgeEff_frame ..) h
  | faultsClearCounters => exact whole_frame (fun s => faultsClearEff_frame ..) h
  | watchdogExpiry => exact whole_frame (fun s => watchdogEff_frame ..) h
  | takeover => exact row_frame (fun s => takeoverEff_frame ..) h
  | takeoverComplete => exact row_frame (fun s => takeoverDoneEff_frame ..) h
  | drillHandoverStart => exact row_frame (fun s => drillStartEff_frame ..) h
  | drillFailed => exact row_frame (fun s => drillFailedEff_frame ..) h
  | recordFlashWrite => exact row_frame (fun s => flashWriteEff_frame ..) h
  | recordFlashRetry => exact row_frame (fun s => flashRetryEff_frame ..) h
  | rateWindowClose => exact row_frame (fun s => rateCloseEff_frame ..) h
  | recordBlockRead => exact row_frame (fun s => recordReadEff_frame ..) h
  | recorderClear => exact row_frame (fun s => recorderClearEff_frame ..) h
  | recorderClearCounters => exact row_frame (fun s => recorderClearCountersEff_frame ..) h
  | calBlockWrite => exact row_frame (fun s => calBlockEff_frame ..) h
  | calEntryWrite => exact rowObj_frame (fun s => calScalarEff_frame ..) h
  | liveRoutinesWrite => exact row_frame (fun s => liveRoutinesEff_frame ..) h
  | phaseOffsetMeasure => exact row_frame (fun s => phaseOffsetEff_frame ..) h
  | dcLinkOffsetMeasure => exact row_frame (fun s => dcOffsetEff_frame ..) h
  | busVoltageEqualise => exact row_frame (fun s => equaliseEff_frame ..) h
  | calLiveStore => exact row_frame (fun s => calLiveStoreEff_frame ..) h
  | calStoreNow => exact row_frame (fun s => calStoreLive_frame ..) h
  | calLockAll => exact row_frame (fun s => calLockEff_frame ..) h
  | calUnlockAll => exact row_frame (fun s => calLockEff_frame ..) h
  | calClearCounters => exact row_frame (fun s => calClearEff_frame ..) h
  | boot => exact whole_frame (fun s => bootEff_frame ..) h
  | networkLoader => exact whole_frame (fun s => networkLoaderEff_frame ..) h
  | imageBlockWrite => exact whole_frame (fun s => imageBlockEff_frame ..) h
  | markInstall => exact whole_frame (fun s => markInstallEff_frame ..) h
  | discardStagedImage => exact whole_frame (fun s => discardStagedEff_frame ..) h
  | securityClearCounters => exact whole_frame (fun s => securityClearEff_frame ..) h
  | firmwareInstall => exact whole_frame (fun s => firmwareInstallEff_frame ..) h
  | rootKeySet => exact whole_frame (fun s => rootKeySetEff_frame ..) h
  | raiseMinVersion => exact whole_frame (fun s => raiseMinEff_frame ..) h
  | revokeKeySlot => exact whole_frame (fun s => revokeEff_frame ..) h
  | powerFailStart => exact whole_frame (fun s => powerFailEff_frame ..) h
  | powerRestore => exact whole_frame (fun s => powerRestoreEff_frame ..) h
  | thermalCheck => exact whole_frame (fun s => thermalEff_frame ..) h
  | thermalShutdown => exact whole_frame (fun s => thermalShutdownEff_frame ..) h
  | thermalRestart => exact whole_frame (fun s => thermalRestartEff_frame ..) h
  | j2Withdrawn => exact whole_frame (fun s => withdrawnEff_frame ..) h
  | _ => cases hc

/-- A command leaves all but the parts it touches as they were. -/
theorem exec_frame {c : Instr} {s t : State} (h : exec c s = .next t) : SameBut (partsOf c) s t := by
  cases hp : powerFamily c.family
  · cases hg : gridFamily c.family
    · exact otherRow_frame (by rw [hp, hg]; rfl) h
    · exact gridRow_frame hg h
  · exact powerRow_frame hp h

end Sys2Proof.Machine
end

section
/-! SUPPORT. Proof: the memories keep their form, and what the rows of the grid, the recorder and the port leave as it
was (10_control_grid.md, 13_clocks_and_time.md, 14_network_port.md). -/

namespace Sys2Proof.Machine

set_option Elab.async false

/-- Settles O55: every command's effect keeps the form, whichever parts it touches, and so does the passing of time. -/
theorem memoryStaysCanonical : Obligations.MemoryStaysCanonical := by
  intro s t hs h
  cases hq : s.pending with
  | cons c rest =>
    rw [step_of_waiting hq] at h
    exact (exec_frame h).memory hs
  | nil =>
    rw [step_of_idle hq] at h
    cases h
    exact (idle_frame s).memory hs

/-! ### Steps of shelf time -/

/-- What a step of shelf time keeps in the parts whose time stamps move with it (log entry 73). -/
structure StampsOnly (s t : State) : Prop where
  values : t.od.values = s.od.values
  flash : t.od.flash = s.od.flash
  staged : t.rcd.staged = s.rcd.staged
  segs : t.rcd.segs = s.rcd.segs
  bits : ∀ e, (t.calEntry e).bits = (s.calEntry e).bits
  phase : t.hw.phase = s.hw.phase
  released : t.hw.released = s.hw.released

theorem StampsOnly.trans {s t u : State} (h : StampsOnly s t) (h' : StampsOnly t u) : StampsOnly s u where
  values := h'.values.trans h.values
  flash := h'.flash.trans h.flash
  staged := h'.staged.trans h.staged
  segs := h'.segs.trans h.segs
  bits e := (h'.bits e).trans (h.bits e)
  phase := h'.phase.trans h.phase
  released := h'.released.trans h.released

theorem SameBut.stampsOnly {l : List Part} {s t : State} (h : SameBut l s t) (hod : .od ∉ l := by decide)
    (hrcd : .rcd ∉ l := by decide) (hcal : .cal ∉ l := by decide) (hhw : .hw ∉ l := by decide) :
    StampsOnly s t where
  values := by rw [h.od_eq hod]
  flash := by rw [h.od_eq hod]
  staged := by rw [h.rcd_eq hrcd]
  segs := by rw [h.rcd_eq hrcd]
  bits e := by rw [State.calEntry, State.calEntry, h.cal_eq hcal]
  phase := by rw [h.hw_eq hhw]
  released := by rw [h.hw_eq hhw]

theorem StampsOnly.refl (s : State) : StampsOnly s s := (SameBut.refl (l := [])).stampsOnly

/-- A map that leaves the keys alone is seen through a read by what it leaves of the values. -/
theorem get_map_snd {α β : Type} (d : α) (f : α → α) (g : α → β) (hf : ∀ x, g (f x) = g x) (m : List (Nat × α))
    (k : Nat) : g (Store.get d (m.map fun e => (e.1, f e.2)) k) = g (Store.get d m k) := by
  induction m with
  | nil => rfl
  | cons e m ih =>
    simp only [List.map_cons, Store.get]
    split
    · exact hf _
    · exact ih

theorem moveTimes_stampsOnly (d : Int) (s : State) : StampsOnly s (s.moveTimes d) where
  values := rfl
  flash := rfl
  staged := rfl
  segs := rfl
  bits e := by
    simp only [State.calEntry, State.moveTimes]
    exact get_map_snd _ (fun x => { x with at_ := moved d x.at_ }) CalEntry.bits (fun _ => rfl) _ _
  phase := rfl
  released := rfl

theorem applyStep_stampsOnly (d off : Int) (s : State) : StampsOnly s (applyStep d off s) := by
  refine (moveTimes_stampsOnly (moved d s.now - s.now) s).trans (SameBut.stampsOnly
    (l := [.fm, .now, .clk, .gates, .grid, .slots, .cap]) ?_)
  exact .step (.trans (.step (.trans (.mono (.now_clk ..)) (.foldl fun _ _ => .mono (beginRestart_frame ..))) (.grid ..))
    (.foldl fun _ _ => .ite (.mono (restartSlot_frame ..)) .refl)) (capMarker_frame ..)

theorem stepEff_stampsOnly (s : State) : StampsOnly s (stepEff s) := by
  dsimp only [stepEff]
  split
  · exact StampsOnly.refl s
  · split
    · exact (State.dropStep_frame s).stampsOnly
    · split
      · exact applyStep_stampsOnly ..
      · exact StampsOnly.refl s

theorem recvPair_stampsOnly {typ : Nat} {frame : Bytes} {f : PairMsg → State → State} {s : State}
    (hf : ∀ m u, StampsOnly u (f m u)) : StampsOnly s (recvPair typ frame f s) := by
  dsimp only [recvPair]
  split
  · exact StampsOnly.refl s
  · split
    · exact (SameBut.pair s { s.pair with missed := _ }).stampsOnly
    · split
      · exact (SameBut.pair s { s.pair with roleIn := _, faultIn := _ }).stampsOnly.trans (hf ..)
      · exact StampsOnly.refl s

theorem timeFrameEff_stampsOnly (frame : Bytes) (s : State) : StampsOnly s (timeFrameEff frame s) := by
  refine recvPair_stampsOnly fun m u => ?_
  dsimp only
  split
  · refine StampsOnly.trans ?_ (SameBut.stampsOnly (l := [.freeCount, .now, .clk, .tide, .tx, .pair])
      (.step (.step (.mono (.freeCount_now_clk ..)) (State.hintsResume_frame ..)) (State.sendPair_frame ..)))
    split
    · exact StampsOnly.refl u
    · exact moveTimes_stampsOnly ..
  · exact StampsOnly.refl u

theorem runIf_stampsOnly {ok go : Bool} {s t : State} {f : State → State} (hf : ∀ s, StampsOnly s (f s))
    (h : runIf ok go s f = .next t) : StampsOnly s t := by
  have hu : StampsOnly s (if ok && go then f s else s) := by
    split
    · exact hf s
    · exact StampsOnly.refl s
  rw [runIf_next h]
  exact ⟨hu.values, hu.flash, hu.staged, hu.segs, hu.bits, hu.phase, hu.released⟩

/-! ### The rows of a family -/

/-- The rows of a family touch the parts of their family, but for those that `partsOf` names. -/
theorem family_frame {c : Instr} {f : Family} {s t : State} (hf : c.family = f) (h : exec c s = .next t)
    (hstep : c ≠ .shelfTimeStep) (htime : ∀ b, c ≠ .pairTimeFrame b) (hstore : ∀ b, c ≠ .pairStore b) :
    SameBut (familyParts f) s t := by
  have hp : partsOf c = familyParts c.family := by
    unfold partsOf
    split
    · exact absurd rfl hstep
    · exact absurd rfl (htime _)
    · exact absurd rfl (hstore _)
    · rfl
  exact hf ▸ hp ▸ exec_frame h

theorem family_frame_of_ne {c : Instr} {f : Family} {s t : State} (hf : c.family = f) (h : exec c s = .next t)
    (hclock : f ≠ .clock := by decide) (hpair : f ≠ .pair := by decide) : SameBut (familyParts f) s t :=
  family_frame hf h (by rintro rfl; exact hclock hf.symm) (by rintro b rfl; exact hpair hf.symm)
    (by rintro b rfl; exact hpair hf.symm)

/-- Settles O58: each clause reads off which parts the rows of its families touch; a step of shelf time and a TIME
frame keep what does not carry a time stamp. -/
theorem gridRowsFrame : Obligations.GridRowsFrame := by
  intro c s t h
  refine ⟨fun hf => ?_, fun hf => ?_, fun hf => ?_, fun hf hstep htime hstore => ?_, fun hc => ?_, fun f hc => ?_⟩
  · have hs : SameBut [.freeCount, .tx, .txn, .fm, .loop, .phases, .tph, .est, .feed, .gov, .gates, .ev, .tide, .sec,
        .grid, .slots, .dock, .port, .sess, .cap] s t := by
      rcases hf with hf | hf | hf | hf <;> exact (family_frame_of_ne hf h).mono
    exact ⟨hs.now_eq, hs.hw_eq, hs.od_eq, hs.rcd_eq, hs.links_eq, hs.edge_eq, hs.trays_eq, hs.alloc_eq, hs.tows_eq,
      hs.pair_eq, hs.cal_eq, hs.clk_eq⟩
  · have hs : SameBut [.tx, .od, .txn, .fm, .rcd, .phases, .links, .cal, .sess, .cap] s t := by
      rcases hf with hf | hf | hf <;> exact (family_frame_of_ne hf h).mono
    exact ⟨hs.now_eq, hs.hw_eq, hs.loop_eq, hs.tph_eq, hs.edge_eq, hs.trays_eq, hs.alloc_eq, hs.tows_eq, hs.est_eq,
      hs.feed_eq, hs.gov_eq, hs.gates_eq, hs.ev_eq, hs.tide_eq, hs.pair_eq, hs.sec_eq, hs.grid_eq, hs.slots_eq,
      hs.dock_eq, hs.port_eq, hs.clk_eq⟩
  · have hs := family_frame_of_ne hf h
    exact ⟨hs.now_eq, hs.hw_eq, hs.od_eq, hs.txn_eq, hs.rcd_eq, hs.loop_eq, hs.phases_eq, hs.links_eq, hs.edge_eq,
      hs.trays_eq, hs.alloc_eq, hs.tows_eq, hs.est_eq, hs.feed_eq, hs.gates_eq, hs.ev_eq, hs.tide_eq, hs.pair_eq,
      hs.sec_eq, hs.cal_eq, hs.grid_eq, hs.slots_eq, hs.dock_eq, hs.cap_eq⟩
  · have hs : SameBut [.freeCount, .tx, .od, .txn, .fm, .loop, .est, .feed, .gates, .ev, .tide, .pair, .sec, .grid,
        .slots, .port, .sess, .clk] s t := by
      rcases hf with hf | hf <;> exact (family_frame hf h hstep htime hstore).mono
    exact ⟨hs.hw_eq, hs.rcd_eq, hs.phases_eq, hs.tph_eq, hs.links_eq, hs.edge_eq, hs.trays_eq, hs.alloc_eq,
      hs.tows_eq, hs.cal_eq, hs.dock_eq⟩
  · have hboth : SameBut (partsOf (.pairTimeFrame []) ++ partsOf .shelfTimeStep) s t ∧ StampsOnly s t := by
      obtain rfl | ⟨f, rfl⟩ := hc
      · exact ⟨(exec_frame h).mono (List.subset_append_right ..), runIf_stampsOnly stepEff_stampsOnly h⟩
      · exact ⟨(exec_frame h).mono (List.subset_append_left ..), runIf_stampsOnly (timeFrameEff_stampsOnly f) h⟩
    obtain ⟨hs, hk⟩ := hboth
    exact ⟨hs.loop_eq, hs.txn_eq, hs.dock_eq, hk.values, hk.flash, hk.staged, hk.segs, hk.bits, hk.phase, hk.released⟩
  · subst hc
    have hs : SameBut (partsOf (.pairStore [])) s t := exec_frame (c := .pairStore f) h
    exact ⟨hs.hw_eq, hs.rcd_eq, hs.phases_eq, hs.est_eq, hs.cal_eq, hs.dock_eq, hs.now_eq⟩

end Sys2Proof.Machine
end

section
/-! SUPPORT. Proof: a pin that breaks during a takeover (04_storage_trays.md: Hot pull, 17_redundant_pair.md:
Takeover). -/

namespace Sys2Proof.Machine

set_option Elab.async false

/-- A module in TAKING whose takeover has been carried out: tray 0 is in PRECHARGE on a link that is up, its phase 0
runs, and no EDGE frame has gone to it yet. -/
def takingOver : State :=
  { started with
    pair := { Pair.reset with role := .taking, loaded := true }
    links := [{ Link.reset with up := true }]
    trays := [{ Tray.reset with st := .precharge, pin := true }]
    phases := [[{ Phase.reset with st := .run }]] }

theorem exec_earlyBreakBroken (t : Nat) (s : State) :
    exec (.earlyBreakBroken t) s = run (decide (t < Config.trays)) s (earlyBreakEff t) := rfl

/-- The trip snub of the hot pull sends the tray its first EDGE frame since the takeover. -/
theorem takingOver_edged : (earlyBreakEff 0 takingOver).pair.edged = [0] := by decide +kernel

/-- Refutes O57: a pin that breaks at `takingOver` snubs its tray, and the EDGE frame of the snub is one that the
takeover waits for, so the list of trays it has reached, which is the pair's, changes. -/
theorem not_powerRowsFrame : ¬ Obligations.PowerRowsFrame := by
  intro hframe
  have hrun : exec (.earlyBreakBroken 0) takingOver = .next { earlyBreakEff 0 takingOver with pending := [] } := by
    rw [exec_earlyBreakBroken, decide_eq_true (by decide : 0 < Config.trays), run_ok _ _ rfl]
    rfl
  obtain ⟨hrows, _⟩ := hframe _ _ _ hrun
  obtain ⟨_, _, _, _, _, _, _, _, hpair, _⟩ := hrows (.inr (.inr (.inr rfl)))
  have hedged : (earlyBreakEff 0 takingOver).pair.edged = [] := congrArg Pair.edged hpair
  rw [takingOver_edged] at hedged
  exact List.cons_ne_nil _ _ hedged

end Sys2Proof.Machine
end

section
/-! SUPPORT. Proof: a command whose premises hold ends in what its effect gives; an entry that differs from the
default exists (00_scope.md). -/

namespace Sys2Proof.Machine

set_option Elab.async false

/-! ### A command that acts -/

/-- A command that names what exists, while firmware runs, ends in what its effect gives. -/
theorem run_acts {ok : Bool} {s : State} (f : State → State) (hok : ok = true) (hrun : s.running = true) :
    run ok s f = .next { f s with pending := s.pending } := by
  rw [hok, run_ok _ _ hrun]

/-- The same, its next state given whole. -/
theorem run_to {ok : Bool} {s u : State} {f : State → State} (hok : ok = true) (hrun : s.running = true)
    (hf : f s = u) (hp : u.pending = s.pending := by rfl) : run ok s f = .next u := by
  rw [run_acts f hok hrun, hf, ← hp]

theorem run_framed {l : List Part} {ok : Bool} {s u : State} {f : State → State} (hs : SameBut l s (f s))
    (hok : ok = true) (hrun : s.running = true) (hf : f s = u) (hl : .pending ∉ l := by decide) :
    run ok s f = .next u :=
  run_to hok hrun hf (hf ▸ hs.pending_eq hl)

theorem runObj_acts {ses index sub : Nat} {here : Bool} {s : State} (f : State → State) (hses : ses < Config.sessions)
    (hhere : here = true) (hrun : s.running = true) :
    runObj ses index sub here s f = .next { f s with pending := s.pending } := by
  rw [hhere, runObj_here _ _ _ _ _ hses hrun]

theorem runObj_to {ses index sub : Nat} {here : Bool} {s u : State} {f : State → State} (hses : ses < Config.sessions)
    (hhere : here = true) (hrun : s.running = true) (hf : f s = u) (hp : u.pending = s.pending := by rfl) :
    runObj ses index sub here s f = .next u := by
  rw [runObj_acts f hses hhere hrun, hf, ← hp]

theorem runObj_framed {l : List Part} {ses index sub : Nat} {here : Bool} {s u : State} {f : State → State}
    (hs : SameBut l s (f s)) (hses : ses < Config.sessions) (hhere : here = true) (hrun : s.running = true)
    (hf : f s = u) (hl : .pending ∉ l := by decide) : runObj ses index sub here s f = .next u :=
  runObj_to hses hhere hrun hf (hf ▸ hs.pending_eq hl)

/-! ### Raises -/

/-- What was raised stays raised where the fault manager is not touched. -/
theorem SameBut.raised {l : List Part} {s t : State} {code inst : Nat} (h : SameBut l s t)
    (hr : s.raised code inst) (hl : .fm ∉ l := by decide) : t.raised code inst := by
  rwa [State.raised, h.fm_eq hl]

/-! ### Instances that exist -/

/-- An entry that differs from the default is one of the list. -/
theorem lt_of_get_ne {α : Type} {d : α} {l : List α} {i : Nat} (h : get d l i ≠ d) : i < l.length := by
  by_contra hi
  exact h (List.getD_eq_default _ _ (not_lt.mp hi))

theorem tray_lt {s : State} {t : Nat} (h : (s.tray t).st ≠ .absent) : t < s.trays.length :=
  lt_of_get_ne (d := Tray.reset) fun hd => h (by rw [State.tray, hd]; rfl)

end Sys2Proof.Machine
end

section
/-! SUPPORT. Proof: commands 1 to 4 of the bus loop (02_bus_voltage_loop.md: Loop states and starting). -/

namespace Sys2Proof.Machine

set_option Elab.async false

theorem exec_loopStart (ses : Nat) (s : State) :
    exec (.loopStart ses) s = run (decide (ses < Config.sessions)) s (loopStartEff ses) := rfl

theorem exec_loopBlackStart (ses : Nat) (s : State) :
    exec (.loopBlackStart ses) s = run (decide (ses < Config.sessions)) s (loopBlackStartEff ses) := rfl

/-! ### Leaving OFF -/

/-- The loop that leaves OFF for a state has its coefficients converted, V_ref and I_st as they were. -/
theorem loopLeaveOff_loop (st : LoopSt) (s : State) :
    (loopLeaveOff st s).loop.st = st ∧ (loopLeaveOff st s).loop.coef = convertCoef s ∧
    (loopLeaveOff st s).loop.vRef = s.loop.vRef ∧ (loopLeaveOff st s).loop.iSt = s.loop.iSt := by
  have hloop : (loopLeaveOff st s).loop = _ := (State.dropStep_frame _).loop_eq
  rw [hloop]
  exact ⟨rfl, rfl, rfl, rfl⟩

theorem dropStep_of_none {s : State} (h : s.clk.pendingStep = none) : s.dropStep = s := by
  rw [State.dropStep, h]

/-- A start without a pending step touches the loop alone. -/
theorem loopLeaveOff_quiet (st : LoopSt) {s : State} (h : s.clk.pendingStep = none) :
    (loopLeaveOff st s).fm = s.fm ∧ (loopLeaveOff st s).clk = s.clk := by
  have hs : loopLeaveOff st s = _ := dropStep_of_none h
  rw [hs]
  exact ⟨rfl, rfl⟩

theorem startDrives_tray {s : State} {t : Nat} (ht : t < s.trays.length) :
    ((startDrives t s).tray t).st = (s.tray t).st ∧ ((startDrives t s).tray t).blackStart = (s.tray t).blackStart := by
  dsimp only [startDrives]
  split
  · rw [State.tray_updTray_same s t _ ht]
    exact ⟨rfl, rfl⟩
  · exact ⟨rfl, rfl⟩

/-- A tray put into PRECHARGE for a black start, its contactors driven or not. -/
theorem trayPrecharge_tray {s : State} {t : Nat} (b : Bool) (ht : t < s.trays.length) :
    ((trayPrecharge t b s).tray t).st = .precharge ∧ ((trayPrecharge t b s).tray t).blackStart = b := by
  have hlen : t < (s.updTray t fun x => { x with
      st := .precharge, since := s.now, waitDrive := true, clockAt := none, critSince := none, blackStart := b
      bsAsked := false, bsPassed := false, safe := false }).trays.length := by simpa [upd] using ht
  obtain ⟨hst, hbs⟩ := startDrives_tray hlen
  rw [State.tray_updTray_same s t _ ht] at hst hbs
  exact ⟨hst, hbs⟩

/-! ### The commands in the states that do not allow them -/

theorem loopStartEff_none {s : State} (ses : Nat) (hv : vBusForCommand s = none) :
    loopStartEff ses s = s.violate ses 0x2000 0x02 := by
  rw [loopStartEff, hv, ite_self]

theorem loopBlackStartEff_none {s : State} (ses : Nat) (hv : vBusForCommand s = none) :
    loopBlackStartEff ses s = s.violate ses 0x2000 0x02 := by
  dsimp only [loopBlackStartEff]
  rw [hv, ite_self]

theorem loopStartEff_off {s : State} {v : Rat} (ses : Nat) (hoff : s.loop.st = .off)
    (hv : vBusForCommand s = some v) :
    loopStartEff ses s = loopLeaveOff (if s.cfgF 0x2000 0x2B ≤ v ∧ s.anyCarrying = true then .soft else .charge) s := by
  rw [loopStartEff, if_pos hoff, hv]

theorem loopBlackStartEff_off {s : State} {v : Rat} (ses : Nat) (hoff : s.loop.st = .off)
    (hv : vBusForCommand s = some v) : loopBlackStartEff ses s =
      if s.cfgF 0x2000 0x2B ≤ v then
        (if s.anyCarrying then loopLeaveOff .soft s else s.violate ses 0x2000 0x02)
      else if s.bothAbsent ∧ s.cfgU 0x2000 0x29 < Config.trays ∧ (s.tray (s.cfgU 0x2000 0x29)).st = .idle then
        trayPrecharge (s.cfgU 0x2000 0x29) true (loopLeaveOff .charge s)
      else s.violate ses 0x2000 0x02 := by
  dsimp only [loopBlackStartEff]
  rw [if_pos hoff, hv]

/-- Settles O1: each clause is one branch of the command's effect. -/
theorem loopCommands : Obligations.LoopCommands := by
  refine ⟨?_, ?_, ?_, ?_, ?_, ?_, ?_, ?_, ?_, ?_, ?_, ?_, ?_⟩
  · intro s ses v hrun hses hoff hv
    rw [exec_loopStart]
    refine ⟨_, run_acts _ (decide_eq_true hses) hrun, ?_⟩
    rw [loopStartEff_off ses hoff hv]
    generalize (if s.cfgF 0x2000 0x2B ≤ v ∧ s.anyCarrying = true then LoopSt.soft else .charge) = st
    obtain ⟨hst, hcoef, href, hi⟩ := loopLeaveOff_loop st s
    have hs := loopLeaveOff_frame st s
    exact ⟨hst, hcoef, href, hi, hs.trays_eq, hs.phases_eq, hs.links_eq, hs.sess_eq, hs.od_eq, hs.tx_eq, loopLeaveOff_quiet st⟩
  · intro s ses hrun hses _ hv
    exact run_to (decide_eq_true hses) hrun (loopStartEff_none ses hv)
  · intro s ses hrun hses hoff
    exact run_to (decide_eq_true hses) hrun (if_neg hoff)
  · intro s ses v hrun hses hoff hv hhigh hcarry
    rw [exec_loopBlackStart]
    refine ⟨_, run_acts _ (decide_eq_true hses) hrun, ?_⟩
    rw [loopBlackStartEff_off ses hoff hv, if_pos hhigh, if_pos hcarry]
    obtain ⟨hst, hcoef, href, hi⟩ := loopLeaveOff_loop .soft s
    have hs := loopLeaveOff_frame .soft s
    exact ⟨hst, hcoef, href, hi, hs.trays_eq, hs.phases_eq, hs.links_eq, hs.sess_eq, hs.od_eq, hs.tx_eq, loopLeaveOff_quiet .soft⟩
  · intro s ses v hrun hses hoff hv hlow habsent ht hidle
    rw [exec_loopBlackStart]
    refine ⟨_, run_acts _ (decide_eq_true hses) hrun, ?_⟩
    rw [loopBlackStartEff_off ses hoff hv, if_neg (not_le.mpr hlow), if_pos ⟨habsent, ht, hidle⟩]
    have hleave := loopLeaveOff_frame .charge s
    have hs : SameBut [.fm, .loop, .clk, .trays] s (trayPrecharge (s.cfgU 0x2000 0x29) true (loopLeaveOff .charge s)) :=
      .step (.mono hleave) (trayPrecharge_frame ..)
    have hloop := (trayPrecharge_frame (s.cfgU 0x2000 0x29) true (loopLeaveOff .charge s)).loop_eq
    obtain ⟨hch, hcoef, -, -⟩ := loopLeaveOff_loop .charge s
    have hlen : s.cfgU 0x2000 0x29 < (loopLeaveOff .charge s).trays.length :=
      hleave.trays_eq ▸ tray_lt (by rw [hidle]; decide)
    obtain ⟨hst, hbs⟩ := trayPrecharge_tray true hlen
    exact ⟨hloop ▸ hch, hloop ▸ hcoef, hst, hbs, hs.sess_eq, hs.od_eq, hs.feed_eq⟩
  · intro s ses v hrun hses hoff hv hhigh hcarry
    refine run_to (decide_eq_true hses) hrun ?_
    rw [loopBlackStartEff_off ses hoff hv, if_pos hhigh, if_neg (by simp [hcarry])]
  · intro s ses v hrun hses hoff hv hlow hmiss
    refine run_to (decide_eq_true hses) hrun ?_
    rw [loopBlackStartEff_off ses hoff hv, if_neg (not_le.mpr hlow), if_neg]
    rintro ⟨habsent, ht, hidle⟩
    obtain h | h | h := hmiss
    · exact absurd habsent (by simp [h])
    · exact absurd ht (not_lt.mpr h)
    · exact h hidle
  · intro s ses hrun hses _ hv
    exact run_to (decide_eq_true hses) hrun (loopBlackStartEff_none ses hv)
  · intro s ses hrun hses hoff
    exact run_to (decide_eq_true hses) hrun (if_neg hoff)
  · intro s ses hrun hses hst
    refine run_to (decide_eq_true hses) hrun ?_
    obtain h | h | h | h := hst <;> rw [loopStopEff, h]
  · intro s ses hrun hses hst
    refine run_to (decide_eq_true hses) hrun ?_
    obtain h | h | h := hst <;> rw [loopStopEff, h]
  · intro s ses hrun hses hst
    exact run_to (decide_eq_true hses) hrun (if_pos hst)
  · intro s ses hrun hses hst
    exact run_to (decide_eq_true hses) hrun (if_neg hst)

end Sys2Proof.Machine
end

section
/-! SUPPORT. Proof: the supervision of the bus loop (02_bus_voltage_loop.md: Supervision). -/

namespace Sys2Proof.Machine

set_option Elab.async false

theorem exec_loopHoldTimeout (s : State) : exec .loopHoldTimeout s = run true s holdTimeoutEff := rfl

/-- A trip from any state but OFF leaves the loop at zero current. -/
theorem tripLoop_loop {s : State} (h : s.loop.st ≠ .off) :
    (tripLoop s).loop.st = .tripped ∧ (tripLoop s).loop.iSt = 0 := by
  rw [tripLoop, if_neg h, (zeroRects_frame _).loop_eq]
  exact ⟨rfl, rfl⟩

/-- Settles O2: every condition is the guard of its effect; the end of a HOLD raises, then trips. -/
theorem loopSupervision : Obligations.LoopSupervision := by
  refine ⟨?_, ?_, ?_, ?_, ?_, ?_, ?_, ?_⟩
  · intro s t hrun ht hleft hread hout hin
    exact run_to (decide_eq_true ht) hrun (if_pos ⟨hout, hin, hleft, hread⟩)
  · intro s t hrun ht hex hin
    exact run_to (decide_eq_true ht) hrun (if_pos ⟨hex, hin⟩)
  · intro s hrun hhold hcount
    rw [exec_loopHoldTimeout]
    refine ⟨_, run_acts _ rfl hrun, ?_⟩
    rw [holdTimeoutEff, if_pos ⟨hhold, hcount⟩]
    have hs : SameBut [.fm, .tx, .loop, .feed] s (tripLoop (s.raise 0x0104 noInst)) :=
      .step (.mono (State.raise_frame ..)) (tripLoop_frame ..)
    obtain ⟨hst, hi⟩ := tripLoop_loop (s := s.raise 0x0104 noInst) (fun h => by cases hhold.symm.trans h)
    exact ⟨hst, hi, (tripLoop_frame _).raised (raised_raise s 0x0104 noInst), hs.phases_eq, hs.trays_eq⟩
  · intro s hrun hclamp hup
    exact run_to rfl hrun (if_pos ⟨hclamp, hup⟩)
  · intro s hrun hst hwin hup
    exact run_to rfl hrun (if_pos ⟨hst, hwin, hup⟩)
  · intro s hrun hst hfar hup
    exact run_to rfl hrun (if_pos ⟨hst, hfar, hup⟩)
  · intro s hrun hst hentry href
    exact run_to rfl hrun (if_pos ⟨hst, hentry, href⟩)
  · intro s hrun hst hi
    exact run_to rfl hrun (if_pos ⟨hst, hi⟩)

end Sys2Proof.Machine
end

section
/-! SUPPORT. Proof: changes of a phase's state (03_phases_and_edges.md: Drawing and restoring paddles). -/

namespace Sys2Proof.Machine

set_option Elab.async false

theorem drawStartEff_draws {s : State} {t p : Nat} (hallow : drawAllowed s t = true) (hnext : drawNext s t = some p) :
    drawStartEff t s = s.updPh t p (fun x => { x.go .drawing true with w := 1, rate := -(1 / 8) }) := by
  rw [drawStartEff, if_pos hallow, hnext]

theorem trimLimitEff_warns {s : State} {t p a : Nat} (hsince : (s.ph t p).trimSince = some a) (hlong : a + ms < s.now)
    (hup : (s.ph t p).up202 = false) (hfrozen : (s.ph t p).frozen = false) :
    trimLimitEff t p s = (s.updPh t p (fun x => { x with up202 := true })).raise 0x0202 (phIdx t p) := by
  dsimp only [trimLimitEff]
  rw [hsince]
  exact if_pos ⟨hlong, hup, hfrozen⟩

/-- Settles O3: each condition is the guard of its effect. -/
theorem phaseStatesHold : Obligations.PhaseStates := by
  refine ⟨?_, ?_, ?_, ?_, ?_, ?_, ?_⟩
  · intro s t p hrun ht hp hst hcnt
    exact run_to (okTP_of_lt ht hp) hrun (if_pos ⟨hst, hcnt⟩)
  · intro s t p hrun ht hp hst hw htest
    exact run_to (okTP_of_lt ht hp) hrun (if_pos ⟨hst, hw, htest⟩)
  · intro s t p hrun ht hp hst hw htest
    exact run_to (okTP_of_lt ht hp) hrun (if_pos ⟨hst, hw, htest⟩)
  · intro s t p hrun ht hp hst hw
    exact run_to (okTP_of_lt ht hp) hrun (if_pos ⟨hst, hw⟩)
  · intro s t p hrun ht hallow hnext
    exact run_to (decide_eq_true ht) hrun (drawStartEff_draws hallow hnext)
  · intro s hrun hlock hdue
    exact run_to rfl hrun (if_pos ⟨hlock, hdue⟩)
  · intro s t p a hrun ht hp hsince hlong hup hfrozen
    exact run_to (okTP_of_lt ht hp) hrun (trimLimitEff_warns hsince hlong hup hfrozen)

end Sys2Proof.Machine
end

section
/-! SUPPORT. Proof: taking phases out of and into service, and the pre-start check (03_phases_and_edges.md: Phase
faults and handoff, The pre-start check). -/

namespace Sys2Proof.Machine

set_option Elab.async false

/-! ### Commands of a phase -/

theorem phaseOutEff_violates {s : State} (ses t p : Nat) (h : (s.ph t p).svc = false) :
    phaseOutEff ses t p s = s.violate ses (0x2100 + t) (0x11 + 8 * p) := if_pos (.inl h)

/-- Command 0 on a phase in service: out of the running check, then by its state. -/
theorem phaseOutEff_serves {s : State} {t p : Nat} (ses : Nat) (hp : p < s.nPh t) (h : (s.ph t p).svc = true) :
    phaseOutEff ses t p s =
      match (s.ph t p).st with
      | .drawing => (leaveCheck t p (s.updPh t p (fun x => { x with svc := false, want := false }))).updPh t p
          (fun x => { x with oos := true })
      | .off | .shed | .check | .fault =>
        (leaveCheck t p (s.updPh t p (fun x => { x with svc := false, want := false }))).updPh t p (fun x => x.go .off false)
      | .handoff => leaveCheck t p (s.updPh t p (fun x => { x with svc := false, want := false }))
      | .linkLost => (leaveCheck t p (s.updPh t p (fun x => { x with svc := false, want := false }))).updPh t p
          (fun x => { x with prev := .off })
      | _ => handOffEff t p .service
          (leaveCheck t p (s.updPh t p (fun x => { x with svc := false, want := false }))) := by
  dsimp only [phaseOutEff]
  rw [if_neg (by rw [h]; exact not_or.mpr ⟨Bool.noConfusion, not_le.mpr hp⟩)] <;> rfl

theorem phaseInEff_violates {s : State} {t p : Nat} (ses : Nat) (h : (s.ph t p).svc = true)
    (hoff : (s.ph t p).st ≠ .off) (hfault : (s.ph t p).st ≠ .fault) :
    phaseInEff ses t p s = s.violate ses (0x2100 + t) (0x11 + 8 * p) := if_pos (.inl ⟨h, hoff, hfault⟩)

theorem phaseInEff_serves {s : State} {t p : Nat} (ses : Nat) (hp : p < s.nPh t)
    (h : (s.ph t p).svc = false ∨ (s.ph t p).st = .off ∨ (s.ph t p).st = .fault) :
    phaseInEff ses t p s = joinCheck t p (requestCheck t (some p) (s.bsChecks t) (s.bsChecks t)
      ((s.updPh t p (fun x => { x with svc := true, want := true, oos := false })).updTray t
        (fun x => { x with bsPassed := false }))) := by
  refine if_neg ?_
  rintro (⟨hsvc, hoff, hfault⟩ | hn)
  · obtain h | h | h := h
    · exact absurd hsvc (by simp [h])
    · exact hoff h
    · exact hfault h
  · exact absurd hp (not_lt.mpr hn)

/-! ### The check -/

theorem checkStartEff_starts {s : State} {t : Nat} {c : Check} (hc : (s.tp t).check = some c)
    (hstart : c.started = false) (hallow : checkAllowed s t c = true) (hcov : coveredPhases s t ≠ []) :
    checkStartEff t s = s.updTp t (fun y => { y with check := some { c with
      started := true, told := coveredPhases s t ++ c.told, todo := coveredPhases s t, tries := 0, due := s.now
      retry := false, tb := none, anyFailed := false } }) := by
  rw [checkStartEff, hc]
  dsimp only
  rw [if_neg (by simp [hstart]), if_pos hallow, if_neg hcov]

/-- The phase whose turn it is: judged at once where its switch node is high, else probed. -/
theorem phaseProbeEff_due {s : State} {t p : Nat} {c : Check} {rest : List Nat} (hc : (s.tp t).check = some c)
    (htodo : c.todo = p :: rest) (hstart : c.started = true) (htb : c.tb = none) (hretry : c.retry = false)
    (hdue : c.due ≤ s.now) (hkind : kindAllowed s t .probe = true) :
    phaseProbeEff t s = if c.blackStart = false ∧ (s.link t).vBus / 2 < (s.ph t p).vSw then judge t p c false s
      else sendProbe t p c (s.updPh t p (fun x => { x.go .check false with prev := x.st })) := by
  rw [phaseProbeEff, hc]
  dsimp only
  rw [htodo]
  dsimp only
  rw [if_pos ⟨hstart, htb, hretry, hdue, hkind⟩]

theorem probeRetryEff_due {s : State} {t p : Nat} {c : Check} {rest : List Nat} (hc : (s.tp t).check = some c)
    (htodo : c.todo = p :: rest) (hstart : c.started = true) (hretry : c.retry = true) (hdue : c.due ≤ s.now)
    (hkind : kindAllowed s t .probe = true) : probeRetryEff t s = sendProbe t p c s := by
  rw [probeRetryEff, hc]
  dsimp only
  rw [htodo]
  dsimp only
  rw [if_pos ⟨hstart, hretry, hdue, hkind⟩]

/-- No probe leaves where the edge engine may send none (R118). -/
theorem probes_held {s : State} {t : Nat} (hkind : kindAllowed s t .probe = false) :
    phaseProbeEff t s = s ∧ probeRetryEff t s = s := by
  constructor
  · rw [phaseProbeEff]
    split
    · dsimp only
      split
      · exact if_neg (by simp [hkind])
      · rfl
    · rfl
  · rw [probeRetryEff]
    split
    · split
      · exact if_neg (by simp [hkind])
      · rfl
    · rfl

/-- Settles O5: each clause is one branch of the command's effect. -/
theorem phaseService : Obligations.PhaseService := by
  have out {s : State} {ses t p : Nat} (hrun : s.running = true) (hses : ses < Config.sessions)
      (ht : t < Config.trays) (hp : p < Config.phases) {u : State} (h : phaseOutEff ses t p s = u) :
      exec (.phaseOutOfService ses t p) s = .next u :=
    runObj_framed (phaseOutEff_frame ..) hses (okTP_of_lt ht hp) hrun h
  have into {s : State} {ses t p : Nat} (hrun : s.running = true) (hses : ses < Config.sessions)
      (ht : t < Config.trays) (hp : p < Config.phases) {u : State} (h : phaseInEff ses t p s = u) :
      exec (.phaseIntoService ses t p) s = .next u :=
    runObj_framed (phaseInEff_frame ..) hses (okTP_of_lt ht hp) hrun h
  refine ⟨?_, ?_, ?_, ?_, ?_, ?_, ?_, ?_, ?_, ?_, ?_, ?_, ?_⟩
  · intro s ses t p hrun hses ht hp hsvc
    exact out hrun hses ht hp (phaseOutEff_violates ses t p hsvc)
  · intro s ses t p hrun hses ht hp hn hsvc hst
    refine out hrun hses ht hp ((phaseOutEff_serves ses hn hsvc).trans ?_)
    obtain h | h | h | h := hst <;> rw [h]
  · intro s ses t p hrun hses ht hp hn hsvc hst
    exact out hrun hses ht hp ((phaseOutEff_serves ses hn hsvc).trans (by rw [hst]))
  · intro s ses t p hrun hses ht hp hn hsvc hst
    exact out hrun hses ht hp ((phaseOutEff_serves ses hn hsvc).trans (by rw [hst]))
  · intro s ses t p hrun hses ht hp hn hsvc hst
    exact out hrun hses ht hp ((phaseOutEff_serves ses hn hsvc).trans (by rw [hst]))
  · intro s ses t p hrun hses ht hp hn hsvc hst
    refine out hrun hses ht hp ((phaseOutEff_serves ses hn hsvc).trans ?_)
    obtain h | h | h | h := hst <;> rw [h]
  · intro s ses t p hrun hses ht hp hsvc hoff hfault
    exact into hrun hses ht hp (phaseInEff_violates ses hsvc hoff hfault)
  · intro s ses t p hrun hses ht hp hn hst
    exact into hrun hses ht hp (phaseInEff_serves ses hn hst)
  · intro s t c hrun ht hc hstart hallow hcov
    exact run_to (decide_eq_true ht) hrun (checkStartEff_starts hc hstart hallow hcov)
  · intro s t c p rest hrun ht hc htodo hstart htb hretry hdue hkind hlow
    refine run_framed (phaseProbeEff_frame ..) (decide_eq_true ht) hrun
      ((phaseProbeEff_due hc htodo hstart htb hretry hdue hkind).trans (if_neg ?_))
    rintro ⟨hbs, hhigh⟩
    obtain h | h := hlow
    · exact absurd h (by simp [hbs])
    · exact absurd hhigh (not_lt.mpr h)
  · intro s t c p rest hrun ht hc htodo hstart htb hretry hdue hkind hbs hhigh
    exact run_framed (phaseProbeEff_frame ..) (decide_eq_true ht) hrun
      ((phaseProbeEff_due hc htodo hstart htb hretry hdue hkind).trans (if_pos ⟨hbs, hhigh⟩))
  · intro s t c p rest hrun ht hc htodo hstart hretry hdue hkind
    exact run_framed (probeRetryEff_frame ..) (decide_eq_true ht) hrun
      (probeRetryEff_due hc htodo hstart hretry hdue hkind)
  · intro s t hrun ht hkind
    exact ⟨run_to (decide_eq_true ht) hrun (probes_held hkind).1, run_to (decide_eq_true ht) hrun (probes_held hkind).2⟩

end Sys2Proof.Machine
end

section
/-! SUPPORT. Proof: a raise on its way stays on its way while a tray changes its state (16_faults.md: The handling
order). -/

namespace Sys2Proof.Machine

set_option Elab.async false

/-- Every raise on its way in s is on its way in t. -/
structure Raising (s t : State) : Prop where
  kept : ∀ r ∈ s.fm.inFlight, r ∈ t.fm.inFlight

namespace Raising
variable {s t u : State}

theorem refl : Raising s s := ⟨fun _ h => h⟩

theorem trans (h : Raising s t) (h' : Raising t u) : Raising s u := ⟨fun r hr => h'.kept r (h.kept r hr)⟩

theorem raised {code inst : Nat} (h : Raising s t) (hr : s.raised code inst) : t.raised code inst := by
  obtain ⟨r, hm, he⟩ := hr
  exact ⟨r, h.kept r hm, he⟩

theorem ite {c : Prop} [Decidable c] (h : Raising s t) (h' : Raising s u) : Raising s (if c then t else u) := by
  split
  · exact h
  · exact h'

theorem foldl {β : Type} {f : State → β → State} (hf : ∀ s b, Raising s (f s b)) {xs : List β} {s : State} :
    Raising s (xs.foldl f s) := foldl_keeps (Raising s) f xs (fun t b h => h.trans (hf t b)) s .refl

end Raising

theorem SameBut.raising {l : List Part} {s t : State} (h : SameBut l s t) (hl : .fm ∉ l := by decide) : Raising s t :=
  ⟨fun r hr => by rwa [h.fm_eq hl]⟩

theorem raiseWith_raising (s : State) (code inst : Nat) (data : Bytes) : Raising s (s.raiseWith code inst data) :=
  ⟨fun _ hr => List.mem_append_left _ hr⟩

theorem raise_raising (s : State) (code inst : Nat) : Raising s (s.raise code inst) := raiseWith_raising ..

theorem slackUrgent_raising (s : State) : Raising s (slackUrgent s) := by
  unfold slackUrgent
  split
  · exact (slackReturn_frame ..).raising.trans (raise_raising ..)
  · exact .refl

theorem leavesSet_raising (t : Nat) (s : State) : Raising s (leavesSet t s) :=
  .ite (slackOver_frame ..).raising (.ite .refl (slackUrgent_raising s))

theorem trayFault_raising (t cause : Nat) (s : State) : Raising s (trayFault t cause s) :=
  (((blackStartFailed_frame ..).raising.trans (leavesSet_raising ..)).trans
    (SameBut.raising (l := [.tph, .trays]) (.trans (drivesLow_frame ..) (testOver_frame ..)))).trans
    (State.updTray_frame ..).raising

theorem trayOpenFault_raising (t cause : Nat) (s : State) : Raising s (trayOpenFault t cause s) :=
  .trans (.ite .refl ((leavesSet_raising ..).trans (blackStartFailed_frame ..).raising))
    (SameBut.raising (l := [.tph, .trays]) (.step (.step (.trans (drivesLow_frame ..) (testOver_frame ..))
      (State.updTray_frame ..)) (State.updTp_frame ..)))

theorem checkOutcome_raising (t : Nat) (c : Check) (s : State) : Raising s (checkOutcome t c s) := by
  refine (State.updTp_frame s t (fun y => { y with check := none })).raising.trans ?_
  exact .ite (.ite (trayFault_raising ..) (startDrives_frame ..).raising) (.ite .refl (.ite (.ite
    (trayOpenFault_raising ..) (State.updTray_frame ..).raising) (.ite (.ite (trayFault_raising ..)
    (trayPrecharge_frame ..).raising) .refl)))

theorem dropFromCheck_raising (failed : Bool) (t p : Nat) (s : State) : Raising s (dropFromCheck failed t p s) := by
  dsimp only [dropFromCheck]
  split
  · exact .ite .refl (.ite (checkOutcome_raising ..) (State.updTp_frame ..).raising)
  · exact .refl

end Sys2Proof.Machine
end

section
/-! SUPPORT. Proof: late periods, and frames that arrive on a paddle link (01_shelf_and_signal_flow.md,
03_phases_and_edges.md: Paddle links). -/

namespace Sys2Proof.Machine

set_option Elab.async false

/-! ### Late periods -/

/-- The times of the late periods of the last second, this one's first. -/
def lateTimes (s : State) : List Nat := s.now :: s.edge.lateTimes.filter fun a => decide (s.now < a + sec)

/-- A late period recorded and counted. -/
def countLate (d : Nat) (s : State) : State :=
  { s with
    loop := { s.loop with delayLast := d, delayHigh := max s.loop.delayHigh d }
    edge := { s.edge with latePeriods := sat32 (s.edge.latePeriods + 1), lateTimes := lateTimes s } }

/-- A late period raises its notice, the eleventh of a second its warning too. -/
theorem latePeriodEff_late {d : Nat} (s : State) (hd : 900 < d) : latePeriodEff d s =
    when_ (decide ((lateTimes s).length = 11)) (fun s => s.raise 0x020C noInst)
      ((countLate d s).raise 0x020B noInst) := if_neg (not_le.mpr hd)

/-- Settles O7: a delay within 900 ns is only recorded; a longer one counts and raises, and the eleventh of a second
raises the warning. -/
theorem latePeriodsHold : Obligations.LatePeriods := by
  refine ⟨fun s d hrun hd => run_to rfl hrun (if_pos hd), fun s d hrun hd => ?_⟩
  refine ⟨latePeriodEff d s, run_framed (latePeriodEff_frame ..) rfl hrun rfl, ?_⟩
  have hs : SameBut [.fm] (countLate d s) (latePeriodEff d s) :=
    latePeriodEff_late s hd ▸ .trans (State.raise_frame ..) (.when_ fun _ => State.raise_frame ..)
  rw [hs.loop_eq, hs.edge_eq]
  refine ⟨?_, rfl, rfl, rfl, hs.phases_eq, rfl, fun hlen => ?_⟩
  · rw [latePeriodEff_late s hd]
    exact Raising.raised (.ite (raise_raising ..) .refl) (raised_raise ..)
  · rw [latePeriodEff_late s hd, decide_eq_true (by rw [lateTimes, List.length_cons, hlen])]
    exact raised_raise ..

/-! ### Frames that fail -/

theorem frameError_frameErrors (t : Nat) (s : State) :
    (frameError t s).edge.frameErrors = sat32 (s.edge.frameErrors + 1) := by
  dsimp only [frameError]
  rw [(SameBut.when_ (fun u => State.raise_frame u 0x020E t)).edge_eq]
  rfl

theorem frameError_parts (t : Nat) (s : State) : (frameError t s).edge.frameErrors = sat32 (s.edge.frameErrors + 1) ∧
    (frameError t s).loop = s.loop ∧ (frameError t s).phases = s.phases ∧ (frameError t s).trays = s.trays :=
  have hs := frameError_frame t s
  ⟨frameError_frameErrors t s, hs.loop_eq, hs.phases_eq, hs.trays_eq⟩

theorem otherFrame_unknown {k : Nat} (t : Nat) (s : State) (h : k < 0x81 ∨ 0x84 < k) :
    otherFrame t k s = frameError t s := if_neg (by omega)

section
variable {s : State} {t : Nat} {f d : Bytes}

theorem sampleEff_good (h : parsePaddle t f = some (0x81, d)) :
    SameBut [.phases, .links, .est, .txn, .tph, .trays] s (sampleEff t f s) := by
  rw [sampleEff, h]
  exact .step (.ite (.trans (.step (.mono (State.mapPhs_frame ..)) (State.updLink_frame ..))
    (.mono (chargeSample_frame ..))) (.step (.mono (State.mapPhs_frame ..)) (State.updLink_frame ..)))
    (openAtZeroCheck_frame ..)

/-- A frame of a type that no stage sends is a frame error, whichever command takes it. -/
theorem unknown_frame {k : Nat} (h : parsePaddle t f = some (k, d)) (hk : k < 0x81 ∨ 0x84 < k) :
    sampleEff t f s = frameError t s ∧ statusEff t f s = frameError t s ∧ configReplyEff t f s = frameError t s ∧
    overcurrentEff t f s = frameError t s ∧ overvoltageEff t f s = frameError t s := by
  have ho := otherFrame_unknown t s hk
  refine ⟨?_, ?_, ?_, ?_, ?_⟩
  · rw [sampleEff, h]
    split
    next heq => cases heq; omega
    next heq => cases heq; exact ho
    next heq => cases heq
  · rw [statusEff, h]
    split
    next heq => cases heq; omega
    next heq => cases heq; exact ho
    next heq => cases heq
  · rw [configReplyEff, h]
    split
    next heq => cases heq; omega
    next heq => cases heq; exact ho
    next heq => cases heq
  · rw [overcurrentEff, h]
    split
    next heq => cases heq; omega
    next heq => cases heq; exact ho
    next heq => cases heq
  · rw [overvoltageEff, h]
    split
    next heq => cases heq; omega
    next heq => cases heq; exact ho
    next heq => cases heq

end

/-! ### STATUS while no check runs -/

theorem abandonCheck_none {s : State} {t : Nat} (h : (s.tp t).check = none) : abandonCheck t s = s := by
  rw [abandonCheck, h]

theorem judgeStatus_none {s : State} {t : Nat} (at_ : Nat) (h : (s.tp t).check = none) : judgeStatus t at_ s = s := by
  rw [judgeStatus, h]

theorem dropFromCheck_none {s : State} {t : Nat} (failed : Bool) (p : Nat) (h : (s.tp t).check = none) :
    dropFromCheck failed t p s = s := by
  rw [dropFromCheck, h]

theorem statusEff_unchecked {s : State} {t : Nat} {f d : Bytes} (h : parsePaddle t f = some (0x82, d))
    (hcheck : (s.tp t).check = none) : SameBut [.links, .tph, .trays] s (statusEff t f s) := by
  rw [statusEff, h]
  change SameBut _ s (blackStartCheck t (judgeStatus t (u64At d 0)
    (if _ then abandonCheck t (s.updLink t (statusLink s t d)) else s.updLink t (statusLink s t d))))
  rw [abandonCheck_none (by exact hcheck), ite_self, judgeStatus_none _ (by exact hcheck)]
  exact .step (.mono (State.updLink_frame ..)) (blackStartCheck_frame ..)

/-! ### Overcurrents -/

/-- The parts an overcurrent touches while no check of the tray runs. -/
theorem overcurrentPhase_unchecked {s : State} {t : Nat} (p : Nat) (hcheck : (s.tp t).check = none) :
    SameBut [.phases, .tx, .links, .pair, .fm] s (overcurrentPhase t p s) := by
  dsimp only [overcurrentPhase]
  rw [dropFromCheck_none true p (by exact hcheck)]
  exact .step (.step (.mono (State.updPh_frame ..)) (sendAtOnce_frame ..)) (State.raise_frame ..)

theorem overcurrents_unchecked {s : State} {t : Nat} (ps : List Nat) (hcheck : (s.tp t).check = none) :
    SameBut [.phases, .tx, .links, .pair, .fm] s (ps.foldl (fun a p => overcurrentPhase t p a) s) := by
  refine foldl_keeps (SameBut [.phases, .tx, .links, .pair, .fm] s) _ ps (fun u p h => ?_) s .refl
  refine h.trans (overcurrentPhase_unchecked p ?_)
  rwa [State.tp, h.tph_eq]

theorem overcurrentPhase_raised (t p : Nat) (s : State) : (overcurrentPhase t p s).raised 0x020A (phIdx t p) :=
  raised_raise ..

theorem overcurrentPhase_raising (t p : Nat) (s : State) : Raising s (overcurrentPhase t p s) :=
  .trans (.trans ((State.updPh_frame ..).raising.trans (dropFromCheck_raising ..)) (sendAtOnce_frame ..).raising)
    (raise_raising ..)

/-- Every phase of the list has raised its trip at the end. -/
theorem overcurrents_raised {t p : Nat} {ps : List Nat} (s : State) (h : p ∈ ps) :
    (ps.foldl (fun a p => overcurrentPhase t p a) s).raised 0x020A (phIdx t p) := by
  induction ps generalizing s with
  | nil => cases h
  | cons q ps ih =>
    obtain rfl | h := List.mem_cons.mp h
    · rw [List.foldl_cons]
      exact (Raising.foldl fun u b => overcurrentPhase_raising t b u).raised (overcurrentPhase_raised t p s)
    · exact ih _ h

theorem nPh_mapPhs (s : State) (t : Nat) (f : Nat → Phase → Phase) : (s.mapPhs t f).nPh t = s.nPh t := by
  simp only [State.nPh, State.phs, State.mapPhs]
  by_cases ht : t < s.phases.length
  · rw [get_upd_same _ _ _ _ ht, List.length_mapIdx]
  · rw [upd_absent _ _ _ (not_lt.mp ht)]

/-- The flags of an EVENT noted with the tray's link and phases. -/
def noteEvent (t : Nat) (d : Bytes) (s : State) : State :=
  (when_ (afterProbe s t (u64At d 0)) (fun s => s.updLink t fun l => { l with desat := l.desat ||| u8At d 9 }) s).mapPhs
    t fun p x => if bit (u8At d 9) p then { x with flags := setBit x.flags 4 true } else x

theorem noteEvent_frame (t : Nat) (d : Bytes) (s : State) : SameBut [.links, .phases] s (noteEvent t d s) :=
  .trans (.when_ fun _ => .mono (State.updLink_frame ..)) (.mono (State.mapPhs_frame ..))

theorem noteEvent_nPh (t : Nat) (d : Bytes) (s : State) : (noteEvent t d s).nPh t = s.nPh t := by
  rw [noteEvent, nPh_mapPhs, State.nPh, State.phs, (SameBut.when_ fun _ => State.updLink_frame ..).phases_eq]
  rfl

/-- What an overcurrent leaves to be done: the recent ones noted, the capacity published, the tray snubbed where it is
not the only one. -/
def afterOvercurrents (t : Nat) (hit : List Nat) (recent : List (Nat × Nat)) (s : State) : State :=
  let s := publishCapacity t (s.updTp t fun y => { y with ocs := hit.map (fun p => (p, s.now)) ++ recent })
  if hit.any fun p => (recent.any fun e => e.1 != p) || hit.any (· != p) then snubTray t s else s

theorem afterOvercurrents_frame (t : Nat) (hit : List Nat) (recent : List (Nat × Nat)) (s : State) :
    SameBut [.tx, .phases, .tph, .links, .pair] s (afterOvercurrents t hit recent s) :=
  .ite (.step (.step (.mono (State.updTp_frame ..)) (publishCapacity_frame ..)) (snubTray_frame ..))
    (.step (.mono (State.updTp_frame ..)) (publishCapacity_frame ..))

/-- An EVENT with overcurrent flags of phases the tray has. -/
theorem overcurrentEff_event {s : State} {t : Nat} {f d : Bytes} {hit : List Nat}
    (h : parsePaddle t f = some (0x84, d))
    (hhit : (List.range ((noteEvent t d s).nPh t)).filter (fun p => bit (u8At d 8) p) = hit) (hne : hit ≠ []) :
    ∃ recent, overcurrentEff t f s =
      afterOvercurrents t hit recent (hit.foldl (fun a p => overcurrentPhase t p a) (noteEvent t d s)) := by
  subst hhit
  refine ⟨((noteEvent t d s).tp t).ocs.filter fun e => decide ((noteEvent t d s).now ≤ e.2 + ms), ?_⟩
  rw [overcurrentEff, h]
  exact if_neg hne

/-- Each phase flagged raises its trip, and without a check of the tray the loop and the trays stay. -/
theorem overcurrentEff_trips {s : State} {t p : Nat} {f d : Bytes} (h : parsePaddle t f = some (0x84, d))
    (hp : p < s.nPh t) (hbit : bit (u8At d 8) p = true) :
    (overcurrentEff t f s).raised 0x020A (phIdx t p) ∧
    ((s.tp t).check = none → (overcurrentEff t f s).loop = s.loop ∧ (overcurrentEff t f s).trays = s.trays) := by
  have hmem : p ∈ (List.range ((noteEvent t d s).nPh t)).filter (fun p => bit (u8At d 8) p) := by
    rw [List.mem_filter, List.mem_range, noteEvent_nPh]
    exact ⟨hp, hbit⟩
  generalize hhit : (List.range ((noteEvent t d s).nPh t)).filter (fun p => bit (u8At d 8) p) = hit at hmem
  obtain ⟨recent, heff⟩ := overcurrentEff_event h hhit (List.ne_nil_of_mem hmem)
  have hnote := noteEvent_frame t d s
  rw [heff]
  refine ⟨(afterOvercurrents_frame ..).raised (overcurrents_raised _ hmem), fun hcheck => ?_⟩
  have hfold := overcurrents_unchecked (s := noteEvent t d s) (t := t) hit (by rwa [State.tp, hnote.tph_eq])
  have hs : SameBut [.links, .phases, .tx, .pair, .fm, .tph] s _ :=
    .step (.step (.mono hnote) hfold) (afterOvercurrents_frame t hit recent _)
  exact ⟨hs.loop_eq, hs.trays_eq⟩

/-! ### The statement -/

theorem tripLoop_snubShelf {s : State} (h : s.loop.st ≠ .off) :
    (tripLoop (snubShelf s)).loop.st = .tripped ∧ (tripLoop (snubShelf s)).loop.iSt = 0 :=
  tripLoop_loop (by rwa [(snubShelf_frame s).loop_eq])

/-- Settles O8: the frame's type and CRC select the branch of its effect. -/
theorem linkFrames : Obligations.LinkFrames := by
  refine ⟨?_, ?_, ?_, fun s t => frameError_parts t s, ?_, ?_, ?_, ?_, ?_, ?_⟩
  · intro s t f d hrun ht h
    have hs := sampleEff_good (s := s) h
    exact ⟨sampleEff t f s, run_framed (sampleEff_frame ..) (decide_eq_true ht) hrun rfl, hs.loop_eq,
      congrArg Edge.frameErrors hs.edge_eq, hs.od_eq⟩
  · intro s t f hrun ht h
    refine ⟨⟨sampleEff t f s, run_framed (sampleEff_frame ..) (decide_eq_true ht) hrun rfl, ?_⟩,
      ⟨statusEff t f s, run_framed (statusEff_frame ..) (decide_eq_true ht) hrun rfl, ?_⟩,
      run_framed (configReplyEff_frame ..) (decide_eq_true ht) hrun (by rw [configReplyEff, h]),
      run_framed (overcurrentEff_frame ..) (decide_eq_true ht) hrun (by rw [overcurrentEff, h]),
      run_framed (overvoltageEff_frame ..) (decide_eq_true ht) hrun (by rw [overvoltageEff, h])⟩
    · rw [sampleEff, h]
      exact ⟨frameError_frameErrors .., (frameError_frame ..).loop_eq⟩
    · rw [statusEff, h]
      exact ⟨frameError_frameErrors .., (frameError_frame ..).loop_eq⟩
  · intro s t f k d hrun ht h hk
    obtain ⟨hsample, hstatus, hconfig, hcurrent, hvoltage⟩ := unknown_frame (s := s) h hk
    exact ⟨run_framed (sampleEff_frame ..) (decide_eq_true ht) hrun hsample,
      run_framed (statusEff_frame ..) (decide_eq_true ht) hrun hstatus,
      run_framed (configReplyEff_frame ..) (decide_eq_true ht) hrun hconfig,
      run_framed (overcurrentEff_frame ..) (decide_eq_true ht) hrun hcurrent,
      run_framed (overvoltageEff_frame ..) (decide_eq_true ht) hrun hvoltage⟩
  · intro s t f d hrun ht h hcheck
    have hs := statusEff_unchecked h hcheck
    exact ⟨statusEff t f s, run_framed (statusEff_frame ..) (decide_eq_true ht) hrun rfl, hs.loop_eq, hs.edge_eq,
      hs.od_eq⟩
  · intro s t f d hrun ht h hok
    refine run_to (decide_eq_true ht) hrun ?_
    simp only [configReplyEff, h, if_pos hok]
  · intro s t f d hrun ht h hbad
    refine run_to (decide_eq_true ht) hrun ?_
    simp only [configReplyEff, h, if_neg hbad]
  · intro s t f d hrun ht h hflag hon
    refine ⟨overvoltageEff t f s, run_framed (overvoltageEff_frame ..) (decide_eq_true ht) hrun rfl, ?_⟩
    have heff : overvoltageEff t f s = (tripLoop (snubShelf s)).raise 0x0107 noInst := by
      rw [overvoltageEff, h]
      exact if_neg hflag
    obtain ⟨hst, hi⟩ := tripLoop_snubShelf hon
    rw [heff, (State.raise_frame ..).loop_eq]
    exact ⟨hst, hi, raised_raise ..⟩
  · intro s t f d hrun ht h hflag
    refine run_to (decide_eq_true ht) hrun ?_
    rw [overvoltageEff, h]
    exact if_pos hflag
  · intro s t f d p hrun ht hp h hbit
    exact ⟨overcurrentEff t f s, run_framed (overcurrentEff_frame ..) (decide_eq_true ht) hrun rfl,
      overcurrentEff_trips h hp hbit⟩

end Sys2Proof.Machine
end

section
/-! SUPPORT. Proof: commands 1 to 5 of a tray (04_storage_trays.md: States). -/

namespace Sys2Proof.Machine

set_option Elab.async false

theorem exec_traySlackBegin (ses t : Nat) (s : State) : exec (.traySlackBegin ses t) s =
    runObj ses (0x3000 + t) 0x02 (decide (t < Config.trays)) s (traySlackBeginEff ses t) := rfl

theorem exec_traySlackEnd (ses t : Nat) (s : State) : exec (.traySlackEnd ses t) s =
    runObj ses (0x3000 + t) 0x02 (decide (t < Config.trays)) s (traySlackEndEff ses t) := rfl

theorem slackConditions_online {s : State} {t : Nat} (h : slackConditions s t = true) : (s.tray t).st = .online := by
  simp only [slackConditions, Bool.and_eq_true, decide_eq_true_eq] at h
  exact h.1.1.1.2

/-- The resting tray begins its ramp-down. -/
theorem slackBegin_tray {s : State} {t : Nat} (ht : t < s.trays.length) : (slackBegin t s).alloc.slackTray = some t ∧
    ((slackBegin t s).tray t).st = .slack ∧ ((slackBegin t s).tray t).slack = .rampDown := by
  have htray : (slackBegin t s).tray t = { (rampFromNow t .slack s).tray t with slack := .rampDown } :=
    State.tray_updTray_same _ t _ (by simpa [rampFromNow, State.updTray, upd] using ht)
  rw [htray, rampFromNow, State.tray_updTray_same s t _ ht]
  exact ⟨rfl, rfl, rfl⟩

theorem slackOver_length (t : Nat) (s : State) : (slackOver t s).trays.length = s.trays.length := by
  rw [slackOver]
  split
  · simp [State.updTray, upd]
  · rfl

theorem slackReturn_tray {s : State} {t : Nat} (len : Nat) (ht : t < s.trays.length) :
    ((slackReturn t len s).tray t).st = .admitting := by
  rw [slackReturn, State.tray_updTray_same _ t _ (by rwa [slackOver_length])]

theorem slackUrgent_some {s : State} {t : Nat} (h : s.alloc.slackTray = some t) :
    slackUrgent s = (slackReturn t (s.cfgU 0x3010 0x0A * ms) s).raise 0x0307 t := by
  rw [slackUrgent, h]

/-- Settles O10: each clause is one branch of the command's effect. -/
theorem trayCommands : Obligations.TrayCommands := by
  refine ⟨?_, ?_, ?_, ?_, ?_, ?_, ?_, ?_, ?_, ?_⟩
  · intro s ses t hrun hses ht h
    exact runObj_framed (trayInsertEff_frame ..) hses (decide_eq_true ht) hrun (if_pos h)
  · intro s ses t hrun hses ht h
    exact runObj_framed (trayInsertEff_frame ..) hses (decide_eq_true ht) hrun (if_neg (by simp [h]))
  · intro s ses t hrun hses ht h
    exact runObj_framed (trayDrainEff_frame ..) hses (decide_eq_true ht) hrun (if_pos h)
  · intro s ses t hrun hses ht h
    exact runObj_framed (trayDrainEff_frame ..) hses (decide_eq_true ht) hrun (if_neg (by simp [h]))
  · intro s ses t hrun hses ht h
    have hbegin : traySlackBeginEff ses t s = slackBegin t s := if_pos h
    have hs := slackBegin_frame t s
    obtain ⟨halloc, hst, hslack⟩ := slackBegin_tray (tray_lt (by rw [slackConditions_online h]; decide))
    exact ⟨slackBegin t s, runObj_framed (traySlackBeginEff_frame ..) hses (decide_eq_true ht) hrun hbegin, halloc,
      hst, hslack, hs.sess_eq, hs.loop_eq, hs.phases_eq⟩
  · intro s ses t hrun hses ht h
    exact runObj_framed (traySlackBeginEff_frame ..) hses (decide_eq_true ht) hrun (if_neg (by simp [h]))
  · intro s ses t hrun hses ht hst hslack
    have hend : traySlackEndEff ses t s = slackUrgent s := if_pos hst
    have hs := slackUrgent_frame s
    refine ⟨slackUrgent s, runObj_framed (traySlackEndEff_frame ..) hses (decide_eq_true ht) hrun hend, ?_, ?_,
      hs.sess_eq, hs.loop_eq, hs.phases_eq⟩
    · rw [slackUrgent_some hslack]
      exact raised_raise ..
    · rw [slackUrgent_some hslack, State.tray, (State.raise_frame ..).trays_eq]
      exact slackReturn_tray _ (tray_lt (by rw [hst]; decide))
  · intro s ses t hrun hses ht h
    exact runObj_framed (traySlackEndEff_frame ..) hses (decide_eq_true ht) hrun (if_neg h)
  · intro s ses t hrun hses ht h hgone
    exact runObj_framed (trayResetEff_frame ..) hses (decide_eq_true ht) hrun (if_pos ⟨h, hgone⟩)
  · intro s ses t hrun hses ht h
    refine runObj_framed (trayResetEff_frame ..) hses (decide_eq_true ht) hrun (if_neg ?_)
    rintro ⟨hst, hgone⟩
    obtain h | h := h
    · exact h hst
    · simp [h] at hgone

end Sys2Proof.Machine
end

section
/-! SUPPORT. Proof: a tray from ABSENT to ONLINE (04_storage_trays.md: Insertion). -/

namespace Sys2Proof.Machine

set_option Elab.async false

theorem exec_prechargeTrackCheck (t : Nat) (s : State) : exec (.prechargeTrackCheck t) s =
    run (decide (t < Config.trays)) s (trackCheckEff t) := rfl

theorem exec_containedTestPass (t : Nat) (s : State) : exec (.containedTestPass t) s =
    run (decide (t < Config.trays)) s (testEndEff t) := rfl

/-- A fault that opens the tray, raised first, is on its way at the end. -/
theorem trayOpenFault_raised (t cause code : Nat) (s : State) :
    (trayOpenFault t cause (s.raise code t)).raised code t :=
  (trayOpenFault_raising ..).raised (raised_raise ..)

theorem closureEff_due {s : State} {t a : Nat} (hst : (s.tray t).st = .precharge)
    (hcrit : (s.tray t).critSince = some a) (hkN : (s.tray t).kN = true) (hfresh : s.linkFresh t = true)
    (hdue : a + ms ≤ s.now) (hbs : (s.tray t).blackStart = false) :
    closureEff t s = s.updTray t (fun x => { x with
      st := .closing, since := s.now, kP := true, closeAt := s.now, test := none }) := by
  dsimp only [closureEff]
  rw [hst, hcrit]
  exact if_pos ⟨hkN, hfresh, hdue, .inl hbs⟩

theorem testStartEff_closing {s : State} {t : Nat} (htest : (s.tray t).test = none) (hup : (s.link t).up = true)
    (hst : (s.tray t).st = .closing) (hdue : (s.tray t).closeAt + s.cfgU (0x3000 + t) 0x15 * ms ≤ s.now) :
    testStartEff t s = testBegin t .closing s := by
  dsimp only [testStartEff]
  rw [if_pos ⟨htest, hup⟩, if_pos ⟨hst, hdue⟩]

/-- The end of a closing test: confirmed by a rise below the threshold. -/
theorem testEndEff_closing {s : State} {t : Nat} (htest : (s.tray t).test = some .closing)
    (hdue : (s.tray t).testAt + ms ≤ s.now) : testEndEff t s =
      if (s.link t).vLink - (s.tray t).testV < s.cfgF (0x3000 + t) 0x18 then closingPassed t s
      else trayOpenFault t 0x0302 (s.raise 0x0302 t) := by
  dsimp only [testEndEff]
  rw [if_pos hdue, htest]

/-- Settles O11: each clause is one branch of the command's effect. -/
theorem trayEntry : Obligations.TrayEntry := by
  refine ⟨?_, ?_, ?_, ?_, ?_, ?_, ?_⟩
  · intro s t hrun ht hst hup hpin hdue
    exact run_framed (traySeatedEff_frame ..) (decide_eq_true ht) hrun (if_pos ⟨hst, hup, hpin, hdue⟩)
  · intro s t hrun ht hst hkN hfresh hfails
    have heff : trackCheckEff t s = trayOpenFault t 0x0301 (s.raise 0x0301 t) := if_pos ⟨hst, hkN, hfresh, hfails⟩
    have hs := trackCheckEff_frame t s
    refine ⟨trackCheckEff t s, run_framed hs (decide_eq_true ht) hrun rfl, ?_, hs.phases_eq, hs.links_eq, hs.od_eq⟩
    rw [heff]
    exact trayOpenFault_raised ..
  · intro s t a hrun ht hst hcrit hkN hfresh hdue hbs
    exact run_framed (closureEff_frame ..) (decide_eq_true ht) hrun (closureEff_due hst hcrit hkN hfresh hdue hbs)
  · intro s t hrun ht htest hup hst hdue
    exact run_framed (testStartEff_frame ..) (decide_eq_true ht) hrun (testStartEff_closing htest hup hst hdue)
  · intro s t hrun ht htest hdue hrise
    refine run_framed (testEndEff_frame ..) (decide_eq_true ht) hrun ?_
    rw [testEndEff_closing htest hdue, if_pos hrise]
  · intro s t hrun ht htest hdue hrise
    refine ⟨_, run_framed (testEndEff_frame ..) (decide_eq_true ht) hrun rfl, ?_⟩
    rw [testEndEff_closing htest hdue, if_neg (not_lt.mpr hrise)]
    exact trayOpenFault_raised ..
  · intro s t hrun ht hst ha
    exact run_framed (admitCompleteEff_frame ..) (decide_eq_true ht) hrun (if_pos ⟨hst, ha⟩)

end Sys2Proof.Machine
end

section
/-! SUPPORT. Proof: a pin that breaks while a write of the impedance table waits (04_storage_trays.md: Hot pull,
15_object_dictionary.md: Transactions). -/

namespace Sys2Proof.Machine

set_option Elab.async false

/-- Tray 0 is in PRECHARGE, its pin made, and a block written to its impedance table waits for the next update. -/
def writeWaits : State :=
  { started with
    trays := [{ Tray.reset with st := .precharge, pin := true }]
    est := [{ Est.reset with impDue := [{ id := 1, element := 0, entry := 0, val := impEntry Est.reset 0 }] }] }

/-- The hot pull cuts the waiting write short: nothing waits any longer. -/
theorem writeWaits_interrupted : ((earlyBreakEff 0 writeWaits).estOf 0).impDue.length = 0 := by decide +kernel

/-- Refutes O12: a pin that breaks at `writeWaits` pulls the tray, and the block that waits to be written to its
impedance table is dropped from the estimator (Table 15.8), which the statement says stays as it was. -/
theorem not_trayExit : ¬ Obligations.TrayExit := by
  intro ⟨_, _, _, _, _, _, _, _, _, hpull, _⟩
  obtain ⟨u, hexec, -, -, -, -, hest⟩ :=
    hpull writeWaits 0 rfl (by decide) rfl (by decide) (by decide) rfl (by decide)
  rw [exec_earlyBreakBroken, run_acts _ (decide_eq_true (by decide : 0 < Config.trays)) rfl] at hexec
  cases hexec
  have hdue := writeWaits_interrupted
  rw [State.estOf, show (earlyBreakEff 0 writeWaits).est = writeWaits.est from hest] at hdue
  exact absurd hdue (by decide)

end Sys2Proof.Machine
end

section
/-! SUPPORT. Proof: suspicions, open-wire tests, unreadable cells and balancing (05_cell_chain.md: Open-wire test,
05_cell_chain.md: Telling a broken sense wire from a cell fault, 05_cell_chain.md: Balancing). -/

namespace Sys2Proof.Machine

set_option Elab.async false

/-! ### Rings that exist -/

theorem get_replicate_zero (n i : Nat) : get 0 (List.replicate n 0) i = 0 := by
  rw [get, List.getD_eq_getElem?_getD, List.getElem?_replicate]
  split <;> rfl

theorem tow_of_le {s : State} {t : Nat} (h : s.tows.length ≤ t) : s.tow t = Tow.reset := List.getD_eq_default _ _ h

theorem cellRun_reset (c : Nat) : get 0 Tow.reset.cellRun c = 0 := get_replicate_zero ..

theorem suspectCells_reset (m : Nat) : suspectCells Tow.reset m = 0 := by
  simp [suspectCells, cellRun_reset]

/-- A ring with a suspect cell or monitor is one of the list. -/
theorem tow_lt_of_suspect {s : State} {t m : Nat}
    (h : suspectCells (s.tow t) m ≠ 0 ∨ 5 ≤ get 0 (s.tow t).monRun m) : t < s.tows.length := by
  by_contra hlt
  rw [tow_of_le (not_lt.mp hlt)] at h
  obtain h | h := h
  · exact h (suspectCells_reset m)
  · rw [Tow.reset, get_replicate_zero] at h
    omega

theorem tow_lt_of_missRun {s : State} {t c : Nat} (h : 10 ≤ get 0 (s.tow t).missRun c) : t < s.tows.length := by
  by_contra hlt
  rw [tow_of_le (not_lt.mp hlt), Tow.reset, get_replicate_zero] at h
  omega

/-! ### Rings stay in place -/

/-- As many rings in t as in s. -/
structure SameTows (s t : State) : Prop where
  length : t.tows.length = s.tows.length

namespace SameTows
variable {s t u : State}

theorem refl : SameTows s s := ⟨rfl⟩

theorem trans (h : SameTows s t) (h' : SameTows t u) : SameTows s u := ⟨h'.length.trans h.length⟩

theorem ite {c : Prop} [Decidable c] (h : SameTows s t) (h' : SameTows s u) : SameTows s (if c then t else u) := by
  split
  · exact h
  · exact h'

theorem foldl {β : Type} {f : State → β → State} (hf : ∀ s b, SameTows s (f s b)) {xs : List β} {s : State} :
    SameTows s (xs.foldl f s) := foldl_keeps (SameTows s) f xs (fun t b h => h.trans (hf t b)) s .refl

end SameTows

theorem SameBut.sameTows {l : List Part} {s t : State} (h : SameBut l s t) (hl : .tows ∉ l := by decide) :
    SameTows s t := ⟨by rw [h.tows_eq hl]⟩

theorem State.updTow_sameTows (s : State) (t : Nat) (f : Tow → Tow) : SameTows s (s.updTow t f) :=
  ⟨upd_length ..⟩

theorem queueEnables_sameTows (t m : Nat) (s : State) : SameTows s (queueEnables t m s) := State.updTow_sameTows ..

theorem markSuspect_sameTows (t m cells : Nat) (lines : List Nat) (s : State) :
    SameTows s (markSuspect t m cells lines s) := by
  have hmark : SameTows s (derate t (queueEnables t m (s.updTow t fun w => { w with
      suspect := w.suspect ||| cells
      lines := w.lines.filter (fun l => !(lines.map (· + 512)).contains l) ++
        lines.filter fun l => !w.lines.contains l }))) :=
    ((State.updTow_sameTows ..).trans (queueEnables_sameTows ..)).trans (derate_frame ..).sameTows
  exact .ite (.trans (.trans hmark (State.raise_frame ..).sameTows) (drainAsCommand_frame ..).sameTows) hmark

theorem monUnreadable_sameTows (t m : Nat) (s : State) : SameTows s (monUnreadable t m s) :=
  .ite .refl (.trans (.trans (State.updTow_sameTows ..) (State.raise_frame ..).sameTows)
    (moduleDrain_frame ..).sameTows)

/-- A suspicion raised with its mark. -/
theorem raise_markSuspect_sameTows (t m cells code inst : Nat) (lines : List Nat) (s : State) :
    SameTows s (markSuspect t m cells lines (s.raise code inst)) :=
  (State.raise_frame ..).sameTows.trans (markSuspect_sameTows ..)

theorem senseDecide_sameTows (t m : Nat) (lines cells : List Nat) (above : Nat → Bool) (sumOk suspicion : Bool)
    (s : State) : SameTows s (senseDecide t m lines cells above sumOk suspicion s) := by
  refine .ite (.foldl fun _ _ => raise_markSuspect_sameTows ..) (.ite .refl ?_)
  split
  · exact .ite (raise_markSuspect_sameTows ..) .refl
  · exact .ite (raise_markSuspect_sameTows ..) (.ite .refl (.ite (raise_markSuspect_sameTows ..)
      (.trans (State.updTow_sameTows ..) (State.raise_frame ..).sameTows)))
  · exact .ite (.trans (State.updTow_sameTows ..) (State.raise_frame ..).sameTows) .refl
  · exact (State.raise_frame ..).sameTows.trans (monUnreadable_sameTows ..)

theorem evalMonitor_sameTows (t : Nat) (x : OpenTest) (m : Nat) (s : State) :
    SameTows s (evalMonitor t x m s) := by
  refine .ite .refl (.ite (.ite (State.updTow_sameTows ..) .refl) ?_)
  split
  · exact .trans (.trans (State.updTow_sameTows ..) (senseDecide_sameTows ..)) (queueEnables_sameTows ..)
  · exact .trans (State.updTow_sameTows ..) (senseDecide_sameTows ..)

/-! ### Drains of the module's own -/

theorem drainTray_raising (t : Nat) (s : State) : Raising s (drainTray t s) := by
  dsimp only [drainTray]
  split
  · exact trayOpenFault_raising ..
  · exact trayOpenFault_raising ..
  · exact (rampFromNow_frame ..).raising
  · exact (rampFromNow_frame ..).raising
  · exact .ite (.trans (slackOver_frame ..).raising (State.updTray_frame ..).raising)
      (.trans (slackOver_frame ..).raising (drainOpen_frame ..).raising)
  · exact .refl

theorem drainWith_raising (ses seq t : Nat) (s : State) : Raising s (drainWith ses seq t s) :=
  .ite (.ite (.trans (State.violate_frame ..).raising (raise_raising ..)) (raise_raising ..))
    (.trans (.trans (openTxn_frame ..).raising (State.updTray_frame ..).raising) (drainTray_raising ..))

theorem moduleDrain_raising (t : Nat) (s : State) : Raising s (moduleDrain t s) := .ite (drainWith_raising ..) .refl

/-! ### Suspicions -/

/-- The suspicion of monitor m that the comparison gives now. -/
def suspicionOf (t m : Nat) (s : State) : Suspicion :=
  let w := s.tow t
  let cells := suspectCells w m
  let apart := disagreeing w m
  { m := m, cells := if cells = 0 then monMask m else cells, apart := apart
    above := (List.range 192).foldl (fun a c =>
      if bit apart c ∧ get 0 w.plaus c < get 0 w.main c then setBit a c true else a) 0
    sumOk := decide (absQ (get 0 w.dLast m) ≤ s.cfgF (0x3100 + t) 0x1A) }

/-- A new suspicion joins the list, and the open-wire test of its monitor goes to the front. -/
theorem senseSuspicionEff_new {s : State} {t m : Nat}
    (h : suspectCells (s.tow t) m ≠ 0 ∨ 5 ≤ get 0 (s.tow t).monRun m)
    (hnew : (s.tow t).suspicions.any (fun x => x.m == m) = false) : senseSuspicionEff t m s =
      (queueEnables t m (s.updTow t fun w => { w with suspicions := w.suspicions ++ [suspicionOf t m s] })).updTow t
        fun w => { w with queue := .openTest (2 ^ m) :: w.queue } :=
  if_pos ⟨h.imp_right decide_eq_true, by rw [hnew]; rfl⟩

/-! ### Unreadable cells -/

theorem bit_or (a b i : Nat) : bit (a ||| b) i = (bit a i || bit b i) := Nat.testBit_or a b i

theorem bit_two_pow_self (c : Nat) : bit (2 ^ c) c = true := Nat.testBit_two_pow_self

theorem bit_monMask_self (c : Nat) : bit (monMask (c / 12)) c = true := by
  have hc : 12 * (c / 12) ≤ c := Nat.mul_div_le c 12
  rw [bit, monMask, Nat.testBit_mul_two_pow, decide_eq_true hc, Bool.true_and,
    show 4095 = 2 ^ 12 - 1 from rfl, Nat.testBit_two_pow_sub_one]
  exact decide_eq_true (by omega)

/-- Cells marked unreadable are so at the end, their fault on its way. -/
theorem markUnreadable_marks {s : State} {t c cells : Nat} (inst : Nat) (ht : t < s.tows.length)
    (hc : bit cells c = true) : bit ((markUnreadable t cells inst s).tow t).unreadable c = true ∧
      (markUnreadable t cells inst s).raised 0x0403 inst := by
  refine ⟨?_, (moduleDrain_raising ..).raised (raised_raise ..)⟩
  rw [State.tow, markUnreadable, (moduleDrain_frame ..).tows_eq, (State.raise_frame ..).tows_eq]
  rw [show get Tow.reset _ t = _ from State.tow_updTow_same s t _ ht, bit_or, hc, Bool.or_true]

/-- A cell that is newly without a reading is marked, alone or with its monitor. -/
theorem cellUnreadableEff_marks {s : State} {t c : Nat} (hmiss : 10 ≤ get 0 (s.tow t).missRun c)
    (hnew : bit (s.tow t).unreadable c = false) (hc : c < s.nCell t) (hloud : towQuiet s t = false) :
    cellUnreadableEff t c s =
      if ∀ i, i < 12 → 10 ≤ get 0 (s.tow t).missRun (12 * (c / 12) + i) ∧
        bit (s.tow t).unreadable (12 * (c / 12) + i) = false
      then markUnreadable t (monMask (c / 12)) (16 * t + c / 12) s
      else markUnreadable t (2 ^ c) (192 * t + c) s := by
  dsimp only [cellUnreadableEff]
  rw [if_pos ⟨by simp [hmiss, hnew], hc, hloud⟩]
  refine if_congr ?_ rfl rfl
  simp [List.all_eq_true]

/-- Settles O14: each clause is one branch of the command's effect; a ring with a suspicion, a test or a missed
reading is one of the list. -/
theorem towCells : Obligations.TowCells := by
  refine ⟨?_, ?_, ?_, ?_, ?_, ?_⟩
  · intro s t m hrun ht hm h hnew
    have hlt := tow_lt_of_suspect h
    have hs := senseSuspicionEff_frame t m s
    have hin : t < (queueEnables t m (s.updTow t fun w => { w with
        suspicions := w.suspicions ++ [suspicionOf t m s] })).tows.length := by
      rwa [((State.updTow_sameTows ..).trans (queueEnables_sameTows ..)).length]
    refine ⟨senseSuspicionEff t m s, run_framed hs (by simp [ht, hm]) hrun rfl, ?_, ?_, hs.loop_eq, hs.fm_eq,
      hs.od_eq⟩
    · rw [senseSuspicionEff_new h hnew, State.tow_updTow_same _ t _ hin, queueEnables,
        State.tow_updTow_same _ t _ (by rwa [(State.updTow_sameTows ..).length]), State.tow_updTow_same s t _ hlt]
      simp [suspicionOf]
    · rw [senseSuspicionEff_new h hnew, State.tow_updTow_same _ t _ hin]
      rfl
  · intro s t hrun ht hring hcyc hdue hlast hslack
    refine run_framed (openScheduledEff_frame ..) (decide_eq_true ht) hrun ?_
    exact (if_pos ⟨hring, hcyc, hdue, hlast⟩).trans (if_pos hslack)
  · intro s t hrun ht hring hcyc hdue hlast hslack
    refine run_framed (openScheduledEff_frame ..) (decide_eq_true ht) hrun ?_
    exact (if_pos ⟨hring, hcyc, hdue, hlast⟩).trans (if_neg hslack)
  · intro s t x hrun ht htest hcycle hsweep hrec hmon
    have heff : openEvaluateEff t s = ((List.range (s.nMon t)).foldl (fun a m => evalMonitor t x m a) s).updTow t
        (fun w => { w with test := some { x with monitors := 0 } }) := by
      dsimp only [openEvaluateEff]
      rw [htest]
      exact if_pos ⟨hcycle, hsweep, hrec, hmon⟩
    have hlt : t < s.tows.length :=
      lt_of_get_ne (d := Tow.reset) fun hd => by
        rw [State.tow, hd] at htest
        cases htest
    have hs := openEvaluateEff_frame t s
    refine ⟨openEvaluateEff t s, run_framed hs (decide_eq_true ht) hrun rfl, ?_, hs.phases_eq, hs.od_eq⟩
    rw [heff, State.tow_updTow_same _ t _ (by rwa [(SameTows.foldl fun _ _ => evalMonitor_sameTows ..).length])]
  · intro s t c hrun ht hc hmiss hnew hin hloud
    have hlt := tow_lt_of_missRun hmiss
    have hs := cellUnreadableEff_frame t c s
    refine ⟨cellUnreadableEff t c s, run_framed hs (by simp [ht, hc]) hrun rfl, ?_, ?_, hs.phases_eq, hs.od_eq⟩
    · rw [cellUnreadableEff_marks hmiss hnew hin hloud]
      split
      · exact (markUnreadable_marks _ hlt (bit_monMask_self c)).1
      · exact (markUnreadable_marks _ hlt (bit_two_pow_self c)).1
    · rw [cellUnreadableEff_marks hmiss hnew hin hloud]
      split
      · exact (markUnreadable_marks _ hlt (bit_monMask_self c)).2
      · exact (markUnreadable_marks _ hlt (bit_two_pow_self c)).2
  · intro s t hrun ht
    exact run_framed (balanceResendEff_frame ..) (decide_eq_true ht) hrun rfl

end Sys2Proof.Machine
end

section
/-! SUPPORT. Proof: commands 1 to 4 of a towpath (05_cell_chain.md: Objects). -/

namespace Sys2Proof.Machine

set_option Elab.async false

/-- The marks of a ring. -/
def unmarked (w : Tow) : Prop := w.suspect = 0 ∧ w.checkLost = 0 ∧ w.unreadable = 0

/-- A change of a ring that keeps it unmarked. -/
theorem unmarked_updTow {s : State} {t : Nat} {f : Tow → Tow} (hf : ∀ w, unmarked w → unmarked (f w))
    (h : unmarked (s.tow t)) : unmarked ((s.updTow t f).tow t) := by
  by_cases ht : t < s.tows.length
  · rw [State.tow_updTow_same s t f ht]
    exact hf _ h
  · rw [tow_of_le (by rw [(State.updTow_sameTows ..).length]; exact not_lt.mp ht)]
    exact ⟨rfl, rfl, rfl⟩

/-- The marks of a ring cleared leave it unmarked. -/
theorem unmarked_of_cleared {s : State} {t : Nat} {f : Tow → Tow} (hf : ∀ w, unmarked (f w)) :
    unmarked ((s.updTow t f).tow t) := by
  by_cases ht : t < s.tows.length
  · rw [State.tow_updTow_same s t f ht]
    exact hf _
  · rw [tow_of_le (by rw [(State.updTow_sameTows ..).length]; exact not_lt.mp ht)]
    exact ⟨rfl, rfl, rfl⟩

theorem queueConfig_unmarked {t : Nat} {s : State} (regs : List Nat) (enum : Bool) (h : unmarked (s.tow t)) :
    unmarked ((queueConfig t regs enum s).tow t) := unmarked_updTow (fun _ hw => hw) h

theorem derate_tow (t u : Nat) (s : State) : (derate t s).tow u = s.tow u := by
  rw [State.tow, (derate_frame t s).tows_eq, State.tow]

/-- Command 3 in a state that allows it clears the marks. -/
theorem clearMarksEff_allowed {s : State} {t : Nat} (ses : Nat)
    (h : (s.tray t).st = .idle ∨ (s.tray t).st = .fault ∨ (s.tray t).st = .absent) :
    unmarked ((clearMarksEff ses t s).tow t) ∧ SameBut [.trays, .tows] s (clearMarksEff ses t s) := by
  dsimp only [clearMarksEff]
  rw [if_pos h]
  refine ⟨?_, .ite (.step (.mono (State.updTow_frame ..)) (derate_frame ..)) (.step (.step (.mono
    (State.updTow_frame ..)) (derate_frame ..)) (queueConfig_frame ..))⟩
  split
  · rw [derate_tow]
    exact unmarked_of_cleared fun _ => ⟨rfl, rfl, rfl⟩
  · refine queueConfig_unmarked _ _ ?_
    rw [derate_tow]
    exact unmarked_of_cleared fun _ => ⟨rfl, rfl, rfl⟩

/-- Settles O15: each clause is one branch of the command's effect. -/
theorem towCommands : Obligations.TowCommands := by
  refine ⟨?_, ?_, ?_, ?_, ?_, ?_, ?_, ?_⟩
  · intro s ses t hrun hses ht hdown
    exact ⟨runObj_framed (openNowEff_frame ..) hses (decide_eq_true ht) hrun (if_pos hdown),
      runObj_framed (reenumerateEff_frame ..) hses (decide_eq_true ht) hrun (if_pos (.inl hdown)),
      runObj_framed (weirTestCmdEff_frame ..) hses (decide_eq_true ht) hrun (if_neg fun h => h.2 hdown)⟩
  · intro s ses t hrun hses ht hup
    exact runObj_framed (openNowEff_frame ..) hses (decide_eq_true ht) hrun (if_neg hup)
  · intro s ses t hrun hses ht hup hout
    exact runObj_framed (reenumerateEff_frame ..) hses (decide_eq_true ht) hrun (if_neg (by simp [hup, hout]))
  · intro s ses t hrun hses ht hin
    exact runObj_framed (reenumerateEff_frame ..) hses (decide_eq_true ht) hrun (if_pos (.inr hin))
  · intro s ses t hrun hses ht hidle hfault habsent
    exact runObj_framed (clearMarksEff_frame ..) hses (decide_eq_true ht) hrun
      (if_neg (by simp [hidle, hfault, habsent]))
  · intro s ses t hrun hses ht hst
    obtain ⟨⟨hsus, hlost, hunread⟩, hs⟩ := clearMarksEff_allowed ses hst
    exact ⟨clearMarksEff ses t s, runObj_framed (clearMarksEff_frame ..) hses (decide_eq_true ht) hrun rfl, hsus,
      hlost, hunread, hs.sess_eq, hs.loop_eq⟩
  · intro s ses t hrun hses ht hidle hfault
    exact runObj_framed (weirTestCmdEff_frame ..) hses (decide_eq_true ht) hrun (if_neg (by simp [hidle, hfault]))
  · intro s ses t hrun hses ht hst hup
    exact runObj_framed (weirTestCmdEff_frame ..) hses (decide_eq_true ht) hrun (if_pos ⟨hst, hup⟩)

end Sys2Proof.Machine
end

section
/-! SUPPORT. Proof: the weir line asserts, is tested and clears (05_cell_chain.md: Weir lines). -/

namespace Sys2Proof.Machine

set_option Elab.async false

theorem exec_weirAsserted (t : Nat) (s : State) : exec (.weirAsserted t) s =
    run (decide (t < Config.trays)) s (weirAssertedEff t) := rfl

/-! ### An entry that changes one field -/

/-- A change of one entry leaves what it keeps of that entry as it was, everywhere. -/
theorem get_upd_field {α β : Type} {d : α} {f : α → α} (g : α → β) (hf : ∀ x, g (f x) = g x) (l : List α)
    (i j : Nat) : g (get d (upd l i f) j) = g (get d l j) := by
  by_cases h : i = j
  · subst h
    by_cases hi : i < l.length
    · rw [get_upd_same d l i f hi, hf]
    · rw [upd_absent _ _ _ (not_lt.mp hi)]
  · rw [get_upd_other d l i j f h]

/-! ### Phases under the trip -/

theorem ph_mapPhs {s : State} {t p : Nat} (f : Nat → Phase → Phase) (ht : t < s.phases.length) (hp : p < s.nPh t) :
    (s.mapPhs t f).ph t p = f p (s.ph t p) := by
  have hp' : p < (get [] s.phases t).length := hp
  rw [State.ph, State.mapPhs, get_upd_same _ _ _ _ ht, State.ph]
  generalize get [] s.phases t = l at hp'
  simp [get, List.getElem?_eq_getElem hp']

/-- A phase that is not OFF is one of its tray's. -/
theorem ph_lt {s : State} {t p : Nat} (h : (s.ph t p).st ≠ .off) : t < s.phases.length ∧ p < s.nPh t := by
  have hp : p < s.nPh t := lt_of_get_ne (d := Phase.reset) fun hd => h (congrArg Phase.st hd)
  refine ⟨lt_of_get_ne (d := []) fun hd => ?_, hp⟩
  rw [State.nPh, State.phs, hd] at hp
  exact absurd hp (Nat.not_lt_zero p)

theorem Phase.tripSnub_snubs {x : Phase} (hoff : x.st ≠ .off) (hshed : x.st ≠ .shed) (hfault : x.st ≠ .fault)
    (hlost : x.st ≠ .linkLost) : x.tripSnub.st = .snub ∧ x.tripSnub.snubKind = .trip := by
  unfold Phase.tripSnub
  split
  next h => exact absurd h hoff
  next h => exact absurd h hshed
  next h => exact absurd h hfault
  next h => exact absurd h hlost
  · exact ⟨rfl, rfl⟩
  · exact ⟨rfl, rfl⟩

/-- A phase with its state and the kind of its snub. -/
def Phase.course (x : Phase) : PhSt × SnubKind := (x.st, x.snubKind)

theorem ph_updPh_course {f : Phase → Phase} (hf : ∀ x, (f x).course = x.course) (s : State) (t p u q : Nat) :
    ((s.updPh u q f).ph t p).course = (s.ph t p).course :=
  get_upd_field (fun l => (get Phase.reset l p).course) (fun l => get_upd_field Phase.course hf l q p) s.phases u t

/-- Edge commands sent at once leave every phase in its state. -/
theorem sendAtOnce_course (t u p : Nat) (l : List (Nat × EdgeCmd)) (s : State) :
    ((sendAtOnce t l s).ph u p).course = (s.ph u p).course := by
  have hmark : ∀ v : State, v.phases = s.phases → ((markCmds t s.now l v).ph u p).course = (s.ph u p).course := by
    intro v hv
    rw [markCmds, State.ph, (markEdged_frame ..).phases_eq]
    refine foldl_keeps (fun a : State => (a.ph u p).course = (s.ph u p).course) _ l (fun a e ha => ?_) v ?_
    · exact (ph_updPh_course (by intro x; rfl) a u p t e.1).trans ha
    · rw [State.ph, hv, State.ph]
  rw [sendAtOnce]
  split
  · rfl
  · exact hmark _ (State.sendPaddle_frame ..).phases_eq

/-- The trip snubs each phase of the tray that its state allows. -/
theorem snubTray_course {s : State} {t p : Nat} (ht : t < s.phases.length) (hp : p < s.nPh t) :
    ((snubTray t s).ph t p).course = (s.ph t p).tripSnub.course := by
  have hmap : ((tripCheck t s).mapPhs t fun p x => s.sees t p x.tripSnub).ph t p = s.sees t p (s.ph t p).tripSnub :=
    ph_mapPhs (s := tripCheck t s) _ ht hp
  rw [snubTray, sendSnubs, sendAtOnce_course, State.ph, (State.updTp_frame ..).phases_eq]
  change (((tripCheck t s).mapPhs t fun p x => s.sees t p x.tripSnub).ph t p).course = _
  rw [hmap]
  rfl

/-! ### A tray that leaves the set, or opens -/

theorem State.tray_updTray_field {α : Type} (g : Tray → α) {f : Tray → Tray} (hf : ∀ x, g (f x) = g x) (s : State)
    (t u : Nat) : g ((s.updTray u f).tray t) = g (s.tray t) := get_upd_field g hf s.trays u t

/-- The two contactor drives that end a drain. -/
def Tray.poles (x : Tray) : Bool × Bool := (x.kP, x.kN)

theorem slackOver_poles (t u : Nat) (s : State) : ((slackOver u s).tray t).poles = (s.tray t).poles := by
  rw [slackOver]
  split
  · exact State.tray_updTray_field Tray.poles (by intro x; rfl) s t u
  · rfl

theorem slackReturn_poles (t u len : Nat) (s : State) : ((slackReturn u len s).tray t).poles = (s.tray t).poles :=
  (State.tray_updTray_field Tray.poles (by intro x; rfl) _ t u).trans (slackOver_poles t u s)

theorem slackUrgent_poles (t : Nat) (s : State) : ((slackUrgent s).tray t).poles = (s.tray t).poles := by
  unfold slackUrgent
  split
  · rw [State.tray, (State.raise_frame ..).trays_eq]
    exact slackReturn_poles ..
  · rfl

theorem leavesSet_poles (t u : Nat) (s : State) : ((leavesSet u s).tray t).poles = (s.tray t).poles := by
  rw [leavesSet]
  split
  · exact slackOver_poles ..
  · split
    · rfl
    · exact slackUrgent_poles ..

theorem slackUrgent_length (s : State) : (slackUrgent s).trays.length = s.trays.length := by
  unfold slackUrgent
  split
  · rw [(State.raise_frame ..).trays_eq]
    simp [slackReturn, State.updTray, slackOver_length]
  · rfl

theorem leavesSet_length (t : Nat) (s : State) : (leavesSet t s).trays.length = s.trays.length := by
  rw [leavesSet]
  split
  · exact slackOver_length ..
  · split
    · rfl
    · exact slackUrgent_length s

theorem blackStartFailed_trays (t : Nat) (s : State) : (blackStartFailed t s).trays = s.trays :=
  (blackStartFailed_frame t s).trays_eq

theorem drivesLow_tray {s : State} {t : Nat} (ht : t < s.trays.length) :
    (drivesLow t s).tray t = { s.tray t with kN := false, kPre := false, kP := false } := by
  have hs : SameBut [.tph] s (if (s.tray t).kP then s.updTp t (fun y => { y with sumOff := false, mismatch := 0 }) else s) :=
    .ite (State.updTp_frame ..) .refl
  rw [drivesLow, State.tray_updTray_same _ t _ (by rwa [hs.trays_eq]), State.tray, hs.trays_eq, State.tray]

theorem drivesLow_length (t : Nat) (s : State) : (drivesLow t s).trays.length = s.trays.length := by
  rw [drivesLow, State.updTray, upd_length]
  split <;> rfl

theorem testOver_tray {s : State} {t : Nat} (ht : t < s.trays.length) :
    (testOver t s).tray t = { s.tray t with test := none } :=
  State.tray_updTray_same (s.updTp t _) t _ ht

theorem testOver_length (t : Nat) (s : State) : (testOver t s).trays.length = s.trays.length := upd_length ..

/-- What a tray leaves behind when it opens without a test for a cause. -/
def leftForOpening (t cause : Nat) (s : State) : State := if cause = 0 then s else blackStartFailed t (leavesSet t s)

theorem leftForOpening_frame (t cause : Nat) (s : State) :
    SameBut [.fm, .loop, .trays, .alloc] s (leftForOpening t cause s) :=
  .ite .refl (.step (.mono (leavesSet_frame ..)) (blackStartFailed_frame ..))

theorem leftForOpening_length (t cause : Nat) (s : State) :
    (leftForOpening t cause s).trays.length = s.trays.length := by
  rw [leftForOpening]
  split
  · rfl
  · rw [blackStartFailed_trays, leavesSet_length]

/-- A tray in OPENING without a test, its drives low. -/
def Tray.opened (cause now : Nat) (x : Tray) : Tray :=
  { x with
    st := .opening, since := now, openSince := some now, cause := cause, critSince := none
    clockAt := none, leftAt := none, openAtZero := false, blackStart := false, ramp := none, waitDrive := false }

/-- A tray that opens without a test: its drives low, its open time from now. -/
theorem trayOpenFault_tray {s : State} {t : Nat} (cause : Nat) (ht : t < s.trays.length) :
    ((trayOpenFault t cause s).tray t).st = .opening ∧ ((trayOpenFault t cause s).tray t).openSince = some s.now ∧
    ((trayOpenFault t cause s).tray t).cause = cause ∧ ((trayOpenFault t cause s).tray t).kP = false ∧
    ((trayOpenFault t cause s).tray t).kN = false ∧ ((trayOpenFault t cause s).tray t).kPre = false := by
  let v := testOver t (drivesLow t (leftForOpening t cause s))
  have hleft : t < (leftForOpening t cause s).trays.length := by rwa [leftForOpening_length]
  have hlow : t < (drivesLow t (leftForOpening t cause s)).trays.length := by rwa [drivesLow_length]
  have hover : t < v.trays.length := by rwa [testOver_length]
  have htray : (trayOpenFault t cause s).tray t =
    (v.updTray t (Tray.opened cause (leftForOpening t cause s).now)).tray t := rfl
  rw [htray, State.tray_updTray_same v t _ hover, (leftForOpening_frame ..).now_eq, testOver_tray hlow, drivesLow_tray hleft]
  exact ⟨rfl, rfl, rfl, rfl, rfl, rfl⟩

/-! ### What a weir trip does to the tray -/

/-- The tray marked for its weir fault. -/
def markWeir (t : Nat) (s : State) : State := s.updTray t (fun x => { x with weirFault := true })

theorem weirTray_check {s : State} {t : Nat} (h : (s.tray t).st = .check) :
    weirTray t s = trayOpenFault t 0x0401 (abandonCheck t (markWeir t s)) := by
  simp only [weirTray, h]
  rfl

theorem weirTray_closing {s : State} {t : Nat} (h : (s.tray t).st = .precharge ∨ (s.tray t).st = .closing) :
    weirTray t s = trayOpenFault t 0x0401 (interruptDrain t 0x0401 (markWeir t s)) := by
  obtain h | h := h
  · simp only [weirTray, h]
    rfl
  · simp only [weirTray, h]
    rfl

/-- A tray of the set that a weir trip takes out. -/
def weirLeaves (t : Nat) (s : State) : State :=
  let s := leavesSet t (interruptDrain t 0x0401 (markWeir t s))
  { s with alloc := { s.alloc with set := s.alloc.set.set t false } }

/-- A tray that waits for its current to reach zero with its drives as they are. -/
def Tray.tripped (now : Nat) (x : Tray) : Tray :=
  { x with
    st := .opening, since := now, openSince := none, openAtZero := true, cause := 0x0401, ramp := none
    leftAt := none }

theorem weirTray_inSet {s : State} {t : Nat} (hin : s.inSet t = true)
    (h : (s.tray t).st = .admitting ∨ (s.tray t).st = .online ∨ (s.tray t).st = .drain ∨ (s.tray t).st = .slack) :
    weirTray t s = (testOver t (weirLeaves t s)).updTray t (Tray.tripped (weirLeaves t s).now) := by
  have hin' : (markWeir t s).inSet t = true := hin
  obtain h | h | h | h := h
  all_goals
    simp only [weirTray, h]
    rw [if_pos (by exact hin'), if_pos (by exact hin')]
    rfl

/-- A trip of a tray in the set: out of it, in OPENING, its poles as they were. -/
theorem weirTray_trips {s : State} {t : Nat} (hin : s.inSet t = true)
    (h : (s.tray t).st = .admitting ∨ (s.tray t).st = .online ∨ (s.tray t).st = .drain ∨ (s.tray t).st = .slack) :
    (weirTray t s).inSet t = false ∧ ((weirTray t s).tray t).st = .opening ∧
    ((weirTray t s).tray t).openAtZero = true ∧ ((weirTray t s).tray t).cause = 0x0401 ∧
    ((weirTray t s).tray t).poles = (s.tray t).poles := by
  have ht : t < s.trays.length := tray_lt (by obtain h | h | h | h := h <;> rw [h] <;> decide)
  have hlen : (weirLeaves t s).trays.length = s.trays.length := by
    rw [show (weirLeaves t s).trays = (leavesSet t (interruptDrain t 0x0401 (markWeir t s))).trays from rfl,
      leavesSet_length, (interruptDrain_frame ..).trays_eq]
    exact upd_length ..
  have hover : t < (testOver t (weirLeaves t s)).trays.length := by rwa [testOver_length, hlen]
  rw [weirTray_inSet hin h, State.tray_updTray_same _ t _ hover]
  refine ⟨?_, rfl, rfl, rfl, ?_⟩
  · rw [State.inSet, (State.updTray_frame ..).alloc_eq, (testOver_frame ..).alloc_eq]
    simp [weirLeaves, get, List.getD_eq_getElem?_getD, List.getElem?_set]
    split <;> rfl
  · rw [show (Tray.tripped _ _).poles = ((testOver t (weirLeaves t s)).tray t).poles from rfl,
      testOver_tray (by rwa [hlen])]
    calc ((leavesSet t (interruptDrain t 0x0401 (markWeir t s))).tray t).poles
      _ = ((interruptDrain t 0x0401 (markWeir t s)).tray t).poles := leavesSet_poles ..
      _ = ((markWeir t s).tray t).poles := by rw [State.tray, (interruptDrain_frame ..).trays_eq, State.tray]
      _ = (s.tray t).poles := State.tray_updTray_field Tray.poles (by intro x; rfl) s t t

theorem markWeir_raising (t : Nat) (s : State) : Raising s (markWeir t s) := (State.updTray_frame ..).raising

theorem interruptDrain_raising (t cause : Nat) (s : State) : Raising s (interruptDrain t cause s) :=
  (interruptDrain_frame ..).raising

/-- A tray of a state that may be in the set leaves it, or opens as one that is not. -/
theorem weirLeaves_raising (b : Bool) (t : Nat) (s : State) :
    Raising s (if b then leavesSet t (interruptDrain t 0x0401 (markWeir t s))
      else slackOver t (interruptDrain t 0x0401 (markWeir t s))) :=
  ((markWeir_raising t s).trans (interruptDrain_raising ..)).trans
    (.ite (leavesSet_raising ..) (slackOver_frame ..).raising)

theorem State.withAlloc_raising (s : State) (a : Alloc) : Raising s { s with alloc := a } :=
  (SameBut.alloc ..).raising

theorem weirTray_raising (t : Nat) (s : State) : Raising s (weirTray t s) := by
  cases h : (s.tray t).st with
  | check =>
    rw [weirTray_check h]
    exact .trans (.trans (markWeir_raising ..) (abandonCheck_frame ..).raising) (trayOpenFault_raising ..)
  | precharge | closing =>
    rw [weirTray_closing (by rw [h]; decide)]
    exact .trans (.trans (markWeir_raising ..) (interruptDrain_raising ..)) (trayOpenFault_raising ..)
  | admitting | online | drain | slack =>
    simp only [weirTray, h]
    exact .trans (.trans (weirLeaves_raising ..) (State.withAlloc_raising ..))
      (.ite (.trans (testOver_frame ..).raising (State.updTray_frame ..).raising) (trayOpenFault_raising ..))
  | opening =>
    simp only [weirTray, h]
    exact .trans (.trans (markWeir_raising ..) (interruptDrain_raising ..)) (trayOpenFault_raising ..)
  | fault =>
    simp only [weirTray, h]
    exact markWeir_raising ..
  | absent | idle | pulled =>
    simp only [weirTray, h]
    exact .refl

/-! ### The line asserts -/

/-- The line noted as asserted. -/
def noteWeir (t : Nat) (test : Bool) (s : State) : State :=
  s.updTow t (fun w => { w with weir := true, weirSince := s.now, weirByTest := test })

/-- An assertion outside a test. -/
theorem weirAssertedEff_outside {s : State} {t : Nat} (hlow : (s.tow t).weir = false) (htest : liveTest s t = none) :
    weirAssertedEff t s =
      if towQuiet s t then snubTray t (noteWeir t false s)
      else weirTray t ((snubTray t (noteWeir t false s)).raise 0x0401 t) := by
  dsimp only [weirAssertedEff]
  rw [if_neg (by rw [hlow]; decide), htest]
  rfl

/-- The trays before the trip is carried out. -/
theorem trip_trays (t : Nat) (s : State) :
    ((snubTray t (noteWeir t false s)).raise 0x0401 t).trays = s.trays ∧
    ((snubTray t (noteWeir t false s)).raise 0x0401 t).alloc = s.alloc ∧
    ((snubTray t (noteWeir t false s)).raise 0x0401 t).now = s.now := by
  have hs : SameBut [.tx, .phases, .tph, .links, .pair, .fm, .tows] s
      ((snubTray t (noteWeir t false s)).raise 0x0401 t) :=
    .step (.step (.mono (State.updTow_frame ..)) (snubTray_frame ..)) (State.raise_frame ..)
  exact ⟨hs.trays_eq, hs.alloc_eq, hs.now_eq⟩

/-- A trip of a tray that leaves its check or its closing: its drives low, in OPENING from now. -/
theorem weirTray_opens {s : State} {t : Nat}
    (h : (s.tray t).st = .check ∨ (s.tray t).st = .precharge ∨ (s.tray t).st = .closing) :
    ((weirTray t s).tray t).st = .opening ∧ ((weirTray t s).tray t).openSince = some s.now ∧
    ((weirTray t s).tray t).cause = 0x0401 ∧ ((weirTray t s).tray t).kP = false ∧
    ((weirTray t s).tray t).kN = false ∧ ((weirTray t s).tray t).kPre = false := by
  have ht : t < (markWeir t s).trays.length := by
    rw [markWeir, State.updTray, upd_length]
    exact tray_lt (by obtain h | h | h := h <;> rw [h] <;> decide)
  obtain h | h := h
  · have hs := abandonCheck_frame t (markWeir t s)
    rw [weirTray_check h]
    have hopen := trayOpenFault_tray (s := abandonCheck t (markWeir t s)) 0x0401 (by rwa [hs.trays_eq])
    rwa [hs.now_eq] at hopen
  · have hs := interruptDrain_frame t 0x0401 (markWeir t s)
    rw [weirTray_closing h]
    have hopen := trayOpenFault_tray (s := interruptDrain t 0x0401 (markWeir t s)) 0x0401 (by rwa [hs.trays_eq])
    rwa [hs.now_eq] at hopen

/-- Past the check the trip leaves the phases as the snub has left them. -/
theorem weirTray_phases {s : State} {t : Nat} (h : (s.tray t).st ≠ .check) :
    SameBut [.txn, .fm, .loop, .tph, .trays, .alloc] s (weirTray t s) := by
  cases hst : (s.tray t).st with
  | check => exact absurd hst h
  | precharge | closing =>
    rw [weirTray_closing (by rw [hst]; decide)]
    exact .step (.step (.mono (State.updTray_frame ..)) (interruptDrain_frame ..)) (trayOpenFault_frame ..)
  | admitting | online | drain | slack =>
    simp only [weirTray, hst]
    exact .ite (.step (.step (.step (.ite (.step (.step (.mono (State.updTray_frame ..)) (interruptDrain_frame ..))
      (leavesSet_frame ..)) (.step (.step (.mono (State.updTray_frame ..)) (interruptDrain_frame ..))
      (slackOver_frame ..))) (.alloc ..)) (testOver_frame ..)) (State.updTray_frame ..)) (.step (.step (.ite (.step
      (.step (.mono (State.updTray_frame ..)) (interruptDrain_frame ..)) (leavesSet_frame ..)) (.step (.step (.mono
      (State.updTray_frame ..)) (interruptDrain_frame ..)) (slackOver_frame ..))) (.alloc ..)) (trayOpenFault_frame ..))
  | opening =>
    simp only [weirTray, hst]
    exact .step (.step (.mono (State.updTray_frame ..)) (interruptDrain_frame ..)) (trayOpenFault_frame ..)
  | fault =>
    simp only [weirTray, hst]
    exact .mono (State.updTray_frame ..)
  | absent | idle | pulled =>
    simp only [weirTray, hst]
    exact .refl

/-! ### The line's tests -/

/-- What a ring knows of its line. -/
def Tow.line (w : Tow) : Bool × Bool := (w.weir, w.weirByTest)

theorem State.tow_updTow_field {α : Type} (g : Tow → α) {f : Tow → Tow} (hf : ∀ w, g (f w) = g w) (s : State)
    (t u : Nat) : g ((s.updTow t f).tow u) = g (s.tow u) := get_upd_field g hf s.tows t u

theorem weirRunEnd_line (t : Nat) (s : State) : ((weirRunEnd t s).tow t).line = (s.tow t).line := by
  dsimp only [weirRunEnd]
  split
  · split
    · split
      · rw [State.tow, (enterCheck_frame ..).tows_eq, (State.updTray_frame ..).tows_eq]
        exact State.tow_updTow_field Tow.line (by intro w; rfl) s t t
      · exact State.tow_updTow_field Tow.line (by intro w; rfl) s t t
    · rfl
  · rfl

/-- An assertion that the test on the line causes: noted as the test's, and that test is done. -/
theorem weirAssertedEff_tested {s : State} {t : Nat} {x : WeirLive} (hlow : (s.tow t).weir = false)
    (htest : liveTest s t = some x) :
    weirAssertedEff t s = weirRunEnd t ((noteWeir t true s).updTow t (fun w => { w with
      weirRun := w.weirRun.map fun r => { r with live := r.live.filter (· != x) } })) := by
  dsimp only [weirAssertedEff]
  rw [if_neg (by rw [hlow]; decide), htest]
  rfl

/-- A test whose time has passed without an assertion. -/
theorem weirTestTimeoutEff_late {s : State} {t : Nat} {r : WeirRun} (hrun : (s.tow t).weirRun = some r)
    (hlate : r.live.filter (fun x => decide (x.until_ < s.now)) ≠ []) (hloud : towQuiet s t = false) :
    (weirTestTimeoutEff t s).raised 0x040D t := by
  dsimp only [weirTestTimeoutEff]
  rw [hrun]
  dsimp only
  rw [if_neg hlate, if_neg (ne_true_of_eq_false (by exact hloud))]
  exact (weirRunEnd_frame ..).raised (raised_raise ..)

/-- Settles O16: each clause is one branch of the command's effect; a trip snubs the phases first, then takes the
tray out of the set or opens it. -/
theorem weirLine : Obligations.WeirLine := by
  refine ⟨?_, ?_, ?_, ?_, ?_, ?_, ?_, ?_, ?_⟩
  · intro s t hrun ht hlow htest hloud
    have hs := weirAssertedEff_frame t s
    refine ⟨weirAssertedEff t s, run_framed hs (decide_eq_true ht) hrun rfl, ?_, hs.est_eq, hs.od_eq⟩
    rw [weirAssertedEff_outside hlow htest, if_neg (by simp [hloud])]
    exact (weirTray_raising ..).raised (raised_raise ..)
  · intro s t p hrun ht hp hlow htest hoff hshed hfault hlost hcheck
    obtain ⟨hin, hpin⟩ := ph_lt hoff
    obtain ⟨hst, hkind⟩ := Phase.tripSnub_snubs hoff hshed hfault hlost
    have hsnub : ((weirAssertedEff t s).ph t p).course = (s.ph t p).tripSnub.course := by
      rw [weirAssertedEff_outside hlow htest]
      have hcourse := snubTray_course (s := noteWeir t false s) hin hpin
      split
      · exact hcourse
      · rw [State.ph, (weirTray_phases (by rwa [State.tray, (trip_trays t s).1])).phases_eq,
          (State.raise_frame ..).phases_eq]
        exact hcourse
    obtain ⟨hst', hkind'⟩ := Prod.mk.inj hsnub
    exact ⟨weirAssertedEff t s, run_framed (weirAssertedEff_frame ..) (decide_eq_true ht) hrun rfl, hst'.trans hst,
      hkind'.trans hkind⟩
  · intro s t hrun ht hlow htest hloud hin hst
    obtain ⟨htrays, halloc, -⟩ := trip_trays t s
    have htray : ((snubTray t (noteWeir t false s)).raise 0x0401 t).tray t = s.tray t := by
      rw [State.tray, htrays, State.tray]
    have htrip := weirTray_trips (s := (snubTray t (noteWeir t false s)).raise 0x0401 t) (t := t)
      (by rwa [State.inSet, halloc]) (by rwa [htray])
    rw [htray] at htrip
    obtain ⟨hout, hopen, hzero, hcause, hpoles⟩ := htrip
    obtain ⟨hkP, hkN⟩ := Prod.mk.inj hpoles
    refine ⟨_, run_framed (weirAssertedEff_frame ..) (decide_eq_true ht) hrun ?_, hout, hopen, hzero, hcause, hkP,
      hkN⟩
    rw [weirAssertedEff_outside hlow htest, if_neg (by simp [hloud])]
  · intro s t hrun ht hlow htest hloud hst
    obtain ⟨htrays, -, hnow⟩ := trip_trays t s
    have hopen := weirTray_opens (s := (snubTray t (noteWeir t false s)).raise 0x0401 t) (t := t)
      (by rwa [State.tray, htrays])
    rw [hnow] at hopen
    refine ⟨_, run_framed (weirAssertedEff_frame ..) (decide_eq_true ht) hrun ?_, hopen⟩
    rw [weirAssertedEff_outside hlow htest, if_neg (by simp [hloud])]
  · intro s t hrun ht hlow htest hquiet
    have hs : SameBut [.tx, .phases, .tph, .links, .pair, .tows] s (snubTray t (noteWeir t false s)) :=
      .step (.mono (State.updTow_frame ..)) (snubTray_frame ..)
    refine ⟨snubTray t (noteWeir t false s), run_framed (weirAssertedEff_frame ..) (decide_eq_true ht) hrun ?_,
      hs.fm_eq, ?_⟩
    · rw [weirAssertedEff_outside hlow htest, if_pos hquiet]
    · rw [State.tray, hs.trays_eq, State.tray]
  · intro s t hrun ht hhigh
    exact run_framed (weirAssertedEff_frame ..) (decide_eq_true ht) hrun (if_pos hhigh)
  · intro s t x hrun ht hin hlow htest
    have heff := weirAssertedEff_tested hlow htest
    have hs : SameBut [.tph, .trays, .tows] s (weirAssertedEff t s) := heff ▸
      .step (.step (.mono (State.updTow_frame ..)) (State.updTow_frame ..)) (weirRunEnd_frame ..)
    have hline : ((weirAssertedEff t s).tow t).line = (true, true) := by
      rw [heff, weirRunEnd_line, State.tow_updTow_field Tow.line (by intro w; rfl), noteWeir,
        State.tow_updTow_same s t _ hin]
      rfl
    obtain ⟨hweir, hby⟩ := Prod.mk.inj hline
    exact ⟨weirAssertedEff t s, run_framed hs (decide_eq_true ht) hrun rfl, hweir, hby, hs.tx_eq, hs.fm_eq,
      hs.alloc_eq, hs.phases_eq⟩
  · intro s t r hrun ht hweir hlate hloud
    have hs := weirTestTimeoutEff_frame t s
    exact ⟨weirTestTimeoutEff t s, run_framed hs (decide_eq_true ht) hrun rfl,
      weirTestTimeoutEff_late hweir hlate hloud, hs.loop_eq, hs.od_eq⟩
  · intro s t hrun ht hhigh
    exact run_framed (weirClearedEff_frame ..) (decide_eq_true ht) hrun (if_pos hhigh)

end Sys2Proof.Machine
end

section
/-! SUPPORT. Proof: the estimator's update, steps, fits and saves (06_estimator.md). -/

namespace Sys2Proof.Machine

set_option Elab.async false

theorem SameBut.cfgB_eq {l : List Part} {s t : State} (h : SameBut l s t) (i j : Nat)
    (hl : .od ∉ l := by decide) : t.cfgB i j = s.cfgB i j := by
  rw [State.cfgB, State.cfgB, State.cfgF, State.cfgF, h.cfgU_eq i j hl]

/-! ### Writes that wait -/

theorem State.estOf_updEst_field {α : Type} (g : Est → α) {f : Est → Est} (hf : ∀ x, g (f x) = g x) (s : State)
    (t u : Nat) : g ((s.updEst t f).estOf u) = g (s.estOf u) := get_upd_field g hf s.est t u

/-- The estimator without its impedance table and what waits for it. -/
def Est.unwritten (x : Est) : Est := { x with imp := [], impDue := [] }

/-- Writes that take effect change the impedance table alone. -/
theorem applyWrites_unwritten (t u : Nat) (s : State) :
    ((applyWrites t s).estOf u).unwritten = (s.estOf u).unwritten := by
  dsimp only [applyWrites]
  rw [State.estOf, (SameBut.foldl fun _ _ => finishTxn_frame ..).est_eq]
  refine foldl_keeps (fun a : State => (a.estOf u).unwritten = (s.estOf u).unwritten) _ _ (fun a e ha => ?_) _ ?_
  · split
    · rw [State.estOf, (txnElement_frame ..).est_eq]
      exact (State.estOf_updEst_field Est.unwritten (by intro x; rfl) a t u).trans ha
    · exact ha
  · exact State.estOf_updEst_field Est.unwritten (by intro x; rfl) s t u

theorem applyWrites_length (t : Nat) (s : State) : (applyWrites t s).est.length = s.est.length := by
  dsimp only [applyWrites]
  rw [(SameBut.foldl fun _ _ => finishTxn_frame ..).est_eq]
  refine foldl_keeps (fun a : State => a.est.length = s.est.length) _ _ (fun a e ha => ?_) _ (upd_length ..)
  split
  · rw [(txnElement_frame ..).est_eq]
    exact (upd_length ..).trans ha
  · exact ha

/-! ### A cell's update -/

/-- A cell's charge and its bound. -/
def EstCell.counted (y : EstCell) : Rat × Rat := (y.q, y.uq)

/-- A readable cell with an estimate counts its charge, where the tray does not rest. -/
theorem updateCell_counts {u : UpdateCtx} {w : Tow} {c : Nat} {y : EstCell} (x : Est)
    (hread : bit w.unreadable c = false) (hknown : y.known = true) (hrest : u.rested = false) :
    (updateCell u x w c y).cell.counted = (countCell u y).counted := by
  rw [updateCell, if_neg (by rw [hread]; decide), if_pos hknown]
  split
  · rfl
  · dsimp only
    rw [if_neg (by rw [show (voltCell u x w c _ (polarCell u x w c (countCell u y))).known = y.known from rfl, hknown]; decide),
      if_neg fun h => absurd h.1 (by rw [hrest]; decide)]
    rfl

/-! ### The limits published -/

theorem foldl_min_le (l : List Rat) (a : Rat) : l.foldl min a ≤ a ∧ ∀ b ∈ l, l.foldl min a ≤ b := by
  induction l generalizing a with
  | nil => exact ⟨le_rfl, fun _ h => absurd h List.not_mem_nil⟩
  | cons b l ih =>
    obtain ⟨ha, hl⟩ := ih (min a b)
    refine ⟨ha.trans (min_le_left a b), fun d hd => ?_⟩
    obtain rfl | hd := List.mem_cons.mp hd
    · exact ha.trans (min_le_right a d)
    · exact hl d hd

/-- The current cell e allows, by the voltage between its own and a limit. -/
def cellLimit (crest : Rat) (room : EstCell → Nat → Rat) (e : EstCell × Nat) : Rat :=
  if e.1.rSum = 0 then crest else min crest (room e.1 e.2 / e.1.rSum)

/-- A limit published over a tray's cells: between 0 and its crest, and within what each cell allows. -/
theorem limit_bounds (crest : Rat) (room : EstCell → Nat → Rat) (cells : List EstCell) (n : Nat) :
    let m := max 0 ((((cells.take n).zipIdx).map (cellLimit crest room)).foldl min crest)
    0 ≤ m ∧ m ≤ max 0 crest ∧ ∀ c, c < n → (get EstCell.reset cells c).rSum ≠ 0 →
      m ≤ max 0 (room (get EstCell.reset cells c) c / (get EstCell.reset cells c).rSum) := by
  obtain ⟨hcrest, hall⟩ := foldl_min_le (((cells.take n).zipIdx).map (cellLimit crest room)) crest
  refine ⟨le_max_left _ _, max_le_max le_rfl hcrest, fun c hc hsum => max_le_max le_rfl ?_⟩
  have hlt : c < cells.length := lt_of_get_ne (d := EstCell.reset) fun hd => hsum (by rw [hd]; rfl)
  have hmem : (get EstCell.reset cells c, c) ∈ (cells.take n).zipIdx := by
    rw [List.mk_mem_zipIdx_iff_getElem?, List.getElem?_take_of_lt hc, List.getElem?_eq_getElem hlt, get,
      List.getD_eq_getElem _ _ hlt]
  have hle := hall _ (List.mem_map_of_mem hmem)
  rw [cellLimit, if_neg hsum] at hle
  exact hle.trans (min_le_right _ _)

/-- The room of a cell of tray t above its lowest voltage, and below its highest (R177). -/
def roomDown (s : State) (t : Nat) (y : EstCell) (c : Nat) : Rat :=
  y.vo - (if bit (s.tow t).suspect c then s.cfgB (0x3100 + t) 0x16 else 0) - s.cfgB (0x3200 + t) 0x21
def roomUp (s : State) (t : Nat) (y : EstCell) (c : Nat) : Rat :=
  s.cfgB (0x3200 + t) 0x22 - (y.vo + (if bit (s.tow t).suspect c then s.cfgB (0x3100 + t) 0x16 else 0))

theorem publishEst_limits (s : State) (t : Nat) (x : Est) :
    (publishEst s t x).cells = x.cells ∧
    (publishEst s t x).eD = max 0 ((((x.cells.take (s.nCell t)).zipIdx).map
      (cellLimit (s.cfgB (0x3200 + t) 0x20) (roomDown s t))).foldl min (s.cfgB (0x3200 + t) 0x20)) ∧
    (publishEst s t x).eC = max 0 ((((x.cells.take (s.nCell t)).zipIdx).map
      (cellLimit (s.cfgB (0x3200 + t) 0x20) (roomUp s t))).foldl min (s.cfgB (0x3200 + t) 0x20)) :=
  ⟨rfl, rfl, rfl⟩

/-! ### The full update -/

/-- What an update leaves as it was after the limits are published. -/
def Est.published (x : Est) : List EstCell × Rat × Rat × Rat × Rat × Option Nat :=
  (x.cells, x.eD, x.eC, x.dQ, x.pad, x.lastAt)

theorem deepStep_published (soc : Rat) (x : Est) : (deepStep soc x).published = x.published := by
  rw [deepStep]
  split
  · rfl
  · split <;> rfl

/-- The cells after their update. -/
def updatedCells (t : Nat) (s : State) : List EstCell :=
  ((s.estOf t).cells.mapIdx fun c y => if c < s.nCell t then updateCell (updateCtx s t (s.estOf t)) (s.estOf t) (s.tow t) c y
    else ⟨y, y.q, false, false, false⟩).map (·.cell)

/-- The update publishes the limits of the cells it has brought up to date. -/
theorem estFull_estOf {s : State} {t : Nat} (ht : t < s.est.length) :
    ∃ x, x.cells = updatedCells t (applyWrites t (bleedAccount t s)) ∧ x.dQ = 0 ∧ x.pad = 0 ∧ x.lastAt = some s.now ∧
      ((estFull t s).estOf t).published = (publishEst (applyWrites t (bleedAccount t s)) t x).published := by
  have hv : SameBut [.txn, .est] s (applyWrites t (bleedAccount t s)) :=
    .step (.mono (bleedAccount_frame ..)) (applyWrites_frame ..)
  have hlen : t < (applyWrites t (bleedAccount t s)).est.length := by
    rw [applyWrites_length]
    exact (upd_length ..).symm ▸ ht
  rw [← hv.now_eq]
  generalize hw : applyWrites t (bleedAccount t s) = v at hlen
  dsimp only [estFull]
  rw [State.estOf, hw]
  apply Exists.intro
  refine ⟨?_, ?_, ?_, ?_, ?pub⟩
  case pub =>
    rw [(SameBut.when_ fun _ => State.raise_frame ..).est_eq, (SameBut.when_ fun _ => calLinkVoltage_frame ..).est_eq,
      (SameBut.when_ fun _ => State.raise_frame ..).est_eq, (SameBut.when_ fun _ => State.raise_frame ..).est_eq,
      (SameBut.when_ fun _ => State.raiseWith_frame ..).est_eq]
    exact (congrArg Est.published (State.estOf_updEst_same v t _ hlen)).trans (deepStep_published ..)
  all_goals rfl

theorem estFull_length (t : Nat) (s : State) : (estFull t s).est.length = s.est.length := by
  dsimp only [estFull]
  rw [(SameBut.when_ fun _ => State.raise_frame ..).est_eq, (SameBut.when_ fun _ => calLinkVoltage_frame ..).est_eq,
    (SameBut.when_ fun _ => State.raise_frame ..).est_eq, (SameBut.when_ fun _ => State.raise_frame ..).est_eq,
    (SameBut.when_ fun _ => State.raiseWith_frame ..).est_eq]
  exact (upd_length ..).trans ((applyWrites_length ..).trans (upd_length ..))

/-- The state from which a full update of tray t starts: its sweep taken, its rate the full one. -/
def sweepTaken (t : Nat) (s : State) : State :=
  ((s.updTow t fun w => { w with fresh := false }).updEst t fun x => { x with slow := estSlow s (s.estOf t) }).updEst t
    fun x => { x with skip := 0 }

theorem sweepTaken_frame (t : Nat) (s : State) : SameBut [.tows, .est] s (sweepTaken t s) :=
  .step (.step (.mono (State.updTow_frame ..)) (State.updEst_frame ..)) (State.updEst_frame ..)

theorem sweepTaken_length (t : Nat) (s : State) : (sweepTaken t s).est.length = s.est.length := by
  simp [sweepTaken, State.updEst, State.updTow]

theorem estimatorUpdateEff_full {s : State} {t : Nat} (hfresh : (s.tow t).fresh = true) (hgo : s.fwStopped 18 = false)
    (hslow : estSlow s (s.estOf t) = false) : estimatorUpdateEff t s = estFull t (sweepTaken t s) := by
  dsimp only [estimatorUpdateEff]
  rw [if_neg (by rw [hfresh]; decide), if_neg (ne_true_of_eq_false (by exact hgo)),
    if_neg fun h => absurd h.1 (ne_true_of_eq_false (by exact hslow))]
  rfl

theorem estimatorUpdateEff_fresh {s : State} {t : Nat} (hfresh : (s.tow t).fresh = true) :
    ((estimatorUpdateEff t s).tow t).fresh = false := by
  have ht : t < s.tows.length := lt_of_get_ne (d := Tow.reset) fun hd => by
    rw [State.tow, hd] at hfresh
    cases hfresh
  have hs : SameBut [.txn, .fm, .est, .cal] (s.updTow t fun w => { w with fresh := false })
      (estimatorUpdateEff t s) := by
    rw [estimatorUpdateEff, if_neg (by rw [hfresh]; decide)]
    exact .ite .refl (.ite (.step (.mono (State.updEst_frame ..)) (State.updEst_frame ..))
      (.step (.step (.mono (State.updEst_frame ..)) (State.updEst_frame ..)) (estFull_frame ..)))
  rw [State.tow, hs.tows_eq]
  exact congrArg Tow.fresh (State.tow_updTow_same s t _ ht)

/-- What a ring and an estimator hold for the update, the sweep's mark and the rate apart. -/
theorem sweepTaken_reads (t : Nat) (s : State) :
    ((sweepTaken t s).tow t).suspect = (s.tow t).suspect ∧
    ((sweepTaken t s).tow t).unreadable = (s.tow t).unreadable ∧
    ((sweepTaken t s).tow t).bleeding = (s.tow t).bleeding :=
  ⟨State.tow_updTow_field Tow.suspect (by intro w; rfl) s t t,
    State.tow_updTow_field Tow.unreadable (by intro w; rfl) s t t,
    State.tow_updTow_field Tow.bleeding (by intro w; rfl) s t t⟩

/-! ### The fit -/

theorem foldl_step_none {β : Type} {f : State → β → State} {t : Nat} (l : List β)
    (hf : ∀ a b, (a.estOf t).step = none → ((f a b).estOf t).step = none) {s : State}
    (h : (s.estOf t).step = none) : ((l.foldl f s).estOf t).step = none :=
  foldl_keeps (fun a => (a.estOf t).step = none) f l hf s h

/-- The fit ends the step, whatever it gives. -/
theorem impedanceFitEff_step {s : State} {t : Nat} {x : StepFit} (h : (s.estOf t).step = some x) :
    ((impedanceFitEff t s).estOf t).step = none := by
  have ht : t < s.est.length := lt_of_get_ne (d := Est.reset) fun hd => by
    rw [State.estOf, hd] at h
    cases h
  have hstart : ((s.updEst t fun x => { x with step := none }).estOf t).step = none :=
    congrArg Est.step (State.estOf_updEst_same s t _ ht)
  have hwritten : ((applyWrites t (s.updEst t fun x => { x with step := none })).estOf t).step = none :=
    (congrArg Est.step (applyWrites_unwritten t t _)).trans hstart
  dsimp only [impedanceFitEff]
  split
  next hnone => exact hnone
  · split
    · exact hstart
    · split
      · exact hwritten
      · split
        · exact (State.estOf_updEst_field Est.step (by intro y; rfl) _ t t).trans hwritten
        · refine foldl_step_none _ (fun a c ha => ?_)
            ((State.estOf_updEst_field Est.step (by intro y; rfl) _ t t).trans hwritten)
          split
          · split
            · exact (State.estOf_updEst_field Est.step (by intro y; rfl) a t t).trans ha
            · exact (State.estOf_updEst_field Est.step (by intro y; rfl) a t t).trans ha
          · exact ha

/-! ### Blocks of the impedance table -/

theorem copyTxn_highest (id : Nat) (s : State) : (copyTxn id s).txn.highest = s.txn.highest := by
  rw [copyTxn]
  split <;> rfl

theorem closeTxn_highest (id st cause : Nat) (s : State) : (closeTxn id st cause s).txn.highest = s.txn.highest := by
  rw [closeTxn]
  split
  · split
    · exact copyTxn_highest ..
    · rfl
  · rfl

theorem openTxn_highest (kind object arg requested ses seq : Nat) (s : State) :
    (openTxn kind object arg requested ses seq s).txn.highest = s.txn.highest + 1 := copyTxn_highest ..

theorem interruptWrites_highest (t cause : Nat) (s : State) :
    (interruptWrites t cause s).txn.highest = s.txn.highest :=
  foldl_keeps (fun a : State => a.txn.highest = s.txn.highest) _ _ (fun _ _ h => (closeTxn_highest ..).trans h) _ rfl

theorem interruptWrites_imp (t u cause : Nat) (s : State) :
    ((interruptWrites t cause s).estOf u).imp = (s.estOf u).imp := by
  refine foldl_keeps (fun a : State => (a.estOf u).imp = (s.estOf u).imp) _ _ (fun a e h => ?_) _ ?_
  · rw [State.estOf, (closeTxn_frame ..).est_eq]
    exact h
  · exact State.estOf_updEst_field Est.imp (by intro x; rfl) s t u

/-- A block of the impedance table opens its transaction; its entries wait for the next update. -/
def queueBlock (ses seq t off : Nat) (d : Bytes) (s : State) : State :=
  let first := s.win ses (0x3300 + t) 0x03 + off / 8
  let s := openTxn 2 (0x3300 + t + 0x040000) first (d.length / 8) ses seq s
  s.updEst t fun x => { x with
    writeTxn := s.txn.highest
    impDue := x.impDue ++ (List.range (d.length / 8)).map fun i =>
      { id := s.txn.highest, element := i, entry := first + i, val := impParse s.now (slice d (8 * i) 8) } }

section
variable {s : State} {ses t off : Nat} {d : Bytes}

/-- A block of wrong shape, or past the end of the table. -/
theorem impedanceBlockEff_violates (seq : Nat)
    (h : d = [] ∨ d.length % 8 ≠ 0 ∨ off % 8 ≠ 0 ∨ 8192 < off + d.length ∨
      48 * s.nCell t < s.win ses (0x3300 + t) 0x03 + off / 8 + d.length / 8) :
    impedanceBlockEff ses seq t off d s = s.violate ses (0x3300 + t) 0x04 := if_pos h

/-- A good block where 32 transactions are open. -/
theorem impedanceBlockEff_limit (seq : Nat) (hd : d ≠ []) (hlen : d.length % 8 = 0) (hoff : off % 8 = 0)
    (hsize : off + d.length ≤ 8192) (hend : s.win ses (0x3300 + t) 0x03 + off / 8 + d.length / 8 ≤ 48 * s.nCell t)
    (hfull : 32 ≤ s.openTxns) : impedanceBlockEff ses seq t off d s = txnLimit ses (0x3300 + t) 0x04 s :=
  (if_neg (by simp [hd, hlen, hoff, hsize, hend])).trans (if_pos hfull)

/-- A good block's entries wait, under its transaction, or are cut short where no update is to come. -/
theorem impedanceBlockEff_queues (seq : Nat) (hd : d ≠ []) (hlen : d.length % 8 = 0) (hoff : off % 8 = 0)
    (hsize : off + d.length ≤ 8192) (hend : s.win ses (0x3300 + t) 0x03 + off / 8 + d.length / 8 ≤ 48 * s.nCell t)
    (hroom : s.openTxns < 32) : impedanceBlockEff ses seq t off d s =
      if (queueBlock ses seq t off d s).noUpdates t then interruptWrites t 0 (queueBlock ses seq t off d s)
      else queueBlock ses seq t off d s :=
  (if_neg (by simp [hd, hlen, hoff, hsize, hend])).trans (if_neg (not_le.mpr hroom))

end

theorem queueBlock_frame (ses seq t off : Nat) (d : Bytes) (s : State) :
    SameBut [.txn, .est] s (queueBlock ses seq t off d s) :=
  .step (.mono (openTxn_frame ..)) (State.updEst_frame ..)

theorem queueBlock_highest (ses seq t off : Nat) (d : Bytes) (s : State) :
    (queueBlock ses seq t off d s).txn.highest = s.txn.highest + 1 := openTxn_highest ..

theorem queueBlock_imp (ses seq t off : Nat) (d : Bytes) (s : State) :
    ((queueBlock ses seq t off d s).estOf t).imp = (s.estOf t).imp := by
  refine (State.estOf_updEst_field Est.imp (by intro x; rfl) _ t t).trans ?_
  rw [State.estOf, (openTxn_frame ..).est_eq, State.estOf]

/-! ### The clauses of an update -/

/-- The reading that a full update of tray t starts from. -/
def readOf (t : Nat) (s : State) : State := applyWrites t (bleedAccount t (sweepTaken t s))

theorem readOf_frame (t : Nat) (s : State) : SameBut [.txn, .tows, .est] s (readOf t s) :=
  .step (.step (.mono (sweepTaken_frame ..)) (bleedAccount_frame ..)) (applyWrites_frame ..)

theorem readOf_tow (t u : Nat) (s : State) : (readOf t s).tow u = (sweepTaken t s).tow u := by
  rw [State.tow, readOf, (applyWrites_frame ..).tows_eq, (bleedAccount_frame ..).tows_eq, State.tow]

/-- What an update reads of the estimator, its tables and save apart. -/
def Est.reading (x : Est) : List EstCell × Rat × Rat × Option Nat × Option Nat :=
  (x.cells, x.dQ, x.pad, x.lastAt, x.below)

/-- What the update reads of the estimator: its bleeding accounted, the sweep taken. -/
theorem readOf_estOf {s : State} {t : Nat} (ht : t < s.est.length) :
    ((readOf t s).estOf t).cells = ((bleedAccount t s).estOf t).cells ∧
    ((readOf t s).estOf t).dQ = (s.estOf t).dQ ∧ ((readOf t s).estOf t).pad = (s.estOf t).pad ∧
    ((readOf t s).estOf t).lastAt = (s.estOf t).lastAt ∧ ((readOf t s).estOf t).below = (s.estOf t).below := by
  have hread : ((readOf t s).estOf t).unwritten = ((bleedAccount t (sweepTaken t s)).estOf t).unwritten :=
    applyWrites_unwritten ..
  have hslow : t < ((s.updTow t fun w => { w with fresh := false }).updEst t fun x => { x with
      slow := estSlow s (s.estOf t) }).est.length := by simpa [State.updEst, State.updTow] using ht
  have htaken : (sweepTaken t s).estOf t = { s.estOf t with slow := estSlow s (s.estOf t), skip := 0 } := by
    rw [sweepTaken, State.estOf_updEst_same _ t _ hslow]
    exact congrArg (fun x : Est => { x with skip := 0 })
      (State.estOf_updEst_same (s.updTow t fun w => { w with fresh := false }) t _ ht)
  have hbled : (bleedAccount t (sweepTaken t s)).estOf t =
      { (bleedAccount t s).estOf t with slow := estSlow s (s.estOf t), skip := 0 } := by
    obtain ⟨-, -, hbleeding⟩ := sweepTaken_reads t s
    rw [bleedAccount, bleedAccount, State.estOf_updEst_same _ t _ (by rwa [sweepTaken_length]),
      State.estOf_updEst_same _ t _ ht, htaken, hbleeding, (sweepTaken_frame t s).now_eq]
  have hbleed : (bleedAccount t s).estOf t = _ := State.estOf_updEst_same s t _ ht
  rw [hbled] at hread
  have hreading := congrArg Est.reading hread
  obtain ⟨hcells, hrest⟩ := Prod.mk.inj
    (show ((readOf t s).estOf t).reading = ((bleedAccount t s).estOf t).reading from hreading)
  have hrest' : (((bleedAccount t s).estOf t).reading).2 = ((s.estOf t).reading).2 := by rw [hbleed]; rfl
  have hall := hrest.trans hrest'
  simp only [Est.reading, Prod.mk.injEq] at hall
  exact ⟨hcells, hall⟩

/-- A cell that counts, by the charge and the time of the update. -/
theorem updatedCells_counts {s : State} {t c : Nat} {y : EstCell} (ht : t < s.est.length) (hc : c < s.nCell t)
    (hrest : restedFor s t (s.estOf t) = false) (hread : bit (s.tow t).unreadable c = false)
    (hy : y = get EstCell.reset ((bleedAccount t s).estOf t).cells c) (hknown : y.known = true) :
    (get EstCell.reset (updatedCells t (readOf t s)) c).counted =
      (countCell (updateCtx (readOf t s) t ((readOf t s).estOf t)) y).counted := by
  obtain ⟨hcells, -, -, -, hbelow⟩ := readOf_estOf ht
  have hs := readOf_frame t s
  have hlt : c < ((readOf t s).estOf t).cells.length := by
    rw [hcells]
    exact lt_of_get_ne (d := EstCell.reset) fun hd => by
      rw [hy, hd] at hknown
      cases hknown
  have hy' : get EstCell.reset ((readOf t s).estOf t).cells c = y := by rw [hcells, hy]
  have hrested : restedFor (readOf t s) t ((readOf t s).estOf t) = false := by
    rw [← hrest, restedFor, restedFor, hbelow, hs.cfgU_eq, hs.now_eq, State.tray, hs.trays_eq, State.tray]
  have hcount : c < (readOf t s).nCell t := by rwa [State.nCell, hs.cfgU_eq]
  have hbit : bit ((readOf t s).tow t).unreadable c = false := by
    rw [readOf_tow, (sweepTaken_reads t s).2.1, hread]
  rw [get, List.getD_eq_getElem _ _ (by simpa [updatedCells] using hlt)]
  simp only [updatedCells, List.getElem_map, List.getElem_mapIdx, if_pos hcount]
  rw [← List.getD_eq_getElem _ EstCell.reset hlt, show List.getD _ c EstCell.reset = y from hy']
  exact updateCell_counts _ hbit hknown hrested

/-- A tray's cell with an estimate is one of an estimator of the list. -/
theorem est_lt_of_known {s : State} {t c : Nat}
    (h : (get EstCell.reset ((bleedAccount t s).estOf t).cells c).known = true) : t < s.est.length := by
  by_contra hlt
  have hle : s.est.length ≤ t := not_lt.mp hlt
  rw [State.estOf, show (bleedAccount t s).est = s.est from upd_absent _ _ _ hle,
    show get Est.reset s.est t = Est.reset from List.getD_eq_default _ _ hle, get] at h
  revert h
  rw [Est.reset, List.getD_eq_getElem?_getD, List.getElem?_replicate]
  split <;> exact Bool.noConfusion

/-- The limits an estimator holds: between 0 and I_cr, and within what each of the tray's cells allows (R177). -/
def limitsHold (s : State) (t : Nat) (x : Est) : Prop :=
  0 ≤ x.eD ∧ 0 ≤ x.eC ∧ x.eD ≤ max 0 (s.cfgB (0x3200 + t) 0x20) ∧ x.eC ≤ max 0 (s.cfgB (0x3200 + t) 0x20) ∧
  ∀ c y, c < s.nCell t → y = get EstCell.reset x.cells c → y.rSum ≠ 0 →
    x.eD ≤ max 0 (roomDown s t y c / y.rSum) ∧ x.eC ≤ max 0 (roomUp s t y c / y.rSum)

theorem limitsHold_publishEst (s : State) (t : Nat) (x : Est) : limitsHold s t (publishEst s t x) := by
  obtain ⟨hcells, hD, hC⟩ := publishEst_limits s t x
  obtain ⟨hD0, hDcrest, hDcell⟩ := limit_bounds (s.cfgB (0x3200 + t) 0x20) (roomDown s t) x.cells (s.nCell t)
  obtain ⟨hC0, hCcrest, hCcell⟩ := limit_bounds (s.cfgB (0x3200 + t) 0x20) (roomUp s t) x.cells (s.nCell t)
  rw [← hD] at hD0 hDcrest hDcell
  rw [← hC] at hC0 hCcrest hCcell
  refine ⟨hD0, hC0, hDcrest, hCcrest, fun c y hc hy hsum => ?_⟩
  rw [hcells] at hy
  subst hy
  exact ⟨hDcell c hc hsum, hCcell c hc hsum⟩

/-- An estimator that is not one of the list holds no limits and no cells. -/
theorem limitsHold_reset (s : State) (t : Nat) : limitsHold s t Est.reset := by
  refine ⟨le_rfl, le_rfl, le_max_left _ _, le_max_left _ _, fun c y _ hy hsum => absurd ?_ hsum⟩
  rw [hy, get, Est.reset, List.getD_eq_getElem?_getD, List.getElem?_replicate]
  split <;> rfl

/-- The limits after a full update, by the settings and marks before it. -/
theorem estFull_limits (t : Nat) (s : State) : limitsHold s t ((estFull t (sweepTaken t s)).estOf t) := by
  by_cases ht : t < s.est.length
  · obtain ⟨x, -, -, -, -, hpub⟩ := estFull_estOf (s := sweepTaken t s) (by rwa [sweepTaken_length])
    have hs := readOf_frame t s
    have hread : limitsHold s t (publishEst (readOf t s) t x) := by
      have h := limitsHold_publishEst (readOf t s) t x
      simp only [limitsHold, roomDown, roomUp, State.nCell, hs.cfgU_eq, hs.cfgB_eq, readOf_tow,
        (sweepTaken_reads t s).1] at h
      exact h
    simp only [Est.published, Prod.mk.injEq] at hpub
    obtain ⟨hcells, hD, hC, -⟩ := hpub
    rw [limitsHold, hcells, hD, hC]
    exact hread
  · have hle : (estFull t (sweepTaken t s)).est.length ≤ t := by
      rw [estFull_length, sweepTaken_length]
      exact not_lt.mp ht
    rw [State.estOf, show get Est.reset _ t = Est.reset from List.getD_eq_default _ _ hle]
    exact limitsHold_reset s t

/-- Settles O17: an update counts cell by cell and publishes the smallest of the cells' limits; the other clauses are
branches of the commands' effects. -/
theorem estimatorSteps : Obligations.EstimatorSteps := by
  refine ⟨?_, ?_, ?_, ?_, ?_, ?_, ?_, ?_, ?_, ?_, ?_, ?_⟩
  · intro s t hrun ht hfresh
    have hs := estimatorUpdateEff_frame t s
    exact ⟨estimatorUpdateEff t s, run_framed hs (decide_eq_true ht) hrun rfl, estimatorUpdateEff_fresh hfresh,
      hs.loop_eq, hs.trays_eq, hs.od_eq⟩
  · intro s t c y hrun ht hc hfresh hgo hslow hrest hread hy hknown hcells
    have hlt := est_lt_of_known (by rwa [← hy])
    obtain ⟨x, hx, hdQ, hpad, hlast, hpub⟩ := estFull_estOf (s := sweepTaken t s) (by rwa [sweepTaken_length])
    simp only [Est.published, Prod.mk.injEq] at hpub
    obtain ⟨hcells', -, -, hdQ', hpad', hlast'⟩ := hpub
    obtain ⟨-, hrdQ, hrpad, hrlast, -⟩ := readOf_estOf hlt
    have hs := readOf_frame t s
    have hcounted := updatedCells_counts hlt hc hrest hread hy hknown
    rw [← show x.cells = updatedCells t (readOf t s) from hx, ← show (publishEst _ t x).cells = x.cells from rfl,
      ← hcells'] at hcounted
    simp only [EstCell.counted, countCell, updateCtx, Prod.mk.injEq, hrdQ, hrpad, hrlast, hs.cfgB_eq, hs.now_eq]
      at hcounted
    refine ⟨estFull t (sweepTaken t s), _, run_framed (estimatorUpdateEff_frame ..) (decide_eq_true ht) hrun
      (estimatorUpdateEff_full hfresh hgo hslow), rfl, hcounted.1, hcounted.2, hdQ'.trans hdQ, hpad'.trans hpad, ?_⟩
    rw [hlast', ← (sweepTaken_frame t s).now_eq]
    exact hlast
  · intro s t hrun ht hfresh hgo hslow
    exact ⟨estFull t (sweepTaken t s), run_framed (estimatorUpdateEff_frame ..) (decide_eq_true ht) hrun
      (estimatorUpdateEff_full hfresh hgo hslow), estFull_limits t s⟩
  · intro s t hrun ht hin hrest hdue
    exact run_framed (noRestEff_frame ..) (decide_eq_true ht) hrun (if_pos ⟨hin, hrest, hdue⟩)
  · intro s t a b d hrun ht hstep
    refine run_framed (stepQualifiedEff_frame ..) (decide_eq_true ht) hrun ?_
    rw [stepQualifiedEff, hstep]
  · intro s t x hrun ht hstep
    have hs := impedanceFitEff_frame t s
    exact ⟨impedanceFitEff t s, run_framed hs (decide_eq_true ht) hrun rfl, impedanceFitEff_step hstep, hs.tows_eq,
      hs.fm_eq, hs.loop_eq, hs.trays_eq, hs.od_eq⟩
  · intro s hrun
    exact ⟨run_framed (impedanceTableSaveEff_frame ..) rfl hrun rfl,
      run_framed (impedanceTableSaveEff_frame ..) rfl hrun rfl, run_framed (stateSaveEff_frame ..) rfl hrun rfl,
      run_framed (stateSaveEff_frame ..) rfl hrun rfl⟩
  · intro s ses t hrun hses ht
    exact ⟨runObj_framed (stateSaveNowEff_frame ..) hses (decide_eq_true ht) hrun rfl,
      runObj_framed (stateSaveNowEff_frame ..) hses (decide_eq_true ht) hrun rfl,
      runObj_framed (impedanceSaveNowEff_frame ..) hses (decide_eq_true ht) hrun rfl,
      runObj_framed (impedanceSaveNowEff_frame ..) hses (decide_eq_true ht) hrun rfl,
      runObj_framed (resetSeeds_frame ..) hses (decide_eq_true ht) hrun rfl⟩
  · intro s ses seq t off d hrun hses ht h
    refine runObj_framed (impedanceBlockEff_frame ..) hses (decide_eq_true ht) hrun
      (impedanceBlockEff_violates seq ?_)
    tauto
  · intro s ses seq t off d hrun hses ht hd hlen hend
    exact runObj_framed (impedanceBlockEff_frame ..) hses (decide_eq_true ht) hrun
      (impedanceBlockEff_violates seq (.inr (.inr (.inr (.inr hend)))))
  · intro s ses seq t off d hrun hses ht hd hlen hoff hsize hend hroom
    have heff := impedanceBlockEff_queues seq hd hlen hoff hsize hend hroom
    have hq := queueBlock_frame ses seq t off d s
    have hs : SameBut [.txn, .est] s (impedanceBlockEff ses seq t off d s) :=
      heff ▸ .ite (.step hq (interruptWrites_frame ..)) hq
    refine ⟨impedanceBlockEff ses seq t off d s, runObj_framed hs hses (decide_eq_true ht) hrun rfl, ?_, hs.sess_eq, ?_,
      hs.loop_eq, hs.tows_eq⟩
    · rw [heff]
      split
      · rw [interruptWrites_highest, queueBlock_highest]
      · exact queueBlock_highest ..
    · rw [heff]
      split
      · rw [interruptWrites_imp, queueBlock_imp]
      · exact queueBlock_imp ..
  · intro s ses seq t off d hrun hses ht hd hlen hoff hsize hend hfull
    exact runObj_framed (impedanceBlockEff_frame ..) hses (decide_eq_true ht) hrun
      (impedanceBlockEff_limit seq hd hlen hoff hsize hend hfull)

end Sys2Proof.Machine
end

section
/-! SUPPORT. Proof: commands of the forecaster and its models (07_tide_forecaster.md: States). -/

namespace Sys2Proof.Machine

set_option Elab.async false

theorem forecasterStartEff_warms {s : State} (ses : Nat)
    (h : s.tide.st = .off ∧ s.tide.active ≠ 0xFF ∨ s.tide.st = .fault) : forecasterStartEff ses s = tideWarm s := by
  obtain ⟨hoff, hmodel⟩ | hfault := h
  · rw [forecasterStartEff, hoff]
    exact if_pos hmodel
  · rw [forecasterStartEff, hfault]

theorem forecasterStartEff_violates {s : State} (ses : Nat)
    (h : s.tide.st = .off ∧ s.tide.active = 0xFF ∨ s.tide.st = .warming ∨ s.tide.st = .run) :
    forecasterStartEff ses s = s.violate ses 0x4000 0x02 := by
  obtain ⟨hoff, hmodel⟩ | hwarm | hrun := h
  · rw [forecasterStartEff, hoff]
    exact if_neg (not_not.mpr hmodel)
  · rw [forecasterStartEff, hwarm]
  · rw [forecasterStartEff, hrun]

/-- Settles O19: each clause is one branch of the command's effect. -/
theorem tideCommands : Obligations.TideCommands := by
  refine ⟨?_, ?_, ?_, ?_, ?_, ?_, ?_, ?_, ?_, ?_, ?_, ?_⟩
  · intro s ses hrun hses h
    exact run_to (decide_eq_true hses) hrun (forecasterStartEff_warms ses h)
  · intro s ses hrun hses h
    exact run_to (decide_eq_true hses) hrun (forecasterStartEff_violates ses h)
  · intro s ses hrun hses h
    exact run_to (decide_eq_true hses) hrun (if_neg h)
  · intro s ses hrun hses h
    exact run_to (decide_eq_true hses) hrun (if_pos h)
  · intro s ses hrun hses h
    exact run_to (decide_eq_true hses) hrun (if_pos h)
  · intro s ses hrun hses h
    exact run_to (decide_eq_true hses) hrun (if_neg h)
  · intro s a hrun hat hdue
    refine run_to rfl hrun ?_
    rw [modelForceEff, hat]
    exact if_pos hdue
  · intro s ses hrun hses
    exact run_to (decide_eq_true hses) hrun rfl
  · intro s ses n hrun hses hn hok
    have hne : n ≠ 0xFF := by unfold Config.slots at hn; omega
    exact run_to (decide_eq_true hses) hrun ((if_neg hne).trans ((if_neg (not_le.mpr hn)).trans (if_pos hok)))
  · intro s ses n hrun hses hn hbad
    have hne : n ≠ 0xFF := by unfold Config.slots at hn; omega
    exact run_to (decide_eq_true hses) hrun
      ((if_neg hne).trans ((if_neg (not_le.mpr hn)).trans (if_neg (ne_true_of_eq_false hbad))))
  · intro s ses hrun hses
    exact run_to (decide_eq_true hses) hrun (if_pos rfl)
  · intro s ses n hrun hses hn hne
    exact run_to (decide_eq_true hses) hrun ((if_neg hne).trans (if_pos hn))

end Sys2Proof.Machine
end

section
/-! SUPPORT. Proof: the refresh of the rectifiers' commands, and the frames they send (09_feeds_and_rectifiers.md). -/

namespace Sys2Proof.Machine

set_option Elab.async false

/-! ### Rectifiers and groups, read after write -/

theorem State.rect_updRect_same (s : State) (r : Nat) (f : Rect → Rect) (h : r < s.feed.rects.length) :
    (s.updRect r f).rect r = f (s.rect r) := get_upd_same _ _ _ _ h

theorem State.rect_updRect_other (s : State) (r q : Nat) (f : Rect → Rect) (h : r ≠ q) :
    (s.updRect r f).rect q = s.rect q := get_upd_other _ _ _ _ _ h

theorem rect_of_le {s : State} {r : Nat} (h : s.feed.rects.length ≤ r) : s.rect r = Rect.reset :=
  List.getD_eq_default _ _ h

/-- Changes of the first n rectifiers, each by its number. -/
theorem rect_foldl_updRect (f : Nat → Rect → Rect) (n r : Nat) (s : State) :
    ((List.range n).foldl (fun a r => a.updRect r (f r)) s).rect r =
      if r < n ∧ r < s.feed.rects.length then f r (s.rect r) else s.rect r := by
  induction n with
  | zero => simp
  | succ n ih =>
    rw [List.range_succ, List.foldl_append, List.foldl_cons, List.foldl_nil]
    have hlen : ((List.range n).foldl (fun a r => a.updRect r (f r)) s).feed.rects.length = s.feed.rects.length :=
      foldl_keeps (fun a : State => a.feed.rects.length = s.feed.rects.length) _ _
        (fun a r ha => (upd_length ..).trans ha) s rfl
    by_cases hr : n = r
    · subst hr
      by_cases hin : n < s.feed.rects.length
      · rw [State.rect_updRect_same _ n _ (by rwa [hlen]), ih, if_neg (by omega), if_pos ⟨by omega, hin⟩]
      · rw [if_neg (by omega), rect_of_le (not_lt.mp hin), rect_of_le]
        rw [show ((List.foldl _ s (List.range n)).updRect n (f n)).feed.rects.length = s.feed.rects.length
          from (upd_length ..).trans hlen]
        exact not_lt.mp hin
    · rw [State.rect_updRect_other _ n r _ hr, ih]
      exact if_congr (by omega) rfl rfl

/-- The feed interface, its groups apart. -/
def Feed.ungrouped (x : Feed) : Feed := { x with groups := [] }

theorem sendCan_feed (port id : Nat) (d : Bytes) (s : State) : (s.sendCan port id d).feed = s.feed :=
  (State.sendCan_frame ..).feed_eq

theorem sendCommand_ungrouped (g : Nat) (b : Bool) (s : State) :
    (sendCommand g b s).feed.ungrouped = s.feed.ungrouped := by
  rw [sendCommand]
  split
  · rfl
  · rw [show ((s.sendCan g (32 * 0x04) (commandData s g b)).updGroup g fun x => { x with seq := (x.seq + 1) % 256
      }).feed.ungrouped = (s.sendCan g (32 * 0x04) (commandData s g b)).feed.ungrouped from rfl, sendCan_feed]

theorem rect_of_ungrouped {s t : State} (h : t.feed.ungrouped = s.feed.ungrouped) (r : Nat) : t.rect r = s.rect r := by
  rw [State.rect, show t.feed.rects = t.feed.ungrouped.rects from rfl, h]
  rfl

/-! ### The frame of a refresh -/

theorem ofLe_slice_le (n v : Nat) (a b : Bytes) (h : v < 256 ^ n) :
    ofLe (slice (a ++ (le n v ++ b)) a.length n) = v := by
  have hle := ofLe_le_of_lt n v h
  rwa [slice, List.drop_left, List.take_append_of_le_length (by simp), List.take_of_length_le (by simp)]

/-- The current of a rectifier as its frame carries it. -/
def frameCurrent (x : Rect) : Nat := (clampI 0 65535 (roundEven (x.cmd * 100))).toNat

theorem frameCurrent_lt (x : Rect) : frameCurrent x < 256 ^ 2 := by
  unfold frameCurrent clampI
  omega

theorem flatMap_le_two_length {α : Type} (l : List α) (f : α → Nat) :
    (l.flatMap fun x => le 2 (f x)).length = 2 * l.length := by
  induction l with
  | nil => rfl
  | cons x l ih => rw [List.flatMap_cons, List.length_append, ih, le_length, List.length_cons]; omega

/-- Entry n of a run of U16 values. -/
theorem u16At_flatMap {α : Type} (l : List α) (f : α → Nat) (hf : ∀ x, f x < 256 ^ 2) (n : Nat) (hn : n < l.length)
    (a b : Bytes) : u16At (a ++ ((l.flatMap fun x => le 2 (f x)) ++ b)) (a.length + 2 * n) = f l[n] := by
  have hsplit : l.flatMap (fun x => le 2 (f x)) =
      ((l.take n).flatMap fun x => le 2 (f x)) ++ (le 2 (f l[n]) ++ ((l.drop (n + 1)).flatMap fun x => le 2 (f x))) := by
    conv_lhs => rw [← List.take_append_drop n l, List.drop_eq_getElem_cons hn, List.flatMap_append, List.flatMap_cons]
  have hlen : a.length + 2 * n = (a ++ ((l.take n).flatMap fun x => le 2 (f x))).length := by
    rw [List.length_append, flatMap_le_two_length, List.length_take, Nat.min_eq_left hn.le]
  rw [u16At, hsplit, hlen, List.append_assoc, List.append_assoc, ← List.append_assoc a]
  exact ofLe_slice_le 2 _ _ _ (hf _)

theorem ofLe_take_le (n v : Nat) (b : Bytes) : ofLe ((le n v ++ b).take n) = v % 256 ^ n := by
  rw [List.take_append_of_le_length (by simp), List.take_of_length_le (by simp), ofLe_le]

/-- What a COMMAND frame carries (Table 9.2). -/
theorem commandData_reads (s : State) (g : Nat) :
    (commandData s g false).length = 64 ∧ u8At (commandData s g false) 0 = (s.group g).seq % 256 ∧
    u8At (commandData s g false) 1 = 0 ∧
    ∀ n, n < 24 → u16At (commandData s g false) (2 + 2 * n) = frameCurrent (s.rect (24 * g + n)) := by
  have hxs : ((groupRects g).map s.rect).length = 24 := by simp [groupRects]
  obtain ⟨tail, htail, hdata⟩ : ∃ tail : Bytes, tail.length = 14 ∧ commandData s g false =
      le 1 (s.group g).seq ++ le 1 0 ++ ((((groupRects g).map s.rect).flatMap fun x => le 2 (frameCurrent x)) ++ tail) := by
    apply Exists.intro
    refine ⟨?_, ?eq⟩
    case eq =>
      dsimp only [commandData]
      rw [List.append_assoc, List.append_assoc, List.append_assoc]
      rfl
    · simp
  rw [hdata]
  refine ⟨?_, ?_, ?_, fun n hn => ?_⟩
  · simp only [List.length_append, le_length, flatMap_le_two_length, hxs, htail]
  · rw [u8At, slice, List.drop_zero, List.append_assoc, ofLe_take_le]
    rfl
  · rw [u8At, List.append_assoc]
    exact ofLe_slice_le 1 0 (le 1 (s.group g).seq) _ (by decide)
  · have h := u16At_flatMap ((groupRects g).map s.rect) frameCurrent frameCurrent_lt n (by rwa [hxs])
      (le 1 (s.group g).seq ++ le 1 0) tail
    simp only [List.length_append, le_length] at h
    rw [h]
    simp [groupRects]

/-! ### The steps of a refresh -/

/-- The ceiling of a RETURNING group goes up by its step. -/
def raiseCeilings (s : State) : State :=
  [0, 1].foldl (fun s g => if s.groupSt g = .returning then
    s.updGroup g (fun x => { x with ceiling := x.ceiling + s.cfgStep 0x3400 0x0C 1000 }) else s) s

/-- Every rectifier takes its command. -/
def giveCommands (cs : List Rat) (s : State) : State :=
  (List.range Config.rectifiers).foldl (fun a r => a.updRect r (fun x => x.command s.now (get 0 cs r))) s

/-- The refresh noted, with the sum of its commands. -/
def noteRefresh (tot : Rat) (s : State) : State :=
  { s with feed := { s.feed with
    slope := (tot - s.feed.sumC) / 1000, sumC := tot, refreshAt := some s.now, periods := 0, satPos := 0, satNeg := 0 } }

/-- What each group puts into the capacity sum, noted. -/
def noteMembers (s : State) : State :=
  [0, 1].foldl (fun s g =>
    let k := s.groupK g
    let m := if s.groupUp g then ((groupRects g).filter s.rectIn).map fun r => (r, (s.rect r).avail) else []
    s.updGroup g (fun x => { x with lastK := k, members := m })) s

/-- The state in which the commands are formed. -/
def formed (s : State) : State := pRefStep (raiseCeilings s)

/-- The state whose commands a refresh sends. -/
def drawn (s : State) : State :=
  noteMembers (noteRefresh (sumQ (commandsOf (formed s))) (giveCommands (commandsOf (formed s)) (formed s)))

theorem feedRefreshEff_due {s : State} (hms : s.now % ms = 0) (hnew : s.feed.refreshAt ≠ some s.now)
    (hdrives : s.drives = true) (hgo : s.fwStopped 20 = false) :
    feedRefreshEff s = sendCommand 1 false (sendCommand 0 false (drawn s)) := by
  rw [feedRefreshEff, if_neg (by simp [hms, hnew, hdrives, hgo])]
  rfl

/-! ### What the steps leave as it was -/

/-- What a step of a refresh reads of the feed interface: the rectifiers, the capacity's last sum and the groups'
sequence numbers. -/
def Feed.base (x : Feed) : List Rect × Rat × Nat × Nat :=
  (x.rects, x.sumC, (get Group.reset x.groups 0).seq, (get Group.reset x.groups 1).seq)

theorem updGroup_base {f : Group → Group} (hf : ∀ x, (f x).seq = x.seq) (s : State) (g : Nat) :
    (s.updGroup g f).feed.base = s.feed.base := by
  simp only [Feed.base, State.updGroup, get_upd_field Group.seq hf]

theorem raiseCeilings_base (s : State) : (raiseCeilings s).feed.base = s.feed.base := by
  refine foldl_keeps (fun a : State => a.feed.base = s.feed.base) _ _ (fun a g ha => ?_) s rfl
  split
  · exact (updGroup_base (by intro x; rfl) a g).trans ha
  · exact ha

theorem raiseCeilings_still {s : State} (h0 : s.groupSt 0 ≠ .returning) (h1 : s.groupSt 1 ≠ .returning) :
    raiseCeilings s = s := by
  simp [raiseCeilings, h0, h1]

theorem noteMembers_base (s : State) : (noteMembers s).feed.base = s.feed.base :=
  foldl_keeps (fun a : State => a.feed.base = s.feed.base) _ _
    (fun a g ha => (updGroup_base (by intro x; rfl) a g).trans ha) s rfl

theorem noteMembers_ungrouped (s : State) : (noteMembers s).feed.ungrouped = s.feed.ungrouped := rfl

theorem noteMembers_rects (s : State) : (noteMembers s).feed.rects = s.feed.rects := rfl

theorem noteRefresh_rects (tot : Rat) (s : State) : (noteRefresh tot s).feed.rects = s.feed.rects := rfl

/-- A shift of the draw reference changes only the reference. -/
theorem pRefStep_base (s : State) : (pRefStep s).feed.base = s.feed.base ∧
    (pRefStep s).feed.groups = s.feed.groups := by
  dsimp only [pRefStep]
  split
  · split <;> exact ⟨rfl, rfl⟩
  · split <;> exact ⟨rfl, rfl⟩
  · split <;> exact ⟨rfl, rfl⟩
  · exact ⟨rfl, rfl⟩

/-- The draw reference and its target. -/
def Feed.draw (x : Feed) : Rat × Rat × Rat := (x.pRef, x.pTgt, x.pSoc)

/-- In SOFT, RUN and HOLD the reference follows its target. -/
theorem pRefStep_draws {s : State} (h : s.loop.st = .soft ∨ s.loop.st = .run ∨ s.loop.st = .hold) :
    (pRefStep s).feed.draw =
      (pRefMove s (pRefAfterLoss s) (clampQ 0 s.sumK (s.loadMean (s.cfgU 0x3400 0x05 * sec) + s.formPsoc)),
        clampQ 0 s.sumK (s.loadMean (s.cfgU 0x3400 0x05 * sec) + s.formPsoc), s.formPsoc) := by
  obtain h | h | h := h
  all_goals
    simp only [pRefStep, h]
    split <;> rfl

theorem pRefStep_zero {s : State} (h : s.loop.st = .off ∨ s.loop.st = .stopping ∨ s.loop.st = .tripped) :
    (pRefStep s).feed.pRef = 0 := by
  obtain h | h | h := h <;> simp only [pRefStep, h]

/-- The ramp of the reference with nothing departed, no group in DIP and the clamp seldom active. -/
theorem pRefMove_plain {s : State} (tgt : Rat) (hpos : 10 * s.feed.satPos ≤ s.feed.periods)
    (hneg : 10 * s.feed.satNeg ≤ s.feed.periods) (hgone : departed s 0 + departed s 1 = 0)
    (h0 : s.groupSt 0 ≠ .dip) (h1 : s.groupSt 1 ≠ .dip) :
    pRefMove s (pRefAfterLoss s) tgt =
      if s.feed.pRef < tgt then min tgt (s.feed.pRef + s.cfgStep 0x3400 0x06 1000)
      else max tgt (s.feed.pRef - s.cfgStep 0x3400 0x07 1000) := by
  have hafter : pRefAfterLoss s = s.feed.pRef := by
    dsimp only [pRefAfterLoss]
    rw [hgone, if_neg fun h => absurd h.1 (lt_irrefl 0)]
  have hup : ¬(0 < s.feed.periods ∧ s.feed.periods < 10 * s.feed.satPos) := fun h => not_lt.mpr hpos h.2
  have hdown : ¬(0 < s.feed.periods ∧ s.feed.periods < 10 * s.feed.satNeg) := fun h => not_lt.mpr hneg h.2
  simp only [pRefMove, hafter, if_neg hup, if_neg hdown, if_neg (not_or.mpr ⟨h0, h1⟩)]

/-! ### The capacity, by the groups and rectifiers alone -/

theorem capacity_of {s t : State} (hr : t.feed.rects = s.feed.rects) (hg : t.feed.groups = s.feed.groups) :
    t.rect = s.rect ∧ t.rectIn = s.rectIn ∧ t.groupAvail = s.groupAvail ∧ t.groupK = s.groupK ∧ t.sumK = s.sumK := by
  have hrect : t.rect = s.rect := by funext r; rw [State.rect, hr, State.rect]
  have hgroup : t.group = s.group := by funext g; rw [State.group, hg, State.group]
  have hst : t.groupSt = s.groupSt := by funext g; rw [State.groupSt, hg, State.groupSt]
  have hin : t.rectIn = s.rectIn := by funext r; rw [State.rectIn, hrect, State.rectIn]
  have havail : t.groupAvail = s.groupAvail := by
    funext g
    rw [State.groupAvail, hgroup, hin, hrect, State.groupAvail]
  have hK : t.groupK = s.groupK := by
    funext g
    simp only [State.groupK, hst, hgroup, havail]
  exact ⟨hrect, hin, havail, hK, by rw [State.sumK, hK, State.sumK]⟩

theorem commandsOf_length (s : State) : (commandsOf s).length = Config.rectifiers := by
  dsimp only [commandsOf]
  split <;> simp

/-- A rectifier that is not there counts in no group. -/
theorem rectIn_absent {s : State} {r : Nat} (h : s.feed.rects.length ≤ r) : s.rectIn r = false := by
  rw [State.rectIn, rect_of_le h]
  rfl

theorem get_map_range {f : Nat → Rat} {n r : Nat} (h : r < n) : get 0 ((List.range n).map f) r = f r := by
  simp [get, List.getD_eq_getElem?_getD, h]

/-- The command of a rectifier that shares the draw (R268). -/
theorem commandsOf_shares {s : State} {r : Nat} (hr : r < Config.rectifiers)
    (h : s.loop.st = .soft ∨ s.loop.st = .run ∨ s.loop.st = .hold) : get 0 (commandsOf s) r =
      if s.rectIn r = true ∧ 0 < s.groupK (r / 24) ∧ 0 < s.groupAvail (r / 24) ∧ 0 < s.loop.vBus then
        s.feed.pRef * s.groupK (r / 24) / s.sumK * (s.rect r).avail / s.groupAvail (r / 24) * 1000 / s.loop.vBus
      else 0 := by
  obtain h | h | h := h
  all_goals
    simp only [commandsOf, h]
    exact get_map_range hr

theorem commandsOf_zero {s : State} (h : s.loop.st = .off ∨ s.loop.st = .stopping ∨ s.loop.st = .tripped) (r : Nat) :
    get 0 (commandsOf s) r = 0 := by
  obtain h | h | h := h
  all_goals
    simp only [commandsOf, h]
    rw [get, List.getD_eq_getElem?_getD, List.getElem?_replicate]
    split <;> rfl

theorem commandsOf_absent {s : State} {r : Nat} (hr : r < Config.rectifiers) (h : s.feed.rects.length ≤ r) :
    get 0 (commandsOf s) r = 0 := by
  have hout := rectIn_absent h
  cases hst : s.loop.st with
  | soft | run | hold =>
    rw [commandsOf_shares hr (by rw [hst]; decide), if_neg (by simp [hout])]
  | off | stopping | tripped => exact commandsOf_zero (by rw [hst]; decide) r
  | charge =>
    simp only [commandsOf, hst]
    rw [get_map_range hr, if_neg (by simp [hout])]

/-! ### The state whose commands a refresh sends -/

/-- The feed interface without its rectifiers. -/
def Feed.unrected (x : Feed) : Feed := { x with rects := [] }

theorem giveCommands_unrected (cs : List Rat) (s : State) : (giveCommands cs s).feed.unrected = s.feed.unrected := by
  rw [giveCommands]
  generalize List.range Config.rectifiers = l
  exact foldl_keeps (fun a : State => a.feed.unrected = s.feed.unrected) _ l (by intro a r ha; exact ha) s rfl

theorem formed_frame (s : State) : SameBut [.fm, .feed] s (formed s) :=
  .trans (.foldl fun _ _ => .ite (.mono (State.updGroup_frame ..)) .refl) (pRefStep_frame ..)

theorem drawn_frame (s : State) : SameBut [.fm, .feed] s (drawn s) :=
  .trans (.trans (.trans (formed_frame s) (.foldl fun _ _ => .mono (State.updRect_frame ..))) (.mono (.feed ..)))
    (.foldl fun _ _ => .mono (State.updGroup_frame ..))

theorem formed_base (s : State) : (formed s).feed.base = s.feed.base :=
  (pRefStep_base _).1.trans (raiseCeilings_base s)

/-- Each rectifier holds the command formed for it. -/
theorem drawn_cmd {s : State} {r : Nat} (hr : r < Config.rectifiers) :
    ((drawn s).rect r).cmd = get 0 (commandsOf (formed s)) r := by
  have hrect : (drawn s).rect r = (giveCommands (commandsOf (formed s)) (formed s)).rect r := by
    rw [State.rect, drawn, noteMembers_rects, noteRefresh_rects, State.rect]
  rw [hrect, giveCommands, rect_foldl_updRect]
  by_cases hin : r < (formed s).feed.rects.length
  · rw [if_pos ⟨hr, hin⟩]
    rfl
  · rw [if_neg fun h => hin h.2, rect_of_le (not_lt.mp hin), commandsOf_absent hr (not_lt.mp hin)]
    rfl

theorem drawn_sumC (s : State) :
    (drawn s).feed.sumC = sumQ ((List.range Config.rectifiers).map fun r => ((drawn s).rect r).cmd) := by
  have hsum : (drawn s).feed.sumC = sumQ (commandsOf (formed s)) := rfl
  rw [hsum]
  refine congrArg sumQ (List.ext_getElem ?_ fun r h h' => ?_)
  · rw [commandsOf_length, List.length_map, List.length_range]
  · have hr : r < Config.rectifiers := by rwa [commandsOf_length] at h
    rw [List.getElem_map, List.getElem_range, drawn_cmd hr, get, List.getD_eq_getElem _ _ h]

theorem drawn_slope (s : State) : (drawn s).feed.slope = ((drawn s).feed.sumC - s.feed.sumC) / 1000 := by
  have hsum : (giveCommands (commandsOf (formed s)) (formed s)).feed.sumC = (formed s).feed.sumC := by
    have h := giveCommands_unrected (commandsOf (formed s)) (formed s)
    have h' := congrArg Feed.sumC h
    exact h'
  have hold : (formed s).feed.sumC = s.feed.sumC := by
    have h := formed_base s
    simp only [Feed.base, Prod.mk.injEq] at h
    exact h.2.1
  have hslope : (drawn s).feed.slope =
      ((drawn s).feed.sumC - (giveCommands (commandsOf (formed s)) (formed s)).feed.sumC) / 1000 := rfl
  rw [hslope, hsum, hold]

theorem drawn_draw (s : State) : (drawn s).feed.draw = (formed s).feed.draw := by
  have h := giveCommands_unrected (commandsOf (formed s)) (formed s)
  have h' := congrArg Feed.draw h
  exact h'

/-- The groups' sequence numbers before the frames leave. -/
theorem drawn_seq (s : State) {g : Nat} (hg : g < 2) : ((drawn s).group g).seq = (s.group g).seq := by
  have hgive : (giveCommands (commandsOf (formed s)) (formed s)).feed.groups = (formed s).feed.groups := by
    have h := giveCommands_unrected (commandsOf (formed s)) (formed s)
    have h' := congrArg Feed.groups h
    exact h'
  have hnote := noteMembers_base
    (noteRefresh (sumQ (commandsOf (formed s))) (giveCommands (commandsOf (formed s)) (formed s)))
  have hform := formed_base s
  simp only [Feed.base, Prod.mk.injEq] at hnote hform
  obtain ⟨-, -, hn0, hn1⟩ := hnote
  obtain ⟨-, -, hf0, hf1⟩ := hform
  rw [← hgive] at hf0 hf1
  obtain rfl | rfl : g = 0 ∨ g = 1 := by omega
  · exact hn0.trans hf0
  · exact hn1.trans hf1

/-- The override's notice aside, a refresh raises nothing: FAULT_OUT is as it was. -/
theorem drawn_faultOut (s : State) : (drawn s).fm.faultOut = s.fm.faultOut := by
  have hgive : SameBut [.feed] (formed s) (drawn s) :=
    .trans (.trans (.foldl fun _ _ => .mono (State.updRect_frame ..)) (.mono (.feed ..)))
      (.foldl fun _ _ => .mono (State.updGroup_frame ..))
  have hceil : (raiseCeilings s).fm = s.fm := (SameBut.foldl fun _ _ => .ite (State.updGroup_frame ..) .refl).fm_eq
  rw [hgive.fm_eq, ← hceil, formed]
  generalize raiseCeilings s = v
  dsimp only [pRefStep]
  split
  · split <;> rfl
  · split <;> rfl
  · split <;> rfl
  · rfl

/-! ### The frames that leave -/

theorem sendCommand_sends {s : State} (g : Nat) (b : Bool) (hdrives : s.drives = true) (hrel : s.hw.released = false)
    (hout : s.fm.faultOut = false) : (sendCommand g b s).tx = s.tx ++ [.can g 128 (commandData s g b)] := by
  rw [sendCommand, if_neg (by simp [hout, hdrives])]
  rw [show ((s.sendCan g (32 * 0x04) (commandData s g b)).updGroup g _).tx =
    (s.sendCan g (32 * 0x04) (commandData s g b)).tx from rfl, State.sendCan, if_pos hdrives, State.send, State.silent,
    if_neg (by simp [hrel])]

theorem sendCommand_group_other {s : State} {g q : Nat} (b : Bool) (h : g ≠ q) :
    (sendCommand g b s).group q = s.group q := by
  rw [sendCommand]
  split
  · rfl
  · rw [State.group, State.updGroup]
    exact (get_upd_other _ _ _ _ _ h).trans (by rw [sendCan_feed]; rfl)

/-- Both frames of a refresh, each with its group's commands. -/
theorem refresh_frames {s : State} (hdrives : s.drives = true) (hrel : s.hw.released = false)
    (hout : s.fm.faultOut = false) {g : Nat} (hg : g < 2) :
    ∃ d, Tx.can g 128 d ∈ (sendCommand 1 false (sendCommand 0 false s)).tx ∧ d.length = 64 ∧
      u8At d 0 = (s.group g).seq % 256 ∧ u8At d 1 = 0 ∧
      ∀ n, n < 24 → u16At d (2 + 2 * n) = frameCurrent (s.rect (24 * g + n)) := by
  have h0 := sendCommand_frame 0 false s
  have hd0 : (sendCommand 0 false s).drives = true := by rw [State.drives, h0.pair_eq]; exact hdrives
  have htx := sendCommand_sends 1 false hd0 (by rw [h0.hw_eq]; exact hrel) (by rw [h0.fm_eq]; exact hout)
  rw [sendCommand_sends 0 false hdrives hrel hout] at htx
  obtain rfl | rfl : g = 0 ∨ g = 1 := by omega
  · exact ⟨_, htx ▸ by simp, commandData_reads s 0⟩
  · obtain ⟨hlen, hseq, hzero, hcur⟩ := commandData_reads (sendCommand 0 false s) 1
    refine ⟨_, htx ▸ by simp, hlen, ?_, hzero, fun n hn => ?_⟩
    · rw [hseq, sendCommand_group_other false (by decide)]
    · rw [hcur n hn, rect_of_ungrouped (sendCommand_ungrouped ..)]

/-! ### The clauses of the refresh -/

theorem feedRefreshEff_still {s : State} (h : s.feed.refreshAt = some s.now ∨ s.fwStopped 20 = true) :
    feedRefreshEff s = s := if_pos (by tauto)

/-- A refresh, by the state in which its commands are formed. -/
theorem feedRefreshEff_reads {s : State} (hms : s.now % ms = 0) (hnew : s.feed.refreshAt ≠ some s.now)
    (hdrives : s.drives = true) (hgo : s.fwStopped 20 = false) :
    (feedRefreshEff s).feed.ungrouped = (drawn s).feed.ungrouped := by
  rw [feedRefreshEff_due hms hnew hdrives hgo, sendCommand_ungrouped, sendCommand_ungrouped]

theorem drawn_noted (s : State) : (drawn s).feed.refreshAt = some s.now ∧ (drawn s).feed.periods = 0 := by
  have hgive : SameBut [.fm, .feed] s (giveCommands (commandsOf (formed s)) (formed s)) :=
    .trans (formed_frame s) (.foldl fun _ _ => .mono (State.updRect_frame ..))
  have hnow := hgive.now_eq
  exact ⟨congrArg some hnow, rfl⟩

/-- The loop draws: the reference follows its target, and the rectifiers share it. -/
theorem drawn_shares {s : State} (h : s.loop.st = .soft ∨ s.loop.st = .run ∨ s.loop.st = .hold)
    (h0 : s.groupSt 0 ≠ .returning) (h1 : s.groupSt 1 ≠ .returning) {r : Nat} (hr : r < Config.rectifiers) :
    ((drawn s).rect r).cmd =
      if s.rectIn r = true ∧ 0 < s.groupK (r / 24) ∧ 0 < s.groupAvail (r / 24) ∧ 0 < s.loop.vBus then
        (drawn s).feed.pRef * s.groupK (r / 24) / s.sumK * (s.rect r).avail / s.groupAvail (r / 24) * 1000 /
          s.loop.vBus
      else 0 := by
  have hform : formed s = pRefStep s := by rw [formed, raiseCeilings_still h0 h1]
  have hloop : (formed s).loop = s.loop := (formed_frame s).loop_eq
  have hbase := (pRefStep_base s)
  obtain ⟨hrect, hin, havail, hK, hsum⟩ := capacity_of (s := s) (t := formed s)
    (by rw [hform]; exact (Prod.mk.inj hbase.1).1) (by rw [hform]; exact hbase.2)
  have href : (drawn s).feed.pRef = (formed s).feed.pRef := (Prod.mk.inj (drawn_draw s)).1
  rw [drawn_cmd hr, commandsOf_shares hr (by rwa [hloop]), hin, havail, hK, hsum, hrect, hloop, href]

/-- The draw reference and its target while the loop draws. -/
theorem drawn_follows {s : State} (h : s.loop.st = .soft ∨ s.loop.st = .run ∨ s.loop.st = .hold)
    (h0 : s.groupSt 0 ≠ .returning) (h1 : s.groupSt 1 ≠ .returning) :
    (drawn s).feed.pRef = pRefMove s (pRefAfterLoss s) (drawn s).feed.pTgt ∧
    (drawn s).feed.pTgt = clampQ 0 s.sumK (s.loadMean (s.cfgU 0x3400 0x05 * sec) + (drawn s).feed.pSoc) ∧
    (drawn s).feed.pSoc = s.formPsoc := by
  have hdraw := (drawn_draw s).trans (by rw [formed, raiseCeilings_still h0 h1, pRefStep_draws h])
  simp only [Feed.draw, Prod.mk.injEq] at hdraw
  obtain ⟨href, htgt, hsoc⟩ := hdraw
  rw [href, htgt, hsoc]
  exact ⟨rfl, rfl, rfl⟩

/-! ### What rectifiers send -/

theorem rectAlertEff_lost {g n : Nat} {d : Bytes} (s : State) (hlen : d.length = 8)
    (h : u8At d 0 = 1 ∨ u8At d 0 = 2) :
    rectAlertEff g n d s = groupEval g (s.updRect (rectOf g n) (fun x => { x with ok := false })) := by
  rw [rectAlertEff, if_neg (not_not.mpr hlen)]
  obtain h | h := h <;> simp only [h]

theorem rectAlertEff_fault {g n : Nat} {d : Bytes} (s : State) (hlen : d.length = 8) (h : u8At d 0 = 3) :
    rectAlertEff g n d s = s.raise 0x0807 (rectOf g n) := by
  rw [rectAlertEff, if_neg (not_not.mpr hlen)]
  simp only [h]

theorem rectAlertEff_back {g n : Nat} {d : Bytes} (s : State) (hlen : d.length = 8) (h : u8At d 0 = 4) :
    rectAlertEff g n d s = groupEval g (s.updRect (rectOf g n) (fun x => { x with ok := true })) := by
  rw [rectAlertEff, if_neg (not_not.mpr hlen)]
  simp only [h]

theorem rectAlertEff_ignores {g n : Nat} {d : Bytes} (s : State)
    (h : d.length ≠ 8 ∨ u8At d 0 = 0 ∨ 4 < u8At d 0) : rectAlertEff g n d s = s := by
  dsimp only [rectAlertEff]
  by_cases hlen : d.length = 8
  · have hnum : u8At d 0 = 0 ∨ 4 < u8At d 0 := h.resolve_left (not_not.mpr hlen)
    rw [if_neg (not_not.mpr hlen)]
    split
    next h1 => omega
    next h2 => omega
    next h3 => omega
    next h4 => omega
    next => rfl
  · exact if_pos hlen

/-! ### Raises stay on their way while a group is judged -/

theorem feedsAbsentCheck_raising (s : State) : Raising s (feedsAbsentCheck s) :=
  .ite (.trans (SameBut.raising (.feed ..)) (raise_raising ..)) (SameBut.raising (.feed ..))

theorem groupGo_raising (g : Nat) (st : GroupSt) (s : State) : Raising s (groupGo g st s) := by
  refine .trans ?_ (feedsAbsentCheck_raising _)
  have hgo (f : Group → Group) : Raising s (s.updGroup g f) := (State.updGroup_frame ..).raising
  split
  · exact ((hgo _).trans (raise_raising ..)).trans (zeroGroup_frame ..).raising
  · exact (hgo _).trans (raise_raising ..)
  · exact (hgo _).trans (raise_raising ..)
  · exact hgo _

theorem groupEval_raising (g : Nat) (s : State) : Raising s (groupEval g s) := by
  refine .ite .refl ?_
  split
  · exact .ite (.trans (groupGo_raising ..) (slackUrgent_raising _)) .refl
  · exact .ite (.trans (groupGo_raising ..) (slackUrgent_raising _)) .refl
  · exact .ite (groupGo_raising ..) .refl
  · exact .ite (State.updGroup_frame ..).raising (.ite (State.updGroup_frame ..).raising .refl)
  · exact .refl

theorem portGood_raising (g : Nat) (s : State) : Raising s (portGood g s) :=
  .ite .refl (.ite (State.updGroup_frame ..).raising (.ite (.trans (State.updGroup_frame ..).raising
    (groupGo_raising ..)) (State.updGroup_frame ..).raising))

theorem rectStatusEff_fault {g n : Nat} {d : Bytes} (s : State) (hlen : d.length = 16)
    (hset : bit (u8At d 11) 4 = true) (hnew : bit (s.rect (rectOf g n)).flags 4 = false) :
    (rectStatusEff g n d s).raised 0x0807 (rectOf g n) := by
  dsimp only [rectStatusEff]
  rw [if_neg (not_not.mpr hlen), hset, hnew]
  exact ((portGood_raising ..).trans (groupEval_raising ..)).raised (raised_raise ..)

theorem okPN_of {g n : Nat} (hg : g < 2) (hn : 1 ≤ n) (hn' : n ≤ 24) : okPN g n = true := by
  simp [okPN, hg, hn, hn']

/-- Settles O20: a refresh forms its commands in `formed` and sends them from `drawn`; the other clauses are branches of
the commands' effects. -/
theorem feedFrames : Obligations.FeedFrames := by
  refine ⟨?_, ?_, ?_, ?_, ?_, ?_, ?_, ?_, ?_, ?_, ?_, ?_, ?_, ?_, ?_⟩
  · intro s hrun hms hnew hdrives hgo
    have hs := feedRefreshEff_frame s
    have hfeed := feedRefreshEff_reads hms hnew hdrives hgo
    have hrect := rect_of_ungrouped hfeed
    simp only [Feed.ungrouped, Feed.mk.injEq] at hfeed
    obtain ⟨-, -, href, htgt, hsoc, -, -, hslope, hsum, hat, hper, -⟩ := hfeed
    obtain ⟨hat', hper'⟩ := drawn_noted s
    refine ⟨feedRefreshEff s, run_framed hs rfl hrun rfl, hat.trans hat', hper.trans hper', hs.loop_eq, hs.trays_eq,
      hs.od_eq, ?_, ?_, fun h => ⟨?_, fun r hr => ?_⟩, fun h h0 h1 => ⟨?_, ?_, fun hpos hneg hgone hd0 hd1 => ?_,
      fun r hr => ?_⟩, fun hrel hout g hg => ?_⟩
    · rw [hsum, drawn_sumC]
      simp only [hrect]
    · rw [hslope, hsum, drawn_slope]
    · rw [href, (Prod.mk.inj (drawn_draw s)).1]
      exact pRefStep_zero (by rwa [show (raiseCeilings s).loop = s.loop from
        (SameBut.foldl fun _ _ => .ite (State.updGroup_frame ..) .refl).loop_eq])
    · rw [hrect, drawn_cmd hr]
      exact commandsOf_zero (by rwa [(formed_frame s).loop_eq]) r
    · rw [hsoc, (drawn_follows h h0 h1).2.2]
    · rw [htgt, (drawn_follows h h0 h1).2.1, hsoc]
    · rw [href, (drawn_follows h h0 h1).1, htgt, pRefMove_plain _ hpos hneg hgone hd0 hd1]
    · rw [hrect, drawn_shares h h0 h1 hr, href]
    · have hd := drawn_frame s
      obtain ⟨d, htx, hlen, hseq, hzero, hcur⟩ := refresh_frames (s := drawn s) (g := g)
        (by rw [State.drives, hd.pair_eq]; exact hdrives) (by rwa [hd.hw_eq])
        (by rw [show (drawn s).fm.faultOut = s.fm.faultOut from drawn_faultOut s]; exact hout) hg
      refine ⟨d, by rwa [feedRefreshEff_due hms hnew hdrives hgo], hlen, by rw [hseq, drawn_seq s hg], hzero, fun n hn => ?_⟩
      rw [hcur n hn, hrect]
      rfl
  · intro s hrun hvoid
    exact run_framed (feedRefreshEff_frame ..) rfl hrun (feedRefreshEff_still (.inr hvoid))
  · intro s hrun hat
    exact run_framed (feedRefreshEff_frame ..) rfl hrun (feedRefreshEff_still (.inl hat))
  · intro s g n d hrun hg hn hn' hlen h
    exact run_framed (rectAlertEff_frame ..) (okPN_of hg hn hn') hrun (rectAlertEff_fault s hlen h)
  · intro s g n d hrun hg hn hn' hlen h
    exact run_framed (rectAlertEff_frame ..) (okPN_of hg hn hn') hrun (rectAlertEff_lost s hlen h)
  · intro s g n d hrun hg hn hn' hlen h
    exact run_framed (rectAlertEff_frame ..) (okPN_of hg hn hn') hrun (rectAlertEff_back s hlen h)
  · intro s g n d hrun hg hn hn' h
    exact run_framed (rectAlertEff_frame ..) (okPN_of hg hn hn') hrun (rectAlertEff_ignores s h)
  · intro s g n d hrun hg hn hn' hlen
    have hs := rectStatusEff_frame g n d s
    exact ⟨rectStatusEff g n d s, run_framed hs (okPN_of hg hn hn') hrun rfl, rectStatusEff_fault s hlen, hs.loop_eq,
      hs.od_eq, hs.phases_eq⟩
  · intro s g n d hrun hg hn hn' hlen
    exact run_framed (rectStatusEff_frame ..) (okPN_of hg hn hn') hrun (if_pos hlen)
  · intro s g n d hrun hg hn hn' hlen hreg hok hmode
    refine run_framed (rectConfigEff_frame ..) (okPN_of hg hn hn') hrun ?_
    exact (if_neg (by simp [hlen, hreg, hok])).trans (if_pos hmode)
  · intro s g n d hrun hg hn hn' h
    exact run_framed (rectConfigEff_frame ..) (okPN_of hg hn hn') hrun (if_pos h)
  · intro s g n d hrun hg hn hn' hlen hreg hok hmode
    have hs := rectConfigEff_frame g n d s
    refine ⟨rectConfigEff g n d s, run_framed hs (okPN_of hg hn hn') hrun rfl, ?_, hs.loop_eq, hs.od_eq⟩
    rw [rectConfigEff, if_neg (by simp [hlen, hreg, hok]), if_neg hmode]
    exact raised_raise ..
  · intro s r hrun hr hseen hloud hdue
    have hs := rectSilentEff_frame r s
    refine ⟨rectSilentEff r s, run_framed hs (decide_eq_true hr) hrun rfl, ?_, hs.loop_eq, hs.od_eq⟩
    rw [rectSilentEff, if_pos ⟨hseen, hloud, hdue⟩]
    exact raised_raise ..
  · intro s g hrun hg hup
    exact run_framed (canErrorEff_frame ..) (decide_eq_true hg) hrun (if_neg (ne_true_of_eq_false hup))
  · intro s g hrun hg hdown
    exact run_framed (canErrorEff_frame ..) (decide_eq_true hg) hrun (if_pos hdown)

end Sys2Proof.Machine
end

section
/-! SUPPORT. Proof: a return delay that runs out on a failed port (09_feeds_and_rectifiers.md: Groups, ports and
frames). -/

namespace Sys2Proof.Machine

set_option Elab.async false

/-- Group 0 is ABSENT, its input back for an hour, its CAN port failed. -/
def portFailed : State :=
  { started with
    now := 3600 * sec
    feed := { Feed.reset with groups := [{ Group.reset with st := .absent, back := some 0, portDown := true }] } }

/-- The group stays ABSENT: nothing is known of its rectifiers while the port has failed (Table 9.6). -/
theorem portFailed_absent : (returnDelayEff 0 portFailed).groupSt 0 = .absent := by decide +kernel

/-- Refutes O21: at `portFailed` the return delay has passed, but the port of the group has failed, and the group does
not return. -/
theorem not_feedGroups : ¬ Obligations.FeedGroups := by
  intro ⟨_, hreturn, _⟩
  obtain ⟨u, hexec, hst, -⟩ := hreturn portFailed 0 0 rfl (by decide) (by decide +kernel)
    (by decide +kernel) (by decide +kernel)
  have heff : exec (.returnDelayExpiry 0) portFailed = .next (returnDelayEff 0 portFailed) :=
    run_framed (returnDelayEff_frame ..) (decide_eq_true (by decide : 0 < 2)) rfl rfl
  rw [Host.Outcome.next.inj (hexec.symm.trans heff), portFailed_absent] at hst
  exact absurd hst (by decide)

end Sys2Proof.Machine
end

section
/-! SUPPORT. Proof: the epoch cut, reports, silent chips and flights (08_rack_governor.md). -/

namespace Sys2Proof.Machine

set_option Elab.async false

/-! ### Where the chips lie and what they draw -/

/-- Where a partition lies, and its correction factor. -/
def Partition.place (p : Partition) : Nat × Nat × Nat × Rat := (p.cls, p.first, p.last, p.kappa)

/-- The same chips, tables and partitions, whatever the points. -/
structure SamePlaces (a b : State) : Prop where
  chips : b.gov.chips = a.gov.chips
  points : b.gov.points = a.gov.points
  place : ∀ k, (b.part k).place = (a.part k).place

namespace SamePlaces
variable {a b c : State}

theorem refl : SamePlaces a a := ⟨rfl, rfl, fun _ => rfl⟩

theorem trans (h : SamePlaces a b) (h' : SamePlaces b c) : SamePlaces a c :=
  ⟨h'.chips.trans h.chips, h'.points.trans h.points, fun k => (h'.place k).trans (h.place k)⟩

theorem foldl {β : Type} {f : State → β → State} (hf : ∀ s x, SamePlaces s (f s x)) (l : List β) (s : State) :
    SamePlaces s (l.foldl f s) := foldl_keeps (SamePlaces s) f l (fun t x h => h.trans (hf t x)) s .refl

theorem partOf_eq (h : SamePlaces a b) (c : Nat) : b.partOf c = a.partOf c := by
  have hp (k : Nat) : (b.part k).cls = (a.part k).cls ∧ (b.part k).first = (a.part k).first ∧
      (b.part k).last = (a.part k).last := by
    have hk := h.place k
    simp only [Partition.place, Prod.mk.injEq] at hk
    exact ⟨hk.1, hk.2.1, hk.2.2.1⟩
  simp only [State.partOf, (hp _).1, (hp _).2.1, (hp _).2.2]

theorem kappa_eq (h : SamePlaces a b) (k : Nat) : (b.part k).kappa = (a.part k).kappa := by
  have hk := h.place k
  simp only [Partition.place, Prod.mk.injEq] at hk
  exact hk.2.2.2

theorem kappaOf_eq (h : SamePlaces a b) (c : Nat) : b.kappaOf c = a.kappaOf c := by
  rw [State.kappaOf, h.partOf_eq, h.kappa_eq, State.kappaOf]

theorem pointP_eq (h : SamePlaces a b) (c i : Nat) : b.pointP c i = a.pointP c i := by
  rw [State.pointP, State.opPoint, h.points, State.pointP, State.opPoint]

theorem chipsIn_eq (h : SamePlaces a b) (k : Nat) (p : Chip → Bool) : b.chipsIn k p = a.chipsIn k p := by
  simp only [State.chipsIn, h.chips, h.partOf_eq]

theorem floorDemand_eq (h : SamePlaces a b) (k : Nat) : b.floorDemand k = a.floorDemand k := by
  simp only [State.floorDemand, h.chipsIn_eq, h.kappaOf_eq, h.pointP_eq]

end SamePlaces

theorem State.part_updPart_field {α : Type} (g : Partition → α) {f : Partition → Partition}
    (hf : ∀ p, g (f p) = g p) (s : State) (k j : Nat) : g ((s.updPart k f).part j) = g (s.part j) :=
  get_upd_field g hf s.gov.parts k j

/-- A change of every partition leaves what it keeps of each as it was. -/
theorem get_map_field {α β : Type} {d : α} {f : α → α} (g : α → β) (hf : ∀ x, g (f x) = g x) (l : List α) (j : Nat) :
    g (get d (l.map f) j) = g (get d l j) := by
  rw [get, get, List.getD_eq_getElem?_getD, List.getD_eq_getElem?_getD, List.getElem?_map]
  cases l[j]? with
  | none => rfl
  | some x => exact hf x

theorem get_mapIdx_field {α β : Type} {d : α} {f : Nat → α → α} (g : α → β) (hf : ∀ i x, g (f i x) = g x)
    (l : List α) (j : Nat) : g (get d (l.mapIdx f) j) = g (get d l j) := by
  rw [get, get, List.getD_eq_getElem?_getD, List.getD_eq_getElem?_getD, List.getElem?_mapIdx]
  cases l[j]? with
  | none => rfl
  | some x => exact hf j x

theorem updPart_samePlaces {f : Partition → Partition} (hf : ∀ p, (f p).place = p.place) (k : Nat) (s : State) :
    SamePlaces s (s.updPart k f) := ⟨rfl, rfl, fun j => State.part_updPart_field Partition.place hf s k j⟩

theorem startPoints_samePlaces (s : State) : SamePlaces s (startPoints s) :=
  ⟨rfl, rfl, fun j => get_map_field Partition.place (by intro p; rfl) s.gov.parts j⟩

theorem closePoints_samePlaces (k : Nat) (s : State) : SamePlaces s (closePoints k s) := by
  dsimp only [closePoints]
  split
  · exact ⟨rfl, rfl, fun j => State.part_updPart_field Partition.place (by intro p; rfl) s k j⟩
  · exact ⟨rfl, rfl, fun j => State.part_updPart_field Partition.place (by intro p; rfl) s k j⟩

/-! ### The same rack -/

/-- The same partitions, chips, tables and budget, at the same instant and under the same settings. -/
structure SameRack (a b : State) : Prop where
  parts : b.gov.parts = a.gov.parts
  chips : b.gov.chips = a.gov.chips
  points : b.gov.points = a.gov.points
  bGov : b.gov.bGov = a.gov.bGov
  now : b.now = a.now
  od : b.od = a.od

namespace SameRack
variable {a b : State}

theorem part_eq (h : SameRack a b) (k : Nat) : b.part k = a.part k := by rw [State.part, h.parts, State.part]

theorem samePlaces (h : SameRack a b) : SamePlaces a b := ⟨h.chips, h.points, fun k => by rw [h.part_eq]⟩

theorem demand_eq (h : SameRack a b) (k i : Nat) : b.demand k i = a.demand k i := by
  simp only [State.demand, h.part_eq, h.samePlaces.chipsIn_eq, h.samePlaces.pointP_eq]

theorem formCool_eq (h : SameRack a b) (k : Nat) : formCool b k = formCool a k := by
  have hU (i j : Nat) : b.cfgU i j = a.cfgU i j := by rw [State.cfgU, h.od, State.cfgU]
  have hB (i j : Nat) : b.cfgB i j = a.cfgB i j := by rw [State.cfgB, State.cfgF, hU, State.cfgB, State.cfgF]
  simp only [formCool, hU, hB, h.part_eq, h.now, h.samePlaces.floorDemand_eq]

theorem updPart (h : SameRack a b) (k : Nat) (f : Partition → Partition) :
    SameRack (a.updPart k f) (b.updPart k f) :=
  ⟨congrArg (fun l => upd l k f) h.parts, h.chips, h.points, h.bGov, h.now, h.od⟩

theorem startPoints (h : SameRack a b) : SameRack (startPoints a) (startPoints b) :=
  ⟨by dsimp only [Machine.startPoints]; rw [h.parts], h.chips, h.points, h.bGov,
    h.now, h.od⟩

end SameRack

/-! ### The passes that raise points -/

/-- The highest point of a partition in the passes of its class. -/
def topPoint (cls : Nat) (p : Partition) : Nat := if cls = 1 then p.fixed else 31

/-- A partition's turn in a pass (R246). -/
def raiseOne (cls : Nat) (cool : List Rat) (acc : State × Rat × Bool) (k : Nat) : State × Rat × Bool :=
  let p := acc.1.part k
  let next := acc.1.demand k (p.point + 1)
  let step := next - acc.1.demand k p.point
  if p.cls = cls ∧ p.point < topPoint cls p ∧ acc.2.1 + step ≤ acc.1.gov.bGov ∧ next ≤ get 0 cool k then
    (acc.1.updPart k (fun p => { p with point := p.point + 1 }), acc.2.1 + step, true)
  else acc

theorem raisePass_eq (cls : Nat) (cool : List Rat) (s : State) (used : Rat) : raisePass cls cool s used =
    (List.range Config.partitions).foldl (raiseOne cls cool) (s, used, false) := rfl

/-- What a pass keeps where each turn keeps it. -/
theorem raisePass_keeps (P : State × Rat × Bool → Prop) {cls : Nat} {cool : List Rat}
    (hone : ∀ acc k, P acc → P (raiseOne cls cool acc k)) {s : State} {used : Rat} (h : P (s, used, false)) :
    P (raisePass cls cool s used) := by
  rw [raisePass_eq]
  generalize List.range Config.partitions = l
  generalize (s, used, false) = acc at h
  induction l generalizing acc with
  | nil => exact h
  | cons k l ih => exact ih _ (hone acc k h)

/-- In the same rack every turn goes the same way. -/
theorem raiseOne_same {cls : Nat} {cool : List Rat} {a b : State × Rat × Bool} (h : SameRack a.1 b.1) (hu : b.2 = a.2)
    (k : Nat) : SameRack (raiseOne cls cool a k).1 (raiseOne cls cool b k).1 ∧
      (raiseOne cls cool b k).2 = (raiseOne cls cool a k).2 := by
  dsimp only [raiseOne]
  rw [h.part_eq, h.demand_eq, h.demand_eq, h.bGov, hu]
  split
  · exact ⟨h.updPart k _, rfl⟩
  · exact ⟨h, hu⟩

theorem raisePass_same {cls : Nat} {cool : List Rat} {a b : State} (h : SameRack a b) (used : Rat) :
    SameRack (raisePass cls cool a used).1 (raisePass cls cool b used).1 ∧
      (raisePass cls cool b used).2 = (raisePass cls cool a used).2 := by
  rw [raisePass_eq, raisePass_eq]
  generalize List.range Config.partitions = l
  have hstart : SameRack (a, used, false).1 (b, used, false).1 ∧ (b, used, false).2 = (a, used, false).2 := ⟨h, rfl⟩
  generalize (a, used, false) = x at hstart
  generalize (b, used, false) = y at hstart
  induction l generalizing x y with
  | nil => exact hstart
  | cons k l ih => exact ih _ _ (raiseOne_same hstart.1 hstart.2 k)

theorem raiseAll_same {cls : Nat} {cool : List Rat} (n : Nat) {a b : State} (h : SameRack a b) (used : Rat) :
    SameRack (raiseAll cls cool n a used).1 (raiseAll cls cool n b used).1 ∧
      (raiseAll cls cool n b used).2 = (raiseAll cls cool n a used).2 := by
  induction n generalizing a b used with
  | zero => exact ⟨h, rfl⟩
  | succ n ih =>
    obtain ⟨hpass, hused⟩ := raisePass_same (cls := cls) (cool := cool) h used
    rw [raiseAll, raiseAll]
    generalize raisePass cls cool a used = x at hpass hused
    generalize raisePass cls cool b used = y at hpass hused
    rw [hused]
    split
    · exact ih hpass _
    · exact ⟨hpass, rfl⟩

/-- A pass stays within the budget and leaves every chip in its place. -/
theorem raisePass_within {cls : Nat} {cool : List Rat} {s : State} {used : Rat} (h : used ≤ s.gov.bGov) :
    (raisePass cls cool s used).2.1 ≤ (raisePass cls cool s used).1.gov.bGov ∧
      (raisePass cls cool s used).1.gov.bGov = s.gov.bGov ∧ SamePlaces s (raisePass cls cool s used).1 := by
  refine raisePass_keeps (fun acc => acc.2.1 ≤ acc.1.gov.bGov ∧ acc.1.gov.bGov = s.gov.bGov ∧ SamePlaces s acc.1)
    (fun acc k hacc => ?_) ⟨h, rfl, .refl⟩
  obtain ⟨hle, hb, hplace⟩ := hacc
  dsimp only [raiseOne]
  split
  next hrise => exact ⟨hrise.2.2.1, hb, hplace.trans (updPart_samePlaces (by intro p; rfl) k _)⟩
  next => exact ⟨hle, hb, hplace⟩

theorem raiseAll_within {cls : Nat} {cool : List Rat} (n : Nat) {s : State} {used : Rat} (h : used ≤ s.gov.bGov) :
    (raiseAll cls cool n s used).2 ≤ (raiseAll cls cool n s used).1.gov.bGov ∧
      (raiseAll cls cool n s used).1.gov.bGov = s.gov.bGov ∧ SamePlaces s (raiseAll cls cool n s used).1 := by
  induction n generalizing s used with
  | zero => exact ⟨h, rfl, .refl⟩
  | succ n ih =>
    obtain ⟨hle, hb, hplace⟩ := raisePass_within (cls := cls) (cool := cool) h
    rw [raiseAll]
    generalize raisePass cls cool s used = x at hle hb hplace
    split
    · obtain ⟨hle', hb', hplace'⟩ := ih hle
      exact ⟨hle', hb'.trans hb, hplace.trans hplace'⟩
    · exact ⟨hle, hb, hplace⟩

/-! ### Grants -/

/-- A floor grant of an epoch, by the places at m. -/
def IsFloor (m : State) (e : Nat) (g : Grant) : Prop :=
  bit g.flags 1 = true ∧ g.point = 0 ∧ g.epoch = e % 65536 ∧
    g.cap = (m.kappaOf g.chip * m.pointP g.chip 0 * 1000000).floor.toNat

/-- A grant of BLIND. -/
def IsBlind (e : Nat) (g : Grant) : Prop := bit g.flags 1 = false ∧ g.epoch = e % 65536

/-- A grant at a point of its partition (R254). -/
def IsComputed (m : State) (e : Nat) (g : Grant) : Prop :=
  bit g.flags 1 = false ∧ g.epoch = e % 65536 ∧ ∃ r : Rat, 1 ≤ r ∧ r ≤ 11 / 10 ∧
    g.cap = (r * (m.part g.part).kappa * m.pointP g.chip g.point * 1000000).floor.toNat

theorem bit_two_add_four (b : Bool) : bit (2 + 4 * b2n b) 1 = true := by cases b <;> rfl

theorem bit_one_add_four (a b : Bool) : bit (b2n a + 4 * b2n b) 1 = false := by cases a <;> cases b <;> rfl

theorem bit_eight_add_four (b : Bool) : bit (8 + 4 * b2n b) 1 = false := by cases b <;> rfl

theorem floorGrant_isFloor {m s : State} (h : SamePlaces m s) (c e : Nat) (moved : Bool) :
    IsFloor m e (floorGrant s c e moved) :=
  ⟨bit_two_add_four moved, rfl, rfl, by rw [← h.kappaOf_eq, ← h.pointP_eq]; rfl⟩

theorem blindGrants_isBlind (s : State) (e : Nat) (moved : List Nat) : ∀ g ∈ blindGrants s e moved, IsBlind e g := by
  intro g hg
  obtain ⟨c, -, rfl⟩ := List.mem_map.mp hg
  exact ⟨bit_eight_add_four _, rfl⟩

/-- The factor of a grant lies from 1 to 1.10 (R254). -/
theorem grantFactor_bounds (x y : Rat) : 1 ≤ max 1 (min (min x y) (11 / 10)) ∧
    max 1 (min (min x y) (11 / 10)) ≤ 11 / 10 :=
  ⟨le_max_left _ _, max_le (by norm_num) (min_le_right _ _)⟩

theorem partGrants_isComputed {m s : State} (h : SamePlaces m s) (k e : Nat) (cool total : Rat) (x : Shift)
    (moved : List Nat) : ∀ g ∈ partGrants s k e cool total x moved, IsComputed m e g := by
  intro g hg
  obtain ⟨c, -, rfl⟩ := List.mem_map.mp hg
  obtain ⟨hlow, hhigh⟩ := grantFactor_bounds (if 0 < total then s.gov.bGov / total else 1)
    (if 0 < x.dk then cool / x.dk else 11 / 10)
  refine ⟨bit_one_add_four _ _, rfl, _, hlow, hhigh, ?_⟩
  rw [← h.kappa_eq, ← h.pointP_eq]

/-- A published grant is one of the cut's, but for the flag that asks for a lost table. -/
theorem publishGrants_mem {l : List Grant} {s : State} {g : Grant} (h : g ∈ (publishGrants l s).gov.grants) :
    ∃ g' ∈ l, g = g' ∨ g = { g' with flags := g'.flags ||| 8 } := by
  obtain ⟨g', hg', rfl⟩ := List.mem_map.mp h
  refine ⟨g', List.mem_mergeSort.mp hg', ?_⟩
  split
  · exact .inr rfl
  · exact .inl rfl

theorem bit_or_eight (v : Nat) : bit (v ||| 8) 1 = bit v 1 := by
  rw [bit_or, show bit 8 1 = false from rfl, Bool.or_false]

theorem IsFloor.published {m : State} {e : Nat} {g g' : Grant} (h : IsFloor m e g')
    (hg : g = g' ∨ g = { g' with flags := g'.flags ||| 8 }) : IsFloor m e g := by
  obtain rfl | rfl := hg
  · exact h
  · exact ⟨(bit_or_eight _).trans h.1, h.2⟩

theorem IsBlind.published {e : Nat} {g g' : Grant} (h : IsBlind e g')
    (hg : g = g' ∨ g = { g' with flags := g'.flags ||| 8 }) : IsBlind e g := by
  obtain rfl | rfl := hg
  · exact h
  · exact ⟨(bit_or_eight _).trans h.1, h.2⟩

theorem IsComputed.published {m : State} {e : Nat} {g g' : Grant} (h : IsComputed m e g')
    (hg : g = g' ∨ g = { g' with flags := g'.flags ||| 8 }) : IsComputed m e g := by
  obtain rfl | rfl := hg
  · exact h
  · exact ⟨(bit_or_eight _).trans h.1, h.2⟩

/-! ### The grants of a cut -/

/-- The governor but for its partitions, grants and lost tables. -/
def Gov.rack (x : Gov) : Gov := { x with parts := [], grants := [], lostTables := [] }

theorem rack_reads {x y : Gov} (h : x.rack = y.rack) : x.st = y.st ∧ x.bGov = y.bGov ∧ x.pCap = y.pCap ∧
    x.trim = y.trim ∧ x.pPk = y.pPk ∧ x.pUng = y.pUng ∧ x.up703 = y.up703 ∧ x.epoch = y.epoch ∧ x.cutAt = y.cutAt := by
  simp only [Gov.rack, Gov.mk.injEq] at h
  tauto

theorem closePoints_rack (k : Nat) (s : State) : (closePoints k s).gov.rack = s.gov.rack := by
  dsimp only [closePoints]
  split <;> rfl

theorem closeAll_rack (l : List Nat) (s : State) : (l.foldl (fun s k => closePoints k s) s).gov.rack = s.gov.rack :=
  foldl_keeps (fun a : State => a.gov.rack = s.gov.rack) _ l (fun _ k h => (closePoints_rack k _).trans h) s rfl

theorem closeAll_samePlaces (l : List Nat) (s : State) : SamePlaces s (l.foldl (fun s k => closePoints k s) s) :=
  .foldl (fun s k => closePoints_samePlaces k s) l s

theorem closeAll_point (l : List Nat) (s : State) (j : Nat) :
    ((l.foldl (fun s k => closePoints k s) s).part j).point = (s.part j).point := by
  refine foldl_keeps (fun a : State => (a.part j).point = (s.part j).point) _ l (fun a k h => ?_) s rfl
  refine Eq.trans ?_ h
  dsimp only [closePoints]
  split
  · exact State.part_updPart_field Partition.point (by intro p; rfl) a k j
  · exact State.part_updPart_field Partition.point (by intro p; rfl) a k j

/-- The partitions at the end of a cut at whose start their points are those of s. -/
def pointsClosed (s : State) : State := (List.range Config.partitions).foldl (fun s k => closePoints k s) s

theorem pointsClosed_rack (s : State) : (pointsClosed s).gov.rack = s.gov.rack := closeAll_rack _ s

theorem pointsClosed_samePlaces (s : State) : SamePlaces s (pointsClosed s) := closeAll_samePlaces _ s

theorem pointsClosed_point (s : State) (j : Nat) : ((pointsClosed s).part j).point = (s.part j).point :=
  closeAll_point _ s j

/-- The grants of a cut without points, before they are put in order. -/
def floorList (e : Nat) (moved : List Nat) (s : State) : List Grant :=
  ((s.gov.chips.filter fun x => x.2.counted).map (·.1)).map (fun c => floorGrant s c e (moved.contains c)) ++
    if s.gov.st = .blind then blindGrants s e moved else []

theorem floorGrants_eq (e : Nat) (moved : List Nat) (s : State) : floorGrants e moved s =
    publishGrants (floorList e moved (pointsClosed (startPoints s))) (pointsClosed (startPoints s)) := by
  dsimp only [floorGrants, floorList, pointsClosed]

theorem publishGrants_part (l : List Grant) (s : State) (k : Nat) : (publishGrants l s).part k = s.part k := rfl

theorem publishGrants_rack (l : List Grant) (s : State) : (publishGrants l s).gov.rack = s.gov.rack := rfl

theorem floorGrants_rack (e : Nat) (moved : List Nat) (s : State) : (floorGrants e moved s).gov.rack = s.gov.rack := by
  rw [floorGrants_eq, publishGrants_rack, pointsClosed_rack]
  rfl

theorem floorList_mem {e : Nat} {moved : List Nat} {s : State} {g : Grant} (h : g ∈ floorList e moved s) :
    IsFloor s e g ∨ s.gov.st = .blind ∧ IsBlind e g := by
  obtain h | h := List.mem_append.mp h
  · obtain ⟨c, -, rfl⟩ := List.mem_map.mp h
    exact .inl (floorGrant_isFloor .refl ..)
  · split at h
    next hblind => exact .inr ⟨hblind, blindGrants_isBlind _ _ _ g h⟩
    next => exact absurd h List.not_mem_nil

theorem IsFloor.moved {a b : State} (h : SamePlaces a b) {e : Nat} {g : Grant} (hg : IsFloor b e g) : IsFloor a e g := by
  obtain ⟨hbit, hpoint, he, hcap⟩ := hg
  exact ⟨hbit, hpoint, he, by rw [hcap, h.kappaOf_eq, h.pointP_eq]⟩

theorem IsComputed.moved {a b : State} (h : SamePlaces a b) {e : Nat} {g : Grant} (hg : IsComputed b e g) :
    IsComputed a e g := by
  obtain ⟨hbit, he, r, hlow, hhigh, hcap⟩ := hg
  exact ⟨hbit, he, r, hlow, hhigh, by rw [hcap, h.kappa_eq, h.pointP_eq]⟩

theorem startPoints_rack (s : State) : (startPoints s).gov.rack = s.gov.rack := rfl

/-- A cut with floor grants gives nothing else, the caps of BLIND apart. -/
theorem floorGrants_mem {e : Nat} {moved : List Nat} {s : State} {g : Grant}
    (h : g ∈ (floorGrants e moved s).gov.grants) : IsFloor s e g ∨ s.gov.st = .blind ∧ IsBlind e g := by
  have hplace : SamePlaces s (pointsClosed (startPoints s)) :=
    (startPoints_samePlaces s).trans (pointsClosed_samePlaces _)
  have hst : (pointsClosed (startPoints s)).gov.st = s.gov.st :=
    (rack_reads ((pointsClosed_rack _).trans (startPoints_rack s))).1
  rw [floorGrants_eq] at h
  obtain ⟨g', hg', heq⟩ := publishGrants_mem h
  obtain hfloor | ⟨hblind, hg'⟩ := floorList_mem hg'
  · exact .inl ((hfloor.moved hplace).published heq)
  · exact .inr ⟨hst ▸ hblind, hg'.published heq⟩

/-- The points of a cut, raised first in the fixed and then in the bounded partitions (R246). -/
def raisedPoints (s : State) : State × Rat :=
  let cool := (List.range Config.partitions).map (formCool (startPoints s))
  let f := raiseAll 1 cool 2000 (startPoints s) (sumQ ((List.range 65).map (startPoints s).floorDemand))
  raiseAll 0 cool 2000 f.1 f.2

/-- No shift. -/
def noShift : Shift := { used := 0, dk := 0, up := [], down := [], donors := [] }

/-- The shifts of the partitions, after one another, and what is used after them (R253). -/
def shiftsOf (cool : List Rat) (used : Rat) (s : State) : Rat × List Shift :=
  (List.range Config.partitions).foldl (fun (acc : Rat × List Shift) k =>
    let x := shiftPart k (get 0 cool k) acc.1 s
    (x.used, acc.2 ++ [x])) (used, [])

/-- The grants of a cut with points, before they are put in order. -/
def computedList (e : Nat) (moved : List Nat) (cool : List Rat) (sh : Rat × List Shift) (s : State) : List Grant :=
  ((List.range Config.partitions).flatMap fun k => partGrants s k e (get 0 cool k) sh.1 (get noShift sh.2 k) moved) ++
    (s.gov.chips.filter fun x => x.2.counted && !(x.2.runs && decide (s.partOf x.1 < 64))).map fun x =>
      floorGrant s x.1 e (moved.contains x.1)

/-- The numbers of chips raised and lowered, noted by partition. -/
def noteShifts (l : List Shift) (s : State) : State :=
  (List.range Config.partitions).foldl (fun s k =>
    let x := get noShift l k
    s.updPart k (fun p => { p with raised := x.up.length, lowered := x.down.length })) s

theorem computedGrants_eq (e : Nat) (moved : List Nat) (s : State) : computedGrants e moved s =
    let cool := (List.range Config.partitions).map (formCool (startPoints s))
    let r := raisedPoints s
    let sh := shiftsOf cool r.2 (pointsClosed r.1)
    publishGrants (computedList e moved cool sh (pointsClosed r.1)) (noteShifts sh.2 (pointsClosed r.1)) := by
  dsimp only [computedGrants, computedList, pointsClosed, noteShifts, shiftsOf, raisedPoints, noShift]

theorem noteShifts_rack (l : List Shift) (s : State) : (noteShifts l s).gov.rack = s.gov.rack := by
  rw [noteShifts]
  generalize List.range Config.partitions = ks
  exact foldl_keeps (fun a : State => a.gov.rack = s.gov.rack) _ ks (by intro a k h; exact h) s rfl

theorem noteShifts_point (l : List Shift) (s : State) (j : Nat) :
    ((noteShifts l s).part j).point = (s.part j).point := by
  rw [noteShifts]
  generalize List.range Config.partitions = ks
  refine foldl_keeps (fun a : State => (a.part j).point = (s.part j).point) _ ks (fun a k h => ?_) s rfl
  exact (State.part_updPart_field Partition.point (by intro p; rfl) a k j).trans h

theorem raisePass_rack (cls : Nat) (cool : List Rat) (s : State) (used : Rat) :
    (raisePass cls cool s used).1.gov.rack = s.gov.rack := by
  refine raisePass_keeps (fun acc => acc.1.gov.rack = s.gov.rack) (fun acc k h => ?_) rfl
  dsimp only [raiseOne]
  split
  · exact h
  · exact h

theorem raiseAll_rack (cls : Nat) (cool : List Rat) (n : Nat) (s : State) (used : Rat) :
    (raiseAll cls cool n s used).1.gov.rack = s.gov.rack := by
  induction n generalizing s used with
  | zero => rfl
  | succ n ih =>
    rw [raiseAll]
    split
    · rw [ih, raisePass_rack]
    · rw [raisePass_rack]

theorem raisedPoints_rack (s : State) : (raisedPoints s).1.gov.rack = s.gov.rack := by
  rw [raisedPoints, raiseAll_rack, raiseAll_rack, startPoints_rack]

theorem computedList_mem {e : Nat} {moved : List Nat} {cool : List Rat} {sh : Rat × List Shift} {s : State} {g : Grant}
    (h : g ∈ computedList e moved cool sh s) : IsFloor s e g ∨ IsComputed s e g := by
  obtain h | h := List.mem_append.mp h
  · obtain ⟨k, -, hg⟩ := List.mem_flatMap.mp h
    exact .inr (partGrants_isComputed .refl _ _ _ _ _ _ g hg)
  · obtain ⟨x, -, rfl⟩ := List.mem_map.mp h
    exact .inl (floorGrant_isFloor .refl ..)

/-- The floor demand of the rack. -/
def rackFloor (s : State) : Rat := sumQ ((List.range 65).map s.floorDemand)

theorem SamePlaces.rackFloor_eq {a b : State} (h : SamePlaces a b) : rackFloor b = rackFloor a := by
  simp only [rackFloor, funext h.floorDemand_eq]

/-- The points raised stay within the budget, every chip in its place. -/
theorem raisedPoints_within {s : State} (h : rackFloor (startPoints s) ≤ s.gov.bGov) :
    (raisedPoints s).2 ≤ s.gov.bGov ∧ SamePlaces s (raisedPoints s).1 := by
  obtain ⟨hle, hb, hplace⟩ := raiseAll_within (cls := 1)
    (cool := (List.range Config.partitions).map (formCool (startPoints s))) 2000 (s := startPoints s) h
  obtain ⟨hle', hb', hplace'⟩ := raiseAll_within (cls := 0)
    (cool := (List.range Config.partitions).map (formCool (startPoints s))) 2000 hle
  exact ⟨hle'.trans_eq (hb'.trans hb), ((startPoints_samePlaces s).trans hplace).trans hplace'⟩

theorem computedGrants_mem {e : Nat} {moved : List Nat} {s : State} {g : Grant}
    (hb : rackFloor (startPoints s) ≤ s.gov.bGov) (h : g ∈ (computedGrants e moved s).gov.grants) :
    IsFloor s e g ∨ IsComputed s e g := by
  have hplace : SamePlaces s (pointsClosed (raisedPoints s).1) :=
    (raisedPoints_within hb).2.trans (pointsClosed_samePlaces _)
  rw [computedGrants_eq] at h
  obtain ⟨g', hg', heq⟩ := publishGrants_mem h
  obtain hg' | hg' := computedList_mem hg'
  · exact .inl ((hg'.moved hplace).published heq)
  · exact .inr ((hg'.moved hplace).published heq)

theorem computedGrants_rack (e : Nat) (moved : List Nat) (s : State) :
    (computedGrants e moved s).gov.rack = s.gov.rack := by
  rw [computedGrants_eq, publishGrants_rack, noteShifts_rack, pointsClosed_rack, raisedPoints_rack]

theorem computedGrants_point (e : Nat) (moved : List Nat) (s : State) (j : Nat) :
    ((computedGrants e moved s).part j).point = ((raisedPoints s).1.part j).point := by
  rw [computedGrants_eq, publishGrants_part, noteShifts_point, pointsClosed_point]

/-! ### The end of a cut -/

/-- Cut e noted at m: whether its budget falls short of the floor demand, with 0703h at its onset. -/
def noteCut (e : Nat) (m : State) : State :=
  let short := decide (m.gov.bGov < rackFloor m)
  let v := when_ (short && !m.gov.up703) (fun s => s.raise 0x0703 noInst) m
  { v with gov := { v.gov with epoch := e, cutAt := some v.now, up703 := short } }

/-- The state after the rack cap, with the cut noted. -/
def cutNoted (s : State) : State := noteCut (s.now / ms) (cutBudget s).1

/-- The grants of a cut: floor grants in OFF, in BLIND and where the budget is short. -/
def cutGrants (e : Nat) (moved : List Nat) (s : State) : State :=
  if s.gov.st = .off ∨ s.gov.st = .blind ∨ s.gov.up703 = true then floorGrants e moved s else computedGrants e moved s

theorem epochCutEff_due {s : State} (hms : s.now % ms = 0) (hnew : s.gov.cutAt ≠ some s.now)
    (hdrives : s.drives = true) (hstep : s.withheld s.now = false) (hgo : s.fwStopped 19 = false) :
    epochCutEff s = budgetEntry s.gov (armIdle (partBudgets (cutGrants (s.now / ms) (cutBudget s).2 (cutNoted s)))) := by
  rw [epochCutEff, if_neg (by simp [hms, hnew, hdrives]), if_neg (ne_true_of_eq_false hstep),
    if_neg (ne_true_of_eq_false hgo)]
  extract_lets e old b m floor short v g w u
  have hv : noteCut e m = w := by
    clear_value m e
    rfl
  have hshort : w.gov.up703 = short := by
    clear_value m e
    rfl
  have hu : u = cutGrants e b.2 w := by
    simp only [u]
    clear_value w
    rw [cutGrants, hshort]
    split
    next h => rw [if_pos (.inl h)]
    next h => rw [if_pos (.inr (.inl h))]
    next hoff hblind =>
      split
      next h => rw [if_pos (.inr (.inr h))]
      next h => rw [if_neg (by rintro (h' | h' | h'); exacts [hoff h', hblind h', h h'])]
  rw [hu, ← hv, cutNoted]

theorem noteCut_gov (e : Nat) (m : State) : (noteCut e m).gov =
    { m.gov with epoch := e, cutAt := some m.now, up703 := decide (m.gov.bGov < rackFloor m) } := by
  have h : SameBut [.fm] m (when_ (decide (m.gov.bGov < rackFloor m) && !m.gov.up703)
      (fun s => s.raise 0x0703 noInst) m) := .when_ fun _ => State.raise_frame ..
  dsimp only [noteCut]
  rw [h.gov_eq, h.now_eq]

theorem noteCut_frame (e : Nat) (m : State) : SameBut [.fm, .gov] m (noteCut e m) := by
  dsimp only [noteCut]
  generalize decide (m.gov.bGov < rackFloor m) = short
  have h : SameBut [.fm] m (when_ (short && !m.gov.up703) (fun s => s.raise 0x0703 noInst) m) :=
    .when_ fun _ => State.raise_frame ..
  generalize when_ (short && !m.gov.up703) (fun s => s.raise 0x0703 noInst) m = v at h
  exact .step h.mono (.gov ..)

theorem noteCut_same (e : Nat) (m : State) : SameRack m (noteCut e m) := by
  have h := noteCut_gov e m
  have hs := noteCut_frame e m
  refine ⟨?_, ?_, ?_, ?_, hs.now_eq, hs.od_eq⟩ <;> rw [h]

theorem cutGrants_rack (e : Nat) (moved : List Nat) (s : State) : (cutGrants e moved s).gov.rack = s.gov.rack := by
  rw [cutGrants]
  split
  · exact floorGrants_rack ..
  · exact computedGrants_rack ..

/-- What the grants of a cut are. -/
theorem cutGrants_mem {e : Nat} {moved : List Nat} {s : State} {g : Grant}
    (hshort : s.gov.up703 = decide (s.gov.bGov < rackFloor s)) (h : g ∈ (cutGrants e moved s).gov.grants) :
    IsFloor s e g ∨ s.gov.st = .blind ∧ IsBlind e g ∨
      (s.gov.st ≠ .off ∧ s.gov.st ≠ .blind ∧ s.gov.up703 = false) ∧ IsComputed s e g := by
  rw [cutGrants] at h
  split at h
  next => exact (floorGrants_mem h).imp_right .inl
  next hgo =>
    obtain ⟨hoff, hblind, hup⟩ : s.gov.st ≠ .off ∧ s.gov.st ≠ .blind ∧ s.gov.up703 = false := by simpa using hgo
    have hb : rackFloor (startPoints s) ≤ s.gov.bGov := by
      rw [hup] at hshort
      rw [(startPoints_samePlaces s).rackFloor_eq]
      exact not_lt.mp (of_decide_eq_false hshort.symm)
    exact (computedGrants_mem hb h).imp_right fun hg => .inr ⟨⟨hoff, hblind, hup⟩, hg⟩

/-! ### What follows the grants -/

/-- The governor but for its partitions. -/
def Gov.unparted (x : Gov) : Gov := { x with parts := [] }

/-- What the end of a cut keeps. -/
structure CutKept (a b : State) : Prop where
  gov : b.gov.unparted = a.gov.unparted
  point : ∀ k, (b.part k).point = (a.part k).point

namespace CutKept
variable {a b c : State}

theorem refl : CutKept a a := ⟨rfl, fun _ => rfl⟩

theorem trans (h : CutKept a b) (h' : CutKept b c) : CutKept a c :=
  ⟨h'.gov.trans h.gov, fun k => (h'.point k).trans (h.point k)⟩

theorem ite {p : Prop} [Decidable p] (h : CutKept a b) (h' : CutKept a c) : CutKept a (if p then b else c) := by
  split
  · exact h
  · exact h'

theorem foldl {β : Type} {f : State → β → State} (hf : ∀ s x, CutKept s (f s x)) {l : List β} {s : State} :
    CutKept s (l.foldl f s) := foldl_keeps (CutKept s) f l (fun t x h => h.trans (hf t x)) s .refl

end CutKept

theorem SameBut.cutKept {l : List Part} {a b : State} (h : SameBut l a b) (hl : .gov ∉ l := by decide) :
    CutKept a b := ⟨by rw [h.gov_eq hl], fun k => by rw [State.part, h.gov_eq hl, State.part]⟩

theorem partBudgets_cutKept (s : State) : CutKept s (partBudgets s) :=
  ⟨rfl, fun k => get_mapIdx_field Partition.point (by intro i p; rfl) s.gov.parts k⟩

theorem updFlight_cutKept (s : State) (k n : Nat) (f : Flight → Flight) : CutKept s (s.updFlight k n f) :=
  ⟨rfl, fun j => State.part_updPart_field Partition.point (by intro p; rfl) s k j⟩

theorem armFlight_cutKept (k n : Nat) (s : State) : CutKept s (armFlight k n s) :=
  .ite (.trans (updFlight_cutKept ..) (gateClearEff_frame ..).cutKept)
    (.trans (updFlight_cutKept ..) (gateArmEff_frame ..).cutKept)

theorem armIdle_cutKept (s : State) : CutKept s (armIdle s) :=
  .ite .refl (.foldl fun _ _ => .ite .refl (.foldl fun _ _ => .ite (armFlight_cutKept ..) .refl))

theorem cutEnd_cutKept (old : Gov) (s : State) : CutKept s (budgetEntry old (armIdle (partBudgets s))) :=
  ((partBudgets_cutKept s).trans (armIdle_cutKept _)).trans (budgetEntry_frame ..).cutKept

/-! ### The rack cap -/

/-- The terms of the rack cap that the cut reads of the rest of the shelf. -/
theorem rackTerms_eq {s p : State} (h : SameBut [.freeCount, .tx, .fm, .gov, .gates, .grid, .sess] s p) :
    p.sumK = s.sumK ∧ p.bothAbsent = s.bothAbsent ∧ formLim p = formLim s ∧ vSet p = vSet s ∧
    p.shelfEu = s.shelfEu := by
  have hfeed := h.feed_eq
  obtain ⟨-, -, -, -, hsum⟩ := capacity_of (s := s) (t := p) (by rw [hfeed]) (by rw [hfeed])
  refine ⟨hsum, ?_, ?_, ?_, ?_⟩
  · unfold State.bothAbsent State.groupUp State.groupSt
    rw [hfeed]
  · unfold formLim State.loadOf
    rw [h.cfgB_eq, h.cfgB_eq, h.cfgU_eq, h.cfgU_eq, hfeed, h.now_eq]
  · rw [vSet, State.cfgF, h.cfgU_eq]
    rfl
  · simp only [State.shelfEu, State.shelfTrays, State.tray, State.estOf, h.trays_eq, h.est_eq]

/-- The load's measures taken for the cut. -/
def measured (p : State) : State :=
  let s := { p with feed := { p.feed with pFd := p.sumK } }
  { s with gov := { s.gov with pPk := formPk s, fHi := formHi s, pUng := formUng s } }

/-- The trim formed at s, then the cap and the budget: what precedes the cut's warnings. -/
def formBudget (s : State) : State :=
  let s := { s with gov := { s.gov with trim := (formTrim s).1, up702 := (formTrim s).2 } }
  { s with gov := { s.gov with pCap := formCap s, bGov := max 0 (formCap s - s.gov.pUng) } }

theorem govBudget_eq (p : State) : ∃ a b, govBudget p = when_ a (fun s => s.raise 0x0702 noInst)
    (when_ b (fun s => s.raise 0x0701 noInst) (formBudget (measured p))) := by
  unfold govBudget
  extract_lets old f s1 g s2 t g3 s3 cap g4 s4 s5
  have hmeasured : s2 = measured p := by simp only [measured, s2, g, s1, f]
  refine ⟨t.2 && !old.up702, decide (0 < t.1) && decide (old.trim = 0), ?_⟩
  rw [← hmeasured]
  clear_value s2
  rfl

theorem govBudget_gov (p : State) : (govBudget p).feed = (formBudget (measured p)).feed ∧
    (govBudget p).gov = (formBudget (measured p)).gov := by
  obtain ⟨a, b, heq⟩ := govBudget_eq p
  have h : SameBut [.fm] (formBudget (measured p)) (govBudget p) :=
    heq ▸ .trans (.when_ fun _ => State.raise_frame ..) (.when_ fun _ => State.raise_frame ..)
  exact ⟨h.feed_eq, h.gov_eq⟩

/-- The terms of the cap. -/
theorem formBudget_cap (s : State) : (formBudget s).gov.pCap =
    let st := s.alloc.disLim * vSet s / 1000
    let base := min ((if s.bothAbsent then 0 else s.feed.pFd) + st) (formLim s)
    let base := if s.bothAbsent then min base (s.shelfEu * 3600 / ((s.cfgU 0x5000 0x11 % 65536 : Nat) : Rat)) else base
    if 0 < (formBudget s).gov.trim then min base ((formBudget s).gov.pPk - (formBudget s).gov.trim) else base := rfl

theorem formBudget_feed (s : State) : (formBudget s).feed = s.feed := rfl

theorem formBudget_bGov (s : State) :
    (formBudget s).gov.bGov = max 0 ((formBudget s).gov.pCap - (formBudget s).gov.pUng) := rfl

theorem formBudget_absent {s : State} (h : s.bothAbsent = true) : (formBudget s).gov.trim = 0 := by
  have htrim : (formBudget s).gov.trim = (formTrim s).1 := rfl
  rw [htrim, formTrim, if_neg fun hc => absurd (h.symm.trans hc.2.2) (by decide)]

/-- What a measure of the load leaves as it was for the cap. -/
theorem measured_reads (p : State) : (measured p).feed.pFd = p.sumK ∧ (measured p).bothAbsent = p.bothAbsent ∧
    (measured p).alloc = p.alloc ∧ vSet (measured p) = vSet p ∧ formLim (measured p) = formLim p ∧
    (measured p).shelfEu = p.shelfEu ∧ ∀ i j, (measured p).cfgU i j = p.cfgU i j :=
  ⟨rfl, rfl, rfl, rfl, rfl, rfl, fun _ _ => rfl⟩

/-- The rack cap and the governed budget (R238 to R241). -/
theorem govBudget_reads (p : State) :
    (govBudget p).feed.pFd = p.sumK ∧
    (govBudget p).gov.bGov = max 0 ((govBudget p).gov.pCap - (govBudget p).gov.pUng) ∧
    (p.bothAbsent = false → (govBudget p).gov.pCap =
      if 0 < (govBudget p).gov.trim then
        min (min (p.sumK + p.alloc.disLim * vSet p / 1000) (formLim p)) ((govBudget p).gov.pPk - (govBudget p).gov.trim)
      else min (p.sumK + p.alloc.disLim * vSet p / 1000) (formLim p)) ∧
    (p.bothAbsent = true → (govBudget p).gov.trim = 0 ∧ (govBudget p).gov.pCap =
      min (min (p.alloc.disLim * vSet p / 1000) (formLim p))
        (p.shelfEu * 3600 / ((p.cfgU 0x5000 0x11 % 65536 : Nat) : Rat))) := by
  obtain ⟨hfeed, hgov⟩ := govBudget_gov p
  obtain ⟨hpFd, habsent, halloc, hset, hlim, heu, hcfg⟩ := measured_reads p
  have hcap := formBudget_cap (measured p)
  rw [hpFd, habsent, halloc, hset, hlim, heu, hcfg] at hcap
  rw [hfeed, hgov]
  have hfed : (formBudget (measured p)).feed = (measured p).feed := formBudget_feed _
  refine ⟨hfed ▸ hpFd, formBudget_bGov _, fun hup => ?_, fun hdown => ?_⟩
  · rw [hcap, hup]
    simp only [Bool.false_eq_true, if_false]
  · have htrim := formBudget_absent (habsent.trans hdown)
    refine ⟨htrim, ?_⟩
    rw [hcap, htrim, hdown]
    simp

/-! ### The cut -/

/-- The state in which the cut forms the rack cap. -/
def cutStates (s : State) : State :=
  govStates ((List.range Config.partitions).foldl (fun s k => kappaStep k s) (applyCommit (energyEpoch s)).1)

theorem cutBudget_fst (s : State) : (cutBudget s).1 = govBudget (cutStates s) := by
  dsimp only [cutBudget, cutStates]

theorem cutStates_frame (s : State) :
    SameBut [.freeCount, .tx, .fm, .gov, .gates, .grid, .sess] s (cutStates s) :=
  .trans (.trans (.trans (.mono (energyEpoch_frame s)) (applyCommit_frame _))
    (.foldl fun _ _ => .mono (kappaStep_frame ..))) (.mono (govStates_frame _))

/-- The rack cap of a cut and the budget it leaves (R238 to R241). -/
theorem cutBudget_reads (s : State) : (cutBudget s).1.feed.pFd = s.sumK ∧
    (cutBudget s).1.gov.bGov = max 0 ((cutBudget s).1.gov.pCap - (cutBudget s).1.gov.pUng) ∧
    (s.bothAbsent = false → (cutBudget s).1.gov.pCap =
      if 0 < (cutBudget s).1.gov.trim then
        min (min (s.sumK + s.alloc.disLim * vSet s / 1000) (formLim s))
          ((cutBudget s).1.gov.pPk - (cutBudget s).1.gov.trim)
      else min (s.sumK + s.alloc.disLim * vSet s / 1000) (formLim s)) ∧
    (s.bothAbsent = true → (cutBudget s).1.gov.trim = 0 ∧ (cutBudget s).1.gov.pCap =
      min (min (s.alloc.disLim * vSet s / 1000) (formLim s))
        (s.shelfEu * 3600 / ((s.cfgU 0x5000 0x11 % 65536 : Nat) : Rat))) := by
  have hs := cutStates_frame s
  obtain ⟨hsum, habsent, hlim, hset, heu⟩ := rackTerms_eq hs
  have h := govBudget_reads (cutStates s)
  rw [cutBudget_fst]
  rwa [hsum, habsent, hlim, hset, heu, hs.alloc_eq, hs.cfgU_eq] at h

/-- What the cut leaves in the governor but for the partitions is what its grants left there. -/
theorem epochCutEff_kept {s : State} (hms : s.now % ms = 0) (hnew : s.gov.cutAt ≠ some s.now)
    (hdrives : s.drives = true) (hstep : s.withheld s.now = false) (hgo : s.fwStopped 19 = false) :
    CutKept (cutGrants (s.now / ms) (cutBudget s).2 (cutNoted s)) (epochCutEff s) :=
  epochCutEff_due hms hnew hdrives hstep hgo ▸ cutEnd_cutKept ..

/-- What follows the rack cap of a cut. -/
theorem epochCutEff_after {s : State} (hms : s.now % ms = 0) (hnew : s.gov.cutAt ≠ some s.now)
    (hdrives : s.drives = true) (hstep : s.withheld s.now = false) (hgo : s.fwStopped 19 = false) :
    SameBut [.tx, .fm, .gov, .gates, .tide, .grid, .sess] (cutBudget s).1 (epochCutEff s) := by
  rw [epochCutEff_due hms hnew hdrives hstep hgo, cutGrants, cutNoted]
  exact .trans (.trans (.trans (.trans (.mono (noteCut_frame ..))
    (.ite (.mono (floorGrants_frame ..)) (.mono (computedGrants_frame ..)))) (.mono (partBudgets_frame _)))
    (.mono (armIdle_frame _))) (.mono (budgetEntry_frame ..))

theorem unparted_reads {x y : Gov} (h : x.unparted = y.unparted) : x.rack = y.rack ∧ x.grants = y.grants := by
  simp only [Gov.unparted, Gov.mk.injEq] at h
  exact ⟨by simp only [Gov.rack, Gov.mk.injEq]; tauto, by tauto⟩

/-- The governor after a cut: what the rack cap left, the cut noted. -/
theorem epochCutEff_rack {s : State} (hms : s.now % ms = 0) (hnew : s.gov.cutAt ≠ some s.now)
    (hdrives : s.drives = true) (hstep : s.withheld s.now = false) (hgo : s.fwStopped 19 = false) :
    (epochCutEff s).gov.rack = (cutNoted s).gov.rack :=
  (unparted_reads (epochCutEff_kept hms hnew hdrives hstep hgo).gov).1.trans (cutGrants_rack ..)

theorem epochCutEff_grants {s : State} {g : Grant} (hms : s.now % ms = 0) (hnew : s.gov.cutAt ≠ some s.now)
    (hdrives : s.drives = true) (hstep : s.withheld s.now = false) (hgo : s.fwStopped 19 = false)
    (h : g ∈ (epochCutEff s).gov.grants) :
    IsFloor (cutBudget s).1 (s.now / ms) g ∨ (cutNoted s).gov.st = .blind ∧ IsBlind (s.now / ms) g ∨
      ((cutNoted s).gov.st ≠ .off ∧ (cutNoted s).gov.st ≠ .blind ∧ (cutNoted s).gov.up703 = false) ∧
        IsComputed (cutBudget s).1 (s.now / ms) g := by
  have hplace := (noteCut_same (s.now / ms) (cutBudget s).1).samePlaces
  have hshort : (cutNoted s).gov.up703 = decide ((cutNoted s).gov.bGov < rackFloor (cutNoted s)) := by
    rw [show rackFloor (cutNoted s) = _ from hplace.rackFloor_eq, cutNoted, noteCut_gov]
  rw [(unparted_reads (epochCutEff_kept hms hnew hdrives hstep hgo).gov).2] at h
  obtain hg | hg | ⟨hst, hg⟩ := cutGrants_mem hshort h
  · exact .inl (hg.moved hplace)
  · exact .inr (.inl hg)
  · exact .inr (.inr ⟨hst, hg.moved hplace⟩)

/-- The points of a cut that reckons them. -/
theorem epochCutEff_point {s : State} (hms : s.now % ms = 0) (hnew : s.gov.cutAt ≠ some s.now)
    (hdrives : s.drives = true) (hstep : s.withheld s.now = false) (hgo : s.fwStopped 19 = false)
    (hoff : (cutNoted s).gov.st ≠ .off) (hblind : (cutNoted s).gov.st ≠ .blind)
    (hup : (cutNoted s).gov.up703 = false) (k : Nat) :
    ((epochCutEff s).part k).point = ((raisedPoints (cutNoted s)).1.part k).point := by
  rw [(epochCutEff_kept hms hnew hdrives hstep hgo).point, cutGrants, if_neg (by simp [hoff, hblind, hup])]
  exact computedGrants_point ..

/-- In the same rack the same points are raised. -/
theorem raisedPoints_same {a b : State} (h : SameRack a b) (k : Nat) :
    (raisedPoints b).1.part k = (raisedPoints a).1.part k := by
  have hstart := h.startPoints
  dsimp only [raisedPoints]
  rw [funext hstart.formCool_eq, funext hstart.samePlaces.floorDemand_eq]
  obtain ⟨hfixed, hused⟩ := raiseAll_same (cls := 1)
    (cool := (List.range Config.partitions).map (formCool (startPoints a))) 2000 hstart
    (sumQ ((List.range 65).map (startPoints a).floorDemand))
  rw [hused]
  exact (raiseAll_same 2000 hfixed _).1.part_eq k

/-- What the obligation says of a grant, by the governor after the cut and the places at m. -/
theorem grant_laws {s : State} {g : Grant} (hms : s.now % ms = 0) (hnew : s.gov.cutAt ≠ some s.now)
    (hdrives : s.drives = true) (hstep : s.withheld s.now = false) (hgo : s.fwStopped 19 = false)
    (h : g ∈ (epochCutEff s).gov.grants) : g.epoch = s.now / ms % 65536 ∧
      (bit g.flags 1 = true → g.point = 0 ∧
        g.cap = ((cutBudget s).1.kappaOf g.chip * (cutBudget s).1.pointP g.chip 0 * 1000000).floor.toNat) ∧
      ((epochCutEff s).gov.st = .off ∨ (epochCutEff s).gov.up703 = true ∧ (epochCutEff s).gov.st ≠ .blind →
        bit g.flags 1 = true) ∧
      ((epochCutEff s).gov.st ≠ .off → (epochCutEff s).gov.st ≠ .blind → bit g.flags 1 = false →
        ∃ r : Rat, 1 ≤ r ∧ r ≤ 11 / 10 ∧
          g.cap = (r * ((cutBudget s).1.part g.part).kappa * (cutBudget s).1.pointP g.chip g.point * 1000000).floor.toNat) := by
  obtain ⟨hst, -, -, -, -, -, hup, -, -⟩ := rack_reads (epochCutEff_rack hms hnew hdrives hstep hgo)
  rw [hst, hup]
  obtain ⟨hflag, hpoint, hepoch, hcap⟩ | ⟨hblind, hflag, hepoch⟩ | ⟨⟨hoff, -, hup⟩, hflag, hepoch, hr⟩ :=
    epochCutEff_grants hms hnew hdrives hstep hgo h
  · exact ⟨hepoch, fun _ => ⟨hpoint, hcap⟩, fun _ => hflag, fun _ _ hno => absurd (hflag.symm.trans hno) (by decide)⟩
  · refine ⟨hepoch, fun hyes => absurd (hflag.symm.trans hyes) (by decide), ?_, fun _ hno => absurd hblind hno⟩
    rw [hblind]
    rintro (hoff | ⟨-, hno⟩)
    · cases hoff
    · exact absurd rfl hno
  · refine ⟨hepoch, fun hyes => absurd (hflag.symm.trans hyes) (by decide), ?_, fun _ _ _ => hr⟩
    rintro (hno | ⟨hno, -⟩)
    · exact absurd hno hoff
    · exact absurd (hup.symm.trans hno) (by decide)

/-- The points of a cut that reckons them are those of the passes, within the budget. -/
theorem points_laws {s : State} (hms : s.now % ms = 0) (hnew : s.gov.cutAt ≠ some s.now)
    (hdrives : s.drives = true) (hstep : s.withheld s.now = false) (hgo : s.fwStopped 19 = false)
    (hoff : (epochCutEff s).gov.st ≠ .off) (hblind : (epochCutEff s).gov.st ≠ .blind)
    (hup : (epochCutEff s).gov.up703 = false) :
    (raisedPoints (cutBudget s).1).2 ≤ (cutBudget s).1.gov.bGov ∧
    ∀ k, ((epochCutEff s).part k).point = ((raisedPoints (cutBudget s).1).1.part k).point := by
  obtain ⟨hst, -, -, -, -, -, hup', -, -⟩ := rack_reads (epochCutEff_rack hms hnew hdrives hstep hgo)
  rw [hst] at hoff hblind
  rw [hup'] at hup
  have hshort : decide ((cutBudget s).1.gov.bGov < rackFloor (cutBudget s).1) = false := by
    rw [← hup, cutNoted, noteCut_gov]
  refine ⟨(raisedPoints_within ?_).1, fun k => ?_⟩
  · rw [(startPoints_samePlaces _).rackFloor_eq]
    exact not_lt.mp (of_decide_eq_false hshort)
  · rw [epochCutEff_point hms hnew hdrives hstep hgo hoff hblind hup, cutNoted,
      raisedPoints_same (noteCut_same ..)]

theorem raisedPoints_passes (m : State) : ∃ cool f b,
    cool = (List.range Config.partitions).map (formCool (startPoints m)) ∧
    f = raiseAll 1 cool 2000 (startPoints m) (sumQ ((List.range 65).map m.floorDemand)) ∧
    b = raiseAll 0 cool 2000 f.1 f.2 ∧ raisedPoints m = b := by
  refine ⟨_, _, _, rfl, rfl, rfl, ?_⟩
  dsimp only [raisedPoints]
  rw [funext (startPoints_samePlaces m).floorDemand_eq]

/-- The governor after a cut. -/
theorem epochCutEff_gov {s : State} (hms : s.now % ms = 0) (hnew : s.gov.cutAt ≠ some s.now)
    (hdrives : s.drives = true) (hstep : s.withheld s.now = false) (hgo : s.fwStopped 19 = false) :
    (epochCutEff s).gov.bGov = (cutBudget s).1.gov.bGov ∧ (epochCutEff s).gov.pCap = (cutBudget s).1.gov.pCap ∧
    (epochCutEff s).gov.trim = (cutBudget s).1.gov.trim ∧ (epochCutEff s).gov.pPk = (cutBudget s).1.gov.pPk ∧
    (epochCutEff s).gov.pUng = (cutBudget s).1.gov.pUng ∧
    (epochCutEff s).gov.up703 = decide ((cutBudget s).1.gov.bGov < rackFloor (cutBudget s).1) ∧
    (epochCutEff s).gov.epoch = s.now / ms ∧ (epochCutEff s).gov.cutAt = some s.now := by
  have hrack := epochCutEff_rack hms hnew hdrives hstep hgo
  have hnow := (cutBudget_frame s).now_eq
  have hgov := noteCut_gov (s.now / ms) (cutBudget s).1
  rw [cutNoted] at hrack
  generalize (cutBudget s).1 = m at *
  obtain ⟨-, hb, hcap, htrim, hpk, hung, hup, hepoch, hat⟩ := rack_reads hrack
  rw [hgov] at hb hcap htrim hpk hung hup hepoch hat
  exact ⟨hb, hcap, htrim, hpk, hung, hup, hepoch, hat.trans (congrArg some hnow)⟩

theorem find_pair {p : Nat → Bool} {a b : Nat} :
    (p a = true → [a, b].find? p = some a) ∧ (p a = false → p b = true → [a, b].find? p = some b) ∧
    (p a = false → p b = false → [a, b].find? p = none) := by
  refine ⟨fun ha => ?_, fun ha hb => ?_, fun ha hb => ?_⟩ <;> simp [*]

/-- Settles O22: the cut by its parts (energies, states, the rack cap, the grants, the rest), the other rows by the
branches of their effects. -/
theorem governorEpoch : Obligations.GovernorEpoch := by
  refine ⟨fun s hrun hms hnew hdrives hstep hgo => ?_, fun s hrun hno => ?_, fun s hrun hms hnew hdrives hstep hgo => ?_,
    fun s f hrun hheld => ?_, fun s f hrun hheld => ?_, fun s f hrun hheld hq hp => ?_,
    fun s f hrun hheld hq hp hok => ?_, fun s f hrun hheld hq hp hok => ?_, fun s f a l hrun hheld hq hok => ?_,
    fun s f a l hrun hheld hq hok => ?_, fun s f a g l hrun hq hne => ?_, fun s c hrun hc hst hlate => ?_,
    fun s k n m hrun hk hn hm => ?_⟩
  · have hs := epochCutEff_frame s
    obtain ⟨hpFd, hb, hup, hdown⟩ := cutBudget_reads s
    obtain ⟨hbGov, hcap, htrim, hpk, hung, hshort, hepoch, hat⟩ := epochCutEff_gov hms hnew hdrives hstep hgo
    have hpoints := points_laws hms hnew hdrives hstep hgo
    have hgrants := fun g => grant_laws (g := g) hms hnew hdrives hstep hgo
    have hfeed := (epochCutEff_after hms hnew hdrives hstep hgo).feed_eq
    refine ⟨_, _, run_framed hs rfl hrun rfl, hepoch, hat, hs.loop_eq, hs.phases_eq, hs.rcd_eq,
      rfl, by rw [hfeed, hpFd], by rw [hbGov, hcap, hung, hb], fun h => ?_, fun h => ?_, ?_, hgrants,
      fun h1 h2 h3 => ?_⟩
    · rw [hcap, htrim, hpk, hup h]
    · rw [hcap, htrim]
      exact hdown h
    · rw [hshort, hbGov, rackFloor]
    · obtain ⟨hle, hk⟩ := hpoints h1 h2 h3
      obtain ⟨cool, f, b, hcool, hf, hb, heq⟩ := raisedPoints_passes (cutBudget s).1
      exact ⟨cool, f, b, hcool, hf, hb, by rw [hbGov, ← heq]; exact hle, fun k _ => by rw [← heq]; exact hk k⟩
  · refine run_to rfl hrun ?_
    rw [epochCutEff]
    obtain hno | hno := hno
    · rw [if_pos (.inr (.inl hno))]
    · rw [if_pos hno, ite_self]
  · refine run_framed (epochCutEff_frame s) rfl hrun ?_
    rw [epochCutEff, if_neg (by simp [hms, hnew, hdrives]), if_neg (ne_true_of_eq_false hstep), if_pos hgo]
  · exact run_to rfl hrun (if_pos hheld)
  · have hs := reportEff_frame f s
    exact ⟨_, run_framed hs rfl hrun rfl, hs.loop_eq, hs.phases_eq, hs.rcd_eq, hs.hw_eq⟩
  · refine run_framed (reportEff_frame f s) rfl hrun ?_
    rw [reportEff, if_neg (ne_true_of_eq_false hheld), hq]
    exact if_pos hp
  · refine run_framed (reportEff_frame f s) rfl hrun ?_
    rw [reportEff, if_neg (ne_true_of_eq_false hheld), hq]
    simp only [hp, hok, Bool.false_eq_true, if_false]
  · refine run_framed (reportEff_frame f s) rfl hrun ?_
    rw [reportEff, if_neg (ne_true_of_eq_false hheld), hq]
    simp only [hp, hok, Bool.false_eq_true, if_false, if_true]
  · refine run_framed (reportEff_frame f s) rfl hrun ?_
    have hstray : reportOk f { s with port := { s.port with reports := l } } = false := hok
    rw [reportEff, if_neg (ne_true_of_eq_false hheld), hq]
    simp only [ne_eq, not_true_eq_false, if_false, hstray, Bool.false_eq_true]
  · refine run_framed (reportEff_frame f s) rfl hrun ?_
    have hgood : reportOk f { s with port := { s.port with reports := l } } = true := hok
    rw [reportEff, if_neg (ne_true_of_eq_false hheld), hq]
    simp only [ne_eq, not_true_eq_false, if_false, hgood, if_true]
  · refine run_to rfl hrun ?_
    rw [reportEff, hq]
    simp only [hne, ne_eq, not_false_eq_true, if_true, ite_self]
  · exact run_framed (chipSilentEff_frame c s) (decide_eq_true hc) hrun (if_pos ⟨hst, hlate⟩)
  · subst hn hm
    have hfull := find_pair (p := s.flightFull k) (a := (s.part k).flight) (b := ((s.part k).flight + 1) % 65536)
    have hlate := find_pair (p := s.flightLate k) (a := (s.part k).flight) (b := ((s.part k).flight + 1) % 65536)
    refine ⟨fun h => ?_, fun h h' => ?_, fun h h' => ?_, fun h => ?_, fun h h' => ?_, fun h h' => ?_⟩
    · refine run_framed (flightCloseEff_frame k s) (decide_eq_true hk) hrun ?_
      rw [flightCloseEff, State.flightsOf, hfull.1 h]
    · refine run_framed (flightCloseEff_frame k s) (decide_eq_true hk) hrun ?_
      rw [flightCloseEff, State.flightsOf, hfull.2.1 h h']
    · refine run_framed (flightCloseEff_frame k s) (decide_eq_true hk) hrun ?_
      rw [flightCloseEff, State.flightsOf, hfull.2.2 h h']
    · refine run_framed (flightTimeoutEff_frame k s) (decide_eq_true hk) hrun ?_
      rw [flightTimeoutEff, State.flightsOf, hlate.1 h]
    · refine run_framed (flightTimeoutEff_frame k s) (decide_eq_true hk) hrun ?_
      rw [flightTimeoutEff, State.flightsOf, hlate.2.1 h h']
    · refine run_framed (flightTimeoutEff_frame k s) (decide_eq_true hk) hrun ?_
      rw [flightTimeoutEff, State.flightsOf, hlate.2.2 h h']

end Sys2Proof.Machine
end

section
/-! SUPPORT. Proof: the commands, flight sources and tables of the governor (08_rack_governor.md: Objects). -/

namespace Sys2Proof.Machine

set_option Elab.async false

theorem txnElement_highest (id i : Nat) (s : State) : (txnElement id i s).txn.highest = s.txn.highest := by
  rw [txnElement]
  split
  · split
    · dsimp only
      split
      · exact copyTxn_highest ..
      · rfl
    · rfl
  · rfl

theorem finishTxn_highest (id : Nat) (s : State) : (finishTxn id s).txn.highest = s.txn.highest := by
  rw [finishTxn]
  split
  · exact closeTxn_highest ..
  · rfl

/-- A good block of the operating-point table opens one transaction. -/
theorem opTableEff_highest {ses seq off : Nat} {d : Bytes} {s : State}
    (hgood : ¬(d = [] ∨ d.length % 8 ≠ 0 ∨ off % 8 ≠ 0 ∨ 8192 < off + d.length ∨
      131072 < s.win ses 0x5800 0x03 + off / 8 + d.length / 8)) (hroom : s.openTxns < 32) :
    (opTableEff ses seq off d s).txn.highest = s.txn.highest + 1 := by
  rw [opTableEff, if_neg hgood, if_neg (not_le.mpr hroom)]
  extract_lets u id ok refused v w g x chips
  have hu : u.txn.highest = s.txn.highest + 1 := openTxn_highest ..
  have hv : v.txn.highest = u.txn.highest :=
    foldl_keeps (fun t => t.txn.highest = u.txn.highest) _ _ (fun t i h => by
      split
      · rw [txnElement_highest, (opEntry_frame ..).txn_eq, h]
      · exact h) _ rfl
  have hw : w.txn.highest = v.txn.highest := by
    rw [(.when_ fun _ => State.violate_frame .. : SameBut [.sess] v w).txn_eq]
  have hjudged : SameBut [.fm, .gov] x (chips.foldl (fun s c => judgeTable c s) x) :=
    .foldl fun _ _ => judgeTable_frame ..
  rw [finishTxn_highest, hjudged.txn_eq, show x.txn = w.txn from rfl, hw, hv, hu]

/-- Settles O23: each row by the branches of its effect; a block opens one transaction and no more. -/
theorem governorCommands : Obligations.GovernorCommands := by
  refine ⟨fun s ses hrun hses hst => ⟨?_, ?_⟩, fun s ses hrun hses hst => ⟨?_, ?_⟩, fun s ses hrun hses hok => ?_,
    fun s ses hrun hses hover => ?_, fun s ses hrun hses => ?_, fun s ses k a b hrun hses hk ha hb => ?_,
    fun s ses k a b hrun hses hk ha hbad => ?_, fun s ses seq off d hrun hses hbad => ?_,
    fun s ses seq off d hrun hses hd hlen hoff hend hlast hroom => ?_,
    fun s ses seq off d hrun hses hd hlen hoff hend hlast hfull => ?_⟩
  · exact run_framed (governorStartEff_frame ses s) (decide_eq_true hses) hrun (if_pos hst)
  · exact run_framed (governorStopEff_frame ses s) (decide_eq_true hses) hrun (if_pos hst)
  · exact run_framed (governorStartEff_frame ses s) (decide_eq_true hses) hrun (if_neg hst)
  · exact run_framed (governorStopEff_frame ses s) (decide_eq_true hses) hrun (if_neg hst)
  · exact run_framed (commitBordersEff_frame ses s) (decide_eq_true hses) hrun (if_neg (ne_true_of_eq_false hok))
  · exact run_framed (commitBordersEff_frame ses s) (decide_eq_true hses) hrun (if_pos hover)
  · exact run_to (decide_eq_true hses) hrun rfl
  · refine runObj_framed (flightSourcesEff_frame ses k _ s) hses (decide_eq_true hk) hrun ?_
    have hlow : (a + 65536 * b) % 65536 = a := by omega
    have hhigh : (a + 65536 * b) / 65536 = b := by omega
    dsimp only [flightSourcesEff]
    rw [hlow, hhigh, if_pos]
    refine ⟨by omega, ?_, ?_⟩ <;> simpa
  · refine runObj_framed (flightSourcesEff_frame ses k _ s) hses (decide_eq_true hk) hrun ?_
    have hlow : (a + 65536 * b) % 65536 = a := by omega
    have hhigh : (a + 65536 * b) / 65536 = b := by omega
    dsimp only [flightSourcesEff]
    rw [hlow, hhigh, if_neg]
    rintro ⟨-, hoka, hokb⟩
    simp only [Bool.or_eq_true, beq_iff_eq, Bool.and_eq_true, decide_eq_true_eq] at hoka hokb
    omega
  · exact run_framed (opTableEff_frame ses seq off d s) (decide_eq_true hses) hrun (if_pos hbad)
  · have hs := opTableEff_frame ses seq off d s
    have hgood : ¬(d = [] ∨ d.length % 8 ≠ 0 ∨ off % 8 ≠ 0 ∨ 8192 < off + d.length ∨
        131072 < s.win ses 0x5800 0x03 + off / 8 + d.length / 8) := by
      simp only [hd, false_or]
      omega
    exact ⟨_, run_framed hs (decide_eq_true hses) hrun rfl, opTableEff_highest hgood hroom, hs.loop_eq, hs.phases_eq⟩
  · have hgood : ¬(d = [] ∨ d.length % 8 ≠ 0 ∨ off % 8 ≠ 0 ∨ 8192 < off + d.length ∨
        131072 < s.win ses 0x5800 0x03 + off / 8 + d.length / 8) := by
      simp only [hd, false_or]
      omega
    refine run_framed (opTableEff_frame ses seq off d s) (decide_eq_true hses) hrun ?_
    rw [opTableEff, if_neg hgood, if_pos hfull]

end Sys2Proof.Machine
end

section
/-! SUPPORT. Proof: ticks and firings; what barges and gates leave of the grid (10_control_grid.md). -/

namespace Sys2Proof.Machine

set_option Elab.async false

/-! ### What barges leave of the grid -/

/-- The grid but for its barges, their counters, the void periods and LPDDR4X. -/
def Grid.still (x : Grid) : Grid :=
  { x with unacked := [], pairs := [], sent := 0, retries := 0, retryTimes := [], up908 := false, voids := 0,
           overruns := 0, discarded := 0, fwVoid := [], ddr := [] }

/-- Nothing of the grid differs but what barges change. -/
structure Steady (a b : State) : Prop where
  still : b.grid.still = a.grid.still

namespace Steady
variable {a b c : State}

theorem refl : Steady a a := ⟨rfl⟩

theorem trans (h : Steady a b) (h' : Steady b c) : Steady a c := ⟨h'.still.trans h.still⟩

theorem of {l : List Part} (h : SameBut l a b) (hl : .grid ∉ l := by decide) : Steady a b :=
  ⟨congrArg Grid.still (h.grid_eq hl)⟩

theorem ite {p : Prop} [Decidable p] (h : Steady a b) (h' : Steady a c) : Steady a (if p then b else c) := by
  split
  · exact h
  · exact h'

theorem foldl {β : Type} {f : State → β → State} (hf : ∀ s x, Steady s (f s x)) {l : List β} {s : State} :
    Steady s (l.foldl f s) := foldl_keeps (Steady s) f l (fun t x h => h.trans (hf t x)) s .refl

theorem when_ {p : Bool} {f : State → State} (hf : ∀ s, Steady s (f s)) {s : State} :
    Steady s (Machine.when_ p f s) := .ite (hf s) .refl

theorem grid {g : Grid} (h : g.still = a.grid.still := by rfl) : Steady a { a with grid := g } := ⟨h⟩

theorem gates (x : Gates) : Steady a { a with gates := x } := ⟨rfl⟩

theorem send {x : Tx} (h : Steady a b) : Steady a (b.send x) := h.trans (.of (State.send_frame ..))

theorem raise {code inst : Nat} (h : Steady a b) : Steady a (b.raise code inst) := h.trans (.of (State.raise_frame ..))

theorem counted (h : Steady a b) : Steady a (countSent b) := h.trans ⟨rfl⟩

theorem reads (h : Steady a b) : b.grid.sram = a.grid.sram ∧ b.grid.tickAt = a.grid.tickAt ∧
    b.grid.corrected = a.grid.corrected ∧ b.grid.uncorrected = a.grid.uncorrected ∧ b.grid.lastBad = a.grid.lastBad ∧
    b.grid.failed = a.grid.failed := by
  have h := h.still
  simp only [Grid.still, Grid.mk.injEq] at h
  tauto

theorem sram_eq (h : Steady a b) : b.grid.sram = a.grid.sram := h.reads.1

end Steady

theorem voidFirmware_steady (n k : Nat) (s : State) : Steady s (voidFirmware n k s) := .ite .grid .refl

theorem setPair_steady (s : State) (p : PairSeq) : Steady s (s.setPair p) := ⟨rfl⟩

theorem sendBarge_steady (src dst kind slot channel tag : Nat) (payload : Bytes) (s : State) :
    Steady s (sendBarge src dst kind slot channel tag payload s) :=
  .ite (.counted (.send ⟨rfl⟩)) ⟨rfl⟩

theorem sendRaw_steady (src dst slot channel tag : Nat) :
    ∀ (n : Nat) (b : Bytes) (s : State), Steady s (sendRaw src dst slot channel tag n b s)
  | 0, _, _ => .refl
  | n + 1, _, _ => .ite (sendBarge_steady ..) (.trans (sendBarge_steady ..) (sendRaw_steady _ _ _ _ _ n _ _))

theorem sendBlock_steady (src dst kind slot channel tag : Nat) (data : Bytes) (s : State) :
    Steady s (sendBlock src dst kind slot channel tag data s) := .ite (sendRaw_steady ..) (sendBarge_steady ..)

theorem ackBarge_steady (kind : Nat) (x : Barge) (s : State) : Steady s (ackBarge kind x s) := .counted (.send .refl)

theorem releaseStall_steady (src : Nat) (s : State) : Steady s (releaseStall src s) := by
  dsimp only [releaseStall]
  split
  · exact .ite (.counted (.send .grid)) .refl
  · exact .refl

theorem countRetry_steady (s : State) : Steady s (countRetry s) := .trans .grid (.when_ fun _ => .raise .refl)

theorem resend_steady (u : Unacked) (s : State) : Steady s (resend u s) :=
  .trans (.send .grid) (countRetry_steady _)

theorem sequence_steady (b : Bytes) (x : Barge) (s : State) : Steady s (sequence b x s).2 := by
  dsimp only [sequence]
  split
  · exact .refl
  · exact setPair_steady ..

/-! ### Gates -/

theorem refuseOp_steady (who : Party) (s : State) : Steady s (refuseOp who s) := .of (refuseOp_frame ..)

theorem setGate_steady (s : State) (g : Nat) (x : Gate) : Steady s (s.setGate g x) := ⟨rfl⟩

theorem releaseWait_steady (w : GateWait) (status : ℤ) (s : State) : Steady s (releaseWait w status s) :=
  .ite (.send ⟨rfl⟩) (.trans (.gates _) (sendBarge_steady ..))

theorem settleGate_steady (g : Nat) (s : State) : Steady s (settleGate g s) :=
  .foldl fun _ _ => .ite (.trans (.ite (setGate_steady ..) .refl) (releaseWait_steady ..)) .refl

theorem gateSignalEff_steady (who : Party) (g n : Nat) (s : State) : Steady s (gateSignalEff who g n s) := by
  dsimp only [gateSignalEff]
  refine .ite (refuseOp_steady ..) ?_
  split
  · exact refuseOp_steady ..
  · exact .trans (.trans (.trans (setGate_steady ..) (.gates _)) (.when_ fun _ => .raise .refl))
      (settleGate_steady ..)

theorem gateWaitEff_steady (who : Party) (g v slot channel tag : Nat) (s : State) :
    Steady s (gateWaitEff who g v slot channel tag s) := by
  dsimp only [gateWaitEff]
  split
  · exact refuseOp_steady ..
  · split
    · exact refuseOp_steady ..
    · exact .ite (.trans (.gates _) (settleGate_steady ..)) (refuseOp_steady ..)

theorem gateArmEff_steady (who : Party) (g target : Nat) (s : State) : Steady s (gateArmEff who g target s) :=
  .ite (.trans (setGate_steady ..) (settleGate_steady ..)) (refuseOp_steady ..)

theorem gateAdjustEff_steady (who : Party) (g : Nat) (delta : ℤ) (s : State) :
    Steady s (gateAdjustEff who g delta s) :=
  .ite (.ite (.trans (setGate_steady ..) (settleGate_steady ..)) (.trans (.trans (.of (.freeCount ..)) (setGate_steady ..))
    (settleGate_steady ..))) (refuseOp_steady ..)

theorem gateClearEff_steady (who : Party) (g : Nat) (s : State) : Steady s (gateClearEff who g s) :=
  .ite (.trans (setGate_steady ..) (settleGate_steady ..)) (refuseOp_steady ..)

theorem gateCancelEff_steady (who : Party) (g : Nat) (s : State) : Steady s (gateCancelEff who g s) :=
  .ite (refuseOp_steady ..) (.foldl fun _ _ => releaseWait_steady ..)

theorem gateRouteEff_steady (who : Party) (g src : Nat) (s : State) : Steady s (gateRouteEff who g src s) :=
  .of (gateRouteEff_frame ..)

/-! ### Slots -/

theorem sendPeer_steady (src kind tag m ch : Nat) (data : Bytes) (s : State) :
    Steady s (sendPeer src kind tag m ch data s) := by
  dsimp only [sendPeer]
  split
  · exact .ite (sendBlock_steady ..) .refl
  · exact .refl

theorem sendPeers_steady (n src kind tag ch : Nat) (data : Bytes) (s : State) :
    Steady s (sendPeers n src kind tag ch data s) := .foldl fun _ _ => sendPeer_steady ..

theorem updSlot_steady (s : State) (n : Nat) (f : Slot → Slot) : Steady s (s.updSlot n f) := ⟨rfl⟩

theorem sendOut_steady (n src kind tag : Nat) (ch : ChanDef) (data : Bytes) (s : State) :
    Steady s (sendOut n src kind tag ch data s) := by
  dsimp only [sendOut]
  split
  · exact sendBlock_steady ..
  · exact sendBlock_steady ..
  · exact .ite (.trans (sendPeers_steady ..) (updSlot_steady ..)) (sendPeers_steady ..)
  · exact .ite (sendBlock_steady ..) .refl
  · exact .refl

theorem digestRecord_steady (digest tag n k : Nat) (isVoid sat : Bool) (s : State) :
    Steady s (digestRecord digest tag n k isVoid sat s) := .of (digestRecord_frame ..)

theorem inputRecord_steady (n chan tag : Nat) (data : Bytes) (s : State) : Steady s (inputRecord n chan tag data s) :=
  .of (inputRecord_frame ..)

theorem afterPeriod_steady (n : Nat) (s : State) : Steady s (afterPeriod n s) := .of (afterPeriod_frame ..)

theorem voidStage_steady (n k tag : Nat) (s : State) : Steady s (voidStage n k tag s) := by
  dsimp only [voidStage]
  split
  · exact .refl
  · refine .ite .refl (.trans (.trans (.ite ?_ ?_) (.foldl fun _ _ => sendOut_steady ..)) (afterPeriod_steady ..))
    · exact .trans (.trans (updSlot_steady ..) .grid) (digestRecord_steady ..)
    · exact .trans (updSlot_steady ..) .grid

theorem addInput_steady (n k tag chan : Nat) (data : Bytes) (s : State) : Steady s (addInput n k tag chan data s) := by
  dsimp only [addInput]
  split
  · exact .refl
  · exact .ite .refl (.ite (.trans (.trans .grid
      (voidStage_steady ..)) (.of (State.raise_frame ..)))
      (.ite (.trans (updSlot_steady ..) (voidStage_steady ..)) (updSlot_steady ..)))

theorem faultPeriod_steady (n tag : Nat) (s : State) : Steady s (faultPeriod n tag s) := by
  dsimp only [faultPeriod]
  refine .ite .refl (.foldl fun _ _ => ?_)
  split
  · exact .ite .refl (.trans (sendPeers_steady ..) (updSlot_steady ..))
  · exact .refl

theorem slotInput_steady (n chan tag : Nat) (data : Bytes) (s : State) : Steady s (slotInput n chan tag data s) := by
  dsimp only [slotInput]
  split
  · exact .ite (.trans (.ite (inputRecord_steady ..) .refl) (addInput_steady ..)) .refl
  · exact faultPeriod_steady ..
  · exact .refl

theorem slotVoid_steady (n chan tag : Nat) (s : State) : Steady s (slotVoid n chan tag s) := by
  dsimp only [slotVoid]
  split
  · exact .ite (voidStage_steady ..) .refl
  · exact faultPeriod_steady ..
  · exact .refl

theorem sendWords_steady (core tag : Nat) (words : List Bytes) (s : State) : Steady s (sendWords core tag words s) :=
  .foldl fun _ _ => sendBarge_steady ..

theorem answerCall_steady (n core tag : Nat) (calls : List (Nat × Nat)) (s : State) :
    Steady s (answerCall n core tag calls s) :=
  .trans (updSlot_steady ..) (.foldl fun _ _ => gateSignalEff_steady ..)

/-! ### Barges that arrive -/

theorem applyWords_steady (who : Party) : ∀ (n : Nat) (b : Bytes) (s : State), Steady s (applyWords who n b s)
  | 0, _, _ => .refl
  | n + 1, b, s => by
    dsimp only [applyWords]
    refine .ite .refl ?_
    split
    · exact .trans (.ite .refl (refuseOp_steady ..)) (applyWords_steady who n ..)
    · exact .trans (gateSignalEff_steady ..) (applyWords_steady who n ..)
    · exact .trans (gateWaitEff_steady ..) (applyWords_steady who n ..)
    · exact .trans (gateArmEff_steady ..) (applyWords_steady who n ..)
    · exact .trans (gateAdjustEff_steady ..) (applyWords_steady who n ..)
    · exact .trans (gateClearEff_steady ..) (applyWords_steady who n ..)
    · exact .trans (gateCancelEff_steady ..) (applyWords_steady who n ..)
    · exact .trans (gateRouteEff_steady ..) (applyWords_steady who n ..)
    · exact .trans (refuseOp_steady ..) (applyWords_steady who n ..)

theorem voidInput_steady (x : Barge) (s : State) : Steady s (voidInput x s) :=
  .ite (voidFirmware_steady ..) (.ite (slotVoid_steady ..) .refl)

theorem deliverBarge_steady (x : Barge) (s : State) : Steady s (deliverBarge x s) := by
  dsimp only [deliverBarge]
  split
  · exact .ite (slotInput_steady ..) .refl
  · exact .ite (applyWords_steady ..) (.ite (slotInput_steady ..) .refl)
  · exact voidInput_steady ..
  · exact .ite (.trans (.of (ddrRead_frame ..)) (sendRaw_steady ..)) .refl
  · exact .ite .grid .refl
  · exact .ite (addInput_steady ..) .refl
  · exact .refl

theorem deliverBarges_steady (l : List Bytes) (s : State) : Steady s (deliverBarges l s) := by
  unfold deliverBarges
  refine .foldl fun _ _ => ?_
  split
  · exact deliverBarge_steady ..
  · exact .refl

theorem recvBarge_steady (kinds : List Nat) (b : Bytes) (s : State) : Steady s (recvBarge kinds b s) := by
  dsimp only [recvBarge]
  split
  · exact .refl
  · exact .ite .grid (.ite (ackBarge_steady ..) (.ite .grid (.ite .refl (.trans (.trans (ackBarge_steady ..)
      (sequence_steady ..)) (deliverBarges_steady ..)))))

/-! ### Ticks -/

theorem tickStage_steady (n k tag : Nat) (s : State) : Steady s (tickStage n k tag s) :=
  .trans (.trans (.trans (.trans (setPair_steady ..) (.of (State.send_frame ..))) (.counted .refl)) (sequence_steady ..))
    (deliverBarges_steady ..)

theorem voidUnfed_steady (n tag : Nat) (p : Program) (s : State) : Steady s (voidUnfed n tag p s) :=
  .foldl fun _ _ => .ite (voidStage_steady ..) .refl

theorem voidFed_steady (n tag : Nat) (p : Program) (s : State) : Steady s (voidFed n tag p s) := by
  unfold voidFed
  refine .foldl fun _ _ => .ite .refl (.foldl fun _ _ => ?_)
  split
  · exact .ite .refl (voidStage_steady ..)
  · exact .refl

theorem tickSlot_steady (n us : Nat) (s : State) : Steady s (tickSlot n us s) := by
  dsimp only [tickSlot]
  refine .ite .refl ?_
  split
  · exact .trans (.foldl fun _ _ => .ite (tickStage_steady ..) .refl) (voidUnfed_steady ..)
  · exact .foldl fun _ _ => sendPeers_steady ..
  · exact voidFed_steady ..

/-- A tick, where it is given. -/
theorem periodTickEff_due {s : State} (hus : s.now % 1000 = 0) (hnew : s.grid.tickAt ≠ some s.now)
    (hgo : s.withheld s.now = false) :
    Steady { s with grid := { s.grid with tickAt := some s.now } } (periodTickEff s) := by
  rw [periodTickEff, if_neg (by simp [hus, hnew, hgo])]
  exact .foldl fun _ _ => tickSlot_steady ..

/-! ### Firings -/

/-- The context of a firing. -/
def firingOf (s : State) (n k tag : Nat) (r : Running) (st : StageDef) : FireCtx :=
  { base := 262144 * r.core st.core, slot := n, tag := tag, prog := (s.slot n).program, gates := r.gates
    inputs := r.inputs.filter fun i => i.stage == k && i.tag == tag }

/-- A firing leaves the core memory that its operators leave. -/
theorem stageFireEff_sram {s : State} {n k tag : Nat} {r : Running} {st : StageDef} (hbound : (s.slot n).st = .bound)
    (hrt : (s.slot n).rt = some r) (hst : (s.slot n).program.stages[k]? = some st)
    (htag : nextTag (s.slot n).program r k = some tag) (hgo : s.holdFire n k tag (s.slot n).program r st = false) :
    (stageFireEff n k s).grid.sram = (fireStage (firingOf s n k tag r st) s.grid.sram st).mem := by
  dsimp only [stageFireEff]
  rw [hbound, hrt, hst]
  dsimp only
  rw [htag]
  dsimp only
  rw [if_neg (ne_true_of_eq_false hgo), ← firingOf]
  generalize fireStage (firingOf s n k tag r st) s.grid.sram st = f
  refine Steady.sram_eq (a := { s with grid := { s.grid with sram := f.mem, corrected := s.grid.corrected + f.bad } }) ?_
  refine .trans (.ite (.trans ?_ (answerCall_steady ..)) ?_) (afterPeriod_steady ..)
  all_goals
    refine .trans (.trans (.ite (.trans (updSlot_steady ..) (digestRecord_steady ..)) (updSlot_steady ..))
      (.foldl fun _ _ => ?_)) (sendWords_steady ..)
    split
    · exact sendOut_steady ..
    · exact .refl

theorem stageFireEff_held {s : State} {n k tag : Nat} {r : Running} {st : StageDef} (hbound : (s.slot n).st = .bound)
    (hrt : (s.slot n).rt = some r) (hst : (s.slot n).program.stages[k]? = some st)
    (htag : nextTag (s.slot n).program r k = some tag) (hheld : s.holdFire n k tag (s.slot n).program r st = true) :
    stageFireEff n k s = s := by
  dsimp only [stageFireEff]
  rw [hbound, hrt, hst]
  dsimp only
  rw [htag]
  dsimp only
  rw [if_pos hheld]

/-- Settles O24: a tick's deliveries and a firing's sends leave core memory as it was, and what holds a firing back
leaves the whole state. -/
theorem gridFiring : Obligations.GridFiring := by
  refine ⟨fun s hrun hus hnew hgo => ?_, fun s hrun hno => ?_, fun s n k r st tag hrun hn hk hbound hrt hst htag hgo => ?_,
    fun s n k r st tag hrun hn hk hbound hrt hst htag hheld => ?_⟩
  · have hs := periodTickEff_frame s
    obtain ⟨hsram, hat, -⟩ := (periodTickEff_due hus hnew hgo).reads
    exact ⟨_, run_framed hs rfl hrun rfl, hat, hsram, hs.loop_eq, hs.od_eq⟩
  · refine run_to rfl hrun ?_
    rw [periodTickEff, if_pos (.inr hno)]
  · have hs := stageFireEff_frame n k s
    exact ⟨_, run_framed hs (by simp [hn, hk]) hrun rfl, hs.loop_eq, hs.trays_eq, hs.od_eq,
      stageFireEff_sram hbound hrt hst htag hgo⟩
  · refine run_to (by simp [hn, hk]) hrun (stageFireEff_held hbound hrt hst htag ?_)
    obtain hfailed | ⟨hflag, hwait⟩ := hheld
    · simp only [State.holdFire, hfailed, Bool.true_or]
    · simp only [State.holdFire, hflag, hwait, Bool.not_false, Bool.true_and, Bool.or_true, Bool.true_or]

end Sys2Proof.Machine
end

section
/-! SUPPORT. Proof: barges that arrive, and MEM_WRITE (10_control_grid.md: Barges). -/

namespace Sys2Proof.Machine

set_option Elab.async false

/-! ### What an arriving barge does -/

/-- A barge taken for what it is: acknowledged, put in its order, delivered. -/
theorem recvBarge_taken {kinds : List Nat} {b : Bytes} {x : Barge} {s : State} (hb : parseBarge b = some x)
    (hdst : x.dst < 74) (hcrc : bargeCrcOk b = true) (hkind : x.kind < 8) (hin : kinds.contains x.kind = true) :
    recvBarge kinds b s = deliverBarges (sequence b x (ackBarge 3 x s)).1 (sequence b x (ackBarge 3 x s)).2 := by
  rw [recvBarge, hb]
  dsimp only
  rw [if_neg (not_le.mpr hdst), if_neg (by simp [hcrc]), if_neg (not_le.mpr hkind),
    if_neg (ne_false_of_eq_true hin)]

theorem recvBarge_spoilt {kinds : List Nat} {b : Bytes} {x : Barge} {s : State} (hb : parseBarge b = some x)
    (hdst : x.dst < 74) (hcrc : bargeCrcOk b = false) : recvBarge kinds b s = ackBarge 4 x s := by
  rw [recvBarge, hb]
  dsimp only
  rw [if_neg (not_le.mpr hdst), if_pos hcrc]

theorem recvReply_spoilt {kind : Nat} {f : Barge → State → State} {b : Bytes} {x : Barge} {s : State}
    (hb : parseBarge b = some x) (hdst : x.dst < 74) (hcrc : bargeCrcOk b = false) :
    recvReply kind f b s = ackBarge 4 x s := by
  rw [recvReply, hb]
  dsimp only
  rw [if_neg (not_le.mpr hdst), if_pos hcrc]

theorem recvBarge_discards {kinds : List Nat} {b : Bytes} {x : Barge} {s : State} (hb : parseBarge b = some x)
    (hbad : 74 ≤ x.dst ∨ bargeCrcOk b = true ∧ 8 ≤ x.kind) : recvBarge kinds b s = discardBarge s := by
  rw [recvBarge, hb]
  dsimp only
  split
  next => rfl
  next hdst =>
    obtain ⟨hcrc, hkind⟩ := hbad.resolve_left hdst
    rw [if_neg (by simp [hcrc]), if_pos hkind]

theorem recvReply_discards {kind : Nat} {f : Barge → State → State} {b : Bytes} {x : Barge} {s : State}
    (hb : parseBarge b = some x) (hbad : 74 ≤ x.dst ∨ bargeCrcOk b = true ∧ 8 ≤ x.kind) :
    recvReply kind f b s = discardBarge s := by
  rw [recvReply, hb]
  dsimp only
  split
  next => rfl
  next hdst =>
    obtain ⟨hcrc, hkind⟩ := hbad.resolve_left hdst
    rw [if_neg (by simp [hcrc]), if_pos hkind]

theorem recvReply_taken {kind : Nat} {f : Barge → State → State} {b : Bytes} {x : Barge} {s : State}
    (hb : parseBarge b = some x) (hdst : x.dst < 74) (hcrc : bargeCrcOk b = true) (hkind : x.kind = kind)
    (hlt : kind < 8) : recvReply kind f b s = f x s := by
  rw [recvReply, hb]
  dsimp only
  rw [if_neg (not_le.mpr hdst), if_neg (by simp [hcrc]), if_neg (by omega), if_pos hkind]

/-! ### The next barge of a sequence with nothing held -/

theorem ackBarge_pairSeq (kind : Nat) (x : Barge) (s : State) (src dst : Nat) :
    (ackBarge kind x s).pairSeq src dst = s.pairSeq src dst := by
  rw [State.pairSeq, State.pairSeq, show (ackBarge kind x s).grid.pairs = (s.send _).grid.pairs from rfl,
    (State.send_frame ..).grid_eq]

theorem sequence_next {b : Bytes} {x : Barge} {s : State} (hseq : x.seq = (s.pairSeq x.src x.dst).expect)
    (hheld : (s.pairSeq x.src x.dst).held = []) : (sequence b x s).1 = [b] := by
  have hahead : (x.seq + 65536 - (s.pairSeq x.src x.dst).expect) % 65536 = 0 := by omega
  dsimp only [sequence]
  rw [hahead, hheld, ← hseq]
  simp [takeHeld]

/-- The same bytes of LPDDR4X. -/
theorem sequence_ddr (b : Bytes) (x : Barge) (s : State) : (sequence b x s).2.grid.ddr = s.grid.ddr := by
  dsimp only [sequence]
  split <;> rfl

theorem send_ddr (s : State) (x : Tx) : (s.send x).grid.ddr = s.grid.ddr := by rw [(State.send_frame s x).grid_eq]

theorem ackBarge_ddr (kind : Nat) (x : Barge) (s : State) : (ackBarge kind x s).grid.ddr = s.grid.ddr := send_ddr ..

theorem sendBarge_ddr (src dst kind slot channel tag : Nat) (payload : Bytes) (s : State) :
    (sendBarge src dst kind slot channel tag payload s).grid.ddr = s.grid.ddr := by
  dsimp only [sendBarge]
  split
  · exact send_ddr ..
  · rfl

theorem sendRaw_ddr (src dst slot channel tag : Nat) :
    ∀ (n : Nat) (b : Bytes) (s : State), (sendRaw src dst slot channel tag n b s).grid.ddr = s.grid.ddr
  | 0, _, _ => rfl
  | n + 1, _, _ => by
    dsimp only [sendRaw]
    split
    · exact sendBarge_ddr ..
    · rw [sendRaw_ddr, sendBarge_ddr]

theorem deliverBarge_read {x : Barge} {s : State} (hkind : x.kind = 5) :
    (deliverBarge x s).grid.ddr = s.grid.ddr := by
  simp only [deliverBarge, hkind]
  split
  · rw [sendRaw_ddr, (ddrRead_frame ..).grid_eq]
  · rfl

/-- One barge delivered, with nothing held behind it. -/
theorem recvBarge_alone {kinds : List Nat} {b : Bytes} {x : Barge} {s : State} (hb : parseBarge b = some x)
    (hdst : x.dst < 74) (hcrc : bargeCrcOk b = true) (hkind : x.kind < 8) (hin : kinds.contains x.kind = true)
    (hseq : x.seq = (s.pairSeq x.src x.dst).expect) (hheld : (s.pairSeq x.src x.dst).held = []) :
    recvBarge kinds b s = deliverBarge x (sequence b x (ackBarge 3 x s)).2 := by
  rw [recvBarge_taken hb hdst hcrc hkind hin, sequence_next (by rwa [ackBarge_pairSeq]) (by rwa [ackBarge_pairSeq]),
    deliverBarges, List.foldl_cons, List.foldl_nil, hb]

theorem ackTimeoutEff_resends {a b q : Nat} {u : Unacked} {s : State} (hu : s.findUnacked a b q = some u)
    (hlate : u.at_ + 171 ≤ s.now) (hsends : u.sends < 8) : ackTimeoutEff a b q s = resend u s := by
  rw [ackTimeoutEff, hu]
  dsimp only
  rw [if_pos (show u.at_ + ackTimeout ≤ s.now from hlate), retryOrFail, if_neg (not_le.mpr hsends)]

/-- Settles O25: by the branches of an arriving barge (spoilt, discarded, taken). -/
theorem gridBarges : Obligations.GridBarges := by
  refine ⟨fun s b x hrun hb hdst hcrc => ?_, fun s b x hrun hb hbad => ?_, fun s b x hrun hb hcrc hkind hdst hseq => ?_,
    fun s b x hrun hb hcrc hkind hdst => ?_, fun s b x hrun hb hcrc hkind hdst => ?_,
    fun s b x u hrun hb hcrc hkind hdst hu hsends => ?_, fun s a b q u hrun ha hb hu hlate hsends => ?_,
    fun s b x hrun hb hcrc hkind hdst hseq hheld => ?_⟩
  · have hrecv (kinds : List Nat) : run true s (recvBarge kinds b) = .next (ackBarge 4 x s) :=
      run_framed (recvBarge_frame ..) rfl hrun (recvBarge_spoilt hb hdst hcrc)
    exact ⟨hrecv _, hrecv _, run_framed (bargeAckEff_frame ..) rfl hrun (recvReply_spoilt hb hdst hcrc),
      run_framed (bargeNakEff_frame ..) rfl hrun (recvReply_spoilt hb hdst hcrc), hrecv _, hrecv _⟩
  · have hrecv (kinds : List Nat) : run true s (recvBarge kinds b) = .next (discardBarge s) :=
      run_framed (recvBarge_frame ..) rfl hrun (recvBarge_discards hb hbad)
    exact ⟨hrecv _, hrecv _, run_framed (bargeAckEff_frame ..) rfl hrun (recvReply_discards hb hbad),
      run_framed (bargeNakEff_frame ..) rfl hrun (recvReply_discards hb hbad), hrecv _, hrecv _⟩
  · have hs := recvBarge_frame [0, 1] b s
    exact ⟨_, run_framed hs rfl hrun rfl, hs.loop_eq, hs.trays_eq, hs.od_eq, hs.hw_eq, hs.port_eq⟩
  · have hs := recvBarge_frame [2] b s
    exact ⟨_, run_framed hs rfl hrun rfl, hs.loop_eq, hs.trays_eq, hs.od_eq, (recvBarge_steady ..).sram_eq⟩
  · exact run_framed (bargeAckEff_frame ..) rfl hrun (recvReply_taken hb hdst hcrc hkind (by decide))
  · refine run_framed (bargeNakEff_frame ..) rfl hrun ?_
    rw [bargeNakEff, recvReply_taken hb hdst hcrc hkind (by decide), hu]
    exact if_neg (not_le.mpr hsends)
  · exact run_framed (ackTimeoutEff_frame ..) (by simp [ha, hb]) hrun (ackTimeoutEff_resends hu hlate hsends)
  · have hs := recvBarge_frame [5] b s
    refine ⟨_, run_framed hs rfl hrun rfl, ?_, (recvBarge_steady ..).sram_eq, hs.loop_eq⟩
    rw [recvBarge_alone hb hdst hcrc (by omega) (by simp [hkind]) hseq hheld, deliverBarge_read hkind, sequence_ddr,
      ackBarge_ddr]

/-- A MEM_WRITE delivered writes its bytes at its address. -/
theorem deliverBarge_write {x : Barge} {s : State} (hkind : x.kind = 6) (hlow : 66 ≤ x.dst) (hhigh : x.dst ≤ 69)
    (hin : u64At x.payload 0 + (x.payload.drop 8).length ≤ 4294967296) :
    (deliverBarge x s).grid.ddr =
      memWrite s.grid.ddr (4294967296 * (x.dst - 66) + u64At x.payload 0) (x.payload.drop 8) := by
  simp only [deliverBarge, hkind]
  rw [if_pos ⟨hlow, hhigh, hin⟩]

/-- Settles O26: the barge alone is delivered, and its bytes are those a memory write stores. -/
theorem memoryWriteHold : Obligations.MemoryWrite := by
  intro s b x hrun hb hcrc hkind hlow hhigh hseq hheld hin
  have hs := recvBarge_frame [6] b s
  have hddr : (recvBarge [6] b s).grid.ddr =
      memWrite s.grid.ddr (4294967296 * (x.dst - 66) + u64At x.payload 0) (x.payload.drop 8) := by
    rw [recvBarge_alone hb (by omega) hcrc (by omega) (by simp [hkind]) hseq hheld,
      deliverBarge_write hkind hlow hhigh hin, sequence_ddr, ackBarge_ddr]
  refine ⟨_, run_framed hs rfl hrun rfl, (recvBarge_steady ..).sram_eq, hs.loop_eq, fun i hi => ?_, fun a ha => ?_⟩
  · rw [hddr, memWrite_get, if_pos (by omega), Nat.add_sub_cancel_left]
  · rw [hddr, memWrite_get, if_neg (by omega)]

end Sys2Proof.Machine
end

section
/-! SUPPORT. Proof: memory errors, failed cores, restarts and calls of the grid (10_control_grid.md: Memory errors and
void periods). -/

namespace Sys2Proof.Machine

set_option Elab.async false

/-! ### Corrected words -/

theorem corrected_grid (n : Nat) (s : State) : (corrected n s).grid.corrected = s.grid.corrected + n ∧
    (corrected n s).grid.sram = s.grid.sram ∧ (corrected n s).grid.ddr = s.grid.ddr := by
  dsimp only [corrected]
  generalize hu : ({ s with grid := _ } : State) = u
  rw [(.when_ fun _ => State.raise_frame .. : SameBut [.fm] u (when_ _ (fun s => s.raise 0x0901 noInst) u)).grid_eq,
    ← hu]
  exact ⟨rfl, rfl, rfl⟩

/-! ### Uncorrectable words -/

/-- The same count of uncorrectable words and the same place of the last. -/
structure SameBad (a b : State) : Prop where
  count : b.grid.uncorrected = a.grid.uncorrected
  last : b.grid.lastBad = a.grid.lastBad

namespace SameBad
variable {a b c : State}

theorem refl : SameBad a a := ⟨rfl, rfl⟩

theorem trans (h : SameBad a b) (h' : SameBad b c) : SameBad a c := ⟨h'.count.trans h.count, h'.last.trans h.last⟩

theorem of {l : List Part} (h : SameBut l a b) (hl : .grid ∉ l := by decide) : SameBad a b := by
  constructor <;> rw [h.grid_eq hl]

theorem ite {p : Prop} [Decidable p] (h : SameBad a b) (h' : SameBad a c) : SameBad a (if p then b else c) := by
  split
  · exact h
  · exact h'

theorem raise {code inst : Nat} (h : SameBad a b) : SameBad a (b.raise code inst) :=
  h.trans (.of (State.raise_frame ..))

theorem sram (m : List (Nat × Byte)) : SameBad a { a with grid := { a.grid with sram := m } } := ⟨rfl, rfl⟩

theorem freeCount (n : Nat) : SameBad a { a with freeCount := n } := ⟨rfl, rfl⟩

end SameBad

theorem Steady.sameBad {a b : State} (h : Steady a b) : SameBad a b := by
  obtain ⟨-, -, -, hcount, hlast, -⟩ := h.reads
  exact ⟨hcount, hlast⟩

theorem voidPresent_steady (n k : Nat) (s : State) : Steady s (voidPresent n k s) := by
  rw [voidPresent]
  split
  · split
    · exact voidStage_steady ..
    · exact .refl
  · exact .refl

theorem voidStages_steady (n : Nat) (l : List Nat) (s : State) : Steady s (voidStages n l s) :=
  .foldl fun _ _ => voidPresent_steady ..

theorem sramFree_sameBad (n core addr : Nat) (s : State) : SameBad s (sramFree n core addr s) := by
  dsimp only [sramFree]
  split
  · exact .refl
  · refine .ite (.sram _) (.ite ?_ (.ite ?_ (.ite ?_ (.sram _))))
    · exact .trans (.of (voidCheckpoint_frame ..)) (.of (slotToFault_frame ..))
    · exact .raise (voidStages_steady ..).sameBad
    · exact .trans (.sram _) (voidStages_steady ..).sameBad

theorem beginRestart_sameBad (n : Nat) (s : State) : SameBad s (beginRestart n s) := ⟨rfl, rfl⟩

theorem sramBadEff_sameBad (core addr : Nat) (s : State) : SameBad (uncorrected core addr s) (sramBadEff core addr s) := by
  dsimp only [sramBadEff]
  split
  · split
    · exact .raise (.trans (.freeCount _) (voidFirmware_steady ..).sameBad)
    · exact .trans (.freeCount _) (voidFirmware_steady ..).sameBad
    · exact .trans (.trans (.freeCount _) (.of (voidCheckpoint_frame ..))) (beginRestart_sameBad ..)
    · exact .freeCount _
  · split
    · exact sramFree_sameBad ..
    · exact .sram _

/-- The state in which a block lost from LPDDR4X is rewritten: counted, and 0903h raised. -/
def ddrLost (channel addr n : Nat) (s : State) : State :=
  rewriteBlock ((uncorrected (66 + channel) addr s).raise 0x0903 n)

theorem memBadEff_steady (channel addr n k : Nat) (s : State) :
    Steady (ddrLost channel addr n s) (memBadEff channel addr n k s) :=
  .ite (voidFirmware_steady ..) (voidPresent_steady ..)

theorem memBadEff_raising (channel addr n k : Nat) (s : State) :
    Raising (ddrLost channel addr n s) (memBadEff channel addr n k s) :=
  .ite (voidFirmware_frame ..).raising (voidPresent_frame ..).raising

theorem ddrLost_sameBad (channel addr n : Nat) (s : State) :
    SameBad (uncorrected (66 + channel) addr s) (ddrLost channel addr n s) :=
  .trans (.of (State.raise_frame ..)) (.of (rewriteBlock_frame ..))

theorem ddrLost_raised (channel addr n : Nat) (s : State) : (ddrLost channel addr n s).raised 0x0903 n :=
  (rewriteBlock_frame ..).raising.raised (raised_raise ..)

/-- A period made void is among the void ones. -/
theorem voidFirmware_mem {n k : Nat} (hk : k < fwStages n) (s : State) : (n, k) ∈ (voidFirmware n k s).grid.fwVoid := by
  rw [voidFirmware]
  split
  next => exact List.mem_cons_self
  next h =>
    by_contra hno
    exact h ⟨hk, by simpa using hno⟩

/-! ### Restarts and failed cores -/

/-- What the end of a restart leaves in the grid. -/
theorem restartCompleteEff_grid {n : Nat} {s : State} (h : s.grid.restarting.contains n = true) :
    (restartCompleteEff n s).grid = { s.grid with
      restarting := s.grid.restarting.filter (· != n), quiet := s.grid.quiet.filter (· != n)
      restarts := sat32 (s.grid.restarts + 1) } := by
  rw [restartCompleteEff, if_pos h]
  dsimp only
  generalize hu : ({ s with grid := _ } : State) = u
  have hs : SameBut [.fm, .loop, .phases, .tph, .est, .feed, .gov] u
      (when_ (!s.grid.quiet.contains n) (fun s => s.raise 0x0906 n) (restartState n u)) :=
    .trans (.mono (restartState_frame ..)) (.when_ fun _ => .mono (State.raise_frame ..))
  rw [hs.grid_eq, ← hu]

theorem restartCompleteEff_raised {n : Nat} {s : State} (h : s.grid.restarting.contains n = true)
    (hloud : s.grid.quiet.contains n = false) : (restartCompleteEff n s).raised 0x0906 n := by
  rw [restartCompleteEff, if_pos h, hloud]
  exact raised_raise ..

theorem tideSlotLost_raising (n : Nat) (s : State) : Raising s (tideSlotLost n s) := by
  have hfault : Raising s (if s.tide.active = n ∧ s.tide.st = .run then tideFault s else s) :=
    .ite ⟨fun _ hr => List.mem_append_left _ hr⟩ .refl
  exact .ite (hfault.trans ⟨fun _ hr => hr⟩) hfault

theorem slotToFault_raising (n cause : Nat) (s : State) : Raising s (slotToFault n cause s) :=
  ((State.updSlot_frame ..).raising.trans (dropWaits_frame ..).raising).trans
    ((raise_raising ..).trans (tideSlotLost_raising ..))

/-- A core marked as failed, its routes and waits gone. -/
def coreLost (core : Nat) (s : State) : State :=
  failedRoutes core (dropWaits (fun w => w.core == core)
    (({ s with grid := { s.grid with failed := s.grid.failed ++ [core] } } : State).raise 0x0907 core))

theorem coreLost_frame (core : Nat) (s : State) :
    SameBut [.fm, .gates, .ev] { s with grid := { s.grid with failed := s.grid.failed ++ [core] } } (coreLost core s) :=
  .trans (.trans (.mono (State.raise_frame ..)) (.mono (dropWaits_frame ..))) (.mono (failedRoutes_frame ..))

theorem coreLost_failed (core : Nat) (s : State) : (coreLost core s).grid.failed = s.grid.failed ++ [core] := by
  rw [(coreLost_frame core s).grid_eq]

theorem coreLost_raised (core : Nat) (s : State) : (coreLost core s).raised 0x0907 core :=
  ((dropWaits_frame ..).raising.trans (failedRoutes_frame ..).raising).raised (raised_raise ..)

/-- A core that fails for the first time: marked, then the slot on it in FAULT. -/
theorem coreFailedEff_fresh {core : Nat} {s : State} (h : s.grid.failed.contains core = false) :
    Raising (coreLost core s) (coreFailedEff core s) ∧ Steady (coreLost core s) (coreFailedEff core s) := by
  rw [coreFailedEff, if_neg (ne_true_of_eq_false h), coreLost]
  dsimp only
  generalize failedRoutes core _ = u
  split
  · exact ⟨.ite (slotToFault_raising ..) .refl, .ite (.of (slotToFault_frame ..)) .refl⟩
  · exact ⟨.refl, .refl⟩

theorem coreFailedEff_failed (core : Nat) (s : State) : (coreFailedEff core s).grid.failed =
    if s.grid.failed.contains core = true then s.grid.failed else s.grid.failed ++ [core] := by
  split
  next h => rw [coreFailedEff, if_pos h]
  next h =>
    obtain ⟨-, -, -, -, -, hfailed⟩ := (coreFailedEff_fresh (Bool.eq_false_iff.mpr h)).2.reads
    rw [hfailed, coreLost_failed]

theorem coreFailedEff_contains {c : Nat} (core : Nat) {s : State}
    (h : c = core ∨ s.grid.failed.contains c = true) : (coreFailedEff core s).grid.failed.contains c = true := by
  rw [coreFailedEff_failed]
  split
  next hfailed =>
    obtain rfl | h := h
    · exact hfailed
    · exact h
  next =>
    simp only [List.contains_eq_mem, List.mem_append, List.mem_singleton, decide_eq_true_eq] at h ⊢
    exact h.symm

/-- Every core of a list of failing ones is marked. -/
theorem coresFail_contains {c : Nat} (l : List Nat) {s : State} (h : c ∈ l ∨ s.grid.failed.contains c = true) :
    (l.foldl (fun s c => coreFailedEff c s) s).grid.failed.contains c = true := by
  induction l generalizing s with
  | nil => exact h.resolve_left (by simp)
  | cons x l ih =>
    refine ih ?_
    rw [List.mem_cons] at h
    obtain (hc | hc) | hc := h
    · exact .inr (coreFailedEff_contains x (.inl hc))
    · exact .inl hc
    · exact .inr (coreFailedEff_contains x (.inr hc))

/-! ### Calls -/

theorem keeperCallEff_firmware {n : Nat} (hn : n < 24) (ch g : Nat) (d : Bytes) (s : State) :
    keeperCallEff n ch g d s = gateSignalEff
      (if g < 2048 then .keeper 64 else .grid (if fwFirst n = 0xFF then 0 else fwFirst n) n) g 1
      (sendBarge (if fwFirst n = 0xFF then 0 else fwFirst n) 65 1 0xFF ch 0 (le 8 (Config.freeNat s.freeCount))
        (inputRecord n ch 0 d (sendBlock 65 (if fwFirst n = 0xFF then 0 else fwFirst n) 1 n ch 0 d
          { s with freeCount := s.freeCount + 1 }))) := by
  rw [keeperCallEff, if_pos hn]

theorem keeperCallEff_firmware_frame {n : Nat} (hn : n < 24) (ch g : Nat) (d : Bytes) (s : State) :
    SameBut [.tx, .fm, .gates, .grid, .sess, .cap] { s with freeCount := s.freeCount + 1 }
      (keeperCallEff n ch g d s) ∧
    Steady s (keeperCallEff n ch g d s) := by
  rw [keeperCallEff_firmware hn]
  exact ⟨.trans (.trans (.trans (.mono (sendBlock_frame ..)) (.mono (inputRecord_frame ..)))
      (.mono (sendBarge_frame ..))) (.mono (gateSignalEff_frame ..)),
    .trans (.trans (.trans (.trans (.of (.freeCount ..)) (sendBlock_steady ..)) (inputRecord_steady ..))
      (sendBarge_steady ..)) (gateSignalEff_steady ..)⟩

theorem keeperCallEff_free {n ch : Nat} {r : Running} {c : ChanDef} {s : State} (hn : 24 ≤ n)
    (hbound : (s.slot n).st = .bound) (hrt : (s.slot n).rt = some r) (hc : (s.slot n).program.chan ch = some c)
    (hkind : c.kind = 5) (hstage : c.consumer < (s.slot n).program.stages.length) (g : Nat) (d : Bytes) :
    keeperCallEff n ch g d s =
      let m := s.updSlot n (fun x => { x with
        rt := some { r with calls := r.calls ++ [(r.callN, g)], callN := r.callN + 1 } })
      sendBlock 65 (m.stageCore n c.consumer) 1 n ch r.callN d m := by
  rw [keeperCallEff, if_neg (not_lt.mpr hn)]
  dsimp only
  rw [hbound, hrt, hc]
  dsimp only
  rw [if_pos ⟨hkind, hstage⟩]

/-- Settles O27: the grid's counters and marks through what each error voids, restarts or sends. -/
theorem gridErrors : Obligations.GridErrors := by
  refine ⟨fun s c n hrun hc => ?_, fun s c n hrun hc => ?_, fun s c a hrun hc => ?_, fun s ch a n k hrun hch hn hk => ?_,
    fun s n hrun hn hre => ?_, fun s c hrun hc hok => ?_, fun s c hrun hc hfailed => ?_, fun s ses hrun hses => ?_,
    fun s ses hrun hses => ?_, fun s ses m hrun hses => ?_, fun s n ch g d hrun hn hch hg => ?_,
    fun s n ch g d r c hrun hn hn' hch hg hbound hrt hchan hkind hstage => ?_⟩
  · have hs := corrected_frame n s
    obtain ⟨hcount, hsram, -⟩ := corrected_grid n s
    exact ⟨_, run_framed hs (decide_eq_true hc) hrun rfl, hcount, hsram, hs.loop_eq, hs.slots_eq⟩
  · have hs := corrected_frame n s
    obtain ⟨hcount, -, hddr⟩ := corrected_grid n s
    exact ⟨_, run_framed hs (decide_eq_true hc) hrun rfl, hcount, hddr, hs.loop_eq, hs.slots_eq⟩
  · have hs := sramBadEff_frame c a s
    have hbad := sramBadEff_sameBad c a s
    exact ⟨_, run_framed hs (decide_eq_true hc) hrun rfl, hbad.count, hbad.last, hs.phases_eq, hs.od_eq⟩
  · have hs := memBadEff_frame ch a n k s
    have hbad := (ddrLost_sameBad ch a n s).trans (memBadEff_steady ch a n k s).sameBad
    refine ⟨_, run_framed hs (by simp [hch, hn, hk]) hrun rfl,
      (memBadEff_raising ..).raised (ddrLost_raised ..), hbad.count, hbad.last, fun hfw hstage => ?_, hs.loop_eq,
      hs.phases_eq, hs.od_eq⟩
    rw [memBadEff, if_pos hfw]
    exact voidFirmware_mem hstage _
  · have hs := restartCompleteEff_frame n s
    have hgrid := restartCompleteEff_grid hre
    refine ⟨_, run_framed hs (decide_eq_true hn) hrun rfl, restartCompleteEff_raised hre, ?_, ?_, hs.tx_eq, hs.od_eq⟩
    · simp [hgrid]
    · rw [hgrid]
  · have hs := coreFailedEff_frame c s
    obtain ⟨hraising, -⟩ := coreFailedEff_fresh hok
    refine ⟨_, run_framed hs (decide_eq_true hc) hrun rfl, hraising.raised (coreLost_raised ..), ?_, hs.phases_eq,
      hs.od_eq⟩
    rw [coreFailedEff_failed, if_neg (ne_true_of_eq_false hok)]
  · exact run_to (decide_eq_true hc) hrun (if_pos hfailed)
  · exact run_to (decide_eq_true hses) hrun rfl
  · refine run_to (decide_eq_true hses) hrun ?_
    simp [gridSelfTestEff, bit]
  · have hs := gridSelfTestEff_frame m s
    refine ⟨_, run_framed hs (decide_eq_true hses) hrun rfl, fun c huser hfree hm => ?_, hs.phases_eq, hs.loop_eq,
      hs.od_eq⟩
    exact coresFail_contains _ (.inl (List.mem_filter.mpr ⟨huser, by simp [hfree, hm]⟩))
  · obtain ⟨hs, hsteady⟩ := keeperCallEff_firmware_frame hn ch g d s
    have hall := keeperCallEff_frame n ch g d s
    refine ⟨_, _, _, run_framed hall (by simp [hch, hg, lt_of_lt_of_le hn (by decide : 24 ≤ Config.slots)])
      hrun rfl, hs.freeCount_eq, hall.loop_eq,
      hall.od_eq, hsteady.sram_eq, rfl, rfl, keeperCallEff_firmware hn ch g d s⟩
  · exact ⟨_, _, run_framed (keeperCallEff_frame n ch g d s) (by simp [hch, hg, hn']) hrun
      (keeperCallEff_free hn hbound hrt hchan hkind hstage g d), rfl, rfl⟩

end Sys2Proof.Machine
end

section
/-! SUPPORT. Proof: the operations of a gate, its blocks and its bad words (11_gates_and_events.md: The gate array). -/

namespace Sys2Proof.Machine

set_option Elab.async false

/-! ### The seven operations -/

theorem gateSignalEff_refused {who : Party} {g n : Nat} {s : State}
    (h : (s.gate g).maySignal who = false ∨ n = 0 ∨ (s.gate g).mode = 1 ∧ (s.gate g).barrier ≠ 1) :
    gateSignalEff who g n s = refuseOp who s := by
  dsimp only [gateSignalEff]
  split
  · rfl
  next hmay =>
    obtain h | h | ⟨hmode, hbarrier⟩ := h
    · exact absurd (.inl h) hmay
    · exact absurd (.inr h) hmay
    · have hnone : (s.gate g).signal n = none := by simp only [Gate.signal, hmode, if_neg hbarrier]
      rw [hnone]

theorem gateSignalEff_taken {who : Party} {g n : Nat} {y : Gate} {s : State} (hmay : (s.gate g).maySignal who = true)
    (hn : 0 < n) (hy : (s.gate g).signal n = some y) : gateSignalEff who g n s =
      settleGate g (when_ (y.sat && !(s.gate g).sat) (fun s => s.raise 0x0A01 g)
        { s.setGate g y with gates := { (s.setGate g y).gates with
          excess := sat32 (s.gates.excess + (s.gate g).excess n)
          drains := if who = .drain then s.gates.drains + 1 else s.gates.drains } }) := by
  dsimp only [gateSignalEff]
  rw [if_neg (by simp [hmay, hn.ne']), hy]
  rfl

theorem gateWaitEff_taken {who : Party} {core g v a b c reg : Nat} {s : State} (hkind : (s.gate g).kind ≠ 0)
    (hcore : coreOf who = some core) (hmay : 2048 ≤ g ∨ fromFirmware who = true) (hreg : s.freeReg core = some reg) :
    gateWaitEff who g v a b c s = settleGate g { s with gates := { s.gates with
      waits := s.gates.waits ++ [{ who := who, core := core, reg := reg, g := g, v := v, slot := a
                                   channel := b, tag := c }] } } := by
  simp only [gateWaitEff, hcore, hreg]
  rw [if_pos (by simpa [hkind] using hmay)]

/-- A WAIT that its party may not make, or finds no register for, is refused. -/
theorem gateWaitEff_refused {who : Party} {g v a b c : Nat} {s : State}
    (h : coreOf who = none ∨ (s.gate g).kind = 0 ∨ (g < 2048 ∧ fromFirmware who = false) ∨
      ∃ core, coreOf who = some core ∧ s.freeReg core = none) : gateWaitEff who g v a b c s = refuseOp who s := by
  dsimp only [gateWaitEff]
  split
  · rfl
  next core hcore =>
    split
    · rfl
    next reg hreg =>
      refine if_neg ?_
      obtain h | h | ⟨hlow, hfw⟩ | ⟨core', hcore', hnone⟩ := h
      · cases hcore.symm.trans h
      · simp [h]
      · simp [hfw, hlow]
      · cases hcore.symm.trans hcore'
        cases hreg.symm.trans hnone

theorem gateAdjustEff_refused {who : Party} {g : Nat} {d : Int} {s : State} (h : (s.gate g).ownedBy who = false) :
    gateAdjustEff who g d s = refuseOp who s := if_neg (ne_true_of_eq_false h)

theorem gateAdjustEff_within {who : Party} {g : Nat} {d : Int} {s : State} (h : (s.gate g).ownedBy who = true)
    (hlow : 0 ≤ ((s.gate g).target : Int) + d) (hhigh : ((s.gate g).target : Int) + d < 4294967296) :
    gateAdjustEff who g d s = settleGate g (s.setGate g
      ({ s.gate g with target := (((s.gate g).target : Int) + d).toNat } : Gate).tryRelease) :=
  (if_pos h).trans (if_pos ⟨hlow, hhigh⟩)

theorem gateAdjustEff_outside {who : Party} {g : Nat} {d : Int} {s : State} (h : (s.gate g).ownedBy who = true)
    (hout : ((s.gate g).target : Int) + d < 0 ∨ 4294967296 ≤ ((s.gate g).target : Int) + d) :
    gateAdjustEff who g d s = settleGate g (({ s with freeCount := s.freeCount + 1 } : State).setGate g
      ({ s.gate g with target := Config.freeNat s.freeCount % 4294967296 } : Gate).tryRelease) :=
  (if_pos h).trans (if_neg (by omega))

theorem gateRouteEff_owned {who : Party} {g src : Nat} {s : State} (h : (s.gate g).ownedBy who = true) :
    gateRouteEff who g src s =
      if s.routeFree g src = true then s.setGate g { s.gate g with route := src } else refuseOp who s := by
  dsimp only [gateRouteEff]
  simp only [h, true_and]

/-- Settles O28: each operation by the branches of its effect. -/
theorem gateOperations : Obligations.GateOperations := by
  refine ⟨fun s who g n hrun hg hn h => ?_, fun s who g n y hrun hg hpos hn hmay hy => ?_,
    fun s who core g v a b c reg hrun hg hv hkind hcore hmay hreg => ?_, fun s who g v a b c hrun hg hv h => ?_,
    fun s who g v a b c hrun hg hv hfw => ?_, fun s who g target d src hrun hg ht hsrc hown => ⟨?_, ?_, ?_, ?_⟩,
    fun s who g target hrun hg ht hown => ?_, fun s who g d hrun hg hown hlow hhigh => ?_,
    fun s who g d hrun hg hown hout => 
      ⟨Config.freeNat s.freeCount % 4294967296, Nat.mod_lt _ (by decide), ?_⟩, fun s who g hrun hg hown => ?_,
    fun s who g hrun hg hkind hw => ?_, fun s who g hrun hg h => ?_, fun s who g src hrun hg hsrc hown => ?_⟩
  · exact run_framed (gateSignalEff_frame ..) (by simp [hg, hn]) hrun (gateSignalEff_refused h)
  · exact run_framed (gateSignalEff_frame ..) (by simp [hg, hn]) hrun (gateSignalEff_taken hmay hpos hy)
  · exact run_framed (gateWaitEff_frame ..) (by simp [hg, hv]) hrun (gateWaitEff_taken hkind hcore hmay hreg)
  · exact run_framed (gateWaitEff_frame ..) (by simp [hg, hv]) hrun
      (gateWaitEff_refused (h.imp_right (Or.imp_right .inr)))
  · exact run_framed (gateWaitEff_frame ..) (by simp [hv]; omega) hrun
      (gateWaitEff_refused (.inr (.inr (.inl ⟨hg, hfw⟩))))
  · exact run_framed (gateArmEff_frame ..) (by simp [hg, ht]) hrun (if_neg (ne_true_of_eq_false hown))
  · exact run_framed (gateAdjustEff_frame ..) (decide_eq_true hg) hrun (gateAdjustEff_refused hown)
  · exact run_framed (gateClearEff_frame ..) (decide_eq_true hg) hrun (if_neg (ne_true_of_eq_false hown))
  · exact run_framed (gateRouteEff_frame ..) (by simp [hg, hsrc]) hrun
      (if_neg fun h => ne_true_of_eq_false hown h.1)
  · exact run_framed (gateArmEff_frame ..) (by simp [hg, ht]) hrun (if_pos hown)
  · exact run_framed (gateAdjustEff_frame ..) (decide_eq_true hg) hrun (gateAdjustEff_within hown hlow hhigh)
  · exact run_framed (gateAdjustEff_frame ..) (decide_eq_true hg) hrun (gateAdjustEff_outside hown hout)
  · exact run_framed (gateClearEff_frame ..) (decide_eq_true hg) hrun (if_pos hown)
  · exact run_framed (gateCancelEff_frame ..) (decide_eq_true hg) hrun (if_neg (not_or.mpr ⟨hw, hkind⟩))
  · exact run_framed (gateCancelEff_frame ..) (decide_eq_true hg) hrun (if_pos h.symm)
  · exact run_framed (gateRouteEff_frame ..) (by simp [hg, hsrc]) hrun (gateRouteEff_owned hown)

/-! ### Blocks -/

theorem gateAllocateEff_asked {ses v : Nat} {s : State} (hpos : 0 < v % 65536) (hle : v % 65536 ≤ 1024)
    (hv : v < 262144) : gateAllocateEff ses v s =
      let r := allocGates (v % 65536) (v / 65536 % 4) 4 ses s
      { r.2 with gates := { r.2.gates with lastBase := r.2.gates.lastBase.set ses r.1 } } := by
  dsimp only [gateAllocateEff]
  rw [if_neg (by omega)]

theorem allocGates_none {n mode kind owner : Nat} {s : State}
    (h : s.gates.free.find? (fun e => decide (n ≤ e.2)) = none) :
    allocGates n mode kind owner s = (0, s.raise 0x0A03 noInst) := by rw [allocGates, h]

theorem allocGates_some {n mode kind owner : Nat} {e : Nat × Nat} {s : State}
    (h : s.gates.free.find? (fun e => decide (n ≤ e.2)) = some e) :
    allocGates n mode kind owner s = (e.1, { s with gates := { s.gates with
      blocks := insertBlock { base := e.1, n := n, mode := mode, kind := kind, owner := owner, holes := [] }
        s.gates.blocks } }) := by rw [allocGates, h]

theorem gateUncorrectableEff_firmware {g : Nat} (hg : g < 2048) (s : State) :
    (gateUncorrectableEff g s).raised 0x0A06 g ∧ (gateUncorrectableEff g s).port.drainHeld = true := by
  dsimp only [gateUncorrectableEff]
  rw [if_pos hg, if_pos hg]
  exact ⟨raised_raise .., by rw [(State.raise_frame ..).port_eq]⟩

theorem gateUncorrectableEff_user {g : Nat} (hg : 2048 ≤ g) (s : State) :
    (gateUncorrectableEff g s).raised 0x0A04 g ∧ (gateUncorrectableEff g s).port = s.port := by
  dsimp only [gateUncorrectableEff]
  rw [if_neg (not_lt.mpr hg), if_neg (not_lt.mpr hg)]
  refine ⟨raised_raise .., ?_⟩
  rw [(State.raise_frame ..).port_eq, (freeWaits_frame g s).port_eq]

/-- Settles O29: by the branches of a request, a release and a bad word. -/
theorem gateBlocks : Obligations.GateBlocks := by
  refine ⟨fun s ses v hrun hses hbad => ?_, fun s ses v hrun hses hpos hle hv hnone => ?_,
    fun s ses v e hrun hses hpos hle hv he => ?_, fun s ses base b hrun hses hb => ?_,
    fun s ses base hrun hses hnone => ?_, fun s g hrun hg => ?_, fun s g hrun hg hlt => ?_, fun s ses hrun hses => ?_⟩
  · exact run_framed (gateAllocateEff_frame ..) (decide_eq_true hses) hrun (if_pos hbad)
  · have heff := gateAllocateEff_asked (ses := ses) (s := s) hpos hle hv
    rw [allocGates_none hnone] at heff
    refine ⟨_, run_framed (gateAllocateEff_frame ..) (decide_eq_true hses) hrun heff, raised_raise .., ?_, ?_⟩
    · dsimp only
      rw [(State.raise_frame ..).gates_eq]
    · dsimp only
      rw [(State.raise_frame ..).gates_eq]
  · have heff := gateAllocateEff_asked (ses := ses) (s := s) hpos hle hv
    rw [allocGates_some he] at heff
    exact ⟨_, run_framed (gateAllocateEff_frame ..) (decide_eq_true hses) hrun heff, rfl, rfl, rfl⟩
  · refine run_framed (gateFreeEff_frame ..) (decide_eq_true hses) hrun ?_
    rw [gateFreeEff, hb]
  · refine run_framed (gateFreeEff_frame ..) (decide_eq_true hses) hrun ?_
    rw [gateFreeEff, hnone]
  · have hs := gateUncorrectableEff_frame g s
    obtain ⟨hraised, hheld⟩ := gateUncorrectableEff_firmware hg s
    exact ⟨_, run_framed hs (decide_eq_true (by omega)) hrun rfl, hraised, hheld, hs.loop_eq⟩
  · have hs := gateUncorrectableEff_frame g s
    obtain ⟨hraised, hport⟩ := gateUncorrectableEff_user hg s
    exact ⟨_, run_framed hs (decide_eq_true hlt) hrun rfl, hraised, hport, hs.loop_eq⟩
  · exact run_to (decide_eq_true hses) hrun rfl

end Sys2Proof.Machine
end

section
/-! SUPPORT. Proof: the commands of the event controller (11_gates_and_events.md: The event controller). -/

namespace Sys2Proof.Machine

set_option Elab.async false

/-! ### What a delivery leaves -/

/-- The same sensed levels, sources in service and configuration words. -/
structure SameSensed (a b : State) : Prop where
  high : b.ev.high = a.ev.high
  service : b.ev.service = a.ev.service
  cfg : b.ev.cfg = a.ev.cfg

namespace SameSensed
variable {a b c : State}

theorem refl : SameSensed a a := ⟨rfl, rfl, rfl⟩

theorem trans (h : SameSensed a b) (h' : SameSensed b c) : SameSensed a c :=
  ⟨h'.high.trans h.high, h'.service.trans h.service, h'.cfg.trans h.cfg⟩

theorem of {l : List Part} (h : SameBut l a b) (hl : .ev ∉ l := by decide) : SameSensed a b := by
  constructor <;> rw [h.ev_eq hl]

theorem ite {p : Prop} [Decidable p] (h : SameSensed a b) (h' : SameSensed a c) :
    SameSensed a (if p then b else c) := by
  split
  · exact h
  · exact h'

theorem foldl {β : Type} {f : State → β → State} (hf : ∀ s x, SameSensed s (f s x)) {l : List β} {s : State} :
    SameSensed s (l.foldl f s) := foldl_keeps (SameSensed s) f l (fun t x h => h.trans (hf t x)) s .refl

theorem when_ {p : Bool} {f : State → State} (hf : ∀ s, SameSensed s (f s)) {s : State} :
    SameSensed s (Machine.when_ p f s) := .ite (hf s) .refl

theorem ev {x : Events} (h : x.high = a.ev.high ∧ x.service = a.ev.service ∧ x.cfg = a.ev.cfg := by
    exact ⟨rfl, rfl, rfl⟩) : SameSensed a { a with ev := x } := ⟨h.1, h.2.1, h.2.2⟩

end SameSensed

theorem useMaskWindow_sensed (src : Nat) (s : State) : SameSensed s (useMaskWindow src s) := .ite ⟨rfl, rfl, rfl⟩ .refl

theorem refuseFast_sensed (core : Nat) (r : EvRec) (s : State) : SameSensed s (refuseFast core r s) := by
  dsimp only [refuseFast]
  exact .ite ⟨rfl, rfl, rfl⟩ ⟨rfl, rfl, rfl⟩

theorem deliverTo_sensed (core : Nat) (fast : Bool) (r : EvRec) (s : State) : SameSensed s (deliverTo core fast r s) := by
  dsimp only [deliverTo]
  refine .ite (.ite (.trans .ev (.when_ fun _ => .of (State.send_frame ..))) (refuseFast_sensed ..)) ?_
  exact ⟨rfl, rfl, rfl⟩

theorem deliverAll_sensed (targets : List (Nat × Bool)) (r : EvRec) (s : State) : SameSensed s (deliverAll targets r s) :=
  .foldl fun _ _ => deliverTo_sensed ..

theorem levelDeliver_sensed (src : Nat) (s : State) : SameSensed s (levelDeliver src s) :=
  .ite (.trans (useMaskWindow_sensed ..) (deliverAll_sensed ..)) .refl

theorem redeliver_sensed (src : Nat) (s : State) : SameSensed s (redeliver src s) := by
  dsimp only [redeliver]
  exact .ite (.trans .ev (levelDeliver_sensed ..)) .refl

theorem senseChange_sensed (src : Nat) (s : State) : SameSensed s (senseChange src s) := ⟨rfl, rfl, rfl⟩

theorem edgeDeliver_sensed (src kind : Nat) (s : State) : SameSensed s (edgeDeliver src kind s) := by
  dsimp only [edgeDeliver]
  refine .ite (senseChange_sensed ..) (.ite (.ite ?_ ?_) (.trans (.ite ?_ ?_) (.trans (useMaskWindow_sensed ..)
    (deliverAll_sensed ..))))
  all_goals exact ⟨rfl, rfl, rfl⟩

/-! ### Sources that change -/

/-- The sources sensed high once source n is high or low. -/
def highWith (n : Nat) (high : Bool) (s : State) : List Nat :=
  if high then (n :: s.ev.high).mergeSort (fun a b => decide (a ≤ b)) else s.ev.high.filter (· != n)

theorem sourceChangeEff_high {n : Nat} {s : State} (h : s.sourceLevel n ≠ s.ev.high.contains n) :
    (sourceChangeEff n s).ev.high = highWith n (s.sourceLevel n) s := by
  rw [sourceChangeEff, if_neg h]
  extract_lets high list u
  have hu : u.ev.high = highWith n (s.sourceLevel n) s := rfl
  rw [← hu]
  refine SameSensed.high ?_
  clear_value u
  split
  · exact .ite (.trans (senseChange_sensed ..) (levelDeliver_sensed ..)) .refl
  · exact .ite .refl (.trans (senseChange_sensed ..) (levelDeliver_sensed ..))
  · exact .ite (edgeDeliver_sensed ..) .refl
  · exact .ite .refl (edgeDeliver_sensed ..)
  · exact edgeDeliver_sensed ..
  · exact .refl

/-! ### TAKE, ACK, POP -/

theorem send_eventWord (s : State) (c w : Nat) : s.send (.eventWord c w) = { s with tx := s.tx ++ [.eventWord c w] } := by
  rw [State.send, if_neg (by simp [State.silent, Tx.silenced])]

/-- Pending source e of core c taken into service. -/
def eventTaken (c : Nat) (e : Nat × EvRec) (s : State) : State :=
  { s with
    tx := s.tx ++ [.eventWord c e.2.src]
    ev := { s.ev with
      pending := Store.del s.ev.pending e.1, service := s.ev.service ++ [e.1]
      taken := upd s.ev.taken c (fun _ => e.2) } }

theorem eventTakeEff_none {c : Nat} {s : State} (hfast : get [] s.ev.fast c = [])
    (hnone : s.ev.pending.find? (fun e => e.1 / 1024 == c) = none) :
    eventTakeEff c s = { s with tx := s.tx ++ [.eventWord c 0xFFFF] } := by
  rw [eventTakeEff, if_neg (not_not.mpr hfast), hnone]
  exact send_eventWord ..

theorem eventTakeEff_some {c : Nat} {e : Nat × EvRec} {s : State} (hfast : get [] s.ev.fast c = [])
    (he : s.ev.pending.find? (fun e => e.1 / 1024 == c) = some e) :
    eventTakeEff c s = recordTaken c e.2 (eventTaken c e s) := by
  rw [eventTakeEff, if_neg (not_not.mpr hfast), he]
  dsimp only
  rw [send_eventWord]
  rfl

theorem eventAckEff_service {c n : Nat} {s : State} (h : s.ev.service.contains (ekey c n) = true) :
    (eventAckEff c n s).ev.service = s.ev.service.filter (· != ekey c n) := by
  rw [eventAckEff, if_pos h]
  exact (redeliver_sensed ..).service

theorem admitHeld_none {c : Nat} {s : State} (h : s.ev.held.find? (fun e => e.1 / 1024 == c) = none) :
    admitHeld c s = s := by rw [admitHeld, h]

theorem redeliver_edge {n : Nat} {s : State} (h1 : s.srcWord n % 8 ≠ 1) (h2 : s.srcWord n % 8 ≠ 2) :
    redeliver n s = s := by
  dsimp only [redeliver]
  rw [if_neg (by simp [h1, h2])]

/-- The fast queue of core c after its head is taken. -/
def popped (c : Nat) (rest : List EvRec) (s : State) : State :=
  { s with ev := { s.ev with fast := upd s.ev.fast c (fun _ => rest) } }

theorem fastPopEff_some {c : Nat} {r : EvRec} {rest : List EvRec} {s : State} (h : get [] s.ev.fast c = r :: rest) :
    fastPopEff c s = recordTaken c r (redeliver r.src (admitHeld c (popped c rest s))) := by
  rw [fastPopEff, h] <;> rfl

/-- Settles O30: by the branches of each row; what is delivered leaves the levels, the services and the words. -/
theorem eventSources : Obligations.EventSources := by
  refine ⟨fun s n hrun hn h => ?_, fun s n hrun hn hlow hin => ?_, fun s n hrun hn hhigh hout => ?_,
    fun s c hrun hc hfast => ?_, fun s c hrun hc hfast hnone => ?_, fun s c e hrun hc hkeeper hfast he => ?_,
    fun s c e hrun hc hfast he => ?_, fun s c n hrun hc hn h => ?_, fun s c n hrun hc hn h => ?_,
    fun s c n hrun hc hn h => ?_, fun s c n hrun hc hn h => ?_, fun s c n hrun hc hn => ?_,
    fun s c hrun hc hfast => ?_, fun s c r rest hrun hc hfast => ?_, fun s ses off d hrun hses hbad => ?_,
    fun s ses off d hrun hses hd hlen hoff hend hall => ?_, fun s ses off d hrun hses hd hlen hoff hend hsome => ?_,
    fun s ses hrun hses => ?_⟩
  · exact run_to (decide_eq_true hn) hrun (if_pos h)
  · have hs := sourceChangeEff_frame n s
    refine ⟨_, run_framed hs (decide_eq_true hn) hrun rfl, ?_, hs.loop_eq, hs.od_eq⟩
    rw [sourceChangeEff_high (by rw [hlow, hin]; decide), hlow] <;> rfl
  · have hs := sourceChangeEff_frame n s
    refine ⟨_, run_framed hs (decide_eq_true hn) hrun rfl, ?_, hs.loop_eq, hs.od_eq⟩
    rw [sourceChangeEff_high (by rw [hhigh, hout]; decide), hhigh]
    simp [highWith]
  · exact run_to (decide_eq_true hc) hrun (if_pos hfast)
  · exact run_framed (eventTakeEff_frame ..) (decide_eq_true hc) hrun (eventTakeEff_none hfast hnone)
  · refine run_framed (eventTakeEff_frame ..) (decide_eq_true hc) hrun ?_
    rw [eventTakeEff_some hfast he, recordTaken, if_pos hkeeper] <;> rfl
  · have hs := eventTakeEff_frame c s
    have hev := (recordTaken_frame c e.2 (eventTaken c e s)).ev_eq
    rw [← eventTakeEff_some hfast he] at hev
    refine ⟨_, run_framed hs (decide_eq_true (by omega)) hrun rfl, ?_, ?_, ?_, hs.loop_eq, hs.od_eq⟩ <;>
      rw [hev] <;> rfl
  · have hs := eventAckEff_frame c n s
    exact ⟨_, run_framed hs (by simp [hc, hn]) hrun rfl, eventAckEff_service h, hs.loop_eq, hs.od_eq⟩
  · exact run_to (by simp [hc, hn]) hrun (if_neg (ne_true_of_eq_false h))
  · exact run_to (by simp [hc, hn]) hrun (if_neg (ne_true_of_eq_false h))
  · exact run_to (by simp [hc, hn]) hrun (if_pos h)
  · have hs := maskClearEff_frame n s
    exact ⟨_, run_framed hs (by simp [hc, hn]) hrun rfl, (levelDeliver_sensed ..).cfg, hs.loop_eq, hs.gates_eq,
      hs.od_eq, hs.slots_eq⟩
  · refine run_to (decide_eq_true hc) hrun ?_
    rw [fastPopEff, hfast]
  · have hs := fastPopEff_frame c s
    refine ⟨_, run_framed hs (decide_eq_true hc) hrun rfl, hs.loop_eq, hs.od_eq, hs.gates_eq, fun hheld h1 h2 => ?_⟩
    have hheld' : (popped c rest s).ev.held.find? (fun e => e.1 / 1024 == c) = none := hheld
    have hword : (popped c rest s).srcWord r.src = s.srcWord r.src := rfl
    rw [fastPopEff_some hfast, admitHeld_none hheld', redeliver_edge (by rwa [hword]) (by rwa [hword]),
      (recordTaken_frame ..).ev_eq, popped]
  · exact run_framed (sourceConfigEff_frame ..) (decide_eq_true hses) hrun (if_pos hbad)
  · refine run_framed (sourceConfigEff_frame ..) (decide_eq_true hses) hrun ((if_neg ?_).trans (if_pos hall))
    simp only [hd, false_or]
    omega
  · refine run_framed (sourceConfigEff_frame ..) (decide_eq_true hses) hrun
      ((if_neg ?_).trans (if_neg (ne_true_of_eq_false hsome)))
    simp only [hd, false_or]
    omega
  · exact run_to (decide_eq_true hses) hrun rfl

end Sys2Proof.Machine
end

section
/-! SUPPORT. Proof: blocks and commands of a program slot (12_grid_programs.md: Slots, Loading and binding). -/

namespace Sys2Proof.Machine

set_option Elab.async false

/-! ### Slots -/

theorem slot_lt {s : State} {n : Nat} (h : (s.slot n).st ≠ .empty) : n < s.slots.length :=
  lt_of_get_ne (d := Slot.reset) fun heq => h (congrArg Slot.st heq)

theorem slot_updSlot_same {s : State} {n : Nat} (h : n < s.slots.length) (f : Slot → Slot) :
    (s.updSlot n f).slot n = f (s.slot n) := get_upd_same Slot.reset s.slots n f h

theorem SameBut.slot_eq {l : List Part} {s t : State} (h : SameBut l s t) (n : Nat)
    (hl : .slots ∉ l := by decide) : t.slot n = s.slot n := by rw [State.slot, h.slots_eq hl, State.slot]

theorem updSlot_slots_length (s : State) (n : Nat) (f : Slot → Slot) : (s.updSlot n f).slots.length = s.slots.length :=
  upd_length ..

/-- What goes with a slot that is unbound: its gates, its waits, its part in the forecast. -/
theorem unbinding_frame (p : GateWait → Bool) (n : Nat) (s : State) :
    SameBut [.tx, .fm, .gates, .tide, .grid] s (tideSlotLost n (dropWaits p (freeOwner 3 n s))) :=
  .trans (.trans (.mono (freeOwner_frame ..)) (.mono (dropWaits_frame ..))) (.mono (tideSlotLost_frame ..))

theorem unbindEff_slot {s : State} {n : Nat} (h : n < s.slots.length) : ((unbindEff n s).slot n).st = .loaded := by
  rw [unbindEff, slot_updSlot_same (by rwa [(unbinding_frame ..).slots_eq])]

theorem unbindEff_slots_length (n : Nat) (s : State) : (unbindEff n s).slots.length = s.slots.length := by
  rw [unbindEff, updSlot_slots_length, (unbinding_frame ..).slots_eq]

/-! ### Blocks -/

/-- A block is past the end of the container that is being loaded. -/
theorem past_eq (c : Option Nat) (k : Nat) : (match c with
    | some c => decide (0 < k) && decide (c ≤ k)
    | none => false) = true ↔ ∃ m, c = some m ∧ 0 < k ∧ m ≤ k := by
  cases c <;> simp

theorem slotBlockEff_loads {ses seq n off : Nat} {d : Bytes} {s : State} (hn : 24 ≤ n) (hd : d ≠ [])
    (hend : off + d.length ≤ 8192) (hk : s.win ses (0x6100 + n) 0x04 < 524288)
    (hroom : s.loadOpen n = true ∨ s.openTxns < 32) (hlen : n < s.slots.length)
    (hin : ∀ c, s.loadCount n = some c → s.win ses (0x6100 + n) 0x04 = 0 ∨ s.win ses (0x6100 + n) 0x04 < c) :
    ((slotBlockEff ses seq n off d s).slot n).st = .loading := by
  dsimp only [slotBlockEff]
  rw [if_neg, if_neg]
  · rw [(loadElement_frame ..).slot_eq, slot_updSlot_same]
    have hfirst : n < (if (s.slot n).st = .bound ∨ (s.slot n).st = .fault then unbindEff n s
        else tideSlotLost n s).slots.length := by
      split
      · rwa [unbindEff_slots_length]
      · rwa [(tideSlotLost_frame ..).slots_eq]
    generalize (if (s.slot n).st = .bound ∨ (s.slot n).st = .fault then unbindEff n s else tideSlotLost n s) = u at hfirst ⊢
    split
    · exact hfirst
    · rw [updSlot_slots_length, (openTxn_frame ..).slots_eq]
      exact hfirst
  · rintro ⟨hclosed, hfull⟩
    obtain h | h := hroom
    · exact ne_true_of_eq_false hclosed h
    · omega
  · rintro (h | h | h | h | h)
    · simp [freeSlot, hn] at h
    · exact hd h
    · omega
    · omega
    · obtain ⟨c, hc, hpos, hle⟩ := (past_eq ..).mp h
      have := hin c hc
      omega

theorem slotBlockEff_refuses {ses seq n off : Nat} {d : Bytes} {s : State}
    (h : n < 24 ∨ d = [] ∨ 8192 < off + d.length ∨ 524288 ≤ s.win ses (0x6100 + n) 0x04 ∨
      ∃ c, s.loadCount n = some c ∧ 0 < s.win ses (0x6100 + n) 0x04 ∧ c ≤ s.win ses (0x6100 + n) 0x04) :
    slotBlockEff ses seq n off d s = s.violate ses (0x6100 + n) 0x05 := by
  dsimp only [slotBlockEff]
  refine if_pos ?_
  obtain h | h | h | h | h := h
  · exact .inl (decide_eq_false (not_le.mpr h))
  · exact .inr (.inl h)
  · exact .inr (.inr (.inl h))
  · exact .inr (.inr (.inr (.inl h)))
  · exact .inr (.inr (.inr (.inr ((past_eq ..).mpr h))))

/-! ### Check -/

/-- The slot is named by the forecaster. -/
def Named (s : State) (n : Nat) : Prop := s.tide.active = n ∨ s.tide.staged = n

/-- The slot under check, its descriptor judged where the forecaster names it. -/
def descJudged (n : Nat) (s : State) : State :=
  when_ (decide (s.tide.active = n ∨ s.tide.staged = n) && !s.descOk (s.slot n).program)
    (fun s => (tideRefused n s).raise 0x0606 noInst) s

theorem descJudged_frame (n : Nat) (s : State) : SameBut [.fm, .tide] s (descJudged n s) :=
  .when_ fun _ => .step (.mono (tideRefused_frame ..)) (State.raise_frame ..)

theorem descOk_eq {l : List Part} {s t : State} (h : SameBut l s t) (p : Program) (hl : .od ∉ l := by decide) :
    t.descOk p = s.descOk p := by
  rw [State.descOk, State.cfgU, h.od_eq hl] <;> rfl

/-- A container passes the check. -/
def Passes (n : Nat) (s : State) : Prop := containerOk (s.slot n).image = true ∧
  (tideContainer (s.slot n).image = false ∨ ¬Named s n ∨ s.descOk (s.slot n).program = true)

theorem slotCheckEff_passes {ses n : Nat} {s : State} (hn : 24 ≤ n) (hst : (s.slot n).st = .loading)
    (h : Passes n s) : ((slotCheckEff ses n s).slot n).st = .loaded ∧
      SameBut [.txn, .slots] (descJudged n s) (slotCheckEff ses n s) := by
  dsimp only [slotCheckEff]
  rw [if_neg (by simp [freeSlot, hn, hst]), ← descJudged, if_pos]
  · refine ⟨?_, .trans (.trans (.mono (State.updSlot_frame ..)) (.mono (updTxn_frame ..))) (.mono (txnElement_frame ..))⟩
    rw [(txnElement_frame ..).slot_eq, (updTxn_frame ..).slot_eq, slot_updSlot_same]
    rw [(descJudged_frame ..).slots_eq]
    exact slot_lt (by simp [hst])
  · rw [descOk_eq (descJudged_frame n s)]
    exact h

theorem slotCheckEff_fails {ses n : Nat} {s : State} (hn : 24 ≤ n) (hst : (s.slot n).st = .loading)
    (h : ¬Passes n s) : ((slotCheckEff ses n s).slot n).st = .refused ∧ (slotCheckEff ses n s).raised 0x0909 n ∧
      Raising (descJudged n s) (slotCheckEff ses n s) := by
  dsimp only [slotCheckEff]
  rw [if_neg (by simp [freeSlot, hn, hst]), ← descJudged, if_neg]
  · refine ⟨?_, raised_raise .., ((State.updSlot_frame ..).raising.trans (closeTxn_frame ..).raising).trans
      (raise_raising ..)⟩
    rw [(State.raise_frame ..).slot_eq, (closeTxn_frame ..).slot_eq, slot_updSlot_same]
    rw [(descJudged_frame ..).slots_eq]
    exact slot_lt (by simp [hst])
  · rw [descOk_eq (descJudged_frame n s)]
    exact h

theorem descJudged_raised {n : Nat} {s : State} (hnamed : Named s n) (hdesc : s.descOk (s.slot n).program = false) :
    (descJudged n s).raised 0x0606 noInst := by
  rw [descJudged, when_, if_pos (by simp [hdesc]; exact hnamed)]
  exact raised_raise ..

theorem descJudged_same {n : Nat} {s : State} (h : ¬Named s n ∨ s.descOk (s.slot n).program = true) :
    descJudged n s = s := by
  refine if_neg ?_
  rw [Bool.and_eq_true, decide_eq_true_eq, Bool.not_eq_true']
  rintro ⟨hnamed, hdesc⟩
  exact h.elim (· hnamed) (ne_true_of_eq_false hdesc)

/-! ### Binding, restarting, clearing -/

/-- The program of slot n can be bound: a place, its waits, its bindings. -/
def fitsSlot (n : Nat) (s : State) : Bool :=
  (List.range ((s.slot n).program.width * (s.slot n).program.height)).all
    (fun j => decide (coreWaits (s.slot n).program j ≤ 8)) && (s.writtenBinds n).all (bindingOk (s.slot n).program n)

theorem slotBindEff_nowhere {ses n : Nat} {s : State} (hn : 24 ≤ n) (hst : (s.slot n).st = .loaded)
    (h : s.place (s.region (s.slot n).program) (s.slot n).program.width (s.slot n).program.height = none ∨
      (s.writtenBinds n).all (bindingOk (s.slot n).program n) = false) :
    slotBindEff ses n s = s.raise 0x090B n := by
  dsimp only [slotBindEff]
  rw [if_neg (by simp [freeSlot, hn, hst])]
  split
  next first hplace hfits =>
    obtain h | h := h
    · cases hplace.symm.trans h
    · simp [h] at hfits
  next => rfl

theorem slotBindEff_binds {ses n first : Nat} {s : State} (hn : 24 ≤ n) (hst : (s.slot n).st = .loaded)
    (hplace : s.place (s.region (s.slot n).program) (s.slot n).program.width (s.slot n).program.height = some first)
    (hfits : fitsSlot n s = true)
    (hgates : (allocBlocks n (s.slot n).program.gates s).1.any (fun b => b.1 == 0) = false) :
    ((slotBindEff ses n s).slot n).st = .bound := by
  dsimp only [slotBindEff]
  rw [if_neg (by simp [freeSlot, hn, hst]), ← fitsSlot, hplace, hfits]
  dsimp only
  rw [if_neg (ne_true_of_eq_false hgates), (finishTxn_frame ..).slot_eq, (txnElement_frame ..).slot_eq,
    (State.measure_frame ..).slot_eq, (checkpoint_frame ..).slot_eq, slot_updSlot_same]
  dsimp only
  rw [(allocBlocks_frame ..).slots_eq]
  exact slot_lt (by simp [hst])

theorem slotRestartEff_sound {ses n : Nat} {r : Running} {s : State} (hst : (s.slot n).st = .fault)
    (hrt : (s.slot n).rt = some r) (hsound : r.cores.any (fun c => s.grid.failed.contains c) = false) :
    slotRestartEff ses n s = restartSlot n s := by
  dsimp only [slotRestartEff]
  rw [hrt]
  exact if_neg (not_or.mpr ⟨not_not.mpr hst, ne_true_of_eq_false hsound⟩)

theorem slotClearEff_clears {ses n : Nat} {s : State} (hn : 24 ≤ n)
    (hst : (s.slot n).st = .loading ∨ (s.slot n).st = .loaded ∨ (s.slot n).st = .refused) :
    ((slotClearEff ses n s).slot n).st = .empty ∧ ((slotClearEff ses n s).slot n).blocks = [] := by
  have heff : slotClearEff ses n s = closeTxn (s.slot n).txn 5 0 ((tideSlotLost n s).updSlot n
      (fun x => { x with st := .empty, blocks := [], txn := x.txn, results := [] })) := by
    have hfree : freeSlot n = true := decide_eq_true hn
    obtain h | h | h := hst <;> simp only [slotClearEff, hfree, h]
  have hlen : n < (tideSlotLost n s).slots.length := by
    rw [(tideSlotLost_frame ..).slots_eq]
    exact slot_lt (by obtain h | h | h := hst <;> simp [h])
  rw [heff, (closeTxn_frame ..).slot_eq, slot_updSlot_same hlen]
  exact ⟨rfl, rfl⟩

theorem slotClearEff_refuses {ses n : Nat} {s : State}
    (h : n < 24 ∨ (s.slot n).st = .empty ∨ (s.slot n).st = .bound ∨ (s.slot n).st = .fault) :
    slotClearEff ses n s = s.violate ses (0x6100 + n) 0x02 := by
  dsimp only [slotClearEff]
  have hfree : freeSlot n = true → ¬n < 24 := fun hf => not_lt.mpr (of_decide_eq_true hf)
  split <;> simp_all

theorem slotToFault_st {n cause : Nat} {s : State} (h : n < s.slots.length) :
    ((slotToFault n cause s).slot n).st = .fault := by
  have hs : SameBut [.fm, .gates, .tide] (s.updSlot n (fun x => { x with
      st := .fault, cause := cause, rt := x.rt.map fun r => { r with inputs := [], calls := [] } }))
      (slotToFault n cause s) :=
    .trans (.trans (.mono (dropWaits_frame ..)) (.mono (State.raise_frame ..))) (.mono (tideSlotLost_frame ..))
  rw [hs.slot_eq, slot_updSlot_same h]

theorem slotToFault_raised (n cause : Nat) (s : State) : (slotToFault n cause s).raised 0x090A n :=
  (tideSlotLost_raising ..).raised (raised_raise ..)

theorem slotFaultEff_due {n : Nat} {r : Running} {s : State} (hn : 24 ≤ n) (hst : (s.slot n).st = .bound)
    (hrt : (s.slot n).rt = some r) (hmany : r.stages.any (fun y => decide (16 ≤ y.run)) = true) :
    slotFaultEff n s = slotToFault n 1 s := by
  dsimp only [slotFaultEff]
  rw [hrt]
  exact if_pos ⟨decide_eq_true hn, hst, hmany⟩

/-- Settles O31: each command by its branches; the slot's new state is read past the transaction and the forecaster. -/
theorem slotCommands : Obligations.SlotCommands := by
  refine ⟨fun s ses seq n off d hrun hses hn => ?_,
    fun s ses seq n off d hrun hses hn hlt hd hend hk hroom hlen hin => ?_, fun s ses seq n off d hrun hses hn hlt h => ?_,
    fun s ses n hrun hses hlt h => ?_, fun s ses n hrun hses hn hlt hst hbad => ?_,
    fun s ses n hrun hses hn hlt hst hgood h => ?_, fun s ses n hrun hses hn hlt hst hgood hnamed hdesc => ?_,
    fun s ses n hrun hses hlt h => ?_, fun s ses n hrun hses hn hlt hst h => ?_,
    fun s ses n first hrun hses hn hlt hst hplace hwaits hbinds hgates => ?_, fun s ses n hrun hses hn hlt hst => ?_,
    fun s ses n hrun hses hlt h => ?_, fun s ses n hrun hses hlt hst => ?_,
    fun s ses n r hrun hses hlt hst hrt hsound => ?_, fun s ses n hrun hses hn hlt hst => ?_,
    fun s ses n hrun hses hlt h => ?_, fun s n r hrun hn hlt hst hrt hmany => ?_⟩
  · exact runObj_framed (slotBlockEff_frame ..) hses (decide_eq_true (lt_of_lt_of_le hn (by decide))) hrun
      (slotBlockEff_refuses (.inl hn))
  · have hs := slotBlockEff_frame ses seq n off d s
    exact ⟨_, runObj_framed hs hses (decide_eq_true hlt) hrun rfl, slotBlockEff_loads hn hd hend hk hroom hlen hin,
      hs.loop_eq, hs.phases_eq⟩
  · exact runObj_framed (slotBlockEff_frame ..) hses (decide_eq_true hlt) hrun (slotBlockEff_refuses (.inr h))
  · exact runObj_framed (slotCheckEff_frame ..) hses (decide_eq_true hlt) hrun
      (if_pos (h.imp_left fun h => decide_eq_false (not_le.mpr h)))
  · obtain ⟨hslot, hraised, -⟩ := slotCheckEff_fails (ses := ses) hn hst fun h => ne_true_of_eq_false hbad h.1
    exact ⟨_, runObj_framed (slotCheckEff_frame ..) hses (decide_eq_true hlt) hrun rfl, hslot, hraised⟩
  · have h' : ¬Named s n ∨ s.descOk (s.slot n).program = true := h.imp_left fun h => not_or.mpr h
    obtain ⟨hslot, hs⟩ := slotCheckEff_passes (ses := ses) hn hst ⟨hgood, .inr h'⟩
    rw [descJudged_same h'] at hs
    exact ⟨_, runObj_framed (slotCheckEff_frame ..) hses (decide_eq_true hlt) hrun rfl, hslot, hs.fm_eq⟩
  · refine ⟨_, runObj_framed (slotCheckEff_frame ..) hses (decide_eq_true hlt) hrun rfl, ?_, ?_⟩
    · by_cases h : Passes n s
      · exact (slotCheckEff_passes hn hst h).2.raising.raised (descJudged_raised hnamed hdesc)
      · exact (slotCheckEff_fails hn hst h).2.2.raised (descJudged_raised hnamed hdesc)
    · split
      next htide =>
        refine (slotCheckEff_fails hn hst ?_).1
        rintro ⟨-, h | h | h⟩
        · exact ne_true_of_eq_false h htide
        · exact h hnamed
        · exact ne_true_of_eq_false hdesc h
      next htide => exact (slotCheckEff_passes hn hst ⟨hgood, .inl (Bool.eq_false_iff.mpr htide)⟩).1
  · exact runObj_framed (slotBindEff_frame ..) hses (decide_eq_true hlt) hrun
      (if_pos (h.imp_left fun h => decide_eq_false (not_le.mpr h)))
  · exact runObj_framed (slotBindEff_frame ..) hses (decide_eq_true hlt) hrun (slotBindEff_nowhere hn hst h)
  · have hs := slotBindEff_frame ses n s
    have hfits : fitsSlot n s = true := by rw [fitsSlot, hwaits, hbinds, Bool.true_and]
    exact ⟨_, runObj_framed hs hses (decide_eq_true hlt) hrun rfl, slotBindEff_binds hn hst hplace hfits hgates,
      hs.loop_eq, hs.phases_eq⟩
  · have hs := unbindEff_frame n s
    refine ⟨_, runObj_framed (slotUnbindEff_frame ..) hses (decide_eq_true hlt) hrun
      (if_pos ⟨decide_eq_true hn, hst⟩), unbindEff_slot (slot_lt ?_), by rw [hs.loop_eq], hs.phases_eq⟩
    obtain h | h := hst <;> simp [h]
  · refine runObj_framed (slotUnbindEff_frame ..) hses (decide_eq_true hlt) hrun (if_neg ?_)
    rintro ⟨hfree, hst⟩
    obtain h | ⟨hbound, hfault⟩ := h
    · exact absurd (of_decide_eq_true hfree) (not_le.mpr h)
    · exact hst.elim hbound hfault
  · exact runObj_framed (slotRestartEff_frame ..) hses (decide_eq_true hlt) hrun (if_pos (.inl hst))
  · exact runObj_framed (slotRestartEff_frame ..) hses (decide_eq_true hlt) hrun (slotRestartEff_sound hst hrt hsound)
  · have hs := slotClearEff_frame ses n s
    obtain ⟨hempty, hblocks⟩ := slotClearEff_clears (ses := ses) hn hst
    exact ⟨_, runObj_framed hs hses (decide_eq_true hlt) hrun rfl, hempty, hblocks, hs.loop_eq⟩
  · exact runObj_framed (slotClearEff_frame ..) hses (decide_eq_true hlt) hrun (slotClearEff_refuses h)
  · exact ⟨_, run_framed (slotFaultEff_frame ..) (decide_eq_true hlt) hrun (slotFaultEff_due hn hst hrt hmany),
      slotToFault_st (slot_lt (by simp [hst])), slotToFault_raised ..⟩

end Sys2Proof.Machine
end

section
/-! SUPPORT. Proof: dry dock's commands, and a step of shelf time with a store that failed (12_grid_programs.md: Dry
dock, 13_clocks_and_time.md: Shelf time and its states). -/

namespace Sys2Proof.Machine

set_option Elab.async false

/-! ### Dry dock -/

theorem dockStartEff_uncheckpointed {ses : Nat} {s : State} (hfree : ¬(s.dock.st = .placing ∨ s.dock.st = .running))
    (h : s.checkpointAt (s.cfgU 0x6A00 0x03) (s.cfgU 0x6A00 0x05) = none) :
    dockStartEff ses s = s.raise 0x0F03 noInst := by
  dsimp only [dockStartEff]
  rw [if_neg hfree, h]
  split
  next hck => cases hck
  next => rfl

/-- A firmware slot's copy takes the first place free for its cores. -/
theorem dockStartEff_firmware {ses u w h first : Nat} {ck : CapRecord} {s : State} (hfree : ¬(s.dock.st = .placing ∨ s.dock.st = .running))
    (hu : u = s.cfgU 0x6A00 0x03) (hsrc : s.cfgU 0x6A00 0x04 = 0xFF) (hfw : freeSlot u = false)
    (hrect : fwRect u = some (w, h)) (hck : s.checkpointAt u (s.cfgU 0x6A00 0x05) = some ck)
    (hplace : s.place s.userCores w h = some first) :
    (dockStartEff ses s).dock.st = .placing ∧ (dockStartEff ses s).dock.slot = u ∧
      (dockStartEff ses s).dock.cores = rectCores first w h ∧ (dockStartEff ses s).grid = s.grid := by
  dsimp only [dockStartEff]
  rw [if_neg hfree, if_pos hsrc, ← hu]
  simp only [hfw, Bool.false_eq_true, if_false, hrect, hck, hplace]
  exact ⟨trivial, trivial, trivial, trivial⟩

theorem replayPeriodEff_past {s : State} (hst : s.dock.st = .running)
    (hend : tagGe s.dock.tag ((s.dock.end_ + 1) % 4294967296) = true) :
    replayPeriodEff s = { s with dock := { s.dock with st := .complete } } := by
  dsimp only [replayPeriodEff]
  rw [if_pos (.inr hst), if_pos (.inl hend)]

/-- Settles O32: by the branches of each command and of a replay period. -/
theorem dryDock : Obligations.DryDock := by
  refine ⟨fun s ses hrun hses hdock => ⟨?_, ?_, ?_⟩, fun s ses hrun hses hplacing hrunning => ⟨?_, ?_, ?_⟩,
    fun s ses hrun hses hplacing hrunning hck => ?_,
    fun s ses u w h ck first hrun hses hplacing hrunning hu hsrc hfw hrect hck hplace => ?_,
    fun s hrun hst hend => ?_⟩
  · exact run_framed (dockStartEff_frame ..) (decide_eq_true hses) hrun (if_pos hdock)
  · exact run_to (decide_eq_true hses) hrun (if_pos hdock)
  · exact run_framed (dockClearEff_frame ..) (decide_eq_true hses) hrun (if_pos hdock)
  · exact run_framed (dockStopEff_frame ..) (decide_eq_true hses) hrun (if_neg (not_or.mpr ⟨hplacing, hrunning⟩))
  · exact run_to (decide_eq_true hses) hrun (if_neg (not_or.mpr ⟨hplacing, hrunning⟩))
  · exact run_to rfl hrun (if_neg (not_or.mpr ⟨hplacing, hrunning⟩))
  · exact run_framed (dockStartEff_frame ..) (decide_eq_true hses) hrun
      (dockStartEff_uncheckpointed (not_or.mpr ⟨hplacing, hrunning⟩) hck)
  · have hs := dockStartEff_frame ses s
    obtain ⟨hst, hslot, hcores, hgrid⟩ := dockStartEff_firmware (ses := ses) (not_or.mpr ⟨hplacing, hrunning⟩)
      hu hsrc hfw hrect hck hplace
    exact ⟨_, run_framed hs (decide_eq_true hses) hrun rfl, hst, hslot, hcores, hgrid, hs.loop_eq, hs.slots_eq⟩
  · exact run_framed (replayPeriodEff_frame ..) rfl hrun (replayPeriodEff_past hst hend)

/-! ### A step of shelf time -/

/-- The loop is OFF, a step of 1 ms waits, and a store failed 10 s ago. -/
def stepWaits : State :=
  { started with
    now := 20 * sec
    clk := { Clk.reset with pendingStep := some 1000000 }
    od := { started.od with storeFailed := [(0x200003, 10 * sec)] } }

/-- The time of the failed store, which its retry counts from, moves with the step (R423, log entry 73). -/
theorem stepWaits_moves : (stepEff stepWaits).od.storeFailed = [(0x200003, 10 * sec + 1000000)] := by decide +kernel

/-- Refutes O33: at `stepWaits` the step moves the time at which a store failed, so the dictionary does not stay. -/
theorem not_clockServo : ¬ Obligations.ClockServo := by
  intro ⟨_, _, _, _, _, _, _, _, _, _, hstep, _⟩
  obtain ⟨u, hexec, -, -, -, -, hod⟩ := hstep stepWaits 1000000 rfl (by decide) (by decide) (by decide +kernel) rfl
  have heff : exec .shelfTimeStep stepWaits = .next (stepEff stepWaits) := run_framed (stepEff_frame _) rfl rfl rfl
  rw [← Host.Outcome.next.inj (heff.symm.trans hexec)] at hod
  have hfailed := congrArg Od.storeFailed hod
  rw [stepWaits_moves] at hfailed
  exact absurd hfailed (by decide)

end Sys2Proof.Machine
end

section
/-! SUPPORT. Proof: crystals, PLLs and the pair's TIME (13_clocks_and_time.md: Clock faults). -/

namespace Sys2Proof.Machine

set_option Elab.async false

/-! ### Frames of the pair link -/

/-- PAIR_ROLE_IN and PAIR_FAULT_IN as the flags of a frame say. -/
def flagged (m : PairMsg) (s : State) : State :=
  { s with pair := { s.pair with roleIn := bit m.flags 0, faultIn := bit m.flags 1 } }

theorem flagged_frame (m : PairMsg) (s : State) : SameBut [.pair] s (flagged m s) := .pair ..

section
variable {typ : Nat} {f : Bytes} {g : PairMsg → State → State} {s : State} {m : PairMsg}

theorem recvPair_down (h : s.pair.link < 2) : recvPair typ f g s = s := if_pos h

theorem recvPair_spoilt (h : 2 ≤ s.pair.link) (hf : parsePair f = none) :
    recvPair typ f g s = { s with pair := { s.pair with missed := sat32 (s.pair.missed + 1) } } := by
  rw [recvPair, if_neg (not_lt.mpr h), hf]

theorem recvPair_taken (h : 2 ≤ s.pair.link) (hf : parsePair f = some m) (htyp : m.typ = typ) :
    recvPair typ f g s = g m (flagged m s) := by
  rw [recvPair, if_neg (not_lt.mpr h), hf]
  exact if_pos htyp

theorem recvPair_other (hf : parsePair f = some m) (htyp : m.typ ≠ typ) : recvPair typ f g s = s := by
  rw [recvPair, hf]
  split
  · rfl
  · exact if_neg htyp

end

/-! ### PLLs -/

theorem faultOut_asserted (code : Nat) (s : State) : (s.assertFaultOut code).fm.faultOut = true := by
  rw [State.assertFaultOut]
  split
  next h => exact h
  next => rfl

theorem tripLoop_trips {s : State} (h : s.loop.st ≠ .off) : (tripLoop s).loop.st = .tripped := by
  rw [tripLoop, if_neg h, (zeroRects_frame ..).loop_eq]

/-- What the loss of the lock of EDGE or GRID does (R377). -/
theorem pllEff_trips {i : Island} {s : State} (hi : i = .edge ∨ i = .grid) : pllEff i s =
    tripLoop ((({ s with clk := { s.clk with
      pllLock := setBit s.clk.pllLock (islandNo i) false } } : State).assertFaultOut 0x1106).raise 0x1106 noInst) := by
  obtain rfl | rfl := hi <;> rfl

/-! ### TIME -/

/-- Shelf time of a standby right after a TIME frame: within 2 ns of the frame's. -/
theorem moved_within {d : Nat} {t : Nat} (ht : 2 ≤ t) :
    t ≤ moved ((d : Int) % 5 - 2) t + 2 ∧ moved ((d : Int) % 5 - 2) t ≤ t + 2 := by
  rw [moved]
  omega

/-- The frame's time is taken and followed. -/
theorem timeFrameEff_follows {f : Bytes} {m : PairMsg} {s : State} (hlink : 2 ≤ s.pair.link)
    (hf : parsePair f = some m) (htyp : m.typ = 2) (hrole : s.pair.role = .standby ∨ s.pair.role = .unsynced) :
    (timeFrameEff f s).now = moved ((Config.freeNat s.freeCount : Int) % 5 - 2) m.time ∧
      (timeFrameEff f s).clk.st = .following ∧ (timeFrameEff f s).loop = s.loop := by
  have hrole' : (flagged m s).pair.role = .standby ∨ (flagged m s).pair.role = .unsynced := hrole
  rw [timeFrameEff, recvPair_taken hlink hf htyp, if_pos hrole']
  dsimp only
  refine ⟨?_, ?_, ?_⟩
  · rw [(State.sendPair_frame ..).now_eq, (State.hintsResume_frame ..).now_eq] <;> rfl
  · rw [(State.sendPair_frame ..).clk_eq, (State.hintsResume_frame ..).clk_eq]
  · rw [(State.sendPair_frame ..).loop_eq, (State.hintsResume_frame ..).loop_eq]
    dsimp only
    split
    · rfl
    · rfl

/-- Settles O34: by the branches of a check, a PLL's loss and a TIME frame. -/
theorem clockFaults : Obligations.ClockFaults := by
  refine ⟨fun s x hrun hx hr => ?_, fun s x hrun hx hr => ?_, fun s x hrun hx => ?_, fun s i hrun hi => ?_,
    fun s i hrun hi => ?_, fun s hrun => ?_, fun s f m hrun hlink hf htyp hrole ht => ?_,
    fun s f m hrun hlink hf htyp hstandby hunsynced => ?_, fun s f m hrun hf h => ?_⟩
  · refine run_framed (crystalEff_frame x s) rfl hrun ?_
    dsimp only [crystalEff]
    rw [if_pos hx, hr, if_pos rfl]
  · refine run_framed (crystalEff_frame x s) rfl hrun ?_
    dsimp only [crystalEff]
    rw [if_pos hx, if_neg (by omega)]
  · refine run_framed (crystalEff_frame x s) rfl hrun ?_
    dsimp only [crystalEff]
    rw [if_neg (not_lt.mpr hx), if_neg (by decide)]
  · refine run_framed (pllEff_frame i s) rfl hrun ?_
    obtain rfl | rfl | rfl | rfl := hi <;> rfl
  · have heff := pllEff_trips (s := s) hi
    generalize hv : ({ s with clk := _ } : State) = v at heff
    have hloop : v.loop = s.loop := hv ▸ rfl
    have hclk : v.clk.pllLock = setBit s.clk.pllLock (islandNo i) false := hv ▸ rfl
    have hw : SameBut [.fm, .pair, .port] v ((v.assertFaultOut 0x1106).raise 0x1106 noInst) :=
      .step (State.assertFaultOut_frame ..) (State.raise_frame ..)
    have hfault : ((v.assertFaultOut 0x1106).raise 0x1106 noInst).fm.faultOut = true := faultOut_asserted 0x1106 v
    have htrip := tripLoop_frame ((v.assertFaultOut 0x1106).raise 0x1106 noInst)
    refine ⟨_, run_framed (pllEff_frame i s) rfl hrun heff, by rw [htrip.fm_eq, hfault],
      htrip.raising.raised (raised_raise ..), by rw [htrip.clk_eq, hw.clk_eq, hclk], fun hoff => ?_, fun hon => ?_⟩
    · rw [tripLoop, if_pos (by rw [hw.loop_eq, hloop, hoff]), hw.loop_eq, hloop]
    · exact tripLoop_trips (by rwa [hw.loop_eq, hloop])
  · exact run_to rfl hrun rfl
  · obtain ⟨hnow, hst, hloop⟩ := timeFrameEff_follows hlink hf htyp hrole
    have hwithin := moved_within (d := Config.freeNat s.freeCount) ht
    rw [← hnow] at hwithin
    exact ⟨_, run_framed (timeFrameEff_frame f s) rfl hrun rfl, hwithin.1, hwithin.2, hst, hloop⟩
  · refine run_framed (timeFrameEff_frame f s) rfl hrun ?_
    rw [timeFrameEff, recvPair_taken hlink hf htyp]
    exact if_neg (not_or.mpr ⟨hstandby, hunsynced⟩)
  · refine run_to rfl hrun ?_
    obtain h | h := h
    · exact recvPair_down h
    · exact recvPair_other hf h

end Sys2Proof.Machine
end

section
/-! SUPPORT. Proof: frames of the pair link and the manifest (17_redundant_pair.md: The pair link, The manifest). -/

namespace Sys2Proof.Machine

set_option Elab.async false

/-! ### What is sent -/

theorem le_mod (n v : Nat) : le n (v % 256 ^ n) = le n v := by
  have h := le_ofLe (le n v)
  rwa [le_length, ofLe_le] at h

theorem pairFrame_mod (typ flags seq time : Nat) (payload : Bytes) :
    pairFrame typ flags (seq % 4294967296) time payload = pairFrame typ flags seq time payload := by
  have h : le 4 (seq % 4294967296) = le 4 seq := le_mod 4 seq
  rw [pairFrame, pairFrame, h]

theorem State.send_loud {s : State} {x : Tx} (h : s.hw.released = false) : s.send x = { s with tx := s.tx ++ [x] } := by
  rw [State.send, State.silent, h]
  rfl

theorem State.sendPair_down {s : State} {typ : Nat} {ho : Bool} {d : Bytes} (h : s.pair.link < 2) :
    s.sendPair typ ho d = s := if_pos h

/-- Sending on the pair link changes the number of the next frame and nothing else of the pair. -/
theorem State.sendPair_pair (s : State) (typ : Nat) (ho : Bool) (d : Bytes) :
    ∃ q, (s.sendPair typ ho d).pair = { s.pair with txSeq := q } := by
  rw [State.sendPair]
  split
  · exact ⟨_, rfl⟩
  · exact ⟨_, (State.send_frame ..).pair_eq⟩

theorem State.sendPair_up {s : State} {typ : Nat} {ho : Bool} {d : Bytes} (h : 2 ≤ s.pair.link)
    (hrel : s.hw.released = false) :
    s.sendPair typ ho d = { s with
      pair := { s.pair with txSeq := (s.pair.txSeq + 1) % 4294967296 }
      tx := s.tx ++ [.pair (pairFrame typ (b2n s.drives + 2 * b2n s.fm.faultOut + 4 * b2n ho) s.pair.txSeq s.now
        (wholeWords d))] } := by
  rw [State.sendPair, if_neg (not_lt.mpr h)]
  exact State.send_loud hrel

/-- The frames of a row, from the number s sends next. -/
def framesOf (typ : Nat) (ho : Bool) (data : Nat → Bytes) (n : Nat) (s : State) : List Tx :=
  (List.range n).map fun i => Tx.pair (pairFrame typ (b2n s.drives + 2 * b2n s.fm.faultOut + 4 * b2n ho)
    ((s.pair.txSeq + i) % 4294967296) s.now (wholeWords (data i)))

/-- The numbers a row of frames on the pair link carries, and the frames. -/
theorem sendPairs_up {s : State} {typ : Nat} {ho : Bool} (data : Nat → Bytes) (h : 2 ≤ s.pair.link)
    (hrel : s.hw.released = false) (n : Nat) :
    ∃ q, q % 4294967296 = (s.pair.txSeq + n) % 4294967296 ∧
      (List.range n).foldl (fun s i => s.sendPair typ ho (data i)) s = { s with
        pair := { s.pair with txSeq := q }
        tx := s.tx ++ framesOf typ ho data n s } := by
  induction n with
  | zero => exact ⟨s.pair.txSeq, rfl, by simp [framesOf]⟩
  | succ n ih =>
    obtain ⟨q, hq, hrow⟩ := ih
    refine ⟨(q + 1) % 4294967296, by omega, ?_⟩
    rw [List.range_succ, List.foldl_append, hrow, List.foldl_cons, List.foldl_nil]
    refine (State.sendPair_up (by exact h) (by exact hrel)).trans ?_
    rw [framesOf, framesOf, List.range_succ, List.map_append, ← List.append_assoc, List.map_singleton, ← hq,
      pairFrame_mod]
    rfl

theorem sendPairs_down {s : State} {typ : Nat} {ho : Bool} (data : Nat → Bytes) (h : s.pair.link < 2) (l : List Nat) :
    l.foldl (fun s i => s.sendPair typ ho (data i)) s = s := by
  induction l with
  | nil => rfl
  | cons i l ih => rw [List.foldl_cons, State.sendPair_down h, ih]

/-! ### The manifest -/

/-- The elements of a layout change complete in its record alone. -/
theorem finishLayout_pair (s : State) : ∃ k, (finishLayout s).pair = { s.pair with layoutNo := k } := by
  rw [finishLayout]
  split
  · split
    · exact ⟨_, rfl⟩
    next r h hno =>
      refine ⟨0, ?_⟩
      have hs : SameBut [.txn] s (finishTxn r.id ((List.range r.requested).foldl (fun s i => txnElement r.id i s) s)) :=
        .step (.foldl fun _ _ => txnElement_frame ..) (finishTxn_frame ..)
      exact congrArg (fun p : Pair => { p with layoutNo := 0 }) hs.pair_eq
  · exact ⟨_, rfl⟩

/-- A layout that takes effect changes what the pair holds of layouts alone. -/
theorem layoutTakes_pair (s : State) :
    ∃ l n k, (layoutTakes s).pair = { s.pair with layout := l, next := n, layoutNo := k } := by
  rw [layoutTakes]
  split
  next l h =>
    dsimp only
    split
    · obtain ⟨k, hk⟩ := finishLayout_pair (s.updPair fun x => { x with layout := l, next := none, layoutNo := x.number })
      exact ⟨l, none, k, hk⟩
    · exact ⟨l, none, _, rfl⟩
  · exact ⟨_, _, _, rfl⟩

/-- The state right before the parts of a manifest are sent. -/
def numbered (s : State) : State :=
  layoutTakes (s.updPair fun x =>
    { x with number := (x.number + 1) % 4294967296, sent := x.sent + 1, lastAt := s.now })

theorem numbered_frame (s : State) : SameBut [.txn, .pair] s (numbered s) :=
  .step (.mono (State.updPair_frame ..)) (layoutTakes_frame ..)

theorem numbered_pair (s : State) : ∃ l n k, (numbered s).pair = { s.pair with
    number := (s.pair.number + 1) % 4294967296, sent := s.pair.sent + 1, lastAt := s.now,
    layout := l, next := n, layoutNo := k } :=
  layoutTakes_pair _

/-- Part i of the manifest of a state. -/
def partBytes (s : State) (i : Nat) : Bytes :=
  le 4 s.pair.number ++ le 1 i ++ le 1 8 ++ le 2 0 ++ slice (manifestBytes s) (4096 * i) 4096

theorem sendManifest_eq (ho : Bool) (s : State) : sendManifest ho s =
    (List.range 8).foldl (fun u i => u.sendPair 3 ho (partBytes (numbered s) i)) (numbered s) := rfl

theorem sendManifest_down {ho : Bool} {s : State} (h : s.pair.link < 2) : sendManifest ho s = numbered s := by
  obtain ⟨_, _, _, hp⟩ := numbered_pair s
  rw [sendManifest_eq, sendPairs_down _ (by rwa [hp])]

/-- The frames a manifest is sent in. -/
theorem sendManifest_up {ho : Bool} {s : State} (h : 2 ≤ s.pair.link) (hrel : s.hw.released = false) :
    ∃ q, sendManifest ho s = { numbered s with
      pair := { (numbered s).pair with txSeq := q }
      tx := s.tx ++ framesOf 3 ho (partBytes (numbered s)) 8 s } := by
  obtain ⟨_, _, _, hp⟩ := numbered_pair s
  have hs := numbered_frame s
  have hdrives : (numbered s).drives = s.drives := by rw [State.drives, State.drives, hp]
  obtain ⟨q, -, hq⟩ := sendPairs_up (s := numbered s) (typ := 3) (ho := ho) (partBytes (numbered s))
    (by rwa [hp]) (by rwa [hs.hw_eq]) 8
  have hseq : (numbered s).pair.txSeq = s.pair.txSeq := by rw [hp]
  have hframes : framesOf 3 ho (partBytes (numbered s)) 8 (numbered s) = framesOf 3 ho (partBytes (numbered s)) 8 s := by
    rw [framesOf, framesOf, hdrives, hs.fm_eq, hs.now_eq, hseq]
  rw [hframes, hs.tx_eq] at hq
  exact ⟨q, hq⟩

/-! ### Parts of a manifest -/

/-- What a module that collects holds once a part has come. -/
def collected (m : PairMsg) (ps : List (Nat × Bytes)) (s : State) : State :=
  (flagged m s).updPair fun x => { x with partsOf := u32At m.payload 0, parts := ps }

/-- The parts held once another has come. -/
def partsWith (m : PairMsg) (s : State) : List (Nat × Bytes) :=
  Store.ins (u8At m.payload 4) (m.payload.drop 8) (Store.del (if s.pair.partsOf = u32At m.payload 0 then s.pair.parts
    else []) (u8At m.payload 4))

/-- The bytes of a list of parts. -/
def joined (ps : List (Nat × Bytes)) : Bytes := ps.flatMap fun (e : Nat × Bytes) => e.2

section
variable {s : State} {f : Bytes} {m : PairMsg} (hlink : 2 ≤ s.pair.link) (hf : parsePair f = some m) (htyp : m.typ = 3)
  (hrole : s.pair.role = .standby) (hlen : m.payload.length = 4104) (hpart : u8At m.payload 4 < 8)
  (hof : u8At m.payload 5 = 8)
include hlink hf htyp hrole hlen hpart hof

theorem manifestPartEff_standby {ps : List (Nat × Bytes)} (hps : partsWith m s = ps) :
    manifestPartEff f s = if ps.length < 8 then collected m ps s
      else if u16At (joined ps) 4 = s.sec.image.layout then
        commitManifest (u32At m.payload 0) (joined ps) (collected m ps s)
      else refuseManifest (collected m ps s) := by
  rw [manifestPartEff, recvPair_taken hlink hf htyp]
  dsimp only
  have hgo : ¬(((flagged m s).pair.role ≠ .standby ∧ (flagged m s).pair.role ≠ .unsynced) ∨
      m.payload.length ≠ 4104 ∨ 8 ≤ u8At m.payload 4 ∨ u8At m.payload 5 ≠ 8) := by
    rintro (⟨h, -⟩ | h | h | h)
    · exact h hrole
    · exact h hlen
    · exact absurd hpart (not_lt.mpr h)
    · exact h hof
  subst hps
  exact if_neg hgo

theorem manifestPartEff_commits {ps : List (Nat × Bytes)} (hps : partsWith m s = ps) (h8 : ps.length = 8)
    (hlay : u16At (joined ps) 4 = s.sec.image.layout) :
    manifestPartEff f s = commitManifest (u32At m.payload 0) (joined ps) (collected m ps s) := by
  rw [manifestPartEff_standby hlink hf htyp hrole hlen hpart hof hps, if_neg (by omega), if_pos hlay]

theorem manifestPartEff_refuses {ps : List (Nat × Bytes)} (hps : partsWith m s = ps) (h8 : ps.length = 8)
    (hlay : u16At (joined ps) 4 ≠ s.sec.image.layout) :
    manifestPartEff f s = refuseManifest (collected m ps s) := by
  rw [manifestPartEff_standby hlink hf htyp hrole hlen hpart hof hps, if_neg (by omega), if_neg hlay]

end

/-- The end of a drill leaves of the pair all but the drill itself. -/
theorem drillDone_pair (s : State) : ∃ h, (drillDone s).pair = { s.pair with handover := h } := by
  rw [drillDone]
  split
  · exact ⟨_, rfl⟩
  · exact ⟨none, rfl⟩

theorem acknowledged_pair (s : State) (d : Bytes) :
    ∃ h q, ((drillDone s).sendPair 4 false d).pair = { s.pair with handover := h, txSeq := q } := by
  obtain ⟨h, hh⟩ := drillDone_pair s
  obtain ⟨q, hq⟩ := State.sendPair_pair (drillDone s) 4 false d
  exact ⟨h, q, by rw [hq, hh]⟩

/-- What a committed manifest leaves of the pair. -/
theorem commitManifest_pair (no : Nat) (m : Bytes) (s : State) :
    ∃ h q, (commitManifest no m s).pair = { s.pair with
      manifest := m, lastNo := no, lastAt := s.now, committed := s.pair.committed + 1
      missRun := if decide (manBoundary m + 50000 < s.now) then s.pair.missRun else 0
      up5 := s.pair.up5 && decide (manBoundary m + 50000 < s.now)
      parts := [], role := if s.pair.role = .unsynced then .standby else s.pair.role
      since := if s.pair.role = .unsynced then s.now else s.pair.since
      handover := h, txSeq := q } :=
  acknowledged_pair ..

/-- A standby that refuses a manifest is UNSYNCED. -/
theorem refuseManifest_standby {s : State} (h : s.pair.role = .standby) : refuseManifest s =
    State.raise { s with pair := { s.pair with parts := [], role := .unsynced, since := s.now } } 0x0B0B noInst :=
  if_pos h

/-! ### The obligation -/

/-- A manifest is numbered, counted and sent. -/
theorem manifestSendEff_sends {s : State} (hrole : s.pair.role = .active) (hms : s.now % 100000 = 0)
    (hfresh : s.pair.number = 0 ∨ s.pair.lastAt ≠ s.now) :
    manifestSendEff s = (sendManifest false s).updPair fun x => { x with lastNo := x.number } := by
  refine if_neg ?_
  rintro (h | h | ⟨h1, h2⟩)
  · exact h hrole
  · exact h hms
  · exact hfresh.elim h1 fun h => h h2

/-- The pair once a manifest is sent. -/
theorem sendManifest_pair (ho : Bool) (s : State) :
    ∃ l n k q, (sendManifest ho s).pair = { s.pair with
      number := (s.pair.number + 1) % 4294967296, sent := s.pair.sent + 1, lastAt := s.now,
      layout := l, next := n, layoutNo := k, txSeq := q } := by
  obtain ⟨l, n, k, hp⟩ := numbered_pair s
  have hrow (data : Nat → Bytes) (is : List Nat) (v : State) :
      ∃ q, (is.foldl (fun u i => u.sendPair 3 ho (data i)) v).pair = { v.pair with txSeq := q } := by
    induction is generalizing v with
    | nil => exact ⟨_, rfl⟩
    | cons i is ih =>
      obtain ⟨q, hq⟩ := ih (v.sendPair 3 ho (data i))
      obtain ⟨q', hq'⟩ := State.sendPair_pair v 3 ho (data i)
      exact ⟨q, by rw [List.foldl_cons, hq, hq']⟩
  obtain ⟨q, hq⟩ := hrow (partBytes (numbered s)) (List.range 8) (numbered s)
  exact ⟨l, n, k, q, by rw [sendManifest_eq, hq, hp]⟩

/-- Settles O35: by the branches of a received frame. -/
theorem pairFramesHold : Obligations.PairFrames := by
  refine ⟨fun s f hrun hlink hf => ⟨?_, ?_, ?_, ?_, ?_⟩, fun s f hrun hlink => ⟨?_, ?_, ?_, ?_, ?_⟩,
    fun s f m hrun hlink hf htyp hrole => ?_, fun s hrun hrole hms hfresh => ?_, fun s hrun hno => ?_,
    fun s f m hrun hlink hf htyp hrole hlen hpart hof hparts => ?_,
    fun s f m ps hrun hlink hf htyp hrole hlen hpart hof hno hps h8 hlay => ?_,
    fun s f m ps hrun hlink hf htyp hrole hlen hpart hof hno hps h8 hlay => ?_,
    fun s f m hrun hlink hf => ⟨fun htyp hrole => ?_, fun htyp hrole => ?_, fun htyp hrole => ?_,
      fun htyp hrole => ?_⟩,
    fun s f m hrun hlink hf htyp hrole => ?_, fun s f m r hrun hlink hf htyp hrole hrow hacc hlen hres => ?_,
    fun s f m hrun hlink hf htyp hrole => ?_⟩
  · exact run_to rfl hrun (recvPair_spoilt hlink hf)
  · exact run_to rfl hrun (recvPair_spoilt hlink hf)
  · exact run_to rfl hrun (recvPair_spoilt hlink hf)
  · exact run_to rfl hrun (recvPair_spoilt hlink hf)
  · exact run_to rfl hrun (recvPair_spoilt hlink hf)
  · exact run_to rfl hrun (recvPair_down hlink)
  · exact run_to rfl hrun (recvPair_down hlink)
  · exact run_to rfl hrun (recvPair_down hlink)
  · exact run_to rfl hrun (recvPair_down hlink)
  · exact run_to rfl hrun (recvPair_down hlink)
  · exact run_to rfl hrun ((recvPair_taken hlink hf htyp).trans (if_neg hrole))
  · have hs := manifestSendEff_frame s
    have heff := manifestSendEff_sends hrole hms hfresh
    obtain ⟨_, _, _, _, hp⟩ := sendManifest_pair false s
    refine ⟨_, run_framed hs rfl hrun rfl, ?_, ?_, ?_, ?_, fun hlink => ?_, fun hlink hrel => ?_, hs.loop_eq⟩
    · rw [heff, State.updPair, hp]
    · rw [heff, State.updPair, hp]
    · rw [heff, State.updPair, hp]
    · rw [heff, State.updPair]
    · rw [heff, State.updPair, sendManifest_down hlink, (numbered_frame s).tx_eq]
    · obtain ⟨q, hq⟩ := sendManifest_up (ho := false) hlink hrel
      have htx : (manifestSendEff s).tx = s.tx ++ framesOf 3 false (partBytes (numbered s)) 8 s := by
        rw [heff, State.updPair, hq]
      have hnumber : (manifestSendEff s).pair.number = (numbered s).pair.number := by
        rw [heff, State.updPair, hq]
      refine ⟨by rw [htx, List.length_append, framesOf, List.length_map, List.length_range], fun i hi =>
        ⟨slice (manifestBytes (numbered s)) (4096 * i) 4096, ?_⟩⟩
      rw [htx, hnumber]
      exact List.mem_append_right _ (List.mem_map.mpr ⟨i, List.mem_range.mpr hi, rfl⟩)
  · refine run_to rfl hrun (if_pos ?_)
    obtain h | h | h := hno
    · exact .inr (.inl h)
    · exact .inl h
    · exact .inr (.inr h)
  · have hs := manifestPartEff_frame f s
    have hps : partsWith m s = [(u8At m.payload 4, m.payload.drop 8)] := by
      rw [partsWith, hparts, ite_self]
      rfl
    have heff := manifestPartEff_standby hlink hf htyp hrole hlen hpart hof hps
    rw [if_pos (by rw [List.length_singleton]; decide)] at heff
    exact ⟨_, run_framed hs rfl hrun heff, rfl, rfl, rfl, rfl⟩
  · have heff := manifestPartEff_commits (ps := ps) hlink hf htyp hrole hlen hpart hof (by rw [partsWith, if_pos hno, hps])
      h8 hlay
    have hs := manifestPartEff_frame f s
    obtain ⟨_, _, hp⟩ := commitManifest_pair (u32At m.payload 0) (joined ps) (collected m ps s)
    rw [← heff] at hp
    refine ⟨_, run_framed hs rfl hrun rfl, congrArg Pair.manifest hp, congrArg Pair.lastNo hp,
      congrArg Pair.committed hp, congrArg Pair.lastAt hp, fun hin => ?_, fun hlate => ?_, congrArg Pair.parts hp,
      (congrArg Pair.role hp).trans ((if_neg fun h => ?_).trans hrole)⟩
    · rw [congrArg Pair.manifest hp] at hin
      exact (congrArg Pair.missRun hp).trans (if_neg fun h => absurd (of_decide_eq_true h) (not_lt.mpr hin))
    · rw [congrArg Pair.manifest hp] at hlate
      exact (congrArg Pair.missRun hp).trans (if_pos (decide_eq_true hlate))
    · rw [show (collected m ps s).pair.role = .standby from hrole] at h
      cases h
  · have heff := manifestPartEff_refuses (ps := ps) hlink hf htyp hrole hlen hpart hof (by rw [partsWith, if_pos hno, hps])
      h8 hlay
    rw [refuseManifest_standby (s := collected m ps s) hrole] at heff
    exact ⟨_, run_framed (manifestPartEff_frame f s) rfl hrun heff, rfl, rfl, rfl, rfl, raised_raise .., rfl⟩
  · exact run_framed (manifestPartEff_frame f s) rfl hrun ((recvPair_taken hlink hf htyp).trans (if_pos (.inl hrole)))
  · exact run_framed (pairAckEff_frame f s) rfl hrun ((recvPair_taken hlink hf htyp).trans (if_pos hrole))
  · refine run_framed (pairStoreEff_frame f s) rfl hrun ((recvPair_taken hlink hf htyp).trans ?_)
    dsimp only
    split
    · exact if_neg fun h => h.1.elim hrole.1 hrole.2
    · rfl
  · exact run_framed (pairHandoverEff_frame f s) rfl hrun ((recvPair_taken hlink hf htyp).trans (if_neg hrole))
  · have hs := pairAckEff_frame f s
    refine ⟨_, run_framed hs rfl hrun rfl, ?_, hs.loop_eq, hs.clk_eq⟩
    have hrole' : ¬(flagged m s).pair.role ≠ .active := not_not.mpr hrole
    rw [pairAckEff, recvPair_taken hlink hf htyp]
    dsimp only
    rw [if_neg hrole']
    split
    · obtain ⟨k, hk⟩ := finishLayout_pair ((flagged m s).updPair fun x => { x with
        acked := u32At m.payload 0, ackRun := if u32At m.payload 0 = x.acked + 1 then x.ackRun + 1 else 1 })
      rw [hk]
      rfl
    · rfl
  · have hs := pairStoreEff_frame f s
    refine ⟨_, run_framed hs rfl hrun rfl, ?_, hs.loop_eq⟩
    rw [pairStoreEff, recvPair_taken hlink hf htyp]
    dsimp only
    rw [hrow]
    dsimp only
    rw [if_pos ⟨hrole, hacc, hlen, hres⟩, (afterWrite_frame ..).cfgU_eq]
    exact State.cfgU_setCfg_same ..
  · have hs := pairHandoverEff_frame f s
    have heff : pairHandoverEff f s = enterTaking 4 (flagged m s) :=
      (recvPair_taken hlink hf htyp).trans (if_pos hrole)
    exact ⟨_, run_framed hs rfl hrun heff, rfl, rfl, rfl⟩

end Sys2Proof.Machine
end

section
/-! SUPPORT. Proof: roles of the pair, its link, and layouts accepted and discarded (17_redundant_pair.md: Roles). -/

namespace Sys2Proof.Machine

set_option Elab.async false

/-- A module that becomes ACTIVE, with the line of the step, is. -/
theorem saysActive (s : State) : (saysRole becomeActive s).pair.role = .active := by
  have h : (becomeActive s).pair = { s.pair with role := .active, since := s.now } := by
    rw [becomeActive, (readModes_frame ..).pair_eq, (claimShelf_frame ..).pair_eq]
    rfl
  have hsays : SameBut [.freeCount, .tx] (becomeActive s) (saysRole becomeActive s) := .when_ fun _ => bootLine_frame ..
  rw [hsays.pair_eq, h]

theorem decideEff_alone {s : State} (hrole : s.pair.role = .deciding) (hconf : s.pair.conflict = false)
    (hdue : s.pair.since + 200 * ms ≤ s.now) (hin : s.pair.roleIn = false) (hlink : s.pair.link < 2) :
    decideEff s = saysRole becomeActive s := by
  have hgo : ¬(s.pair.role ≠ .deciding ∨ s.pair.conflict = true ∨ s.now < s.pair.since + 200 * ms) := by
    rintro (h | h | h)
    · exact h hrole
    · rw [hconf] at h
      cases h
    · exact absurd h (not_lt.mpr hdue)
  rw [decideEff, if_neg hgo, hin, if_neg Bool.false_ne_true, if_pos hlink]

/-- The state once a manifest of boundary k is counted as missed. -/
def missedAt (k : Nat) (s : State) : State :=
  { s with pair := { s.pair with
    missed := sat32 (s.pair.missed + 1), missRun := s.pair.missRun + 1, missAt := some (k + 50000) } }

/-- A standby that misses a manifest counts it, and decides at the third. -/
theorem manifestMissedEff_missed {s : State} {k : Nat} (hrole : s.pair.role = .standby)
    (hover : s.pair.handover = none) (hk : k = (s.now - 50000) / 100000 * 100000) (h50 : 50000 ≤ s.now)
    (hsince : s.pair.since ≤ k) (hlate : s.onTime k = false) (hnew : s.pair.missAt ≠ some (k + 50000)) :
    manifestMissedEff s = if s.pair.missRun + 1 < 3 then missedAt k s
      else if s.pair.roleIn = false then enterTaking 3 (missedAt k s)
      else if s.pair.up5 then missedAt k s
      else ((missedAt k s).updPair fun x => { x with up5 := true }).raise 0x0B05 noInst := by
  subst hk
  have hgo : ¬(s.pair.role ≠ .standby ∨ s.pair.handover.isSome = true ∨ s.now < 50000) := by
    rintro (h | h | h)
    · exact h hrole
    · rw [hover] at h
      cases h
    · omega
  have hmiss : ¬((s.now - 50000) / 100000 * 100000 < s.pair.since ∨
      s.onTime ((s.now - 50000) / 100000 * 100000) = true ∨
      s.pair.missAt = some ((s.now - 50000) / 100000 * 100000 + 50000)) := by
    rintro (h | h | h)
    · exact absurd h (not_lt.mpr hsince)
    · rw [hlate] at h
      cases h
    · exact hnew h
  rw [manifestMissedEff, if_neg hgo]
  dsimp only
  rw [if_neg hmiss]
  rfl

/-- A good layout is the next, under the transaction just opened. -/
theorem layoutCommitEff_accepts {s : State} {ses q : Nat} (hok : layoutOk (pendingLayout s) = true)
    (hroom : s.openTxns < 32) (hnone : s.pair.layoutTxn = 0) :
    (layoutCommitEff ses q s).pair =
      { s.pair with next := some (pendingLayout s), layoutTxn := s.txn.highest + 1, layoutNo := 0 } := by
  have hopen := openTxn_frame 6 0x048100 0 (pendingLayout s).length ses q s
  rw [layoutCommitEff]
  dsimp only
  rw [if_neg (ne_false_of_eq_true hok), if_neg (not_le.mpr hroom), if_pos hnone, (State.measure_frame ..).pair_eq]
  rw [State.updPair, hopen.pair_eq, openTxn_highest]

/-- The loss of the pair link is raised, whatever follows of it. -/
theorem pairDownEff_lost {s : State} (h : s.pair.link ≠ 0) :
    (pairDownEff s).pair.link = 0 ∧ (pairDownEff s).raised 0x0B02 noInst := by
  rw [pairDownEff, if_neg h]
  dsimp only
  generalize hv : State.raise _ 0x0B02 noInst = v
  have hlink : v.pair.link = 0 := hv ▸ rfl
  have hraised : v.raised 0x0B02 noInst := hv ▸ raised_raise ..
  obtain ⟨_, hk⟩ := finishLayout_pair v
  have hlink' : (finishLayout v).pair.link = 0 := by rw [hk, hlink]
  have hraised' : (finishLayout v).raised 0x0B02 noInst := (finishLayout_frame v).raised hraised
  split
  · exact ⟨hlink', (raise_raising ..).raised hraised'⟩
  · exact ⟨hlink', hraised'⟩

/-- An asserted PAIR_FAULT_IN is seen, and the role decides. -/
theorem faultInEff_sees (s : State) : ∃ v, (faultInEff s = match s.pair.role with
    | .standby => enterTaking 1 v
    | .unsynced => v.raise 0x0B09 noInst
    | _ => v) ∧ v.pair.faultIn = true ∧ v.pair.role = s.pair.role := by
  cases h : s.pair.faultIn with
  | true =>
    refine ⟨s, ?_, h, rfl⟩
    rw [faultInEff, h]
    rfl
  | false =>
    refine ⟨s.updPair fun x => { x with faultIn := true, faultInAt := s.now }, ?_, rfl, rfl⟩
    rw [faultInEff, h]
    rfl

theorem sendPair_link (s : State) (typ : Nat) (ho : Bool) (d : Bytes) :
    (s.sendPair typ ho d).pair.link = s.pair.link := by
  obtain ⟨_, hq⟩ := State.sendPair_pair s typ ho d
  rw [hq]

theorem sendStoredSet_link (s : State) : (sendStoredSet s).pair.link = s.pair.link := by
  rw [sendStoredSet]
  generalize storedKeys = keys
  exact foldl_keeps (fun v => v.pair.link = s.pair.link) _ _ (fun _ _ h => (sendPair_link ..).trans h) s rfl

/-- A pair link that comes up stands at both its lanes, and its coming up is raised. -/
theorem pairUpEff_up {s : State} (h : s.pair.link = 0) :
    (pairUpEff s).pair.link = 3 ∧ (pairUpEff s).raised 0x0B01 noInst := by
  rw [pairUpEff, h, if_neg (by decide), if_neg (by decide)]
  dsimp only
  generalize hv : State.raise _ 0x0B01 noInst = v
  have hlink : (sendHello v).pair.link = 3 := (sendPair_link ..).trans (hv ▸ rfl)
  have hraised : (sendHello v).raised 0x0B01 noInst := (sendHello_frame v).raised (hv ▸ raised_raise ..)
  split
  · exact ⟨(sendStoredSet_link _).trans hlink, (sendStoredSet_frame _).raised hraised⟩
  · exact ⟨hlink, hraised⟩

/-- Settles O36: by the branches of a decision, a missed manifest, the pair's inputs, its link and a layout. -/
theorem pairRoles : Obligations.PairRoles := by
  refine ⟨fun s hrun hrole hconf hdue hin hlink => ?_,
    fun s k hrun hrole hover hin hrow hk h50 hsince hlate hnew => ?_,
    fun s k hrun hrole hover hk h50 hsince hlate hnew hrow => ?_,
    fun s k hrun hrole hover hin hk h50 hsince hlate hnew hrow hup => ?_, fun s hrun hrole => ⟨?_, ?_⟩,
    fun s hrun hrole => ?_, fun s hrun hrole => ?_, fun s hrun hrole hover hrow => ?_,
    fun s ses hrun hses hrole => ?_, fun s ses hrun hses hrole => ?_, fun s ses hrun hses hrole hdrill => ?_,
    fun s ses hrun hses hrole => ?_, fun s a hrun hdrill hearly => ?_, fun s a hrun hdrill hdue => ?_,
    fun s ses hrun hses => ?_, fun s hrun hlink => ?_, fun s hrun hlink => ?_, fun s hrun hlink => ?_,
    fun s hrun hrole hdue => ?_, fun s ses q hrun hses hbad => ?_, fun s ses q hrun hses hok hroom hnone => ?_,
    fun s ses hrun hses => ?_⟩
  · have hs := decideEff_frame s
    refine ⟨_, run_framed hs rfl hrun rfl, ?_, hs.loop_eq⟩
    rw [decideEff_alone hrole hconf hdue hin hlink, saysActive]
  · have heff := manifestMissedEff_missed hrole hover hk h50 hsince hlate hnew
    rw [if_neg (by omega), if_pos hin] at heff
    refine ⟨_, run_framed (manifestMissedEff_frame s) rfl hrun heff, rfl, rfl, congrArg (· + 1) hrow⟩
  · have heff := manifestMissedEff_missed hrole hover hk h50 hsince hlate hnew
    rw [if_pos (by omega)] at heff
    exact run_framed (manifestMissedEff_frame s) rfl hrun heff
  · have heff := manifestMissedEff_missed hrole hover hk h50 hsince hlate hnew
    rw [if_neg (by omega), if_neg (ne_false_of_eq_true hin), hup, if_neg Bool.false_ne_true] at heff
    exact ⟨_, run_framed (manifestMissedEff_frame s) rfl hrun heff, hrole, rfl, raised_raise ..⟩
  · exact run_framed (manifestMissedEff_frame s) rfl hrun (if_pos (.inl hrole))
  · exact run_framed (roleInFallEff_frame s) rfl hrun (if_neg fun h => hrole h.1)
  · obtain ⟨v, hv, hin, hkept⟩ := faultInEff_sees s
    rw [hrole] at hv hkept
    exact ⟨_, run_framed (faultInEff_frame s) rfl hrun hv, hkept, hin, raised_raise ..⟩
  · obtain ⟨v, hv, hin, -⟩ := faultInEff_sees s
    rw [hrole] at hv
    exact ⟨_, run_framed (faultInEff_frame s) rfl hrun hv, rfl, rfl, hin⟩
  · exact ⟨_, run_framed (roleInFallEff_frame s) rfl hrun (if_pos ⟨hrole, hover, hrow⟩), rfl, rfl, rfl⟩
  · exact ⟨_, run_framed (takeNowEff_frame ses s) (decide_eq_true hses) hrun (if_pos hrole), rfl, rfl, rfl⟩
  · exact run_framed (takeNowEff_frame ses s) (decide_eq_true hses) hrun (if_neg hrole)
  · refine run_framed (drillEff_frame ses s) (decide_eq_true hses) hrun ?_
    rw [drillEff, if_neg (not_not.mpr hrole), hdrill]
    rfl
  · exact run_framed (drillEff_frame ses s) (decide_eq_true hses) hrun (if_pos hrole)
  · refine run_framed (drillAbandonEff_frame s) rfl hrun ?_
    rw [drillAbandonEff, hdrill]
    exact if_neg (not_le.mpr hearly)
  · refine run_framed (drillAbandonEff_frame s) rfl hrun ?_
    rw [drillAbandonEff, hdrill]
    exact if_pos hdue
  · exact run_framed (pairClearEff_frame s) (decide_eq_true hses) hrun rfl
  · have hs := pairUpEff_frame s
    obtain ⟨hup, hraised⟩ := pairUpEff_up hlink
    exact ⟨_, run_framed hs rfl hrun rfl, hup, hraised, hs.loop_eq⟩
  · exact run_framed (pairLaneEff_frame s) rfl hrun (if_pos hlink)
  · have hs := pairDownEff_frame s
    obtain ⟨hdown, hraised⟩ := pairDownEff_lost hlink
    exact ⟨_, run_framed hs rfl hrun rfl, hdown, hraised, hs.loop_eq⟩
  · refine run_framed (standbyTestEff_frame 0 s) rfl hrun ?_
    have hgo : ¬(s.pair.role ≠ .standby ∨
        s.now < max s.pair.since s.pair.selfTestAt + s.cfgU 0x8000 0x11 * sec) :=
      fun h => h.elim (fun h => h hrole) fun h => absurd h (not_lt.mpr hdue)
    rw [standbyTestEff, if_neg hgo]
    dsimp only
    rw [List.filter_eq_nil_iff.mpr fun c _ => by simp [bit], if_pos rfl]
    rfl
  · exact run_framed (layoutCommitEff_frame ses q s) (decide_eq_true hses) hrun (if_pos hbad)
  · have hs := layoutCommitEff_frame ses q s
    have hp := layoutCommitEff_accepts (ses := ses) (q := q) hok hroom hnone
    exact ⟨_, run_framed hs (decide_eq_true hses) hrun rfl, congrArg Pair.next hp, congrArg Pair.layoutTxn hp,
      hs.loop_eq⟩
  · exact run_framed (layoutDiscardEff_frame s) (decide_eq_true hses) hrun rfl

end Sys2Proof.Machine
end

section
/-! SUPPORT. Proof: a takeover of a shelf of which the phase manager keeps nothing (17_redundant_pair.md: Takeover). -/

namespace Sys2Proof.Machine

set_option Elab.async false

/-- Every tray is ABSENT. -/
def NoTray (s : State) : Prop := ∀ x ∈ s.trays, x.st = .absent

theorem NoTray.tray {s : State} (h : NoTray s) (t : Nat) : (s.tray t).st = .absent := by
  by_cases ht : t < s.trays.length
  · rw [State.tray, get, List.getD_eq_getElem _ _ ht]
    exact h _ (List.getElem_mem ht)
  · rw [State.tray, get, List.getD_eq_default _ _ (not_lt.mp ht)]
    rfl

theorem NoTray.of_eq {s u : State} (h : NoTray s) (hu : u.trays = s.trays) : NoTray u := by rwa [NoTray, hu]

/-- Taking a tray that is ABSENT does nothing. -/
theorem takeTray_absent {t : Nat} {s : State} (h : (s.tray t).st = .absent) : takeTray t s = s := by
  have hweir : weirTray t s = s := by
    rw [weirTray, h]
  have hring : ¬((s.tray t).st ≠ .absent ∧ (s.tow t).ring = .down) := fun hst => hst.1 h
  rw [takeTray, if_neg hring, hweir, ite_self]

theorem takeTrays_absent {s : State} (h : NoTray s) : forTrays takeTray s = s :=
  foldl_keeps (· = s) _ _ (fun v t hv => by subst hv; exact takeTray_absent (h.tray t)) s rfl

theorem clearRebuilt_noTray {m : Bytes} {s : State} (h : NoTray s) : NoTray (clearRebuilt m s) := by
  rw [NoTray, clearRebuilt]
  dsimp only
  split
  · exact h
  · intro x hx
    obtain ⟨y, hy, rfl⟩ := List.mem_map.mp hx
    exact h y hy

/-- A shelf without trays is loaded without trays. -/
theorem loadManifest_noTray {m : Bytes} {s : State} (h : NoTray (loadShelf m s)) : NoTray (loadManifest m s) := by
  have hload := (loadGovernor_frame m (loadFeeds m (loadClock m (loadShelf m s)))).trays_eq.trans
    ((loadFeeds_frame m (loadClock m (loadShelf m s))).trays_eq.trans (loadClock_frame m (loadShelf m s)).trays_eq)
  rw [loadManifest]
  generalize hv : clearRebuilt m _ = v
  have hclear : NoTray v := hv ▸ clearRebuilt_noTray (h.of_eq hload)
  refine hclear.of_eq ?_
  have hentries (es : List (Nat × Nat × Nat)) (w : State) : SameBut [.freeCount, .txn, .fm, .tows, .est, .gov, .gates,
      .tide, .grid, .sess] w (es.foldl (fun s (e : Nat × Nat × Nat) =>
        loadEntry e.1 e.2.1 (slice m e.2.2 (entryCost e.1)) s) w) := .foldl fun _ _ => loadEntry_frame ..
  exact (hentries _ _).trays_eq

/-- Driving starts with nothing of the trays' phases where nothing was kept. -/
theorem startDriving_tph {s : State} (h : s.tph = []) : (startDriving s).tph = [] := by
  have hpresets (v : State) (hv : v.tph = []) : (forTrays (fun t s =>
    if (s.link t).up then
      (s.updTp t (fun y => { y with x := 0, blend := 16, mismatch := 0, testRef := none, ident := none })).updPhs t
        (fun x => { x with r := x.i, held := x.i, b := 0, cmd := none })
    else s) v).tph = [] := by
    refine foldl_keeps (fun w : State => w.tph = []) _ _ (fun w t hw => ?_) v hv
    dsimp only
    split
    · show upd w.tph t _ = []
      rw [hw]
      exact List.modify_nil ..
    · exact hw
  rw [startDriving, (sendCommand_frame ..).tph_eq, (sendCommand_frame ..).tph_eq, (readModes_frame ..).tph_eq]
  exact hpresets _ ((loopLeaveOff_frame ..).tph_eq.trans h)

/-- Of a shelf without trays a takeover keeps what the phase manager has. -/
theorem takeoverEff_tph {s : State} (hrole : s.pair.role = .taking) (hnew : s.pair.loaded = false)
    (hman : s.pair.manifest ≠ []) (hph : s.tph = []) (htrays : NoTray (loadShelf s.pair.manifest s)) :
    (takeoverEff s).tph = [] := by
  have hgo : ¬(s.pair.role ≠ .taking ∨ s.pair.loaded = true) := by
    rintro (h | h)
    · exact h hrole
    · rw [hnew] at h
      cases h
  rw [takeoverEff, if_neg hgo]
  dsimp only
  rw [if_neg hman, (State.raise_frame ..).tph_eq, (claimShelf_frame ..).tph_eq, (capMarker_frame ..).tph_eq,
    (loseStaging_frame ..).tph_eq]
  refine startDriving_tph ?_
  rw [(State.updPair_frame ..).tph_eq]
  generalize hv : (if (loadManifest s.pair.manifest s).clk.st = .following then _ else _ : State) = v
  have hled : SameBut [.clk] (loadManifest s.pair.manifest s) v := hv ▸ .ite (.clk ..) .refl
  have hidle : SameBut [.tide, .dock] v (stopDock (warmForecaster v)) :=
    .step (.mono (warmForecaster_frame ..)) (stopDock_frame ..)
  rw [takeTrays_absent ((loadManifest_noTray htrays).of_eq (hidle.trays_eq.trans hled.trays_eq)), hidle.tph_eq,
    hled.tph_eq, (loadManifest_frame ..).tph_eq, hph]

/-- A module in TAKING, the links up, that keeps nothing of the trays' phases. -/
def bareTaker : State :=
  { started with
    tph := []
    links := started.links.map fun l => { l with up := true }
    pair := { Pair.reset with role := .taking, manifest := [0] } }

theorem bareTaker_noTray : NoTray (loadShelf [0] bareTaker) := by
  show ∀ x ∈ (loadShelf [0] bareTaker).trays, x.st = .absent
  decide +kernel

/-- Refutes O37: the phase manager of `bareTaker` keeps nothing of tray 0, so that no blend is preset there. -/
theorem not_takeovers : ¬ Obligations.Takeovers := by
  intro ⟨_, _, htaken, _⟩
  obtain ⟨u, hexec, -, -, -, -, -, -, -, -, -, -, -, -, -, -, -, -, hpreset, -⟩ :=
    htaken bareTaker [0] rfl rfl rfl rfl (by decide)
  have heff : exec .takeover bareTaker = .next (takeoverEff bareTaker) :=
    run_framed (takeoverEff_frame _) rfl rfl rfl
  obtain ⟨-, hblend, -⟩ := hpreset 0 (by decide) (by decide +kernel) (by decide +kernel)
  rw [← Host.Outcome.next.inj (heff.symm.trans hexec), State.tp,
    takeoverEff_tph rfl rfl (by decide) rfl bareTaker_noTray] at hblend
  exact absurd hblend (by decide)

end Sys2Proof.Machine
end

section
/-! SUPPORT. Proof: the commands of the capture ring (13_clocks_and_time.md: The capture ring). -/

namespace Sys2Proof.Machine

set_option Elab.async false

section
variable {s : State} {ses : Nat} (hrun : s.running = true) (hses : ses < Config.sessions)
include hrun hses

theorem captureStart_running (h : s.cap.st ≠ .off) : exec (.captureStart ses) s = .next (s.violate ses 0x2300 0x02) :=
  run_framed (captureStartEff_frame ..) (decide_eq_true hses) hrun (if_neg h)

theorem captureFreeze_running (h : s.cap.st ≠ .off) : exec (.captureFreeze ses) s = .next (capTrigger 0 s) :=
  run_framed (captureFreezeEff_frame ..) (decide_eq_true hses) hrun (if_neg h)

theorem captureRelease_refused (h : s.cap.st ≠ .frozen) :
    exec (.captureRelease ses) s = .next (s.violate ses 0x2300 0x02) :=
  run_framed (captureReleaseEff_frame ..) (decide_eq_true hses) hrun (if_neg h)

theorem captureRelease_frozen (h : s.cap.st = .frozen) : exec (.captureRelease ses) s =
    .next { s with cap := ({ s.cap with st := .capturing } : Cap).put s.now s.recRegion (markerBytes s.now 3) } :=
  run_framed (captureReleaseEff_frame ..) (decide_eq_true hses) hrun (if_pos h)

theorem captureStop_running (h : s.cap.st ≠ .off) :
    exec (.captureStop ses) s = .next { s with cap := { s.cap with st := .off } } :=
  run_framed (captureStopEff_frame ..) (decide_eq_true hses) hrun (if_neg h)

end

/-- A trigger after the first is counted as ignored. -/
theorem capTrigger_ignored {s : State} (code : Nat) (h : s.cap.st = .post ∨ s.cap.st = .frozen) :
    capTrigger code s = { s with cap := { s.cap with ignored := sat32 (s.cap.ignored + 1) } } := by
  obtain h | h := h
  · rw [capTrigger, h]
  · rw [capTrigger, h]

/-- Settles O38: by the state of the capture. -/
theorem captureCommands : Obligations.CaptureCommands := by
  refine ⟨fun s ses hrun hses hoff => ⟨?_, ?_, ?_, ?_⟩, fun s ses hrun hses hon => ?_,
    fun s ses hrun hses hended => ?_, fun s ses hrun hses hfrozen => ?_, fun s hrun hno => ?_,
    fun s hrun hpost hdue => ?_⟩
  · exact run_framed (captureStartEff_frame ..) (decide_eq_true hses) hrun (if_pos hoff)
  · exact run_framed (captureFreezeEff_frame ..) (decide_eq_true hses) hrun (if_pos hoff)
  · exact captureRelease_refused hrun hses (by rw [hoff]; decide)
  · exact run_framed (captureStopEff_frame ..) (decide_eq_true hses) hrun (if_pos hoff)
  · have hrunning : s.cap.st ≠ .off := by rw [hon]; decide
    refine ⟨captureStart_running hrun hses hrunning, ?_, captureRelease_refused hrun hses (by rw [hon]; decide),
      captureStop_running hrun hses hrunning⟩
    rw [captureFreeze_running hrun hses hrunning, capTrigger, hon]
  · have hrunning : s.cap.st ≠ .off := by
      obtain h | h := hended
      · rw [h]; decide
      · rw [h]; decide
    refine ⟨captureStart_running hrun hses hrunning, ?_,
      fun hpost => captureRelease_refused hrun hses (by rw [hpost]; decide), captureStop_running hrun hses hrunning⟩
    rw [captureFreeze_running hrun hses hrunning, capTrigger_ignored 0 hended]
  · exact ⟨_, captureRelease_frozen hrun hses hfrozen, rfl, rfl, rfl, rfl, rfl⟩
  · refine run_framed (postExpiryEff_frame s) rfl hrun (if_neg fun ⟨hpost, hdue⟩ => ?_)
    exact hno.elim (fun h => h hpost) fun h => absurd hdue (not_le.mpr h)
  · have hs := postExpiryEff_frame s
    have heff : postExpiryEff s = State.raise { capMarker 2 s with cap := { (capMarker 2 s).cap with st := .frozen } }
        0x1001 noInst := if_pos ⟨hpost, hdue⟩
    exact ⟨_, run_framed hs rfl hrun rfl, by rw [heff]; rfl, by rw [heff]; exact raised_raise .., hs.loop_eq⟩

end Sys2Proof.Machine
end

section
/-! SUPPORT. Proof: frames at the port, its link, its pauses (14_network_port.md: Port modes, The basin). -/

namespace Sys2Proof.Machine

set_option Elab.async false

/-! ### Commands of the port -/

theorem serve_to {s u : State} {f : State → State} (hserve : s.serving 0 = true) (hf : f s = u)
    (hp : u.pending = s.pending := by rfl) : runServed true 0 s f = .next u := by
  rw [runServed, runIf, hserve]
  show Host.Outcome.next { f s with pending := s.pending } = _
  rw [hf, ← hp]

theorem serve_framed {l : List Part} {s u : State} {f : State → State} (hs : SameBut l s (f s))
    (hserve : s.serving 0 = true) (hf : f s = u) (hl : .pending ∉ l := by decide) : runServed true 0 s f = .next u :=
  serve_to hserve hf (hf ▸ hs.pending_eq hl)

/-! ### The count of accepted frames -/

theorem ite_framesIn {c : Prop} [Decidable c] {u v : State} {n : Nat} (hu : u.port.framesIn = n)
    (hv : v.port.framesIn = n) : (if c then u else v).port.framesIn = n := by
  split
  · exact hu
  · exact hv

theorem sendJ1_framesIn (s : State) (x : Tx) : (s.sendJ1 x).port.framesIn = s.port.framesIn := by
  rw [State.sendJ1]
  split
  · rfl
  · rfl

theorem sendPause_framesIn (n : Nat) (s : State) : (sendPause n s).port.framesIn = s.port.framesIn :=
  sendJ1_framesIn ..

theorem sendTrasia_framesIn (ses : Nat) (stream : Option Nat) (f : Bytes) (s : State) :
    (sendTrasia ses stream f s).port.framesIn = s.port.framesIn := by
  dsimp only [sendTrasia]
  split
  · rfl
  · split
    · rfl
    · exact sendJ1_framesIn ..

theorem noteOccupancy_framesIn (s : State) : (noteOccupancy s).port.framesIn = s.port.framesIn := by
  dsimp only [noteOccupancy]
  split
  · exact sendPause_framesIn ..
  · rfl

theorem keeperDrop_framesIn (s : State) : (keeperDrop s).port.framesIn = s.port.framesIn := by
  dsimp only [keeperDrop]
  generalize lastSecond s.now s.port.dropTimes = l
  rw [when_]
  split
  · rfl
  · rfl

theorem reportArrives_framesIn (f : Bytes) (s : State) : (reportArrives f s).port.framesIn = s.port.framesIn := by
  rw [reportArrives]
  split
  · rfl
  · exact noteOccupancy_framesIn ..

theorem resendKept_framesIn (m : Trasia) (s : State) : (resendKept m s).port.framesIn = s.port.framesIn := by
  rw [resendKept]
  split
  · split
    · rfl
    · exact sendTrasia_framesIn ..
  · rfl

theorem requestArrives_framesIn (m : Trasia) (f : Bytes) (s : State) :
    (requestArrives m f s).port.framesIn = s.port.framesIn := by
  have henter := noteOccupancy_framesIn { s with port := { s.port with keeper := s.port.keeper ++ [(s.now, f)] } }
  obtain ⟨judge, hjudge⟩ : ∃ judge, judgeSeq = judge := ⟨_, rfl⟩
  dsimp only [requestArrives]
  rw [hjudge]
  refine ite_framesIn (keeperDrop_framesIn s) (ite_framesIn henter ?_)
  split
  · split
    · exact henter
    · rfl
    · rfl
  · split
    · exact henter
    · exact resendKept_framesIn ..
    · rfl

/-- A datagram accepted carries a Trasia frame. -/
theorem judgeUdp_accepted {s : State} {vlan : Nat} {d : Datagram} {g : Bytes} (h : judgeUdp s vlan d = .accepted g) :
    ∃ m, parseTrasia g = some m := by
  dsimp only [judgeUdp] at h
  generalize slice d.udp 8 (ofBe (slice d.udp 4 2) - 8) = f at h
  generalize (if d.v6 then s.answers6 d.dst vlan else s.answers4 d.dst) = here at h
  split at h
  · cases h
  next hlen =>
    split at h
    · cases h
    next hcrc =>
      split at h
      next hver =>
        cases h
        refine ⟨_, if_pos ⟨?_, hver.1, ?_⟩⟩
        · exact not_lt.mp fun h => hlen (.inr (.inr (.inr h)))
        · exact not_not.mp fun h => hcrc (.inr h)
      · cases h

theorem judgeFrame_accepted {s : State} {f g : Bytes} (h : judgeFrame s f = .accepted g) :
    ∃ m, parseTrasia g = some m := by
  dsimp only [judgeFrame] at h
  split at h
  · cases h
  · split at h
    · cases h
    · split at h
      · cases h
      · split at h
        · cases h
        · split at h
          · cases h
          · split at h
            · cases h
            · split at h
              · cases h
              · exact judgeUdp_accepted h

theorem frameArrives_framesIn {g : Bytes} {m : Trasia} {s : State} (hg : parseTrasia g = some m) :
    (frameArrives g s).port.framesIn = s.port.framesIn + 1 := by
  rw [frameArrives, hg]
  dsimp only
  split
  · rfl
  · split
    · split
      · rfl
      · exact reportArrives_framesIn ..
    · exact requestArrives_framesIn ..

/-! ### Frames -/

/-- What a judged frame does (R387). -/
def takeRx (r : Rx) (s : State) : State :=
  match r with
  | .other => s
  | .ptp vlan transport m => if transport = s.cfgU 0x1200 0x03 then ptpArrives vlan m s else s
  | .dropped => { s with port := { s.port with parseDrops := sat32 (s.port.parseDrops + 1) } }
  | .crcFailed => crcFailure s
  | .accepted f => frameArrives f s

theorem ptpArrives_theta (v : Nat) (p : Bytes) (s : State) : (ptpArrives v p s).clk.theta = s.clk.theta := by
  rw [ptpArrives]
  split
  · split
    · rw [announceHeard]
      dsimp only
      split
      · rw [newMaster]
        split
        · rfl
        · rfl
      · rfl
    · rfl
  · split
    · rw [delayResp]
      split
      · rfl
      · rw [(State.sendJ1_frame ..).clk_eq]
    · rfl
  · rfl

section
variable {s : State} {f : Bytes}

theorem ethernetEff_judged {r : Rx} (hlink : s.port.link = 2) (hr : judgeFrame s f = r) :
    ethernetEff f s = takeRx r s := by
  rw [← hr]
  exact if_neg (not_not.mpr hlink)

theorem sendNear_now {x : HeldNear} (hlink : s.port.link = 2) (hpause : s.paused 0 = false) :
    s.sendNear x = s.sendJ1 (.neighbour x.v6 x.announce x.address) := by
  rw [State.sendNear, if_neg (not_not.mpr hlink), hpause, if_neg Bool.false_ne_true]

theorem sendNear_waits {x : HeldNear} (hlink : s.port.link = 2) (hpause : s.paused 0 = true) :
    s.sendNear x = { s with port := { s.port with heldNear := s.port.heldNear ++ [x] } } := by
  rw [State.sendNear, if_neg (not_not.mpr hlink), hpause, if_pos rfl]

variable (hlink : s.port.link = 2) (hvlan : s.vlanKnown (parseEth f).vlan = true)
include hlink hvlan

/-- An ARP request for an address of the module is answered. -/
theorem neighbourEff_arp (htype : (parseEth f).etype = 0x0806)
    (hreq : slice (parseEth f).body 0 8 = [0x00, 0x01, 0x08, 0x00, 0x06, 0x04, 0x00, 0x01])
    (hans : s.answers4 (ofBe (slice (parseEth f).body 24 4)) = true) :
    neighbourEff f s = s.sendNear ⟨false, false, ofBe (slice (parseEth f).body 24 4)⟩ := by
  have hgo : ¬(s.port.link ≠ 2 ∨ s.vlanKnown (parseEth f).vlan = false) :=
    fun h => h.elim (fun h => h hlink) fun h => by rw [hvlan] at h; cases h
  rw [neighbourEff, if_neg hgo, if_pos ⟨htype, hreq, hans⟩]

/-- A Neighbour Solicitation for an address of the module is answered. -/
theorem neighbourEff_nd (htype : (parseEth f).etype = 0x86DD) (hicmp : u8At (parseEth f).body 6 = 58)
    (hns : u8At (parseEth f).body 40 = 135)
    (hans : s.answers6 (ofBe (slice (parseEth f).body 48 16)) (parseEth f).vlan = true) :
    neighbourEff f s = s.sendNear ⟨true, false, ofBe (slice (parseEth f).body 48 16)⟩ := by
  have hgo : ¬(s.port.link ≠ 2 ∨ s.vlanKnown (parseEth f).vlan = false) :=
    fun h => h.elim (fun h => h hlink) fun h => by rw [hvlan] at h; cases h
  have harp : ¬((parseEth f).etype = 0x0806 ∧
      slice (parseEth f).body 0 8 = [0x00, 0x01, 0x08, 0x00, 0x06, 0x04, 0x00, 0x01] ∧
      s.answers4 (ofBe (slice (parseEth f).body 24 4)) = true) := by
    rw [htype]
    rintro ⟨h, -⟩
    cases h
  rw [neighbourEff, if_neg hgo, if_neg harp, if_pos ⟨htype, hicmp, hns, hans⟩]

end

/-- Settles O39: by the judgement of a frame and of a neighbour's request. -/
theorem portFrames : Obligations.PortFrames := by
  refine ⟨fun s f hserve hlink => ⟨?_, ?_⟩, fun s f hserve hlink hr => ?_, fun s f hserve hlink hr => ?_,
    fun s f hserve hlink hr => ?_, fun s f hserve hvlan => ?_,
    fun s f hserve hlink hvlan htype hicmp hns hans hpause => ?_, fun s f g hserve hlink hr => ?_,
    fun s f hserve hlink hvlan htype hreq hans hpause => ?_,
    fun s f hserve hlink hvlan htype hreq hans hpause => ?_, fun s f v t p hserve hlink hr => ?_⟩
  · exact serve_to hserve (if_pos hlink)
  · exact serve_to hserve (if_pos (.inl hlink))
  · exact serve_to hserve (ethernetEff_judged hlink hr)
  · have hs := crcFailure_frame s
    have hport : SameBut [.fm] { s with port := { s.port with
        crcFails := sat32 (s.port.crcFails + 1), crcTimes := lastSecond s.now s.port.crcTimes
        up1205 := decide (100 < (lastSecond s.now s.port.crcTimes).length) } } (crcFailure s) :=
      .when_ fun _ => State.raise_frame ..
    refine ⟨_, serve_framed (ethernetEff_frame f s) hserve (ethernetEff_judged hlink hr),
      congrArg (·.crcFails) hport.port_eq, congrArg (·.parseDrops) hport.port_eq, hs.loop_eq, hs.sess_eq⟩
  · exact serve_to hserve (ethernetEff_judged hlink hr)
  · exact serve_to hserve (if_pos (.inr hvlan))
  · exact serve_framed (neighbourEff_frame f s) hserve
      ((neighbourEff_nd hlink hvlan htype hicmp hns hans).trans (sendNear_now hlink hpause))
  · obtain ⟨m, hm⟩ := judgeFrame_accepted hr
    have hs := frameArrives_frame g s
    exact ⟨_, serve_framed (ethernetEff_frame f s) hserve (ethernetEff_judged hlink hr), frameArrives_framesIn hm,
      hs.loop_eq, hs.phases_eq, hs.trays_eq, hs.od_eq, hs.sec_eq⟩
  · exact serve_framed (neighbourEff_frame f s) hserve
      ((neighbourEff_arp hlink hvlan htype hreq hans).trans (sendNear_now hlink hpause))
  · exact serve_framed (neighbourEff_frame f s) hserve
      ((neighbourEff_arp hlink hvlan htype hreq hans).trans (sendNear_waits hlink hpause))
  · have heff := ethernetEff_judged hlink hr
    by_cases ht : t = s.cfgU 0x1200 0x03
    · have hs := ptpArrives_frame v p s
      exact ⟨_, serve_framed (ethernetEff_frame f s) hserve (heff.trans (if_pos ht)), fun h => absurd ht h, hs.loop_eq,
        hs.phases_eq, hs.trays_eq, hs.od_eq, hs.sess_eq, ptpArrives_theta ..⟩
    · exact ⟨s, serve_to hserve (heff.trans (if_neg ht)), fun _ => rfl, rfl, rfl, rfl, rfl, rfl, rfl⟩

end Sys2Proof.Machine
end

section
/-! SUPPORT. Proof: the port's link, pauses, counters and sessions (14_network_port.md: Port modes, The basin). -/

namespace Sys2Proof.Machine

set_option Elab.async false

/-! ### Received pauses -/

/-- The pauses received stand as they stood. -/
structure SamePauses (s u : State) : Prop where
  got : u.port.pfcGot = s.port.pfcGot
  until_ : u.port.pauseUntil = s.port.pauseUntil

namespace SamePauses
variable {s u v : State}

theorem refl : SamePauses s s := ⟨rfl, rfl⟩

theorem trans (h : SamePauses s u) (h' : SamePauses u v) : SamePauses s v :=
  ⟨h'.got.trans h.got, h'.until_.trans h.until_⟩

theorem ite {c : Prop} [Decidable c] (h : SamePauses s u) (h' : SamePauses s v) : SamePauses s (if c then u else v) := by
  split
  · exact h
  · exact h'

theorem foldl {β : Type} {f : State → β → State} (hf : ∀ s b, SamePauses s (f s b)) {xs : List β} {s : State} :
    SamePauses s (xs.foldl f s) := foldl_keeps (SamePauses s) f xs (fun t b h => h.trans (hf t b)) s .refl

/-- A step that leaves the pauses as they are goes before. -/
theorem after (h : SamePauses u v) (hgot : u.port.pfcGot = s.port.pfcGot := by rfl)
    (huntil : u.port.pauseUntil = s.port.pauseUntil := by rfl) : SamePauses s v :=
  ⟨h.got.trans hgot, h.until_.trans huntil⟩

theorem of_port (h : u.port = s.port) : SamePauses s u := ⟨by rw [h], by rw [h]⟩

end SamePauses

theorem sendJ1_samePauses (s : State) (x : Tx) : SamePauses s (s.sendJ1 x) := .ite .refl ⟨rfl, rfl⟩

theorem sendNear_samePauses (s : State) (x : HeldNear) : SamePauses s (s.sendNear x) :=
  .ite .refl (.ite ⟨rfl, rfl⟩ (sendJ1_samePauses ..))

theorem emitTrasia_samePauses (ses pcp : Nat) (f : Bytes) (s : State) : SamePauses s (emitTrasia ses pcp f s) :=
  .trans (.of_port (State.updSess_frame ..).port_eq) (sendJ1_samePauses ..)

theorem delayResp_samePauses (seq : Nat) (time : Int) (peer : Nat) (s : State) :
    SamePauses s (delayResp seq time peer s) :=
  .ite ⟨rfl, rfl⟩ (sendJ1_samePauses ..)

theorem ptpEmit_samePauses (k : PtpMessage) (s : State) : SamePauses s (ptpEmit k s) := by
  dsimp only [ptpEmit]
  refine .ite .refl ?_
  cases k with
  | sync =>
    dsimp only
    exact .ite (.trans (.after (sendJ1_samePauses ..)) (sendJ1_samePauses ..)) (.after (sendJ1_samePauses ..))
  | announce => exact .after (sendJ1_samePauses ..)
  | delayReq => exact .after (sendJ1_samePauses ..)

theorem flushPtp_samePauses (s : State) : SamePauses s (flushPtp s) := by
  refine .ite .refl (.after (.foldl fun s h => ?_))
  cases h with
  | own k => exact ptpEmit_samePauses ..
  | resp seq time peer => exact delayResp_samePauses ..

theorem flushNear_samePauses (s : State) : SamePauses s (flushNear s) :=
  .ite .refl (.after (.foldl fun _ _ => sendNear_samePauses ..))

theorem flushHeld_samePauses (s : State) : SamePauses s (flushHeld s) := by
  rw [flushHeld]
  refine .after (.foldl fun s h => ?_)
  exact .ite ⟨rfl, rfl⟩ (emitTrasia_samePauses ..)

theorem flushJ1_samePauses (s : State) : SamePauses s (flushJ1 s) :=
  ((flushPtp_samePauses s).trans (flushNear_samePauses _)).trans (flushHeld_samePauses _)

/-- The pauses of the priorities below n, of the flags and the quanta of a PFC frame. -/
def pauseBelow (b : Bytes) (n : Nat) (s : State) : State :=
  (List.range n).foldl (fun s p =>
    if bit (ofBe (slice b 2 2)) p then pausePriority p (ofBe (slice b (4 + 2 * p) 2)) s else s) s

theorem pauseBelow_succ (b : Bytes) (n : Nat) (s : State) : pauseBelow b (n + 1) s =
    if bit (ofBe (slice b 2 2)) n then pausePriority n (ofBe (slice b (4 + 2 * n) 2)) (pauseBelow b n s)
    else pauseBelow b n s := by
  rw [pauseBelow, List.range_succ, List.foldl_append]
  rfl

/-- What a PFC frame has done to the pauses once it has come to priority n. -/
structure PausedBelow (b : Bytes) (n : Nat) (s u : State) : Prop where
  now : u.now = s.now
  lanes : u.port.lanes = s.port.lanes
  gots : u.port.pfcGot.length = 8
  untils : u.port.pauseUntil.length = 8
  named : ∀ p, p < n → bit (ofBe (slice b 2 2)) p = true →
    get 0 u.port.pfcGot p = sat32 (get 0 s.port.pfcGot p + 1) ∧
      get 0 u.port.pauseUntil p = s.now + quantaTime s.port.lanes (ofBe (slice b (4 + 2 * p) 2))
  others : ∀ p, n ≤ p ∨ bit (ofBe (slice b 2 2)) p = false →
    get 0 u.port.pfcGot p = get 0 s.port.pfcGot p ∧ get 0 u.port.pauseUntil p = get 0 s.port.pauseUntil p

theorem pauseBelow_pauses {b : Bytes} {s : State} (hgot : s.port.pfcGot.length = 8)
    (huntil : s.port.pauseUntil.length = 8) {n : Nat} (hn : n ≤ 8) : PausedBelow b n s (pauseBelow b n s) := by
  induction n with
  | zero => exact ⟨rfl, rfl, hgot, huntil, fun p hp => absurd hp (Nat.not_lt_zero p), fun p _ => ⟨rfl, rfl⟩⟩
  | succ n ih =>
    obtain ⟨hnow, hlanes, hgots, huntils, hnamed, hothers⟩ := ih (Nat.le_of_succ_le hn)
    rw [pauseBelow_succ]
    split
    next hbit =>
      obtain ⟨hgotn, huntiln⟩ := hothers n (.inl (le_refl n))
      refine ⟨hnow, hlanes, (List.length_modify ..).trans hgots, (List.length_modify ..).trans huntils,
        fun p hp hpb => ?_, fun p hp => ?_⟩
      · obtain rfl | hlt := Nat.eq_or_lt_of_le (Nat.lt_succ_iff.mp hp)
        · refine ⟨?_, ?_⟩
          · exact (get_upd_same _ _ _ _ (by omega)).trans (by rw [hgotn])
          · exact (get_upd_same _ _ _ _ (by omega)).trans (by rw [hnow, hlanes])
        · obtain ⟨h, h'⟩ := hnamed p hlt hpb
          exact ⟨(get_upd_other _ _ _ _ _ (by omega)).trans h, (get_upd_other _ _ _ _ _ (by omega)).trans h'⟩
      · have hne : n ≠ p := by
          rintro rfl
          obtain h | h := hp
          · omega
          · rw [hbit] at h
            cases h
        obtain ⟨h, h'⟩ := hothers p (hp.imp_left Nat.le_of_succ_le)
        exact ⟨(get_upd_other _ _ _ _ _ hne).trans h, (get_upd_other _ _ _ _ _ hne).trans h'⟩
    next hbit =>
      refine ⟨hnow, hlanes, hgots, huntils, fun p hp hpb => hnamed p ?_ hpb, fun p hp => hothers p ?_⟩
      · refine Nat.lt_of_le_of_ne (Nat.lt_succ_iff.mp hp) ?_
        rintro rfl
        exact hbit hpb
      · exact hp.imp_left Nat.le_of_succ_le

/-- A PFC frame pauses what it names, and what waits no longer leaves. -/
theorem pfcReceivedEff_pauses {f : Bytes} {s : State} (hlink : s.port.link = 2) (htype : ofBe (slice f 12 2) = 0x8808)
    (hop : ofBe (slice (f.drop 14) 0 2) = 0x0101) (hlen : 20 ≤ (f.drop 14).length) :
    SamePauses (pauseBelow (f.drop 14) 8 (endGrantPause s)) (pfcReceivedEff f s) := by
  rw [pfcReceivedEff, if_pos ⟨hlink, htype, hop, hlen⟩]
  exact .after (flushJ1_samePauses _)

/-! ### The link and the basin -/

theorem sendJ1_port (s : State) (x : Tx) : ∃ n, (s.sendJ1 x).port = { s.port with sent := n } := by
  rw [State.sendJ1]
  split
  · exact ⟨_, rfl⟩
  · exact ⟨_, rfl⟩

/-- A pause frame leaves all of the port but its counts. -/
theorem sendPause_port (q : Nat) (s : State) :
    ∃ m n, (sendPause q s).port = { s.port with pfcSent := m, sent := n } := by
  obtain ⟨n, hn⟩ := sendJ1_port { s with port := { s.port with pfcSent := sat32 (s.port.pfcSent + 1) } }
    (.pfc (s.cfgU 0x1300 0x01) q)
  exact ⟨_, n, hn⟩

theorem linkChangeEff_up {s : State} {n : Nat} (hlink : s.port.link ≠ 2) (hn : n ∈ [8, 4, 2])
    (hlanes : n ≤ modeLanes (if s.port.link = 1 then s.port.mode else s.portMode)) :
    linkChangeEff true n s = when_ (decide (n < modeLanes (if s.port.link = 1 then s.port.mode else s.portMode)))
      (fun s => s.raise 0x1202 noInst) { s with port := { s.port with
        link := 2, lanes := n, mode := if s.port.link = 1 then s.port.mode else s.portMode
        linkUps := sat32 (s.port.linkUps + 1) } } := by
  have hgo : ¬(s.port.link = 2 ∨ n ∉ [8, 4, 2] ∨
      modeLanes (if s.port.link = 1 then s.port.mode else s.portMode) < n) := by
    rintro (h | h | h)
    · exact hlink h
    · exact h hn
    · exact absurd h (not_lt.mpr hlanes)
  rw [linkChangeEff]
  dsimp only
  rw [if_pos rfl, if_neg hgo]

/-- A link that was up is lost, and that is raised. -/
theorem portDown_lost {s : State} (st : Nat) (hlink : s.port.link = 2) : portDown st s = State.raise { s with
    port := { s.port with
      link := st, lanes := 0, held := [], heldPtp := [], heldNear := [], pauseUntil := List.replicate 8 0
      pauseFrom := List.replicate 8 none, up1206 := false
      mode := if st = 1 then s.portMode else s.port.mode } } 0x1201 noInst := by
  rw [portDown]
  dsimp only
  rw [hlink]
  rfl

/-- Settles O40: by the branches of each row, and over the priorities a PFC frame names. -/
theorem portState : Obligations.PortState := by
  refine ⟨fun s n k hserve hlink hk hn hlanes => ?_, fun s n hserve hlink hlt hlanes => ?_,
    fun s n hserve hlink => ?_, fun s a hrun hpause hhigh hdue => ?_, fun s a hrun hpause hlow => ?_,
    fun s a hrun hpause hlong hup => ?_, fun s hrun hpause hup => ?_, fun s f hrun hlink => ?_,
    fun s f hrun hlink htype hop hlen hgot huntil => ?_, fun s ses hrun hses hlocked hacq hlink => ?_,
    fun s ses hrun hses hst hlink => ?_, fun s ses n hrun hses hn => ?_, fun s ses hrun hses => ⟨?_, ?_⟩,
    fun s ses n hrun hses hn => ?_⟩
  · have hmem : n ∈ [8, 4, 2] := by
      obtain rfl | rfl | rfl := hlanes <;> decide
    subst hk
    refine serve_to hserve ((linkChangeEff_up hlink hmem hn.le).trans ?_)
    rw [decide_eq_false (not_lt.mpr hn.ge), when_false]
  · have hmem : n ∈ [8, 4, 2] := by
      obtain rfl | rfl := hlanes <;> decide
    have heff := linkChangeEff_up hlink hmem hlt.le
    rw [decide_eq_true hlt, when_true] at heff
    exact ⟨_, serve_framed (linkChangeEff_frame true n s) hserve heff, rfl, rfl, raised_raise ..⟩
  · have hnone (p : Nat) : get 0 (List.replicate 8 0) p ≤ s.now := by
      rw [get, List.getD_eq_getElem?_getD, List.getElem?_getD_replicate_default_eq]
      exact Nat.zero_le _
    refine ⟨_, serve_framed (linkChangeEff_frame false n s) hserve (portDown_lost 0 hlink), rfl, rfl, rfl, rfl, rfl,
      fun p => decide_eq_false (not_lt.mpr (hnone p)), raised_raise .., rfl⟩
  · have hs := pauseRepeatEff_frame s
    have heff : pauseRepeatEff s = sendPause 65535 { s with port := { s.port with pauseAt := s.now } } :=
      if_pos ⟨by rw [hpause]; rfl, hhigh, hdue⟩
    obtain ⟨_, _, hport⟩ := sendPause_port 65535 { s with port := { s.port with pauseAt := s.now } }
    rw [← heff] at hport
    exact ⟨_, run_framed hs rfl hrun rfl, by rw [hport], by rw [hport, hpause], hs.loop_eq⟩
  · have hs := pauseReleaseEff_frame s
    have heff : pauseReleaseEff s = sendPause 0 { s with port := { s.port with
        pauseSince := none, paused := s.port.paused + (s.now - s.port.countFrom), up1203 := false } } :=
      if_pos ⟨by rw [hpause]; rfl, hlow⟩
    obtain ⟨_, _, hport⟩ := sendPause_port 0 { s with port := { s.port with
        pauseSince := none, paused := s.port.paused + (s.now - s.port.countFrom), up1203 := false } }
    rw [← heff] at hport
    exact ⟨_, run_framed hs rfl hrun rfl, by rw [hport], by rw [hport], hs.loop_eq⟩
  · refine run_framed (pauseLongEff_frame s) rfl hrun ?_
    rw [pauseLongEff, hpause]
    exact if_pos ⟨hlong, hup⟩
  · refine run_framed (grantPauseEff_frame s) rfl hrun ?_
    rw [grantPauseEff]
    dsimp only
    rw [hpause, hup]
    rfl
  · exact run_to rfl hrun (if_neg fun h => hlink h.1)
  · have hs := pfcReceivedEff_frame f s
    have hsame := pfcReceivedEff_pauses hlink htype hop hlen
    have hfold := pauseBelow_pauses (b := f.drop 14) (s := endGrantPause s) hgot huntil (le_refl 8)
    refine ⟨_, run_framed hs rfl hrun rfl, fun p hp => ⟨fun hb => ?_, fun hb => ?_⟩, hs.loop_eq, hs.od_eq, hs.phases_eq⟩
    · rw [hsame.got, hsame.until_]
      exact hfold.named p hp hb
    · rw [hsame.got, hsame.until_]
      exact hfold.others p (.inr hb)
  · have heff : portRetrainEff s = portDown 1 s := by
      rw [portRetrainEff, (portDown_frame ..).clk_eq, if_neg (not_or.mpr ⟨hlocked, hacq⟩)]
    exact ⟨_, run_framed (portRetrainEff_frame s) (decide_eq_true hses) hrun (heff.trans (portDown_lost 1 hlink)), rfl,
      rfl, rfl, rfl⟩
  · have heff : portRetrainEff s = toAcquiring false (portDown 1 s) := by
      rw [portRetrainEff, (portDown_frame ..).clk_eq, if_pos hst]
    rw [portDown_lost 1 hlink] at heff
    exact ⟨_, run_framed (portRetrainEff_frame s) (decide_eq_true hses) hrun heff, rfl, rfl, rfl, rfl,
      raised_raise .., rfl⟩
  · have habsent := runObj_absent ses (0x1100 + n) 0x07 s (sessionResetEff n) hses hrun
    rwa [← decide_eq_false (not_lt.mpr hn)] at habsent
  · exact run_framed (portClearEff_frame s) (decide_eq_true hses) hrun rfl
  · exact run_framed (flowClearEff_frame s) (decide_eq_true hses) hrun rfl
  · exact runObj_framed (sessionResetEff_frame n s) hses (decide_eq_true hn) hrun rfl

end Sys2Proof.Machine
end

section
/-! SUPPORT. Proof: Trasia requests (14_network_port.md: Trasia frames; 15_object_dictionary.md: Access). -/

namespace Sys2Proof.Machine

set_option Elab.async false

/-- A command of a frame ends in what the request gives. -/
theorem request_to {s u : State} {f : State → State} (hf : f s = u) (hp : u.pending = s.pending := by rfl) :
    runIf true true s f = .next u := by
  rw [runIf]
  show Host.Outcome.next { f s with pending := s.pending } = _
  rw [hf, ← hp]

theorem request_framed {l : List Part} {s u : State} {f : State → State} (hs : SameBut l s (f s)) (hf : f s = u)
    (hl : .pending ∉ l := by decide) : runIf true true s f = .next u :=
  request_to hf (hf ▸ hs.pending_eq hl)

theorem request_acts {s u : State} {f : State → State} (hf : f s = u) :
    runIf true true s f = .next { u with pending := s.pending } := by
  rw [← hf]
  rfl

/-- The state of a module that has taken a new request. -/
def taken (f : Bytes) (m : Trasia) (s : State) : State :=
  (dequeue f s).updSess m.ses (fun x => { x with lastSeq := some m.seq, kept := none })

theorem taken_frame (f : Bytes) (m : Trasia) (s : State) : SameBut [.port, .sess] s (taken f m s) :=
  .step (.mono (dequeue_frame ..)) (State.updSess_frame ..)

section
variable {op : Nat} {f : Bytes} {m : Trasia} {g : Trasia → State → State} {s : State}
  (hparse : parseTrasia f = some m) (hop : m.op = op) (hserve : s.serving m.ses = true)

include hparse in
theorem request_closed (h : s.cfgU (0x1100 + m.ses) 0x01 ≠ 1) :
    request op f g s = s ∨ request op f g s = dequeue f s := by
  have hoff : Config.sessions ≤ m.ses ∨ (dequeue f s).cfgU (0x1100 + m.ses) 0x01 ≠ 1 :=
    .inr (by rwa [(dequeue_frame ..).cfgU_eq])
  rw [request, hparse]
  dsimp only
  split
  · exact .inl rfl
  · exact .inr rfl

variable (hses : m.ses < Config.sessions) (hopen : s.cfgU (0x1100 + m.ses) 0x01 = 1)
include hparse hop hserve hses hopen

/-- A frame of an enabled session leaves the queue and is judged. -/
theorem request_open : request op f g s = if m.malformed then (dequeue f s).violateOp m.ses op
    else match judgeSeq ((dequeue f s).session m.ses).lastSeq m.seq with
      | .duplicate => resendKept m (dequeue f s)
      | .stale => countStale m.ses (dequeue f s)
      | .new => g m (taken f m s) := by
  have hgo : ¬(m.op ≠ op ∨ s.serving m.ses = false) :=
    fun h => h.elim (fun h => h hop) fun h => by rw [hserve] at h; cases h
  have hon : ¬(Config.sessions ≤ m.ses ∨ (dequeue f s).cfgU (0x1100 + m.ses) 0x01 ≠ 1) := by
    rw [(dequeue_frame ..).cfgU_eq]
    exact fun h => h.elim (not_le.mpr hses) fun h => h hopen
  obtain ⟨judge, hjudge⟩ : ∃ judge, judgeSeq = judge := ⟨_, rfl⟩
  rw [request, hparse, hjudge]
  dsimp only
  rw [if_neg hgo, if_neg hon]
  rfl

theorem request_malformed (h : m.malformed = true) : request op f g s = (dequeue f s).violateOp m.ses op := by
  rw [request_open hparse hop hserve hses hopen, h, if_pos rfl]

variable (hform : m.malformed = false)
include hform

theorem request_new (h : judgeSeq ((dequeue f s).session m.ses).lastSeq m.seq = .new) :
    request op f g s = g m (taken f m s) := by
  rw [request_open hparse hop hserve hses hopen, hform, if_neg Bool.false_ne_true, h]

theorem request_duplicate (h : judgeSeq ((dequeue f s).session m.ses).lastSeq m.seq = .duplicate) :
    request op f g s = resendKept m (dequeue f s) := by
  rw [request_open hparse hop hserve hses hopen, hform, if_neg Bool.false_ne_true, h]

theorem request_stale (h : judgeSeq ((dequeue f s).session m.ses).lastSeq m.seq = .stale) :
    request op f g s = countStale m.ses (dequeue f s) := by
  rw [request_open hparse hop hserve hses hopen, hform, if_neg Bool.false_ne_true, h]

end

/-! ### Operations -/

section
variable {m : Trasia} {w : State}

theorem ifPermitted_yes {g : State → State} (h : w.permits m = true) : ifPermitted m g w = g w := if_pos h

theorem ifPermitted_no {g : State → State} (h : w.permits m = false) : ifPermitted m g w = w.violateOp m.ses m.op :=
  if_neg (ne_true_of_eq_false h)

/-- A write that is ignored opens no transaction. -/
theorem opensLate_violateOp (ses op : Nat) : opensLate w (w.violateOp ses op) = false := by
  rw [opensLate, (State.violateOp_frame ..).txn_eq, bne_self_eq_false, Bool.false_and]

theorem writeBlockEff_late (h : w.permits m = true)
    (hlate : opensLate w (writeBlockBody none m.ses m.payload w) = true) :
    (writeBlockEff m w).txn = (writeBlockBody none m.ses m.payload w).txn ∧
      (writeBlockEff m w).tx = (writeBlockBody none m.ses m.payload w).tx := by
  rw [writeBlockEff, ifPermitted_yes h]
  dsimp only
  rw [if_pos hlate]
  split
  · exact ⟨rfl, rfl⟩
  · exact ⟨rfl, rfl⟩

theorem writeBlockEff_now (h : w.permits m = true)
    (hnow : opensLate w (writeBlockBody none m.ses m.payload w) = false) :
    writeBlockEff m w = reply m [] (writeBlockBody none m.ses m.payload w) := by
  rw [writeBlockEff, ifPermitted_yes h]
  dsimp only
  rw [if_neg (ne_true_of_eq_false hnow)]

theorem writeBlockEff_refused (h : w.permits m = false) :
    writeBlockEff m w = reply m [] (w.violateOp m.ses m.op) := by
  rw [writeBlockEff, ifPermitted_no h]
  dsimp only
  rw [if_neg (ne_true_of_eq_false (opensLate_violateOp ..))]

theorem quoteEff_asks (h : w.permits m = true) (hreply : bit m.flags 1 = false) : quoteEff m w = quoteBody m w := by
  rw [quoteEff, if_neg (ne_false_of_eq_true h), if_neg (ne_true_of_eq_false hreply)]

end

theorem quoteRequest_frame (f : Bytes) (s : State) : SameBut [.tx, .fm, .sec, .port, .sess] s (request 9 f quoteEff s) :=
  request_frame fun _ _ => .mono (quoteEff_frame ..)

/-- Settles O41: by how a frame is judged, and by the rights of its operation. -/
theorem requestsTaken : Obligations.RequestsTaken := by
  refine ⟨fun s f m hparse hserve hses hopen hform hnew => ?_,
    fun s f m hparse hop hserve hses hopen hform hdup => ?_,
    fun s f m hparse hop hserve hses hopen hform hold => ?_, fun s f m hparse hop hserve hses hopen hform => ?_,
    fun s f m hparse hop hclosed => ?_, fun s f hparse => ?_⟩
  · intro w
    have heff {op : Nat} (g : Trasia → State → State) (hop : m.op = op) : request op f g s = g m w :=
      request_new hparse hop hserve hses hopen hform hnew
    have hpending : w.pending = s.pending := (taken_frame f m s).pending_eq
    have hnow : w.now = s.now := (taken_frame f m s).now_eq
    clear_value w
    refine ⟨fun hop h => ?_, fun hop h => ?_, fun hop h => ?_, fun hop h hn hlim => ?_, fun hop h hbad => ?_,
      fun hop h hnow => ?_, fun hop h hlate => ?_, fun hop h => ?_,
      fun h => ⟨fun hop => ?_, fun hop => ?_, fun hop => ?_, fun hop => ?_, fun hop => ?_, fun hop => ?_, fun hop => ?_⟩,
      fun hop h hreply => ?_, fun hop h hreply hfull => ?_, fun hop h => ?_, fun hop h => ?_,
      fun hop h hreply hroom => ?_⟩
    · exact request_framed (request_frame readEff_frame) ((heff _ hop).trans (if_pos h))
    · refine request_acts ((heff _ hop).trans ?_)
      rw [writeEff, ifPermitted_yes h]
    · refine request_to ((heff _ hop).trans ?_) ((reply_frame ..).pending_eq.trans hpending)
      rw [writeEff, ifPermitted_no h, hop]
    · refine request_framed (request_frame readBlockEff_frame) ((heff _ hop).trans ?_)
      rw [readBlockEff, if_neg (ne_false_of_eq_true h), if_neg (not_or.mpr ⟨hn.ne', not_lt.mpr hlim⟩)]
    · refine request_framed (request_frame readBlockEff_frame) ((heff _ hop).trans ?_)
      rw [readBlockEff, if_neg (ne_false_of_eq_true h), if_pos hbad]
    · exact request_acts ((heff _ hop).trans (writeBlockEff_now h hnow))
    · obtain ⟨htxn, htx⟩ := writeBlockEff_late h hlate
      exact ⟨_, request_acts (heff _ hop), htxn, htx⟩
    · refine request_framed (request_frame (scheduleEff_frame (s.arrivalOf f))) ((heff _ hop).trans ?_)
      rw [scheduleEff, ifPermitted_yes h]
    · refine request_framed (request_frame readEff_frame) ((heff _ hop).trans ((if_neg (ne_true_of_eq_false h)).trans ?_))
      rw [hop]
    · refine request_framed (request_frame readBlockEff_frame) ((heff _ hop).trans ((if_pos h).trans ?_))
      rw [hop]
    · refine request_to ((heff _ hop).trans ((writeBlockEff_refused h).trans ?_))
        ((reply_frame ..).pending_eq.trans hpending)
      rw [hop]
    · refine request_framed (request_frame subscribeEff_frame) ((heff _ hop).trans ?_)
      rw [subscribeEff, ifPermitted_no h, hop]
    · refine request_framed (request_frame (scheduleEff_frame (s.arrivalOf f))) ((heff _ hop).trans ?_)
      rw [scheduleEff, ifPermitted_no h, hop]
    · refine request_framed (request_frame signedWriteEff_frame) ((heff _ hop).trans ((ifPermitted_no h).trans ?_))
      rw [hop]
    · refine request_framed (quoteRequest_frame f s) ((heff _ hop).trans ((if_pos h).trans ?_))
      rw [hop]
    · refine request_framed (quoteRequest_frame f s) ((heff _ hop).trans ?_)
      rw [quoteEff, if_neg (ne_false_of_eq_true h), if_pos hreply]
    · exact request_framed (quoteRequest_frame f s)
        ((heff _ hop).trans ((quoteEff_asks h hreply).trans (if_pos hfull)))
    · refine request_framed (request_frame subscribeEff_frame) ((heff _ hop).trans ?_)
      rw [subscribeEff, ifPermitted_yes h]
    · exact request_framed (request_frame signedWriteEff_frame) ((heff _ hop).trans (ifPermitted_yes h))
    · refine request_framed (quoteRequest_frame f s) ((heff _ hop).trans ((quoteEff_asks h hreply).trans ?_))
      rw [quoteBody, if_neg (not_le.mpr hroom), hnow]
  · exact request_framed (request_frame readEff_frame)
      (request_duplicate hparse hop hserve hses hopen hform hdup)
  · have hs := dequeue_frame f s
    have heff := request_stale (g := writeEff) hparse hop hserve hses hopen hform hold
    refine ⟨_, request_acts heff, hs.od_eq, hs.loop_eq, hs.trays_eq, hs.tx_eq, ?_⟩
    rw [countStale, State.updSess, hs.sess_eq]
  · exact request_framed (request_frame readEff_frame) (request_malformed hparse hop hserve hses hopen hform)
  · have hs := dequeue_frame f s
    obtain heff | heff := request_closed (op := 2) (g := writeEff) hparse hclosed
    · exact ⟨s, request_to heff, rfl, rfl, rfl, rfl⟩
    · exact ⟨_, request_to heff hs.pending_eq, hs.od_eq, hs.sess_eq, hs.loop_eq, hs.tx_eq⟩
  · refine request_to ?_
    rw [request, hparse]

end Sys2Proof.Machine
end

section
/-! SUPPORT. Proof: a stream of the records while the link is down (14_network_port.md: Trasia frames; 18_event_recorder.md:
Reading). -/

namespace Sys2Proof.Machine

set_option Elab.async false

/-- A stream of the records of [7200.06], every 100 µs. -/
def recordStream : Stream :=
  { i := 0, index := 0x7200, sub := 0x06, offset := 0, length := 64, period := 100, phase := 0, last := none }

/-- The link is down, session 0 streams the records, and the CRC of the one record held fails. -/
def spoiltStream : State :=
  { started with
    rcd := { Rec.reset with segs := [[[1, 0, 0, 0] ++ List.replicate 60 0]] }
    sess := [{ Session.reset with streams := [recordStream] }] }

/-- The record is warned of as the due stream reads it (R495). -/
theorem spoiltStream_warns : (streamInstanceEff 0 0 spoiltStream).rcd.crcWarned = [1] := by decide +kernel

/-- Refutes O42: at `spoiltStream` the stream that is due reads a record whose CRC fails, which the recorder notes,
so that the stream's instant is not all that changes. -/
theorem not_sessionClauses : ¬ Obligations.SessionClauses := by
  intro ⟨_, hdue, _⟩
  have hexec := hdue spoiltStream 0 0 recordStream rfl (by decide) (by decide) (by decide) rfl (by decide +kernel)
  have heff : exec (.streamInstance 0 0) spoiltStream = .next (streamInstanceEff 0 0 spoiltStream) :=
    run_framed (streamInstanceEff_frame ..) (by decide) rfl rfl
  have hrcd := congrArg (fun u : State => u.rcd.crcWarned) (Host.Outcome.next.inj (heff.symm.trans hexec))
  rw [spoiltStream_warns] at hrcd
  exact absurd hrcd (by decide +kernel)

end Sys2Proof.Machine
end

section
/-! SUPPORT. Proof: staged images, keys, quotes, installation (20_security_and_firmware.md: The firmware image, Updating
the firmware). -/

namespace Sys2Proof.Machine

set_option Elab.async false

/-! ### Commands of the port's sessions -/

theorem serveSes_framed {l : List Part} {ses : Nat} {s u : State} {f : State → State} (hs : SameBut l s (f s))
    (hses : ses < Config.sessions) (hserve : s.serving ses = true) (hf : f s = u) (hl : .pending ∉ l := by decide) :
    runServed (decide (ses < Config.sessions)) ses s f = .next u := by
  rw [runServed, runIf, hserve, decide_eq_true hses]
  show Host.Outcome.next { f s with pending := s.pending } = _
  rw [← hs.pending_eq hl, hf]

theorem serving_of_running {s : State} (ses : Nat) (h : s.running = true) : s.serving ses = true := by
  have hfw : decide (s.hw.phase = .firmware) = true := h
  rw [State.serving, hfw, Bool.true_or]

/-! ### Staging -/

theorem joinPieces_first (b : Bytes) : joinPieces [(0, b)] = b := rfl

theorem putPiece_first (b : Bytes) : putPiece [] 0 b = [(0, b)] := rfl

/-- The judgement of a staged image moves its state and its version alone. -/
theorem judgeStaged_sec (s : State) :
    ∃ st v, (judgeStaged s).sec = { s.sec with stagedSt := st, stagedVer := v } := by
  rw [judgeStaged]
  generalize joinPieces s.sec.staged = b
  dsimp only
  generalize hif : (if 8 ≤ b.length then _ else s : State) = u
  have hu : ∃ v, u.sec = { s.sec with stagedVer := v } := by
    subst hif
    split
    · exact ⟨u32At b 4, rfl⟩
    · exact ⟨s.sec.stagedVer, rfl⟩
  obtain ⟨v, hv⟩ := hu
  split
  · split
    · exact ⟨2, v, by rw [hv]⟩
    · exact ⟨3, v, congrArg (fun x : Sec => { x with stagedSt := 3 }) hv⟩
  · exact ⟨s.sec.stagedSt, v, hv⟩

/-- Fewer than 8 bytes are not judged. -/
theorem judgeStaged_short {s : State} (h : (joinPieces s.sec.staged).length < 8) : judgeStaged s = s := by
  have hpart : ¬stagedWhole (joinPieces s.sec.staged) = true := by
    rw [stagedWhole, decide_eq_false (by omega), Bool.false_and]
    exact Bool.false_ne_true
  dsimp only [judgeStaged]
  rw [if_neg (not_le.mpr h), if_neg hpart]

/-- The first bytes of block 0 begin a new image. -/
theorem imageBlockEff_first {s : State} {ses : Nat} {b : Bytes} (hne : b ≠ []) (hlen : b.length ≤ 8192)
    (hblock : s.cfgU 0xA000 0x0F = 0) : imageBlockEff ses 0 b s =
      judgeStaged { s with sec := { s.sec with stagedSt := 1, staged := [(0, b)], stagedVer := 0 } } := by
  have hgo : ¬(b = [] ∨ 8192 < 0 + b.length ∨ imageLength imageBodyMax < 8192 * 0 + 0 + b.length) := by
    rw [imageLength, imageBodyMax]
    rintro (h | h | h)
    · exact hne h
    · omega
    · omega
  have hnew : s.startsImage 0 = true := by
    rw [State.startsImage, hblock]
    rfl
  rw [imageBlockEff]
  dsimp only
  rw [hblock, if_neg hgo, hnew, if_pos rfl]
  rfl

/-! ### Resets -/

/-- What a reset keeps of the module. -/
theorem resetModule_keeps (cause : Nat) (s : State) : (resetModule cause s).hw.phase = .rom ∧
    (resetModule cause s).od.resetCause = cause ∧ (resetModule cause s).loop = State.reset.loop ∧
    (resetModule cause s).sec.image = s.sec.image ∧ (resetModule cause s).sec.installing = none ∧
    (resetModule cause s).sec.minVer = s.sec.minVer ∧ (resetModule cause s).sec.installed = s.sec.installed ∧
    (resetModule cause s).sec.loaderRan = s.sec.loaderRan := by
  have hsec := (flushStaged_frame s.rcd.staged.length s).sec_eq
  rw [resetModule]
  generalize flushStaged s.rcd.staged.length s = v at hsec
  rw [← hsec]
  exact ⟨rfl, rfl, rfl, rfl, rfl, rfl, rfl, rfl⟩

theorem firmwareInstallEff_writes {s : State} {x : FwImage} (h : s.sec.installing = some x) :
    firmwareInstallEff s = resetModule 4 { s with sec := { s.sec with image := x, installed := true } } := by
  rw [firmwareInstallEff, h]

theorem firmwareInstallEff_waits {s : State} (h : s.sec.installing = none) : firmwareInstallEff s =
    if s.sec.stagedSt = 4 ∧ (s.pair.role = .standby ∨ s.stepAllowed) then beginInstall s else s := by
  rw [firmwareInstallEff, h]

section
variable {s : State} (hphase : s.hw.phase = .loader)
include hphase

theorem networkLoaderEff_writes {x : FwImage} (h : s.sec.installing = some x) :
    networkLoaderEff s = resetModule 5 { s with sec := { s.sec with image := x, loaderRan := true } } := by
  rw [networkLoaderEff, if_neg (not_not.mpr hphase), h]

theorem networkLoaderEff_waits (h : s.sec.installing = none) : networkLoaderEff s =
    if s.sec.stagedSt = 4 ∧ s.imageValid (imageOf (joinPieces s.sec.staged)) then beginInstall s else s := by
  rw [networkLoaderEff, if_neg (not_not.mpr hphase), h]

end

/-- Settles O43: by the branches of each row. -/
theorem securityCommandsHold : Obligations.SecurityCommands := by
  refine ⟨fun s ses hserve hses hst => ?_, fun s ses hserve hses hst => ?_, fun s ses hrun hses => ⟨?_, ?_⟩,
    fun s ses hserve hses => ?_, fun s ses b hserve hses hblock hpos hlen => ?_,
    fun s ses k hrun hses hlen hnone hright => ?_, fun s ses k hrun hses hset => ?_,
    fun s ses k hrun hses hbad => ?_, fun s q rest hserve hq => ?_, fun s hserve hq => ?_,
    fun s ses b hserve hses hne hlen hblock => ?_, fun s hrun hnone hwait => ?_, fun s hrun hnone hst hmay => ?_,
    fun s x hrun hx => ?_, fun s hphase hnone hst => ?_, fun s hphase hnone hst => ?_, fun s x hphase hx => ?_,
    fun s hphase => ?_⟩
  · exact serveSes_framed (markInstallEff_frame ..) hses hserve (if_pos hst)
  · exact serveSes_framed (markInstallEff_frame ..) hses hserve (if_neg hst)
  · exact serveSes_framed (discardStagedEff_frame ..) hses (serving_of_running ses hrun) rfl
  · exact serveSes_framed (securityClearEff_frame ..) hses (serving_of_running ses hrun) rfl
  · refine serveSes_framed (imageBlockEff_frame ..) hses hserve ?_
    rw [imageBlockEff, if_pos (.inl rfl)]
  · refine serveSes_framed (imageBlockEff_frame ..) hses hserve
      ((imageBlockEff_first (List.ne_nil_of_length_pos hpos) (by omega) hblock).trans (judgeStaged_short ?_))
    rwa [joinPieces_first]
  · have hs := rootKeySetEff_frame ses k s
    have heff : rootKeySetEff ses k s = (putRootKey k s).raise 0x0E06 noInst := if_pos ⟨hlen, hnone, hright⟩
    exact ⟨_, run_framed hs (decide_eq_true hses) hrun rfl, by rw [heff]; rfl, by rw [heff]; exact raised_raise ..,
      hs.loop_eq, hs.phases_eq⟩
  · refine run_framed (rootKeySetEff_frame ses k s) (decide_eq_true hses) hrun (if_neg ?_)
    rintro ⟨-, hnone, -⟩
    rw [hset] at hnone
    cases hnone
  · refine run_framed (rootKeySetEff_frame ses k s) (decide_eq_true hses) hrun (if_neg ?_)
    rintro ⟨hlen, -, hright⟩
    obtain h | h := hbad
    · exact h hlen
    · rw [h] at hright
      cases hright
  · have hs := quoteSignedEff_frame s
    refine ⟨_, serve_framed hs hserve rfl, ?_, ?_, hs.loop_eq, hs.od_eq⟩
    · rw [quoteSignedEff, hq]
      dsimp only
      rw [(sendParts_frame ..).sec_eq]
    · rw [quoteSignedEff, hq]
      dsimp only
      rw [(sendParts_frame ..).sec_eq]
  · refine serve_to hserve ?_
    rw [quoteSignedEff, hq]
  · have hs := imageBlockEff_frame ses 0 b s
    have heff := imageBlockEff_first (ses := ses) hne hlen hblock
    obtain ⟨_, _, hsec⟩ := judgeStaged_sec { s with sec := { s.sec with stagedSt := 1, staged := [(0, b)], stagedVer := 0 } }
    rw [← heff] at hsec
    exact ⟨_, serveSes_framed hs hses hserve rfl, by rw [hsec], by rw [hsec], hs.loop_eq, hs.od_eq, hs.phases_eq⟩
  · refine run_to rfl hrun ((firmwareInstallEff_waits hnone).trans (if_neg ?_))
    rintro ⟨hst, hmay⟩
    obtain h | ⟨hrole, hstep⟩ := hwait
    · exact h hst
    · rw [hstep] at hmay
      exact hmay.elim hrole Bool.false_ne_true
  · exact run_to rfl hrun ((firmwareInstallEff_waits hnone).trans (if_pos ⟨hst, hmay⟩))
  · obtain ⟨hphase, hcause, hloop, himage, hinst, hver, hdone, -⟩ :=
      resetModule_keeps 4 { s with sec := { s.sec with image := x, installed := true } }
    rw [← firmwareInstallEff_writes hx] at hphase hcause hloop himage hinst hver hdone
    exact ⟨_, run_acts _ rfl hrun, hphase, hcause, hdone, himage, hinst, hver, hloop⟩
  · by_cases hvalid : s.imageValid (imageOf (joinPieces s.sec.staged)) = true
    · rw [if_pos hvalid]
      exact request_to ((networkLoaderEff_waits hphase hnone).trans (if_pos ⟨hst, hvalid⟩))
    · rw [if_neg hvalid]
      exact request_to ((networkLoaderEff_waits hphase hnone).trans (if_neg fun h => hvalid h.2))
  · exact request_to ((networkLoaderEff_waits hphase hnone).trans (if_neg fun h => hst h.1))
  · obtain ⟨hrom, hcause, -, himage, hinst, -, -, hran⟩ :=
      resetModule_keeps 5 { s with sec := { s.sec with image := x, loaderRan := true } }
    rw [← networkLoaderEff_writes hphase hx] at hrom hcause himage hinst hran
    exact ⟨_, request_acts rfl, hrom, hcause, hran, himage, hinst⟩
  · exact request_to (if_pos hphase)

end Sys2Proof.Machine
end

section
/-! SUPPORT. Proof: the copy of an open transaction that flash holds already (15_object_dictionary.md: Transactions). -/

namespace Sys2Proof.Machine

set_option Elab.async false

/-- The one transaction open. -/
def openRecord : Txn := newTxn started 1 0 0 1 0 0

/-- A younger one, closed. -/
def closedRecord : Txn := { openRecord with id := openRecord.id + 1, st := 1 }

/-- Flash holds the open transaction and, after it, a younger one. -/
def copiedBefore : State :=
  { started with txn := { started.txn with recs := [openRecord], flash := [openRecord, closedRecord] } }

/-- The copy stands in its place by age (R434). -/
theorem copiedBefore_copies : (txnCopyEff copiedBefore).txn.flash = [openRecord, closedRecord] := by decide +kernel

/-- Refutes O44: at `copiedBefore` the copy of the open transaction takes the place it has in flash, before the
younger one. -/
theorem not_dictionaryCommands : ¬ Obligations.DictionaryCommands := by
  intro ⟨_, _, _, _, _, _, _, _, _, _, _, _, _, _, _, hcopy, _⟩
  have hexec := hcopy copiedBefore openRecord rfl (by decide +kernel) (by decide +kernel)
  have heff : exec .transactionCopy copiedBefore = .next (txnCopyEff copiedBefore) :=
    run_framed (txnCopyEff_frame _) rfl rfl rfl
  have hflash := congrArg (fun u : State => u.txn.flash) (Host.Outcome.next.inj (heff.symm.trans hexec))
  rw [copiedBefore_copies] at hflash
  exact absurd hflash (by decide +kernel)

end Sys2Proof.Machine
end

section
/-! SUPPORT. Proof: from the boot ROM to firmware (20_security_and_firmware.md: Boot; 15_object_dictionary.md: Defaults and
stored values). -/

namespace Sys2Proof.Machine

set_option Elab.async false

/-! ### The boot ROM -/

/-- The state once the ROM has measured the image. -/
def romMeasured (s : State) : State :=
  (((bootLine (bootLine s)).measure 1 0 Config.romMeasurement).measure 2 0 s.sec.image.measure).measure 3
    s.sec.image.slot s.sec.image.keyHash

theorem romMeasured_frame (s : State) : SameBut [.freeCount, .tx, .sec] s (romMeasured s) :=
  .step (.step (.step (.step (.mono (bootLine_frame ..)) (bootLine_frame ..)) (State.measure_frame ..))
    (State.measure_frame ..)) (State.measure_frame ..)

/-- Measuring adds to the log alone. -/
theorem romMeasured_sec (s : State) :
    ∃ a l o, (romMeasured s).sec = { s.sec with agg := a, log := l, overflow := o } := by
  have hs : SameBut [.freeCount, .tx] s (bootLine (bootLine s)) := .step (bootLine_frame ..) (bootLine_frame ..)
  rw [romMeasured]
  generalize bootLine (bootLine s) = v at hs
  rw [← hs.sec_eq]
  exact ⟨_, _, _, rfl⟩

theorem romMeasured_imageValid (s : State) (x : FwImage) : (romMeasured s).imageValid x = s.imageValid x := by
  obtain ⟨_, _, _, hsec⟩ := romMeasured_sec s
  rw [State.imageValid, State.imageValid, hsec]

/-- The ROM starts a valid image unless the pin holds it, and leaves the loader in charge else. -/
theorem bootEff_rom {s : State} (b slot : Bool) (hphase : s.hw.phase = .rom) :
    bootEff ⟨b, slot⟩ s = { when_ (s.imageValid s.sec.image && !b) bootLine (romMeasured s) with
      hw := { s.hw with phase := if s.imageValid s.sec.image && !b then .starting else .loader }
      pair := { s.pair with position := if s.od.resetCause = 0 then b2n slot else s.pair.position } } := by
  have hs := romMeasured_frame s
  rw [← romMeasured_imageValid, ← hs.hw_eq, ← hs.pair_eq, ← hs.od_eq]
  exact if_neg (not_not.mpr hphase)

/-! ### The start -/

/-- What firmware finds as it begins. -/
def begun (lost : List Nat) (s : State) : State :=
  let v := bootLine (loadTxns (loadCal lost (loadSettings lost s)))
  { v with
    od := { v.od with powerCycles := (v.od.powerCycles + b2n (s.od.resetCause == 0)) % 4294967296 }
    hw := { v.hw with phase := .firmware, released := false }
    pair := { v.pair with since := v.now } }

/-- The module once its firmware has begun, before its role is read. -/
def startedUp (lost : List Nat) (s : State) : State :=
  let v := startRecords lost (s.txn.flash.any fun r => r.st == 0) (begun lost s)
  let v := (v.measure 4 0 (sha256 v.sec.rootKey)).measure 5 0 (sha256 v.calBlock)
  let v := recordInFlight (governorGates (groupEnables (forTrays estStart v)))
  { v with port := { v.port with linkLocal := v.unaddressed } }

theorem moduleStartEff_begins {lost : List Nat} {s : State} (hphase : s.hw.phase = .starting) :
    moduleStartEff lost s = if (startedUp lost s).pair.roleIn then saysRole toStandby (startedUp lost s)
      else startedUp lost s := by
  unfold moduleStartEff startedUp begun
  rw [if_neg (not_not.mpr hphase)]

/-- What reads the calibration set, the groups and the raises of before leaves of the module. -/
theorem startedUp_frame (lost : List Nat) (s : State) :
    SameBut [.tx, .hw, .fm, .rcd, .trays, .alloc, .est, .feed, .gov, .gates, .sec, .port, .sess, .cap] (begun lost s)
      (startedUp lost s) :=
  .step (.step (.step (.step (.trans (.step (.step (.mono (startRecords_frame ..)) (State.measure_frame ..))
    (State.measure_frame ..)) (.forTrays fun _ _ => .mono (estStart_frame ..))) (groupEnables_frame ..))
    (governorGates_frame ..)) (recordInFlight_frame ..)) (.port ..)

theorem begun_frame (lost : List Nat) (s : State) :
    SameBut [.freeCount, .tx, .hw, .od, .txn, .pair, .cal] s (begun lost s) :=
  .step (.step (.step (.step (.mono (loadSettings_frame ..)) (loadCal_frame ..)) (loadTxns_frame ..))
    (bootLine_frame ..)) (.hw_od_pair ..)

theorem begun_pair (lost : List Nat) (s : State) : (begun lost s).pair = { s.pair with since := s.now } := by
  have hs : SameBut [.freeCount, .tx, .od, .txn, .cal] s (bootLine (loadTxns (loadCal lost (loadSettings lost s)))) :=
    .step (.step (.step (.mono (loadSettings_frame ..)) (loadCal_frame ..)) (loadTxns_frame ..)) (bootLine_frame ..)
  rw [begun, ← hs.pair_eq, ← hs.now_eq]

/-- Of the dictionary firmware begins with the values read from flash, and counts the cold start. -/
theorem begun_od (lost : List Nat) (s : State) : (begun lost s).od = { (loadSettings lost s).od with
    powerCycles := (s.od.powerCycles + b2n (s.od.resetCause == 0)) % 4294967296 } := by
  have hs : SameBut [.freeCount, .tx, .txn, .cal] (loadSettings lost s)
      (bootLine (loadTxns (loadCal lost (loadSettings lost s)))) :=
    .step (.step (.mono (loadCal_frame ..)) (loadTxns_frame ..)) (bootLine_frame ..)
  have hcycles : s.od.powerCycles = (loadSettings lost s).od.powerCycles := rfl
  rw [begun, hcycles, ← hs.od_eq]

theorem startRecords_records (lost : List Nat) (wasOpen : Bool) (s : State) :
    ∃ v, SameBut [.tx, .fm, .rcd, .cap] s v ∧ startRecords lost wasOpen s = { v with
      hw := { v.hw with recordWatchdog := none, recordThermal := none }
      sec := { v.sec with loaderRan := false, installed := false } } := by
  dsimp only [startRecords]
  refine ⟨_, ?_, rfl⟩
  refine .step (.step (.step (.step (.step ?_ (startRecord_frame ..)) (startRecord_frame ..)) (startRecord_frame ..))
    (startRecord_frame ..)) (startRecord_frame ..)
  split
  · refine .step ?_ (recordAtStart_frame ..)
    split
    · exact recordAtStart_frame ..
    · exact .refl
  · split
    · exact recordAtStart_frame ..
    · exact .refl

/-- What is recorded at the start is no longer to be recorded. -/
theorem startRecords_hw_sec (lost : List Nat) (wasOpen : Bool) (s : State) :
    (startRecords lost wasOpen s).hw = { s.hw with recordWatchdog := none, recordThermal := none } ∧
      (startRecords lost wasOpen s).sec = { s.sec with loaderRan := false, installed := false } := by
  obtain ⟨v, hs, hv⟩ := startRecords_records lost wasOpen s
  rw [hv, ← hs.hw_eq, ← hs.sec_eq]
  exact ⟨rfl, rfl⟩

/-- The module as its firmware has begun. -/
theorem startedUp_hw_sec (lost : List Nat) (s : State) : (startedUp lost s).hw.phase = .firmware ∧
    (startedUp lost s).sec.minVer = s.sec.minVer ∧ (startedUp lost s).sec.revoked = s.sec.revoked ∧
    (startedUp lost s).sec.counter = s.sec.counter := by
  obtain ⟨hhw, hsec⟩ := startRecords_hw_sec lost (s.txn.flash.any fun r => r.st == 0) (begun lost s)
  rw [(begun_frame lost s).sec_eq] at hsec
  rw [startedUp]
  generalize startRecords lost (s.txn.flash.any fun r => r.st == 0) (begun lost s) = v at hhw hsec
  dsimp only
  generalize hw : (v.measure 4 0 (sha256 v.sec.rootKey)).measure 5 0 _ = w
  have hsecw : ∃ a l o, w.sec = { v.sec with agg := a, log := l, overflow := o } := by
    subst hw
    exact ⟨_, _, _, rfl⟩
  have hhww : w.hw = v.hw := by
    subst hw
    rfl
  have hs : SameBut [.tx, .fm, .rcd, .trays, .alloc, .est, .feed, .gov, .gates, .port, .sess, .cap] w
      (recordInFlight (governorGates (groupEnables (forTrays estStart w)))) :=
    .step (.step (.step (.mono (.forTrays fun _ _ => estStart_frame ..)) (groupEnables_frame ..))
      (governorGates_frame ..)) (recordInFlight_frame ..)
  obtain ⟨_, _, _, hsecw⟩ := hsecw
  rw [hs.hw_eq, hs.sec_eq, hsecw, hsec, hhww, hhw]
  exact ⟨rfl, rfl, rfl, rfl⟩

/-- The dictionary of a module whose firmware has begun. -/
theorem moduleStartEff_od {lost : List Nat} {s : State} (hphase : s.hw.phase = .starting) :
    (moduleStartEff lost s).od = { (loadSettings lost s).od with
      powerCycles := (s.od.powerCycles + b2n (s.od.resetCause == 0)) % 4294967296 } := by
  have hsays : SameBut [.freeCount, .tx, .pair, .clk] (startedUp lost s) (saysRole toStandby (startedUp lost s)) :=
    saysRole_frame fun _ => .mono (toStandby_frame ..)
  rw [moduleStartEff_begins hphase, ← begun_od, ← (startedUp_frame lost s).od_eq]
  split
  · exact hsays.od_eq
  · rfl

/-- What a start leaves of the module as its firmware has begun. -/
theorem moduleStartEff_startedUp {lost : List Nat} {s : State} (hphase : s.hw.phase = .starting) :
    SameBut [.freeCount, .tx, .pair, .clk] (startedUp lost s) (moduleStartEff lost s) := by
  rw [moduleStartEff_begins hphase]
  exact .ite (saysRole_frame fun _ => .mono (toStandby_frame ..)) .refl

/-- The role with which a start ends. -/
theorem moduleStartEff_role {lost : List Nat} {s : State} (hphase : s.hw.phase = .starting) :
    (s.pair.roleIn = true → (moduleStartEff lost s).pair.role = .standby ∧ (moduleStartEff lost s).clk.st = .following) ∧
      (s.pair.roleIn = false → (moduleStartEff lost s).pair.role = s.pair.role) := by
  have hpair : (startedUp lost s).pair = { s.pair with since := s.now } :=
    (startedUp_frame lost s).pair_eq.trans (begun_pair lost s)
  rw [moduleStartEff_begins hphase, hpair]
  refine ⟨fun hin => ?_, fun hin => ?_⟩
  · have hsays : SameBut [.freeCount, .tx] (toStandby (startedUp lost s)) (saysRole toStandby (startedUp lost s)) :=
      .when_ fun _ => bootLine_frame ..
    rw [if_pos hin, hsays.pair_eq, hsays.clk_eq]
    exact ⟨rfl, rfl⟩
  · rw [if_neg (ne_true_of_eq_false hin), hpair]

/-- Settles O45: by what the ROM and the start of firmware read and count. -/
theorem coldStart : Obligations.ColdStart := by
  refine ⟨fun s hphase hvalid slot => ?_, fun s b slot hphase hbad => ?_, fun s slot hphase => ?_,
    fun s b slot hphase => ?_, fun s b slot hphase => ?_, fun s lost hphase hmark => ?_, fun s lost hphase => ?_,
    fun s lost hphase => ?_⟩
  · have hs := bootEff_frame ⟨false, slot⟩ s
    refine ⟨_, request_framed hs rfl, ?_, hs.od_eq, hs.loop_eq⟩
    rw [bootEff_rom false slot hphase, hvalid]
    rfl
  · have hs := bootEff_frame ⟨b, slot⟩ s
    refine ⟨_, request_framed hs rfl, ?_, hs.od_eq, ?_⟩
    · rw [bootEff_rom b slot hphase, hbad]
      rfl
    · obtain ⟨_, _, _, hsec⟩ := romMeasured_sec s
      rw [bootEff_rom b slot hphase, hbad]
      exact congrArg (·.minVer) hsec
  · refine ⟨_, request_framed (bootEff_frame ⟨true, slot⟩ s) rfl, ?_⟩
    rw [bootEff_rom true slot hphase, Bool.not_true, Bool.and_false]
    rfl
  · refine ⟨_, request_framed (bootEff_frame ⟨b, slot⟩ s) rfl, ?_, ?_⟩
    · rw [bootEff_rom b slot hphase]
    · rw [bootEff_rom b slot hphase]
      rfl
  · exact request_to (if_pos hphase)
  · have hs := moduleStartEff_frame lost s
    have hod := moduleStartEff_od (lost := lost) hphase
    have hup := moduleStartEff_startedUp (lost := lost) hphase
    obtain ⟨hfw, hver, hrev, hcount⟩ := startedUp_hw_sec lost s
    refine ⟨_, request_framed hs rfl, ?_, ?_, ?_, ?_, ?_, ?_, ?_, hs.loop_eq, hs.phases_eq⟩
    · rw [State.running, hup.hw_eq, hfw]
      rfl
    · rw [hod]
      rfl
    · rw [hod]
      rfl
    · rw [hod]
      dsimp only [loadSettings]
      rw [hmark]
      simp only [Bool.false_and, Bool.not_false, Bool.and_true]
    · rw [hup.sec_eq, hver]
    · rw [hup.sec_eq, hrev]
    · rw [hup.sec_eq, hcount]
  · have hod := moduleStartEff_od (lost := lost) hphase
    have hup := moduleStartEff_startedUp (lost := lost) hphase
    obtain ⟨hfw, -⟩ := startedUp_hw_sec lost s
    obtain ⟨hstandby, hown⟩ := moduleStartEff_role (lost := lost) hphase
    refine ⟨_, request_framed (moduleStartEff_frame lost s) rfl, ?_, ?_, ?_, fun e he => ?_, hstandby, hown⟩
    · rw [State.running, hup.hw_eq, hfw]
      rfl
    · rw [hod]
      rfl
    · have hcold : b2n (s.od.resetCause == 0) = if s.od.resetCause = 0 then 1 else 0 := by simp [b2n]
      rw [hod, hcold]
    · rw [hod] at he
      obtain ⟨-, hkept⟩ := List.mem_filter.mp he
      rw [Bool.and_eq_true, Bool.not_eq_true', Bool.not_eq_true', Bool.and_eq_false_iff] at hkept
      exact ⟨hkept.1, fun hm => hkept.2.resolve_left fun h => by rw [hm] at h; cases h⟩
  · exact request_to (if_pos hphase)

end Sys2Proof.Machine
end

section
/-! SUPPORT. Proof: raises delivered, handlers ended, faults acknowledged (16_faults.md: The handling order, The active
list, Fault-out). -/

namespace Sys2Proof.Machine

set_option Elab.async false

/-! ### What leaves the handlers as they are -/

/-- The same handler runs, is suspended and waits. -/
structure SameHandlers (s u : State) : Prop where
  running : u.fm.running = s.fm.running
  stack : u.fm.stack = s.fm.stack
  queue : u.fm.queue = s.fm.queue
  reserved : u.fm.reserved = s.fm.reserved
  ranFrom : u.fm.ranFrom = s.fm.ranFrom
  coalesced : u.fm.coalesced = s.fm.coalesced

namespace SameHandlers
variable {s u v : State}

theorem refl : SameHandlers s s := ⟨rfl, rfl, rfl, rfl, rfl, rfl⟩

theorem of_fm (h : u.fm = s.fm) : SameHandlers s u :=
  ⟨by rw [h], by rw [h], by rw [h], by rw [h], by rw [h], by rw [h]⟩

theorem trans (h : SameHandlers s u) (h' : SameHandlers u v) : SameHandlers s v :=
  ⟨h'.running.trans h.running, h'.stack.trans h.stack, h'.queue.trans h.queue, h'.reserved.trans h.reserved,
    h'.ranFrom.trans h.ranFrom, h'.coalesced.trans h.coalesced⟩

theorem ite {c : Prop} [Decidable c] (h : SameHandlers s u) (h' : SameHandlers s v) :
    SameHandlers s (if c then u else v) := by
  split
  · exact h
  · exact h'

end SameHandlers

theorem SameBut.handlers {l : List Part} {s u : State} (h : SameBut l s u) (hl : .fm ∉ l := by decide) :
    SameHandlers s u := .of_fm (h.fm_eq hl)

theorem raise_handlers (s : State) (code inst : Nat) : SameHandlers s (s.raise code inst) :=
  ⟨rfl, rfl, rfl, rfl, rfl, rfl⟩

theorem stageRecord_handlers (x : RecordOf) (s : State) : SameHandlers s (stageRecord x s) := by
  rw [stageRecord]
  generalize recordBytes x s = b
  dsimp only
  split
  · rw [when_]
    split
    · exact ⟨rfl, rfl, rfl, rfl, rfl, rfl⟩
    · exact ⟨rfl, rfl, rfl, rfl, rfl, rfl⟩
  · exact .of_fm (State.send_frame ..).fm_eq

theorem closeWindow_handlers (w : RateWindow) (s : State) : SameHandlers s (closeWindow w s) := by
  rw [closeWindow]
  dsimp only
  split
  · exact ⟨rfl, rfl, rfl, rfl, rfl, rfl⟩
  · exact .trans (u := { s with rcd := { s.rcd with windows := s.rcd.windows.filter fun v => v != w } })
      ⟨rfl, rfl, rfl, rfl, rfl, rfl⟩ (stageRecord_handlers ..)

theorem recordAlways_handlers (r : Raise) (flags : Nat) (s : State) : SameHandlers s (recordAlways r flags s) :=
  stageRecord_handlers ..

theorem openWindow_handlers (r : Raise) (flags : Nat) (s : State) : SameHandlers s (openWindow r flags s) :=
  .trans (recordAlways_handlers r flags s) ⟨rfl, rfl, rfl, rfl, rfl, rfl⟩

theorem recordInWindow_handlers (r : Raise) (flags : Nat) (w : RateWindow) (s : State) :
    SameHandlers s (recordInWindow r flags w s) :=
  .ite (.trans (recordAlways_handlers r flags s) (State.updWindow_frame ..).handlers) ⟨rfl, rfl, rfl, rfl, rfl, rfl⟩

theorem recordRun_handlers (r : Raise) (flags : Nat) (s : State) : SameHandlers s (recordRun r flags s) := by
  rw [recordRun]
  refine .ite (recordAlways_handlers ..) ?_
  split
  · exact openWindow_handlers ..
  · exact .ite (.trans (closeWindow_handlers ..) (openWindow_handlers ..)) (recordInWindow_handlers ..)

theorem enterActive_handlers (r : Raise) (b : Bool) (s : State) : SameHandlers s (enterActive r b s) := by
  rw [enterActive]
  refine .ite .refl ?_
  split
  · exact ⟨rfl, rfl, rfl, rfl, rfl, rfl⟩
  · exact .ite ⟨rfl, rfl, rfl, rfl, rfl, rfl⟩ ⟨rfl, rfl, rfl, rfl, rfl, rfl⟩

theorem faultFo_handlers (r : Raise) (s : State) : SameHandlers s (faultFo r s) :=
  .ite (.ite .refl ⟨rfl, rfl, rfl, rfl, rfl, rfl⟩) .refl

/-- What a raise counts and abandons before it is judged leaves the handlers. -/
theorem counted_handlers (r : Raise) (s : State) : SameHandlers s (abandonDrill r (countRaise r s)) :=
  .trans (u := countRaise r s) ⟨rfl, rfl, rfl, rfl, rfl, rfl⟩ (abandonDrill_frame ..).handlers

/-- A handler that starts runs; what is suspended and what waits stays. -/
theorem startHandler_starts (r : Raise) (s : State) : (startHandler r none s).fm.running = some r ∧
    (startHandler r none s).fm.stack = s.fm.stack ∧ (startHandler r none s).fm.queue = s.fm.queue := by
  rw [startHandler]
  dsimp only
  generalize hu : ({ s with fm := _ } : State) = u
  have hfo : SameHandlers u (faultFo r (faultCapture r (enterActive r false (recordRun r 0 u)))) :=
    (((recordRun_handlers r 0 u).trans (enterActive_handlers ..)).trans (faultCapture_frame ..).handlers).trans
      (faultFo_handlers ..)
  rw [handleDiscarded, ite_self, hfo.running, hfo.stack, hfo.queue, ← hu]
  exact ⟨rfl, rfl, rfl⟩

/-! ### Raises -/

/-- The raise taken is of its code and number, and the handlers stay. -/
theorem takeRaise_takes (s : State) (c i : Nat) : (s.takeRaise c i).1.code = c ∧ (s.takeRaise c i).1.inst = i ∧
    SameHandlers s (s.takeRaise c i).2 ∧ (s.takeRaise c i).2.fm.active = s.fm.active := by
  rw [State.takeRaise]
  split
  next k hk =>
    obtain ⟨hlt, hsame, -⟩ := List.findIdx?_eq_some_iff_getElem.mp hk
    rw [Bool.and_eq_true, beq_iff_eq, beq_iff_eq] at hsame
    rw [List.getD_eq_getElem _ _ hlt]
    exact ⟨hsame.1, hsame.2, ⟨rfl, rfl, rfl, rfl, rfl, rfl⟩, rfl⟩
  · exact ⟨rfl, rfl, (raiseData_frame ..).handlers, congrArg Fm.active (raiseData_frame ..).fm_eq⟩

/-- The raise of a code of a fault table is counted and judged. -/
theorem faultRaiseEff_delivers {c i : Nat} (s : State) (hc : sevTable.any (fun e => e.1 == c) = true) :
    ∃ r u, r.code = c ∧ r.inst = i ∧ SameHandlers s u ∧ SameBut [.freeCount, .fm, .pair] s u ∧
      u.fm.active = s.fm.active ∧
      faultRaiseEff c i s = if u.holdsSame r then coalesce r u else if u.canRun r then runNow r none u
        else enqueueRaise r u := by
  obtain ⟨hcode, hinst, hsame, hactive⟩ := takeRaise_takes s c i
  have hframe : SameBut [.freeCount, .fm, .pair] s
      (abandonDrill (s.takeRaise c i).1 (countRaise (s.takeRaise c i).1 (s.takeRaise c i).2)) :=
    .step (.step (.mono (State.takeRaise_frame ..)) (countRaise_frame ..)) (abandonDrill_frame ..)
  refine ⟨(s.takeRaise c i).1, _, hcode, hinst, hsame.trans (counted_handlers ..), hframe, ?_, if_pos hc⟩
  rw [(abandonDrill_frame ..).fm_eq]
  exact hactive

section
variable {s : State} {r : Raise}

theorem holdsSame_idle (hrun : s.fm.running = none) (hstack : s.fm.stack = []) (hqueue : s.fm.queue = [])
    (hres : s.fm.reserved = none) : s.holdsSame r = false := by
  rw [State.holdsSame, hrun, hstack, hqueue, hres]
  rfl

theorem holdsSame_busy {h : Raise} (hrun : s.fm.running = some h) (hstack : s.fm.stack = []) (hqueue : s.fm.queue = [])
    (hres : s.fm.reserved = none) : s.holdsSame r = h.same r := by
  rw [State.holdsSame, hrun, hstack, hqueue, hres]
  exact Bool.or_false _

theorem holdsSame_running {h : Raise} (hrun : s.fm.running = some h) (hsame : h.same r = true) :
    s.holdsSame r = true := by
  rw [State.holdsSame, hrun]
  exact List.any_eq_true.mpr ⟨h, by simp, hsame⟩

end

/-! ### The active list -/

/-- An entry is of a code and number. -/
def Active.isOf (c i : Nat) (e : Active) : Bool := e.code == c && e.inst == i

section
variable {f : Active → Active} {c i : Nat} {l : List Active} {e : Active}

/-- The first entry of a code and number, changed and kept, is the first one still. -/
theorem find_swept (hfind : l.find? (Active.isOf c i) = some e) (hf : (f e).isOf c i = true)
    (hstays : (f e).leaves = false) :
    ((l.map fun e => if e.code = c ∧ e.inst = i then f e else e).filter fun e => !e.leaves).find? (Active.isOf c i) =
      some (f e) := by
  induction l with
  | nil => cases hfind
  | cons x xs ih =>
    rw [List.map_cons]
    by_cases hx : x.isOf c i = true
    · rw [List.find?_cons_of_pos hx] at hfind
      obtain rfl := Option.some.inj hfind
      have hof : x.code = c ∧ x.inst = i := by simpa [Active.isOf] using hx
      rw [if_pos hof, List.filter_cons_of_pos (by rw [hstays]; rfl), List.find?_cons_of_pos hf]
    · have hof : ¬(x.code = c ∧ x.inst = i) := by simpa [Active.isOf] using hx
      rw [List.find?_cons_of_neg hx] at hfind
      rw [if_neg hof]
      by_cases hleaves : x.leaves = true
      · rw [List.filter_cons_of_neg (by rw [hleaves]; exact Bool.false_ne_true)]
        exact ih hfind
      · rw [List.filter_cons_of_pos (by simpa using hleaves), List.find?_cons_of_neg hx]
        exact ih hfind

/-- Where every entry of a code and number leaves, none is left. -/
theorem find_swept_none (hleaves : ∀ e ∈ l, e.code = c → e.inst = i → (f e).leaves = true) :
    ((l.map fun e => if e.code = c ∧ e.inst = i then f e else e).filter fun e => !e.leaves).find? (Active.isOf c i) =
      none := by
  refine List.find?_eq_none.mpr fun x hx hof => ?_
  obtain ⟨hmem, hstays⟩ := List.mem_filter.mp hx
  obtain ⟨e, he, rfl⟩ := List.mem_map.mp hmem
  split at hstays
  next h =>
    rw [hleaves e he h.1 h.2] at hstays
    cases hstays
  next h =>
    rw [if_neg h] at hof
    exact h (by simpa [Active.isOf] using hof)

end

/-! ### Handlers -/

section
variable {s : State} {r h : Raise}

theorem canRun_idle (hrun : s.fm.running = none) : s.canRun r = true := by rw [State.canRun, hrun]

theorem canRun_over (hrun : s.fm.running = some h) (hsev : h.sev < r.sev) : s.canRun r = true := by
  rw [State.canRun, hrun]
  exact decide_eq_true hsev

theorem canRun_under (hrun : s.fm.running = some h) (hsev : r.sev ≤ h.sev) : s.canRun r = false := by
  rw [State.canRun, hrun]
  exact decide_eq_false (not_lt.mpr hsev)

theorem runNow_idle {d : Option Raise} (hrun : s.fm.running = none) : runNow r d s = startHandler r d s := by
  rw [runNow, hrun]

theorem runNow_over {d : Option Raise} (hrun : s.fm.running = some h) : runNow r d s =
    startHandler r d { s with fm := { s.fm with stack := { h with used := s.handled h } :: s.fm.stack } } := by
  rw [runNow, hrun]

/-- The first raise that waits makes the queue. -/
theorem enqueueRaise_first (hqueue : s.fm.queue = []) :
    enqueueRaise r s = { s with fm := { s.fm with queue := [r] } } := by
  rw [enqueueRaise, hqueue]
  rfl

/-- A handler that ends hands on. -/
theorem handlerEndEff_next (hrun : s.fm.running = some r) : ∃ u, handlerEndEff s = nextHandler u ∧
    u.fm.stack = s.fm.stack ∧ u.fm.queue = s.fm.queue ∧ u.fm.reserved = s.fm.reserved ∧
    u.fm.active = s.fm.active ∧ u.rcd = s.rcd := by
  rw [handlerEndEff, hrun]
  dsimp only
  split
  · exact ⟨_, rfl, rfl, rfl, rfl, rfl, rfl⟩
  · exact ⟨_, rfl, rfl, rfl, rfl, rfl, rfl⟩

theorem nextHandler_resumes {t : Raise} {rest : List Raise} (hstack : s.fm.stack = t :: rest)
    (hqueue : s.fm.queue = []) (hres : s.fm.reserved = none) :
    nextHandler s = { s with fm := { s.fm with running := some t, ranFrom := s.now, stack := rest } } := by
  have hresume : resumeTop s = { s with fm := { s.fm with running := some t, ranFrom := s.now, stack := rest } } := by
    rw [resumeTop, hstack]
  rw [nextHandler, State.waitingSev, hres, hqueue, hstack, hresume]
  rfl

theorem nextHandler_starts {rest : List Raise} (hstack : s.fm.stack = []) (hqueue : s.fm.queue = h :: rest)
    (hres : s.fm.reserved = none) :
    nextHandler s = startHandler h none { s with fm := { s.fm with queue := rest } } := by
  rw [nextHandler, State.waitingSev, hres, hqueue, hstack]
  dsimp only [List.head?_cons, List.head?_nil, Option.map_some]
  rw [nextHandler.startNext, hqueue]
  rfl

end

/-! ### Commands -/

theorem both_lt {c i : Nat} (hc : c < 65536) (hi : i < 65536) : (decide (c < 65536) && decide (i < 65536)) = true :=
  Bool.and_eq_true_iff.mpr ⟨decide_eq_true hc, decide_eq_true hi⟩

/-- A command whose effect changes nothing changes nothing, whether it names what exists or not. -/
theorem run_unchanged {ok : Bool} {s : State} {f : State → State} (hf : f s = s) : run ok s f = .next s := by
  rw [run, runIf, hf, ite_self]

/-- A command that acts ends with the parts its effect gives. -/
theorem run_ends {ok : Bool} {s : State} (f : State → State) (hok : ok = true) (hrun : s.running = true) :
    ∃ u, run ok s f = .next u ∧ u.hw = (f s).hw ∧ u.od = (f s).od ∧ u.loop = (f s).loop :=
  ⟨_, run_acts f hok hrun, rfl, rfl, rfl⟩

/-- A reset keeps the settings in flash and what is to be recorded of the watchdog. -/
theorem resetModule_flash (cause : Nat) (s : State) : (resetModule cause s).od.flash = s.od.flash ∧
    (resetModule cause s).hw.recordWatchdog = s.hw.recordWatchdog := by
  have hs := flushStaged_frame s.rcd.staged.length s
  rw [resetModule]
  generalize flushStaged s.rcd.staged.length s = v at hs
  rw [← hs.od_eq, ← hs.hw_eq]
  exact ⟨rfl, rfl⟩

theorem watchdogEff_written {s : State} {c : Nat} (h : s.now < get 0 s.fm.watchdog c + 50 * ms) :
    watchdogEff c s = s := by
  rw [watchdogEff, if_pos h]

theorem watchdogEff_expires {s : State} {c : Nat} (h : get 0 s.fm.watchdog c + 50 * ms ≤ s.now) :
    watchdogEff c s = resetModule 2 { s.assertFaultOut 0x0006 with hw := { (s.assertFaultOut 0x0006).hw with
      recordWatchdog := some (c, get 0 s.fm.watchdog c) } } := by
  rw [watchdogEff, if_neg (not_lt.mpr h)]

/-- A watchdog not written for its time resets the module with cause 2. -/
theorem watchdogEff_resets {s : State} {c : Nat} (h : get 0 s.fm.watchdog c + 50 * ms ≤ s.now) :
    (watchdogEff c s).hw.phase = .rom ∧ (watchdogEff c s).od.resetCause = 2 ∧
      (watchdogEff c s).od.flash = s.od.flash ∧
      (watchdogEff c s).hw.recordWatchdog = some (c, get 0 s.fm.watchdog c) ∧
      (watchdogEff c s).loop = State.reset.loop := by
  rw [watchdogEff_expires h]
  generalize hv : ({ s.assertFaultOut 0x0006 with hw := _ } : State) = v
  obtain ⟨hphase, hcause, hloop, -⟩ := resetModule_keeps 2 v
  obtain ⟨hflash, hrecord⟩ := resetModule_flash 2 v
  have hod : v.od = s.od := hv ▸ (State.assertFaultOut_frame ..).od_eq
  have hwatch : v.hw.recordWatchdog = some (c, get 0 s.fm.watchdog c) := hv ▸ rfl
  exact ⟨hphase, hcause, by rw [hflash, hod], hrecord.trans hwatch, hloop⟩

/-- Settles O46: by what a raise finds, what a handler leaves behind, and the entries of the active list. -/
theorem faultHandling : Obligations.FaultHandling := by
  refine ⟨fun s c i hrun hc hi hno => ?_, fun s c i hrun hc hi hany hnone hstack hqueue hres => ?_,
    fun s c i h hrun hc hi hany hbusy hsev hstack hqueue hres => ?_,
    fun s c i h hrun hc hi hany hbusy hsev hne hstack hqueue hres => ?_,
    fun s c i h hrun hc hi hany hbusy hcode hinst => ?_, fun s hrun hnone => ⟨?_, ?_⟩,
    fun s r t rest hrun hbusy hstack hqueue hres => ?_, fun s r h rest hrun hbusy hstack hqueue hres => ?_,
    fun s r hrun hbusy hfirst hlong => ?_, fun s r hrun hbusy hno => ?_, fun s c i hrun hholds => ?_,
    fun s c i hrun hc hi hgone hwarn => ?_, fun s c i e hrun hc hi hgone hof hsev hack => ?_,
    fun s ses v e hrun hses hv hof hgone => ?_, fun s ses v hrun hses hv hof hgone => ?_,
    fun s ses v hrun hses hv hnone => ?_, fun s ses hrun hses hgone => ?_, fun s ses hrun hses => ?_,
    fun s c hrun hearly => ?_, fun s c hrun hc hdue => ?_⟩
  · exact run_to (both_lt hc hi) hrun (if_neg (ne_true_of_eq_false hno))
  · have hs := faultRaiseEff_frame c i s
    obtain ⟨r, u, hcode, hinst, hsame, -, -, heff⟩ := faultRaiseEff_delivers (i := i) s hany
    rw [hsame.running.trans hnone |> canRun_idle, if_pos rfl, holdsSame_idle (hsame.running.trans hnone)
      (hsame.stack.trans hstack) (hsame.queue.trans hqueue) (hsame.reserved.trans hres), if_neg Bool.false_ne_true,
      runNow_idle (hsame.running.trans hnone)] at heff
    obtain ⟨hruns, hst, hq⟩ := startHandler_starts r u
    rw [← heff] at hruns hst hq
    exact ⟨_, r, run_framed hs (both_lt hc hi) hrun rfl, hruns, hcode, hinst, hq.trans (hsame.queue.trans hqueue),
      hst.trans (hsame.stack.trans hstack), hs.loop_eq, hs.trays_eq, hs.phases_eq, hs.od_eq⟩
  · have hs := faultRaiseEff_frame c i s
    obtain ⟨r, u, rfl, rfl, hsame, hframe, -, heff⟩ := faultRaiseEff_delivers (i := i) s hany
    have hnew : h.same r = false := by
      refine Bool.eq_false_iff.mpr fun hsr => ?_
      rw [Raise.same, Bool.and_eq_true, beq_iff_eq] at hsr
      exact absurd hsev (by rw [Raise.sev, hsr.1]; exact lt_irrefl _)
    rw [holdsSame_busy (hsame.running.trans hbusy) (hsame.stack.trans hstack) (hsame.queue.trans hqueue)
      (hsame.reserved.trans hres), hnew, if_neg Bool.false_ne_true, canRun_over (hsame.running.trans hbusy) hsev,
      if_pos rfl, runNow_over (hsame.running.trans hbusy)] at heff
    obtain ⟨hruns, hst, -⟩ := startHandler_starts r
      { u with fm := { u.fm with stack := { h with used := u.handled h } :: u.fm.stack } }
    rw [← heff] at hruns hst
    refine ⟨_, r, run_framed hs (both_lt hc hi) hrun rfl, hruns, rfl, rfl, ?_, hs.trays_eq⟩
    rw [hst, hsame.stack, hstack, State.handled, State.handled, hsame.ranFrom, hframe.now_eq]
  · have hs := faultRaiseEff_frame c i s
    obtain ⟨r, u, rfl, rfl, hsame, hframe, hactive, heff⟩ := faultRaiseEff_delivers (i := i) s hany
    have hnew : h.same r = false := by
      refine Bool.eq_false_iff.mpr fun hsr => ?_
      rw [Raise.same, Bool.and_eq_true, beq_iff_eq, beq_iff_eq] at hsr
      exact hne.elim (fun h => h hsr.1) fun h => h hsr.2
    rw [holdsSame_busy (hsame.running.trans hbusy) (hsame.stack.trans hstack) (hsame.queue.trans hqueue)
      (hsame.reserved.trans hres), hnew, if_neg Bool.false_ne_true, canRun_under (hsame.running.trans hbusy) hsev,
      if_neg Bool.false_ne_true, enqueueRaise_first (hsame.queue.trans hqueue)] at heff
    exact ⟨_, r, run_framed hs (both_lt hc hi) hrun heff, hsame.running.trans hbusy, rfl, rfl, rfl, hframe.rcd_eq,
      hactive, hframe.trays_eq⟩
  · have hs := faultRaiseEff_frame c i s
    obtain ⟨r, u, rfl, rfl, hsame, hframe, -, heff⟩ := faultRaiseEff_delivers (i := i) s hany
    have hsr : h.same r = true := by rw [Raise.same, hcode, hinst, beq_self_eq_true, beq_self_eq_true, Bool.and_self]
    rw [holdsSame_running (hsame.running.trans hbusy) hsr, if_pos rfl] at heff
    refine ⟨_, h.again, run_framed hs (both_lt hc hi) hrun heff, ?_, hcode, hinst, ?_, hframe.rcd_eq, hframe.trays_eq⟩
    · rw [coalesce, State.updActive, hsame.running, hbusy]
      dsimp only [Option.map_some]
      rw [hsr, if_pos rfl]
    · rw [← hsame.coalesced]
      rfl
  · refine run_to rfl hrun ?_
    rw [handlerEndEff, hnone]
  · refine run_to rfl hrun ?_
    rw [overrunEff, hnone]
  · obtain ⟨u, heff, hst, hq, hr, hactive, hrcd⟩ := handlerEndEff_next hbusy
    rw [nextHandler_resumes (hst.trans hstack) (hq.trans hqueue) (hr.trans hres)] at heff
    exact ⟨_, run_framed (handlerEndEff_frame s) rfl hrun heff, rfl, rfl, hactive, hrcd⟩
  · obtain ⟨u, heff, hst, hq, hr, -, -⟩ := handlerEndEff_next hbusy
    rw [nextHandler_starts (hst.trans hstack) (hq.trans hqueue) (hr.trans hres)] at heff
    obtain ⟨hruns, hst', hq'⟩ := startHandler_starts h { u with fm := { u.fm with queue := rest } }
    exact ⟨_, run_framed (handlerEndEff_frame s) rfl hrun heff, hruns, hq', hst'.trans (hst.trans hstack)⟩
  · refine run_framed (overrunEff_frame s) rfl hrun ?_
    rw [overrunEff, hbusy]
    dsimp only
    rw [if_neg]
    rintro (h | h)
    · rw [hfirst] at h
      cases h
    · exact absurd hlong (not_lt.mpr h)
  · refine run_framed (overrunEff_frame s) rfl hrun ?_
    rw [overrunEff, hbusy]
    exact if_pos hno
  · exact run_unchanged (if_pos hholds)
  · have hs := conditionGoneEff_frame c i s
    refine ⟨_, run_framed hs (both_lt hc hi) hrun (if_neg (ne_true_of_eq_false hgone)), ?_, rfl, rfl, rfl⟩
    refine find_swept_none fun e he hec hei => ?_
    rw [Active.leaves, hwarn e he hec hei]
    rfl
  · have hs := conditionGoneEff_frame c i s
    refine ⟨_, run_framed hs (both_lt hc hi) hrun (if_neg (ne_true_of_eq_false hgone)), ?_, rfl, rfl⟩
    have hkind : e.isOf c i = true := List.find?_some hof
    refine find_swept hof hkind ?_
    rw [Active.leaves, hack, beq_false_of_ne hsev]
    rfl
  · have hs := acknowledgeEff_frame ses v s
    have heff : acknowledgeEff ses v s = sweepActive (s.updActive (v % 65536) (v / 65536) fun e => { e with acked := true }) := by
      rw [acknowledgeEff, if_neg hv, hof]
    refine ⟨_, run_framed hs (decide_eq_true hses) hrun heff, ?_, rfl, rfl⟩
    have hkind : e.isOf (v % 65536) (v / 65536) = true := List.find?_some hof
    refine find_swept hof hkind ?_
    rw [Active.leaves, hgone, Bool.false_and]
  · have hs := acknowledgeEff_frame ses v s
    obtain ⟨e, he⟩ := Option.ne_none_iff_exists'.mp hof
    have heff : acknowledgeEff ses v s = sweepActive (s.updActive (v % 65536) (v / 65536) fun e => { e with acked := true }) := by
      rw [acknowledgeEff, if_neg hv, he]
    refine ⟨_, run_framed hs (decide_eq_true hses) hrun heff, ?_, rfl⟩
    refine find_swept_none fun e he hec hei => ?_
    rw [Active.leaves, hgone e he hec hei, Bool.or_true, Bool.and_true]
  · refine run_framed (acknowledgeEff_frame ses v s) (decide_eq_true hses) hrun ?_
    rw [acknowledgeEff, if_neg hv, hnone]
  · refine run_framed (acknowledgeEff_frame ses _ s) (decide_eq_true hses) hrun ((if_pos rfl).trans ?_)
    have hnil : (s.fm.active.map fun e => { e with acked := true }).filter (fun e => !e.leaves) = [] := by
      refine List.filter_eq_nil_iff.mpr fun x hx => ?_
      obtain ⟨e, he, rfl⟩ := List.mem_map.mp hx
      rw [Active.leaves, hgone e he, Bool.or_true, Bool.and_true]
      exact Bool.false_ne_true
    rw [sweepActive, hnil]
  · exact run_framed (faultsClearEff_frame s) (decide_eq_true hses) hrun rfl
  · exact run_unchanged (watchdogEff_written hearly)
  · have hresets := watchdogEff_resets hdue
    obtain ⟨u, hu, hhw, hod, hloop⟩ := run_ends (watchdogEff c) (decide_eq_true hc) hrun
    rw [← hhw, ← hod, ← hloop] at hresets
    exact ⟨u, hu, hresets⟩

end Sys2Proof.Machine
end

section
/-! SUPPORT. Proof: records staged, written, read and cleared (18_event_recorder.md: Writing, Reading, Clearing). -/

namespace Sys2Proof.Machine

set_option Elab.async false

/-! ### Writing -/

theorem appendRecord_length (b : Bytes) (segs : List (List Bytes)) : (appendRecord b segs).length ≤ segs.length + 1 := by
  rw [appendRecord]
  split
  next h => exact Nat.le_add_left _ _
  next last rest h =>
    have hlen : segs.length = rest.length + 1 := by rw [← List.length_reverse, h, List.length_cons]
    dsimp only
    split
    · simp [hlen]
    · simp [hlen]

section
variable {s : State} {b : Bytes} {rest : List Bytes}

/-- The oldest staged record reaches flash. -/
theorem flashRecordEff_writes (hstaged : s.rcd.staged = b :: rest) (hroom : s.rcd.segs.length < 511) :
    flashRecordEff true s = { s with rcd := { s.rcd with
      staged := rest, segs := appendRecord b s.rcd.segs, failedAt := none } } := by
  have hlen := appendRecord_length b s.rcd.segs
  have hfree : (appendRecord b s.rcd.segs).length < 512 := by omega
  rw [flashRecordEff, hstaged]
  dsimp only
  rw [if_pos rfl, reclaim, if_pos hfree]

theorem flashRecordEff_fails (hstaged : s.rcd.staged = b :: rest) : flashRecordEff false s =
    State.raise { s with rcd := { s.rcd with failedAt := some s.now } } 0x0C02 noInst := by
  rw [flashRecordEff, hstaged]
  rfl

theorem flashRecordEff_none (ok : Bool) (hstaged : s.rcd.staged = []) : flashRecordEff ok s = s := by
  rw [flashRecordEff, hstaged]

theorem flashWriteEff_first (ok : Bool) (h : s.rcd.failedAt = none) : flashWriteEff ok s = flashRecordEff ok s := by
  rw [flashWriteEff, h]
  rfl

theorem flashWriteEff_failed (ok : Bool) {a : Nat} (h : s.rcd.failedAt = some a) : flashWriteEff ok s = s := by
  rw [flashWriteEff, h]
  rfl

theorem flashRetryEff_due (ok : Bool) {a : Nat} (h : s.rcd.failedAt = some a) (hdue : a + 10 * ms ≤ s.now) :
    flashRetryEff ok s = flashRecordEff ok s := by
  rw [flashRetryEff, h]
  dsimp only
  rw [if_pos hdue]

theorem flashRetryEff_early (ok : Bool) {a : Nat} (h : s.rcd.failedAt = some a) (hearly : s.now < a + 10 * ms) :
    flashRetryEff ok s = s := by
  rw [flashRetryEff, h]
  dsimp only
  rw [if_neg (not_le.mpr hearly)]

theorem flashRetryEff_none (ok : Bool) (h : s.rcd.failedAt = none) : flashRetryEff ok s = s := by
  rw [flashRetryEff, h]

end

/-! ### Reading -/

theorem padTo_len (n : Nat) (b : Bytes) : (padTo n b).length = n := by
  rw [padTo, List.length_append, List.length_take, List.length_replicate]
  omega


/-- A read of records notes those it warns of, and leaves the records. -/
theorem warnTouched_rcd (l : List Bytes) (off n : Nat) (s : State) :
    ∃ w, (warnTouched l off n s).rcd = { s.rcd with crcWarned := w } := by
  refine foldl_keeps (fun u : State => ∃ w, u.rcd = { s.rcd with crcWarned := w }) _ _ (fun u q hu => ?_) s ⟨_, rfl⟩
  obtain ⟨w, hw⟩ := hu
  dsimp only
  rw [warnRecord]
  split
  · exact ⟨w, hw⟩
  · exact ⟨_, congrArg (fun r : Rec => { r with crcWarned := u32At q.1 0 :: u.rcd.crcWarned }) hw⟩

theorem readRecords_reads (ses off n : Nat) (s : State) : (readRecords ses off n s).1.length = n ∧
    ∃ w, (readRecords ses off n s).2.rcd = { s.rcd with crcWarned := w } := by
  have hrcd := warnTouched_rcd (s.recordsFrom ses) off n s
  rw [readRecords]
  dsimp only
  split
  · exact ⟨padTo_len .., hrcd⟩
  · exact ⟨padTo_len .., hrcd⟩

/-! ### Clearing -/

theorem clearSegments_dropLast (v : Nat) (segs : List (List Bytes)) :
    ∀ l ∈ (clearSegments v segs).dropLast, ∃ b ∈ l, v < u32At b 0 := by
  intro l hl
  rw [clearSegments] at hl
  dsimp only at hl
  split at hl
  · rw [List.dropLast_concat] at hl
    obtain ⟨-, hany⟩ := List.mem_filter.mp hl
    obtain ⟨b, hb, hv⟩ := List.any_eq_true.mp hany
    exact ⟨b, hb, of_decide_eq_true hv⟩
  · cases hl

/-- A clear that is no violation. -/
theorem recorderClearEff_clears {s : State} {ses v w : Nat} (key : Bytes)
    (hw : w = if v = 0xFFFFFFFF then s.rcd.nextSeq - 1 else v) (hlow : s.rcd.clearMark ≤ w)
    (hhigh : w ≤ s.rcd.nextSeq - 1) : ∃ data, recorderClearEff ses v key s = State.raiseWith { s with
      rcd := { s.rcd with segs := clearSegments w s.rcd.segs, clearMark := w, lastClear := s.now } } 0x0C01 noInst
      data := by
  subst hw
  rw [recorderClearEff]
  dsimp only
  rw [if_neg (not_or.mpr ⟨not_lt.mpr hlow, not_lt.mpr hhigh⟩)]
  exact ⟨_, rfl⟩

theorem heldRecords_above {s : State} {w : Nat} (hw : s.rcd.clearMark = w) : ∀ b ∈ s.heldRecords, w < u32At b 0 := by
  intro b hb
  obtain ⟨l, -, hmem⟩ := List.mem_flatMap.mp hb
  obtain ⟨-, habove⟩ := List.mem_filter.mp hmem
  rw [← hw]
  exact of_decide_eq_true habove

/-- Settles O47: by what the recorder holds as each row comes. -/
theorem recorderCommands : Obligations.RecorderCommands := by
  refine ⟨fun s b rest hrun hstaged hroom => ⟨fun hnone => ?_, fun a hfail hdue => ?_⟩,
    fun s b rest hrun hstaged => ⟨fun hnone => ?_, fun a hfail hdue => ?_⟩,
    fun s ok a hrun hfail => ⟨?_, fun hearly => ?_⟩, fun s ok hrun hnone => ?_,
    fun s ok hrun hstaged => ⟨?_, ?_⟩, fun s c i w hrun hc hi hwin hover hsup => ?_,
    fun s c i w hrun hwin hopen => ?_, fun s ses off n hrun hses hlong => ?_, fun s ses off hrun hses => ?_,
    fun s ses off n hrun hrel hses hpos hlim => ?_, fun s ses v w k hrun hses hw hbad => ?_,
    fun s ses v w k hrun hses hw hlow hhigh => ?_, fun s ses hrun hses => ?_⟩
  · refine run_framed (flashWriteEff_frame ..) rfl hrun
      ((flashWriteEff_first true hnone).trans ((flashRecordEff_writes hstaged hroom).trans ?_))
    exact congrArg (fun a => ({ s with rcd := { s.rcd with
      staged := rest, segs := appendRecord b s.rcd.segs, failedAt := a } } : State)) hnone.symm
  · exact run_framed (flashRetryEff_frame ..) rfl hrun
      ((flashRetryEff_due true hfail hdue).trans (flashRecordEff_writes hstaged hroom))
  · exact run_framed (flashWriteEff_frame ..) rfl hrun
      ((flashWriteEff_first false hnone).trans (flashRecordEff_fails hstaged))
  · exact run_framed (flashRetryEff_frame ..) rfl hrun
      ((flashRetryEff_due false hfail hdue).trans (flashRecordEff_fails hstaged))
  · exact run_to rfl hrun (flashWriteEff_failed ok hfail)
  · exact run_to rfl hrun (flashRetryEff_early ok hfail hearly)
  · exact run_to rfl hrun (flashRetryEff_none ok hnone)
  · refine run_to rfl hrun ?_
    rw [flashWriteEff, flashRecordEff_none ok hstaged, ite_self]
  · refine run_to rfl hrun ?_
    rw [flashRetryEff]
    split
    · rw [flashRecordEff_none ok hstaged, ite_self]
    · rfl
  · refine run_framed (rateCloseEff_frame ..) (both_lt hc hi) hrun ?_
    rw [rateCloseEff, hwin]
    dsimp only
    rw [if_pos hover, closeWindow]
    exact if_pos hsup
  · refine run_unchanged ?_
    rw [rateCloseEff, hwin]
    exact if_neg (ne_true_of_eq_false hopen)
  · refine run_framed (recordReadEff_frame ..) (decide_eq_true hses) hrun ((if_pos (.inr hlong)).trans ?_)
    rw [Nat.min_eq_right hlong.le]
  · refine run_framed (recordReadEff_frame ..) (decide_eq_true hses) hrun ((if_pos (.inl rfl)).trans ?_)
    rw [Nat.zero_min]
    rfl
  · have hs := recordReadEff_frame ses off n s
    obtain ⟨hlen, w, hrcd⟩ := readRecords_reads ses off n s
    have hread := readRecords_frame ses off n s
    have heff : recordReadEff ses off n s =
        (readRecords ses off n s).2.send (.blockData ses 0x7200 0x06 (readRecords ses off n s).1) :=
      if_neg (not_or.mpr ⟨hpos.ne', not_lt.mpr hlim⟩)
    rw [State.send_loud (by rw [hread.hw_eq, hrel])] at heff
    refine ⟨_, run_framed hs (decide_eq_true hses) hrun heff, ?_, ?_, ⟨_, ?_, hlen⟩, hread.trays_eq⟩
    · rw [hrcd]
    · rw [hrcd]
    · exact List.getLast?_concat
  · refine run_framed (recorderClearEff_frame ..) (decide_eq_true hses) hrun ?_
    subst hw
    rw [recorderClearEff]
    exact if_pos hbad
  · have hs := recorderClearEff_frame ses v k s
    obtain ⟨data, heff⟩ := recorderClearEff_clears (ses := ses) k hw hlow hhigh
    exact ⟨_, run_framed hs (decide_eq_true hses) hrun heff, rfl, ⟨_, List.mem_concat_self, rfl, rfl⟩,
      heldRecords_above rfl, clearSegments_dropLast w s.rcd.segs, rfl, rfl⟩
  · exact run_framed (recorderClearCountersEff_frame s) (decide_eq_true hses) hrun rfl

end Sys2Proof.Machine
end

section
/-! SUPPORT. Proof: calibration entries written, measured, stored and locked (19_calibration.md: Entries and their
use, Writing the set, Live routines). -/

namespace Sys2Proof.Machine

set_option Elab.async false

section
variable {s : State}

/-! ### Entries -/

theorem State.calEntry_setCal (s : State) (e j : Nat) (x : CalEntry) :
    (s.setCal e x).calEntry j = if j = e then x else s.calEntry j := by
  rw [State.calEntry, State.setCal]
  by_cases h : j = e
  · rw [if_pos h, h]
    exact Store.get_set_same ..
  · rw [if_neg h]
    dsimp only
    rw [Store.set]
    split
    · exact Store.get_del_other _ _ _ _ h
    · exact (Store.get_ins_other _ _ _ _ _ h).trans (Store.get_del_other _ _ _ _ h)

/-- What an integrator's write drops of a live measurement touches no entry and no transaction. -/
theorem dropMeasure_entries (e : Nat) (s : State) :
    (dropMeasure e s).cal.entries = s.cal.entries ∧ (dropMeasure e s).cal.lastTxn = s.cal.lastTxn := by
  rw [dropMeasure]
  dsimp only
  split
  · exact ⟨rfl, rfl⟩
  · split
    · exact ⟨rfl, rfl⟩
    · split
      · exact ⟨rfl, rfl⟩
      · exact ⟨rfl, rfl⟩

/-- The entry a write by hand leaves. -/
def State.calByHand (s : State) (e bits : Nat) (locked : Bool) : CalEntry :=
  { CalEntry.put s (e / 68) (e % 68) bits (s.calEntry e) with
    src := 1, locked := locked, unver := false, anchor := bits, banded := false }

theorem calWrite_cal (e bits : Nat) (locked : Bool) (s : State) :
    (calWrite e bits locked s).cal.entries = (s.setCal e (s.calByHand e bits locked)).cal.entries ∧
      (calWrite e bits locked s).cal.lastTxn = s.cal.lastTxn := by
  have hdrop := dropMeasure_entries e (s.setCal e (s.calByHand e bits locked))
  rw [calWrite]
  dsimp only
  split
  · rw [(State.raise_frame ..).cal_eq]
    exact hdrop
  · exact hdrop

/-- A write by hand holds its value. -/
theorem calWrite_entry (e bits : Nat) (locked : Bool) (s : State) :
    (calWrite e bits locked s).calEntry e = s.calByHand e bits locked := by
  rw [State.calEntry, (calWrite_cal e bits locked s).1]
  exact (State.calEntry_setCal ..).trans (if_pos rfl)

/-- The elements of a block leave the number of the last block transaction. -/
theorem calElements_lastTxn (id first : Nat) : ∀ (i : Nat) (l : List Bytes) (s : State),
    (calElements id first i l s).cal.lastTxn = s.cal.lastTxn ∧
      (calElements id first i l s).txn.highest = s.txn.highest
  | _, [], _ => ⟨rfl, rfl⟩
  | i, b :: rest, s => by
    rw [calElements]
    split
    · obtain ⟨hlast, hhigh⟩ := calElements_lastTxn id first (i + 1) rest
        (txnElement id i (calWrite (first + i) (u32At b 4) (bit (u8At b 2) 2) s))
      refine ⟨hlast.trans (.trans ?_ (calWrite_cal (first + i) (u32At b 4) (bit (u8At b 2) 2) s).2), hhigh.trans ((txnElement_highest ..).trans ?_)⟩
      · exact congrArg Cal.lastTxn (txnElement_frame ..).cal_eq
      · exact congrArg Txns.highest (calWrite_frame ..).txn_eq
    · exact calElements_lastTxn id first (i + 1) rest s

/-- An accepted block is the transaction the set names as its last. -/
theorem calBlockEff_opens {ses q o : Nat} {d : Bytes} (hd : d.length = 8) (ho : o % 8 = 0)
    (hfit : o + 8 ≤ 8 * Config.calEntries) (hroom : s.openTxns < 32) :
    (calBlockEff ses q o d s).sess = s.sess ∧
      (calBlockEff ses q o d s).txn.highest = (calBlockEff ses q o d s).cal.lastTxn := by
  have hok : ¬(d = [] ∨ d.length % 8 ≠ 0 ∨ o % 8 ≠ 0 ∨ 8192 < d.length ∨ 8 * Config.calEntries < o + d.length) := by
    rintro (h | h | h | h | h)
    · simp [h] at hd
    · omega
    · omega
    · omega
    · omega
  rw [calBlockEff]
  dsimp only
  rw [if_neg hok, if_neg (not_le.mpr hroom)]
  obtain ⟨u, hu⟩ : ∃ u, openTxn 5 0x0A9000 o (d.length / 8) ses q s = u := ⟨_, rfl⟩
  have hsess : u.sess = s.sess := hu ▸ (openTxn_frame ..).sess_eq
  rw [hu]
  clear hu
  obtain ⟨hlast, hhigh⟩ := calElements_lastTxn u.txn.highest (o / 8) 0
    ((List.range (d.length / 8)).map fun i => slice d (8 * i) 8)
    { u with cal := { u.cal with lastTxn := u.txn.highest } }
  refine ⟨?_, ?_⟩
  · rw [(finishTxn_frame ..).sess_eq, (calElements_frame ..).sess_eq]
    exact hsess
  · rw [finishTxn_highest, (finishTxn_frame ..).cal_eq, hlast]
    exact hhigh

/-! ### Locking -/

/-- Locking or unlocking reaches the first n entries and changes nothing else of an entry. -/
theorem calLock_entries (b : Bool) (s : State) (e : Nat) : ∀ n,
    let u := (List.range n).foldl (fun s e => (s.setCal e { s.calEntry e with locked := b }).pendStore (calKey e)) s
    (e < n → (u.calEntry e).locked = b) ∧ (u.calEntry e).bits = (s.calEntry e).bits
  | 0 => ⟨fun h => absurd h (Nat.not_lt_zero e), rfl⟩
  | n + 1 => by
    have ih := calLock_entries b s e n
    dsimp only at ih ⊢
    rw [List.range_succ, List.foldl_append]
    generalize (List.range n).foldl _ s = v at ih ⊢
    have hset : ((v.setCal n { v.calEntry n with locked := b }).pendStore (calKey n)).calEntry e = _ :=
      State.calEntry_setCal ..
    rw [List.foldl_cons, List.foldl_nil, hset]
    split
    next h => exact ⟨fun _ => rfl, h ▸ ih.2⟩
    next h => exact ⟨fun hlt => ih.1 (by omega), ih.2⟩

/-! ### Live routines -/

theorem State.cfgU_pendStore (s : State) (key i j : Nat) : (s.pendStore key).cfgU i j = s.cfgU i j := rfl

theorem resetAnchors_cfgU (r i j : Nat) (s : State) : (resetAnchors r s).cfgU i j = s.cfgU i j := by
  refine foldl_keeps (fun u : State => u.cfgU i j = s.cfgU i j) _ _ (fun u e hu => ?_) s rfl
  dsimp only
  split
  · exact hu
  · exact hu

theorem liveRoutinesEff_sets {ses v : Nat} (hv : v ≤ 3) : (liveRoutinesEff ses v s).cfgU 0x9000 0x03 = v := by
  have hset : (s.storeCfg 0x9000 0x03 v).cfgU 0x9000 0x03 = v := State.cfgU_setCfg_same s 0x9000 0x03 v
  rw [liveRoutinesEff, if_neg (not_lt.mpr hv)]
  dsimp only
  split
  · rw [resetAnchors_cfgU]
    split
    · rw [resetAnchors_cfgU, hset]
    · exact hset
  · split
    · rw [resetAnchors_cfgU, hset]
    · exact hset

/-! ### Measurements -/

/-- A phase with samples is one of its tray's. -/
theorem sampled_ph_lt {t p : Nat} (h : 1024 ≤ (s.ph t p).calN) :
    t < s.phases.length ∧ p < (get [] s.phases t).length := by
  have hp : p < (get [] s.phases t).length := lt_of_get_ne (d := Phase.reset) fun hd => by
    rw [State.ph, hd] at h
    exact absurd h (by decide)
  refine ⟨lt_of_get_ne (d := []) fun hd => ?_, hp⟩
  rw [hd] at hp
  exact absurd hp (Nat.not_lt_zero p)

theorem sampled_link_lt {t : Nat} (h : 1024 ≤ (s.link t).calN) : t < s.links.length :=
  lt_of_get_ne (d := Link.reset) fun hd => by
    rw [State.link, hd] at h
    exact absurd h (by decide)

/-- A phase without its samples. -/
def Phase.usedUp (x : Phase) : Phase := { x with calN := 0, calSum := 0, calSq := 0 }

/-- A link without its samples. -/
def Link.usedUp (l : Link) : Link := { l with calN := 0, calSum := 0, calSq := 0 }

theorem offsetOpen_updPh {f : Phase → Phase} (hst : ∀ x, (f x).st = x.st) (hflags : ∀ x, (f x).flags = x.flags)
    (s : State) (t p u q : Nat) : (s.updPh u q f).offsetOpen t p = s.offsetOpen t p := by
  have hph : ((s.updPh u q f).ph t p).st = (s.ph t p).st :=
    get_upd_field (fun l => (get Phase.reset l p).st) (fun l => get_upd_field Phase.st hst l q p) s.phases u t
  have hfl : ((s.updPh u q f).ph t p).flags = (s.ph t p).flags :=
    get_upd_field (fun l => (get Phase.reset l p).flags) (fun l => get_upd_field Phase.flags hflags l q p) s.phases u t
  rw [State.offsetOpen, State.offsetOpen, State.shelfPhase, State.shelfPhase, hph, State.shelfSense, State.shelfSense,
    hfl]
  rfl

/-- The cases of a phase's measurement with its samples together. -/
theorem phaseOffsetEff_cases {t p : Nat} (hn : 1024 ≤ (s.ph t p).calN) :
    phaseOffsetEff t p s = if s.offsetOpen t p = false then (s.updPh t p Phase.usedUp).updPh t p Phase.dropCal
      else if calAccepted (s.ph t p).calSum (s.ph t p).calSq then
        calMeasure t (8 + p) ((s.ph t p).calSum / 1024) (s.updPh t p Phase.usedUp)
      else s.updPh t p Phase.usedUp := by
  have hopen := offsetOpen_updPh (f := Phase.usedUp) (fun _ => rfl) (fun _ => rfl) s t p t p
  rw [phaseOffsetEff]
  dsimp only
  rw [if_neg (not_lt.mpr hn), ← hopen]
  rfl

theorem updPh_usedUp_calN {t p : Nat} (hn : 1024 ≤ (s.ph t p).calN) :
    ((s.updPh t p Phase.usedUp).ph t p).calN = 0 := by
  obtain ⟨ht, hp⟩ := sampled_ph_lt hn
  rw [State.ph_updPh_same _ _ _ _ ht hp]
  rfl

theorem updPh_dropCal {t p : Nat} (hn : 1024 ≤ (s.ph t p).calN) :
    ((s.updPh t p Phase.usedUp).updPh t p Phase.dropCal).ph t p = (s.ph t p).usedUp.dropCal := by
  obtain ⟨ht, hp⟩ := sampled_ph_lt hn
  have ht' : t < (s.updPh t p Phase.usedUp).phases.length := lt_of_lt_of_eq ht (upd_length ..).symm
  have hp' : p < ((s.updPh t p Phase.usedUp).phs t).length := by
    rw [State.phs, State.updPh_phases, get_upd_same _ _ _ _ ht, upd_length]
    exact hp
  rw [State.ph_updPh_same _ _ _ _ ht' hp', State.ph_updPh_same _ _ _ _ ht hp]

theorem phaseOffsetEff_uses {t p : Nat} (hn : 1024 ≤ (s.ph t p).calN) : ((phaseOffsetEff t p s).ph t p).calN = 0 := by
  rw [phaseOffsetEff_cases hn]
  split
  · rw [updPh_dropCal hn]
    rfl
  · split
    · rw [State.ph, (calMeasure_frame ..).phases_eq]
      exact updPh_usedUp_calN hn
    · exact updPh_usedUp_calN hn

theorem dcOffsetEff_cases {t : Nat} (hn : 1024 ≤ (s.link t).calN) :
    dcOffsetEff t s = if dcWindow s t = false then (s.updLink t Link.usedUp).updLink t Link.dropCal
      else if calAccepted (s.link t).calSum (s.link t).calSq then
        calMeasure t 17 ((s.link t).calSum / 1024) (s.updLink t Link.usedUp)
      else s.updLink t Link.usedUp := by
  have hup : ((s.updLink t Link.usedUp).link t).up = (s.link t).up := 
    get_upd_field (f := Link.usedUp) Link.up (fun _ => rfl) s.links t t
  have hopen : dcWindow (s.updLink t Link.usedUp) t = dcWindow s t := by
    rw [dcWindow, dcWindow, State.shelfInSet, State.shelfInSet, hup]
    rfl
  rw [dcOffsetEff]
  dsimp only
  rw [if_neg (not_lt.mpr hn), ← hopen]
  rfl

theorem updLink_usedUp {t : Nat} (hn : 1024 ≤ (s.link t).calN) :
    (s.updLink t Link.usedUp).link t = (s.link t).usedUp :=
  State.link_updLink_same _ _ _ (sampled_link_lt hn)

theorem updLink_dropCal {t : Nat} (hn : 1024 ≤ (s.link t).calN) :
    ((s.updLink t Link.usedUp).updLink t Link.dropCal).link t = (s.link t).usedUp.dropCal := by
  have ht' : t < (s.updLink t Link.usedUp).links.length := lt_of_lt_of_eq (sampled_link_lt hn) (upd_length ..).symm
  rw [State.link_updLink_same _ _ _ ht', updLink_usedUp hn]

theorem dcOffsetEff_uses {t : Nat} (hn : 1024 ≤ (s.link t).calN) : ((dcOffsetEff t s).link t).calN = 0 := by
  rw [dcOffsetEff_cases hn]
  split
  · rw [updLink_dropCal hn]
    rfl
  · split
    · rw [State.link, (calMeasure_frame ..).links_eq]
      exact congrArg Link.calN (updLink_usedUp hn)
    · exact congrArg Link.calN (updLink_usedUp hn)

/-! ### Equalisation -/

theorem equaliseEff_early {a : Nat} (ha : s.cal.eqSince = some a) (hearly : s.now < a + sec) : equaliseEff s = s := by
  rw [equaliseEff, ha]
  dsimp only
  rw [if_pos (.inr hearly)]

theorem equaliseEff_idle (h : s.cal.eqSince = none ∨ s.shelfRun = false) : equaliseEff s = s := by
  rw [equaliseEff]
  split
  · rfl
  next a ha =>
    obtain hnone | hstop := h
    · rw [hnone] at ha
      cases ha
    · rw [if_pos (.inl hstop)]

/-- A second that is over begins the next, whatever it measured. -/
theorem equaliseEff_due {a : Nat} (ha : s.cal.eqSince = some a) (hdue : a + sec ≤ s.now) (hrun : s.shelfRun = true) :
    (s.loop.nValid < 4 → equaliseEff s = startSecond s) ∧ (equaliseEff s).cal.eqSince = some s.now := by
  have hgo : ¬(s.shelfRun = false ∨ s.now < a + sec) := by
    rw [hrun]
    exact not_or.mpr ⟨Bool.noConfusion, not_lt.mpr hdue⟩
  rw [equaliseEff, ha]
  dsimp only
  rw [if_neg hgo]
  split
  next hfew => exact ⟨fun _ => rfl, rfl⟩
  next hmany =>
    refine ⟨fun hfew => absurd (.inl hfew) hmany, ?_⟩
    refine congrArg some (SameBut.now_eq (l := [.fm, .cal]) ?_)
    exact .foldl fun _ _ => calMeasure_frame ..

/-! ### Storing -/

theorem calStoreLive_clean (h : s.cal.dirty = false) : calStoreLive s = s := by
  rw [calStoreLive, h]
  rfl

theorem calStoreLive_dirty (h : s.cal.dirty = true) : ∃ f, calStoreLive s =
    { s with cal := { s.cal with flash := f, dirty := false, lastStore := s.now, storeFrom := s.now } } := by
  rw [calStoreLive, h]
  exact ⟨_, rfl⟩

end

/-- Settles O48: by the entry, the measurement or the store each row reaches. -/
theorem calibrationCommandsHold : Obligations.CalibrationCommands := by
  refine ⟨fun s ses q o hrun hses => ?_, fun s ses q o d hrun hses hd ho hfit hroom => ?_,
    fun s ses t sub v hrun hses ht hlow hhigh hv hin => ?_, fun s ses t sub v hrun hses ht hsub hv hbad => ?_,
    fun s ses v hrun hses hv => ?_, fun s ses v hrun hses hv => ?_, fun s t p hrun ht hp hn => ?_,
    fun s t p hrun ht hp hn hopen => ?_, fun s t hrun ht hn hopen => ?_,
    fun s t p hrun ht hp hn hopen hacc => ?_, fun s t p hrun ht hp hn => ?_, fun s t hrun ht hn => ?_,
    fun s t hrun ht hn => ?_, fun s a hrun ha hearly => ?_, fun s a hrun ha hdue hshelf hfew => ?_,
    fun s hrun hidle => ?_, fun s a hrun ha hdue hshelf => ?_, fun s ses hrun hses hclean => ?_,
    fun s hrun hst hhour => ?_, fun s ses hrun hses hdirty => ?_, fun s hrun hwhen => ?_,
    fun s ses e hrun hses he => ⟨?_, ?_⟩, fun s ses hrun hses => ?_⟩
  · refine run_framed (calBlockEff_frame ..) (decide_eq_true hses) hrun ?_
    rw [calBlockEff]
    dsimp only
    rw [if_pos (.inl rfl)]
  · have hs := calBlockEff_frame ses q o d s
    obtain ⟨hsess, htxn⟩ := calBlockEff_opens (ses := ses) (q := q) hd ho hfit hroom
    exact ⟨_, run_framed hs (decide_eq_true hses) hrun rfl, hsess, hs.loop_eq, hs.trays_eq, htxn⟩
  · have hs := calWrite_frame (68 * t + 12 + sub) v (s.calEntry (68 * t + 12 + sub)).locked s
    refine ⟨_, runObj_framed (calScalarEff_frame ..) hses ?_ hrun (if_pos ⟨hlow, hhigh, hin⟩), ?_, ?_, ?_, hs.sess_eq,
      hs.loop_eq⟩
    · rw [decide_eq_true ht, decide_eq_true (show sub < 256 by omega), decide_eq_true hv, Bool.and_self, Bool.and_self]
    · exact congrArg CalEntry.bits (calWrite_entry ..)
    · exact congrArg CalEntry.src (calWrite_entry ..)
    · exact (congrArg CalEntry.locked (calWrite_entry (68 * t + 12 + sub) v _ s)).trans rfl
  · refine runObj_framed (calScalarEff_frame ..) hses ?_ hrun (if_neg ?_)
    · rw [decide_eq_true ht, decide_eq_true hsub, decide_eq_true hv, Bool.and_self, Bool.and_self]
    · rintro ⟨hlow, hhigh, hin⟩
      obtain h | h | h := hbad
      · omega
      · omega
      · rw [h] at hin
        cases hin
  · exact run_framed (liveRoutinesEff_frame ..) (decide_eq_true hses) hrun (if_pos hv)
  · have hs := liveRoutinesEff_frame ses v s
    exact ⟨_, run_framed hs (decide_eq_true hses) hrun rfl, liveRoutinesEff_sets hv, hs.loop_eq, hs.phases_eq⟩
  · exact run_unchanged (if_pos hn)
  · have hs := phaseOffsetEff_cases hn
    rw [if_pos hopen] at hs
    refine ⟨_, run_framed (phaseOffsetEff_frame ..) (okTP_of_lt ht hp) hrun hs, rfl, ?_, ?_⟩
    · exact congrArg Phase.calN (updPh_dropCal hn)
    · exact congrArg Phase.calSince (updPh_dropCal hn)
  · have hs := dcOffsetEff_cases hn
    rw [if_pos hopen] at hs
    refine ⟨_, run_framed (dcOffsetEff_frame ..) (decide_eq_true ht) hrun hs, rfl, ?_, ?_⟩
    · exact congrArg Link.calN (updLink_dropCal hn)
    · exact congrArg Link.calSince (updLink_dropCal hn)
  · refine run_framed (phaseOffsetEff_frame ..) (okTP_of_lt ht hp) hrun ?_
    rw [phaseOffsetEff_cases hn, if_neg (by rw [hopen]; exact Bool.noConfusion), hacc]
    rfl
  · have hs := phaseOffsetEff_frame t p s
    exact ⟨_, run_framed hs (okTP_of_lt ht hp) hrun rfl, phaseOffsetEff_uses hn, hs.loop_eq, hs.trays_eq⟩
  · exact run_unchanged (if_pos hn)
  · have hs := dcOffsetEff_frame t s
    exact ⟨_, run_framed hs (decide_eq_true ht) hrun rfl, dcOffsetEff_uses hn, hs.phases_eq, hs.loop_eq⟩
  · exact run_unchanged (equaliseEff_early ha hearly)
  · exact run_framed (equaliseEff_frame ..) rfl hrun ((equaliseEff_due ha hdue hshelf).1 hfew)
  · exact run_unchanged (equaliseEff_idle hidle)
  · have hs := equaliseEff_frame s
    exact ⟨_, run_framed hs rfl hrun rfl, (equaliseEff_due ha hdue hshelf).2, hs.loop_eq, hs.trays_eq⟩
  · exact run_unchanged (calStoreLive_clean hclean)
  · exact run_unchanged (if_neg (not_or.mpr ⟨not_lt.mpr hhour, hst⟩))
  · obtain ⟨f, hf⟩ := calStoreLive_dirty hdirty
    exact ⟨_, run_framed (calStoreLive_frame ..) (decide_eq_true hses) hrun hf, rfl, rfl, rfl, rfl⟩
  · exact run_framed (calLiveStoreEff_frame ..) rfl hrun (if_pos hwhen.symm)
  · have hs := calLockEff_frame true s
    obtain ⟨hlock, hbits⟩ := calLock_entries true s e Config.calEntries
    exact ⟨_, run_framed hs (decide_eq_true hses) hrun rfl, hlock he, hbits, hs.loop_eq⟩
  · have hs := calLockEff_frame false s
    obtain ⟨hlock, hbits⟩ := calLock_entries false s e Config.calEntries
    exact ⟨_, run_framed hs (decide_eq_true hses) hrun rfl, hlock he, hbits, hs.loop_eq⟩
  · exact run_framed (calClearEff_frame ..) (decide_eq_true hses) hrun rfl

end Sys2Proof.Machine
end

section
/-! SUPPORT. Proof: power fail and restore, temperatures, J2 (21_module_hardware.md: Auxiliary feeds and power, Thermal
and environmental limits, Connectors). -/

namespace Sys2Proof.Machine

set_option Elab.async false

section
variable {s : State}

/-! ### Power fail and restore -/

/-- What the power-fail sequence records before its outputs are released. -/
def lastRecords (s : State) : State :=
  let r : Raise := { code := 0x000B, inst := noInst, ctx := s.context, at_ := s.now, data := le 8 s.now, count := 1 }
  let s := enterActive r false (recordAlways r 0 (countRaise r s))
  s.fm.inFlight.foldl (fun s r => enterActive r false (recordRun r 0 (countRaise r s))) s

theorem lastRecords_frame (s : State) : SameBut [.tx, .fm, .rcd] s (lastRecords s) :=
  .trans (.step (.step (.mono (countRaise_frame ..)) (recordAlways_frame ..)) (enterActive_frame ..))
    (.foldl fun _ _ => .step (.step (.mono (countRaise_frame ..)) (recordRun_frame ..)) (enterActive_frame ..))

/-- The outputs released, every record in flash, the rails off. -/
def railsOff (s : State) : State :=
  let s := { s with hw := { s.hw with released := true } }
  let at_ := s.now
  let s := loseVolatile false (flushStaged s.rcd.staged.length s)
  { s with
    now := at_
    hw := { s.hw with phase := .off, powerFail := some at_ }
    od := { s.od with resetCause := 0 } }

theorem powerFailSequence_ends (s : State) : powerFailSequence s = railsOff (lastRecords s) := by
  rw [powerFailSequence, railsOff, lastRecords]

/-- What the module holds once its rails are off. -/
structure OffFrom (s u : State) : Prop where
  phase : u.hw.phase = .off
  flash : u.od.flash = s.od.flash
  staged : u.rcd.staged = []
  cal : u.cal.flash = s.cal.flash
  minVer : u.sec.minVer = s.sec.minVer
  powerFail : u.hw.powerFail = some s.now

theorem railsOff_off (s : State) : OffFrom s (railsOff s) := by
  obtain ⟨v, hv⟩ : ∃ v, { s with hw := { s.hw with released := true } } = v := ⟨_, rfl⟩
  have hs := flushStaged_frame v.rcd.staged.length v
  rw [railsOff, hv]
  generalize flushStaged v.rcd.staged.length v = w at hs
  subst hv
  have hod : w.od = s.od := hs.od_eq
  have hcal : w.cal = s.cal := hs.cal_eq
  have hsec : w.sec = s.sec := hs.sec_eq
  refine ⟨rfl, ?_, rfl, ?_, ?_, rfl⟩
  · show w.od.flash = s.od.flash
    rw [hod]
  · show w.cal.flash = s.cal.flash
    rw [hcal]
  · show w.sec.minVer = s.sec.minVer
    rw [hsec]

theorem powerFailSequence_off (s : State) : OffFrom s (powerFailSequence s) := by
  have hs := lastRecords_frame s
  obtain ⟨hphase, hflash, hstaged, hcal, hver, hfail⟩ := railsOff_off (lastRecords s)
  rw [powerFailSequence_ends]
  exact ⟨hphase, by rw [hflash, hs.od_eq], hstaged, by rw [hcal, hs.cal_eq], by rw [hver, hs.sec_eq],
    by rw [hfail, hs.now_eq]⟩

theorem powerFailEff_fails (hlow : 2 ≤ s.hw.lowCount) (hphase : s.hw.phase ≠ .off) :
    powerFailEff s = powerFailSequence s := if_pos ⟨hlow, hphase⟩

theorem powerFailEff_unchanged (h : s.hw.lowCount < 2 ∨ s.hw.phase = .off) : powerFailEff s = s := by
  refine if_neg ?_
  rintro ⟨hlow, hphase⟩
  exact h.elim (not_lt.mpr hlow) hphase

theorem feedBack_of_good {a : Nat} (ha : some a ∈ s.hw.feedGood) (hlong : a + 100 * ms ≤ s.now) : s.feedBack = true :=
  List.any_eq_true.mpr ⟨some a, ha, decide_eq_true hlong⟩

theorem feedBack_short (h : ∀ x ∈ s.hw.feedGood, s.now < x.getD s.now + 100 * ms) : s.feedBack = false := by
  refine List.any_eq_false.mpr fun x hx => ?_
  have hshort := h x hx
  cases x with
  | none => exact Bool.noConfusion
  | some a =>
    intro hlong
    exact absurd hshort (not_lt.mpr (of_decide_eq_true hlong))

theorem powerRestoreEff_restores (hphase : s.hw.phase = .off) (hcool : s.hw.thermalOff = false)
    (hback : s.feedBack = true) :
    powerRestoreEff s = powerUp { s with hw := { s.hw with withdrawn := false, scan := .held } } :=
  if_pos ⟨hphase, hcool, hback⟩

theorem powerRestoreEff_unchanged (h : s.feedBack = false) : powerRestoreEff s = s := by
  refine if_neg ?_
  rintro ⟨-, -, hback⟩
  rw [h] at hback
  cases hback

/-! ### Temperature -/

/-- The state with the thresholds as a check leaves them. -/
def thermalRead (j i : Rat) (s : State) : State :=
  let h := s.hw
  let on := decide (h.phase = .firmware)
  let hot := on && (decide (110 < j) || (h.over110.isSome && !decide (j < 105)))
  { s with hw := { h with
    junction := j, inlet := i
    warnJ := on && (decide (95 < j) || (h.warnJ && !decide (j < 90)))
    warnI := on && (decide (50 < i) || (h.warnI && !decide (i < 45)))
    over110 := if hot then some (h.over110.getD s.now) else none
    coolSince := if h.thermalOff && decide (j < 85) then some (h.coolSince.getD s.now) else none } }

/-- What a check raises, by the thresholds newly passed. -/
theorem thermalEff_raises (j i : Rat) (s : State) : thermalEff j i s =
    when_ (decide (s.hw.phase = .firmware) && (decide (110 < j) || (s.hw.over110.isSome && !decide (j < 105))) &&
        s.hw.over110.isNone) (fun s => s.raise 0x000A noInst)
      (when_ (((thermalRead j i s).hw.warnJ && !s.hw.warnJ) || ((thermalRead j i s).hw.warnI && !s.hw.warnI))
        (fun s => s.raise 0x0009 noInst) (thermalRead j i s)) := rfl

theorem thermalEff_read (j i : Rat) (s : State) : SameBut [.fm] (thermalRead j i s) (thermalEff j i s) := by
  rw [thermalEff_raises]
  exact .trans (.when_ fun _ => State.raise_frame ..) (.when_ fun _ => State.raise_frame ..)

theorem thermalEff_warm {j : Rat} (i : Rat) (hrun : s.hw.phase = .firmware) (hwarm : 95 < j)
    (hfirst : s.hw.warnJ = false) : (thermalEff j i s).hw.warnJ = true ∧ (thermalEff j i s).raised 0x0009 noInst := by
  have hw : (thermalRead j i s).hw.warnJ = true := by simp [thermalRead, hrun, hwarm]
  refine ⟨by rw [(thermalEff_read j i s).hw_eq, hw], ?_⟩
  rw [thermalEff_raises, hw, hfirst]
  refine Raising.raised ?_ (raised_raise (thermalRead j i s) 0x0009 noInst)
  rw [when_]
  exact .ite (raise_raising ..) .refl

theorem thermalEff_hot {j : Rat} (i : Rat) (hrun : s.hw.phase = .firmware) (hhot : 110 < j)
    (hfirst : s.hw.over110 = none) :
    (thermalEff j i s).hw.over110 = some s.now ∧ (thermalEff j i s).raised 0x000A noInst := by
  refine ⟨?_, ?_⟩
  · rw [(thermalEff_read j i s).hw_eq]
    simp [thermalRead, hrun, hhot, hfirst]
  · rw [thermalEff_raises, hrun, hfirst, decide_eq_true hhot]
    exact raised_raise ..

theorem thermalEff_off (j i : Rat) (hrun : s.hw.phase ≠ .firmware) : thermalEff j i s = thermalRead j i s := by
  have hJ : (thermalRead j i s).hw.warnJ = false := by simp [thermalRead, hrun]
  have hI : (thermalRead j i s).hw.warnI = false := by simp [thermalRead, hrun]
  rw [thermalEff_raises, hJ, hI, decide_eq_false hrun]
  rfl

theorem thermalShutdownEff_unchanged (h : s.hw.junction ≤ 115 ∨ s.hw.phase = .off) : thermalShutdownEff s = s := by
  refine if_neg ?_
  rintro ⟨hhot, hphase⟩
  exact h.elim (not_le.mpr hhot) hphase

theorem thermalShutdownEff_off (hhot : 115 < s.hw.junction) (hphase : s.hw.phase ≠ .off) :
    (thermalShutdownEff s).hw.phase = .off ∧ (thermalShutdownEff s).hw.thermalOff = true ∧
      (thermalShutdownEff s).od.flash = s.od.flash := by
  obtain ⟨hoff, hflash, -⟩ := powerFailSequence_off s
  rw [thermalShutdownEff, if_pos ⟨hhot, hphase⟩]
  exact ⟨hoff, rfl, hflash⟩

theorem thermalRestartEff_none (h : s.hw.coolSince = none) : thermalRestartEff s = s := by
  rw [thermalRestartEff, h]

theorem thermalRestartEff_early {a : Nat} (h : s.hw.coolSince = some a)
    (hearly : s.hw.thermalOff = false ∨ s.now < a + 60 * sec) : thermalRestartEff s = s := by
  rw [thermalRestartEff, h]
  refine if_neg ?_
  rintro ⟨hoff, hdue⟩
  obtain hon | hlt := hearly
  · rw [hon] at hoff
    cases hoff
  · exact absurd hlt (not_lt.mpr hdue)

theorem thermalRestartEff_due {a : Nat} (h : s.hw.coolSince = some a) (hoff : s.hw.thermalOff = true)
    (hdue : a + 60 * sec ≤ s.now) : thermalRestartEff s =
    { powerUp s with hw := { (powerUp s).hw with thermalOff := false } } := by
  rw [thermalRestartEff, h]
  exact if_pos ⟨hoff, hdue⟩

/-! ### J2 -/

/-- The connector is out: the pins of boundary scan, and what firmware that runs releases. -/
def unplugged (s : State) : State :=
  let acts := decide (s.hw.phase = .firmware) && !(s.hw.withdrawn && s.hw.released)
  let s := { s with hw := { s.hw with withdrawn := true, scan := .operable, released := s.hw.released || acts } }
  when_ acts (fun s => s.raise 0x000C noInst) s

theorem unplugged_quiet (hrun : s.hw.phase ≠ .firmware) :
    unplugged s = { s with hw := { s.hw with withdrawn := true, scan := .operable } } := by
  rw [unplugged, decide_eq_false hrun, Bool.false_and, Bool.or_false]
  rfl

theorem unplugged_releases (hrun : s.hw.phase = .firmware) (hin : s.hw.withdrawn = false) :
    unplugged s = State.raise { s with hw := { s.hw with
      released := true, withdrawn := true, scan := .operable } } 0x000C noInst := by
  rw [unplugged, decide_eq_true hrun, hin, Bool.false_and, Bool.not_false, Bool.and_self, Bool.or_true]
  rfl

theorem withdrawnEff_alive (hdying : s.dying = false) : withdrawnEff s = unplugged s := by
  have hone : withdrawnEff s = unplugged (when_ (s.dying && !s.hw.withdrawn) recordDying s) := rfl
  rw [hone, hdying, Bool.false_and]
  rfl

theorem off_of_dying (h : s.dying = true) : s.hw.phase = .off := by
  rw [State.dying] at h
  split at h
  next hphase _ => exact hphase
  · cases h

theorem dying_of_firmware (h : s.hw.phase = .firmware) : s.dying = false := by
  rw [State.dying, h]

/-- A record takes the next number and leaves at most one more staged. -/
theorem stageRecord_stages (x : RecordOf) (s : State) :
    (stageRecord x s).rcd.staged.length ≤ s.rcd.staged.length + 1 ∧
      (stageRecord x s).rcd.nextSeq = s.rcd.nextSeq + 1 := by
  rw [stageRecord]
  generalize recordBytes x s = b
  dsimp only
  split
  · have hs : ∀ (c : Bool) (v : State), (when_ c (fun s => s.raise 0x0C05 noInst) v).rcd = v.rcd := fun c v =>
      SameBut.rcd_eq (l := [.fm]) (.when_ fun _ => State.raise_frame ..)
    rw [hs]
    exact ⟨Nat.le_succ _, rfl⟩
  · rw [(State.send_frame ..).rcd_eq]
    exact ⟨(List.length_append ..).le, rfl⟩

theorem reclaim_staged (s : State) : (reclaim s).rcd.staged = s.rcd.staged ∧ (reclaim s).rcd.nextSeq = s.rcd.nextSeq := by
  rw [reclaim]
  split
  · exact ⟨rfl, rfl⟩
  · split
    · exact ⟨rfl, rfl⟩
    · have hs : ∀ (c : Bool) (v : State), (when_ c (fun s => s.raise 0x0C04 noInst) v).rcd = v.rcd := fun c v =>
        SameBut.rcd_eq (l := [.fm]) (.when_ fun _ => State.raise_frame ..)
      dsimp only
      rw [hs]
      exact ⟨rfl, rfl⟩

/-- One staged record, where there is one, reaches flash. -/
theorem flushOne_staged (s : State) : (flushStaged 1 s).rcd.staged = s.rcd.staged.tail ∧
    (flushStaged 1 s).rcd.nextSeq = s.rcd.nextSeq := by
  rw [flushStaged, flushStaged, flashRecordEff]
  split
  next h =>
    rw [h]
    exact ⟨rfl, rfl⟩
  next b rest h =>
    rw [if_pos rfl, h]
    exact reclaim_staged _

/-- The raise recorded as the rails go (Table 21.13). -/
def dyingRaise (s : State) : Raise :=
  { code := 0x000C, inst := noInst, ctx := 0, at_ := s.now, data := le 8 s.now, count := 1 }

theorem recordDying_records (s : State) : (recordDying s).rcd.staged.length ≤ s.rcd.staged.length ∧
    (recordDying s).rcd.nextSeq = s.rcd.nextSeq + 1 := by
  obtain ⟨v, hv⟩ : ∃ v, recordAlways (dyingRaise s) 0 s = v := ⟨_, rfl⟩
  obtain ⟨hlen, hseq⟩ : v.rcd.staged.length ≤ s.rcd.staged.length + 1 ∧ v.rcd.nextSeq = s.rcd.nextSeq + 1 :=
    hv ▸ stageRecord_stages ..
  obtain ⟨htail, hnext⟩ := flushOne_staged v
  have hdying : recordDying s = flushStaged 1 v := hv ▸ rfl
  rw [hdying, htail, hnext, List.length_tail]
  exact ⟨by omega, hseq⟩

/-- J2 withdrawn while the sequence still stores. -/
theorem withdrawnEff_dying (hdying : s.dying = true) :
    (withdrawnEff s).hw.withdrawn = true ∧ (withdrawnEff s).hw.phase = .off ∧ (withdrawnEff s).hw.scan = .operable ∧
      (withdrawnEff s).rcd.staged.length ≤ s.rcd.staged.length ∧
      (s.hw.withdrawn = false → (withdrawnEff s).rcd.nextSeq ≠ s.rcd.nextSeq) := by
  have hoff := off_of_dying hdying
  obtain ⟨hlen, hseq⟩ := recordDying_records s
  obtain ⟨v, hv⟩ : ∃ v, when_ (s.dying && !s.hw.withdrawn) recordDying s = v := ⟨_, rfl⟩
  have hone : withdrawnEff s = unplugged v := hv ▸ rfl
  have hs : SameBut [.tx, .fm, .rcd] s v := hv ▸ .when_ fun _ => recordDying_frame ..
  have hphase : v.hw.phase = .off := by rw [hs.hw_eq, hoff]
  rw [hone, unplugged_quiet (by rw [hphase]; exact nofun)]
  refine ⟨rfl, hphase, rfl, ?_, fun hin => ?_⟩
  · rw [← hv, when_]
    split
    · exact hlen
    · exact le_rfl
  · rw [hdying, hin] at hv
    rw [← hv]
    exact hseq.trans_ne (Nat.succ_ne_self _)

end

/-- Settles O49: by the phase the module is in and what each threshold finds. -/
theorem powerAndHeat : Obligations.PowerAndHeat := by
  refine ⟨fun s hlow hphase => ?_, fun s h => ?_, fun s a ha hphase hcool hlong => ?_, fun s hshort => ?_,
    fun s j i hrun hwarm hmax hfirst hnone => ?_, fun s j i hrun hhot hnone => ?_, fun s hhot hphase => ?_,
    fun s a ha hearly => ?_, fun s hnone => ?_, fun s j i hrun => ?_, fun s h => ?_, fun s a ha hoff hdue => ?_,
    fun s hrun hin => ?_, fun s hrun hdying => ?_, fun s hrun hdying => ?_⟩
  · obtain ⟨hoff, hflash, hstaged, hcal, hver, hfail⟩ := powerFailSequence_off s
    exact ⟨_, request_acts (powerFailEff_fails hlow hphase), hoff, hflash, hstaged, hcal, hver, hfail⟩
  · exact request_to (powerFailEff_unchanged h)
  · exact ⟨_, request_acts (powerRestoreEff_restores hphase hcool (feedBack_of_good ha hlong)), rfl, rfl, rfl, rfl, rfl⟩
  · exact request_to (powerRestoreEff_unchanged (feedBack_short hshort))
  · have hs := thermalEff_frame j i s
    have hhw := (thermalEff_read j i s).hw_eq
    obtain ⟨hwarned, hraised⟩ := thermalEff_warm i (of_decide_eq_true hrun) hwarm hfirst
    exact ⟨_, request_framed hs rfl, by rw [hhw]; rfl, by rw [hhw]; rfl, hwarned, hraised, hs.loop_eq, hs.trays_eq⟩
  · have hs := thermalEff_frame j i s
    obtain ⟨hover, hraised⟩ := thermalEff_hot i (of_decide_eq_true hrun) hhot hnone
    exact ⟨_, request_framed hs rfl, hover, hraised, hs.loop_eq⟩
  · obtain ⟨hoff, hheld, hflash⟩ := thermalShutdownEff_off hhot hphase
    exact ⟨_, request_acts rfl, hoff, hheld, hflash⟩
  · exact request_to (thermalRestartEff_early ha hearly)
  · exact request_to (thermalRestartEff_none hnone)
  · exact ⟨_, request_to (thermalEff_off j i (of_decide_eq_false hrun)), rfl, rfl, rfl, rfl⟩
  · exact request_to (thermalShutdownEff_unchanged h)
  · exact ⟨_, request_acts (thermalRestartEff_due ha hoff hdue), rfl, rfl, rfl⟩
  · have hfw := of_decide_eq_true hrun
    exact request_to ((withdrawnEff_alive (dying_of_firmware hfw)).trans (unplugged_releases hfw hin))
  · exact ⟨_, request_acts rfl, withdrawnEff_dying hdying⟩
  · exact request_to ((withdrawnEff_alive hdying).trans (unplugged_quiet (of_decide_eq_false hrun)))

end Sys2Proof.Machine
end

section
/-! SUPPORT. Proof: the course of one control period, and the bus voltage it forms (01_shelf_and_signal_flow.md: One
control period, sample to edge; 02_bus_voltage_loop.md: The measured bus voltage). -/

namespace Sys2Proof.Machine

set_option Elab.async false

/-! ### The chain in its steps -/

/-- A slot's part of the chain, where its last stage is not void. -/
def whereSound (v : List (Nat × Nat)) (n : Nat) (f : State → State) (s : State) : State :=
  if v.contains (n, fwStages n - 1) then s else f s

/-- The schedule channels fixed at a cut. -/
def cutStep (t0 : Nat) (v : List (Nat × Nat)) (s : State) : State :=
  if t0 % 10000 = 0 ∧ v.contains (64, 0) = false then
    cutEntries t0 { s with tide := { s.tide with cutF := s.loop.ff } } else s

/-- The bus loop's part. -/
def loopStep (t0 : Nat) (v : List (Nat × Nat)) (s : State) : State :=
  match (List.range 6).find? fun k => v.contains (0, k) with
  | some k => { s with loop := flagM (loopUpTo k s t0) }
  | none => loopPeriod t0 s

/-- Phase managers and edge engines. -/
def phasesStep (t0 : Nat) (v : List (Nat × Nat)) (s : State) : State :=
  forTrays (fun t => whereSound v (t + 2) (phaseChain t0 t)) s

/-- What runs after the edge commands have left. -/
def restStep (t0 : Nat) (v : List (Nat × Nat)) (s : State) : State :=
  whereSound v 64 (fun s => switchAtCut t0 (tidePeriod t0 s)) (whereSound v 20 (feedPeriod t0)
    (whereSound v 18 (fun s => forTrays (chargePeriod t0) s) (urgentPeriod t0 (forTrays (trayPeriod t0) s))))

theorem chain_steps (t0 : Nat) (v : List (Nat × Nat)) (s : State) : chain t0 v s = restStep t0 v (delayPeriod
    (phasesStep t0 v (whereSound v 1 (allocPeriod t0) (loopStep t0 v (cutStep t0 v s))))) := rfl

section
variable {t0 n : Nat} {v : List (Nat × Nat)} {s : State}

theorem whereSound_frame {l : List Part} {f : State → State} (hf : SameBut l s (f s)) :
    SameBut l s (whereSound v n f s) := .ite .refl hf

theorem cutStep_frame : SameBut [.tide] s (cutStep t0 v s) := .ite (.step (.tide ..) (cutEntries_frame ..)) .refl

theorem phasesStep_frame : SameBut [.tx, .fm, .phases, .tph, .links, .edge, .pair] s (phasesStep t0 v s) :=
  .forTrays fun _ _ => whereSound_frame (phaseChain_frame ..)

theorem restStep_frame :
    SameBut [.txn, .fm, .tph, .trays, .alloc, .tows, .est, .feed, .tide] s (restStep t0 v s) :=
  .trans (.trans (.trans (.step (.forTrays fun _ _ => .mono (trayPeriod_frame ..)) (urgentPeriod_frame ..))
    (whereSound_frame (.forTrays fun _ _ => .mono (chargePeriod_frame ..))))
    (whereSound_frame (.mono (feedPeriod_frame ..))))
    (whereSound_frame (.step (.mono (tidePeriod_frame ..)) (switchAtCut_frame ..)))

/-! ### The sample of the period -/

/-- The measured bus voltage, whether it is valid, and of when. -/
def Loop.sample (l : Loop) : Rat × Bool × Option Nat := (l.vBus, l.vOk, l.vAt)

theorem loopLaw_sample (s : State) (t0 : Nat) (x : Rat) (l : Loop) : (loopLaw s t0 x l).sample = l.sample := rfl

/-- The loop in one state of Table 2.2 as the period finds it. -/
def loopIn (s : State) (t0 : Nat) (l : Loop) : Loop :=
  match l.st with
  | .off | .charge | .tripped => loopZero l
  | .stopping => loopStopping s l
  | .soft | .run | .hold =>
    if l.vOk then
      let l := if l.st = .hold then { l with st := l.holdFrom } else l
      if l.entry then loopEnter s l.vBus l else loopLaw s t0 l.vBus l
    else loopMiss l

theorem loopIn_sample (s : State) (t0 : Nat) (l : Loop) : (loopIn s t0 l).sample = l.sample := by
  have hmiss : (loopMiss l).sample = l.sample := by
    rw [loopMiss]
    split
    · rfl
    · rfl
  have hlaw : ∀ k : Loop, k.sample = l.sample →
      (if k.entry then loopEnter s k.vBus k else loopLaw s t0 k.vBus k).sample = l.sample := by
    intro k hk
    split
    · exact hk
    · exact hk
  have hheld : (if l.st = .hold then { l with st := l.holdFrom } else l).sample = l.sample := by
    split
    · rfl
    · rfl
  have hruns : (if l.vOk then
      let l := if l.st = .hold then { l with st := l.holdFrom } else l
      if l.entry then loopEnter s l.vBus l else loopLaw s t0 l.vBus l
    else loopMiss l).sample = l.sample := by
    split
    · exact hlaw _ hheld
    · exact hmiss
  rw [loopIn]
  split
  · rfl
  · rfl
  · rfl
  · rfl
  · exact hruns
  · exact hruns
  · exact hruns

/-- The loop with the limits of the period before, in SOFT where a tray now carries current. -/
def loopEntered (s : State) : Loop :=
  let l := { s.loop with disLim := s.alloc.disLim, chgLim := s.alloc.chgLim }
  if l.st = .charge ∧ s.anyCarrying then { l with st := .soft, entry := true } else l

theorem loopCore_in (s : State) (t0 : Nat) : loopCore s t0 = loopIn s t0 (loopEntered s) := rfl

theorem loopCore_sample (s : State) (t0 : Nat) : (loopCore s t0).sample = s.loop.sample := by
  rw [loopCore_in, loopIn_sample, loopEntered]
  dsimp only
  split
  · rfl
  · rfl

/-- What a period of the loop leaves: its state's part, with the runs and the peaks of the period. -/
theorem loopPeriod_loop (t0 : Nat) (s : State) : (loopPeriod t0 s).loop =
    let l := loopRuns s (flagM (loopCore s t0))
    { l with
      disPeaks := peaksNext t0 l.iSt l.disPeaks, chgPeaks := peaksNext t0 (-l.iSt) l.chgPeaks
      hist := (l.iSt :: l.hist).take 11 } := by
  rw [loopPeriod]
  dsimp only
  generalize loopRuns s (flagM (loopCore s t0)) = l
  rw [SameBut.loop_eq (l := [.fm]) (.when_ fun _ => State.raise_frame ..),
    SameBut.loop_eq (l := [.fm]) (.when_ fun _ => State.raise_frame ..)]
  split
  · rfl
  · rfl

theorem loopStep_sample : (loopStep t0 v s).loop.sample = s.loop.sample := by
  rw [loopStep]
  split
  · rfl
  · rw [loopPeriod_loop, ← loopCore_sample s t0]
    generalize loopCore s t0 = l
    rfl

/-- The chain keeps the sample it begins with. -/
theorem chain_sample : (chain t0 v s).loop.sample = s.loop.sample := by
  have hplaced : SameBut [.tx, .fm, .phases, .tph, .links, .edge, .pair, .trays, .alloc] (loopStep t0 v (cutStep t0 v s))
      (phasesStep t0 v (whereSound v 1 (allocPeriod t0) (loopStep t0 v (cutStep t0 v s)))) :=
    .step (whereSound_frame (.mono (allocPeriod_frame ..))) phasesStep_frame
  rw [chain_steps, restStep_frame.loop_eq]
  show (delayPeriod _).loop.sample = _
  rw [delayPeriod]
  show (phasesStep t0 v _).loop.sample = _
  rw [hplaced.loop_eq, loopStep_sample, cutStep_frame.loop_eq]

/-! ### The combined reading (R23) -/

theorem foldl_max_mem (a : Rat) (l : List Rat) : l.foldl max a ∈ a :: l ∧ ∀ x ∈ a :: l, x ≤ l.foldl max a := by
  induction l generalizing a with
  | nil => exact ⟨List.mem_singleton_self a, fun x hx => (List.mem_singleton.mp hx).le⟩
  | cons b l ih =>
    obtain ⟨hmem, hle⟩ := ih (max a b)
    refine ⟨?_, fun x hx => ?_⟩
    · obtain h | h := List.mem_cons.mp hmem
      · rw [List.foldl_cons, h]
        obtain hm | hm := max_choice a b
        · rw [hm]
          exact List.mem_cons_self
        · rw [hm]
          exact List.mem_cons_of_mem _ List.mem_cons_self
      · exact List.mem_cons_of_mem _ (List.mem_cons_of_mem _ h)
    · have htop := hle (max a b) List.mem_cons_self
      obtain rfl | hx := List.mem_cons.mp hx
      · exact (le_max_left _ _).trans htop
      · obtain rfl | hx := List.mem_cons.mp hx
        · exact (le_max_right _ _).trans htop
        · exact hle x (List.mem_cons_of_mem _ hx)

theorem foldl_min_mem (a : Rat) (l : List Rat) : l.foldl min a ∈ a :: l ∧ ∀ x ∈ a :: l, l.foldl min a ≤ x := by
  induction l generalizing a with
  | nil => exact ⟨List.mem_singleton_self a, fun x hx => (List.mem_singleton.mp hx).ge⟩
  | cons b l ih =>
    obtain ⟨hmem, hle⟩ := ih (min a b)
    refine ⟨?_, fun x hx => ?_⟩
    · obtain h | h := List.mem_cons.mp hmem
      · rw [List.foldl_cons, h]
        obtain hm | hm := min_choice a b
        · rw [hm]
          exact List.mem_cons_self
        · rw [hm]
          exact List.mem_cons_of_mem _ List.mem_cons_self
      · exact List.mem_cons_of_mem _ (List.mem_cons_of_mem _ h)
    · have hbot := hle (min a b) List.mem_cons_self
      obtain rfl | hx := List.mem_cons.mp hx
      · exact hbot.trans (min_le_left _ _)
      · obtain rfl | hx := List.mem_cons.mp hx
        · exact hbot.trans (min_le_right _ _)
        · exact hle x (List.mem_cons_of_mem _ hx)

/-- Three or more readings give their mean without the highest and the lowest. -/
theorem combineV_many (l : List Rat) (hl : 3 ≤ l.length) : ∃ x, combineV l = some x ∧ ∃ hi ∈ l, ∃ lo ∈ l,
    (∀ y ∈ l, lo ≤ y ∧ y ≤ hi) ∧ x * ((l.length - 2 : Nat) : Rat) = sumQ l - hi - lo := by
  match l, hl with
  | a :: b :: c :: rest, hl =>
    obtain ⟨hhi, hmax⟩ := foldl_max_mem a (b :: c :: rest)
    obtain ⟨hlo, hmin⟩ := foldl_min_mem a (b :: c :: rest)
    refine ⟨_, rfl, _, hhi, _, hlo, fun y hy => ⟨hmin y hy, hmax y hy⟩, div_mul_cancel₀ _ ?_⟩
    rw [Nat.cast_ne_zero]
    omega

/-- What ingest makes of the readings. -/
theorem ingestPeriod_sample (t0 : Nat) (v : List (Nat × Nat)) (s : State) : (ingestPeriod t0 v s).loop.sample =
    match combineV (s.usable t0) with
    | some b => (b, true, some t0)
    | none => (s.loop.vBus, false, s.loop.vAt) := by
  have hin : (ingestPeriod t0 v s).loop.sample = (ingest t0 s).loop.sample := by
    rw [ingestPeriod]
    dsimp only
    split
    · rfl
    · rfl
  rw [hin, ingest]
  dsimp only
  split
  next b hb =>
    rw [hb]
    rfl
  next hnone =>
    rw [hnone]
    rfl

end

/-! ### What leaves the module -/

/-- What has left has left; the clock keeps its state and its frequency. -/
structure Emits (s u : State) : Prop where
  sent : ∀ x ∈ s.tx, x ∈ u.tx
  st : u.clk.st = s.clk.st
  freq : u.clk.freq = s.clk.freq

namespace Emits
variable {s u w : State}

theorem refl : Emits s s := ⟨fun _ h => h, rfl, rfl⟩

theorem trans (h : Emits s u) (h' : Emits u w) : Emits s w :=
  ⟨fun x hx => h'.sent x (h.sent x hx), h'.st.trans h.st, h'.freq.trans h.freq⟩

theorem ite {c : Prop} [Decidable c] (h : Emits s u) (h' : Emits s w) : Emits s (if c then u else w) := by
  split
  · exact h
  · exact h'

theorem foldl {β : Type} {f : State → β → State} (hf : ∀ s b, Emits s (f s b)) {xs : List β} {s : State} :
    Emits s (xs.foldl f s) := foldl_keeps (Emits s) f xs (fun t b h => h.trans (hf t b)) s .refl

end Emits

theorem SameBut.emits {l : List Part} {s u : State} (h : SameBut l s u) (htx : .tx ∉ l := by decide)
    (hclk : .clk ∉ l := by decide) : Emits s u :=
  ⟨fun x hx => by rwa [h.tx_eq htx], by rw [h.clk_eq hclk], by rw [h.clk_eq hclk]⟩

theorem send_emits (s : State) (x : Tx) : Emits s (s.send x) :=
  .ite .refl ⟨fun _ h => List.mem_append_left _ h, rfl, rfl⟩

theorem sendJ1_emits (s : State) (x : Tx) : Emits s (s.sendJ1 x) :=
  .ite .refl ⟨fun _ h => List.mem_append_left _ h, rfl, rfl⟩

theorem sendPair_emits (s : State) (typ : Nat) (ho : Bool) (d : Bytes) : Emits s (s.sendPair typ ho d) :=
  .ite .refl (.trans (SameBut.emits (.pair ..)) (send_emits ..))

theorem pairPeriod_emits (t0 : Nat) (s : State) : Emits s (pairPeriod t0 s) :=
  .ite (.trans (.ite (sendPair_emits ..) .refl) (sendPair_emits ..)) (.ite (sendPair_emits ..) .refl)

theorem ptpEmit_emits (k : PtpMessage) (s : State) : Emits s (ptpEmit k s) := by
  unfold ptpEmit
  refine .ite .refl ?_
  cases k with
  | sync =>
    have hseq : Emits s { s with clk := { s.clk with syncSeq := (s.clk.syncSeq + 1) % 65536 } } :=
      ⟨fun _ h => h, rfl, rfl⟩
    exact .trans hseq (.ite (.trans (sendJ1_emits ..) (sendJ1_emits ..)) (sendJ1_emits ..))
  | announce =>
    have hseq : Emits s { s with clk := { s.clk with announceSeq := (s.clk.announceSeq + 1) % 65536 } } :=
      ⟨fun _ h => h, rfl, rfl⟩
    exact .trans hseq (sendJ1_emits ..)
  | delayReq =>
    have hseq : Emits s { s with clk := { s.clk with delaySeq := (s.clk.delaySeq + 1) % 65536 } } :=
      ⟨fun _ h => h, rfl, rfl⟩
    exact .trans hseq (sendJ1_emits ..)

theorem delayResp_emits (seq : Nat) (time : Int) (peer : Nat) (s : State) : Emits s (delayResp seq time peer s) :=
  .ite (SameBut.emits (.port ..)) (sendJ1_emits ..)

theorem flushPtp_emits (s : State) : Emits s (flushPtp s) := by
  refine .ite .refl (.trans (SameBut.emits (.port ..)) (.foldl fun u h => ?_))
  cases h with
  | own k => exact ptpEmit_emits k u
  | resp seq time peer => exact delayResp_emits seq time peer u

theorem flushNear_emits (s : State) : Emits s (flushNear s) :=
  .ite .refl (.trans (SameBut.emits (.port ..)) (.foldl fun _ _ =>
    .ite .refl (.ite (SameBut.emits (.port ..)) (sendJ1_emits ..))))

theorem emitTrasia_emits (ses pcp : Nat) (frame : Bytes) (s : State) : Emits s (emitTrasia ses pcp frame s) :=
  .trans (State.updSess_frame ..).emits (sendJ1_emits ..)

theorem flushHeld_emits (s : State) : Emits s (flushHeld s) :=
  .trans (SameBut.emits (.port ..)) (.foldl fun _ _ => .ite (SameBut.emits (.port ..)) (emitTrasia_emits ..))

theorem flushJ1_emits (s : State) : Emits s (flushJ1 s) :=
  .trans (.trans (flushPtp_emits s) (flushNear_emits _)) (flushHeld_emits _)

theorem sendBarge_emits (src dst kind slot channel tag : Nat) (payload : Bytes) (s : State) :
    Emits s (sendBarge src dst kind slot channel tag payload s) := by
  have hnoted : ∀ g : Grid, Emits s { s with grid := g } := fun _ => ⟨fun _ h => h, rfl, rfl⟩
  exact .ite (.trans (.trans (hnoted _) (send_emits ..)) ⟨fun _ h => h, rfl, rfl⟩) (hnoted _)

theorem sendTap_emits (n t0 : Nat) (v : List (Nat × Nat)) (b : Binding) (s : State) : Emits s (sendTap n t0 v b s) := by
  dsimp only [sendTap]
  split
  · exact .ite (.ite (sendBarge_emits ..) (sendBarge_emits ..)) .refl
  · exact .refl

theorem sendTaps_emits (t0 : Nat) (v : List (Nat × Nat)) (s : State) : Emits s (sendTaps t0 v s) :=
  .foldl fun _ _ => .ite (.foldl fun _ _ => sendTap_emits ..) .refl

theorem sendTrasia_emits (ses : Nat) (stream : Option Nat) (frame : Bytes) (s : State) :
    Emits s (sendTrasia ses stream frame s) :=
  .ite .refl (.ite (SameBut.emits (.port ..)) (emitTrasia_emits ..))

theorem sendLate_emits (r : LateReply) (s : State) : Emits s (sendLate r s) :=
  .ite .refl (.trans (.ite (State.updSess_frame ..).emits .refl) (sendTrasia_emits ..))

theorem flushLate_emits (s : State) : Emits s (flushLate s) :=
  .trans (SameBut.emits (.port ..)) (.foldl fun _ _ => sendLate_emits ..)

/-! ### The period in its steps -/

/-- The state from which the chain runs. -/
def periodReady (t0 : Nat) (v : List (Nat × Nat)) (s : State) : State :=
  clampPeriod t0 (ingestPeriod t0 v (periodBegun s))

/-- The void stages of the period. -/
def periodVoid (s : State) : List (Nat × Nat) :=
  if (periodBegun s).withheld (nextPeriod s) then allStages else (periodBegun s).voidStages

/-- What is left of the period once the chain, the taps and the records are done. -/
def periodEnd (t0 : Nat) (w : List (Nat × Nat)) (s : State) : State :=
  flushJ1 (flushLate (pairPeriod t0 (countVoids w s)))

theorem controlEff_steps (s : State) : controlEff s = periodEnd (nextPeriod s)
    (if (periodBegun s).withheld (nextPeriod s) then [] else periodVoid s)
    (drivePeriod (nextPeriod s) (periodVoid s) (periodReady (nextPeriod s) (periodVoid s) s)) := by
  rw [controlEff, periodEnd, periodReady, periodVoid]

theorem periodReady_frame (t0 : Nat) (v : List (Nat × Nat)) (s : State) :
    SameBut [.loop, .trays, .edge] (periodBegun s) (periodReady t0 v s) :=
  .step (.mono (ingestPeriod_frame ..)) (clampPeriod_frame ..)

theorem periodEnd_frame (t0 : Nat) (w : List (Nat × Nat)) (s : State) :
    SameBut [.tx, .pair, .grid, .slots, .port, .sess, .clk] s (periodEnd t0 w s) :=
  .step (.step (.step (.mono (countVoids_frame ..)) (pairPeriod_frame ..)) (flushLate_frame ..)) (flushJ1_frame ..)

theorem periodEnd_emits (t0 : Nat) (w : List (Nat × Nat)) (s : State) : Emits s (periodEnd t0 w s) :=
  .trans (.trans (.trans (countVoids_frame ..).emits (pairPeriod_emits ..)) (flushLate_emits _)) (flushJ1_emits _)

/-! ### What a period leaves of the memory and of the free slots -/

/-- The LPDDR4X and the free slots as they were. -/
structure SparesFree (s u : State) : Prop where
  ddr : u.grid.ddr = s.grid.ddr
  slot : ∀ n, 24 ≤ n → u.slot n = s.slot n

namespace SparesFree
variable {s u w : State}

theorem refl : SparesFree s s := ⟨rfl, fun _ _ => rfl⟩

theorem trans (h : SparesFree s u) (h' : SparesFree u w) : SparesFree s w :=
  ⟨h'.ddr.trans h.ddr, fun n hn => (h'.slot n hn).trans (h.slot n hn)⟩

theorem ite {c : Prop} [Decidable c] (h : SparesFree s u) (h' : SparesFree s w) :
    SparesFree s (if c then u else w) := by
  split
  · exact h
  · exact h'

theorem foldl {β : Type} {f : State → β → State} (hf : ∀ s b, SparesFree s (f s b)) {xs : List β} {s : State} :
    SparesFree s (xs.foldl f s) := foldl_keeps (SparesFree s) f xs (fun t b h => h.trans (hf t b)) s .refl

end SparesFree

theorem SameBut.sparesFree {l : List Part} {s u : State} (h : SameBut l s u) (hgrid : .grid ∉ l := by decide)
    (hslots : .slots ∉ l := by decide) : SparesFree s u :=
  ⟨by rw [h.grid_eq hgrid], fun n _ => by rw [State.slot, State.slot, h.slots_eq hslots]⟩

theorem sendTap_sparesFree (n t0 : Nat) (v : List (Nat × Nat)) (b : Binding) (s : State) :
    SparesFree s (sendTap n t0 v b s) := by
  have hsend : ∀ src dst kind tag (p : Bytes), SparesFree s (sendBarge src dst kind n b.chan tag p s) :=
    fun src dst kind tag p => ⟨sendBarge_ddr .., fun k _ => by
      rw [State.slot, State.slot, (sendBarge_frame ..).slots_eq]⟩
  dsimp only [sendTap]
  split
  · exact .ite (.ite (hsend ..) (hsend ..)) .refl
  · exact .refl

theorem sendTaps_sparesFree (t0 : Nat) (v : List (Nat × Nat)) (s : State) : SparesFree s (sendTaps t0 v s) :=
  .foldl fun _ _ => .ite (.foldl fun _ _ => sendTap_sparesFree ..) .refl

theorem updSlot_sparesFree {n : Nat} (hn : n < 24) (f : Slot → Slot) (s : State) : SparesFree s (s.updSlot n f) :=
  ⟨rfl, fun k hk => get_upd_other _ _ _ _ _ (by omega)⟩

theorem fwSlotPeriod_sparesFree {n : Nat} (hn : n < 24) (us : Nat) (v : List (Nat × Nat)) (s : State) :
    SparesFree s (fwSlotPeriod n us v s) := by
  have hcheck : ∀ a u, SparesFree u (fwCheckpoint n a u) := fun _ _ => (fwCheckpoint_frame ..).sparesFree
  have hread : ∀ a u, SparesFree u (inputRecord n 0 a (le 8 (Config.freeNat u.freeCount))
      { u with freeCount := u.freeCount + 1 }) := fun _ u =>
    .trans (SameBut.sparesFree (.freeCount ..)) (inputRecord_frame ..).sparesFree
  have hdigests : ∀ (k : Nat) (g : State → Nat → State) (hg : ∀ u b, SparesFree u (g u b)) (l : List Nat) (u : State),
      SparesFree u (l.foldl g { u with freeCount := k }) := fun _ _ hg _ _ =>
    .trans (SameBut.sparesFree (.freeCount ..)) (.foldl hg)
  have hall : ∀ u, SparesFree s u → ∀ (k a : Nat) (g : State → Nat → State) (hg : ∀ u b, SparesFree u (g u b))
      (l : List Nat) (f : Slot → Slot), SparesFree s ((l.foldl g { inputRecord n 0 a (le 8 (Config.freeNat u.freeCount))
        { u with freeCount := u.freeCount + 1 } with freeCount := k }).updSlot n f) := fun u hu k a g hg l f =>
    .trans (.trans (.trans hu (hread a u)) (hdigests k g hg l _)) (updSlot_sparesFree hn f _)
  rw [fwSlotPeriod]
  refine .ite .refl ?_
  have hfirst : ∀ a, SparesFree s (if (s.slot n).digests = [] then fwCheckpoint n a s else s) := fun a =>
    .ite (hcheck a s) .refl
  dsimp only
  refine .ite (.trans (hall _ (hfirst _) _ _ _ ?_ _ _) (hcheck _ _)) (hall _ (hfirst _) _ _ _ ?_ _ _)
  · exact fun _ _ => (digestRecord_frame ..).sparesFree
  · exact fun _ _ => (digestRecord_frame ..).sparesFree

theorem fwRecords_sparesFree (us : Nat) (v : List (Nat × Nat)) (s : State) : SparesFree s (fwRecords us v s) :=
  List.foldlRecOn _ _ .refl fun _ hb _ hn =>
    hb.trans (fwSlotPeriod_sparesFree ((List.mem_range.mp hn).trans (by decide)) us _ _)

/-- The void stages that a period counts are of firmware slots. -/
theorem voidStages_slot (s : State) : ∀ e ∈ s.voidStages, e.1 < 24 := by
  intro e he
  obtain ⟨n, hn, he⟩ := List.mem_flatMap.mp he
  have hslot : n < 24 := by
    obtain h | h := List.mem_append.mp hn
    · exact (List.mem_range.mp h).trans (by decide)
    · simp only [List.mem_cons, List.not_mem_nil, or_false] at h
      omega
  split at he
  · cases he
  · obtain ⟨k, -, rfl⟩ := List.mem_map.mp he
    exact hslot

theorem countVoids_sparesFree {w : List (Nat × Nat)} (hw : ∀ e ∈ w, e.1 < 24) (s : State) :
    SparesFree s (countVoids w s) := by
  refine ⟨rfl, fun n hn => ?_⟩
  have hnone : w.filter (fun e => e.1 == n) = [] := by
    refine List.filter_eq_nil_iff.mpr fun e he => ?_
    have hlt := hw e he
    rw [beq_iff_eq]
    omega
  rw [State.slot, State.slot, countVoids]
  dsimp only
  split
  · rfl
  · rw [get, get, List.getD_eq_getElem?_getD, List.getD_eq_getElem?_getD, List.getElem?_mapIdx]
    cases s.slots[n]? with
    | none => rfl
    | some x =>
      rw [Option.map_some, hnone]
      rfl

theorem periodEnd_sparesFree {w : List (Nat × Nat)} (hw : ∀ e ∈ w, e.1 < 24) (t0 : Nat) (s : State) :
    SparesFree s (periodEnd t0 w s) := by
  have hs : SameBut [.tx, .pair, .port, .sess, .clk] (countVoids w s) (periodEnd t0 w s) :=
    .step (.step (.mono (pairPeriod_frame ..)) (flushLate_frame ..)) (flushJ1_frame ..)
  exact (countVoids_sparesFree hw s).trans hs.sparesFree

theorem drivePeriod_sparesFree (t0 : Nat) (v : List (Nat × Nat)) (s : State) : SparesFree s (drivePeriod t0 v s) := by
  have hchain : SparesFree s (equalisePeriod t0 (chain t0 v s)) :=
    (chain_frame ..).sparesFree.trans (equalisePeriod_frame ..).sparesFree
  exact .ite (followPeriod_frame ..).sparesFree
    (.ite hchain (.trans (.trans hchain (sendTaps_sparesFree ..)) (fwRecords_sparesFree ..)))

/-! ### Clause by clause -/

theorem drivePeriod_sample (t0 : Nat) (v : List (Nat × Nat)) (s : State) :
    (drivePeriod t0 v s).loop.sample = s.loop.sample := by
  have hequal : (equalisePeriod t0 (chain t0 v s)).loop.sample = s.loop.sample := by
    rw [(equalisePeriod_frame ..).loop_eq, chain_sample]
  rw [drivePeriod]
  split
  · rw [(followPeriod_frame ..).loop_eq]
  · split
    · exact hequal
    · rw [(fwRecords_frame ..).loop_eq, (sendTaps_frame ..).loop_eq, hequal]

/-- The sample of the period as it is left. -/
theorem controlEff_sample (s : State) : (controlEff s).loop.sample =
    match combineV ((periodBegun s).usable (nextPeriod s)) with
    | some b => (b, true, some (nextPeriod s))
    | none => ((periodBegun s).loop.vBus, false, (periodBegun s).loop.vAt) := by
  rw [controlEff_steps, (periodEnd_frame ..).loop_eq, drivePeriod_sample, periodReady, (clampPeriod_frame ..).loop_eq,
    ingestPeriod_sample]

theorem controlEff_sparesFree (s : State) : SparesFree s (controlEff s) := by
  have hbegun : SparesFree s (periodReady (nextPeriod s) (periodVoid s) s) :=
    (periodBegun_frame s).sparesFree.trans (periodReady_frame ..).sparesFree
  rw [controlEff_steps]
  refine .trans (hbegun.trans (drivePeriod_sparesFree ..)) (periodEnd_sparesFree ?_ ..)
  split
  · exact nofun
  next h =>
    rw [periodVoid, if_neg h]
    exact voidStages_slot _

/-- The period's own instant, and the objects that a period does not write. -/
theorem periodBegun_now (s : State) : (periodBegun s).now = nextPeriod s ∧ (periodBegun s).od.values = s.od.values ∧
    (periodBegun s).od.flash = s.od.flash := by
  have hcap := capPeriod_frame (nextPeriod s - 1000) s
  rw [periodBegun, (settleLoop_frame ..).now_eq, (settleLoop_frame ..).od_eq]
  generalize capPeriod (nextPeriod s - 1000) s = c at hcap
  rw [← hcap.od_eq]
  exact ⟨rfl, rfl, rfl⟩

/-- What follows the beginning of a period leaves. -/
theorem controlEff_after (s : State) :
    SameBut [.freeCount, .tx, .txn, .fm, .loop, .phases, .tph, .links, .edge, .trays, .alloc, .tows, .est, .feed,
      .tide, .pair, .cal, .grid, .slots, .port, .sess, .clk, .cap] (periodBegun s) (controlEff s) := by
  rw [controlEff_steps]
  exact .step (.step (.mono (periodReady_frame ..)) (drivePeriod_frame ..)) (periodEnd_frame ..)

theorem SameBut.drives_eq {l : List Part} {s u : State} (h : SameBut l s u) (hl : .pair ∉ l := by decide) :
    u.drives = s.drives := by
  rw [State.drives, State.drives, h.pair_eq hl]

/-- The state from which the chain runs has the module's own part. -/
theorem periodReady_begun (t0 : Nat) (v : List (Nat × Nat)) (s : State) :
    SameBut [.freeCount, .now, .tx, .od, .fm, .loop, .feed, .cap, .trays, .edge] s (periodReady t0 v s) :=
  .step (.mono (periodBegun_frame ..)) (periodReady_frame ..)

/-- A module that does not drive leaves its phases, its shares and its rings. -/
theorem controlEff_still {s : State} (hdrives : s.drives = false) :
    SameBut [.freeCount, .now, .tx, .od, .fm, .loop, .edge, .trays, .est, .feed, .pair, .cal, .grid, .slots, .port,
      .sess, .clk, .cap] s (controlEff s) ∧ (s.follows = false → (controlEff s).est = s.est) := by
  have hready := periodReady_begun (nextPeriod s) (periodVoid s) s
  have hfollow : drivePeriod (nextPeriod s) (periodVoid s) (periodReady (nextPeriod s) (periodVoid s) s) =
      followPeriod (nextPeriod s) (periodReady (nextPeriod s) (periodVoid s) s) :=
    if_pos (hready.drives_eq.trans hdrives)
  rw [controlEff_steps, hfollow]
  refine ⟨.step (.step (.mono hready) (followPeriod_frame ..)) (periodEnd_frame ..), fun hf => ?_⟩
  have hown : (periodReady (nextPeriod s) (periodVoid s) s).follows = false := by
    rw [State.follows, hready.drives_eq, hready.pair_eq]
    exact hf
  have hnone : followPeriod (nextPeriod s) (periodReady (nextPeriod s) (periodVoid s) s) =
      periodReady (nextPeriod s) (periodVoid s) s := if_neg (by rw [hown]; exact Bool.noConfusion)
  rw [hnone, (periodEnd_frame ..).est_eq, hready.est_eq]

theorem nextPeriod_whole (s : State) : nextPeriod s % 1000 = 0 ∧ s.now < nextPeriod s := by
  rw [nextPeriod]
  omega

end Sys2Proof.Machine
end

section
/-! SUPPORT. Proof: the bus loop of one whole control period (02_bus_voltage_loop.md: Stage structure, The clamp and
integration stop). -/

namespace Sys2Proof.Machine

set_option Elab.async false

/-! ### A whole period -/

/-- The state in which the loop of a whole period runs. -/
def periodSampled (s : State) : State := cutStep (nextPeriod s) [] (periodReady (nextPeriod s) [] s)

/-- The state with the period's currents placed. -/
def periodPlaced (s : State) : State := allocPeriod (nextPeriod s) (loopPeriod (nextPeriod s) (periodSampled s))

/-- The state with the period's edge commands sent. -/
def periodEdged (s : State) : State := forTrays (phaseChain (nextPeriod s)) (periodPlaced s)

/-- What runs in a whole period after the edge commands have left. -/
def periodRest (t0 : Nat) (s : State) : State := switchAtCut t0 (tidePeriod t0 (feedPeriod t0
  (forTrays (chargePeriod t0) (urgentPeriod t0 (forTrays (trayPeriod t0) (delayPeriod s))))))

/-- What stands beside the chain. -/
def periodBeside (t0 : Nat) (s : State) : State :=
  periodEnd t0 [] (fwRecords (t0 / 1000) [] (sendTaps t0 [] (equalisePeriod t0 s)))

theorem whereSound_nil (n : Nat) (f : State → State) (s : State) : whereSound [] n f s = f s := rfl

theorem chain_whole (t0 : Nat) (s : State) : chain t0 [] s =
    periodRest t0 (forTrays (phaseChain t0) (allocPeriod t0 (loopPeriod t0 (cutStep t0 [] s)))) := by
  have hloop : ∀ u, loopStep t0 [] u = loopPeriod t0 u := fun _ => rfl
  rw [chain_steps, restStep, whereSound_nil, whereSound_nil, whereSound_nil, whereSound_nil, hloop, phasesStep]
  rfl

section
variable {s : State} (hdrives : (periodBegun s).drives = true)
  (hstep : (periodBegun s).withheld (nextPeriod s) = false) (hvoid : (periodBegun s).voidStages = [])

include hdrives hstep hvoid in
/-- A driving module's period without void stages. -/
theorem controlEff_whole : controlEff s = periodBeside (nextPeriod s) (periodRest (nextPeriod s) (periodEdged s)) := by
  have hnone : periodVoid s = [] := by
    rw [periodVoid, hstep, hvoid]
    rfl
  have hready := periodReady_frame (nextPeriod s) [] s
  have hno : ¬(periodReady (nextPeriod s) [] s).drives = false := by
    rw [hready.drives_eq, hdrives]
    exact Bool.noConfusion
  have hgo : ¬(periodReady (nextPeriod s) [] s).withheld (nextPeriod s) = true := by
    rw [State.withheld, hready.clk_eq]
    rw [State.withheld] at hstep
    rw [hstep]
    exact Bool.noConfusion
  rw [controlEff_steps, hnone, ite_self, drivePeriod, if_neg hno, if_neg hgo, chain_whole]
  rfl

end

theorem periodBeside_frame (t0 : Nat) (s : State) :
    SameBut [.freeCount, .tx, .pair, .cal, .grid, .slots, .port, .sess, .clk, .cap] s (periodBeside t0 s) :=
  .step (.step (.step (.mono (equalisePeriod_frame ..)) (sendTaps_frame ..)) (fwRecords_frame ..))
    (periodEnd_frame ..)

/-- But for the delay noted, the loop is done once the edges have left. -/
theorem periodRest_frame (t0 : Nat) (s : State) :
    SameBut [.txn, .fm, .tph, .trays, .alloc, .tows, .est, .feed, .tide] (delayPeriod s) (periodRest t0 s) :=
  .step (.step (.step (.step (.step (.forTrays fun _ _ => .mono (trayPeriod_frame ..)) (urgentPeriod_frame ..))
    (.forTrays fun _ _ => chargePeriod_frame ..)) (feedPeriod_frame ..)) (tidePeriod_frame ..)) (switchAtCut_frame ..)

/-! ### What the loop's law leaves -/

/-- What the stages of a period leave of a loop, the supervision apart. -/
structure SameLaw (l k : Loop) : Prop where
  st : k.st = l.st
  holdFrom : k.holdFrom = l.holdFrom
  holdCount : k.holdCount = l.holdCount
  vRef : k.vRef = l.vRef
  vBus : k.vBus = l.vBus
  iSt : k.iSt = l.iSt
  sat : k.sat = l.sat
  fx1 : k.fx1 = l.fx1
  sy1 : k.sy1 = l.sy1
  ff : k.ff = l.ff
  integ : k.integ = l.integ
  stops : k.stops = l.stops

theorem SameLaw.trans {l k m : Loop} (h : SameLaw l k) (h' : SameLaw k m) : SameLaw l m :=
  ⟨h'.st.trans h.st, h'.holdFrom.trans h.holdFrom, h'.holdCount.trans h.holdCount, h'.vRef.trans h.vRef,
    h'.vBus.trans h.vBus, h'.iSt.trans h.iSt, h'.sat.trans h.sat, h'.fx1.trans h.fx1, h'.sy1.trans h.sy1,
    h'.ff.trans h.ff, h'.integ.trans h.integ, h'.stops.trans h.stops⟩

theorem loopPeriod_law (t0 : Nat) (s : State) : SameLaw (loopCore s t0) (loopPeriod t0 s).loop := by
  rw [loopPeriod_loop]
  generalize loopCore s t0 = l
  exact ⟨rfl, rfl, rfl, rfl, rfl, rfl, rfl, rfl, rfl, rfl, rfl, rfl⟩

theorem delayPeriod_law (s : State) : SameLaw s.loop (delayPeriod s).loop :=
  ⟨rfl, rfl, rfl, rfl, rfl, rfl, rfl, rfl, rfl, rfl, rfl, rfl⟩

theorem periodEdged_loop (s : State) : (periodEdged s).loop = (loopPeriod (nextPeriod s) (periodSampled s)).loop := by
  have hs : SameBut [.tx, .fm, .phases, .tph, .links, .edge, .pair, .trays, .alloc]
      (loopPeriod (nextPeriod s) (periodSampled s)) (periodEdged s) :=
    .trans (.mono (allocPeriod_frame ..)) (.forTrays fun _ _ => .mono (phaseChain_frame ..))
  exact hs.loop_eq

/-- The loop as a whole period leaves it is what its state's part made of it. -/
theorem controlEff_law {s : State} (hdrives : (periodBegun s).drives = true)
    (hstep : (periodBegun s).withheld (nextPeriod s) = false) (hvoid : (periodBegun s).voidStages = []) :
    SameLaw (loopCore (periodSampled s) (nextPeriod s)) (controlEff s).loop := by
  have hloop : (controlEff s).loop = (delayPeriod (periodEdged s)).loop := by
    rw [controlEff_whole hdrives hstep hvoid, (periodBeside_frame ..).loop_eq, (periodRest_frame ..).loop_eq]
  have hdelay := delayPeriod_law (periodEdged s)
  rw [periodEdged_loop] at hdelay
  rw [hloop]
  exact (loopPeriod_law ..).trans hdelay

/-! ### The loop's part by its state -/

/-- The loop with the limits that the period before published. -/
def limited (s : State) : Loop := { s.loop with disLim := s.alloc.disLim, chgLim := s.alloc.chgLim }

section
variable {s : State} {t0 : Nat}

theorem loopEntered_limited (h : s.loop.st ≠ .charge) : loopEntered s = limited s := by
  rw [loopEntered]
  exact if_neg fun hc => h hc.1

theorem loopCore_quiet (h : s.loop.st = .off ∨ s.loop.st = .tripped) : loopCore s t0 = loopZero (limited s) := by
  have hst : (limited s).st = .off ∨ (limited s).st = .tripped := h
  rw [loopCore_in, loopEntered_limited (by obtain h | h := h <;> rw [h] <;> exact nofun)]
  generalize limited s = l at hst
  rw [loopIn]
  obtain h | h := hst
  · rw [h]
  · rw [h]

theorem loopCore_runs (h : s.loop.st = .soft ∨ s.loop.st = .run ∨ s.loop.st = .hold) : loopCore s t0 =
    if (limited s).vOk then
      let l := if (limited s).st = .hold then { limited s with st := (limited s).holdFrom } else limited s
      if l.entry then loopEnter s l.vBus l else loopLaw s t0 l.vBus l
    else loopMiss (limited s) := by
  have hst : (limited s).st = .soft ∨ (limited s).st = .run ∨ (limited s).st = .hold := h
  rw [loopCore_in, loopEntered_limited (by obtain h | h | h := h <;> rw [h] <;> exact nofun)]
  generalize limited s = l at hst
  rw [loopIn]
  obtain h | h | h := hst
  · rw [h]
  · rw [h]
  · rw [h]

theorem loopCore_miss (h : s.loop.st = .soft ∨ s.loop.st = .run ∨ s.loop.st = .hold) (hnone : s.loop.vOk = false) :
    loopCore s t0 = loopMiss (limited s) := by
  rw [loopCore_runs h]
  exact if_neg (ne_true_of_eq_false hnone)

theorem loopCore_law (h : s.loop.st = .soft ∨ s.loop.st = .run) (hok : s.loop.vOk = true)
    (hentry : s.loop.entry = false) : loopCore s t0 = loopLaw s t0 s.loop.vBus (limited s) := by
  have hhold : (limited s).st ≠ .hold := by
    show s.loop.st ≠ .hold
    obtain h | h := h <;> rw [h] <;> exact nofun
  have hok' : (limited s).vOk = true := hok
  have hentry' : ¬(limited s).entry = true := ne_true_of_eq_false hentry
  rw [loopCore_runs (h.imp_right .inl), if_pos hok', if_neg hhold]
  exact if_neg hentry'

theorem loopLaw_vBus (s : State) (t0 : Nat) (x : Rat) (l : Loop) : (loopLaw s t0 x l).vBus = l.vBus := rfl

/-- A period in SOFT or RUN. -/
theorem loopLaw_stages (s : State) (t0 : Nat) (x : Rat) (l : Loop) :
    let k := loopLaw s t0 x l
    k.st = l.st ∧
    k.vRef = bfp24 expV (stepToward l.vRef (vSet s) (slewOf s (if l.st = .soft then 0x05 else 0x04))) ∧
    k.fx1 = bfp24 expV (k.vRef - x) ∧
    k.ff = bfp24 expA (l.ff - bfp24 expA (l.coef.kh * l.ff) +
      (if l.sat ≠ 0 ∧ sgn (slopeNow s t0) = l.sat then 0 else slopeNow s t0)) ∧
    (l.sat = 1 ∧ 0 < k.sy1 ∨ l.sat = -1 ∧ k.sy1 < 0 → k.stops = sat32 (l.stops + 1) ∧
      k.integ = bfp24 expA (bfp24 expA l.integ + bfp24 expA (l.coef.kh * l.ff))) ∧
    (¬(l.sat = 1 ∧ 0 < k.sy1 ∨ l.sat = -1 ∧ k.sy1 < 0) → k.stops = l.stops ∧
      k.integ = bfp24 expA (bfp24 expA (sumTerms [fixTerm expA l.integ,
        (coefTerm l.coef.ki).mul (fixTerm expV k.sy1)]) + bfp24 expA (l.coef.kh * l.ff))) ∧
    ∃ i, i = bfp24 expA (bfp24 expA (l.coef.kp * k.sy1) + k.integ + k.ff) ∧
      k.iSt = bfp24 expA (min (max i (-l.chgLim)) l.disLim) ∧
      k.sat = if l.disLim < i then 1 else if i < -l.chgLim then -1 else 0 := by
  intro k
  obtain ⟨stop, hstop⟩ : ∃ b : Bool, ((l.sat == 1 && decide (0 < k.sy1)) || (l.sat == -1 && decide (k.sy1 < 0))) = b :=
    ⟨_, rfl⟩
  have hiff : (l.sat = 1 ∧ 0 < k.sy1 ∨ l.sat = -1 ∧ k.sy1 < 0) ↔ stop = true := by
    rw [← hstop, Bool.or_eq_true, Bool.and_eq_true, Bool.and_eq_true, beq_iff_eq, beq_iff_eq, decide_eq_true_iff,
      decide_eq_true_iff]
  have hstops : k.stops = if stop then sat32 (l.stops + 1) else l.stops := hstop ▸ rfl
  have hinteg : k.integ = bfp24 expA (bfp24 expA (if stop then l.integ else sumTerms [fixTerm expA l.integ,
      (coefTerm l.coef.ki).mul (fixTerm expV k.sy1)]) + bfp24 expA (l.coef.kh * l.ff)) := hstop ▸ rfl
  refine ⟨rfl, rfl, rfl, rfl, fun h => ?_, fun h => ?_, _, rfl, rfl, rfl⟩
  · rw [hstops, hinteg, if_pos (hiff.mp h), if_pos (hiff.mp h)]
    exact ⟨rfl, rfl⟩
  · rw [hstops, hinteg, if_neg (mt hiff.mpr h), if_neg (mt hiff.mpr h)]
    exact ⟨rfl, rfl⟩

end

/-! ### The loop of a whole period -/

theorem SameBut.cfgF_eq {l : List Part} {s u : State} (h : SameBut l s u) (i j : Nat) (hl : .od ∉ l := by decide) :
    u.cfgF i j = s.cfgF i j := by
  rw [State.cfgF, State.cfgF, h.cfgU_eq i j hl]

/-- The loop runs on what ingest left. -/
theorem periodSampled_frame (s : State) :
    SameBut [.edge, .tide] (ingestPeriod (nextPeriod s) [] (periodBegun s)) (periodSampled s) :=
  .step (.mono (clampPeriod_frame ..)) cutStep_frame

section
variable {s b : State} {t0 : Nat} {l : List Part} (h : SameBut [.edge, .tide] b s)

include h in
theorem slopeNow_same : slopeNow s t0 = slopeNow b t0 := by
  rw [slopeNow, slopeNow, h.loop_eq, h.cfgU_eq]

include h in
theorem vSet_same : vSet s = vSet b := by
  rw [vSet, vSet, h.cfgF_eq]

include h in
theorem slewOf_same (sub : Nat) : slewOf s sub = slewOf b sub := by
  rw [slewOf, slewOf, State.cfgStep, State.cfgStep, h.cfgF_eq]

include h in
theorem limited_same : limited s = { b.loop with disLim := b.alloc.disLim, chgLim := b.alloc.chgLim } := by
  rw [limited, h.loop_eq, h.alloc_eq]

end

section
variable {s b : State} (hdrives : (periodBegun s).drives = true)
  (hstep : (periodBegun s).withheld (nextPeriod s) = false) (hvoid : (periodBegun s).voidStages = [])
  (hb : b = ingestPeriod (nextPeriod s) [] (periodBegun s))

include hdrives hstep hvoid hb

theorem controlEff_quiet (h : b.loop.st = .off ∨ b.loop.st = .tripped) :
    (controlEff s).loop.st = b.loop.st ∧ (controlEff s).loop.iSt = 0 ∧ (controlEff s).loop.sat = 0 := by
  have hs : SameBut [.edge, .tide] b (periodSampled s) := hb ▸ periodSampled_frame s
  have hlaw := controlEff_law hdrives hstep hvoid
  rw [loopCore_quiet (hs.loop_eq ▸ h), limited_same hs] at hlaw
  exact ⟨hlaw.st, hlaw.iSt, hlaw.sat⟩

theorem controlEff_misses (h : b.loop.st = .soft ∨ b.loop.st = .run) (hnone : b.loop.vOk = false) :
    (controlEff s).loop.st = .hold ∧ (controlEff s).loop.holdFrom = b.loop.st ∧ (controlEff s).loop.holdCount = 1 ∧
      (controlEff s).loop.iSt = b.loop.iSt := by
  have hs : SameBut [.edge, .tide] b (periodSampled s) := hb ▸ periodSampled_frame s
  have hlaw := controlEff_law hdrives hstep hvoid
  have hst : b.loop.st ≠ .hold := by
    obtain h | h := h <;> rw [h] <;> exact nofun
  rw [loopCore_miss (hs.loop_eq ▸ h.imp_right .inl) (hs.loop_eq ▸ hnone), limited_same hs, loopMiss, if_neg hst] at hlaw
  exact ⟨hlaw.st, hlaw.holdFrom, hlaw.holdCount, hlaw.iSt⟩

theorem controlEff_holds (h : b.loop.st = .hold) (hnone : b.loop.vOk = false) :
    (controlEff s).loop.st = .hold ∧ (controlEff s).loop.holdCount = b.loop.holdCount + 1 ∧
      (controlEff s).loop.iSt = b.loop.iSt := by
  have hs : SameBut [.edge, .tide] b (periodSampled s) := hb ▸ periodSampled_frame s
  have hlaw := controlEff_law hdrives hstep hvoid
  rw [loopCore_miss (hs.loop_eq ▸ .inr (.inr h)) (hs.loop_eq ▸ hnone), limited_same hs, loopMiss, if_pos h] at hlaw
  exact ⟨hlaw.st.trans h, hlaw.holdCount, hlaw.iSt⟩

/-- SOFT and RUN with a reading: the stages of R26 to R42. -/
theorem controlEff_runs (h : b.loop.st = .soft ∨ b.loop.st = .run) (hok : b.loop.vOk = true)
    (hentry : b.loop.entry = false) :
    SameLaw (loopLaw (periodSampled s) (nextPeriod s) b.loop.vBus
      { b.loop with disLim := b.alloc.disLim, chgLim := b.alloc.chgLim }) (controlEff s).loop := by
  have hs : SameBut [.edge, .tide] b (periodSampled s) := hb ▸ periodSampled_frame s
  have hlaw := controlEff_law hdrives hstep hvoid
  rw [loopCore_law (hs.loop_eq ▸ h) (hs.loop_eq ▸ hok) (hs.loop_eq ▸ hentry), limited_same hs, hs.loop_eq] at hlaw
  exact hlaw

end

/-- What a whole period makes of a loop in SOFT or RUN that has a reading. -/
theorem controlEff_stages {s b : State} (hdrives : (periodBegun s).drives = true)
    (hstep : (periodBegun s).withheld (nextPeriod s) = false) (hvoid : (periodBegun s).voidStages = [])
    (hb : b = ingestPeriod (nextPeriod s) [] (periodBegun s)) (h : b.loop.st = .soft ∨ b.loop.st = .run)
    (hok : b.loop.vOk = true) (hentry : b.loop.entry = false) :
    let u := controlEff s
    u.loop.st = b.loop.st ∧
    u.loop.vRef =
      bfp24 expV (stepToward b.loop.vRef (vSet b) (slewOf b (if b.loop.st = .soft then 0x05 else 0x04))) ∧
    u.loop.fx1 = bfp24 expV (u.loop.vRef - u.loop.vBus) ∧
    u.loop.ff = bfp24 expA (b.loop.ff - bfp24 expA (b.loop.coef.kh * b.loop.ff) +
      (if b.loop.sat ≠ 0 ∧ sgn (slopeNow b (nextPeriod s)) = b.loop.sat then 0 else slopeNow b (nextPeriod s))) ∧
    (b.loop.sat = 1 ∧ 0 < u.loop.sy1 ∨ b.loop.sat = -1 ∧ u.loop.sy1 < 0 →
      u.loop.stops = sat32 (b.loop.stops + 1) ∧
      u.loop.integ = bfp24 expA (bfp24 expA b.loop.integ + bfp24 expA (b.loop.coef.kh * b.loop.ff))) ∧
    (¬ (b.loop.sat = 1 ∧ 0 < u.loop.sy1 ∨ b.loop.sat = -1 ∧ u.loop.sy1 < 0) →
      u.loop.stops = b.loop.stops ∧
      u.loop.integ = bfp24 expA (bfp24 expA (sumTerms [fixTerm expA b.loop.integ,
        (coefTerm b.loop.coef.ki).mul (fixTerm expV u.loop.sy1)]) + bfp24 expA (b.loop.coef.kh * b.loop.ff))) ∧
    ∃ i, i = bfp24 expA (bfp24 expA (b.loop.coef.kp * u.loop.sy1) + u.loop.integ + u.loop.ff) ∧
      u.loop.iSt = bfp24 expA (min (max i (-b.alloc.chgLim)) b.alloc.disLim) ∧
      u.loop.sat = if b.alloc.disLim < i then 1 else if i < -b.alloc.chgLim then -1 else 0 := by
  have hs : SameBut [.edge, .tide] b (periodSampled s) := hb ▸ periodSampled_frame s
  have hlaw := controlEff_runs hdrives hstep hvoid hb h hok hentry
  have hstages := loopLaw_stages (periodSampled s) (nextPeriod s) b.loop.vBus
    { b.loop with disLim := b.alloc.disLim, chgLim := b.alloc.chgLim }
  intro u
  have hv : (controlEff s).loop.vBus = b.loop.vBus := by
    rw [hlaw.vBus, loopLaw_vBus]
  rw [slopeNow_same hs, vSet_same hs, slewOf_same hs] at hstages
  rw [hlaw.st, hlaw.vRef, hv, hlaw.fx1, hlaw.ff, hlaw.sy1, hlaw.stops, hlaw.integ, hlaw.iSt, hlaw.sat]
  exact hstages

end Sys2Proof.Machine
end

section
/-! SUPPORT. Proof: the shares of one whole control period (04_storage_trays.md: Shares and limits). -/

namespace Sys2Proof.Machine

set_option Elab.async false

/-! ### Placement -/

theorem get_range_map {α : Type} (d : α) (f : Nat → α) {n t : Nat} (h : t < n) :
    get d ((List.range n).map f) t = f t := by
  simp [get, h]

/-- What placement reads and leaves of a tray. -/
def Tray.placing (x : Tray) : Rat × Rat × Rat × Rat := (x.weight, x.lD, x.lC, x.iT)

theorem Tray.placing_parts {x y : Tray} (h : x.placing = y.placing) :
    x.weight = y.weight ∧ x.lD = y.lD ∧ x.lC = y.lC ∧ x.iT = y.iT :=
  ⟨congrArg (·.1) h, congrArg (·.2.1) h, congrArg (·.2.2.1) h, congrArg (·.2.2.2) h⟩

theorem sharesOf_same {s u : State} (hset : u.alloc.set = s.alloc.set)
    (h : ∀ t, t < Config.trays → (u.tray t).weight = (s.tray t).weight ∧ (u.tray t).lD = (s.tray t).lD ∧
      (u.tray t).lC = (s.tray t).lC) : sharesOf u = sharesOf s := by
  have hin : u.inSet = s.inSet := by
    funext t
    rw [State.inSet, State.inSet, hset]
  rw [sharesOf, sharesOf, hin]
  refine List.map_congr_left fun t ht => ?_
  obtain ⟨hrange, -⟩ := List.mem_filter.mp ht
  obtain ⟨hw, hd, hc⟩ := h t (List.mem_range.mp hrange)
  dsimp only
  rw [hw, hd, hc]

/-- Trays outside the set have limits of zero. -/
def OutHasNone (s : State) : Prop := ∀ t, t < Config.trays → s.inSet t = false → (s.tray t).lD = 0 ∧ (s.tray t).lC = 0

/-- The trays with the limits of the period. -/
def limitTrays (s : State) : List Tray :=
  (List.range Config.trays).map fun t => if s.inSet t then limitNext s t (s.tray t) else { s.tray t with lD := 0, lC := 0 }

/-- The trays with their weights. -/
def weighTrays (mean : Rat) (s : State) : List Tray :=
  (List.range Config.trays).map fun t => if s.inSet t then weighTray s mean t (s.tray t) else { s.tray t with weight := 0 }

theorem limitTrays_outHasNone (s : State) : OutHasNone { s with trays := limitTrays s } := by
  intro t ht hout
  have hout' : ¬s.inSet t = true := ne_true_of_eq_false hout
  rw [State.tray, limitTrays, get_range_map _ _ ht, if_neg hout']
  exact ⟨rfl, rfl⟩

theorem weighTrays_outHasNone {s : State} (h : OutHasNone s) (mean : Rat) :
    OutHasNone { s with trays := weighTrays mean s } := by
  intro t ht hout
  have hout' : ¬s.inSet t = true := ne_true_of_eq_false hout
  rw [State.tray, weighTrays, get_range_map _ _ ht, if_neg hout']
  exact h t ht hout

theorem allocPrepare_outHasNone (t0 : Nat) (s : State) : OutHasNone (allocPrepare t0 s) := by
  rw [allocPrepare]
  exact weighTrays_outHasNone (limitTrays_outHasNone _) _

section
variable (t0 : Nat) (s : State)

/-- The current of tray t as placement gives it. -/
def placedNow (t0 : Nat) (q : State) (t : Nat) : Rat :=
  if q.inSet t then
    placedOn (place 17 (q.loop.iSt - sumQ (q.links.map (heldNow t0))) (sharesOf q) []).2 t
  else 0

/-- The trays that a period of tray allocation leaves. -/
theorem allocPeriod_trays : (allocPeriod t0 s).trays = (List.range Config.trays).map fun t =>
    { (allocPrepare t0 s).tray t with
      iT := bfp24 expA (placedNow t0 (allocPrepare t0 s) t)
      ref := bfp24 expA (stringSide (get 0 (allocPrepare t0 s).loop.m t)
        (bfp24 expA (placedNow t0 (allocPrepare t0 s) t))) } := by
  rw [allocPeriod]
  generalize allocPrepare t0 s = q
  dsimp only
  rw [SameBut.trays_eq (l := [.fm]) (.when_ fun _ => State.raise_frame ..)]
  rfl

/-- What it publishes. -/
theorem allocPeriod_alloc : (allocPeriod t0 s).alloc.set = (allocPrepare t0 s).alloc.set ∧
    (allocPeriod t0 s).alloc.held = sumQ ((allocPrepare t0 s).links.map (heldNow t0)) ∧
    (allocPeriod t0 s).alloc.disLim = (allocPeriod t0 s).alloc.held + sumQ ((sharesOf (allocPrepare t0 s)).map (·.lD)) ∧
    (allocPeriod t0 s).alloc.chgLim =
      sumQ ((sharesOf (allocPrepare t0 s)).map (·.lC)) - (allocPeriod t0 s).alloc.held := by
  rw [allocPeriod]
  generalize allocPrepare t0 s = q
  dsimp only
  rw [SameBut.alloc_eq (l := [.fm]) (.when_ fun _ => State.raise_frame ..)]
  exact ⟨rfl, rfl, rfl, rfl⟩

/-- The current placed on each tray, and the limits that stand for it. -/
structure Placed (s : State) : Prop where
  out : ∀ t, t < Config.trays → s.inSet t = false → (s.tray t).iT = 0 ∧ (s.tray t).lD = 0 ∧ (s.tray t).lC = 0
  share : ∀ t, t < Config.trays → s.inSet t = true → (s.tray t).iT =
    bfp24 expA (placedOn (place 17 (s.loop.iSt - s.alloc.held) (sharesOf s) []).2 t)
  disLim : s.alloc.disLim = s.alloc.held + sumQ ((sharesOf s).map (·.lD))
  chgLim : s.alloc.chgLim = sumQ ((sharesOf s).map (·.lC)) - s.alloc.held

theorem bfp24_zero (e : Int) : bfp24 e 0 = 0 := by
  have hround : roundEven 0 = 0 := by decide +kernel
  rw [bfp24, zero_div, hround]
  exact zero_mul _

theorem allocPeriod_placed : Placed (allocPeriod t0 s) := by
  have htrays := allocPeriod_trays t0 s
  obtain ⟨hset, hheld, hdis, hchg⟩ := allocPeriod_alloc t0 s
  have hloop : (allocPeriod t0 s).loop = (allocPrepare t0 s).loop := by
    rw [(allocPeriod_frame ..).loop_eq, (allocPrepare_frame ..).loop_eq]
  have hnone := allocPrepare_outHasNone t0 s
  generalize allocPrepare t0 s = q at htrays hset hheld hdis hchg hloop hnone
  generalize allocPeriod t0 s = u at htrays hset hheld hdis hchg hloop
  have htray : ∀ t, t < Config.trays → u.tray t = { q.tray t with
      iT := bfp24 expA (placedNow t0 q t)
      ref := bfp24 expA (stringSide (get 0 q.loop.m t) (bfp24 expA (placedNow t0 q t))) } := fun t ht => by
    rw [State.tray, htrays, get_range_map _ _ ht]
  have hin : ∀ t, u.inSet t = q.inSet t := fun t => by rw [State.inSet, State.inSet, hset]
  have hshares : sharesOf u = sharesOf q := sharesOf_same hset fun t ht => by
    rw [htray t ht]
    exact ⟨rfl, rfl, rfl⟩
  refine ⟨fun t ht hout => ?_, fun t ht hmem => ?_, by rw [hshares, hdis], by rw [hshares, hchg]⟩
  · rw [hin] at hout
    rw [htray t ht, placedNow, if_neg (ne_true_of_eq_false hout)]
    exact ⟨bfp24_zero _, hnone t ht hout⟩
  · rw [hin] at hmem
    rw [htray t ht, placedNow, if_pos hmem, hshares, hloop, hheld]

end

/-! ### After the edges have left -/

/-- What a period's end leaves of placement, of the links, and of the phases' own values where a link is up. -/
structure Rested (s u : State) : Prop where
  links : u.links = s.links
  placing : ∀ t, (u.tray t).placing = (s.tray t).placing
  tp : ∀ t, (s.link t).up = true → u.tp t = s.tp t

namespace Rested
variable {s u w : State}

theorem refl : Rested s s := ⟨rfl, fun _ => rfl, fun _ _ => rfl⟩

theorem trans (h : Rested s u) (h' : Rested u w) : Rested s w :=
  ⟨h'.links.trans h.links, fun t => (h'.placing t).trans (h.placing t), fun t ht =>
    (h'.tp t (by rw [State.link, h.links]; exact ht)).trans (h.tp t ht)⟩

theorem forTrays {f : Nat → State → State} (hf : ∀ t s, Rested s (f t s)) : Rested s (Machine.forTrays f s) :=
  forTrays_keeps (Rested s) f (fun t _ h => h.trans (hf t _)) s .refl

end Rested

theorem SameBut.rested {l : List Part} {s u : State} (h : SameBut l s u) (hl : .links ∉ l := by decide)
    (htrays : .trays ∉ l := by decide) (htph : .tph ∉ l := by decide) : Rested s u :=
  ⟨h.links_eq hl, fun t => by rw [State.tray, State.tray, h.trays_eq htrays],
    fun t _ => by rw [State.tp, State.tp, h.tph_eq htph]⟩

theorem updTray_rested (s : State) (t : Nat) {f : Tray → Tray} (hf : ∀ x, (f x).placing = x.placing) :
    Rested s (s.updTray t f) :=
  ⟨rfl, fun u => State.tray_updTray_field Tray.placing hf s u t, fun _ _ => rfl⟩

/-- What a tray without its link keeps of its phases is its own. -/
theorem updTp_rested {s : State} {t : Nat} (hdown : (s.link t).up = false) (f : TrayPh → TrayPh) :
    Rested s (s.updTp t f) := by
  refine ⟨rfl, fun _ => rfl, fun u hup => State.tp_updTp_other s t u f ?_⟩
  rintro rfl
  rw [hdown] at hup
  cases hup

theorem trayAbsent_rested {t : Nat} {s : State} (hdown : (s.link t).up = false) : Rested s (trayAbsent t s) := by
  have hdrives : ∀ v : State, v.links = s.links → Rested v (drivesLow t v) := by
    intro v hv
    have hv' : (v.link t).up = false := by rwa [State.link, hv]
    rw [drivesLow]
    split
    · exact (updTp_rested hv' _).trans (updTray_rested _ t fun _ => rfl)
    · exact updTray_rested _ t fun _ => rfl
  have htest : ∀ v : State, v.links = s.links → Rested v (testOver t v) := by
    intro v hv
    have hv' : (v.link t).up = false := by rwa [State.link, hv]
    exact (updTp_rested hv' _).trans (updTray_rested _ t fun _ => rfl)
  have htx : SameBut [.txn, .est] s (interruptWrites t 0x0309 (interruptDrain t 0x0309 s)) :=
    .step (.mono (interruptDrain_frame ..)) (interruptWrites_frame ..)
  rw [trayAbsent]
  generalize interruptWrites t 0x0309 (interruptDrain t 0x0309 s) = v at htx
  have hlow := hdrives v htx.links_eq
  have hover := htest (drivesLow t v) (hlow.links.trans htx.links_eq)
  have hall : Rested s (bleedAccount t (testOver t (drivesLow t v))) :=
    ((htx.rested.trans hlow).trans hover).trans (bleedAccount_frame ..).rested
  generalize bleedAccount t (testOver t (drivesLow t v)) = w at hall
  have hw : (w.link t).up = false := by rwa [State.link, hall.links]
  have hreset : ∀ (f : Tray → Tray) (g : TrayPh → TrayPh) (k : Tow → Tow), (∀ x, (f x).placing = x.placing) →
      Rested w (((w.updTray t f).updTp t g).updTow t k) := fun f g k hf =>
    ((updTray_rested w t hf).trans (updTp_rested (s := w.updTray t f) hw g)).trans (State.updTow_frame ..).rested
  exact hall.trans (hreset _ _ _ fun _ => rfl)

theorem pinSettle_rested (t : Nat) (s : State) : Rested s (pinSettle t s) := by
  rw [pinSettle]
  split
  · exact updTray_rested s t fun _ => rfl
  · exact .refl

theorem startDrives_rested (t : Nat) (s : State) : Rested s (startDrives t s) := by
  rw [startDrives]
  split
  · exact updTray_rested s t fun _ => rfl
  · exact .refl

theorem prechargePeriod_rested (t0 t : Nat) (s : State) : Rested s (prechargePeriod t0 t s) := by
  rw [prechargePeriod]
  dsimp only
  split
  · exact updTray_rested s t fun _ => rfl
  · split
    · exact updTray_rested s t fun _ => rfl
    · exact .refl

theorem trayPeriod_rested (t0 t : Nat) (s : State) : Rested s (trayPeriod t0 t s) := by
  rw [trayPeriod]
  split
  next h => exact trayAbsent_rested h.2
  · exact ((pinSettle_rested t s).trans (startDrives_rested ..)).trans (prechargePeriod_rested ..)

/-- A period's end touches neither placement nor the links. -/
theorem periodRest_rested (t0 : Nat) (s : State) : Rested s (periodRest t0 s) := by
  have htail : SameBut [.fm, .alloc, .est, .feed, .tide] (forTrays (trayPeriod t0) (delayPeriod s)) (periodRest t0 s) :=
    .step (.step (.step (.step (.mono (urgentPeriod_frame ..)) (.forTrays fun _ _ => chargePeriod_frame ..))
      (feedPeriod_frame ..)) (tidePeriod_frame ..)) (switchAtCut_frame ..)
  exact ((delayPeriod_frame s).rested.trans (.forTrays (trayPeriod_rested t0))).trans htail.rested

/-- The published limits are kept to the end of the period. -/
theorem periodRest_alloc (t0 : Nat) (s : State) : ∃ a, (periodRest t0 s).alloc = { s.alloc with urgentSince := a } := by
  have htrays : SameBut [.freeCount, .loop, .txn, .tph, .trays, .tows, .est] s (forTrays (trayPeriod t0) (delayPeriod s)) :=
    .trans (.mono (delayPeriod_frame ..)) (.forTrays fun _ _ => .mono (trayPeriod_frame ..))
  have htail : SameBut [.fm, .est, .feed, .tide] (urgentPeriod t0 (forTrays (trayPeriod t0) (delayPeriod s)))
      (periodRest t0 s) :=
    .step (.step (.step (.forTrays fun _ _ => .mono (chargePeriod_frame ..)) (feedPeriod_frame ..))
      (tidePeriod_frame ..)) (switchAtCut_frame ..)
  rw [htail.alloc_eq, ← htrays.alloc_eq]
  exact ⟨_, rfl⟩

theorem Placed.of_same {s u : State} (h : Placed s) (hset : u.alloc.set = s.alloc.set)
    (hheld : u.alloc.held = s.alloc.held) (hdis : u.alloc.disLim = s.alloc.disLim)
    (hchg : u.alloc.chgLim = s.alloc.chgLim) (hi : u.loop.iSt = s.loop.iSt)
    (htray : ∀ t, (u.tray t).placing = (s.tray t).placing) : Placed u := by
  have hpart : ∀ t, (u.tray t).weight = (s.tray t).weight ∧ (u.tray t).lD = (s.tray t).lD ∧
      (u.tray t).lC = (s.tray t).lC ∧ (u.tray t).iT = (s.tray t).iT := fun t => Tray.placing_parts (htray t)
  have hin : ∀ t, u.inSet t = s.inSet t := fun t => by rw [State.inSet, State.inSet, hset]
  have hshares : sharesOf u = sharesOf s := sharesOf_same hset fun t _ =>
    ⟨(hpart t).1, (hpart t).2.1, (hpart t).2.2.1⟩
  refine ⟨fun t ht hout => ?_, fun t ht hmem => ?_, by rw [hdis, hheld, hshares, h.disLim],
    by rw [hchg, hheld, hshares, h.chgLim]⟩
  · obtain ⟨-, hd, hc, hiT⟩ := hpart t
    rw [hd, hc, hiT]
    exact h.out t ht (hin t ▸ hout)
  · obtain ⟨-, -, -, hiT⟩ := hpart t
    rw [hiT, hi, hheld, hshares]
    exact h.share t ht (hin t ▸ hmem)

/-- The shares of a whole period. -/
theorem controlEff_placed {s : State} (hdrives : (periodBegun s).drives = true)
    (hstep : (periodBegun s).withheld (nextPeriod s) = false) (hvoid : (periodBegun s).voidStages = []) :
    Placed (controlEff s) := by
  have hplaced : Placed (periodPlaced s) := allocPeriod_placed ..
  have hedged : SameBut [.tx, .fm, .phases, .tph, .links, .edge, .pair] (periodPlaced s) (periodEdged s) :=
    .forTrays fun _ _ => phaseChain_frame ..
  have hrest := periodRest_rested (nextPeriod s) (periodEdged s)
  obtain ⟨a, ha⟩ := periodRest_alloc (nextPeriod s) (periodEdged s)
  have hbeside := periodBeside_frame (nextPeriod s) (periodRest (nextPeriod s) (periodEdged s))
  have halloc : (controlEff s).alloc = { (periodPlaced s).alloc with urgentSince := a } := by
    rw [controlEff_whole hdrives hstep hvoid, hbeside.alloc_eq, ha, hedged.alloc_eq]
  have hloop : (controlEff s).loop.iSt = (periodPlaced s).loop.iSt := by
    rw [controlEff_whole hdrives hstep hvoid, hbeside.loop_eq, (periodRest_frame ..).loop_eq, ← hedged.loop_eq]
    exact (delayPeriod_law _).iSt
  refine hplaced.of_same ?_ ?_ ?_ ?_ hloop fun t => ?_
  · rw [halloc]
  · rw [halloc]
  · rw [halloc]
  · rw [halloc]
  · rw [controlEff_whole hdrives hstep hvoid, State.tray, hbeside.trays_eq]
    exact (hrest.placing t).trans (congrArg (fun l => (get Tray.reset l t).placing) hedged.trays_eq)

end Sys2Proof.Machine
end

section
/-! SUPPORT. Proof: the phase law of one control period on one phase (03_phases_and_edges.md: Phase current and the phase
law). -/

namespace Sys2Proof.Machine

set_option Elab.async false

/-! ### The phase manager in its steps -/

/-- Whether the tray has a share, and its phases started with it. -/
def shareDecided (t : Nat) (s : State) : State :=
  if (s.tp t).testRef.isNone ∧ s.inSet t then
    (if (s.tp t).share = false ∧ trayRef s t ≠ 0 ∧ tripSnubOn s t = false then shareStart t s else s)
  else s.updTp t (fun y => { y with share := false })

/-- The observers of sense-failed phases in a snub. -/
def decayed (t : Nat) (vs vb : Rat) (s : State) : State :=
  s.mapPhs t (fun p x => if x.st = .snub then x.diodeDecay (s.cfgB (0x2100 + t) (0x17 + 8 * p)) vs vb else x)

/-- A load step that is near. -/
def loadStepped (t : Nat) (s : State) : State := if (s.tp t).share ∧ stepNear s then stepTray t s else s

/-- The references of the phases. -/
def referred (t : Nat) (rT : Rat) (s : State) : State :=
  s.mapPhs t (fun _ x => phaseRef rT (sumQ ((s.phs t).map (·.w))) (s.iLim t) (((s.tp t).blend : Rat) / 16) x)

/-- Load-step snubs, where they are enabled. -/
def stepSnubbed (t : Nat) (ir : Rat) (s : State) : State :=
  if s.cfgU 0x2200 0x07 = 1 then s.mapPhs t (fun p x => stepSnub (s.cfgB 0x2200 0x08 * ir) (s.sees t p x)) else s

/-- Duties and pulses. -/
def drivenTray (t0 t : Nat) (vs vb : Rat) (s : State) : State :=
  if 0 < vb then s.mapPhs t (fun p x => drivePhase s t t0 vs vb p x) else s

/-- What the tray's manager publishes. -/
def publishedTray (t0 t : Nat) (rT : Rat) (s : State) : State :=
  publishCapacity t (shedTrack t t0 (s.updTp t (fun y => { y with rTray := rT })))

section
variable {s : State} {t t0 p : Nat}

theorem shareDecided_frame : SameBut [.phases, .tph] s (shareDecided t s) :=
  .ite (.ite (shareStart_frame ..) .refl) (.mono (State.updTp_frame ..))

theorem decayed_frame {vs vb : Rat} : SameBut [.phases] s (decayed t vs vb s) := State.mapPhs_frame ..

theorem loadStepped_frame : SameBut [.fm, .phases, .edge] s (loadStepped t s) := .ite (stepTray_frame ..) .refl

theorem referred_frame {rT : Rat} : SameBut [.phases] s (referred t rT s) := State.mapPhs_frame ..

theorem stepSnubbed_frame {ir : Rat} : SameBut [.phases] s (stepSnubbed t ir s) := .ite (State.mapPhs_frame ..) .refl

theorem drivenTray_frame {vs vb : Rat} : SameBut [.phases] s (drivenTray t0 t vs vb s) :=
  .ite (State.mapPhs_frame ..) .refl

theorem publishedTray_frame {rT : Rat} : SameBut [.tph] s (publishedTray t0 t rT s) :=
  .step (.step (State.updTp_frame ..) (shedTrack_frame ..)) (publishCapacity_frame ..)

/-- The tray once shares, decays and load steps are settled. -/
def settledTray (t : Nat) (s : State) : State :=
  loadStepped t (decayed t (s.link t).vLink s.loop.vBus (shareDecided t s))

theorem settledTray_frame : SameBut [.fm, .phases, .tph, .edge] s (settledTray t s) :=
  .step (.step (.mono shareDecided_frame) decayed_frame) loadStepped_frame

/-- The tray once its phases have seen their currents. -/
def seenTray (t : Nat) (ir rT : Rat) (s : State) : State :=
  let v := stepSnubbed t ir (referred t rT s)
  v.mapPhs t (v.sees t)

theorem seenTray_frame {ir rT : Rat} : SameBut [.phases] s (seenTray t ir rT s) :=
  .step (.step referred_frame stepSnubbed_frame) (State.mapPhs_frame ..)

theorem phasePeriod_steps (hup : (s.link t).up = true) : phasePeriod t0 t s =
    publishedTray t0 t (trayRef s t) (drivenTray t0 t (s.link t).vLink s.loop.vBus
      (seenTray t (s.iPhR t) (trayRef s t) (settledTray t s))) := by
  rw [phasePeriod, if_neg (by rw [hup]; exact Bool.noConfusion)]
  rfl

/-! ### The settled tray -/

theorem mapPhs_weights {f : Nat → Phase → Phase} (hf : ∀ p x, (f p x).w = x.w) (s : State) (t : Nat) :
    ((s.mapPhs t f).phs t).map (·.w) = (s.phs t).map (·.w) := by
  have hlist : ∀ l : List Phase, (l.mapIdx f).map (·.w) = l.map (·.w) := fun l => by
    refine List.ext_getElem? fun i => ?_
    rw [List.getElem?_map, List.getElem?_mapIdx, List.getElem?_map]
    cases l[i]? with
    | none => rfl
    | some x => exact congrArg some (hf i x)
  exact get_upd_field (fun l : List Phase => l.map (·.w)) hlist s.phases t t

theorem mapPhs_len (s : State) (t : Nat) (f : Nat → Phase → Phase) :
    (s.mapPhs t f).phases.length = s.phases.length := upd_length ..

/-- The tray has as many phases, and phase p of it is as it was. -/
structure SamePhase (t p : Nat) (s u : State) : Prop where
  len : u.phases.length = s.phases.length
  nPh : u.nPh t = s.nPh t
  ph : u.ph t p = s.ph t p

namespace SamePhase

theorem refl : SamePhase t p s s := ⟨rfl, rfl, rfl⟩

theorem trans {u w : State} (h : SamePhase t p s u) (h' : SamePhase t p u w) : SamePhase t p s w :=
  ⟨h'.len.trans h.len, h'.nPh.trans h.nPh, h'.ph.trans h.ph⟩

theorem of_phases {u : State} (h : u.phases = s.phases) : SamePhase t p s u :=
  ⟨by rw [h], by rw [State.nPh, State.nPh, State.phs, State.phs, h], by rw [State.ph, State.ph, h]⟩

theorem mapPhs {f : Nat → Phase → Phase} (ht : t < s.phases.length) (hp : p < s.nPh t)
    (hf : f p (s.ph t p) = s.ph t p) : SamePhase t p s (s.mapPhs t f) :=
  ⟨mapPhs_len .., nPh_mapPhs .., (ph_mapPhs f ht hp).trans hf⟩

end SamePhase

/-- A phase that runs, in RUN or in DE. -/
def Phase.runs (x : Phase) : Prop := x.st = .run ∨ x.st = .de

theorem Phase.runs_lt (h : (s.ph t p).runs) : t < s.phases.length ∧ p < s.nPh t :=
  ph_lt (by obtain h | h := h <;> rw [h] <;> exact nofun)

theorem State.tp_updTp_field {α : Type} (g : TrayPh → α) {f : TrayPh → TrayPh} (hf : ∀ x, g (f x) = g x) (s : State)
    (t u : Nat) : g ((s.updTp u f).tp t) = g (s.tp t) := get_upd_field g hf s.tph u t

/-- A share that stands starts no phase. -/
theorem shareDecided_same (hshare : (s.tp t).share = true) : SamePhase t p s (shareDecided t s) := by
  rw [shareDecided]
  split
  · rw [if_neg (by rw [hshare]; exact fun h => Bool.noConfusion h.1)]
    exact .refl
  · exact .of_phases rfl

theorem shareDecided_tp (hshare : (s.tp t).share = true) :
    ((shareDecided t s).tp t).x = (s.tp t).x ∧ ((shareDecided t s).tp t).blend = (s.tp t).blend := by
  rw [shareDecided]
  split
  · rw [if_neg (by rw [hshare]; exact fun h => Bool.noConfusion h.1)]
    exact ⟨rfl, rfl⟩
  · exact ⟨State.tp_updTp_field TrayPh.x (by intro x; rfl) s t t, State.tp_updTp_field TrayPh.blend (by intro x; rfl) s t t⟩

theorem stepTray_same (h : (s.ph t p).runs) : SamePhase t p s (stepTray t s) := by
  obtain ⟨ht, hp⟩ := Phase.runs_lt h
  rw [stepTray]
  generalize hv : List.foldl _ _ _ = v
  have hs : SameBut [.fm, .edge] s v := by
    rw [← hv]
    exact .trans (.ite .refl (.mono (.edge ..))) (.foldl fun _ _ => .mono (State.raise_frame ..))
  have hsame : SamePhase t p s v := .of_phases hs.phases_eq
  refine hsame.trans (.mapPhs (hsame.len ▸ ht) (hsame.nPh ▸ hp) ?_)
  rw [hsame.ph]
  split
  · rfl
  · rw [stepPhase]
    obtain h | h := h
    · rw [h]
      rfl
    · rw [h]
      rfl

/-- Neither a share that stands, nor a snub of others, nor a load step touches a phase that runs. -/
theorem settledTray_same (hshare : (s.tp t).share = true) (h : (s.ph t p).runs) :
    SamePhase t p s (settledTray t s) := by
  obtain ⟨ht, hp⟩ := Phase.runs_lt h
  have hone := shareDecided_same (p := p) hshare
  have htwo : SamePhase t p s (decayed t (s.link t).vLink s.loop.vBus (shareDecided t s)) := by
    refine hone.trans (.mapPhs (hone.len ▸ ht) (hone.nPh ▸ hp) ?_)
    rw [hone.ph]
    exact if_neg (by obtain h | h := h <;> rw [h] <;> exact nofun)
  have hruns : ((decayed t (s.link t).vLink s.loop.vBus (shareDecided t s)).ph t p).runs := htwo.ph ▸ h
  rw [settledTray, loadStepped]
  split
  · exact htwo.trans (stepTray_same hruns)
  · exact htwo

theorem settledTray_tp (hshare : (s.tp t).share = true) :
    ((settledTray t s).tp t).x = (s.tp t).x ∧ ((settledTray t s).tp t).blend = (s.tp t).blend := by
  have hs : SameBut [.fm, .phases, .edge] (shareDecided t s) (settledTray t s) :=
    .step (.mono decayed_frame) loadStepped_frame
  rw [State.tp, hs.tph_eq]
  exact shareDecided_tp hshare

/-! ### The law on one phase -/

theorem SameBut.sees_eq {l : List Part} {s u : State} (h : SameBut l s u) (t p : Nat) (x : Phase)
    (hl : .links ∉ l := by decide) (hod : .od ∉ l := by decide) : u.sees t p x = s.sees t p x := by
  rw [State.sees, State.sees, State.kDiv, State.kDiv, h.cfgU_eq _ _ hod, State.link, State.link, h.links_eq hl]

/-- The reference the tray's share gives phase x. -/
def refOf (t : Nat) (rT : Rat) (s : State) (x : Phase) : Phase :=
  phaseRef rT (sumQ ((s.phs t).map (·.w))) (s.iLim t) (((s.tp t).blend : Rat) / 16) x

/-- A phase that sees its current keeps everything else; a load-step snub takes it where that is enabled. -/
theorem seenTray_ph {ir rT : Rat} (ht : t < s.phases.length) (hp : p < s.nPh t) :
    (∃ j, (seenTray t ir rT s).ph t p = { refOf t rT s (s.ph t p) with i := j }) ∨
      s.cfgU 0x2200 0x07 = 1 ∧ ((seenTray t ir rT s).ph t p).st = .snub := by
  have href : (referred t rT s).ph t p = refOf t rT s (s.ph t p) := ph_mapPhs _ ht hp
  have ht1 : t < (referred t rT s).phases.length := lt_of_lt_of_eq ht (mapPhs_len ..).symm
  have hp1 : p < (referred t rT s).nPh t := lt_of_lt_of_eq hp (nPh_mapPhs ..).symm
  have hcfg : (referred t rT s).cfgU 0x2200 0x07 = s.cfgU 0x2200 0x07 := referred_frame.cfgU_eq ..
  generalize hv : stepSnubbed t ir (referred t rT s) = v
  have hseen : (seenTray t ir rT s).ph t p = (v.mapPhs t (v.sees t)).ph t p := by rw [seenTray, hv]
  rw [stepSnubbed, hcfg] at hv
  split at hv
  next hon =>
    have hv1 : v.ph t p = stepSnub _ ((referred t rT s).sees t p _) := hv ▸ ph_mapPhs _ ht1 hp1
    rw [href, stepSnub] at hv1
    have ht2 : t < v.phases.length := lt_of_lt_of_eq ht1 (hv ▸ (mapPhs_len ..).symm)
    have hp2 : p < v.nPh t := lt_of_lt_of_eq hp1 (hv ▸ (nPh_mapPhs ..).symm)
    rw [hseen, ph_mapPhs _ ht2 hp2, hv1]
    split
    · exact .inr ⟨hon, rfl⟩
    · exact .inl ⟨_, rfl⟩
  next hoff =>
    subst hv
    rw [hseen, ph_mapPhs _ ht1 hp1, href]
    exact .inl ⟨_, rfl⟩

theorem seenTray_weights {ir rT : Rat} :
    ((seenTray t ir rT s).phs t).map (·.w) = (s.phs t).map (·.w) := by
  have href : ((referred t rT s).phs t).map (·.w) = (s.phs t).map (·.w) := mapPhs_weights (by intro _ _; rfl) s t
  have hsnub : ((stepSnubbed t ir (referred t rT s)).phs t).map (·.w) = ((referred t rT s).phs t).map (·.w) := by
    rw [stepSnubbed]
    split
    · refine mapPhs_weights (fun p x => ?_) _ t
      rw [stepSnub]
      split
      · rfl
      · rfl
    · rfl
  rw [← href, ← hsnub]
  exact mapPhs_weights (by intro _ _; rfl) _ t

theorem seenTray_len {ir rT : Rat} :
    (seenTray t ir rT s).phases.length = s.phases.length ∧ (seenTray t ir rT s).nPh t = s.nPh t := by
  have hsnub : (stepSnubbed t ir (referred t rT s)).phases.length = (referred t rT s).phases.length ∧
      (stepSnubbed t ir (referred t rT s)).nPh t = (referred t rT s).nPh t := by
    rw [stepSnubbed]
    split
    · exact ⟨mapPhs_len .., nPh_mapPhs ..⟩
    · exact ⟨rfl, rfl⟩
  refine ⟨((mapPhs_len ..).trans hsnub.1).trans (mapPhs_len ..), ((nPh_mapPhs ..).trans hsnub.2).trans (nPh_mapPhs ..)⟩

/-- A pulse changes what it leaves of itself alone. -/
theorem dePulse_keeps (l q tmin vs vb : Rat) (slot : Bool) (x : Phase) : ∃ a o d y,
    dePulse l q tmin vs vb slot x = { x with acc := a, onceOn := o, deOn := d, deSync := y } := by
  have hite : ∀ (c : Prop) [Decidable c] (y z : Phase),
      (∃ a o d e, y = { x with acc := a, onceOn := o, deOn := d, deSync := e }) →
      (∃ a o d e, z = { x with acc := a, onceOn := o, deOn := d, deSync := e }) →
      ∃ a o d e, (if c then y else z) = { x with acc := a, onceOn := o, deOn := d, deSync := e } := by
    intro c _ y z hy hz
    split
    · exact hy
    · exact hz
  exact hite _ _ _ ⟨x.acc, _, _, _, rfl⟩ (hite _ _ _ ⟨_, _, _, _, rfl⟩ ⟨_, _, _, _, rfl⟩)

/-- What the manager's last part leaves of a phase. -/
structure SamePlan (x y : Phase) : Prop where
  st : y.st = x.st
  w : y.w = x.w
  r : y.r = x.r
  i : y.i = x.i
  b : y.b = x.b
  ei : y.ei = x.ei
  cmd : y.cmd = x.cmd

theorem drivePhase_keeps (vs vb : Rat) (x : Phase) : SamePlan x (drivePhase s t t0 vs vb p x) := by
  rw [drivePhase]
  dsimp only
  split
  · exact ⟨rfl, rfl, rfl, rfl, rfl, rfl, rfl⟩
  · split
    · obtain ⟨a, o, d, y, h⟩ := dePulse_keeps (s.cfgB (0x2100 + t) (0x17 + 8 * p)) (2 * s.kDiv : Nat)
        (s.cfgU 0x2200 0x04 : Nat) vs vb (slotIn s.kDiv t p t0) x
      rw [h]
      exact ⟨rfl, rfl, rfl, rfl, rfl, rfl, rfl⟩
    · exact ⟨rfl, rfl, rfl, rfl, rfl, rfl, rfl⟩

/-- The duty of a phase in RUN (R54, R59). -/
theorem drivePhase_run {vs vb : Rat} {x : Phase} (hst : x.st = .run) (hfresh : x.fresh = false) :
    (drivePhase s t t0 vs vb p x).d = clampQ (dutyLo s) (1 - dutyLo s) (get 0 s.loop.m t -
      (s.cfgB (0x2100 + t) 0x09 * (x.r - x.i) + (s.tp t).x + x.b) / vb) := by
  have hdriven : x.driven = true := by
    rw [Phase.driven, hst]
    rfl
  have huse : x.iUse = x.i := by
    rw [Phase.iUse, hst]
    exact if_neg (fun h => nomatch h.1)
  rw [drivePhase]
  dsimp only
  rw [if_pos hdriven, hfresh, dutyLaw, huse]
  rfl

/-- The pulse of a phase in DE (R64, R65). -/
theorem drivePhase_de {vs vb : Rat} {x : Phase} (hst : x.st = .de) :
    drivePhase s t t0 vs vb p x = dePulse (s.cfgB (0x2100 + t) (0x17 + 8 * p)) (2 * s.kDiv : Nat)
      (s.cfgU 0x2200 0x04 : Nat) vs vb (slotIn s.kDiv t p t0) x := by
  have hdriven : ¬x.driven = true := by
    rw [Phase.driven, hst]
    exact Bool.noConfusion
  rw [drivePhase]
  dsimp only
  rw [if_neg hdriven, if_pos hst]

end

end Sys2Proof.Machine
end

section
/-! SUPPORT. Proof: the edge commands of one control period (03_phases_and_edges.md: Edge generation). -/

namespace Sys2Proof.Machine

set_option Elab.async false

/-! ### What may leave -/

/-- FAULT_OUT, a handover that waits, and the role stay. -/
structure SameOut (s u : State) : Prop where
  faultOut : u.fm.faultOut = s.fm.faultOut
  handover : u.pair.handover = s.pair.handover
  role : u.pair.role = s.pair.role

namespace SameOut
variable {s u w : State}

theorem refl : SameOut s s := ⟨rfl, rfl, rfl⟩

theorem trans (h : SameOut s u) (h' : SameOut u w) : SameOut s w :=
  ⟨h'.faultOut.trans h.faultOut, h'.handover.trans h.handover, h'.role.trans h.role⟩

theorem ite {c : Prop} [Decidable c] (h : SameOut s u) (h' : SameOut s w) : SameOut s (if c then u else w) := by
  split
  · exact h
  · exact h'

theorem foldl {β : Type} {f : State → β → State} (hf : ∀ s b, SameOut s (f s b)) {xs : List β} {s : State} :
    SameOut s (xs.foldl f s) := foldl_keeps (SameOut s) f xs (fun t b h => h.trans (hf t b)) s .refl

theorem when_ {c : Bool} {f : State → State} (hf : ∀ s, SameOut s (f s)) : SameOut s (Machine.when_ c f s) :=
  .ite (hf s) .refl

end SameOut

theorem SameBut.sameOut {l : List Part} {s u : State} (h : SameBut l s u) (hfm : .fm ∉ l := by decide)
    (hpair : .pair ∉ l := by decide) : SameOut s u :=
  ⟨by rw [h.fm_eq hfm], by rw [h.pair_eq hpair], by rw [h.pair_eq hpair]⟩

theorem raise_sameOut (s : State) (code inst : Nat) : SameOut s (s.raise code inst) := ⟨rfl, rfl, rfl⟩

theorem capPeriod_sameOut (a : Nat) (s : State) : SameOut s (capPeriod a s) :=
  .ite (.trans (SameBut.sameOut (.freeCount ..)) (.ite ⟨rfl, rfl, rfl⟩ .refl)) .refl

theorem excludeEff_sameOut (t : Nat) (s : State) : SameOut s (excludeEff t s) :=
  .ite (.trans (SameBut.sameOut (.loop ..)) (raise_sameOut ..)) .refl

theorem settleLoop_sameOut (s : State) : SameOut s (settleLoop s) := by
  have hread : ∀ u, SameOut s u → SameOut s ((List.range Config.trays).foldl (fun a t => readmitEff t (excludeEff t a)) u) :=
    fun u hu => hu.trans (.foldl fun a t => (excludeEff_sameOut t a).trans (readmitEff_frame ..).sameOut)
  have hhold : ∀ u, SameOut u (holdTimeoutEff u) := fun u =>
    .ite ((raise_sameOut ..).trans (tripLoop_frame ..).sameOut) .refl
  have hclamp : ∀ u, SameOut u (clampPersistentEff u) := fun u =>
    .ite (.trans (SameBut.sameOut (.loop ..)) (raise_sameOut ..)) .refl
  have hwindow : ∀ u, SameOut u (windowTimeoutEff u) := fun u =>
    .ite (.trans (SameBut.sameOut (.loop ..)) (raise_sameOut ..)) .refl
  have hfar : ∀ u, SameOut u (farTimeoutEff u) := fun u =>
    .ite (.trans (SameBut.sameOut (.loop ..)) (raise_sameOut ..)) .refl
  exact (((((hread s .refl).trans (hhold _)).trans (hclamp _)).trans (hwindow _)).trans (hfar _)).trans
    ((softCompleteEff_frame ..).sameOut.trans (stoppingCompleteEff_frame ..).sameOut)

theorem clockPeriod_sameOut (t0 : Nat) (s : State) : SameOut s (clockPeriod t0 s) := ⟨rfl, rfl, rfl⟩

theorem periodBegun_sameOut (s : State) : SameOut s (periodBegun s) :=
  ((capPeriod_sameOut ..).trans (clockPeriod_sameOut ..)).trans (settleLoop_sameOut _)

theorem loopPeriod_sameOut (t0 : Nat) (s : State) : SameOut s (loopPeriod t0 s) := by
  refine .trans (.trans ?_ (.when_ fun _ => raise_sameOut ..)) (.when_ fun _ => raise_sameOut ..)
  exact .ite ⟨rfl, rfl, rfl⟩ ⟨rfl, rfl, rfl⟩

theorem allocPeriod_sameOut (t0 : Nat) (s : State) : SameOut s (allocPeriod t0 s) := by
  refine .trans ?_ (.when_ fun _ => raise_sameOut ..)
  exact (allocPrepare_frame t0 s).sameOut.trans ⟨rfl, rfl, rfl⟩

theorem stepTray_sameOut (t : Nat) (s : State) : SameOut s (stepTray t s) :=
  .trans (.trans (.ite .refl (SameBut.sameOut (.edge ..))) (.foldl fun _ _ => raise_sameOut ..))
    (State.mapPhs_frame ..).sameOut

theorem settledTray_sameOut (t : Nat) (s : State) : SameOut s (settledTray t s) :=
  ((shareDecided_frame (t := t)).sameOut.trans decayed_frame.sameOut).trans (.ite (stepTray_sameOut ..) .refl)

theorem phasePeriod_sameOut (t0 t : Nat) (s : State) : SameOut s (phasePeriod t0 t s) := by
  by_cases hup : (s.link t).up = true
  · rw [phasePeriod_steps hup]
    exact (((settledTray_sameOut t s).trans seenTray_frame.sameOut).trans drivenTray_frame.sameOut).trans
      publishedTray_frame.sameOut
  · rw [phasePeriod, if_pos (Bool.eq_false_of_not_eq_true hup)]
    exact .refl

theorem markEdged_sameOut (t : Nat) (s : State) : SameOut s (markEdged t s) := .ite ⟨rfl, rfl, rfl⟩ .refl

theorem markCmds_sameOut (t t0 : Nat) (l : List (Nat × EdgeCmd)) (s : State) : SameOut s (markCmds t t0 l s) :=
  .trans (.foldl fun _ _ => (State.updPh_frame ..).sameOut) (markEdged_sameOut ..)

theorem edgeFrame_sameOut (t0 t : Nat) (s : State) : SameOut s (edgeFrame t0 t s) :=
  .ite .refl (.trans (State.sendPaddle_frame ..).sameOut (markCmds_sameOut ..))

theorem phaseChain_sameOut (t0 t : Nat) (s : State) : SameOut s (phaseChain t0 t s) :=
  (phasePeriod_sameOut ..).trans (edgeFrame_sameOut ..)

/-- What a period leaves of what may leave, up to the edge commands. -/
theorem periodPlaced_sameOut (s : State) : SameOut s (periodPlaced s) := by
  have hsampled : SameOut s (periodSampled s) :=
    ((periodBegun_sameOut s).trans (periodReady_frame ..).sameOut).trans cutStep_frame.sameOut
  exact (hsampled.trans (loopPeriod_sameOut ..)).trans (allocPeriod_sameOut ..)

/-! ### The commands marked -/

/-- A phase with its last command. -/
def Phase.told (c : EdgeCmd) (at_ : Nat) (x : Phase) : Phase := { x with cmd := some c, cmdAt := at_ }

/-- The commands of l recorded at the phases of tray t. -/
def tellAll (t at_ : Nat) (l : List (Nat × EdgeCmd)) (s : State) : State :=
  l.foldl (fun a e => a.updPh t e.1 (Phase.told e.2 at_)) s

theorem updPh_len (s : State) (t p : Nat) (f : Phase → Phase) :
    (s.updPh t p f).phases.length = s.phases.length ∧ (s.updPh t p f).nPh t = s.nPh t := by
  refine ⟨upd_length .., ?_⟩
  exact get_upd_field List.length (fun l => upd_length l p f) s.phases t t

/-- A phase that l names once holds the command of l. -/
theorem tellAll_ph {t p at_ : Nat} {c : EdgeCmd} : ∀ (l : List (Nat × EdgeCmd)) (s : State), t < s.phases.length →
    p < s.nPh t → (∀ e ∈ l, e.1 = p → e.2 = c) →
    ((∃ e ∈ l, e.1 = p) → (tellAll t at_ l s).ph t p = (s.ph t p).told c at_) ∧
      ((∀ e ∈ l, e.1 ≠ p) → (tellAll t at_ l s).ph t p = s.ph t p)
  | [], _, _, _, _ => ⟨fun ⟨_, h, _⟩ => (nomatch h), fun _ => rfl⟩
  | e :: l, s, ht, hp, huniq => by
    obtain ⟨hlen, hn⟩ := updPh_len s t e.1 (Phase.told e.2 at_)
    obtain ⟨hin, hout⟩ := tellAll_ph (at_ := at_) l (s.updPh t e.1 (Phase.told e.2 at_)) (hlen ▸ ht) (hn ▸ hp)
      fun d hd => huniq d (List.mem_cons_of_mem _ hd)
    have hcons : tellAll t at_ (e :: l) s = tellAll t at_ l (s.updPh t e.1 (Phase.told e.2 at_)) := rfl
    rw [hcons]
    by_cases he : e.1 = p
    · have hone : (s.updPh t e.1 (Phase.told e.2 at_)).ph t p = (s.ph t p).told c at_ := by
        rw [he, huniq e List.mem_cons_self he]
        exact State.ph_updPh_same _ _ _ _ ht hp
      refine ⟨fun _ => ?_, fun hnone => absurd he (hnone e List.mem_cons_self)⟩
      by_cases hl : ∃ d ∈ l, d.1 = p
      · rw [hin hl, hone]
        rfl
      · rw [hout fun d hd hdp => hl ⟨d, hd, hdp⟩, hone]
    · have hone : (s.updPh t e.1 (Phase.told e.2 at_)).ph t p = s.ph t p :=
        State.ph_updPh_other _ _ _ _ _ _ (.inr he)
      refine ⟨fun hmem => ?_, fun hnone => ?_⟩
      · obtain ⟨d, hd, hdp⟩ := hmem
        obtain rfl | hd := List.mem_cons.mp hd
        · exact absurd hdp he
        · rw [hin ⟨d, hd, hdp⟩, hone]
      · rw [hout fun d hd => hnone d (List.mem_cons_of_mem _ hd), hone]

theorem markCmds_phases (t t0 : Nat) (l : List (Nat × EdgeCmd)) (s : State) :
    (markCmds t t0 l s).phases = (tellAll t (t0 / 1000) l s).phases := by
  rw [markCmds, (markEdged_frame ..).phases_eq]
  rfl

/-- A changed command of a phase is the one its state asks for. -/
theorem changedCmds_wanted {s : State} {t : Nat} {e : Nat × EdgeCmd} (h : e ∈ changedCmds s t) :
    wantedCmd s.kDiv t e.1 (s.ph t e.1) = some e.2 := by
  obtain ⟨p, -, hp⟩ := List.mem_filterMap.mp h
  split at hp
  next c hc =>
    split at hp
    · cases hp
      exact hc
    · cases hp
  · cases hp

theorem changedCmds_mem {s : State} {t p : Nat} {c : EdgeCmd} (hp : p < s.nPh t)
    (hwant : wantedCmd s.kDiv t p (s.ph t p) = some c) (hnew : cmdChanged (s.ph t p).cmd c = true)
    (hmay : kindAllowed s t c.kind = true) : (p, c) ∈ changedCmds s t := by
  refine List.mem_filterMap.mpr ⟨p, List.mem_range.mpr hp, ?_⟩
  rw [hwant]
  dsimp only
  rw [hnew, hmay]
  rfl

theorem changedCmds_old {s : State} {t p : Nat} {c : EdgeCmd} (hwant : wantedCmd s.kDiv t p (s.ph t p) = some c)
    (hold : cmdChanged (s.ph t p).cmd c = false) : ∀ e ∈ changedCmds s t, e.1 ≠ p := by
  intro e he hep
  obtain ⟨q, -, hq⟩ := List.mem_filterMap.mp he
  split at hq
  next d hd =>
    split at hq
    next hgo =>
      cases hq
      subst hep
      rw [hwant] at hd
      cases hd
      rw [hold] at hgo
      cases hgo
    · cases hq
  · cases hq

/-! ### The frame of a tray -/

/-- A phase apart from what the edge engine notes of it. -/
def Phase.plan (x : Phase) : Phase := { x with cmd := none, cmdAt := 0 }

theorem upd_weights (l : List Phase) (p : Nat) {f : Phase → Phase} (hf : ∀ x, (f x).w = x.w) :
    (upd l p f).map (·.w) = l.map (·.w) := by
  refine List.ext_getElem? fun i => ?_
  rw [upd, List.getElem?_map, List.getElem?_modify, List.getElem?_map]
  cases l[i]? with
  | none => rfl
  | some x =>
    show some (if p = i then f x else x).w = some x.w
    split
    · rw [hf]
    · rfl

theorem tellAll_weights (t at_ : Nat) (l : List (Nat × EdgeCmd)) (s : State) :
    ((tellAll t at_ l s).phs t).map (·.w) = (s.phs t).map (·.w) :=
  foldl_keeps (fun u : State => (u.phs t).map (·.w) = (s.phs t).map (·.w)) _ l (fun u e hu =>
    (get_upd_field (fun l : List Phase => l.map (·.w))
      (fun l => upd_weights (f := Phase.told e.2 at_) l e.1 fun _ => rfl) u.phases t t).trans hu) s rfl

theorem told_plan (s : State) (t p q at_ : Nat) (c : EdgeCmd) :
    ((s.updPh t q (Phase.told c at_)).ph t p).plan = (s.ph t p).plan :=
  get_upd_field (fun l => (get Phase.reset l p).plan)
    (fun l => get_upd_field (f := Phase.told c at_) Phase.plan (by intro x; rfl) l q p) s.phases t t

theorem tellAll_plan (t p at_ : Nat) (l : List (Nat × EdgeCmd)) (s : State) :
    ((tellAll t at_ l s).ph t p).plan = (s.ph t p).plan :=
  foldl_keeps (fun u : State => (u.ph t p).plan = (s.ph t p).plan) _ l
    (fun u e hu => (told_plan u t p e.1 at_ e.2).trans hu) s rfl

section
variable (t0 t : Nat) (s : State)

/-- An EDGE frame changes what is noted of the commands, not the phases' laws. -/
theorem edgeFrame_law : (∀ p, ((edgeFrame t0 t s).ph t p).plan = (s.ph t p).plan) ∧
    ((edgeFrame t0 t s).phs t).map (·.w) = (s.phs t).map (·.w) ∧
    ((edgeFrame t0 t s).link t).vLink = (s.link t).vLink ∧ (edgeFrame t0 t s).tph = s.tph := by
  rw [edgeFrame]
  dsimp only
  split
  · exact ⟨fun _ => rfl, rfl, rfl, rfl⟩
  · generalize List.flatten _ = payload
    have hsend := State.sendPaddle_frame s t 0x01 payload
    have hlink : ((s.sendPaddle t 0x01 payload).link t).vLink = (s.link t).vLink := by
      rw [State.sendPaddle]
      split
      · rfl
      · refine (get_upd_field Link.vLink (by intro x; rfl) _ t t).trans ?_
        rw [State.link, (State.send_frame ..).links_eq]
    generalize s.sendPaddle t 0x01 payload = v at hsend hlink
    generalize changedCmds s t = l
    have hphases := markCmds_phases t t0 l v
    have hmark := markCmds_frame t t0 l v
    have hph : ∀ p, (markCmds t t0 l v).ph t p = (tellAll t (t0 / 1000) l v).ph t p := fun p => by
      rw [State.ph, State.ph, hphases]
    have hphs : (markCmds t t0 l v).phs t = (tellAll t (t0 / 1000) l v).phs t := by rw [State.phs, State.phs, hphases]
    have hown : ∀ p, v.ph t p = s.ph t p := fun p => by rw [State.ph, State.ph, hsend.phases_eq]
    refine ⟨fun p => by rw [hph, tellAll_plan, hown], ?_, ?_, by rw [hmark.tph_eq, hsend.tph_eq]⟩
    · rw [hphs, tellAll_weights, State.phs, State.phs, hsend.phases_eq]
    · rw [State.link, hmark.links_eq]
      exact hlink

end

/-- What the edge engine needs to send a command of tray t. -/
structure MaySend (t : Nat) (s : State) : Prop where
  up : (s.link t).up = true
  faultOut : s.fm.faultOut = false
  released : s.hw.released = false
  handover : s.pair.handover = none
  drives : s.drives = true

theorem sendPaddle_sends {t : Nat} {s : State} (h : MaySend t s) (payload : Bytes) :
    Tx.paddle t (paddleFrame 1 t (s.link t).txSeq payload) ∈ (s.sendPaddle t 0x01 payload).tx := by
  have hgo : ¬((s.fm.faultOut || s.pair.handover.isSome || ((0x01 : Nat) == 1 && !s.drives)) = true) := by
    rw [h.faultOut, h.handover, h.drives]
    exact Bool.noConfusion
  rw [State.sendPaddle, if_neg hgo, State.send_loud h.released]
  exact List.mem_append_right _ (List.mem_singleton_self _)

/-- The bytes of the commands of l, as the period's EDGE frame carries them. -/
def commandBytes (t0 t : Nat) (s : State) (l : List (Nat × EdgeCmd)) : Bytes :=
  (l.map fun e => edgeBytes s.kDiv t e.1 (t0 / 1000) (t0 + 900) (s.ph t e.1).r e.2).flatten

/-- The command a phase asks for is known to its stage, and is in the EDGE frame where it is a new one (R60, R61). -/
theorem edgeFrame_sends {t0 t p : Nat} {s : State} {c : EdgeCmd} (h : MaySend t s) (ht : t < s.phases.length)
    (hp : p < s.nPh t) (hwant : wantedCmd s.kDiv t p (s.ph t p) = some c) (honce : c.once = false)
    (hmay : kindAllowed s t c.kind = true) :
    ((edgeFrame t0 t s).ph t p).cmd = some c ∧ ((s.ph t p).cmd ≠ some c →
      ((edgeFrame t0 t s).ph t p).cmdAt = t0 / 1000 ∧ ∃ seq before after, Tx.paddle t (paddleFrame 1 t seq (before ++
        edgeBytes s.kDiv t p (t0 / 1000) (t0 + 900) (s.ph t p).r c ++ after)) ∈ (edgeFrame t0 t s).tx) := by
  by_cases hnew : cmdChanged (s.ph t p).cmd c = true
  · have hmem := changedCmds_mem hp hwant hnew hmay
    have huniq : ∀ e ∈ changedCmds s t, e.1 = p → e.2 = c := by
      rintro e he rfl
      exact Option.some.inj ((changedCmds_wanted he).symm.trans hwant)
    have hgo : ¬((s.link t).up = false ∨ changedCmds s t = [] ∨ s.fm.faultOut = true) := by
      rw [h.up, h.faultOut]
      rintro (hup | hnil | hfo)
      · cases hup
      · rw [hnil] at hmem
        cases hmem
      · cases hfo
    rw [edgeFrame]
    dsimp only
    rw [if_neg hgo]
    generalize hpay : List.flatten _ = payload
    have hsent := sendPaddle_sends h payload
    have hsend := State.sendPaddle_frame s t 0x01 payload
    generalize s.sendPaddle t 0x01 payload = v at hsent hsend
    have hown : v.ph t p = s.ph t p := by rw [State.ph, State.ph, hsend.phases_eq]
    have htold : (markCmds t t0 (changedCmds s t) v).ph t p = (s.ph t p).told c (t0 / 1000) := by
      rw [State.ph, markCmds_phases, ← hown]
      refine (tellAll_ph _ v (by rw [hsend.phases_eq]; exact ht) ?_ huniq).1 ⟨_, hmem, rfl⟩
      rw [State.nPh, State.phs, hsend.phases_eq]
      exact hp
    obtain ⟨l, m, hl⟩ := List.append_of_mem hmem
    rw [htold]
    refine ⟨rfl, fun _ => ⟨rfl, (s.link t).txSeq, commandBytes t0 t s l, commandBytes t0 t s m, ?_⟩⟩
    rw [commandBytes, commandBytes]
    rw [hl, List.map_append, List.map_cons, List.flatten_append, List.flatten_cons, ← List.append_assoc] at hpay
    rw [(markCmds_frame ..).tx_eq, hpay]
    exact hsent
  · have hold : cmdChanged (s.ph t p).cmd c = false := Bool.eq_false_of_not_eq_true hnew
    have hsame : (s.ph t p).cmd = some c := by
      unfold cmdChanged at hold
      split at hold
      next o ho =>
        rw [honce, Bool.false_or, decide_eq_false_iff_not, not_not] at hold
        rw [ho, hold]
      · cases hold
    refine ⟨?_, fun hne => absurd hsame hne⟩
    have hnone := changedCmds_old hwant hold
    rw [edgeFrame]
    dsimp only
    split
    · exact hsame
    · generalize List.flatten _ = payload
      have hsend := State.sendPaddle_frame s t 0x01 payload
      generalize s.sendPaddle t 0x01 payload = v at hsend
      have hown : v.ph t p = s.ph t p := by rw [State.ph, State.ph, hsend.phases_eq]
      rw [State.ph, markCmds_phases]
      refine (congrArg Phase.cmd ((tellAll_ph (c := c) _ v (by rw [hsend.phases_eq]; exact ht) ?_ fun e he hep =>
        absurd hep (hnone e he)).2 hnone)).trans (by rw [hown, hsame])
      rw [State.nPh, State.phs, hsend.phases_eq]
      exact hp

end Sys2Proof.Machine
end

section
/-! SUPPORT. Proof: one tray's phases through one control period (03_phases_and_edges.md: Phase current and the phase law,
Edge generation). -/

namespace Sys2Proof.Machine

set_option Elab.async false

/-! ### What other trays leave of a tray -/

/-- Tray t's phases, its manager and its link are as they were; what has left has left. -/
structure KeepsTray (t : Nat) (s u : State) : Prop where
  phs : u.phs t = s.phs t
  tp : u.tp t = s.tp t
  link : u.link t = s.link t
  sent : ∀ x ∈ s.tx, x ∈ u.tx

namespace KeepsTray
variable {t k : Nat} {s u w : State}

theorem refl : KeepsTray t s s := ⟨rfl, rfl, rfl, fun _ h => h⟩

theorem trans (h : KeepsTray t s u) (h' : KeepsTray t u w) : KeepsTray t s w :=
  ⟨h'.phs.trans h.phs, h'.tp.trans h.tp, h'.link.trans h.link, fun x hx => h'.sent x (h.sent x hx)⟩

theorem ite {c : Prop} [Decidable c] (h : KeepsTray t s u) (h' : KeepsTray t s w) :
    KeepsTray t s (if c then u else w) := by
  split
  · exact h
  · exact h'

theorem of_same {l : List Part} (h : SameBut l s u) (hphases : .phases ∉ l := by decide) (htph : .tph ∉ l := by decide)
    (hlinks : .links ∉ l := by decide) (htx : .tx ∉ l := by decide) : KeepsTray t s u :=
  ⟨by rw [State.phs, State.phs, h.phases_eq hphases], by rw [State.tp, State.tp, h.tph_eq htph],
    by rw [State.link, State.link, h.links_eq hlinks], fun x hx => by rwa [h.tx_eq htx]⟩

/-- A change of another tray's phases. -/
theorem updPhases (hk : k ≠ t) (s : State) (f : List Phase → List Phase) :
    KeepsTray t s { s with phases := upd s.phases k f } :=
  ⟨get_upd_other _ _ _ _ _ hk, rfl, rfl, fun _ h => h⟩

theorem updTp (hk : k ≠ t) (s : State) (f : TrayPh → TrayPh) : KeepsTray t s (s.updTp k f) :=
  ⟨rfl, get_upd_other _ _ _ _ _ hk, rfl, fun _ h => h⟩

end KeepsTray

section
variable {t k t0 : Nat} (hk : k ≠ t) (s : State)

include hk

theorem mapPhs_keepsTray (f : Nat → Phase → Phase) : KeepsTray t s (s.mapPhs k f) := .updPhases hk s _

theorem shareDecided_keepsTray : KeepsTray t s (shareDecided k s) :=
  .ite (.ite (.trans (.updPhases hk s _) (.updTp hk _ _)) .refl) (.updTp hk s _)

theorem stepTray_keepsTray : KeepsTray t s (stepTray k s) := by
  rw [stepTray]
  refine .trans (.of_same (l := [.fm, .edge]) ?_) (mapPhs_keepsTray hk _ _)
  exact .trans (.ite .refl (.mono (.edge ..))) (.foldl fun _ _ => .mono (State.raise_frame ..))

theorem settledTray_keepsTray : KeepsTray t s (settledTray k s) :=
  ((shareDecided_keepsTray hk s).trans (mapPhs_keepsTray hk _ _)).trans (.ite (stepTray_keepsTray hk _) .refl)

theorem seenTray_keepsTray (ir rT : Rat) : KeepsTray t s (seenTray k ir rT s) :=
  ((mapPhs_keepsTray hk s _).trans (.ite (mapPhs_keepsTray hk _ _) .refl)).trans (mapPhs_keepsTray hk _ _)

theorem drivenTray_keepsTray (vs vb : Rat) : KeepsTray t s (drivenTray t0 k vs vb s) :=
  .ite (mapPhs_keepsTray hk s _) .refl

theorem publishedTray_keepsTray (rT : Rat) : KeepsTray t s (publishedTray t0 k rT s) :=
  ((KeepsTray.updTp hk s _).trans (.updTp hk _ _)).trans (.updTp hk _ _)

theorem phasePeriod_keepsTray : KeepsTray t s (phasePeriod t0 k s) := by
  by_cases hup : (s.link k).up = true
  · rw [phasePeriod_steps hup]
    exact (((settledTray_keepsTray hk s).trans (seenTray_keepsTray hk _ _ _)).trans
      (drivenTray_keepsTray hk _ _ _)).trans (publishedTray_keepsTray hk _ _)
  · rw [phasePeriod, if_pos (Bool.eq_false_of_not_eq_true hup)]
    exact .refl

theorem tellAll_keepsTray (at_ : Nat) (l : List (Nat × EdgeCmd)) : KeepsTray t s (tellAll k at_ l s) :=
  foldl_keeps (KeepsTray t s) _ l (fun _ _ h => h.trans (.updPhases hk _ _)) s .refl

theorem sendPaddle_keepsTray (typ : Nat) (d : Bytes) : KeepsTray t s (s.sendPaddle k typ d) := by
  rw [State.sendPaddle]
  refine .ite .refl ?_
  have hs := State.send_frame s (.paddle k (paddleFrame typ k (s.link k).txSeq d))
  have hsent := (send_emits s (.paddle k (paddleFrame typ k (s.link k).txSeq d))).sent
  generalize s.send _ = v at hs hsent
  exact ⟨by rw [State.phs, State.phs, ← hs.phases_eq]; rfl, by rw [State.tp, State.tp, ← hs.tph_eq]; rfl,
    by rw [State.link_updLink_other _ _ _ _ hk, State.link, State.link, hs.links_eq], hsent⟩

theorem markCmds_keepsTray (l : List (Nat × EdgeCmd)) : KeepsTray t s (markCmds k t0 l s) :=
  (tellAll_keepsTray hk s (t0 / 1000) l).trans (.of_same (markEdged_frame ..))

theorem edgeFrame_keepsTray : KeepsTray t s (edgeFrame t0 k s) :=
  .ite .refl ((sendPaddle_keepsTray hk s _ _).trans (markCmds_keepsTray hk _ _))

theorem phaseChain_keepsTray : KeepsTray t s (phaseChain t0 k s) :=
  (phasePeriod_keepsTray hk s).trans (edgeFrame_keepsTray hk _)

end

/-- In a fold over the trays, tray t's own turn stands between those of the others. -/
theorem forTrays_turn {f : Nat → State → State} {t : Nat} (ht : t < Config.trays) {R : State → State → Prop}
    (hrefl : ∀ s, R s s) (htrans : ∀ s u w, R s u → R u w → R s w) (hf : ∀ k s, k ≠ t → R s (f k s)) (s : State) :
    ∃ a, R s a ∧ R (f t a) (forTrays f s) := by
  obtain ⟨l, m, hl⟩ := List.append_of_mem (List.mem_range.mpr ht)
  have hnodup : (l ++ t :: m).Nodup := hl ▸ List.nodup_range
  have hout : ∀ x, x ∈ l ∨ x ∈ m → x ≠ t := by
    rintro x hx rfl
    have hcount := List.nodup_iff_count_le_one.mp hnodup x
    rw [List.count_append, List.count_cons_self] at hcount
    obtain hx | hx := hx
    · have := List.count_pos_iff.mpr hx
      omega
    · have := List.count_pos_iff.mpr hx
      omega
  refine ⟨l.foldl (fun a t => f t a) s, ?_, ?_⟩
  · exact List.foldlRecOn _ _ (hrefl s) fun u hu k hk => htrans _ _ _ hu (hf k u (hout k (.inl hk)))
  · rw [forTrays, hl, List.foldl_append, List.foldl_cons]
    exact List.foldlRecOn _ _ (hrefl _) fun u hu k hk => htrans _ _ _ hu (hf k u (hout k (.inr hk)))

end Sys2Proof.Machine
end

section
/-! SUPPORT. Proof: the law of one phase through its tray's turn of a control period (03_phases_and_edges.md: Phase current
and the phase law, Edge generation). -/

namespace Sys2Proof.Machine

set_option Elab.async false

namespace SameBut
variable {l : List Part} {s u : State} (h : SameBut l s u)

include h

theorem kDiv_eq (hod : .od ∉ l := by decide) : u.kDiv = s.kDiv := h.cfgU_eq _ _ hod

theorem dutyLo_eq (hod : .od ∉ l := by decide) : dutyLo u = dutyLo s := by
  rw [dutyLo, dutyLo, h.cfgU_eq _ _ hod, h.cfgU_eq _ _ hod, h.kDiv_eq hod]

theorem iLim_eq (t : Nat) (hod : .od ∉ l := by decide) (hlinks : .links ∉ l := by decide) : u.iLim t = s.iLim t := by
  rw [State.iLim, State.iLim, State.link, State.link, h.links_eq hlinks, State.iPhR, State.iPhR, h.cfgB_eq _ _ hod]

end SameBut

section
variable {s : State} {t t0 p : Nat} (hup : (s.link t).up = true) (hshare : (s.tp t).share = true)

include hshare in
theorem settledTray_tphLt : t < (settledTray t s).tph.length := by
  have ht : t < s.tph.length := lt_of_get_ne (d := TrayPh.reset) fun hd => by
    rw [State.tp, hd] at hshare
    cases hshare
  have hs : SameBut [.fm, .phases, .edge] (shareDecided t s) (settledTray t s) :=
    .step (.mono decayed_frame) loadStepped_frame
  rw [hs.tph_eq, shareDecided]
  split
  · rw [if_neg (by rw [hshare]; exact fun h => Bool.noConfusion h.1)]
    exact ht
  · exact lt_of_lt_of_eq ht (upd_length ..).symm

/-- The tray as its phases are about to be driven. -/
def readyTray (t : Nat) (s : State) : State := seenTray t (s.iPhR t) (trayRef s t) (settledTray t s)

theorem readyTray_frame : SameBut [.fm, .phases, .tph, .edge] s (readyTray t s) :=
  .step settledTray_frame seenTray_frame

include hshare in
theorem readyTray_x : ((readyTray t s).tp t).x = (s.tp t).x := by
  rw [readyTray, State.tp, seenTray_frame.tph_eq]
  exact (settledTray_tp hshare).1

/-- A phase that runs as its duty is about to be set: it has its reference and sees its current, or is in a snub. -/
theorem readyTray_ph (hshare : (s.tp t).share = true) (h : (s.ph t p).runs) :
    (∃ j, (readyTray t s).ph t p = { refOf t (trayRef s t) (settledTray t s) (s.ph t p) with i := j }) ∨
      s.cfgU 0x2200 0x07 = 1 ∧ ((readyTray t s).ph t p).st = .snub := by
  obtain ⟨ht, hp⟩ := Phase.runs_lt h
  have hsame := settledTray_same hshare h
  have hcfg : (settledTray t s).cfgU 0x2200 0x07 = s.cfgU 0x2200 0x07 := settledTray_frame.cfgU_eq ..
  have hseen := seenTray_ph (s := settledTray t s) (ir := s.iPhR t) (rT := trayRef s t) (hsame.len ▸ ht) (hsame.nPh ▸ hp)
  rw [hsame.ph, hcfg] at hseen
  exact hseen

/-- The reference of a phase whose tray's blend is over (R53). -/
theorem refOf_r {q : State} {x : Phase} {rT : Rat} (hblend : (q.tp t).blend = 0) :
    (refOf t rT q x).r = if sumQ ((q.phs t).map (·.w)) = 0 then 0 else
      clampQ (-q.iLim t) (q.iLim t) (rT * x.w / sumQ ((q.phs t).map (·.w))) := by
  rw [refOf, hblend, phaseRef]
  dsimp only
  rw [Nat.cast_zero, zero_div, zero_mul, zero_add, sub_zero, one_mul]

include hup hshare

/-- The phase once it is driven. -/
theorem phasePeriod_ph (h : (s.ph t p).runs) : (phasePeriod t0 t s).ph t p =
    if 0 < s.loop.vBus then
      drivePhase (readyTray t s) t t0 (s.link t).vLink s.loop.vBus p ((readyTray t s).ph t p)
    else (readyTray t s).ph t p := by
  obtain ⟨ht, hp⟩ := Phase.runs_lt h
  have hsame := settledTray_same hshare h
  have hlen : (readyTray t s).phases.length = s.phases.length := seenTray_len.1.trans hsame.len
  have hn : (readyTray t s).nPh t = s.nPh t := seenTray_len.2.trans hsame.nPh
  have hsteps : phasePeriod t0 t s = publishedTray t0 t (trayRef s t)
      (drivenTray t0 t (s.link t).vLink s.loop.vBus (readyTray t s)) := phasePeriod_steps hup
  rw [hsteps, State.ph, publishedTray_frame.phases_eq, drivenTray]
  split
  · exact ph_mapPhs _ (hlen ▸ ht) (hn ▸ hp)
  · rfl

/-- The tray has as many phases after its manager's period, with the weights they have. -/
theorem phasePeriod_tray (h : (s.ph t p).runs) : t < (phasePeriod t0 t s).phases.length ∧
    p < (phasePeriod t0 t s).nPh t ∧
    ((phasePeriod t0 t s).phs t).map (·.w) = ((settledTray t s).phs t).map (·.w) := by
  obtain ⟨ht, hp⟩ := Phase.runs_lt h
  have hsame := settledTray_same hshare h
  have hsteps : phasePeriod t0 t s = publishedTray t0 t (trayRef s t)
      (drivenTray t0 t (s.link t).vLink s.loop.vBus (readyTray t s)) := phasePeriod_steps hup
  have hphases : (phasePeriod t0 t s).phases =
      (drivenTray t0 t (s.link t).vLink s.loop.vBus (readyTray t s)).phases := by
    rw [hsteps, publishedTray_frame.phases_eq]
  have hready : (readyTray t s).phases.length = s.phases.length ∧ (readyTray t s).nPh t = s.nPh t :=
    ⟨seenTray_len.1.trans hsame.len, seenTray_len.2.trans hsame.nPh⟩
  have hdriven : (drivenTray t0 t (s.link t).vLink s.loop.vBus (readyTray t s)).phases.length =
      (readyTray t s).phases.length ∧
      (drivenTray t0 t (s.link t).vLink s.loop.vBus (readyTray t s)).nPh t = (readyTray t s).nPh t ∧
      ((drivenTray t0 t (s.link t).vLink s.loop.vBus (readyTray t s)).phs t).map (·.w) =
        ((readyTray t s).phs t).map (·.w) := by
    rw [drivenTray]
    split
    · exact ⟨mapPhs_len .., nPh_mapPhs .., mapPhs_weights (fun _ _ => (drivePhase_keeps ..).w) _ t⟩
    · exact ⟨rfl, rfl, rfl⟩
  refine ⟨?_, ?_, ?_⟩
  · rw [hphases, hdriven.1, hready.1]
    exact ht
  · rw [State.nPh, State.phs, hphases]
    exact lt_of_lt_of_eq hp (hready.2.symm.trans hdriven.2.1.symm)
  · rw [State.phs, hphases]
    exact hdriven.2.2.trans seenTray_weights

/-- What its manager publishes of the tray. -/
theorem phasePeriod_tp : ((phasePeriod t0 t s).tp t).rTray = trayRef s t ∧
    ((phasePeriod t0 t s).tp t).x = (s.tp t).x := by
  have hsteps : phasePeriod t0 t s = publishedTray t0 t (trayRef s t)
      (drivenTray t0 t (s.link t).vLink s.loop.vBus (readyTray t s)) := phasePeriod_steps hup
  have htph : (drivenTray t0 t (s.link t).vLink s.loop.vBus (readyTray t s)).tph = (readyTray t s).tph :=
    drivenTray_frame.tph_eq
  have hlen : t < (drivenTray t0 t (s.link t).vLink s.loop.vBus (readyTray t s)).tph.length := by
    rw [htph, readyTray, seenTray_frame.tph_eq]
    exact settledTray_tphLt hshare
  have hx : ((drivenTray t0 t (s.link t).vLink s.loop.vBus (readyTray t s)).tp t).x = (s.tp t).x := by
    rw [State.tp, htph]
    exact readyTray_x hshare
  rw [hsteps]
  generalize drivenTray t0 t (s.link t).vLink s.loop.vBus (readyTray t s) = v at hlen hx
  rw [publishedTray, publishCapacity, shedTrack]
  refine ⟨?_, ?_⟩
  · refine (State.tp_updTp_field TrayPh.rTray (by intro x; rfl) _ t t).trans
      ((State.tp_updTp_field TrayPh.rTray (by intro x; rfl) _ t t).trans ?_)
    exact congrArg TrayPh.rTray (State.tp_updTp_same v t _ hlen)
  · refine (State.tp_updTp_field TrayPh.x (by intro x; rfl) _ t t).trans
      ((State.tp_updTp_field TrayPh.x (by intro x; rfl) _ t t).trans ?_)
    exact (State.tp_updTp_field TrayPh.x (by intro x; rfl) v t t).trans hx

theorem phasePeriod_plan (h : (s.ph t p).runs) :
    SamePlan ((readyTray t s).ph t p) ((phasePeriod t0 t s).ph t p) := by
  rw [phasePeriod_ph hup hshare h]
  split
  · exact drivePhase_keeps ..
  · exact ⟨rfl, rfl, rfl, rfl, rfl, rfl, rfl⟩

/-- A phase that runs on after its manager's period has its reference, and no snub has taken it. -/
theorem readyTray_runs (h : (s.ph t p).runs) (hon : ((phasePeriod t0 t s).ph t p).runs) :
    ∃ j, (readyTray t s).ph t p = { refOf t (trayRef s t) (settledTray t s) (s.ph t p) with i := j } := by
  have hplan := phasePeriod_plan (t0 := t0) hup hshare h
  refine (readyTray_ph hshare h).resolve_right fun hsnub => ?_
  rw [Phase.runs, hplan.st, hsnub.2] at hon
  exact hon.elim nofun nofun

/-! ### RUN -/

theorem phasePeriod_run_st (hst : (s.ph t p).st = .run) (hoff : s.cfgU 0x2200 0x07 ≠ 1) :
    ((phasePeriod t0 t s).ph t p).st = .run := by
  have hplan := phasePeriod_plan (t0 := t0) hup hshare (.inl hst)
  obtain ⟨j, hj⟩ := (readyTray_ph hshare (.inl hst)).resolve_right fun h => hoff h.1
  rw [hplan.st, hj]
  exact hst

theorem phasePeriod_run_r (hst : (s.ph t p).st = .run) (hblend : (s.tp t).blend = 0)
    (hon : ((phasePeriod t0 t s).ph t p).st = .run) :
    ((phasePeriod t0 t s).ph t p).r = (if sumQ (((phasePeriod t0 t s).phs t).map (·.w)) = 0 then 0 else
      clampQ (-s.iLim t) (s.iLim t) (((phasePeriod t0 t s).tp t).rTray * ((phasePeriod t0 t s).ph t p).w /
        sumQ (((phasePeriod t0 t s).phs t).map (·.w)))) := by
  have hplan := phasePeriod_plan (t0 := t0) hup hshare (.inl hst)
  obtain ⟨j, hj⟩ := readyTray_runs hup hshare (.inl hst) (.inl hon)
  obtain ⟨-, -, hweights⟩ := phasePeriod_tray (t0 := t0) hup hshare (p := p) (.inl hst)
  have hsettled : ((settledTray t s).tp t).blend = 0 := (settledTray_tp hshare).2.trans hblend
  have hlim : (settledTray t s).iLim t = s.iLim t := settledTray_frame.iLim_eq t
  rw [hplan.r, hplan.w, hj, hweights, (phasePeriod_tp hup hshare).1, ← hlim]
  exact refOf_r hsettled

theorem phasePeriod_run_d (hst : (s.ph t p).st = .run) (hfresh : (s.ph t p).fresh = false)
    (hon : ((phasePeriod t0 t s).ph t p).st = .run) (hv : 0 < s.loop.vBus) :
    ((phasePeriod t0 t s).ph t p).d = clampQ (dutyLo s) (1 - dutyLo s) (get 0 s.loop.m t -
      (s.cfgB (0x2100 + t) 0x09 * (((phasePeriod t0 t s).ph t p).r - ((phasePeriod t0 t s).ph t p).i) +
        ((phasePeriod t0 t s).tp t).x + ((phasePeriod t0 t s).ph t p).b) / s.loop.vBus) := by
  have hplan := phasePeriod_plan (t0 := t0) hup hshare (.inl hst)
  obtain ⟨j, hj⟩ := readyTray_runs hup hshare (.inl hst) (.inl hon)
  have hyst : ((readyTray t s).ph t p).st = .run := hplan.st ▸ hon
  have hyfresh : ((readyTray t s).ph t p).fresh = false := by
    rw [hj]
    exact hfresh
  have hready := readyTray_frame (s := s) (t := t)
  have hlaw := drivePhase_run (s := readyTray t s) (t := t) (t0 := t0) (p := p) (vs := (s.link t).vLink)
    (vb := s.loop.vBus) hyst hyfresh
  rw [hready.dutyLo_eq, hready.loop_eq, hready.cfgB_eq, readyTray_x hshare] at hlaw
  rw [hplan.r, hplan.i, hplan.b, (phasePeriod_tp hup hshare).2, phasePeriod_ph hup hshare (.inl hst), if_pos hv]
  exact hlaw

/-! ### DE -/

/-- The on-time of a phase in DE as its period leaves it (R64). -/
def onTime (t p : Nat) (s : State) (z : Phase) : Rat :=
  deOnTime (s.cfgB (0x2100 + t) (0x17 + 8 * p)) (2 * s.kDiv : Nat) (z.r + z.ei) z.lowSide (s.link t).vLink s.loop.vBus

theorem phasePeriod_de (hst : (s.ph t p).st = .de) (hon : ((phasePeriod t0 t s).ph t p).st = .de)
    (hv : 0 < s.loop.vBus) : ((readyTray t s).ph t p).onceOn = (s.ph t p).onceOn ∧
    (phasePeriod t0 t s).ph t p = dePulse (s.cfgB (0x2100 + t) (0x17 + 8 * p)) (2 * s.kDiv : Nat)
      (s.cfgU 0x2200 0x04 : Nat) (s.link t).vLink s.loop.vBus (slotIn s.kDiv t p t0) ((readyTray t s).ph t p) ∧
    onTime t p s ((phasePeriod t0 t s).ph t p) = onTime t p s ((readyTray t s).ph t p) := by
  have hplan := phasePeriod_plan (t0 := t0) hup hshare (.inr hst)
  obtain ⟨j, hj⟩ := readyTray_runs hup hshare (.inr hst) (.inr hon)
  have hready := readyTray_frame (s := s) (t := t)
  have hlow : ((phasePeriod t0 t s).ph t p).lowSide = ((readyTray t s).ph t p).lowSide := by
    rw [Phase.lowSide, Phase.lowSide, hplan.r, hplan.ei]
  refine ⟨by rw [hj]; rfl, ?_, by rw [onTime, onTime, hplan.r, hplan.ei, hlow]⟩
  rw [phasePeriod_ph hup hshare (.inr hst), if_pos hv, drivePhase_de (hplan.st ▸ hon), hready.cfgB_eq, hready.kDiv_eq,
    hready.cfgU_eq]

end

section
variable {l q tmin vs vb : Rat} {slot : Bool} {x : Phase}

theorem dePulse_long (h : tmin ≤ deOnTime l q (x.r + x.ei) x.lowSide vs vb) :
    (dePulse l q tmin vs vb slot x).deOn = deOnTime l q (x.r + x.ei) x.lowSide vs vb ∧
      (dePulse l q tmin vs vb slot x).onceOn = false := by
  rw [dePulse]
  dsimp only
  rw [if_pos h]
  exact ⟨rfl, rfl⟩

/-- A pulse below the minimum is flagged once; the first slot has one. -/
theorem dePulse_short (h : deOnTime l q (x.r + x.ei) x.lowSide vs vb < tmin) :
    (dePulse l q tmin vs vb slot x).onceOn = true ∧
      ((dePulse l q tmin vs vb slot x).deOn = 0 ∨ (dePulse l q tmin vs vb slot x).deOn = tmin) ∧
      (x.onceOn = false → slot = true → (dePulse l q tmin vs vb slot x).deOn = tmin) := by
  rw [dePulse]
  dsimp only
  rw [if_neg (not_le.mpr h)]
  obtain ⟨a, ha⟩ : ∃ a, (if slot = true then (if x.onceOn = true then x.acc else 1) +
    deOnTime l q (x.r + x.ei) x.lowSide vs vb / tmin * (deOnTime l q (x.r + x.ei) x.lowSide vs vb / tmin)
      else if x.onceOn = true then x.acc else 1) = a := ⟨_, rfl⟩
  have hfirst : x.onceOn = false → slot = true → 1 ≤ a := by
    intro honce hslot
    rw [hslot, honce, if_pos rfl, if_neg Bool.false_ne_true] at ha
    rw [← ha]
    exact le_add_of_nonneg_right (mul_self_nonneg _)
  rw [ha]
  split
  · exact ⟨rfl, .inr rfl, fun _ _ => rfl⟩
  next hno => exact ⟨rfl, .inl rfl, fun honce hslot => absurd ⟨hslot, hfirst honce hslot⟩ hno⟩

end

/-- What a phase that stays in DE leaves of its pulse (R64, R65). -/
theorem phasePeriod_de_pulse {s : State} {t t0 p : Nat} (hup : (s.link t).up = true) (hshare : (s.tp t).share = true)
    (hst : (s.ph t p).st = .de) (hon : ((phasePeriod t0 t s).ph t p).st = .de) (hv : 0 < s.loop.vBus) :
    let z := (phasePeriod t0 t s).ph t p
    let on := onTime t p s z
    ((s.cfgU 0x2200 0x04 : Rat) ≤ on → z.deOn = on ∧ z.onceOn = false) ∧
      (on < (s.cfgU 0x2200 0x04 : Rat) → z.onceOn = true ∧ (z.deOn = 0 ∨ z.deOn = (s.cfgU 0x2200 0x04 : Rat)) ∧
        ((s.ph t p).onceOn = false → slotIn s.kDiv t p t0 = true → z.deOn = (s.cfgU 0x2200 0x04 : Rat))) := by
  obtain ⟨honce, hz, htime⟩ := phasePeriod_de hup hshare hst hon hv
  intro z on
  have hon' : on = onTime t p s ((readyTray t s).ph t p) := htime
  refine ⟨fun hlong => ?_, fun hshort => ?_⟩
  · rw [hon'] at hlong ⊢
    rw [show z = _ from hz]
    exact dePulse_long hlong
  · rw [hon'] at hshort
    rw [show z = _ from hz, ← honce]
    exact dePulse_short hshort

end Sys2Proof.Machine
end

section
/-! SUPPORT. Proof: a tray's turn within one whole control period (03_phases_and_edges.md: Phase current and the phase law,
Edge generation). -/

namespace Sys2Proof.Machine

set_option Elab.async false

/-! ### A tray's pin and state -/

/-- The first-break pin and the state of a tray. -/
def Tray.seat (x : Tray) : Bool × TraySt := (x.pin, x.st)

theorem get_mapIdx_seat {f : Nat → Tray → Tray} (hf : ∀ t x, (f t x).seat = x.seat) (l : List Tray) (t : Nat) :
    (get Tray.reset (l.mapIdx f) t).seat = (get Tray.reset l t).seat := by
  rw [get, get, List.getD_eq_getElem?_getD, List.getD_eq_getElem?_getD, List.getElem?_mapIdx]
  cases l[t]? with
  | none => rfl
  | some x => exact hf t x

theorem admitNext_seat (s : State) (t0 : Nat) (linked : Bool) (x : Tray) : (admitNext s t0 linked x).seat = x.seat := by
  obtain ⟨y, hy⟩ : ∃ y, (if x.q = x.qTarget then x else { x with q := stepToward x.q x.qTarget x.qStep }) = y := ⟨_, rfl⟩
  have hseat : y.seat = x.seat := by
    rw [← hy]
    split
    · rfl
    · rfl
  rw [admitNext, hy]
  split
  · split
    · exact hseat
    · exact hseat
  · split
    · exact hseat
    · exact hseat
  · exact hseat

theorem limitNext_seat (s : State) (t : Nat) (x : Tray) : (limitNext s t x).seat = x.seat := by
  rw [limitNext]
  split
  · rfl
  · rfl

theorem allocPrepare_seat (t0 : Nat) (s : State) {t : Nat} (ht : t < Config.trays) :
    ((allocPrepare t0 s).tray t).seat = (s.tray t).seat := by
  have hlimit : ∀ v : State, (get Tray.reset (limitTrays v) t).seat = (v.tray t).seat := by
    intro v
    rw [limitTrays, get_range_map _ _ ht]
    split
    · exact limitNext_seat ..
    · rfl
  have hweigh : ∀ (v : State) (mean : Rat), (get Tray.reset (weighTrays mean v) t).seat = (v.tray t).seat := by
    intro v mean
    rw [weighTrays, get_range_map _ _ ht]
    split
    · rfl
    · rfl
  have hadmit : ∀ v : State, (get Tray.reset (v.trays.mapIdx fun t x => admitNext v t0 (v.link t).up x) t).seat =
      (v.tray t).seat := fun v => get_mapIdx_seat (fun _ _ => admitNext_seat ..) _ _
  rw [allocPrepare]
  exact (hweigh _ _).trans ((hlimit _).trans (hadmit { s with alloc := { s.alloc with
    set := (List.range Config.trays).map (setMember s) } }))

theorem allocPeriod_seat (t0 : Nat) (s : State) {t : Nat} (ht : t < Config.trays) :
    ((allocPeriod t0 s).tray t).seat = (s.tray t).seat := by
  rw [State.tray, allocPeriod_trays, get_range_map _ _ ht, ← allocPrepare_seat t0 s ht]
  rfl

theorem ingestPeriod_seat (t0 : Nat) (v : List (Nat × Nat)) (s : State) (t : Nat) :
    ((ingestPeriod t0 v s).tray t).seat = (s.tray t).seat := by
  have hone : ((ingestPeriod t0 v s).tray t).seat = ((ingest t0 s).tray t).seat := by
    rw [ingestPeriod]
    dsimp only
    split
    · rfl
    · rfl
  have htwo : ∀ m, (get Tray.reset (s.trays.mapIdx fun t x => { x with iBus := busSide s m t }) t).seat = (s.tray t).seat :=
    fun m => get_mapIdx_seat (by intro _ _; rfl) _ _
  rw [hone, ingest]
  dsimp only
  split
  · exact htwo _
  · exact htwo _

theorem periodPlaced_seat (s : State) {t : Nat} (ht : t < Config.trays) :
    ((periodPlaced s).tray t).seat = (s.tray t).seat := by
  have hsampled := periodSampled_frame s
  have hloop : ((loopPeriod (nextPeriod s) (periodSampled s)).tray t).seat = ((periodSampled s).tray t).seat := by
    rw [State.tray, (loopPeriod_frame ..).trays_eq]
    rfl
  rw [periodPlaced, allocPeriod_seat _ _ ht, hloop, State.tray, hsampled.trays_eq]
  refine (ingestPeriod_seat ..).trans ?_
  rw [State.tray, (periodBegun_frame s).trays_eq]
  rfl

/-! ### The turn -/

/-- a is the state in which tray t has its turn of the period from s that ends in u. -/
structure Turn (t : Nat) (s a u : State) : Prop where
  phs : a.phs t = s.phs t
  tp : a.tp t = s.tp t
  link : a.link t = s.link t
  seat : (a.tray t).seat = (s.tray t).seat
  cfgU : ∀ i j, a.cfgU i j = s.cfgU i j
  hw : a.hw = s.hw
  out : SameOut s a
  endPhs : u.phs t = (phaseChain u.now t a).phs t
  endTp : u.tp t = (phaseChain u.now t a).tp t
  endLink : u.link t = (phaseChain u.now t a).link t
  endSent : ∀ x ∈ (phaseChain u.now t a).tx, x ∈ u.tx
  endV : u.loop.vBus = a.loop.vBus
  endM : u.loop.m = a.loop.m
  endCfgU : ∀ i j, u.cfgU i j = s.cfgU i j

/-- What the state with the currents placed has of the state before the period. -/
theorem periodPlaced_frame (s : State) : SameBut [.freeCount, .now, .tx, .od, .fm, .loop, .feed, .cap, .trays, .edge, .tide,
    .alloc] s (periodPlaced s) :=
  .step (.step (.step (.mono (periodReady_begun ..)) cutStep_frame) (loopPeriod_frame ..)) (allocPeriod_frame ..)

theorem periodPlaced_cfgU (s : State) (i j : Nat) : (periodPlaced s).cfgU i j = s.cfgU i j := by
  have hs : SameBut [.fm, .loop, .feed, .trays, .edge, .tide, .alloc] (periodBegun s) (periodPlaced s) :=
    .step (.step (.step (.mono (periodReady_frame ..)) cutStep_frame) (loopPeriod_frame ..)) (allocPeriod_frame ..)
  rw [hs.cfgU_eq, State.cfgU, State.cfgU, (periodBegun_now s).2.1]

theorem controlEff_cfgU (s : State) (i j : Nat) : (controlEff s).cfgU i j = s.cfgU i j := by
  rw [(controlEff_after s).cfgU_eq, State.cfgU, State.cfgU, (periodBegun_now s).2.1]

theorem phaseChain_link (t0 t : Nat) (s : State) (h : (s.link t).up = true) : ((phaseChain t0 t s).link t).up = true := by
  have hs : (phasePeriod t0 t s).links = s.links := (phasePeriod_frame ..).links_eq
  have hp : ((phasePeriod t0 t s).link t).up = true := by rwa [State.link, hs]
  rw [phaseChain]
  generalize phasePeriod t0 t s = v at hp
  rw [edgeFrame]
  dsimp only
  split
  · exact hp
  · rw [State.link, (markCmds_frame ..).links_eq]
    rw [State.sendPaddle]
    split
    · exact hp
    · refine (get_upd_field Link.up (by intro x; rfl) _ t t).trans ?_
      rw [(State.send_frame ..).links_eq]
      exact hp

theorem delayPeriod_m (s : State) : (delayPeriod s).loop.m = s.loop.m := rfl

theorem periodBeside_emits (t0 : Nat) (s : State) : Emits s (periodBeside t0 s) :=
  (((equalisePeriod_frame ..).emits.trans (sendTaps_emits ..)).trans (fwRecords_frame ..).emits).trans
    (periodEnd_emits ..)

/-- Every tray whose link is up has its turn. -/
theorem controlEff_turn {s : State} {t : Nat} (hdrives : (periodBegun s).drives = true)
    (hstep : (periodBegun s).withheld (nextPeriod s) = false) (hvoid : (periodBegun s).voidStages = [])
    (ht : t < Config.trays) (hup : (s.link t).up = true) : ∃ a, Turn t s a (controlEff s) := by
  have hnow : (controlEff s).now = nextPeriod s := (controlEff_after s).now_eq.trans (periodBegun_now s).1
  have hwhole := controlEff_whole hdrives hstep hvoid
  have hplaced := periodPlaced_frame s
  obtain ⟨a, ha, hend⟩ := forTrays_turn (f := phaseChain (nextPeriod s)) ht
    (R := fun u w => KeepsTray t u w ∧ SameOut u w ∧
      SameBut [.tx, .fm, .phases, .tph, .links, .edge, .pair] u w)
    (fun _ => ⟨.refl, .refl, .refl⟩)
    (fun _ _ _ h h' => ⟨h.1.trans h'.1, h.2.1.trans h'.2.1, h.2.2.trans h'.2.2⟩)
    (fun k u hk => ⟨phaseChain_keepsTray hk u, phaseChain_sameOut .., phaseChain_frame ..⟩) (periodPlaced s)
  obtain ⟨hkeep, hout, hframe⟩ := ha
  obtain ⟨hkeep', -, hframe'⟩ := hend
  have hedged : (controlEff s).loop = (delayPeriod (periodEdged s)).loop := by
    rw [hwhole, (periodBeside_frame ..).loop_eq, (periodRest_frame ..).loop_eq]
  have hloop : (periodEdged s).loop = a.loop := by
    rw [hframe.loop_eq, periodEdged]
    exact SameBut.loop_eq (l := [.tx, .fm, .phases, .tph, .links, .edge, .pair]) (.forTrays fun _ _ => phaseChain_frame ..)
  have hlink : a.link t = s.link t := by
    rw [hkeep.link, State.link, State.link, hplaced.links_eq]
  have hrest := periodRest_rested (nextPeriod s) (periodEdged s)
  have hbeside := periodBeside_frame (nextPeriod s) (periodRest (nextPeriod s) (periodEdged s))
  have hup' : ((periodEdged s).link t).up = true := by
    rw [periodEdged, hkeep'.link]
    exact phaseChain_link _ _ _ (by rw [hlink, hup])
  have hphases : (controlEff s).phases = (periodEdged s).phases := by
    rw [hwhole, hbeside.phases_eq, (periodRest_frame ..).phases_eq, (delayPeriod_frame ..).phases_eq]
  have htx : (periodRest (nextPeriod s) (periodEdged s)).tx = (periodEdged s).tx := by
    rw [(periodRest_frame ..).tx_eq, (delayPeriod_frame ..).tx_eq]
  refine ⟨a, ?_, ?_, hlink, ?_, fun i j => ?_, ?_, (periodPlaced_sameOut s).trans hout, ?_, ?_, ?_, fun x hx => ?_, ?_, ?_,
    controlEff_cfgU s⟩
  · rw [hkeep.phs, State.phs, State.phs, hplaced.phases_eq]
  · rw [hkeep.tp, State.tp, State.tp, hplaced.tph_eq]
  · rw [State.tray, hframe.trays_eq]
    exact periodPlaced_seat s ht
  · rw [hframe.cfgU_eq, periodPlaced_cfgU]
  · rw [hframe.hw_eq, hplaced.hw_eq]
  · rw [hnow, State.phs, hphases]
    exact hkeep'.phs
  · rw [hnow, hwhole, State.tp, hbeside.tph_eq]
    exact (hrest.tp t hup').trans hkeep'.tp
  · rw [hnow, hwhole, State.link, hbeside.links_eq, hrest.links]
    exact hkeep'.link
  · rw [hnow] at hx
    rw [hwhole]
    exact (periodBeside_emits ..).sent x (by rw [htx]; exact hkeep'.sent x hx)
  · rw [hedged, ← hloop]
    exact (delayPeriod_law _).vBus
  · rw [hedged, ← hloop]
    exact delayPeriod_m _

end Sys2Proof.Machine
end

section
/-! SUPPORT. Proof: what one control period computes (01_shelf_and_signal_flow.md: One control period, sample to edge;
03_phases_and_edges.md: Phase current and the phase law, Edge generation). -/

namespace Sys2Proof.Machine

set_option Elab.async false

theorem cfgB_of_cfgU {s u : State} (h : ∀ i j, u.cfgU i j = s.cfgU i j) (i j : Nat) : u.cfgB i j = s.cfgB i j := by
  rw [State.cfgB, State.cfgB, State.cfgF, State.cfgF, h]

/-- Two phases of one law: all that the edge engine does not note. -/
structure SameCourse (x y : Phase) : Prop where
  st : x.st = y.st
  r : x.r = y.r
  w : x.w = y.w
  d : x.d = y.d
  i : x.i = y.i
  b : x.b = y.b
  ei : x.ei = y.ei
  lowSide : x.lowSide = y.lowSide
  deOn : x.deOn = y.deOn
  onceOn : x.onceOn = y.onceOn

theorem SameCourse.of_plan {x y : Phase} (h : x.plan = y.plan) : SameCourse x y := by
  have hsame : ∀ {α : Type} (g : Phase → α), g x.plan = g y.plan := fun g => congrArg g h
  exact ⟨hsame Phase.st, hsame Phase.r, hsame Phase.w, hsame Phase.d, hsame Phase.i, hsame Phase.b, hsame Phase.ei,
    hsame Phase.lowSide, hsame Phase.deOn, hsame Phase.onceOn⟩

namespace Turn
variable {s a u : State} {t p : Nat} (h : Turn t s a u)

include h

theorem startPh : a.ph t p = s.ph t p := congrArg (fun l => get Phase.reset l p) h.phs

theorem endPh : u.ph t p = (phaseChain u.now t a).ph t p := congrArg (fun l => get Phase.reset l p) h.endPhs

/-- The phase's law as its manager left it. -/
theorem endCourse : SameCourse (u.ph t p) ((phasePeriod u.now t a).ph t p) := by
  rw [h.endPh]
  exact .of_plan ((edgeFrame_law u.now t (phasePeriod u.now t a)).1 p)

theorem endWeights : (u.phs t).map (·.w) = ((phasePeriod u.now t a).phs t).map (·.w) := by
  rw [h.endPhs]
  exact (edgeFrame_law u.now t (phasePeriod u.now t a)).2.1

theorem endVLink : (u.link t).vLink = (a.link t).vLink := by
  rw [h.endLink]
  refine (edgeFrame_law u.now t (phasePeriod u.now t a)).2.2.1.trans ?_
  rw [State.link, (phasePeriod_frame ..).links_eq]
  rfl

theorem endTrayPh : u.tp t = (phasePeriod u.now t a).tp t := by
  rw [h.endTp]
  exact congrArg (fun l => get TrayPh.reset l t) (edgeFrame_law u.now t (phasePeriod u.now t a)).2.2.2

theorem cfgB (i j : Nat) : a.cfgB i j = s.cfgB i j := cfgB_of_cfgU h.cfgU i j

theorem kDiv : a.kDiv = s.kDiv := h.cfgU _ _

theorem duty : dutyLo a = dutyLo s := by
  rw [dutyLo, dutyLo, h.cfgU, h.cfgU, h.kDiv]

theorem endILim : u.iLim t = a.iLim t := by
  have hend : ∀ i j, u.cfgB i j = a.cfgB i j := fun i j =>
    (cfgB_of_cfgU h.endCfgU i j).trans (h.cfgB i j).symm
  rw [State.iLim, State.iLim, h.endVLink, State.iPhR, State.iPhR, hend]

end Turn

section
variable {s a u : State} {t p : Nat} (h : Turn t s a u) (hup : (s.link t).up = true)
  (hshare : (s.tp t).share = true)

include h hup hshare

/-- A phase in RUN: its reference and its duty (R53, R54, R59). -/
theorem turn_run (hst : (s.ph t p).st = .run) (hfresh : (s.ph t p).fresh = false) (hblend : (s.tp t).blend = 0) :
    (s.cfgU 0x2200 0x07 ≠ 1 → (u.ph t p).st = .run) ∧ ((u.ph t p).st = .run → 0 < u.loop.vBus →
      (u.ph t p).r = (if sumQ ((u.phs t).map (·.w)) = 0 then 0 else
        clampQ (-u.iLim t) (u.iLim t) ((u.tp t).rTray * (u.ph t p).w / sumQ ((u.phs t).map (·.w)))) ∧
      (u.ph t p).d = clampQ (dutyLo s) (1 - dutyLo s) (get 0 u.loop.m t -
        (s.cfgB (0x2100 + t) 0x09 * ((u.ph t p).r - (u.ph t p).i) + (u.tp t).x + (u.ph t p).b) / u.loop.vBus)) := by
  have hlaw := h.endCourse (p := p)
  have hup' : (a.link t).up = true := by rw [h.link, hup]
  have hshare' : (a.tp t).share = true := by rw [h.tp, hshare]
  have hst' : (a.ph t p).st = .run := by rw [h.startPh, hst]
  have hfresh' : (a.ph t p).fresh = false := by rw [h.startPh, hfresh]
  have hblend' : (a.tp t).blend = 0 := by rw [h.tp, hblend]
  rw [hlaw.st, hlaw.r, hlaw.w, hlaw.d, hlaw.i, hlaw.b, h.endWeights, h.endTrayPh, h.endILim, h.endV, h.endM, ← h.duty, ← h.cfgB, ← h.cfgU]
  exact ⟨phasePeriod_run_st hup' hshare' hst', fun hon hv =>
    ⟨phasePeriod_run_r hup' hshare' hst' hblend' hon, phasePeriod_run_d hup' hshare' hst' hfresh' hon hv⟩⟩

/-- A phase in DE: its pulse (R64, R65). -/
theorem turn_de (hst : (s.ph t p).st = .de) : ∃ on,
    on = deOnTime (s.cfgB (0x2100 + t) (0x17 + 8 * p)) (2 * s.kDiv : Nat) ((u.ph t p).r + (u.ph t p).ei)
      (u.ph t p).lowSide (u.link t).vLink u.loop.vBus ∧
    ((u.ph t p).st = .de → 0 < u.loop.vBus →
      ((s.cfgU 0x2200 0x04 : Rat) ≤ on → (u.ph t p).deOn = on ∧ (u.ph t p).onceOn = false) ∧
      (on < (s.cfgU 0x2200 0x04 : Rat) → (u.ph t p).onceOn = true ∧
        ((u.ph t p).deOn = 0 ∨ (u.ph t p).deOn = (s.cfgU 0x2200 0x04 : Rat)) ∧
        ((s.ph t p).onceOn = false → slotIn s.kDiv t p u.now = true →
          (u.ph t p).deOn = (s.cfgU 0x2200 0x04 : Rat)))) := by
  have hlaw := h.endCourse (p := p)
  have hup' : (a.link t).up = true := by rw [h.link, hup]
  have hshare' : (a.tp t).share = true := by rw [h.tp, hshare]
  have hst' : (a.ph t p).st = .de := by rw [h.startPh, hst]
  refine ⟨_, rfl, ?_⟩
  rw [hlaw.st, hlaw.r, hlaw.ei, hlaw.lowSide, hlaw.deOn, hlaw.onceOn, h.endVLink, h.endV, ← h.cfgB, ← h.kDiv, ← h.cfgU, ← h.startPh]
  exact fun hon hv => phasePeriod_de_pulse hup' hshare' hst' hon hv

omit h hup hshare in
/-- The command of a phase in RUN (R58). -/
def runCmd (k t p : Nat) (x : Phase) : EdgeCmd :=
  { kind := .sync, ta := (relEdges k t p (halfSteps k x)).1, tb := (relEdges k t p (halfSteps k x)).2, sync := 0
    once := false }

omit h hup hshare in
theorem wantedCmd_run {k : Nat} {x : Phase} (hst : x.st = .run) : wantedCmd k t p x = some (runCmd k t p x) := by
  rw [wantedCmd]
  dsimp only
  rw [hst]
  rfl

omit h hup hshare in
theorem runCmd_edges {k : Nat} {x : Phase} (hst : x.st = .run) :
    (runCmd k t p x).ta = roundEven ((slotSteps k t p : Rat) - (1 - x.d) * 64 * (k : Rat)) - slotSteps k t p ∧
      (runCmd k t p x).tb = roundEven ((slotSteps k t p : Rat) + (1 - x.d) * 64 * (k : Rat)) - slotSteps k t p := by
  have hhalf : halfSteps k x = (1 - x.d) * 64 * (k : Rat) := if_neg (by rw [hst]; exact nofun)
  rw [runCmd, hhalf]
  exact ⟨rfl, rfl⟩

/-- The command of a phase that stays in RUN, and the frame it leaves in (R58, R60, R61). -/
theorem turn_sends (hdrives : s.drives = true) (hst : (s.ph t p).st = .run) (hon : (u.ph t p).st = .run)
    (hfo : s.fm.faultOut = false) (hrel : s.hw.released = false) (hho : s.pair.handover = none)
    (hpin : (s.tray t).pin = true) (hseat : (s.tray t).st ≠ .pulled) :
    ∃ c, (u.ph t p).cmd = some c ∧ c.kind = .sync ∧ c.once = false ∧
      c.ta = roundEven ((slotSteps s.kDiv t p : Rat) - (1 - (u.ph t p).d) * 64 * (s.kDiv : Rat)) -
        slotSteps s.kDiv t p ∧
      c.tb = roundEven ((slotSteps s.kDiv t p : Rat) + (1 - (u.ph t p).d) * 64 * (s.kDiv : Rat)) -
        slotSteps s.kDiv t p ∧
      ((s.ph t p).cmd ≠ some c → (u.ph t p).cmdAt = u.now / 1000 ∧
        ∃ seq before after, Tx.paddle t (paddleFrame 1 t seq (before ++
          edgeBytes s.kDiv t p (u.now / 1000) (u.now + 900) (u.ph t p).r c ++ after)) ∈ u.tx) := by
  have hlaw := h.endCourse (p := p)
  have hup' : (a.link t).up = true := by rw [h.link, hup]
  have hshare' : (a.tp t).share = true := by rw [h.tp, hshare]
  have hst' : (a.ph t p).st = .run := by rw [h.startPh, hst]
  have hframe := phasePeriod_frame u.now t a
  have hout := h.out.trans (phasePeriod_sameOut u.now t a)
  have hon' : ((phasePeriod u.now t a).ph t p).st = .run := hlaw.st ▸ hon
  obtain ⟨ht, hp, -⟩ := phasePeriod_tray (t0 := u.now) hup' hshare' (p := p) (.inl hst')
  obtain ⟨j, hj⟩ := readyTray_runs (t0 := u.now) hup' hshare' (.inl hst') (.inl hon')
  have hcmd : ((phasePeriod u.now t a).ph t p).cmd = (s.ph t p).cmd := by
    rw [(phasePeriod_plan hup' hshare' (.inl hst')).cmd, hj, ← h.startPh]
    rfl
  have hkDiv : (phasePeriod u.now t a).kDiv = s.kDiv := hframe.kDiv_eq.trans h.kDiv
  have hmay : MaySend t (phasePeriod u.now t a) := by
    refine ⟨?_, hout.faultOut.trans hfo, ?_, hout.handover.trans hho, ?_⟩
    · rw [State.link, hframe.links_eq]
      exact hup'
    · rw [hframe.hw_eq, h.hw, hrel]
    · rw [State.drives, hout.role]
      exact hdrives
  have hkind : kindAllowed (phasePeriod u.now t a) t .sync = true := by
    have hseats : ((phasePeriod u.now t a).tray t).seat = (s.tray t).seat := by
      rw [State.tray, hframe.trays_eq]
      exact h.seat
    have hpin' : ((phasePeriod u.now t a).tray t).pin = true := (congrArg Prod.fst hseats).trans hpin
    have hst'' : ((phasePeriod u.now t a).tray t).st ≠ .pulled := (congrArg Prod.snd hseats).trans_ne hseat
    rw [kindAllowed, hpin', decide_eq_true hst'']
    rfl
  obtain ⟨hend, hnew⟩ := edgeFrame_sends (t0 := u.now) (c := runCmd s.kDiv t p ((phasePeriod u.now t a).ph t p)) hmay ht hp
    (hkDiv ▸ wantedCmd_run hon') rfl hkind
  obtain ⟨hta, htb⟩ := runCmd_edges (t := t) (p := p) (k := s.kDiv) hon'
  refine ⟨runCmd s.kDiv t p ((phasePeriod u.now t a).ph t p), ?_, rfl, rfl, ?_, ?_, fun hne => ?_⟩
  · rw [h.endPh]
    exact hend
  · rw [hlaw.d]
    exact hta
  · rw [hlaw.d]
    exact htb
  · obtain ⟨hat, seq, before, after, hsent⟩ := hnew (hcmd ▸ hne)
    rw [hkDiv] at hsent
    rw [h.endPh]
    refine ⟨hat, seq, before, after, h.endSent _ ?_⟩
    rw [← h.endPh, hlaw.r]
    exact hsent

end

/-- The clock's state and its frequency stand. -/
theorem controlEff_clock (s : State) : (controlEff s).clk.st = s.clk.st ∧ (controlEff s).clk.freq = s.clk.freq := by
  have hdriven : (drivePeriod (nextPeriod s) (periodVoid s) (periodReady (nextPeriod s) (periodVoid s) s)).clk = s.clk := by
    rw [(drivePeriod_frame ..).clk_eq, (periodReady_begun ..).clk_eq]
  rw [controlEff_steps, (periodEnd_emits ..).st, (periodEnd_emits ..).freq, hdriven]
  exact ⟨rfl, rfl⟩

theorem Loop.sample_parts {l : Loop} {b : Rat} {ok : Bool} {t : Option Nat} (h : l.sample = (b, ok, t)) :
    l.vBus = b ∧ l.vOk = ok ∧ l.vAt = t :=
  ⟨congrArg Prod.fst h, congrArg (·.2.1) h, congrArg (·.2.2) h⟩

/-- V_bus of the instant where a reading serves (R23). -/
theorem controlEff_combined {s : State} {b : Rat} (h : combineV ((periodBegun s).usable (nextPeriod s)) = some b) :
    (controlEff s).loop.vBus = b ∧ (controlEff s).loop.vOk = true ∧ (controlEff s).loop.vAt = some (nextPeriod s) := by
  have hsample := controlEff_sample s
  rw [h] at hsample
  exact Loop.sample_parts hsample

/-- V_bus of the instant where none does. -/
theorem controlEff_blind {s : State} (h : combineV ((periodBegun s).usable (nextPeriod s)) = none) :
    (controlEff s).loop.vOk = false ∧ (controlEff s).loop.vBus = (periodBegun s).loop.vBus := by
  have hsample := controlEff_sample s
  rw [h] at hsample
  obtain ⟨hv, hok, -⟩ := Loop.sample_parts hsample
  exact ⟨hok, hv⟩

/-- Settles O50: by the sample, the loop, the shares and each phase's turn of one period. -/
theorem controlPeriodsHold : Obligations.ControlPeriods := by
  have hexec : ∀ s : State, s.running = true → exec .controlPeriod s = .next (controlEff s) := fun s hrun =>
    run_framed (controlEff_frame s) rfl hrun rfl
  have hdrives : ∀ s : State, (periodBegun s).drives = s.drives := fun s => (periodBegun_frame s).drives_eq
  refine ⟨fun s hrun => ?_, fun s hrun hdrive hstep hvoid => ?_, fun s hrun hdrive hstep hvoid => ?_,
    fun s t p hrun hdrive hstep hvoid ht hp hup hst hfresh hshare hblend => ?_,
    fun s t p hrun hdrive hstep hvoid ht hp hup hst hshare => ?_⟩
  · have hs := controlEff_frame s
    have hafter := controlEff_after s
    obtain ⟨hnow, hvalues, hflash⟩ := periodBegun_now s
    obtain ⟨hwhole, hlater⟩ := nextPeriod_whole s
    have hfree := controlEff_sparesFree s
    obtain ⟨hst, hfreq⟩ := controlEff_clock s
    have hnow' : (controlEff s).now = nextPeriod s := hafter.now_eq.trans hnow
    refine ⟨controlEff s, hexec s hrun, hnow', (congrArg (· % 1000) hnow').trans hwhole, hlater.trans_eq hnow'.symm, hs.hw_eq,
      (congrArg Od.values hafter.od_eq).trans hvalues, (congrArg Od.flash hafter.od_eq).trans hflash, hs.rcd_eq,
      hs.gov_eq, hs.gates_eq, hs.ev_eq, hs.sec_eq, fun n hn _ => hfree.slot n hn, hs.dock_eq, hst, hfreq, hfree.ddr,
      fun hdr => ?_, fun hu => ?_, fun x hu => ?_, fun x y hu => ?_, fun l hu hl => ?_⟩
    · obtain ⟨hstill, hest⟩ := controlEff_still hdr
      exact ⟨hstill.phases_eq, hstill.alloc_eq, hstill.tows_eq, hstill.txn_eq, hest⟩
    · exact controlEff_blind (congrArg combineV hu)
    · obtain ⟨hv, hok, -⟩ := controlEff_combined (congrArg combineV hu)
      exact ⟨hok, hv⟩
    · obtain ⟨hv, hok, -⟩ := controlEff_combined (congrArg combineV hu)
      exact ⟨hok, hv⟩
    · obtain ⟨b, hb, hi, hhi, lo, hlo, hin, hmean⟩ := combineV_many l hl
      obtain ⟨hv, hok, hat⟩ := controlEff_combined (hu ▸ hb)
      exact ⟨hok, hat, hi, hhi, lo, hlo, hin, hv.symm ▸ hmean⟩
  · have hb : ingestPeriod (nextPeriod s) [] (periodBegun s) = ingestPeriod (nextPeriod s) [] (periodBegun s) := rfl
    exact ⟨controlEff s, _, hexec s hrun, rfl, controlEff_quiet hdrive hstep hvoid hb,
      controlEff_misses hdrive hstep hvoid hb, controlEff_holds hdrive hstep hvoid hb,
      controlEff_stages hdrive hstep hvoid hb⟩
  · obtain ⟨hout, hin, hdis, hchg⟩ := controlEff_placed hdrive hstep hvoid
    exact ⟨_, hexec s hrun, hout, hin, hdis, hchg⟩
  · obtain ⟨a, hturn⟩ := controlEff_turn hdrive hstep hvoid ht hup
    obtain ⟨hstays, hlaw⟩ := turn_run hturn hup hshare hst hfresh hblend
    refine ⟨_, hexec s hrun, hstays, fun hon hv => ⟨(hlaw hon hv).1, (hlaw hon hv).2, fun hfo hrel hho hpin hseat => ?_⟩⟩
    exact turn_sends hturn hup hshare (hdrives s ▸ hdrive) hst hon hfo hrel hho hpin hseat
  · obtain ⟨a, hturn⟩ := controlEff_turn hdrive hstep hvoid ht hup
    obtain ⟨on, htime, hpulse⟩ := turn_de hturn hup hshare hst
    exact ⟨_, on, hexec s hrun, htime, hpulse⟩

end Sys2Proof.Machine
end
